-- ==== Sys2Proof/Word.lean ====
section
/-! DEFINITION. The machine's word types. Every register is 32 bits wide (R15); wire protocols, flash and host memory
are sequences of bytes (R14). -/

namespace Sys2Proof

/-- A register word (R15). -/
abbrev Word := BitVec 32

/-- One byte of flash, of host memory or of a wire frame (R14). -/
abbrev Byte := BitVec 8

end Sys2Proof
end

