-- ==== Sys2Proof/Syntax.lean ====
section
/-! DEFINITION. The commands of the block and the small types their operands use. -/

namespace Sys2Proof

/-- The clock domains that the sequence of R54 releases one by one. -/
inductive Domain where
  | cfg
  | core
  | time
  | venc
  deriving DecidableEq, Repr

/-- The reference and pixel clocks that R68 watches. -/
inductive RefClk where
  | lref (q : Fin 4)
  | rref
  | pclk (n : Fin 2)
  deriving DecidableEq, Repr

/-- What the receiver of one lane counted since the previous command (R207, R209, R211): invalid headers while locked,
type bytes fixed and bad, SKIP blocks deleted and read twice. -/
structure LinkNote where
  lane : Fin 16
  badHdr : Nat
  fixed : Nat
  bad : Nat
  del : Nat
  ins : Nat
  deriving DecidableEq, Repr

/-- One lane's block of a received ALIGN row (R257, R258): the lane, its skew in block periods, the eight bytes. -/
structure AlignBlk where
  lane : Fin 16
  skew : Nat
  bytes : List Byte
  deriving DecidableEq, Repr

/-- One line at a parallel port (R300-R304): its samples (in WINDOW mode from the `HS` edge on), its pixel clocks, whether
it is active in DE and EMBEDDED, its field bit, the XY bytes of its timing codes, and a SAV without an EAV before it. -/
structure ParLine where
  samples : List Nat
  clocks : Nat
  active : Bool
  field : Bool
  codes : List Byte
  noEav : Bool
  deriving DecidableEq, Repr

/-- The commands of the block: one constructor for each row of spec/opcode_table.json, with the operands that the
row's step takes from outside the machine (an address, a value, the bytes of a packet, a measured count). -/
inductive Instr where
  /-- POR_ASSERT (R71): POR_N goes low and clears every domain, every register, the fuse shadow, CLK_CAUSE and CFG_FAIL. -/
  | porAssert
  /-- POR_RELEASE (R54): POR_N is released: the straps are sampled and the domain release sequence starts with CLK_CFG. -/
  | porRelease (testMode : Bool) (slot : BitVec 5)
  /-- DOMAIN_RESET_RELEASE (R54): A domain's PLL locks or its condition is met, and that domain's reset is released in sequence. -/
  | domainResetRelease (d : Domain) (trefEdges : Nat)
  /-- SUPPLY_DIP (R684): A watched core supply stays below its threshold for 2 µs, and the grabber acts as if POR_N were low. -/
  | supplyDip
  /-- SUPPLY_RETURN (R684): 10 ms after every watched supply is back above its threshold, the internal power-on reset is released. -/
  | supplyReturn (testMode : Bool) (slot : BitVec 5)
  /-- RST_ASSERT (R109): RST_N goes low past its filter: warm reset, and the loader restarts from HEADER, or from FUSE. -/
  | rstAssert
  /-- CFG_WARM_WRITE (R71): A write of the key to CFG_WARM starts a warm reset, as RST_N does. -/
  | cfgWarmWrite (key : Word)
  /-- PERST_ASSERT (R55): PERST_N goes low and resets only the CLK_HOST domain and the HBR state. -/
  | perstAssert
  /-- PERST_RELEASE (R55): PERST_N is released, and CLK_HOST is released within 100 µs. -/
  | perstRelease
  /-- CONFIG_REQUEST (R97): A configuration request is answered with retry status during the CRS period, and normally after it. -/
  | configRequest (addr : BitVec 12) (wr : Option Word)
  /-- FIELD_LINK_LOSS (R28): The die-to-die link fails: the field die makes its outputs safe, and the core die logs the loss and flags positions. -/
  | fieldLinkLoss
  /-- FIELD_LINK_RETURN (R29): The die-to-die link returns: the position channels resume as on re-enable, and the analog outputs stay clamped. -/
  | fieldLinkReturn
  /-- TREF_RETRY (R58): The 10 ms retry timer expires, and the TREF measurement or the PLL 1 lock attempt is repeated. -/
  | trefRetry (trefEdges : Nat) (locked : Bool)
  /-- PLL1_LOCK_TIMEOUT (R732): In expert use, PLL 1 has not locked within 2 ms of an attempt, so the time domains stay in reset. -/
  | pll1LockTimeout
  /-- VENCEN_WRITE (R59): A write of CLK_VENCEN.EN starts PLL 3 and releases CLK_VENC, or asserts its reset. -/
  | vencenWrite (v : Word)
  /-- CLK_PLL_WRITE (R61): An expert write to CLK_PLL[p] is stored for the next domain release, or refused outside the VCO range. -/
  | clkPllWrite (p : Fin 4) (v : Word)
  /-- TREF_LOST (R62): No TREF edge arrives for 500 ns: CLK_LOSS.TREF is set and PLL 1 enters holdover. -/
  | trefLost
  /-- TREF_RESTORED (R64): TREF has been present for 10 ms and PLL 1 starts steering back to lock. -/
  | trefRestored
  /-- PLL1_STEER_DONE (R64): The frequency steering ends, and PLL 1 reports lock and leaves holdover. -/
  | pll1SteerDone
  /-- SYSREF_LOSS (R65): SYSREF shows no edge for 1 µs, so every domain except CLK_HOST is reset. -/
  | sysrefLoss
  /-- CORE_PLL_UNLOCK (R65): PLL 0 loses lock, so every domain except CLK_HOST is reset. -/
  | corePllUnlock
  /-- INTERNAL_RESTART (R66): SYSREF has been present for 1 ms, and the grabber repeats the domain release and runs the loader. -/
  | internalRestart
  /-- REF_CLOCK_LOST (R68): A watched LREF, RREF or pixel clock shows no edge for 2 µs: the loss is set, the alarm fires and the error is logged. -/
  | refClockLost (r : RefClk)
  /-- VENC_PLL_UNLOCK (R69): PLL 3 loses lock, and CLK_VENC is reset and restarted. -/
  | vencPllUnlock
  /-- TIME_PLL_UNLOCK (R69): PLL 1 loses lock while TREF is present, and holdover starts. -/
  | timePllUnlock
  /-- TIME_LOCK_TIMEOUT (R69): PLL 1 has not relocked within 10 ms, so the time domains are reset. -/
  | timeLockTimeout
  /-- CLK_RST_WRITE (R70): A write of CLK_RST resets or releases lane quads, ring ports, parallel ports, VENC or, in STANDBY or SERVICE, the time domains. -/
  | clkRstWrite (v : Word)
  /-- UNIT_RESET (R73): A write of CFG_URST starts a reset of the named unit, refused outside STANDBY and SERVICE. -/
  | unitReset (v : Word)
  /-- UNIT_RESET_DONE (R73): A unit reset ends, and its CFG_URST bit reads 0. -/
  | unitResetDone (u : Fin 14)
  /-- LOADER_FUSE_DONE (R74): The fuse shadow has been read, and the loader moves to HEADER, or to SAFE on a parity error. -/
  | loaderFuseDone
  /-- LOADER_HEADER_DONE (R85): The slot header has been read and checked, and the flash speed has been switched. -/
  | loaderHeaderDone (hdr : List Byte)
  /-- LOADER_VERIFY_DONE (R88): The image has been streamed, with its CRC, signature, rollback and record walk checked. -/
  | loaderVerifyDone (img : List Byte)
  /-- LOADER_CLOCKS_LOCKED (R91): The CLK records have been applied and the affected PLLs have locked, so APPLY starts. -/
  | loaderClocksLocked
  /-- LOADER_CLOCKS_TIMEOUT (R74): A PLL fails to lock within 2 ms in CLOCKS, which is an apply abort with reason CLOCKS. -/
  | loaderClocksTimeout
  /-- RECORD_NOP (R87): A NOP record is taken and does nothing. -/
  | recordNop (ty : Byte) (required : Bool)
  /-- RECORD_REGWRITE (R87): A REGWRITE record writes a register, masked or whole. -/
  | recordRegwrite (required : Bool) (addr value mask : Word)
  /-- RECORD_REGBLOCK (R87): A REGBLOCK record writes consecutive registers. -/
  | recordRegblock (required : Bool) (addr : Word) (data : List Word)
  /-- RECORD_BASIC (R87): A BASIC record clears EXPERT and writes offset-value pairs to a unit instance or to all of them. -/
  | recordBasic (required : Bool) (unit inst : Byte) (pairs : List (Word × Word))
  /-- RECORD_TABLE (R87): A TABLE record writes data into a unit table from START on. -/
  | recordTable (required : Bool) (unit table inst : Byte) (start : Word) (data : List Word)
  /-- RECORD_WAIT (R87): A WAIT record starts a wait of the given microseconds. -/
  | recordWait (us : Nat)
  /-- WAIT_EXPIRY (R87): The WAIT time ends, and the loader takes the next record. -/
  | waitExpiry
  /-- RECORD_POLL (R87): A POLL record starts reading a register until it matches or times out. -/
  | recordPoll (required : Bool) (addr mask value : Word) (timeout : Nat)
  /-- POLL_RETRY (R87): The 1 µs poll interval expires and the register is read and compared again. -/
  | pollRetry
  /-- POLL_TIMEOUT (R92): A POLL times out, is counted, and either continues or, when REQUIRED, aborts the apply. -/
  | pollTimeout
  /-- LOADER_APPLY_DONE (R93): The last record has been applied and the re-read CRC has been checked. -/
  | loaderApplyDone (img : List Byte)
  /-- RING_PORT_RELEASE (R99): 20 ms after POR_N release, the loader releases the ring port resets to repeat at the physical level. -/
  | ringPortRelease
  /-- LOADER_ENTER (R94): The loader requests the mode named by the MODE record, and then sets DONE and fires CFG_DONE. -/
  | loaderEnter
  /-- CFG_FSPEED_WRITE (R102): A write of CFG_FSPEED sets the flash speed in SERVICE, and is refused elsewhere. -/
  | cfgFspeedWrite (v : Word)
  /-- FLASH_UNLOCK (R104): A write of the key to CFG_FUNLOCK unlocks the flash commands in SERVICE. -/
  | flashUnlock (key : Word)
  /-- FLASH_READ (R106): The READ command reads up to 256 bytes within a page into CFG_FBUF. -/
  | flashRead
  /-- FLASH_PROGRAM (R105): The PROGRAM command programs a page from CFG_FBUF. -/
  | flashProgram
  /-- FLASH_ERASE4K (R105): The ERASE4K command erases a 4 KiB sector. -/
  | flashErase4k
  /-- FLASH_ERASE64K (R105): The ERASE64K command erases a 64 KiB sector. -/
  | flashErase64k
  /-- FLASH_VERIFYA (R85): The VERIFYA command runs the header and verify checks on slot A without applying anything. -/
  | flashVerifya
  /-- FLASH_VERIFYB (R85): The VERIFYB command runs the header and verify checks on slot B without applying anything. -/
  | flashVerifyb
  /-- FLASH_RELOAD (R109): The RELOAD command restarts the loader as CFG_WARM does. -/
  | flashReload
  /-- FLASH_FLOOR (R107): The FLOOR command burns the rollback floor, subject to its limits and VPP_FUSE. -/
  | flashFloor (vpp : Bool)
  /-- FLASH_KEYHASH (R107): The KEYHASH command burns the key hash on an open device. -/
  | flashKeyhash (vpp : Bool)
  /-- FLASH_CMD_DONE (R105): A flash command, including the flash's own program or erase time, ends and BUSY clears. -/
  | flashCmdDone (data : List Byte) (failed : Bool)
  /-- MODE_REQUEST_WRITE (R116): A write of GLB_MODE requests a mode, which is accepted along the allowed paths or refused. -/
  | modeRequestWrite (v : Word)
  /-- DRAIN_COMPLETE (R119): Every active stream reaches its boundary, and the controller enters ENTER with target STANDBY. -/
  | drainComplete
  /-- DRAIN_TIMEOUT (R121): The drain timer expires, and every item in progress is truncated. -/
  | drainTimeout
  /-- DRAIN_FORCE (R132): A write of GLB_DRAIN.FORCE in DRAIN expires the drain timer at once. -/
  | drainForce (v : Word)
  /-- MODE_ENTER_DONE (R117): A mode takes effect: machinery armed, outputs safe or live, streams opened or held, GLB_MODECHG fired. -/
  | modeEnterDone
  /-- REGISTER_WRITE (R16): A write to a register without behaviour of its own acts by its access codes, with the absent and expert-drop checks. -/
  | registerWrite (bar2 : Bool) (addr : BitVec 26) (data : List (Word × BitVec 4)) (poisoned : Bool)
  /-- BASIC_WRITE (R145): A write to an RWB field at the basic level starts a re-derivation of the unit's RWX fields. -/
  | basicWrite (addr : BitVec 26) (v : Word)
  /-- REDERIVE_DONE (R157): A re-derivation ends, and a further one starts if basic writes arrived meanwhile. -/
  | rederiveDone (u : Fin 18)
  /-- EXPERT_SET (R148): A write of UNIT_LEVEL.EXPERT = 1 keeps the derived values and moves the unit to the expert level. -/
  | expertSet (u : Fin 18)
  /-- EXPERT_CLEAR (R149): A write of UNIT_LEVEL.EXPERT = 0 re-derives every RWX field and drops the expert values. -/
  | expertClear (u : Fin 18)
  /-- TIM_SEC_READ (R160): A read of the low word of TIM_SEC latches the high word, TIM_NS and TIM_FRAC. -/
  | timSecRead
  /-- STEP_GO (R199): A write of TIM_STEPCMD.GO at the expert level requests a step and stops the servo. -/
  | stepGo (v : Word)
  /-- FREQ_LOAD_GO (R171): A write of TIM_STEPCMD.FLOAD at the expert level requests a frequency load and stops the servo. -/
  | freqLoadGo (v : Word)
  /-- STEP_APPLY (R167): A requested step is applied on one tick, or refused, and every time reader moves with it. -/
  | stepApply
  /-- FREQ_LOAD_APPLY (R171): A requested frequency load sets TIM_APPLIED in one change, or is refused. -/
  | freqLoadApply
  /-- TIME_REARM (R169): A write of TIM_CTRL.REARM arms a step and a load and sets UNSET, refused in capture modes. -/
  | timeRearm (v : Word)
  /-- ADJ_WRITE (R170): A write of TIM_ADJ sets a new target rate and starts a slew, and stops the servo at the expert level. -/
  | adjWrite (v : Word)
  /-- RATE_SLEW_STEP (R170): Each 1 µs slew interval expires and TIM_APPLIED moves toward the target. -/
  | rateSlewStep
  /-- COMPARE_FIRE (R172): The time base reaches a compare's time, and the compare fires and advances or disables. -/
  | compareFire (k : Fin 8)
  /-- CAPTURE_SEC_READ (R174): A read of TIM_CAPT[k].SECLO clears VALID. -/
  | captureSecRead (k : Fin 8)
  /-- PPS_SECOND (R175): The nanoseconds pass 0: TIM_PPS fires and PPS_OUT pulses when allowed. -/
  | ppsSecond
  /-- PPS_OUT_END (R175): The PPS_OUT pulse width expires and the pin returns low. -/
  | ppsOutEnd
  /-- PPS_IN_EDGE (R176): An active edge of PPS_IN is timestamped and fires TIM_PPSIN, or is ignored as noise. -/
  | ppsInEdge (rising : Bool) (stamp : Nat)
  /-- PPS_IN_TIMEOUT (R201): A PPS master has seen no PPS_IN edge for 2 s and enters HOLDOVER. -/
  | ppsInTimeout
  /-- SYNC_RECEIVED (R182): A slave takes a Sync from the best master as a sample, or waits for its Follow_Up. -/
  | syncReceived (p : Fin 2) (f : List Byte) (stamp : Nat)
  /-- FOLLOW_UP_RECEIVED (R182): A Follow_Up completes a two-step sample. -/
  | followUpReceived (p : Fin 2) (f : List Byte)
  /-- DELAY_REQ_RECEIVED (R182): A master answers a Delay_Req with a Delay_Resp in E2E. -/
  | delayReqReceived (p : Fin 2) (f : List Byte) (stamp : Nat)
  /-- DELAY_RESP_RECEIVED (R188): A Delay_Resp completes an E2E path-delay measurement. -/
  | delayRespReceived (p : Fin 2) (f : List Byte)
  /-- PDELAY_REQ_RECEIVED (R182): A Pdelay_Req is answered with a Pdelay_Resp and, when two-step, its follow-up. -/
  | pdelayReqReceived (p : Fin 2) (f : List Byte) (stamp tx : Nat)
  /-- PDELAY_RESP_RECEIVED (R188): A Pdelay_Resp or its follow-up completes a link-delay measurement. -/
  | pdelayRespReceived (p : Fin 2) (f : List Byte) (stamp : Nat) (followUp : Bool)
  /-- ANNOUNCE_RECEIVED (R186): An Announce updates the foreign masters and reruns master selection, within the rate limit. -/
  | announceReceived (p : Fin 2) (f : List Byte)
  /-- FOREIGN_MASTER_TIMEOUT (R186): A foreign master is dropped after three Announce intervals without an Announce. -/
  | foreignMasterTimeout (k : Fin 4)
  /-- SYNC_INTERVAL (R182): A master's Sync interval expires and it sends Sync, with Follow_Up when two-step. -/
  | syncInterval (t0 t1 : Nat)
  /-- ANNOUNCE_INTERVAL (R182): A master's Announce interval expires and it sends Announce. -/
  | announceInterval
  /-- DELAY_REQ_INTERVAL (R182): A slave's Delay_Req interval expires and it sends Delay_Req in E2E. -/
  | delayReqInterval (stamp : Nat)
  /-- PDELAY_INTERVAL (R188): The interval expires and a port sends Pdelay_Req in P2P. -/
  | pdelayInterval (p : Fin 2) (stamp : Nat)
  /-- SYNC_TIMEOUT (R165): A slave has had no sample for SYNCTO intervals and enters HOLDOVER. -/
  | syncTimeout
  /-- HOLDOVER_TRUST_EXPIRY (R166): HOLDOVER has lasted HOLDS seconds, and tags start to carry TIMEUNSYNC. -/
  | holdoverTrustExpiry
  /-- TIM_CONFIG_APPLY (R197): A written TIM_ROLE or TIM_PTPCFG takes effect at the next sample interval boundary. -/
  | timConfigApply
  /-- RAW_POP (R196): A write of TIM_RAWPOP removes the head raw record. -/
  | rawPop
  /-- TRAIN_RECEIVED (R216): A TRAIN block is received, checked and used by the lane's training exchange. -/
  | trainReceived (n : Fin 16) (b : List Byte) (inverted : Bool) (note : LinkNote)
  /-- BLOCK_LOCK_LOST (R225): A lane in LINKED or QUIET loses block lock and goes to REJOIN or DETECT. -/
  | blockLockLost (n : Fin 16) (note : LinkNote)
  /-- EB_SLIP (R213): The elastic buffer fill reaches 32 or 0 and returns to 16, with damage passed up. -/
  | ebSlip (n : Fin 16) (isOver inPacket : Bool)
  /-- TRAIN_TIMEOUT (R215): A training state's timeout expires and the lane fails to BACKOFF. -/
  | trainTimeout (n : Fin 16) (lock : Bool)
  /-- RATE_SWITCH_DONE (R219): The SPEED switch ends and the lane starts EQUALIZE at the new rate. -/
  | rateSwitchDone (n : Fin 16)
  /-- PRESET_TRIAL_DONE (R223): A preset's adaptation and measurement time ends in AUTO equalisation. -/
  | presetTrialDone (n : Fin 16) (opening : Nat) (ctle : BitVec 4) (dfe1 dfe2 dfe3 : BitVec 6)
  /-- BACKOFF_END (R226): The back-off time ends and the lane enters DETECT. -/
  | backoffEnd (n : Fin 16)
  /-- BACKOFF_EARLY_EXIT (R227): After a NOPARTNER failure, 1 ms of signal energy ends the back-off early. -/
  | backoffEarlyExit (n : Fin 16)
  /-- LPI_RECEIVED (R230): LPI blocks put the up-link in QUIET, or complete a DEEP handshake. -/
  | lpiReceived (n : Fin 16) (deepReq deepAck : Bool)
  /-- QUIET_IDLE_TIMEOUT (R231): The down-link has been idle for QUIETIDLE µs and enters QUIET. -/
  | quietIdleTimeout (n : Fin 16)
  /-- DEEP_REQUEST (R232): A write of LNP_LPCTL.DEEP requests DEEP. -/
  | deepRequest (n : Fin 16) (v : Word)
  /-- WAKE_REQUEST (R233): A write of LNP_LPCTL.WAKE wakes the lane from DEEP. -/
  | wakeRequest (n : Fin 16) (v : Word)
  /-- WAKE_ENERGY (R233): Signal energy, or a queued down-link packet, wakes a lane in DEEP. -/
  | wakeEnergy (n : Fin 16)
  /-- MARGIN_MEASURE (R235): The monitor period expires and the eye openings are measured and compared with the thresholds. -/
  | marginMeasure (n : Fin 16) (ho vo : Byte)
  /-- MARGIN_REBASE (R236): A write of LNP_CTL.REBASE makes the next measurement the baseline. -/
  | marginRebase (n : Fin 16) (v : Word)
  /-- SWEEP_START (R238): A write of LNP_ESCTL.START starts an eye-scan sweep in SERVICE. -/
  | sweepStart (n : Fin 16) (v : Word)
  /-- SWEEP_ABORT (R238): A write of LNP_ESCTL.ABORT stops the sweep. -/
  | sweepAbort (n : Fin 16) (counts : List Nat)
  /-- SWEEP_DONE (R238): The last sweep point is stored and DONE is set. -/
  | sweepDone (n : Fin 16) (counts : List Nat)
  /-- ESDATA_READ (R238): A read of LNP_ESDATA returns a result word and advances LNP_ESIDX. -/
  | esdataRead (n : Fin 16)
  /-- LOOPBACK_WRITE (R240): A write of LNP_LOOP.MODE starts or ends a loopback, accepted only in SERVICE. -/
  | loopbackWrite (n : Fin 16) (v : Word)
  /-- INJECT_HDR (R242): LNP_INJ.HDR sends the next block with an invalid header. -/
  | injectHdr (n : Fin 16)
  /-- INJECT_BIT (R242): LNP_INJ.BIT inverts payload bit 0 of the next data block. -/
  | injectBit (n : Fin 16)
  /-- INJECT_TYPE2 (R242): LNP_INJ.TYPE2 inverts two type bits of the next IDLE. -/
  | injectType2 (n : Fin 16)
  /-- INJECT_TRAINCRC (R242): LNP_INJ.TRAINCRC inverts CHECK in the next TRAIN. -/
  | injectTraincrc (n : Fin 16)
  /-- INJECT_SKIPGAP (R242): LNP_INJ.SKIPGAP sends 4,096 blocks without SKIP. -/
  | injectSkipgap (n : Fin 16)
  /-- RATEMAX_WRITE (R244): A write of LNP_CFG.RATEMAX starts, stops or retrains the lane. -/
  | ratemaxWrite (n : Fin 16) (v : Word)
  /-- RETRAIN (R245): A write of LNP_CTL.RETRAIN sends the lane to DETECT without counting a failure. -/
  | retrain (n : Fin 16) (v : Word)
  /-- TXFIR_WRITE (R247): An expert write of the transmit taps is applied, or refused when they do not sum to 64. -/
  | txfirWrite (n : Fin 16) (v : Word)
  /-- ALIGN_RECEIVED (R258): An ALIGN row deskews lanes and carries the partner's TXSET, RXOK and frame boundary. -/
  | alignReceived (g : Fin 16) (row : List AlignBlk)
  /-- GROUP_FORM_TIMEOUT (R261): After 8 ms in FORMING with at least one lane deskewed, the group enters LINKED. -/
  | groupFormTimeout (g : Fin 16)
  /-- ACK_RECEIVED (R278): An ACK frees acknowledged packets, or is ignored as stale. -/
  | ackReceived (g : Fin 16) (p : List Byte)
  /-- NAK_RECEIVED (R278): A NAK acknowledges and starts a replay, delayed when BUSY. -/
  | nakReceived (g : Fin 16) (p : List Byte)
  /-- BUSY_REPLAY_WAIT (R279): The 10 µs wait after a BUSY NAK ends and the replay is sent. -/
  | busyReplayWait (g : Fin 16)
  /-- REPLAY_TIMEOUT (R279): CLP_RTO passes without an acknowledgement, and every unacknowledged packet is sent again. -/
  | replayTimeout (g : Fin 16)
  /-- DISCOVERY_TIMEOUT (R280): 1,000 ms pass in LINKED without a valid DISC_REQ, and the link is declared failed. -/
  | discoveryTimeout (g : Fin 16)
  /-- ACK_DELAY_TIMEOUT (R277): ACKDLY expires after an unacknowledged acceptance, and an ACK is sent. -/
  | ackDelayTimeout (g : Fin 16)
  /-- DISC_REQ_RECEIVED (R263): A valid DISC_REQ is answered with DISC_RSP and the group enters DISCOVERED, or a camera restart is handled. -/
  | discReqReceived (g : Fin 16) (p : List Byte)
  /-- ECHO_RECEIVED (R286): An ECHO updates CLP_LINKDLY, or is discarded when late or unknown. -/
  | echoReceived (g : Fin 16) (p : List Byte)
  /-- CTRL_RSP_RECEIVED (R287): A CTRL_RSP with the matching tag completes the mailbox request. -/
  | ctrlRspReceived (g : Fin 16) (p : List Byte)
  /-- CLP_EVENT_RECEIVED (R289): A camera EVENT fires CLP_EVT and may create an EVENT item. -/
  | clpEventReceived (g : Fin 16) (p : List Byte)
  /-- FRAME_START_RECEIVED (R274): A FRAME_START opens a frame, fills its exposure fields and frees the trigger consumer. -/
  | frameStartReceived (g : Fin 16) (p : List Byte)
  /-- PIXEL_RECEIVED (R272): A PIXEL packet is written at its offset, gap-filled or discarded, with its counter checked. -/
  | pixelReceived (g : Fin 16) (p : List Byte)
  /-- FRAME_END_RECEIVED (R273): A FRAME_END closes the frame with its DAMAGE and LINES_MISSING. -/
  | frameEndReceived (g : Fin 16) (p : List Byte)
  /-- DOWNLINK_TX_SELECT (R281): The down-link becomes free and the next packet is chosen by priority and sent. -/
  | downlinkTxSelect (g : Fin 16)
  /-- TRIGGER_TIMEOUT (R283): TRIGTO expires without a matching FRAME_START, and the trigger is counted as dropped. -/
  | triggerTimeout (st : Fin 64)
  /-- TIME_PERIOD (R285): The TIME period expires and a TIME packet is queued. -/
  | timePeriod
  /-- PING_PERIOD (R286): The PING interval expires and a PING is sent. -/
  | pingPeriod
  /-- MAILBOX_GO (R287): A write of CLP_CCCTL.GO sends a CTRL_REQ, or completes with NOTLINKED. -/
  | mailboxGo (g : Fin 16) (v : Word)
  /-- MAILBOX_TIMEOUT (R287): CLP_CCTO expires and BUSY clears with STATUS TIMEOUT. -/
  | mailboxTimeout (g : Fin 16)
  /-- FRAME_TIMEOUT (R295): No packet of an open frame arrives for FTO ms, and the frame is truncated. -/
  | frameTimeout (st : Fin 64)
  /-- CLP_STREAM_WRITE (R290): A write of CLP_STREAM enables a stream, or is refused when PAR already sources it. -/
  | clpStreamWrite (st : Fin 64) (v : Word)
  /-- PAR_FRAME_START (R305): A frame start on a parallel port opens a frame, closes a short one or is discarded when joined mid-way. -/
  | parFrameStart (n : Fin 2)
  /-- PAR_LINE_END (R307): A parallel line ends and is padded or cut, counted as damage and checked for sync loss. -/
  | parLineEnd (n : Fin 2) (line : ParLine)
  /-- PAR_LINE_TIMEOUT (R306): No line start comes for LINETO µs in FRAME, which is a sync loss. -/
  | parLineTimeout (n : Fin 2)
  /-- PAR_FRAME_TIMEOUT (R306): No frame start comes for FRAMETO ms in GAP, which is a sync loss. -/
  | parFrameTimeout (n : Fin 2)
  /-- PAR_EXP_EDGE (R316): An edge of PARn_EXP is timestamped for the exposure fields. -/
  | parExpEdge (n : Fin 2) (high : Bool)
  /-- PAR_TRIGGER_TIMEOUT (R313): No frame start matches the stored trigger within TRIGTO ms. -/
  | parTriggerTimeout (n : Fin 2)
  /-- PAR_STREAM_WRITE (R310): A write of PAR_STREAM.EN starts the port, or is refused on a conflict. -/
  | parStreamWrite (n : Fin 2) (v : Word)
  /-- PIX_SRC_WRITE (R322): A write of PIX_SRC assigns a stream to a pipe, or is refused on a conflict. -/
  | pixSrcWrite (p : Fin 4) (v : Word)
  /-- PIPE_FRAME_START (R339): A frame start latches the pipe's parameter set and opens the frame, or refuses it. -/
  | pipeFrameStart (p : Fin 4)
  /-- PIPE_INPUT_LINE (R343): An input line enters the pipe and output lines are emitted. -/
  | pipeInputLine (p : Fin 4) (cut : Option Nat)
  /-- PIPE_INPUT_END (R342): The last input line arrives, or the source ends the frame, and the pipe enters FLUSH. -/
  | pipeInputEnd (p : Fin 4)
  /-- PIPE_FLUSH_DONE (R342): The last tag of the frame is handed to QUE, statistics are banked and PIX_EOF fires. -/
  | pipeFlushDone (p : Fin 4)
  /-- PIX_TABLE_WRITE (R340): A write to table 0 or 1 is accepted in OFF or WAIT, and refused otherwise. -/
  | pixTableWrite (p : Fin 4) (tbl : Fin 2) (k : BitVec 16) (v : Word)
  /-- PIX_BIST_START (R352): A write of PIX_BIST.START starts the pipe self test in SERVICE. -/
  | pixBistStart (p : Fin 4) (v : Word)
  /-- PIX_BIST_DONE (R352): The pipe self test ends or aborts, and the tables are restored. -/
  | pixBistDone (p : Fin 4) (fail : Option Nat)
  /-- POS_TRANSITION (R358): A transition on a count input is counted, timestamped, checked and recorded. -/
  | posTransition (n : Fin 8) (a b z : Bool)
  /-- POS_INDEX (R367): A qualified index sets, latches or counts as IDXMODE selects. -/
  | posIndex (n : Fin 8) (a b z : Bool)
  /-- WIRE_DISAGREE (R366): Both lines of a pair lie on one side of the window for DISWIN cycles, so the input freezes and the reference is cleared. -/
  | wireDisagree (n : Fin 8) (k : Fin 3)
  /-- WIRE_DISAGREE_END (R366): The pair has been complementary for DISWIN cycles, and the disagree ends. -/
  | wireDisagreeEnd (n : Fin 8) (k : Fin 3)
  /-- POS_ARM (R367): A write of POS_CTL.ARM sets ARMED on an enabled channel. -/
  | posArm (n : Fin 8)
  /-- POS_DISARM (R367): A write of POS_CTL.DISARM clears ARMED. -/
  | posDisarm (n : Fin 8)
  /-- POS_LOAD (R362): A write of POS_CTL.LOAD sets the counter from POS_CNTSET. -/
  | posLoad (n : Fin 8)
  /-- POS_REFSET (R369): A write of POS_CTL.REFSET sets REFOK when REFSRC is SOFT. -/
  | posRefset (n : Fin 8)
  /-- POS_LATCH_CMD (R385): A write of POS_CTL.LATCH, or a beat at POS_LATCH, latches the counter and the time. -/
  | posLatchCmd (n : Fin 8)
  /-- POS_CNT_READ (R363): A read of POS_CNTLO latches POS_CNTHI. -/
  | posCntRead (n : Fin 8)
  /-- POS_LATCH_TIME_READ (R383): A read of the latch time high word clears VALID. -/
  | posLatchTimeRead (probe : Bool) (k : Fin 8)
  /-- POS_CFG_WRITE (R390): A write of POS_CFG enables, disables or reconfigures a channel, or is refused. -/
  | posCfgWrite (n : Fin 8) (v : Word)
  /-- POS_TAG_EVAL (R375): Once the midpoint plus 100 ns has passed, POS_A and POS_B are evaluated from the history. -/
  | posTagEval (st : Fin 64)
  /-- SPEED_SLOT (R377): The slot period expires and a speed slot is stored. -/
  | speedSlot (n : Fin 8)
  /-- POS_STILL_TIMEOUT (R377): STILL ms pass without an edge, so the speed is 0 and STILL is set. -/
  | posStillTimeout (n : Fin 8)
  /-- SSI_POLL (R380): The poll interval or a POS_SSIREQ event starts an SSI transaction after the pause. -/
  | ssiPoll (n : Fin 8)
  /-- SSI_FRAME_DONE (R381): An SSI transaction ends and its frame is taken as valid or invalid. -/
  | ssiFrameDone (n : Fin 8) (data : BitVec 48) (status : BitVec 7) (parity trail returned : Bool)
  /-- PROBE_EDGE (R383): A filtered probe edge latches a channel's counter and time, and may home it. -/
  | probeEdge (k : Fin 8) (rising : Bool)
  /-- WHEEL_TOOTH (R398): A tooth edge is accepted or rejected and drives wheel tracking, gap checks and angle entries. -/
  | wheelTooth (w : Fin 4)
  /-- SYNTHETIC_TOOTH (R398): MISSR × P passes without an edge, and a synthetic tooth is inserted. -/
  | syntheticTooth (w : Fin 4)
  /-- WHEEL_GAP_TIMEOUT (R398): No edge arrives by GAPHI × P after the last tooth, which is a sync error. -/
  | wheelGapTimeout (w : Fin 4)
  /-- WHEEL_STALL (R400): STALL ms pass without an accepted edge, and the wheel enters NOSYNC. -/
  | wheelStall (w : Fin 4)
  /-- TWS_WCFG_WRITE (R422): A write of TWS_WCFG enables or configures a wheel, or is refused. -/
  | twsWcfgWrite (w : Fin 4) (v : Word)
  /-- ANGLE_TAG_EVAL (R402): The ANGLE of a tag is written from the tooth ring, waiting for a tooth after the midpoint. -/
  | angleTagEval (st : Fin 64) (due : Bool)
  /-- TIME_ENTRY_DUE (R406): A TIME entry's next instant falls due. -/
  | timeEntryDue (e : Fin 64)
  /-- SCHED_FIRE (R405): The tick holding a pending fire instant arrives and TWS_FIRE fires with its flags. -/
  | schedFire (e : Fin 64)
  /-- ENTRY_CTL_WRITE (R412): A write of an entry's CTL applies the staged words and cancels pending instants. -/
  | entryCtlWrite (e : Fin 64) (v : Word)
  /-- LINE_FIRE (R417): A line instant arrives: TWS_LTICK and, on block boundaries, TWS_LINE fire, or the line is dropped. -/
  | lineFire
  /-- BEAT_EVENT (R430): A producer event is carried on its beats to every consumer that selects them. -/
  | beatEvent (pin : Option (Fin 9 × Bool))
  /-- HELD_EVENT_ACCEPT (R438): A busy consumer becomes idle and accepts its held event. -/
  | heldEventAccept (i : Fin 512)
  /-- SOFT_FIRE (R443): A write of BTM_FIRE fires the selected beats once. -/
  | softFire (k : Fin 8) (v : Word)
  /-- CSEL_WRITE (R441): A write of BTM_CSEL changes a consumer's selection and may discard a held event. -/
  | cselWrite (i : Fin 512) (v : Word)
  /-- BEAT_SRC_WRITE (R442): A write of BTM_BEAT changes a beat's producer within 4 cycles. -/
  | beatSrcWrite (b : Fin 256) (v : Word)
  /-- CELL_WRITE (R452): A write of a chime cell's word 0 enables it and re-initialises its state, or changes its settings. -/
  | cellWrite (c : Fin 32) (v : Word)
  /-- CHIME_FILTER_EXPIRY (R449): A chime cell's GLITCH or STRETCH count of N units ends and the filtered level changes. -/
  | chimeFilterExpiry (c : Fin 32)
  /-- TRIG_PULSE_END (R463): A trigger output's trailing edge passes and the output becomes idle. -/
  | trigPulseEnd (n : Fin 16)
  /-- STROBE_PULSE_END (R465): A strobe's trailing edge passes and the strobe becomes idle. -/
  | strobePulseEnd (k : Fin 8)
  /-- GUARD_TRIP (R467): The guard level reaches CAP: the pin is cut and the strobe suppressed. -/
  | guardTrip (k : Fin 8)
  /-- GUARD_CLEAR (R467): The guard level falls to CAP / 2 and TRIP clears. -/
  | guardClear (k : Fin 8)
  /-- DLL_UNLOCK (R462): The output delay-locked loop loses lock and edges fall back to the 2 ns grid. -/
  | dllUnlock
  /-- DLL_LOCK (R462): The output delay-locked loop locks and fine placement resumes. -/
  | dllLock
  /-- AENA_WRITE (R470): A write of OUT_AENA clears the clamp latch and sets the analog enables. -/
  | aenaWrite (v : Word)
  /-- ARNG_WRITE (R471): A write of OUT_ARNG sets a range and a code, starting HOLDOFF on a range change. -/
  | arngWrite (a : Fin 4) (v : Word)
  /-- AVAL_WRITE (R472): A write of OUT_AVAL stages a code, copied to the output when UPD is WRITE. -/
  | avalWrite (a : Fin 4) (v : Word)
  /-- HOLDOFF_END (R469): HOLDOFF lasts 40 µs and the output enters CONNECT. -/
  | holdoffEnd (a : Fin 4)
  /-- CONNECT_END (R469): CONNECT lasts 10 µs, the switch closes and the output drives. -/
  | connectEnd (a : Fin 4)
  /-- DISCHARGE_END (R469): The 30 µs discharge path opens again after the switch has opened. -/
  | dischargeEnd (a : Fin 4)
  /-- AOUT_FAULT (R473): An overload or a loss of compliance lasting 1 ms is reported. -/
  | aoutFault (a : Fin 4) (compliance : Bool)
  /-- AOUT_FAULT_CLEAR (R473): The fault has been absent for 1 ms and its bit clears. -/
  | aoutFaultClear (a : Fin 4) (compliance : Bool)
  /-- DOORBELL_WRITE (R494): A doorbell write sets PI, or is refused and pauses the queue. -/
  | doorbellWrite (q : Fin 16384) (v : Word)
  /-- QUEUE_ENABLE (R515): The ENABLE command checks the context and moves the queue to ACTIVE. -/
  | queueEnable (q : Fin 16384)
  /-- QUEUE_PAUSE (R514): The PAUSE command moves an ACTIVE queue to PAUSED with reason DRIVER. -/
  | queuePause (q : Fin 16384)
  /-- QUEUE_RESUME (R512): The RESUME command writes any held and ERROR tag and moves the queue to ACTIVE. -/
  | queueResume (q : Fin 16384)
  /-- QUEUE_RESET (R513): The RESET command stops the queue and clears its indices. -/
  | queueReset (q : Fin 16384)
  /-- QUEUE_RESET_DONE (R513): The queue reset ends and the queue enters IDLE. -/
  | queueResetDone (q : Fin 16384)
  /-- QUEUE_MARK (R514): The MARK command queues a MARK tag. -/
  | queueMark (q : Fin 16384)
  /-- QUE_CTX_WRITE (R515): A write to context words 0-5 is stored in IDLE, and discarded otherwise. -/
  | queCtxWrite (q : Fin 16384) (w : Fin 6) (v : Word)
  /-- QUE_MAP_WRITE (R486): A map entry write is stored, or refused beyond QID 16383. -/
  | queMapWrite (venc : Bool) (st : Fin 64) (r : Fin 6) (v : Word)
  /-- ITEM_START (R502): An item opens on its chosen queue, or waits, or is dropped. -/
  | itemStart
  /-- DESC_READ_COMPLETE (R495): A descriptor read completes, and a waiting item continues or the queue faults. -/
  | descReadComplete (q : Fin 16384)
  /-- ITEM_START_TIMEOUT (R504): STARTTO expires without a first descriptor, and the item is dropped. -/
  | itemStartTimeout (q : Fin 16384)
  /-- ITEM_MID_TIMEOUT (R504): MIDTO expires without a further descriptor, and the item ends with TRUNC. -/
  | itemMidTimeout (q : Fin 16384)
  /-- ITEM_END (R505): An item's payload is written, its tag is written, and its interrupt is requested. -/
  | itemEnd (q : Fin 16384)
  /-- ERROR_TAG_WRITE (R509): After a drop run, an ERROR tag is written when the queue can take it. -/
  | errorTagWrite (q : Fin 16384)
  /-- MODERATION_TIMEOUT (R516): MODUS µs pass with tags pending, and the MSI-X message is issued. -/
  | moderationTimeout (q : Fin 16384)
  /-- QUE_BIST_START (R517): A write of QUE_BIST.START starts the queue self test in SERVICE. -/
  | queBistStart
  /-- QUE_BIST_DONE (R517): The queue self test ends or aborts. -/
  | queBistDone (pass : Bool)
  /-- LINK_UP (R529): The PCIe link reaches DL_Active and the host bridge enters RETRY. -/
  | linkUp (gen : Fin 6) (width : Fin 17) (pgen : Fin 7) (pwidth : Fin 33)
  /-- RETRY_END (R529): The retry period ends and the host bridge enters SLAVE. -/
  | retryEnd
  /-- LINK_DOWN (R531): The link goes down: requests are abandoned and queues pause with LINKDOWN. -/
  | linkDown
  /-- HOT_RESET (R530): A Hot Reset or Link Disable resets the CLK_HOST domain and the HBR state. -/
  | hotReset
  /-- BME_CLEAR (R532): Bus Master Enable is cleared: requests stop and queues pause with BMEHALT. -/
  | bmeClear
  /-- BME_SET (R529): Bus Master Enable is set in D0 and the host bridge enters MASTER. -/
  | bmeSet
  /-- D3HOT_ENTRY (R536): Entry to D3hot acts as a clearing of Bus Master Enable. -/
  | d3hotEntry
  /-- FLR_START (R542): Initiate Function Level Reset abandons requests and resets the function and its scope. -/
  | flrStart
  /-- FLR_DONE (R540): FLR completes and the host bridge enters SLAVE. -/
  | flrDone
  /-- COMPLETION_RECEIVED (R528): A completion for an outstanding read delivers data, or fails the read. -/
  | completionReceived (tag : Fin 1024) (status : Fin 8) (bad ecrc : Bool) (data : List Byte)
  /-- COMPLETION_TIMEOUT (R527): A read request times out, its tag is freed and its queue pauses. -/
  | completionTimeout (tag : Fin 1024)
  /-- UNSUPPORTED_REQUEST (R549): An I/O, locked, atomic or disabled memory request is completed with Unsupported Request. -/
  | unsupportedRequest (tlp : Byte) (mem posted : Bool)
  /-- MSIX_UNMASK (R544): Clearing an MSI-X mask sends one message for a pending vector. -/
  | msixUnmask (v : Fin 2048)
  /-- HELD_MSG_SEND (R543): Sending becomes possible and held interrupt messages are sent in order. -/
  | heldMsgSend
  /-- FAR_READ (R554): A BAR4 read is sent as a remote read, or served locally for the own node. -/
  | farRead (offset : BitVec 28) (size : Nat)
  /-- FAR_WRITE (R556): A BAR4 write is buffered and sent as a remote write. -/
  | farWrite (offset : BitVec 28) (data : List Word)
  /-- FAR_TIMEOUT (R554): HBR_FARTO expires for a remote access, which completes with cause TIMEOUT. -/
  | farTimeout (id : Nat)
  /-- POLL_ROUND (R561): The POLLINT period expires and the listed nodes are read for status. -/
  | pollRound
  /-- VEN_ENABLE_WRITE (R577): A write of VEN_CCFG.EN enables a context, or starts CLOSING, or is refused. -/
  | venEnableWrite (x : Fin 32) (v : Word)
  /-- VEN_CLOSE_DONE (R576): CLOSING finishes its picture and the context enters OFF. -/
  | venCloseDone (x : Fin 32)
  /-- VEN_PICTURE_OFFER (R578): A pipe offers a picture to a context, which takes it or loses it with a cause. -/
  | venPictureOffer (x : Fin 32) (isOver : Bool)
  /-- CORE_SEGMENT_START (R582): An idle core takes the next segment of the oldest picture. -/
  | coreSegmentStart (c : Fin 8) (qp : BitVec 6)
  /-- CORE_SEGMENT_DONE (R581): A core finishes its segment, and the access unit is delivered when its picture is complete. -/
  | coreSegmentDone (c : Fin 8) (bytes : List Byte) (qps : List Nat)
  /-- CORE_PARK_WRITE (R581): A write of PARK parks a core after its segment, or unparks it to rejoin at the next picture. -/
  | coreParkWrite (c : Fin 8) (v : Word)
  /-- CORE_FAULT (R586): A core parity error parks the core, loses its picture and forces an IDR. -/
  | coreFault (c : Fin 8) (mem : Nat)
  /-- VEN_RESTART (R597): A write of VEN_CCTL.RESTART moves a halted context to READY. -/
  | venRestart (x : Fin 32)
  /-- VEN_IDR_REQUEST (R593): A write of VEN_CCTL.IDR, or a VEN_IDR event, sets IDRPEND. -/
  | venIdrRequest (x : Fin 32)
  /-- DRL_PORT_UP (R602): A ring port has been free of fault for 1 ms and comes up. -/
  | drlPortUp (p : Fin 2)
  /-- DRL_PORT_DOWN (R602): A ring port's fault lasts 10 µs, the port goes down and LINKLOSS is sent. -/
  | drlPortDown (p : Fin 2)
  /-- RATE_ALTERNATE (R601): With AUTO, the 50 ms period expires without lock and the port changes rate. -/
  | rateAlternate (p : Fin 2)
  /-- DRL_FRAME_FORWARD (R610): A received frame is consumed, forwarded cut-through, or discarded. -/
  | drlFrameForward (p : Fin 2) (f : List Byte) (res : Nat)
  /-- BEACON_RECEIVED (R614): A BEACON demotes a worse root, makes a member, or closes the ring at the root. -/
  | beaconReceived (p : Fin 2) (f : List Byte)
  /-- HELLO_RECEIVED (R615): A HELLO records the link partner's identity. -/
  | helloReceived (p : Fin 2) (f : List Byte)
  /-- ENUM_RECEIVED (R616): An ENUM assigns an ID and is passed on, or ends the walk. -/
  | enumReceived (p : Fin 2) (f : List Byte)
  /-- ENUM_END_RECEIVED (R616): The root receives ENUM_END and repeats the walk on port 1, or enters RUN. -/
  | enumEndReceived (p : Fin 2) (f : List Byte)
  /-- JOIN_RECEIVED (R617): The root answers a JOIN with ASSIGN. -/
  | joinReceived (p : Fin 2) (f : List Byte)
  /-- ASSIGN_RECEIVED (R617): An ASSIGN gives a node its ID and sets the membership bit. -/
  | assignReceived (p : Fin 2) (f : List Byte)
  /-- NODE_UP_RECEIVED (R617): A NODE_UP sets membership and may reveal an ID conflict or a remote restart. -/
  | nodeUpReceived (p : Fin 2) (f : List Byte)
  /-- LINKLOSS_RECEIVED (R621): A LINKLOSS clears a partner's membership and may open the root's blocked port. -/
  | linklossReceived (p : Fin 2) (f : List Byte)
  /-- LINKUP_RECEIVED (R620): The root notes a new link and waits for its beacon before sending OPEN. -/
  | linkupReceived (p : Fin 2) (f : List Byte)
  /-- OPEN_RECEIVED (R620): An OPEN sets the named blocked port to FORWARD. -/
  | openReceived (p : Fin 2) (f : List Byte)
  /-- DRL_EVENT_RECEIVED (R624): A received EVENT is scheduled for its presentation time, or dropped when the schedule is full. -/
  | drlEventReceived (p : Fin 2) (f : List Byte)
  /-- EVENT_PRESENT (R624): The tick holding T_PRES arrives, and DRL_EVT fires for every matching map entry. -/
  | eventPresent
  /-- RREAD_RECEIVED (R626): A remote read is served on BAR0 and answered with RRSP, or refused. -/
  | rreadReceived (p : Fin 2) (f : List Byte) (held : Nat)
  /-- RWRITE_RECEIVED (R626): A remote write is served on BAR0 and answered with RWACK, or refused. -/
  | rwriteReceived (p : Fin 2) (f : List Byte) (held : Nat)
  /-- RRSP_RECEIVED (R627): A remote read response completes the host's BAR4 read, or is stale. -/
  | rrspReceived (p : Fin 2) (f : List Byte)
  /-- RWACK_RECEIVED (R627): A remote write acknowledgement completes a far-side write, or is stale. -/
  | rwackReceived (p : Fin 2) (f : List Byte)
  /-- REMOTE_RETRY (R627): 10 µs after a BUSY answer, the remote access is sent again. -/
  | remoteRetry (id : Nat)
  /-- BEACON_INTERVAL (R614): A root or candidate sends a BEACON each interval after the hold. -/
  | beaconInterval
  /-- ENUM_HOLD_END (R614): DRL_ENUM_HOLD passes after DONE and a root or candidate enters CLAIM. -/
  | enumHoldEnd
  /-- CLAIM_WINDOW_END (R615): The CLAIM window ends and the root enters ENUM, or RUN adopting the IDs reported. -/
  | claimWindowEnd
  /-- ENUM_TIMEOUT (R616): 10 ms after the last ENUM, the root enters RUN. -/
  | enumTimeout
  /-- ROOT_TIMEOUT (R615): A member hears no beacon for 3 × INTERVAL and returns to LISTEN. -/
  | rootTimeout
  /-- HELLO_INTERVAL (R615): Every 1 ms a member sends HELLO on each up port. -/
  | helloInterval
  /-- JOIN_INTERVAL (R617): A member without an ID sends JOIN each interval while the root runs. -/
  | joinInterval
  /-- NODE_UP_SEND (R617): After its DSN delay, a node sends NODE_UP. -/
  | nodeUpSend
  /-- LINKUP_SEND (R620): After 2 ms of HELLO on a blocked port, the node sends LINKUP. -/
  | linkupSend (p : Fin 2)
  /-- OPEN_SEND (R620): The root's beacon has returned and 1 ms has passed, so it blocks port 1 and sends OPEN. -/
  | openSend
  /-- DRL_CFG_WRITE (R604): A write of DRL_CFG.EN takes the ports out of or into REPEAT. -/
  | drlCfgWrite (v : Word)
  /-- BUS_IDLE (R634): Both Bellwire lines have been high for IDLE cycles, so the bus is idle. -/
  | busIdle
  /-- STRIKE_SEEN (R635): BW_CLK falls from idle, and the node receives or joins the strike. -/
  | strikeSeen (join : Bool) (rival : List Byte)
  /-- BW_STRIKE (R635): With a request pending and the bus idle, the grabber drives a strike and sends. -/
  | bwStrike (rival : List Byte)
  /-- FRAME_MARK (R642): The frame reaches its MARK: EVENT and MSG are delivered, and the sender's outcome is settled. -/
  | frameMark (f : List Byte) (ack tail : Bool)
  /-- FRAMING_ERROR (R634): A data change with the clock high, or an overlong low phase, abandons the frame. -/
  | framingError
  /-- CLK_LOW_TIMEOUT (R653): BW_CLK stays low for CLKTO cycles, so lines are released and the frame abandoned. -/
  | clkLowTimeout
  /-- BUS_STUCK_DETECT (R653): BW_DAT stays low with the clock high for IDLE cycles, and a reset strike starts. -/
  | busStuckDetect
  /-- RESET_STRIKE_END (R653): A reset strike ends and BW_DAT is watched for release. -/
  | resetStrikeEnd
  /-- RECOVERY_CHECK (R653): After IDLE cycles the data line is judged freed, or the reset strike is repeated. -/
  | recoveryCheck (high : Bool)
  /-- RECOVERY_RETRY (R653): 10 ms after three failed reset strikes, recovery is tried again. -/
  | recoveryRetry
  /-- TXCTL_GO (R645): A write of BWR_TXCTL.GO requests the described frame, or is refused. -/
  | txctlGo (v : Word)
  /-- TX_TIMEOUT (R647): BWR_TXTO expires without success, and the frame fails with TIMEOUT. -/
  | txTimeout (k : Fin 17)
  /-- RX_POP (R646): A write of BWR_RXPOP removes the head receive entry. -/
  | rxPop (v : Word)
  /-- BWR_CFG_WRITE (R651): A write of BWR_CFG slot, rate or enable ends the frame in progress and goes to WAITIDLE. -/
  | bwrCfgWrite (v : Word)
  /-- JTAG_INSTRUCTION_UPDATE (R679): A new TAP instruction gives pins to the chain, or leaves it and causes a warm reset. -/
  | jtagInstructionUpdate (code : Byte)
  /-- TAP_RESET (R675): TRST_N, five TMS-high cycles or a rising VDDIO_GEN puts the TAP in Test-Logic-Reset. -/
  | tapReset
  /-- ERROR_RAISE (R721): A unit raises an error, which is counted, fires ERR_ANY and is stored, filtered or dropped. -/
  | errorRaise (code : BitVec 16) (d0 d1 d2 d3 : Word) (full : Bool)
  /-- ERR_RCNT_WRITE (R722): A write of ERR_RCNT sets the read position and ends an overwrite run. -/
  | errRcntWrite (v : Word)
  /-- EVLAST_READ (R625): A read of DRL_EVLAST at +0x10 clears VALID. -/
  | evlastRead
  /-- RST_RELEASE (R71): RST_N returns high after a warm reset, and the domain release of R54 and the loader run start. -/
  | rstRelease
  /-- UPLINK_QUIET_EXIT (R230): The camera ends LPI on the up-link by sending IDLE blocks, and the lane leaves QUIET for LINKED. -/
  | uplinkQuietExit (n : Fin 16)
  /-- HOSTLOCK_WRITE (R199): With the servo stopped, a driver write of TIM_STAT.HOSTLOCK moves the time base between TRACKING and LOCKED. -/
  | hostlockWrite (v : Word)
  /-- D0_RETURN (R536): A configuration write returns the function from D3hot to D0, keeping every register, and the host bridge re-enters MASTER when Bus Master Enable is set. -/
  | d0Return
  /-- MALFORMED_TLP (R563): A malformed TLP, receiver overflow or flow-control or data-link protocol error is detected; the TLP is discarded, the link retrained for protocol errors and error 0x0E0E logged. -/
  | malformedTlp (bit : Fin 32)
  /-- UNCORRECTABLE_INTERNAL_ERROR (R563): A parity error in the host bridge buffers sends the function's queues into DOWN behaviour until FLR and logs error 0x0E0E. -/
  | uncorrectableInternalError
  /-- TCK_EDGE (R678): A TCK edge advances the TAP, shifting, capturing pin levels in Capture-DR and driving boundary cells onto pins in Update-DR under EXTEST. -/
  | tckEdge (rising tms tdi : Bool) (pins : BitVec 180)
  /-- ALIGN_ROW_SEND (R256): The grabber's row count runs out and it sends an ALIGN row, applying a TXSET change or reporting a changed RXOK. -/
  | alignRowSend (g : Fin 16)
  deriving DecidableEq, Repr

end Sys2Proof
end

