-- ==== Sys2Proof/Config.lean ====
section
/-! DEFINITION. What the spec leaves to the part or leaves open: constants without a body, so that no proof can see a value
of them (log entries 5, 34 and 35). -/

namespace Sys2Proof

/-- The free values: the value that the spec leaves open at the n-th time the machine needs one (log entry 5). -/
opaque Config.freeValue : Nat → BitVec 64

/-- Whether a quotient that is not an integer is rounded up where the spec gives no rounding (log entry 34): the numerator
and the denominator. -/
opaque Config.roundUp : Int → Nat → Bool

/-- The code of a derived value that lies outside its 16-bit field (log entry 35). -/
opaque Config.outside16 : Int → BitVec 16

/-- The code of a derived or measured value that lies outside its 32-bit field (log entry 35). -/
opaque Config.outside32 : Int → BitVec 32

/-- The level that reads at trigger output `n` while its pin is at high impedance (log entry 5). -/
opaque Config.floatLevel : Nat → Bool

end Sys2Proof
end

