-- ==== Sys2Proof/Machine/Bits.lean ====
section
/-! DEFINITION. Plain helpers that every part of the machine uses: bit fields of words, sparse tables in one canonical
form, byte order, saturating counters, and signed readings of a bit field. -/

namespace Sys2Proof.Machine

/-! ### Bit fields -/

/-- The value of bits `hi:lo` of `w` (R14: bit 0 is the least significant bit). -/
def bitsOf (w hi lo : Nat) : Nat := w / 2 ^ lo % 2 ^ (hi + 1 - lo)

/-- `w` with bits `hi:lo` replaced by the low bits of `v`. -/
def putBits (w hi lo v : Nat) : Nat :=
  2 ^ (hi + 1) * (w / 2 ^ (hi + 1)) + 2 ^ lo * (v % 2 ^ (hi + 1 - lo)) + w % 2 ^ lo

/-- Bit `k` of `w`. -/
def bitAt (w k : Nat) : Bool := w / 2 ^ k % 2 == 1

/-- 1 for true, 0 for false. -/
def b2n (b : Bool) : Nat := if b then 1 else 0

/-- The two's complement reading of the low `n` bits of `v`. -/
def signedOf (n v : Nat) : Int :=
  if v % 2 ^ n < 2 ^ (n - 1) then ((v % 2 ^ n : Nat) : Int) else ((v % 2 ^ n : Nat) : Int) - ((2 ^ n : Nat) : Int)

/-- The `n`-bit two's complement code of `i`. -/
def codeOf (n : Nat) (i : Int) : Nat := (i % ((2 ^ n : Nat) : Int)).toNat

/-- `i` limited to the range from `lo` to `hi`. -/
def clampInt (lo hi i : Int) : Int := if i < lo then lo else if hi < i then hi else i

/-- The quotient rounded up. -/
def ceilDiv (a b : Nat) : Nat := (a + b - 1) / b

/-- Addition that stays at the largest `w`-bit value (saturating counters). -/
def satAdd (w a b : Nat) : Nat := min (a + b) (2 ^ w - 1)

/-! ### Sparse tables

A table is a list of (key, value) pairs with rising keys that lists no entry equal to what an unlisted key reads as, so
that equal tables are equal data. -/

/-- The value that table `m` gives key `k`; `d` when it lists none. -/
def tget {α : Type} (d : α) (m : List (Nat × α)) (k : Nat) : α :=
  match m with
  | [] => d
  | (j, v) :: t => if j = k then v else tget d t k

/-- `m` without key `k`. -/
def tdel {α : Type} (m : List (Nat × α)) (k : Nat) : List (Nat × α) :=
  m.filter (fun e => e.1 != k)

/-- `m` with the pair `(k, v)` put before the first larger key. -/
def tins {α : Type} (m : List (Nat × α)) (k : Nat) (v : α) : List (Nat × α) :=
  match m with
  | [] => [(k, v)]
  | (j, w) :: t => if k < j then (k, v) :: (j, w) :: t else (j, w) :: tins t k v

/-- `m` with key `k` reading as `v`, in the canonical form. -/
def tput {α : Type} [DecidableEq α] (d : α) (m : List (Nat × α)) (k : Nat) (v : α) : List (Nat × α) :=
  if v = d then tdel m k else tins (tdel m k) k v

/-- The keys of `m` rise strictly from `k` on. -/
def tsortedFrom {α : Type} (k : Nat) (m : List (Nat × α)) : Bool :=
  match m with
  | [] => true
  | (j, _) :: t => decide (k ≤ j) && tsortedFrom (j + 1) t

/-- The canonical form of a table: keys strictly rising, and no entry equal to what an unlisted key `k` reads as,
`d k`. -/
def twf {α : Type} [DecidableEq α] (d : Nat → α) (m : List (Nat × α)) : Bool :=
  tsortedFrom 0 m && m.all (fun e => decide (e.2 ≠ d e.1))

/-! ### Bytes -/

/-- The little-endian bytes of the low `8 * n` bits of `v` (R14). -/
def leBytes (n v : Nat) : List Nat := (List.range n).map (fun k => v / 2 ^ (8 * k) % 256)

/-- The big-endian bytes of the low `8 * n` bits of `v` (network order). -/
def beBytes (n v : Nat) : List Nat := (List.range n).map (fun k => v / 2 ^ (8 * (n - 1 - k)) % 256)

/-- The number whose little-endian bytes are `bs`. -/
def leNat (bs : List Nat) : Nat := bs.foldr (fun b acc => b % 256 + 256 * acc) 0

/-- The number whose big-endian bytes are `bs`. -/
def beNat (bs : List Nat) : Nat := bs.foldl (fun acc b => 256 * acc + b % 256) 0

/-- The octets of an operand. -/
def natBytes (b : List Byte) : List Nat := b.map (·.toNat)

/-- Byte `k` of `bs`, 0 beyond its end. -/
def byteAt (bs : List Nat) (k : Nat) : Nat := bs.getD k 0

/-- The `n` bytes of `bs` from `k` on. -/
def sliceOf (bs : List Nat) (k n : Nat) : List Nat := (bs.drop k).take n

/-! ### Check fields -/

/-- `f` applied `n` times to `x`. -/
def applyN {α : Type} (f : α → α) : Nat → α → α
  | 0, x => x
  | n + 1, x => applyN f n (f x)

/-- One bit of a reflected CRC with polynomial `p`. -/
def crcBit (p c : Nat) : Nat := if c % 2 = 1 then c / 2 ^^^ p else c / 2

/-- One byte of CRC-32C, reflected polynomial 0x82F63B78 of 0x1EDC6F41 (R19). -/
def crc32cByte (c b : Nat) : Nat := applyN (crcBit 0x82F63B78) 8 (c ^^^ b % 256)

/-- CRC-32C of a byte string, as in RFC 3720 (R19). -/
def crc32c (bs : List Nat) : Nat := bs.foldl crc32cByte 0xFFFFFFFF ^^^ 0xFFFFFFFF

/-- One bit of the CRC-8 of R217, polynomial 0x07, most significant bit first. -/
def crc8Bit (c : Nat) : Nat := if 128 ≤ c then c * 2 % 256 ^^^ 7 else c * 2 % 256

/-- One byte of the CRC-8 of R217. -/
def crc8Byte (c b : Nat) : Nat := applyN crc8Bit 8 (c ^^^ b % 256)

/-- The CRC-8 of R217, start value 0. -/
def crc8 (bs : List Nat) : Nat := bs.foldl crc8Byte 0

/-! ### Register places -/

/-- A field of a register, or of an array of registers: the absolute BAR0 address, the strides of the first and the
second index, and the bits `hi:lo`. -/
structure Fld where
  base : Nat
  s1 : Nat
  s2 : Nat
  hi : Nat
  lo : Nat
  deriving DecidableEq, Repr

/-- The address of the register that holds `f` at the indices `i` and `j`. -/
def Fld.adr (f : Fld) (i : Nat := 0) (j : Nat := 0) : Nat := f.base + f.s1 * i + f.s2 * j

/-- One row of the register map: where the registers lie, the reset word, and the bits that are RW (RWB included), RWB,
RWX and W1C. Every other bit is RO, WO, W1S or reserved (R16, R17). -/
structure RegRow where
  base : Nat
  s1 : Nat
  n1 : Nat
  s2 : Nat
  n2 : Nat
  reset : Nat
  rw : Nat
  rwb : Nat
  rwx : Nat
  w1c : Nat
  deriving DecidableEq, Repr

/-- The two indices at which `r` holds the register at address `a`. -/
def RegRow.find (r : RegRow) (a : Nat) : Option (Nat × Nat) :=
  if a < r.base then none else
    let o := a - r.base
    let i := if r.s1 = 0 then 0 else o / r.s1
    let o2 := o - i * r.s1
    let j := if r.s2 = 0 then 0 else o2 / r.s2
    if i < r.n1 && j < r.n2 && r.base + r.s1 * i + r.s2 * j == a then some (i, j) else none

end Sys2Proof.Machine
end

