-- ==== Sys2Proof/Machine/Fields.lean ====
section
/-! DEFINITION. Every register field of the address map as a place: the absolute BAR0 address of its register, the
strides of the arrays it stands in, and its bits, as the register tables at the end of each chapter of spec/ give them.
`X.reg` is the whole word of the register X. -/

namespace Sys2Proof.Machine

/-! CLK (spec/02) -/
def CLK_ID.reg : Fld := ⟨0x20000, 0x0, 0x0, 31, 0⟩
def CLK_ID.UNIT : Fld := ⟨0x20000, 0x0, 0x0, 31, 16⟩
def CLK_ID.VERSION : Fld := ⟨0x20000, 0x0, 0x0, 15, 0⟩
def CLK_LEVEL.reg : Fld := ⟨0x20004, 0x0, 0x0, 31, 0⟩
def CLK_LEVEL.EXPERT : Fld := ⟨0x20004, 0x0, 0x0, 0, 0⟩
def CLK_TREF.reg : Fld := ⟨0x20010, 0x0, 0x0, 31, 0⟩
def CLK_TREF.FOUND : Fld := ⟨0x20010, 0x0, 0x0, 5, 4⟩
def CLK_TREF.FREQ : Fld := ⟨0x20010, 0x0, 0x0, 1, 0⟩
def CLK_VENCEN.reg : Fld := ⟨0x20014, 0x0, 0x0, 31, 0⟩
def CLK_VENCEN.EN : Fld := ⟨0x20014, 0x0, 0x0, 0, 0⟩
def CLK_STATUS.reg : Fld := ⟨0x20020, 0x0, 0x0, 31, 0⟩
def CLK_STATUS.LREF : Fld := ⟨0x20020, 0x0, 0x0, 15, 12⟩
def CLK_STATUS.RREF : Fld := ⟨0x20020, 0x0, 0x0, 11, 11⟩
def CLK_STATUS.PCLK : Fld := ⟨0x20020, 0x0, 0x0, 10, 9⟩
def CLK_STATUS.HOLDOVER : Fld := ⟨0x20020, 0x0, 0x0, 8, 8⟩
def CLK_STATUS.TREF : Fld := ⟨0x20020, 0x0, 0x0, 7, 7⟩
def CLK_STATUS.LOCK : Fld := ⟨0x20020, 0x0, 0x0, 3, 0⟩
def CLK_LOSS.reg : Fld := ⟨0x20024, 0x0, 0x0, 31, 0⟩
def CLK_LOSS.LREF : Fld := ⟨0x20024, 0x0, 0x0, 15, 12⟩
def CLK_LOSS.RREF : Fld := ⟨0x20024, 0x0, 0x0, 11, 11⟩
def CLK_LOSS.PCLK : Fld := ⟨0x20024, 0x0, 0x0, 10, 9⟩
def CLK_LOSS.VENCLOCK : Fld := ⟨0x20024, 0x0, 0x0, 8, 8⟩
def CLK_LOSS.TREF : Fld := ⟨0x20024, 0x0, 0x0, 7, 7⟩
def CLK_LOSS.TIMELOCK : Fld := ⟨0x20024, 0x0, 0x0, 6, 6⟩
def CLK_CAUSE.reg : Fld := ⟨0x20028, 0x0, 0x0, 31, 0⟩
def CLK_CAUSE.CORELOCK : Fld := ⟨0x20028, 0x0, 0x0, 1, 1⟩
def CLK_CAUSE.SYSREF : Fld := ⟨0x20028, 0x0, 0x0, 0, 0⟩
def CLK_RST.reg : Fld := ⟨0x20030, 0x0, 0x0, 31, 0⟩
def CLK_RST.TIME : Fld := ⟨0x20030, 0x0, 0x0, 9, 9⟩
def CLK_RST.VENC : Fld := ⟨0x20030, 0x0, 0x0, 8, 8⟩
def CLK_RST.PAR : Fld := ⟨0x20030, 0x0, 0x0, 7, 6⟩
def CLK_RST.RING : Fld := ⟨0x20030, 0x0, 0x0, 5, 4⟩
def CLK_RST.QUAD : Fld := ⟨0x20030, 0x0, 0x0, 3, 0⟩
def CLK_MONSEL.reg : Fld := ⟨0x20040, 0x0, 0x0, 31, 0⟩
def CLK_MONSEL.SRC : Fld := ⟨0x20040, 0x0, 0x0, 3, 0⟩
def CLK_MONVAL.reg : Fld := ⟨0x20044, 0x0, 0x0, 31, 0⟩
def CLK_MONVAL.COUNT : Fld := ⟨0x20044, 0x0, 0x0, 31, 0⟩
def CLK_XOVR.reg : Fld := ⟨0x20048, 0x0, 0x0, 31, 0⟩
def CLK_XOVR.COUNT : Fld := ⟨0x20048, 0x0, 0x0, 15, 0⟩
def CLK_PLL.reg : Fld := ⟨0x20100, 0x10, 0x0, 31, 0⟩
def CLK_PLL.BW : Fld := ⟨0x20100, 0x10, 0x0, 31, 30⟩
def CLK_PLL.POSTDIV : Fld := ⟨0x20100, 0x10, 0x0, 29, 26⟩
def CLK_PLL.FBDIV : Fld := ⟨0x20100, 0x10, 0x0, 23, 12⟩
def CLK_PLL.REFDIV : Fld := ⟨0x20100, 0x10, 0x0, 3, 0⟩
/-! CFG (spec/03) -/
def CFG_ID.reg : Fld := ⟨0x10000, 0x0, 0x0, 31, 0⟩
def CFG_ID.UNIT : Fld := ⟨0x10000, 0x0, 0x0, 31, 16⟩
def CFG_ID.VERSION : Fld := ⟨0x10000, 0x0, 0x0, 15, 0⟩
def CFG_LEVEL.reg : Fld := ⟨0x10004, 0x0, 0x0, 31, 0⟩
def CFG_LEVEL.EXPERT : Fld := ⟨0x10004, 0x0, 0x0, 0, 0⟩
def CFG_STATUS.reg : Fld := ⟨0x10010, 0x0, 0x0, 31, 0⟩
def CFG_STATUS.DONE : Fld := ⟨0x10010, 0x0, 0x0, 31, 31⟩
def CFG_STATUS.OPEN : Fld := ⟨0x10010, 0x0, 0x0, 30, 30⟩
def CFG_STATUS.SIGNED : Fld := ⟨0x10010, 0x0, 0x0, 29, 29⟩
def CFG_STATUS.SLOWED : Fld := ⟨0x10010, 0x0, 0x0, 28, 28⟩
def CFG_STATUS.PHASE : Fld := ⟨0x10010, 0x0, 0x0, 19, 16⟩
def CFG_STATUS.SLOT : Fld := ⟨0x10010, 0x0, 0x0, 9, 8⟩
def CFG_STATUS.RUNS : Fld := ⟨0x10010, 0x0, 0x0, 7, 0⟩
def CFG_FAIL.reg : Fld := ⟨0x10014, 0x0, 0x0, 31, 0⟩
def CFG_FAIL.FAILB : Fld := ⟨0x10014, 0x0, 0x0, 15, 8⟩
def CFG_FAIL.FAILA : Fld := ⟨0x10014, 0x0, 0x0, 7, 0⟩
def CFG_FAILREC.reg : Fld := ⟨0x10018, 0x0, 0x0, 31, 0⟩
def CFG_FAILREC.SLOT : Fld := ⟨0x10018, 0x0, 0x0, 31, 31⟩
def CFG_FAILREC.INDEX : Fld := ⟨0x10018, 0x0, 0x0, 19, 0⟩
def CFG_IMGROLL.reg : Fld := ⟨0x1001c, 0x0, 0x0, 31, 0⟩
def CFG_IMGROLL.ROLLBACK : Fld := ⟨0x1001c, 0x0, 0x0, 31, 0⟩
def CFG_FLOOR.reg : Fld := ⟨0x10020, 0x0, 0x0, 31, 0⟩
def CFG_FLOOR.FLOOR : Fld := ⟨0x10020, 0x0, 0x0, 7, 0⟩
def CFG_BUILD.reg : Fld := ⟨0x10024, 0x0, 0x0, 31, 0⟩
def CFG_BUILD.BUILD : Fld := ⟨0x10024, 0x0, 0x0, 31, 0⟩
def CFG_SKIPPED.reg : Fld := ⟨0x10028, 0x0, 0x0, 31, 0⟩
def CFG_SKIPPED.POLLTO : Fld := ⟨0x10028, 0x0, 0x0, 31, 16⟩
def CFG_SKIPPED.SKIPPED : Fld := ⟨0x10028, 0x0, 0x0, 15, 0⟩
def CFG_LOADTIME.reg : Fld := ⟨0x1002c, 0x0, 0x0, 31, 0⟩
def CFG_LOADTIME.US : Fld := ⟨0x1002c, 0x0, 0x0, 31, 0⟩
def CFG_EARLYWR.reg : Fld := ⟨0x10030, 0x0, 0x0, 31, 0⟩
def CFG_EARLYWR.COUNT : Fld := ⟨0x10030, 0x0, 0x0, 15, 0⟩
def CFG_SLOTBOFS.reg : Fld := ⟨0x10034, 0x0, 0x0, 31, 0⟩
def CFG_SLOTBOFS.OFS : Fld := ⟨0x10034, 0x0, 0x0, 27, 0⟩
def CFG_FSPEED.reg : Fld := ⟨0x10040, 0x0, 0x0, 31, 0⟩
def CFG_FSPEED.READOP : Fld := ⟨0x10040, 0x0, 0x0, 23, 16⟩
def CFG_FSPEED.DUMMY : Fld := ⟨0x10040, 0x0, 0x0, 15, 8⟩
def CFG_FSPEED.FREQ : Fld := ⟨0x10040, 0x0, 0x0, 7, 4⟩
def CFG_FSPEED.PROTO : Fld := ⟨0x10040, 0x0, 0x0, 3, 0⟩
def CFG_FTIM.reg : Fld := ⟨0x10044, 0x0, 0x0, 31, 0⟩
def CFG_FTIM.CSHIGH : Fld := ⟨0x10044, 0x0, 0x0, 15, 12⟩
def CFG_FTIM.SAMPLE : Fld := ⟨0x10044, 0x0, 0x0, 11, 8⟩
def CFG_FTIM.CLKDIV : Fld := ⟨0x10044, 0x0, 0x0, 3, 0⟩
def CFG_URST.reg : Fld := ⟨0x10050, 0x0, 0x0, 31, 0⟩
def CFG_URST.UNIT : Fld := ⟨0x10050, 0x0, 0x0, 13, 0⟩
def CFG_WARM.reg : Fld := ⟨0x10054, 0x0, 0x0, 31, 0⟩
def CFG_WARM.KEY : Fld := ⟨0x10054, 0x0, 0x0, 31, 0⟩
def CFG_FUNLOCK.reg : Fld := ⟨0x10080, 0x0, 0x0, 31, 0⟩
def CFG_FUNLOCK.KEY : Fld := ⟨0x10080, 0x0, 0x0, 31, 0⟩
def CFG_FCMD.reg : Fld := ⟨0x10084, 0x0, 0x0, 31, 0⟩
def CFG_FCMD.BUSY : Fld := ⟨0x10084, 0x0, 0x0, 31, 31⟩
def CFG_FCMD.ERR : Fld := ⟨0x10084, 0x0, 0x0, 30, 30⟩
def CFG_FCMD.OP : Fld := ⟨0x10084, 0x0, 0x0, 3, 0⟩
def CFG_FADDR.reg : Fld := ⟨0x10088, 0x0, 0x0, 31, 0⟩
def CFG_FADDR.ADDR : Fld := ⟨0x10088, 0x0, 0x0, 27, 0⟩
def CFG_FARG.reg : Fld := ⟨0x1008c, 0x0, 0x0, 31, 0⟩
def CFG_FARG.ARG : Fld := ⟨0x1008c, 0x0, 0x0, 8, 0⟩
def CFG_FRES.reg : Fld := ⟨0x10090, 0x0, 0x0, 31, 0⟩
def CFG_FRES.REASON : Fld := ⟨0x10090, 0x0, 0x0, 7, 0⟩
def CFG_FBUF.reg : Fld := ⟨0x10100, 0x4, 0x0, 31, 0⟩
def CFG_FBUF.DATA : Fld := ⟨0x10100, 0x4, 0x0, 31, 0⟩
def CFG_KEYHASH.reg : Fld := ⟨0x10200, 0x4, 0x0, 31, 0⟩
def CFG_KEYHASH.HASH : Fld := ⟨0x10200, 0x4, 0x0, 31, 0⟩
/-! GLB (spec/04,ch05) -/
def GLB_ID.reg : Fld := ⟨0x0, 0x0, 0x0, 31, 0⟩
def GLB_ID.UNIT : Fld := ⟨0x0, 0x0, 0x0, 31, 16⟩
def GLB_ID.VERSION : Fld := ⟨0x0, 0x0, 0x0, 15, 0⟩
def GLB_LEVEL.reg : Fld := ⟨0x4, 0x0, 0x0, 31, 0⟩
def GLB_LEVEL.EXPERT : Fld := ⟨0x4, 0x0, 0x0, 0, 0⟩
def GLB_REV.reg : Fld := ⟨0x8, 0x0, 0x0, 31, 0⟩
def GLB_REV.DEVID : Fld := ⟨0x8, 0x0, 0x0, 31, 16⟩
def GLB_REV.REVID : Fld := ⟨0x8, 0x0, 0x0, 7, 0⟩
def GLB_UNITS.reg : Fld := ⟨0x10, 0x0, 0x0, 31, 0⟩
def GLB_UNITS.PRESENT : Fld := ⟨0x10, 0x0, 0x0, 18, 1⟩
def GLB_CAP.reg : Fld := ⟨0x14, 0x0, 0x0, 31, 0⟩
def GLB_CAP.LINKGEN : Fld := ⟨0x14, 0x0, 0x0, 31, 28⟩
def GLB_CAP.LINKWIDTH : Fld := ⟨0x14, 0x0, 0x0, 27, 20⟩
def GLB_CAP.POWERW : Fld := ⟨0x14, 0x0, 0x0, 7, 0⟩
def GLB_LEVELSUM.reg : Fld := ⟨0x18, 0x0, 0x0, 31, 0⟩
def GLB_LEVELSUM.EXPERT : Fld := ⟨0x18, 0x0, 0x0, 18, 1⟩
def GLB_INST.reg : Fld := ⟨0x20, 0x4, 0x0, 31, 0⟩
def GLB_INST.COUNTS : Fld := ⟨0x20, 0x4, 0x0, 31, 0⟩
def GLB_DSNLO.reg : Fld := ⟨0x38, 0x0, 0x0, 31, 0⟩
def GLB_DSNLO.DSN : Fld := ⟨0x38, 0x0, 0x0, 31, 0⟩
def GLB_DSNHI.reg : Fld := ⟨0x3c, 0x0, 0x0, 31, 0⟩
def GLB_DSNHI.DSN : Fld := ⟨0x3c, 0x0, 0x0, 31, 0⟩
def GLB_MODE.reg : Fld := ⟨0x40, 0x0, 0x0, 31, 0⟩
def GLB_MODE.BUSY : Fld := ⟨0x40, 0x0, 0x0, 31, 31⟩
def GLB_MODE.MODE : Fld := ⟨0x40, 0x0, 0x0, 2, 0⟩
def GLB_MODESTAT.reg : Fld := ⟨0x44, 0x0, 0x0, 31, 0⟩
def GLB_MODESTAT.CUR : Fld := ⟨0x44, 0x0, 0x0, 26, 24⟩
def GLB_MODESTAT.PHASE : Fld := ⟨0x44, 0x0, 0x0, 17, 16⟩
def GLB_MODESTAT.REASON : Fld := ⟨0x44, 0x0, 0x0, 11, 8⟩
def GLB_MODESTAT.REFUSALS : Fld := ⟨0x44, 0x0, 0x0, 7, 0⟩
def GLB_DRAIN.reg : Fld := ⟨0x48, 0x0, 0x0, 31, 0⟩
def GLB_DRAIN.FORCE : Fld := ⟨0x48, 0x0, 0x0, 31, 31⟩
def GLB_DRAIN.TIMEOUT : Fld := ⟨0x48, 0x0, 0x0, 15, 0⟩
def GLB_GOTOCFG.reg : Fld := ⟨0x4c, 0x0, 0x0, 31, 0⟩
def GLB_GOTOCFG.EN : Fld := ⟨0x4c, 0x0, 0x0, 8, 8⟩
def GLB_GOTOCFG.MODE : Fld := ⟨0x4c, 0x0, 0x0, 2, 0⟩
def GLB_HELD.reg : Fld := ⟨0x50, 0x4, 0x0, 31, 0⟩
def GLB_HELD.STREAMS : Fld := ⟨0x50, 0x4, 0x0, 31, 0⟩
def GLB_TRUNCCNT.reg : Fld := ⟨0x58, 0x0, 0x0, 31, 0⟩
def GLB_TRUNCCNT.DROPPED : Fld := ⟨0x58, 0x0, 0x0, 31, 16⟩
def GLB_TRUNCCNT.TRUNCATED : Fld := ⟨0x58, 0x0, 0x0, 15, 0⟩
def GLB_ABSENTWR.reg : Fld := ⟨0x60, 0x0, 0x0, 31, 0⟩
def GLB_ABSENTWR.COUNT : Fld := ⟨0x60, 0x0, 0x0, 15, 0⟩
def GLB_ABSENTADR.reg : Fld := ⟨0x64, 0x0, 0x0, 31, 0⟩
def GLB_ABSENTADR.ADDR : Fld := ⟨0x64, 0x0, 0x0, 25, 0⟩
def GLB_XDROP.reg : Fld := ⟨0x68, 0x0, 0x0, 31, 0⟩
def GLB_XDROP.UNIT : Fld := ⟨0x68, 0x0, 0x0, 23, 16⟩
def GLB_XDROP.COUNT : Fld := ⟨0x68, 0x0, 0x0, 15, 0⟩
def GLB_XDROPADR.reg : Fld := ⟨0x6c, 0x0, 0x0, 31, 0⟩
def GLB_XDROPADR.ADDR : Fld := ⟨0x6c, 0x0, 0x0, 25, 0⟩
/-! TIM (spec/06) -/
def TIM_ID.reg : Fld := ⟨0x100000, 0x0, 0x0, 31, 0⟩
def TIM_ID.UNIT : Fld := ⟨0x100000, 0x0, 0x0, 31, 16⟩
def TIM_ID.VERSION : Fld := ⟨0x100000, 0x0, 0x0, 15, 0⟩
def TIM_LEVEL.reg : Fld := ⟨0x100004, 0x0, 0x0, 31, 0⟩
def TIM_LEVEL.EXPERT : Fld := ⟨0x100004, 0x0, 0x0, 0, 0⟩
def TIM_ROLE.reg : Fld := ⟨0x100010, 0x0, 0x0, 31, 0⟩
def TIM_ROLE.SRC : Fld := ⟨0x100010, 0x0, 0x0, 2, 2⟩
def TIM_ROLE.ROLE : Fld := ⟨0x100010, 0x0, 0x0, 1, 0⟩
def TIM_PTPCFG.reg : Fld := ⟨0x100014, 0x0, 0x0, 31, 0⟩
def TIM_PTPCFG.DOMAIN : Fld := ⟨0x100014, 0x0, 0x0, 31, 24⟩
def TIM_PTPCFG.LOGSYNC : Fld := ⟨0x100014, 0x0, 0x0, 23, 20⟩
def TIM_PTPCFG.LOGANN : Fld := ⟨0x100014, 0x0, 0x0, 19, 16⟩
def TIM_PTPCFG.LOGDELAY : Fld := ⟨0x100014, 0x0, 0x0, 15, 12⟩
def TIM_PTPCFG.TWOSTEP : Fld := ⟨0x100014, 0x0, 0x0, 2, 2⟩
def TIM_PTPCFG.DELAY : Fld := ⟨0x100014, 0x0, 0x0, 1, 1⟩
def TIM_PTPCFG.TRANSPORT : Fld := ⟨0x100014, 0x0, 0x0, 0, 0⟩
def TIM_SVBASIC.reg : Fld := ⟨0x100018, 0x0, 0x0, 31, 0⟩
def TIM_SVBASIC.HOLDS : Fld := ⟨0x100018, 0x0, 0x0, 31, 24⟩
def TIM_SVBASIC.LOCKNS : Fld := ⟨0x100018, 0x0, 0x0, 23, 16⟩
def TIM_SVBASIC.AUTOREARM : Fld := ⟨0x100018, 0x0, 0x0, 2, 2⟩
def TIM_SVBASIC.BW : Fld := ⟨0x100018, 0x0, 0x0, 1, 0⟩
def TIM_EPOCHLO.reg : Fld := ⟨0x10001c, 0x0, 0x0, 31, 0⟩
def TIM_EPOCHLO.LO : Fld := ⟨0x10001c, 0x0, 0x0, 31, 0⟩
def TIM_EPOCHHI.reg : Fld := ⟨0x100020, 0x0, 0x0, 31, 0⟩
def TIM_EPOCHHI.HI : Fld := ⟨0x100020, 0x0, 0x0, 31, 0⟩
def TIM_ANNCFG.reg : Fld := ⟨0x100024, 0x0, 0x0, 31, 0⟩
def TIM_ANNCFG.PRIO1 : Fld := ⟨0x100024, 0x0, 0x0, 31, 24⟩
def TIM_ANNCFG.PRIO2 : Fld := ⟨0x100024, 0x0, 0x0, 23, 16⟩
def TIM_ANNCFG.CLASS : Fld := ⟨0x100024, 0x0, 0x0, 15, 8⟩
def TIM_ANNCFG.ACCURACY : Fld := ⟨0x100024, 0x0, 0x0, 7, 0⟩
def TIM_ANNCFG2.reg : Fld := ⟨0x100028, 0x0, 0x0, 31, 0⟩
def TIM_ANNCFG2.UTCVALID : Fld := ⟨0x100028, 0x0, 0x0, 31, 31⟩
def TIM_ANNCFG2.UTCOFS : Fld := ⟨0x100028, 0x0, 0x0, 30, 16⟩
def TIM_ANNCFG2.VARIANCE : Fld := ⟨0x100028, 0x0, 0x0, 15, 0⟩
def TIM_PPSCFG.reg : Fld := ⟨0x10002c, 0x0, 0x0, 31, 0⟩
def TIM_PPSCFG.WIDTH : Fld := ⟨0x10002c, 0x0, 0x0, 15, 6⟩
def TIM_PPSCFG.INPOL : Fld := ⟨0x10002c, 0x0, 0x0, 2, 2⟩
def TIM_PPSCFG.ALWAYS : Fld := ⟨0x10002c, 0x0, 0x0, 1, 1⟩
def TIM_PPSCFG.OUTEN : Fld := ⟨0x10002c, 0x0, 0x0, 0, 0⟩
def TIM_STAT.reg : Fld := ⟨0x100040, 0x0, 0x0, 31, 0⟩
def TIM_STAT.STEPREF : Fld := ⟨0x100040, 0x0, 0x0, 31, 24⟩
def TIM_STAT.SRCPORT : Fld := ⟨0x100040, 0x0, 0x0, 17, 16⟩
def TIM_STAT.HOSTLOCK : Fld := ⟨0x100040, 0x0, 0x0, 8, 8⟩
def TIM_STAT.MASTER : Fld := ⟨0x100040, 0x0, 0x0, 7, 7⟩
def TIM_STAT.UNSYNC : Fld := ⟨0x100040, 0x0, 0x0, 6, 6⟩
def TIM_STAT.FLOADARM : Fld := ⟨0x100040, 0x0, 0x0, 5, 5⟩
def TIM_STAT.STEPARM : Fld := ⟨0x100040, 0x0, 0x0, 4, 4⟩
def TIM_STAT.SERVO : Fld := ⟨0x100040, 0x0, 0x0, 3, 3⟩
def TIM_STAT.STATE : Fld := ⟨0x100040, 0x0, 0x0, 2, 0⟩
def TIM_CTRL.reg : Fld := ⟨0x100044, 0x0, 0x0, 31, 0⟩
def TIM_CTRL.REARM : Fld := ⟨0x100044, 0x0, 0x0, 0, 0⟩
def TIM_OFFSET.reg : Fld := ⟨0x100050, 0x0, 0x0, 31, 0⟩
def TIM_OFFSET.NS : Fld := ⟨0x100050, 0x0, 0x0, 31, 0⟩
def TIM_PATHDLY.reg : Fld := ⟨0x100054, 0x0, 0x0, 31, 0⟩
def TIM_PATHDLY.DLY : Fld := ⟨0x100054, 0x0, 0x0, 31, 0⟩
def TIM_UTCOFS.reg : Fld := ⟨0x100058, 0x0, 0x0, 31, 0⟩
def TIM_UTCOFS.VALID : Fld := ⟨0x100058, 0x0, 0x0, 31, 31⟩
def TIM_UTCOFS.UTCOFS : Fld := ⟨0x100058, 0x0, 0x0, 15, 0⟩
def TIM_GMIDLO.reg : Fld := ⟨0x10005c, 0x0, 0x0, 31, 0⟩
def TIM_GMIDLO.ID : Fld := ⟨0x10005c, 0x0, 0x0, 31, 0⟩
def TIM_GMIDHI.reg : Fld := ⟨0x100060, 0x0, 0x0, 31, 0⟩
def TIM_GMIDHI.ID : Fld := ⟨0x100060, 0x0, 0x0, 31, 0⟩
def TIM_ANNDROP.reg : Fld := ⟨0x100064, 0x0, 0x0, 31, 0⟩
def TIM_ANNDROP.COUNT : Fld := ⟨0x100064, 0x0, 0x0, 31, 0⟩
def TIM_PTPERR.reg : Fld := ⟨0x100068, 0x0, 0x0, 31, 0⟩
def TIM_PTPERR.COUNT : Fld := ⟨0x100068, 0x0, 0x0, 31, 0⟩
def TIM_PPSCNT.reg : Fld := ⟨0x10006c, 0x0, 0x0, 31, 0⟩
def TIM_PPSCNT.NOISE : Fld := ⟨0x10006c, 0x0, 0x0, 31, 16⟩
def TIM_PPSCNT.EDGES : Fld := ⟨0x10006c, 0x0, 0x0, 15, 0⟩
def TIM_SEC.reg : Fld := ⟨0x100100, 0x4, 0x0, 31, 0⟩
def TIM_SEC.SEC : Fld := ⟨0x100100, 0x4, 0x0, 31, 0⟩
def TIM_NS.reg : Fld := ⟨0x100108, 0x0, 0x0, 31, 0⟩
def TIM_NS.NS : Fld := ⟨0x100108, 0x0, 0x0, 31, 0⟩
def TIM_FRAC.reg : Fld := ⟨0x10010c, 0x0, 0x0, 31, 0⟩
def TIM_FRAC.FRAC : Fld := ⟨0x10010c, 0x0, 0x0, 31, 0⟩
def TIM_INCF.reg : Fld := ⟨0x100110, 0x0, 0x0, 31, 0⟩
def TIM_INCF.FRAC : Fld := ⟨0x100110, 0x0, 0x0, 31, 0⟩
def TIM_INCI.reg : Fld := ⟨0x100114, 0x0, 0x0, 31, 0⟩
def TIM_INCI.INT : Fld := ⟨0x100114, 0x0, 0x0, 7, 0⟩
def TIM_ADJ.reg : Fld := ⟨0x100118, 0x0, 0x0, 31, 0⟩
def TIM_ADJ.RATE : Fld := ⟨0x100118, 0x0, 0x0, 31, 0⟩
def TIM_SLEW.reg : Fld := ⟨0x10011c, 0x0, 0x0, 31, 0⟩
def TIM_SLEW.SLEW : Fld := ⟨0x10011c, 0x0, 0x0, 23, 0⟩
def TIM_APPLIED.reg : Fld := ⟨0x100120, 0x0, 0x0, 31, 0⟩
def TIM_APPLIED.RATE : Fld := ⟨0x100120, 0x0, 0x0, 31, 0⟩
def TIM_STEPSECLO.reg : Fld := ⟨0x100124, 0x0, 0x0, 31, 0⟩
def TIM_STEPSECLO.SEC : Fld := ⟨0x100124, 0x0, 0x0, 31, 0⟩
def TIM_STEPSECHI.reg : Fld := ⟨0x100128, 0x0, 0x0, 31, 0⟩
def TIM_STEPSECHI.SEC : Fld := ⟨0x100128, 0x0, 0x0, 15, 0⟩
def TIM_STEPNS.reg : Fld := ⟨0x10012c, 0x0, 0x0, 31, 0⟩
def TIM_STEPNS.NS : Fld := ⟨0x10012c, 0x0, 0x0, 29, 0⟩
def TIM_STEPCMD.reg : Fld := ⟨0x100130, 0x0, 0x0, 31, 0⟩
def TIM_STEPCMD.BUSY : Fld := ⟨0x100130, 0x0, 0x0, 31, 31⟩
def TIM_STEPCMD.FLOAD : Fld := ⟨0x100130, 0x0, 0x0, 1, 1⟩
def TIM_STEPCMD.GO : Fld := ⟨0x100130, 0x0, 0x0, 0, 0⟩
def TIM_SVGAIN.reg : Fld := ⟨0x100140, 0x0, 0x0, 31, 0⟩
def TIM_SVGAIN.KP : Fld := ⟨0x100140, 0x0, 0x0, 31, 16⟩
def TIM_SVGAIN.KI : Fld := ⟨0x100140, 0x0, 0x0, 15, 0⟩
def TIM_SVLIM.reg : Fld := ⟨0x100144, 0x0, 0x0, 31, 0⟩
def TIM_SVLIM.LOCK : Fld := ⟨0x100144, 0x0, 0x0, 31, 20⟩
def TIM_SVLIM.UNLOCK : Fld := ⟨0x100144, 0x0, 0x0, 19, 4⟩
def TIM_SVLIM.LOCKCNT : Fld := ⟨0x100144, 0x0, 0x0, 3, 2⟩
def TIM_SVLIM.SYNCTO : Fld := ⟨0x100144, 0x0, 0x0, 1, 0⟩
def TIM_SVPANIC.reg : Fld := ⟨0x100148, 0x0, 0x0, 31, 0⟩
def TIM_SVPANIC.PANIC : Fld := ⟨0x100148, 0x0, 0x0, 31, 0⟩
def TIM_TXLAT.reg : Fld := ⟨0x100180, 0x8, 0x0, 31, 0⟩
def TIM_TXLAT.LAT : Fld := ⟨0x100180, 0x8, 0x0, 31, 0⟩
def TIM_RXLAT.reg : Fld := ⟨0x100184, 0x8, 0x0, 31, 0⟩
def TIM_RXLAT.LAT : Fld := ⟨0x100184, 0x8, 0x0, 31, 0⟩
def TIM_CMPNS.reg : Fld := ⟨0x100200, 0x10, 0x0, 31, 0⟩
def TIM_CMPNS.NS : Fld := ⟨0x100200, 0x10, 0x0, 29, 0⟩
def TIM_CMPSECLO.reg : Fld := ⟨0x100204, 0x10, 0x0, 31, 0⟩
def TIM_CMPSECLO.SEC : Fld := ⟨0x100204, 0x10, 0x0, 31, 0⟩
def TIM_CMPSECHI.reg : Fld := ⟨0x100208, 0x10, 0x0, 31, 0⟩
def TIM_CMPSECHI.SEC : Fld := ⟨0x100208, 0x10, 0x0, 15, 0⟩
def TIM_CMPPER.reg : Fld := ⟨0x10020c, 0x10, 0x0, 31, 0⟩
def TIM_CMPPER.PERIOD : Fld := ⟨0x10020c, 0x10, 0x0, 31, 0⟩
def TIM_CMPEN.reg : Fld := ⟨0x100280, 0x0, 0x0, 31, 0⟩
def TIM_CMPEN.EN : Fld := ⟨0x100280, 0x0, 0x0, 7, 0⟩
def TIM_CAPTNS.reg : Fld := ⟨0x100300, 0x10, 0x0, 31, 0⟩
def TIM_CAPTNS.NS : Fld := ⟨0x100300, 0x10, 0x0, 31, 0⟩
def TIM_CAPTSECLO.reg : Fld := ⟨0x100304, 0x10, 0x0, 31, 0⟩
def TIM_CAPTSECLO.SEC : Fld := ⟨0x100304, 0x10, 0x0, 31, 0⟩
def TIM_CAPTSECHI.reg : Fld := ⟨0x100308, 0x10, 0x0, 31, 0⟩
def TIM_CAPTSECHI.FRAC : Fld := ⟨0x100308, 0x10, 0x0, 31, 16⟩
def TIM_CAPTSECHI.SECHI : Fld := ⟨0x100308, 0x10, 0x0, 15, 0⟩
def TIM_CAPTST.reg : Fld := ⟨0x10030c, 0x10, 0x0, 31, 0⟩
def TIM_CAPTST.OVER : Fld := ⟨0x10030c, 0x10, 0x0, 1, 1⟩
def TIM_CAPTST.VALID : Fld := ⟨0x10030c, 0x10, 0x0, 0, 0⟩
def TIM_RAWCFG.reg : Fld := ⟨0x100400, 0x0, 0x0, 31, 0⟩
def TIM_RAWCFG.EN : Fld := ⟨0x100400, 0x0, 0x0, 31, 31⟩
def TIM_RAWCFG.DEPTH : Fld := ⟨0x100400, 0x0, 0x0, 23, 16⟩
def TIM_RAWCFG.LOST : Fld := ⟨0x100400, 0x0, 0x0, 15, 0⟩
def TIM_RAWPOP.reg : Fld := ⟨0x100404, 0x0, 0x0, 31, 0⟩
def TIM_RAWPOP.POP : Fld := ⟨0x100404, 0x0, 0x0, 31, 0⟩
def TIM_RAW.reg : Fld := ⟨0x100440, 0x4, 0x0, 31, 0⟩
def TIM_RAW.WORD : Fld := ⟨0x100440, 0x4, 0x0, 31, 0⟩
/-! LNP (spec/07) -/
def LNP_ID.reg : Fld := ⟨0x200000, 0x0, 0x0, 31, 0⟩
def LNP_ID.UNIT : Fld := ⟨0x200000, 0x0, 0x0, 31, 16⟩
def LNP_ID.VERSION : Fld := ⟨0x200000, 0x0, 0x0, 15, 0⟩
def LNP_LEVEL.reg : Fld := ⟨0x200004, 0x0, 0x0, 31, 0⟩
def LNP_LEVEL.EXPERT : Fld := ⟨0x200004, 0x0, 0x0, 0, 0⟩
def LNP_CFG.reg : Fld := ⟨0x200100, 0x4000, 0x0, 31, 0⟩
def LNP_CFG.TXINV : Fld := ⟨0x200100, 0x4000, 0x0, 4, 4⟩
def LNP_CFG.RATEMAX : Fld := ⟨0x200100, 0x4000, 0x0, 2, 0⟩
def LNP_CTL.reg : Fld := ⟨0x200104, 0x4000, 0x0, 31, 0⟩
def LNP_CTL.REBASE : Fld := ⟨0x200104, 0x4000, 0x0, 1, 1⟩
def LNP_CTL.RETRAIN : Fld := ⟨0x200104, 0x4000, 0x0, 0, 0⟩
def LNP_STAT.reg : Fld := ⟨0x200108, 0x4000, 0x0, 31, 0⟩
def LNP_STAT.PRESET : Fld := ⟨0x200108, 0x4000, 0x0, 19, 16⟩
def LNP_STAT.READY : Fld := ⟨0x200108, 0x4000, 0x0, 15, 15⟩
def LNP_STAT.RXINV : Fld := ⟨0x200108, 0x4000, 0x0, 14, 14⟩
def LNP_STAT.LOCK : Fld := ⟨0x200108, 0x4000, 0x0, 13, 13⟩
def LNP_STAT.RATE : Fld := ⟨0x200108, 0x4000, 0x0, 10, 8⟩
def LNP_STAT.BACKOFFK : Fld := ⟨0x200108, 0x4000, 0x0, 7, 4⟩
def LNP_STAT.STATE : Fld := ⟨0x200108, 0x4000, 0x0, 3, 0⟩
def LNP_PARTNER.reg : Fld := ⟨0x20010c, 0x4000, 0x0, 31, 0⟩
def LNP_PARTNER.GROUPTAG : Fld := ⟨0x20010c, 0x4000, 0x0, 31, 24⟩
def LNP_PARTNER.LANE : Fld := ⟨0x20010c, 0x4000, 0x0, 23, 20⟩
def LNP_PARTNER.WIDTH : Fld := ⟨0x20010c, 0x4000, 0x0, 19, 17⟩
def LNP_PARTNER.LOOPCAP : Fld := ⟨0x20010c, 0x4000, 0x0, 16, 16⟩
def LNP_PARTNER.RATES : Fld := ⟨0x20010c, 0x4000, 0x0, 13, 8⟩
def LNP_PARTNER.ROLE : Fld := ⟨0x20010c, 0x4000, 0x0, 0, 0⟩
def LNP_EQBASIC.reg : Fld := ⟨0x200110, 0x4000, 0x0, 31, 0⟩
def LNP_EQBASIC.TXAMP : Fld := ⟨0x200110, 0x4000, 0x0, 17, 16⟩
def LNP_EQBASIC.MODE : Fld := ⟨0x200110, 0x4000, 0x0, 8, 8⟩
def LNP_EQBASIC.PRESET : Fld := ⟨0x200110, 0x4000, 0x0, 2, 0⟩
def LNP_LPCFG.reg : Fld := ⟨0x200114, 0x4000, 0x0, 31, 0⟩
def LNP_LPCFG.DEEPOK : Fld := ⟨0x200114, 0x4000, 0x0, 16, 16⟩
def LNP_LPCFG.QUIETIDLE : Fld := ⟨0x200114, 0x4000, 0x0, 15, 0⟩
def LNP_LPCTL.reg : Fld := ⟨0x200118, 0x4000, 0x0, 31, 0⟩
def LNP_LPCTL.WAKE : Fld := ⟨0x200118, 0x4000, 0x0, 1, 1⟩
def LNP_LPCTL.DEEP : Fld := ⟨0x200118, 0x4000, 0x0, 0, 0⟩
def LNP_MONCFG.reg : Fld := ⟨0x20011c, 0x4000, 0x0, 31, 0⟩
def LNP_MONCFG.WARNPCT : Fld := ⟨0x20011c, 0x4000, 0x0, 15, 8⟩
def LNP_MONCFG.PERIOD : Fld := ⟨0x20011c, 0x4000, 0x0, 7, 1⟩
def LNP_MONCFG.EN : Fld := ⟨0x20011c, 0x4000, 0x0, 0, 0⟩
def LNP_TXFIR.reg : Fld := ⟨0x200140, 0x4000, 0x0, 31, 0⟩
def LNP_TXFIR.FOLLOW : Fld := ⟨0x200140, 0x4000, 0x0, 31, 31⟩
def LNP_TXFIR.PRE : Fld := ⟨0x200140, 0x4000, 0x0, 21, 16⟩
def LNP_TXFIR.MAIN : Fld := ⟨0x200140, 0x4000, 0x0, 13, 8⟩
def LNP_TXFIR.POST : Fld := ⟨0x200140, 0x4000, 0x0, 5, 0⟩
def LNP_RXEQ.reg : Fld := ⟨0x200144, 0x4000, 0x0, 31, 0⟩
def LNP_RXEQ.ADAPT : Fld := ⟨0x200144, 0x4000, 0x0, 31, 31⟩
def LNP_RXEQ.CTLE : Fld := ⟨0x200144, 0x4000, 0x0, 27, 24⟩
def LNP_RXEQ.DFE1 : Fld := ⟨0x200144, 0x4000, 0x0, 23, 18⟩
def LNP_RXEQ.DFE2 : Fld := ⟨0x200144, 0x4000, 0x0, 17, 12⟩
def LNP_RXEQ.DFE3 : Fld := ⟨0x200144, 0x4000, 0x0, 11, 6⟩
def LNP_PRESETS.reg : Fld := ⟨0x200148, 0x4000, 0x0, 31, 0⟩
def LNP_PRESETS.MASK : Fld := ⟨0x200148, 0x4000, 0x0, 7, 0⟩
def LNP_TMO.reg : Fld := ⟨0x20014c, 0x4000, 0x0, 31, 0⟩
def LNP_TMO.DETECT : Fld := ⟨0x20014c, 0x4000, 0x0, 31, 24⟩
def LNP_TMO.EQ : Fld := ⟨0x20014c, 0x4000, 0x0, 23, 16⟩
def LNP_TMO.BOND : Fld := ⟨0x20014c, 0x4000, 0x0, 15, 8⟩
def LNP_TMO2.reg : Fld := ⟨0x200150, 0x4000, 0x0, 31, 0⟩
def LNP_TMO2.BACKMAX : Fld := ⟨0x200150, 0x4000, 0x0, 31, 16⟩
def LNP_TMO2.BACKMIN : Fld := ⟨0x200150, 0x4000, 0x0, 15, 0⟩
def LNP_MONTH.reg : Fld := ⟨0x200154, 0x4000, 0x0, 31, 0⟩
def LNP_MONTH.WARNV : Fld := ⟨0x200154, 0x4000, 0x0, 23, 16⟩
def LNP_MONTH.WARNH : Fld := ⟨0x200154, 0x4000, 0x0, 15, 8⟩
def LNP_MONTH.DWELL : Fld := ⟨0x200154, 0x4000, 0x0, 7, 0⟩
def LNP_MONTH2.reg : Fld := ⟨0x200158, 0x4000, 0x0, 31, 0⟩
def LNP_MONTH2.ALARMV : Fld := ⟨0x200158, 0x4000, 0x0, 15, 8⟩
def LNP_MONTH2.ALARMH : Fld := ⟨0x200158, 0x4000, 0x0, 7, 0⟩
def LNP_TRNFAIL.reg : Fld := ⟨0x200180, 0x4000, 0x0, 31, 0⟩
def LNP_TRNFAIL.STATE : Fld := ⟨0x200180, 0x4000, 0x0, 31, 28⟩
def LNP_TRNFAIL.REASON : Fld := ⟨0x200180, 0x4000, 0x0, 27, 24⟩
def LNP_TRNFAIL.COUNT : Fld := ⟨0x200180, 0x4000, 0x0, 23, 0⟩
def LNP_BADHDR.reg : Fld := ⟨0x200184, 0x4000, 0x0, 31, 0⟩
def LNP_BADHDR.COUNT : Fld := ⟨0x200184, 0x4000, 0x0, 31, 0⟩
def LNP_LOCKCNT.reg : Fld := ⟨0x200188, 0x4000, 0x0, 31, 0⟩
def LNP_LOCKCNT.LOSS : Fld := ⟨0x200188, 0x4000, 0x0, 15, 0⟩
def LNP_TYPECNT.reg : Fld := ⟨0x20018c, 0x4000, 0x0, 31, 0⟩
def LNP_TYPECNT.FIXED : Fld := ⟨0x20018c, 0x4000, 0x0, 31, 24⟩
def LNP_TYPECNT.BAD : Fld := ⟨0x20018c, 0x4000, 0x0, 23, 16⟩
def LNP_TYPECNT.TRAINBAD : Fld := ⟨0x20018c, 0x4000, 0x0, 15, 8⟩
def LNP_TYPECNT.LPIERR : Fld := ⟨0x20018c, 0x4000, 0x0, 7, 0⟩
def LNP_EBADJ.reg : Fld := ⟨0x200190, 0x4000, 0x0, 31, 0⟩
def LNP_EBADJ.INS : Fld := ⟨0x200190, 0x4000, 0x0, 31, 16⟩
def LNP_EBADJ.DEL : Fld := ⟨0x200190, 0x4000, 0x0, 15, 0⟩
def LNP_EBSLIP.reg : Fld := ⟨0x200194, 0x4000, 0x0, 31, 0⟩
def LNP_EBSLIP.SLIP : Fld := ⟨0x200194, 0x4000, 0x0, 15, 0⟩
def LNP_MARGIN.reg : Fld := ⟨0x2001c0, 0x4000, 0x0, 31, 0⟩
def LNP_MARGIN.BASEV : Fld := ⟨0x2001c0, 0x4000, 0x0, 31, 24⟩
def LNP_MARGIN.BASEH : Fld := ⟨0x2001c0, 0x4000, 0x0, 23, 16⟩
def LNP_MARGIN.CURV : Fld := ⟨0x2001c0, 0x4000, 0x0, 15, 8⟩
def LNP_MARGIN.CURH : Fld := ⟨0x2001c0, 0x4000, 0x0, 7, 0⟩
def LNP_MARGIN2.reg : Fld := ⟨0x2001c4, 0x4000, 0x0, 31, 0⟩
def LNP_MARGIN2.BASEVALID : Fld := ⟨0x2001c4, 0x4000, 0x0, 2, 2⟩
def LNP_MARGIN2.LEVEL : Fld := ⟨0x2001c4, 0x4000, 0x0, 1, 0⟩
def LNP_ESCFG.reg : Fld := ⟨0x200200, 0x4000, 0x0, 31, 0⟩
def LNP_ESCFG.VMAX : Fld := ⟨0x200200, 0x4000, 0x0, 31, 25⟩
def LNP_ESCFG.VMIN : Fld := ⟨0x200200, 0x4000, 0x0, 24, 18⟩
def LNP_ESCFG.HMAX : Fld := ⟨0x200200, 0x4000, 0x0, 17, 12⟩
def LNP_ESCFG.HMIN : Fld := ⟨0x200200, 0x4000, 0x0, 11, 6⟩
def LNP_ESCFG2.reg : Fld := ⟨0x200204, 0x4000, 0x0, 31, 0⟩
def LNP_ESCFG2.DWELL : Fld := ⟨0x200204, 0x4000, 0x0, 13, 8⟩
def LNP_ESCFG2.VSTEP : Fld := ⟨0x200204, 0x4000, 0x0, 7, 4⟩
def LNP_ESCFG2.HSTEP : Fld := ⟨0x200204, 0x4000, 0x0, 3, 0⟩
def LNP_ESCTL.reg : Fld := ⟨0x200208, 0x4000, 0x0, 31, 0⟩
def LNP_ESCTL.ABORT : Fld := ⟨0x200208, 0x4000, 0x0, 1, 1⟩
def LNP_ESCTL.START : Fld := ⟨0x200208, 0x4000, 0x0, 0, 0⟩
def LNP_ESSTAT.reg : Fld := ⟨0x20020c, 0x4000, 0x0, 31, 0⟩
def LNP_ESSTAT.DONE : Fld := ⟨0x20020c, 0x4000, 0x0, 31, 31⟩
def LNP_ESSTAT.RUNNING : Fld := ⟨0x20020c, 0x4000, 0x0, 30, 30⟩
def LNP_ESSTAT.POINT : Fld := ⟨0x20020c, 0x4000, 0x0, 12, 0⟩
def LNP_ESIDX.reg : Fld := ⟨0x200210, 0x4000, 0x0, 31, 0⟩
def LNP_ESIDX.IDX : Fld := ⟨0x200210, 0x4000, 0x0, 12, 0⟩
def LNP_ESDATA.reg : Fld := ⟨0x200214, 0x4000, 0x0, 31, 0⟩
def LNP_ESDATA.DATA : Fld := ⟨0x200214, 0x4000, 0x0, 31, 0⟩
def LNP_LOOP.reg : Fld := ⟨0x200240, 0x4000, 0x0, 31, 0⟩
def LNP_LOOP.MODE : Fld := ⟨0x200240, 0x4000, 0x0, 1, 0⟩
def LNP_PRBS.reg : Fld := ⟨0x200244, 0x4000, 0x0, 31, 0⟩
def LNP_PRBS.SYNC : Fld := ⟨0x200244, 0x4000, 0x0, 6, 6⟩
def LNP_PRBS.CHK : Fld := ⟨0x200244, 0x4000, 0x0, 5, 5⟩
def LNP_PRBS.GEN : Fld := ⟨0x200244, 0x4000, 0x0, 4, 4⟩
def LNP_PRBS.SEQ : Fld := ⟨0x200244, 0x4000, 0x0, 1, 0⟩
def LNP_PRBSERR.reg : Fld := ⟨0x200248, 0x4000, 0x0, 31, 0⟩
def LNP_PRBSERR.COUNT : Fld := ⟨0x200248, 0x4000, 0x0, 31, 0⟩
def LNP_PRBSBITS.reg : Fld := ⟨0x20024c, 0x4000, 0x4, 31, 0⟩
def LNP_PRBSBITS.COUNT : Fld := ⟨0x20024c, 0x4000, 0x4, 31, 0⟩
def LNP_INJ.reg : Fld := ⟨0x200260, 0x4000, 0x0, 31, 0⟩
def LNP_INJ.SKIPGAP : Fld := ⟨0x200260, 0x4000, 0x0, 4, 4⟩
def LNP_INJ.TRAINCRC : Fld := ⟨0x200260, 0x4000, 0x0, 3, 3⟩
def LNP_INJ.TYPE2 : Fld := ⟨0x200260, 0x4000, 0x0, 2, 2⟩
def LNP_INJ.BIT : Fld := ⟨0x200260, 0x4000, 0x0, 1, 1⟩
def LNP_INJ.HDR : Fld := ⟨0x200260, 0x4000, 0x0, 0, 0⟩
def LNP_LINKMAP.reg : Fld := ⟨0x240000, 0x0, 0x0, 31, 0⟩
def LNP_LINKMAP.MAP : Fld := ⟨0x240000, 0x0, 0x0, 15, 0⟩
def LNP_ALARMMAP.reg : Fld := ⟨0x240004, 0x0, 0x0, 31, 0⟩
def LNP_ALARMMAP.ALARM : Fld := ⟨0x240004, 0x0, 0x0, 31, 16⟩
def LNP_ALARMMAP.WARN : Fld := ⟨0x240004, 0x0, 0x0, 15, 0⟩
/-! CLP (spec/08) -/
def CLP_ID.reg : Fld := ⟨0x300000, 0x0, 0x0, 31, 0⟩
def CLP_ID.UNIT : Fld := ⟨0x300000, 0x0, 0x0, 31, 16⟩
def CLP_ID.VERSION : Fld := ⟨0x300000, 0x0, 0x0, 15, 0⟩
def CLP_LEVEL.reg : Fld := ⟨0x300004, 0x0, 0x0, 31, 0⟩
def CLP_LEVEL.EXPERT : Fld := ⟨0x300004, 0x0, 0x0, 0, 0⟩
def CLP_LSTAT.reg : Fld := ⟨0x300100, 0x2000, 0x0, 31, 0⟩
def CLP_LSTAT.TXACT : Fld := ⟨0x300100, 0x2000, 0x0, 31, 31⟩
def CLP_LSTAT.RXACT : Fld := ⟨0x300100, 0x2000, 0x0, 30, 30⟩
def CLP_LSTAT.DESKEW : Fld := ⟨0x300100, 0x2000, 0x0, 29, 29⟩
def CLP_LSTAT.INDEX : Fld := ⟨0x300100, 0x2000, 0x0, 27, 24⟩
def CLP_LSTAT.GROUP : Fld := ⟨0x300100, 0x2000, 0x0, 19, 16⟩
def CLP_LSTAT.SKEW : Fld := ⟨0x300100, 0x2000, 0x0, 15, 8⟩
def CLP_LERR.reg : Fld := ⟨0x300104, 0x2000, 0x0, 31, 0⟩
def CLP_LERR.ERRBLK : Fld := ⟨0x300104, 0x2000, 0x0, 31, 16⟩
def CLP_LERR.ALIGNBAD : Fld := ⟨0x300104, 0x2000, 0x0, 15, 0⟩
def CLP_GSTAT.reg : Fld := ⟨0x300200, 0x2000, 0x0, 31, 0⟩
def CLP_GSTAT.STATE : Fld := ⟨0x300200, 0x2000, 0x0, 31, 28⟩
def CLP_GSTAT.WIDTH : Fld := ⟨0x300200, 0x2000, 0x0, 27, 25⟩
def CLP_GSTAT.RXSET : Fld := ⟨0x300200, 0x2000, 0x0, 23, 16⟩
def CLP_GSTAT.TXSET : Fld := ⟨0x300200, 0x2000, 0x0, 15, 8⟩
def CLP_GSTAT.RXOK : Fld := ⟨0x300200, 0x2000, 0x0, 7, 0⟩
def CLP_GCFG.reg : Fld := ⟨0x300204, 0x2000, 0x0, 31, 0⟩
def CLP_GCFG.EVEN : Fld := ⟨0x300204, 0x2000, 0x0, 31, 31⟩
def CLP_GCFG.EVSTREAM : Fld := ⟨0x300204, 0x2000, 0x0, 29, 24⟩
def CLP_RELCFG.reg : Fld := ⟨0x300208, 0x2000, 0x0, 31, 0⟩
def CLP_RELCFG.PATIENCE : Fld := ⟨0x300208, 0x2000, 0x0, 7, 4⟩
def CLP_RELCFG.ACKCOAL : Fld := ⟨0x300208, 0x2000, 0x0, 3, 0⟩
def CLP_SEQ.reg : Fld := ⟨0x30020c, 0x2000, 0x0, 31, 0⟩
def CLP_SEQ.RXNEXT : Fld := ⟨0x30020c, 0x2000, 0x0, 27, 16⟩
def CLP_SEQ.TXNEXT : Fld := ⟨0x30020c, 0x2000, 0x0, 11, 0⟩
def CLP_SEQ2.reg : Fld := ⟨0x300210, 0x2000, 0x0, 31, 0⟩
def CLP_SEQ2.OUT : Fld := ⟨0x300210, 0x2000, 0x0, 23, 16⟩
def CLP_SEQ2.ACKD : Fld := ⟨0x300210, 0x2000, 0x0, 11, 0⟩
def CLP_RELCNT.reg : Fld := ⟨0x300214, 0x2000, 0x0, 31, 0⟩
def CLP_RELCNT.LINKFAIL : Fld := ⟨0x300214, 0x2000, 0x0, 31, 24⟩
def CLP_RELCNT.NAKRX : Fld := ⟨0x300214, 0x2000, 0x0, 23, 16⟩
def CLP_RELCNT.NAKTX : Fld := ⟨0x300214, 0x2000, 0x0, 15, 8⟩
def CLP_RELCNT.STALEACK : Fld := ⟨0x300214, 0x2000, 0x0, 7, 0⟩
def CLP_REPLAYS.reg : Fld := ⟨0x300218, 0x2000, 0x0, 31, 0⟩
def CLP_REPLAYS.COUNT : Fld := ⟨0x300218, 0x2000, 0x0, 31, 0⟩
def CLP_DUP.reg : Fld := ⟨0x30021c, 0x2000, 0x0, 31, 0⟩
def CLP_DUP.COUNT : Fld := ⟨0x30021c, 0x2000, 0x0, 15, 0⟩
def CLP_LOST.reg : Fld := ⟨0x300220, 0x2000, 0x0, 31, 0⟩
def CLP_LOST.COUNT : Fld := ⟨0x300220, 0x2000, 0x0, 15, 0⟩
def CLP_LINKDLY.reg : Fld := ⟨0x300224, 0x2000, 0x0, 31, 0⟩
def CLP_LINKDLY.VALID : Fld := ⟨0x300224, 0x2000, 0x0, 31, 31⟩
def CLP_LINKDLY.DLY : Fld := ⟨0x300224, 0x2000, 0x0, 23, 0⟩
def CLP_PART0.reg : Fld := ⟨0x300228, 0x2000, 0x0, 31, 0⟩
def CLP_PART0.MODEL : Fld := ⟨0x300228, 0x2000, 0x0, 31, 16⟩
def CLP_PART0.VENDOR : Fld := ⟨0x300228, 0x2000, 0x0, 15, 0⟩
def CLP_PART1.reg : Fld := ⟨0x30022c, 0x2000, 0x0, 31, 0⟩
def CLP_PART1.RBUF : Fld := ⟨0x30022c, 0x2000, 0x0, 31, 16⟩
def CLP_PART1.NVSID : Fld := ⟨0x30022c, 0x2000, 0x0, 15, 8⟩
def CLP_PART1.PROTO : Fld := ⟨0x30022c, 0x2000, 0x0, 7, 0⟩
def CLP_SERLO.reg : Fld := ⟨0x300230, 0x2000, 0x0, 31, 0⟩
def CLP_SERLO.SERIAL : Fld := ⟨0x300230, 0x2000, 0x0, 31, 0⟩
def CLP_SERHI.reg : Fld := ⟨0x300234, 0x2000, 0x0, 31, 0⟩
def CLP_SERHI.SERIAL : Fld := ⟨0x300234, 0x2000, 0x0, 31, 0⟩
def CLP_EVTCNT.reg : Fld := ⟨0x300238, 0x2000, 0x0, 31, 0⟩
def CLP_EVTCNT.LASTEVT : Fld := ⟨0x300238, 0x2000, 0x0, 31, 24⟩
def CLP_EVTCNT.COUNT : Fld := ⟨0x300238, 0x2000, 0x0, 23, 0⟩
def CLP_BADPKT.reg : Fld := ⟨0x30023c, 0x2000, 0x0, 31, 0⟩
def CLP_BADPKT.CRC : Fld := ⟨0x30023c, 0x2000, 0x0, 31, 16⟩
def CLP_BADPKT.PROTO : Fld := ⟨0x30023c, 0x2000, 0x0, 15, 0⟩
def CLP_RTO.reg : Fld := ⟨0x300280, 0x2000, 0x0, 31, 0⟩
def CLP_RTO.RTO : Fld := ⟨0x300280, 0x2000, 0x0, 23, 0⟩
def CLP_ACKCFG.reg : Fld := ⟨0x300284, 0x2000, 0x0, 31, 0⟩
def CLP_ACKCFG.ACKDLY : Fld := ⟨0x300284, 0x2000, 0x0, 31, 24⟩
def CLP_ACKCFG.ACKCNT : Fld := ⟨0x300284, 0x2000, 0x0, 23, 16⟩
def CLP_ACKCFG.REPLAYMAX : Fld := ⟨0x300284, 0x2000, 0x0, 15, 8⟩
def CLP_ACKCFG.ALIGNINT : Fld := ⟨0x300284, 0x2000, 0x0, 7, 0⟩
def CLP_CCCTL.reg : Fld := ⟨0x300300, 0x2000, 0x0, 31, 0⟩
def CLP_CCCTL.BUSY : Fld := ⟨0x300300, 0x2000, 0x0, 31, 31⟩
def CLP_CCCTL.GO : Fld := ⟨0x300300, 0x2000, 0x0, 30, 30⟩
def CLP_CCCTL.STATUS : Fld := ⟨0x300300, 0x2000, 0x0, 27, 24⟩
def CLP_CCCTL.TAG : Fld := ⟨0x300300, 0x2000, 0x0, 23, 16⟩
def CLP_CCCTL.OP : Fld := ⟨0x300300, 0x2000, 0x0, 7, 7⟩
def CLP_CCCTL.COUNT : Fld := ⟨0x300300, 0x2000, 0x0, 6, 0⟩
def CLP_CCADDR.reg : Fld := ⟨0x300304, 0x2000, 0x0, 31, 0⟩
def CLP_CCADDR.ADDR : Fld := ⟨0x300304, 0x2000, 0x0, 31, 0⟩
def CLP_CCTO.reg : Fld := ⟨0x300308, 0x2000, 0x0, 31, 0⟩
def CLP_CCTO.MS : Fld := ⟨0x300308, 0x2000, 0x0, 7, 0⟩
def CLP_CCDATA.reg : Fld := ⟨0x300400, 0x2000, 0x4, 31, 0⟩
def CLP_CCDATA.DATA : Fld := ⟨0x300400, 0x2000, 0x4, 31, 0⟩
def CLP_TIMECFG.reg : Fld := ⟨0x320000, 0x0, 0x0, 31, 0⟩
def CLP_TIMECFG.PINGINT : Fld := ⟨0x320000, 0x0, 0x0, 31, 16⟩
def CLP_TIMECFG.PERIOD : Fld := ⟨0x320000, 0x0, 0x0, 15, 0⟩
def CLP_DISCARD.reg : Fld := ⟨0x320004, 0x0, 0x0, 31, 0⟩
def CLP_DISCARD.COUNT : Fld := ⟨0x320004, 0x0, 0x0, 31, 0⟩
def CLP_GROUPMAP.reg : Fld := ⟨0x320008, 0x0, 0x0, 31, 0⟩
def CLP_GROUPMAP.DISC : Fld := ⟨0x320008, 0x0, 0x0, 15, 0⟩
def CLP_STREAM0.reg : Fld := ⟨0x321000, 0x10, 0x0, 31, 0⟩
def CLP_STREAM0.EN : Fld := ⟨0x321000, 0x10, 0x0, 31, 31⟩
def CLP_STREAM0.GROUP : Fld := ⟨0x321000, 0x10, 0x0, 19, 16⟩
def CLP_STREAM0.VSID : Fld := ⟨0x321000, 0x10, 0x0, 10, 8⟩
def CLP_STREAM0.FTO : Fld := ⟨0x321000, 0x10, 0x0, 7, 0⟩
def CLP_STREAM1.reg : Fld := ⟨0x321004, 0x10, 0x0, 31, 0⟩
def CLP_STREAM1.TRIGTO : Fld := ⟨0x321004, 0x10, 0x0, 31, 16⟩
def CLP_STREAM1.LINEBYTES : Fld := ⟨0x321004, 0x10, 0x0, 15, 0⟩
def CLP_STREAM2.reg : Fld := ⟨0x321008, 0x10, 0x0, 31, 0⟩
def CLP_STREAM2.ACTLEAD : Fld := ⟨0x321008, 0x10, 0x0, 31, 8⟩
def CLP_STREAM2.FILL : Fld := ⟨0x321008, 0x10, 0x0, 7, 0⟩
def CLP_STREAM3.reg : Fld := ⟨0x32100c, 0x10, 0x0, 31, 0⟩
def CLP_STREAM3.TRUNC : Fld := ⟨0x32100c, 0x10, 0x0, 31, 16⟩
def CLP_STREAM3.DAMAGED : Fld := ⟨0x32100c, 0x10, 0x0, 15, 0⟩
/-! PAR (spec/09) -/
def PAR_ID.reg : Fld := ⟨0x380000, 0x0, 0x0, 31, 0⟩
def PAR_ID.UNIT : Fld := ⟨0x380000, 0x0, 0x0, 31, 16⟩
def PAR_ID.VERSION : Fld := ⟨0x380000, 0x0, 0x0, 15, 0⟩
def PAR_LEVEL.reg : Fld := ⟨0x380004, 0x0, 0x0, 31, 0⟩
def PAR_LEVEL.EXPERT : Fld := ⟨0x380004, 0x0, 0x0, 0, 0⟩
def PAR_CFG.reg : Fld := ⟨0x380100, 0x40000, 0x0, 31, 0⟩
def PAR_CFG.FORMAT : Fld := ⟨0x380100, 0x40000, 0x0, 31, 24⟩
def PAR_CFG.EXPSRC : Fld := ⟨0x380100, 0x40000, 0x0, 12, 12⟩
def PAR_CFG.SWAPYC : Fld := ⟨0x380100, 0x40000, 0x0, 11, 11⟩
def PAR_CFG.WEAVE : Fld := ⟨0x380100, 0x40000, 0x0, 10, 10⟩
def PAR_CFG.EXPPOL : Fld := ⟨0x380100, 0x40000, 0x0, 9, 9⟩
def PAR_CFG.DEPOL : Fld := ⟨0x380100, 0x40000, 0x0, 8, 8⟩
def PAR_CFG.VSPOL : Fld := ⟨0x380100, 0x40000, 0x0, 7, 7⟩
def PAR_CFG.HSPOL : Fld := ⟨0x380100, 0x40000, 0x0, 6, 6⟩
def PAR_CFG.EDGE : Fld := ⟨0x380100, 0x40000, 0x0, 5, 5⟩
def PAR_CFG.BITS : Fld := ⟨0x380100, 0x40000, 0x0, 4, 2⟩
def PAR_CFG.SYNC : Fld := ⟨0x380100, 0x40000, 0x0, 1, 0⟩
def PAR_SIZE.reg : Fld := ⟨0x380104, 0x40000, 0x0, 31, 0⟩
def PAR_SIZE.WIDTH : Fld := ⟨0x380104, 0x40000, 0x0, 31, 16⟩
def PAR_SIZE.HEIGHT : Fld := ⟨0x380104, 0x40000, 0x0, 15, 0⟩
def PAR_WIN.reg : Fld := ⟨0x380108, 0x40000, 0x0, 31, 0⟩
def PAR_WIN.HSTART : Fld := ⟨0x380108, 0x40000, 0x0, 31, 16⟩
def PAR_WIN.VSTART : Fld := ⟨0x380108, 0x40000, 0x0, 15, 0⟩
def PAR_STREAM.reg : Fld := ⟨0x38010c, 0x40000, 0x0, 31, 0⟩
def PAR_STREAM.EN : Fld := ⟨0x38010c, 0x40000, 0x0, 31, 31⟩
def PAR_STREAM.STREAM : Fld := ⟨0x38010c, 0x40000, 0x0, 29, 24⟩
def PAR_STREAM.FILL : Fld := ⟨0x38010c, 0x40000, 0x0, 7, 0⟩
def PAR_TRIGCFG.reg : Fld := ⟨0x380110, 0x40000, 0x0, 31, 0⟩
def PAR_TRIGCFG.TRIGTO : Fld := ⟨0x380110, 0x40000, 0x0, 15, 0⟩
def PAR_EXPOFS.reg : Fld := ⟨0x380114, 0x40000, 0x0, 31, 0⟩
def PAR_EXPOFS.NS : Fld := ⟨0x380114, 0x40000, 0x0, 31, 0⟩
def PAR_EXPDUR.reg : Fld := ⟨0x380118, 0x40000, 0x0, 31, 0⟩
def PAR_EXPDUR.NS : Fld := ⟨0x380118, 0x40000, 0x0, 31, 0⟩
def PAR_FRAMETO.reg : Fld := ⟨0x38011c, 0x40000, 0x0, 31, 0⟩
def PAR_FRAMETO.MS : Fld := ⟨0x38011c, 0x40000, 0x0, 15, 0⟩
def PAR_STAT.reg : Fld := ⟨0x380140, 0x40000, 0x0, 31, 0⟩
def PAR_STAT.LINE : Fld := ⟨0x380140, 0x40000, 0x0, 31, 16⟩
def PAR_STAT.STATE : Fld := ⟨0x380140, 0x40000, 0x0, 2, 0⟩
def PAR_MEAS0.reg : Fld := ⟨0x380144, 0x40000, 0x0, 31, 0⟩
def PAR_MEAS0.HACT : Fld := ⟨0x380144, 0x40000, 0x0, 31, 16⟩
def PAR_MEAS0.HTOTAL : Fld := ⟨0x380144, 0x40000, 0x0, 15, 0⟩
def PAR_MEAS1.reg : Fld := ⟨0x380148, 0x40000, 0x0, 31, 0⟩
def PAR_MEAS1.VACT : Fld := ⟨0x380148, 0x40000, 0x0, 31, 16⟩
def PAR_MEAS1.VTOTAL : Fld := ⟨0x380148, 0x40000, 0x0, 15, 0⟩
def PAR_MEAS2.reg : Fld := ⟨0x38014c, 0x40000, 0x0, 31, 0⟩
def PAR_MEAS2.FRAMEPER : Fld := ⟨0x38014c, 0x40000, 0x0, 31, 0⟩
def PAR_DISCARD.reg : Fld := ⟨0x380160, 0x40000, 0x0, 31, 0⟩
def PAR_DISCARD.COUNT : Fld := ⟨0x380160, 0x40000, 0x0, 31, 0⟩
def PAR_CODE.reg : Fld := ⟨0x380164, 0x40000, 0x0, 31, 0⟩
def PAR_CODE.FIXED : Fld := ⟨0x380164, 0x40000, 0x0, 31, 16⟩
def PAR_CODE.BAD : Fld := ⟨0x380164, 0x40000, 0x0, 15, 0⟩
def PAR_SYNCLOSS.reg : Fld := ⟨0x380168, 0x40000, 0x0, 31, 0⟩
def PAR_SYNCLOSS.COUNT : Fld := ⟨0x380168, 0x40000, 0x0, 15, 0⟩
def PAR_XLINES.reg : Fld := ⟨0x38016c, 0x40000, 0x0, 31, 0⟩
def PAR_XLINES.COUNT : Fld := ⟨0x38016c, 0x40000, 0x0, 15, 0⟩
def PAR_UNTRIG.reg : Fld := ⟨0x380170, 0x40000, 0x0, 31, 0⟩
def PAR_UNTRIG.UNTRIG : Fld := ⟨0x380170, 0x40000, 0x0, 31, 16⟩
def PAR_UNTRIG.EXPMISS : Fld := ⟨0x380170, 0x40000, 0x0, 15, 0⟩
def PAR_SYNCTH.reg : Fld := ⟨0x380180, 0x40000, 0x0, 31, 0⟩
def PAR_SYNCTH.LINETOL : Fld := ⟨0x380180, 0x40000, 0x0, 31, 24⟩
def PAR_SYNCTH.BADLINES : Fld := ⟨0x380180, 0x40000, 0x0, 23, 16⟩
def PAR_SYNCTH.LINETO : Fld := ⟨0x380180, 0x40000, 0x0, 15, 0⟩
def PAR_IDLY.reg : Fld := ⟨0x380184, 0x40000, 0x0, 31, 0⟩
def PAR_IDLY.DATA : Fld := ⟨0x380184, 0x40000, 0x0, 13, 8⟩
def PAR_IDLY.SYNC : Fld := ⟨0x380184, 0x40000, 0x0, 5, 0⟩
/-! PIX (spec/10) -/
def PIX_ID.reg : Fld := ⟨0x400000, 0x0, 0x0, 31, 0⟩
def PIX_ID.UNIT : Fld := ⟨0x400000, 0x0, 0x0, 31, 16⟩
def PIX_ID.VERSION : Fld := ⟨0x400000, 0x0, 0x0, 15, 0⟩
def PIX_LEVEL.reg : Fld := ⟨0x400004, 0x0, 0x0, 31, 0⟩
def PIX_LEVEL.EXPERT : Fld := ⟨0x400004, 0x0, 0x0, 0, 0⟩
def PIX_SRC.reg : Fld := ⟨0x400100, 0x40000, 0x0, 31, 0⟩
def PIX_SRC.EN : Fld := ⟨0x400100, 0x40000, 0x0, 31, 31⟩
def PIX_SRC.STREAM : Fld := ⟨0x400100, 0x40000, 0x0, 5, 0⟩
def PIX_CTL.reg : Fld := ⟨0x400104, 0x40000, 0x0, 31, 0⟩
def PIX_CTL.HOLD : Fld := ⟨0x400104, 0x40000, 0x0, 0, 0⟩
def PIX_STAT.reg : Fld := ⟨0x400108, 0x40000, 0x0, 31, 0⟩
def PIX_STAT.LINE : Fld := ⟨0x400108, 0x40000, 0x0, 31, 16⟩
def PIX_STAT.BANK : Fld := ⟨0x400108, 0x40000, 0x0, 8, 8⟩
def PIX_STAT.STATE : Fld := ⟨0x400108, 0x40000, 0x0, 2, 0⟩
def PIX_BASIC.reg : Fld := ⟨0x400110, 0x40000, 0x0, 31, 0⟩
def PIX_BASIC.OUTFMT : Fld := ⟨0x400110, 0x40000, 0x0, 31, 24⟩
def PIX_BASIC.SAT : Fld := ⟨0x400110, 0x40000, 0x0, 23, 16⟩
def PIX_BASIC.GAMMA : Fld := ⟨0x400110, 0x40000, 0x0, 15, 14⟩
def PIX_BASIC.CSC : Fld := ⟨0x400110, 0x40000, 0x0, 13, 12⟩
def PIX_BASIC.RANGE : Fld := ⟨0x400110, 0x40000, 0x0, 11, 11⟩
def PIX_BASIC.CFA : Fld := ⟨0x400110, 0x40000, 0x0, 10, 8⟩
def PIX_BASIC.DDSTR : Fld := ⟨0x400110, 0x40000, 0x0, 7, 6⟩
def PIX_BASIC.EDGE : Fld := ⟨0x400110, 0x40000, 0x0, 5, 4⟩
def PIX_STAGES.reg : Fld := ⟨0x400114, 0x40000, 0x0, 31, 0⟩
def PIX_STAGES.LUT : Fld := ⟨0x400114, 0x40000, 0x0, 6, 6⟩
def PIX_STAGES.CCM : Fld := ⟨0x400114, 0x40000, 0x0, 5, 5⟩
def PIX_STAGES.DEMOSAIC : Fld := ⟨0x400114, 0x40000, 0x0, 4, 4⟩
def PIX_STAGES.WB : Fld := ⟨0x400114, 0x40000, 0x0, 3, 3⟩
def PIX_STAGES.SHADE : Fld := ⟨0x400114, 0x40000, 0x0, 2, 2⟩
def PIX_STAGES.SDEF : Fld := ⟨0x400114, 0x40000, 0x0, 1, 1⟩
def PIX_STAGES.BLACK : Fld := ⟨0x400114, 0x40000, 0x0, 0, 0⟩
def PIX_BLACK0.reg : Fld := ⟨0x400118, 0x40000, 0x0, 31, 0⟩
def PIX_BLACK0.GR : Fld := ⟨0x400118, 0x40000, 0x0, 31, 16⟩
def PIX_BLACK0.R : Fld := ⟨0x400118, 0x40000, 0x0, 15, 0⟩
def PIX_BLACK1.reg : Fld := ⟨0x40011c, 0x40000, 0x0, 31, 0⟩
def PIX_BLACK1.B : Fld := ⟨0x40011c, 0x40000, 0x0, 31, 16⟩
def PIX_BLACK1.GB : Fld := ⟨0x40011c, 0x40000, 0x0, 15, 0⟩
def PIX_WB0.reg : Fld := ⟨0x400120, 0x40000, 0x0, 31, 0⟩
def PIX_WB0.GR : Fld := ⟨0x400120, 0x40000, 0x0, 31, 16⟩
def PIX_WB0.R : Fld := ⟨0x400120, 0x40000, 0x0, 15, 0⟩
def PIX_WB1.reg : Fld := ⟨0x400124, 0x40000, 0x0, 31, 0⟩
def PIX_WB1.B : Fld := ⟨0x400124, 0x40000, 0x0, 31, 16⟩
def PIX_WB1.GB : Fld := ⟨0x400124, 0x40000, 0x0, 15, 0⟩
def PIX_OUTSIZE.reg : Fld := ⟨0x400128, 0x40000, 0x0, 31, 0⟩
def PIX_OUTSIZE.W : Fld := ⟨0x400128, 0x40000, 0x0, 31, 16⟩
def PIX_OUTSIZE.H : Fld := ⟨0x400128, 0x40000, 0x0, 15, 0⟩
def PIX_STATCFG.reg : Fld := ⟨0x40012c, 0x40000, 0x0, 31, 0⟩
def PIX_STATCFG.EN : Fld := ⟨0x40012c, 0x40000, 0x0, 31, 31⟩
def PIX_STATCFG.STATCH : Fld := ⟨0x40012c, 0x40000, 0x0, 9, 8⟩
def PIX_STATCFG.GX : Fld := ⟨0x40012c, 0x40000, 0x0, 7, 4⟩
def PIX_STATCFG.GY : Fld := ⟨0x40012c, 0x40000, 0x0, 3, 0⟩
def PIX_SHADECFG.reg : Fld := ⟨0x400130, 0x40000, 0x0, 31, 0⟩
def PIX_SHADECFG.GX : Fld := ⟨0x400130, 0x40000, 0x0, 13, 8⟩
def PIX_SHADECFG.GY : Fld := ⟨0x400130, 0x40000, 0x0, 5, 0⟩
def PIX_ROIA.reg : Fld := ⟨0x400140, 0x40000, 0x8, 31, 0⟩
def PIX_ROIA.X : Fld := ⟨0x400140, 0x40000, 0x8, 31, 16⟩
def PIX_ROIA.Y : Fld := ⟨0x400140, 0x40000, 0x8, 15, 0⟩
def PIX_ROIB.reg : Fld := ⟨0x400144, 0x40000, 0x8, 31, 0⟩
def PIX_ROIB.W : Fld := ⟨0x400144, 0x40000, 0x8, 31, 16⟩
def PIX_ROIB.H : Fld := ⟨0x400144, 0x40000, 0x8, 15, 0⟩
def PIX_ROICTL.reg : Fld := ⟨0x400160, 0x40000, 0x0, 31, 0⟩
def PIX_ROICTL.FULL : Fld := ⟨0x400160, 0x40000, 0x0, 8, 8⟩
def PIX_ROICTL.EN : Fld := ⟨0x400160, 0x40000, 0x0, 3, 0⟩
def PIX_BLGAIN0.reg : Fld := ⟨0x400180, 0x40000, 0x0, 31, 0⟩
def PIX_BLGAIN0.GR : Fld := ⟨0x400180, 0x40000, 0x0, 31, 16⟩
def PIX_BLGAIN0.R : Fld := ⟨0x400180, 0x40000, 0x0, 15, 0⟩
def PIX_BLGAIN1.reg : Fld := ⟨0x400184, 0x40000, 0x0, 31, 0⟩
def PIX_BLGAIN1.B : Fld := ⟨0x400184, 0x40000, 0x0, 31, 16⟩
def PIX_BLGAIN1.GB : Fld := ⟨0x400184, 0x40000, 0x0, 15, 0⟩
def PIX_DEFTH.reg : Fld := ⟨0x400188, 0x40000, 0x0, 31, 0⟩
def PIX_DEFTH.EDGETH : Fld := ⟨0x400188, 0x40000, 0x0, 31, 16⟩
def PIX_DEFTH.DDTH : Fld := ⟨0x400188, 0x40000, 0x0, 15, 0⟩
def PIX_CCM.reg : Fld := ⟨0x400190, 0x40000, 0x4, 31, 0⟩
def PIX_CCM.HI : Fld := ⟨0x400190, 0x40000, 0x4, 31, 16⟩
def PIX_CCM.LO : Fld := ⟨0x400190, 0x40000, 0x4, 15, 0⟩
def PIX_CSCM.reg : Fld := ⟨0x4001b0, 0x40000, 0x4, 31, 0⟩
def PIX_CSCM.HI : Fld := ⟨0x4001b0, 0x40000, 0x4, 31, 16⟩
def PIX_CSCM.LO : Fld := ⟨0x4001b0, 0x40000, 0x4, 15, 0⟩
def PIX_CSCOFS0.reg : Fld := ⟨0x4001c4, 0x40000, 0x0, 31, 0⟩
def PIX_CSCOFS0.OCB : Fld := ⟨0x4001c4, 0x40000, 0x0, 31, 16⟩
def PIX_CSCOFS0.OY : Fld := ⟨0x4001c4, 0x40000, 0x0, 15, 0⟩
def PIX_CSCOFS1.reg : Fld := ⟨0x4001c8, 0x40000, 0x0, 31, 0⟩
def PIX_CSCOFS1.OCR : Fld := ⟨0x4001c8, 0x40000, 0x0, 15, 0⟩
def PIX_SCALE0.reg : Fld := ⟨0x4001d0, 0x40000, 0x0, 31, 0⟩
def PIX_SCALE0.HINC : Fld := ⟨0x4001d0, 0x40000, 0x0, 31, 0⟩
def PIX_SCALE1.reg : Fld := ⟨0x4001d4, 0x40000, 0x0, 31, 0⟩
def PIX_SCALE1.VINC : Fld := ⟨0x4001d4, 0x40000, 0x0, 31, 0⟩
def PIX_FRAMES.reg : Fld := ⟨0x400200, 0x40000, 0x0, 31, 0⟩
def PIX_FRAMES.COUNT : Fld := ⟨0x400200, 0x40000, 0x0, 31, 0⟩
def PIX_OVFCNT.reg : Fld := ⟨0x400204, 0x40000, 0x0, 31, 0⟩
def PIX_OVFCNT.COUNT : Fld := ⟨0x400204, 0x40000, 0x0, 15, 0⟩
def PIX_REFUSED.reg : Fld := ⟨0x400208, 0x40000, 0x0, 31, 0⟩
def PIX_REFUSED.TBL : Fld := ⟨0x400208, 0x40000, 0x0, 31, 20⟩
def PIX_REFUSED.CFG : Fld := ⟨0x400208, 0x40000, 0x0, 19, 10⟩
def PIX_REFUSED.FMT : Fld := ⟨0x400208, 0x40000, 0x0, 9, 0⟩
def PIX_ROIEMPTY.reg : Fld := ⟨0x40020c, 0x40000, 0x0, 31, 0⟩
def PIX_ROIEMPTY.COUNT : Fld := ⟨0x40020c, 0x40000, 0x0, 15, 0⟩
def PIX_BIST.reg : Fld := ⟨0x400210, 0x40000, 0x0, 31, 0⟩
def PIX_BIST.START : Fld := ⟨0x400210, 0x40000, 0x0, 31, 31⟩
def PIX_BIST.RUNNING : Fld := ⟨0x400210, 0x40000, 0x0, 30, 30⟩
def PIX_BIST.RESULT : Fld := ⟨0x400210, 0x40000, 0x0, 29, 28⟩
def PIX_TBL0.reg : Fld := ⟨0x410000, 0x40000, 0x4, 31, 0⟩
def PIX_TBL0.W : Fld := ⟨0x410000, 0x40000, 0x4, 31, 0⟩
def PIX_TBL1.reg : Fld := ⟨0x418000, 0x40000, 0x4, 31, 0⟩
def PIX_TBL1.G : Fld := ⟨0x418000, 0x40000, 0x4, 15, 0⟩
def PIX_TBL2.reg : Fld := ⟨0x420000, 0x40000, 0x4, 31, 0⟩
def PIX_TBL2.M : Fld := ⟨0x420000, 0x40000, 0x4, 15, 0⟩
def PIX_TBL3.reg : Fld := ⟨0x428000, 0x40000, 0x4, 31, 0⟩
def PIX_TBL3.L : Fld := ⟨0x428000, 0x40000, 0x4, 15, 0⟩
def PIX_TBL4.reg : Fld := ⟨0x430000, 0x40000, 0x4, 31, 0⟩
def PIX_TBL4.C : Fld := ⟨0x430000, 0x40000, 0x4, 15, 0⟩
def PIX_BANK0.reg : Fld := ⟨0x438000, 0x40000, 0x4, 31, 0⟩
def PIX_BANK0.W : Fld := ⟨0x438000, 0x40000, 0x4, 31, 0⟩
def PIX_BANK1.reg : Fld := ⟨0x43a000, 0x40000, 0x4, 31, 0⟩
def PIX_BANK1.W : Fld := ⟨0x43a000, 0x40000, 0x4, 31, 0⟩
/-! POS (spec/11) -/
def POS_ID.reg : Fld := ⟨0x500000, 0x0, 0x0, 31, 0⟩
def POS_ID.UNIT : Fld := ⟨0x500000, 0x0, 0x0, 31, 16⟩
def POS_ID.VERSION : Fld := ⟨0x500000, 0x0, 0x0, 15, 0⟩
def POS_LEVEL.reg : Fld := ⟨0x500004, 0x0, 0x0, 31, 0⟩
def POS_LEVEL.EXPERT : Fld := ⟨0x500004, 0x0, 0x0, 0, 0⟩
def POS_CFG.reg : Fld := ⟨0x500100, 0x2000, 0x0, 31, 0⟩
def POS_CFG.EN : Fld := ⟨0x500100, 0x2000, 0x0, 31, 31⟩
def POS_CFG.KIND : Fld := ⟨0x500100, 0x2000, 0x0, 27, 26⟩
def POS_CFG.X : Fld := ⟨0x500100, 0x2000, 0x0, 25, 24⟩
def POS_CFG.SE : Fld := ⟨0x500100, 0x2000, 0x0, 23, 23⟩
def POS_CFG.DIRINV : Fld := ⟨0x500100, 0x2000, 0x0, 22, 22⟩
def POS_CFG.INVZ : Fld := ⟨0x500100, 0x2000, 0x0, 21, 21⟩
def POS_CFG.INVB : Fld := ⟨0x500100, 0x2000, 0x0, 20, 20⟩
def POS_CFG.INVA : Fld := ⟨0x500100, 0x2000, 0x0, 19, 19⟩
def POS_CFG.REFSRC : Fld := ⟨0x500100, 0x2000, 0x0, 18, 17⟩
def POS_CFG.NOISE : Fld := ⟨0x500100, 0x2000, 0x0, 15, 14⟩
def POS_CFG.DIRHYST : Fld := ⟨0x500100, 0x2000, 0x0, 7, 0⟩
def POS_IDXCFG.reg : Fld := ⟨0x500104, 0x2000, 0x0, 31, 0⟩
def POS_IDXCFG.QUALEN : Fld := ⟨0x500104, 0x2000, 0x0, 9, 9⟩
def POS_IDXCFG.QUALA : Fld := ⟨0x500104, 0x2000, 0x0, 7, 7⟩
def POS_IDXCFG.QUALB : Fld := ⟨0x500104, 0x2000, 0x0, 6, 6⟩
def POS_IDXCFG.IDXMODE : Fld := ⟨0x500104, 0x2000, 0x0, 1, 0⟩
def POS_IDXVALLO.reg : Fld := ⟨0x500108, 0x2000, 0x0, 31, 0⟩
def POS_IDXVALLO.VAL : Fld := ⟨0x500108, 0x2000, 0x0, 31, 0⟩
def POS_IDXVALHI.reg : Fld := ⟨0x50010c, 0x2000, 0x0, 31, 0⟩
def POS_IDXVALHI.VAL : Fld := ⟨0x50010c, 0x2000, 0x0, 15, 0⟩
def POS_SSICFG.reg : Fld := ⟨0x500110, 0x2000, 0x0, 31, 0⟩
def POS_SSICFG.BITS : Fld := ⟨0x500110, 0x2000, 0x0, 31, 26⟩
def POS_SSICFG.STATUS : Fld := ⟨0x500110, 0x2000, 0x0, 25, 23⟩
def POS_SSICFG.PARITY : Fld := ⟨0x500110, 0x2000, 0x0, 22, 21⟩
def POS_SSICFG.GRAY : Fld := ⟨0x500110, 0x2000, 0x0, 20, 20⟩
def POS_SSICFG.SIGNED : Fld := ⟨0x500110, 0x2000, 0x0, 19, 19⟩
def POS_SSICFG.UNWRAP : Fld := ⟨0x500110, 0x2000, 0x0, 18, 18⟩
def POS_SSICFG.RATE : Fld := ⟨0x500110, 0x2000, 0x0, 17, 15⟩
def POS_SSICFG.POLLUS : Fld := ⟨0x500110, 0x2000, 0x0, 14, 0⟩
def POS_SSICFG2.reg : Fld := ⟨0x500114, 0x2000, 0x0, 31, 0⟩
def POS_SSICFG2.ERRMASK : Fld := ⟨0x500114, 0x2000, 0x0, 30, 24⟩
def POS_SSICFG2.SSIBAD : Fld := ⟨0x500114, 0x2000, 0x0, 23, 16⟩
def POS_SSICFG2.CABLE : Fld := ⟨0x500114, 0x2000, 0x0, 15, 8⟩
def POS_SSILAT.reg : Fld := ⟨0x500118, 0x2000, 0x0, 31, 0⟩
def POS_SSILAT.NS : Fld := ⟨0x500118, 0x2000, 0x0, 15, 0⟩
def POS_SSIJUMP.reg : Fld := ⟨0x50011c, 0x2000, 0x0, 31, 0⟩
def POS_SSIJUMP.MAXJUMP : Fld := ⟨0x50011c, 0x2000, 0x0, 31, 0⟩
def POS_MOTION.reg : Fld := ⟨0x500120, 0x2000, 0x0, 31, 0⟩
def POS_MOTION.STILL : Fld := ⟨0x500120, 0x2000, 0x0, 23, 16⟩
def POS_MOTION.SPAN : Fld := ⟨0x500120, 0x2000, 0x0, 15, 8⟩
def POS_MOTION.SPDWIN : Fld := ⟨0x500120, 0x2000, 0x0, 2, 0⟩
def POS_PTCFG.reg : Fld := ⟨0x500124, 0x2000, 0x0, 31, 0⟩
def POS_PTCFG.SRCCH : Fld := ⟨0x500124, 0x2000, 0x0, 10, 8⟩
def POS_PTCFG.OZ : Fld := ⟨0x500124, 0x2000, 0x0, 5, 4⟩
def POS_PTCFG.OB : Fld := ⟨0x500124, 0x2000, 0x0, 3, 2⟩
def POS_PTCFG.OA : Fld := ⟨0x500124, 0x2000, 0x0, 1, 0⟩
def POS_CTL.reg : Fld := ⟨0x500128, 0x2000, 0x0, 31, 0⟩
def POS_CTL.LATCH : Fld := ⟨0x500128, 0x2000, 0x0, 4, 4⟩
def POS_CTL.REFSET : Fld := ⟨0x500128, 0x2000, 0x0, 3, 3⟩
def POS_CTL.LOAD : Fld := ⟨0x500128, 0x2000, 0x0, 2, 2⟩
def POS_CTL.DISARM : Fld := ⟨0x500128, 0x2000, 0x0, 1, 1⟩
def POS_CTL.ARM : Fld := ⟨0x500128, 0x2000, 0x0, 0, 0⟩
def POS_CNTSETLO.reg : Fld := ⟨0x50012c, 0x2000, 0x0, 31, 0⟩
def POS_CNTSETLO.VAL : Fld := ⟨0x50012c, 0x2000, 0x0, 31, 0⟩
def POS_CNTSETHI.reg : Fld := ⟨0x500130, 0x2000, 0x0, 31, 0⟩
def POS_CNTSETHI.VAL : Fld := ⟨0x500130, 0x2000, 0x0, 15, 0⟩
def POS_STAT.reg : Fld := ⟨0x500140, 0x2000, 0x0, 31, 0⟩
def POS_STAT.LEVELS : Fld := ⟨0x500140, 0x2000, 0x0, 22, 20⟩
def POS_STAT.SSIBUSY : Fld := ⟨0x500140, 0x2000, 0x0, 15, 15⟩
def POS_STAT.SSIOK : Fld := ⟨0x500140, 0x2000, 0x0, 14, 14⟩
def POS_STAT.STILL : Fld := ⟨0x500140, 0x2000, 0x0, 8, 8⟩
def POS_STAT.SPDVALID : Fld := ⟨0x500140, 0x2000, 0x0, 7, 7⟩
def POS_STAT.ARMED : Fld := ⟨0x500140, 0x2000, 0x0, 6, 6⟩
def POS_STAT.DIR : Fld := ⟨0x500140, 0x2000, 0x0, 5, 5⟩
def POS_STAT.REFOK : Fld := ⟨0x500140, 0x2000, 0x0, 4, 4⟩
def POS_FAULT.reg : Fld := ⟨0x500144, 0x2000, 0x0, 31, 0⟩
def POS_FAULT.HIST : Fld := ⟨0x500144, 0x2000, 0x0, 8, 8⟩
def POS_FAULT.SSI : Fld := ⟨0x500144, 0x2000, 0x0, 7, 7⟩
def POS_FAULT.DISZ : Fld := ⟨0x500144, 0x2000, 0x0, 6, 6⟩
def POS_FAULT.DISB : Fld := ⟨0x500144, 0x2000, 0x0, 5, 5⟩
def POS_FAULT.DISA : Fld := ⟨0x500144, 0x2000, 0x0, 4, 4⟩
def POS_FAULT.FAST : Fld := ⟨0x500144, 0x2000, 0x0, 3, 3⟩
def POS_FAULT.HALLBAD : Fld := ⟨0x500144, 0x2000, 0x0, 2, 2⟩
def POS_FAULT.PHASE : Fld := ⟨0x500144, 0x2000, 0x0, 1, 1⟩
def POS_CNTLO.reg : Fld := ⟨0x500148, 0x2000, 0x0, 31, 0⟩
def POS_CNTLO.CNT : Fld := ⟨0x500148, 0x2000, 0x0, 31, 0⟩
def POS_CNTHI.reg : Fld := ⟨0x50014c, 0x2000, 0x0, 31, 0⟩
def POS_CNTHI.CNT : Fld := ⟨0x50014c, 0x2000, 0x0, 31, 0⟩
def POS_SPEED.reg : Fld := ⟨0x500150, 0x2000, 0x0, 31, 0⟩
def POS_SPEED.SPEED : Fld := ⟨0x500150, 0x2000, 0x0, 31, 0⟩
def POS_LASTT.reg : Fld := ⟨0x500154, 0x2000, 0x4, 31, 0⟩
def POS_LASTT.T : Fld := ⟨0x500154, 0x2000, 0x4, 31, 0⟩
def POS_LASTC.reg : Fld := ⟨0x50015c, 0x2000, 0x0, 31, 0⟩
def POS_LASTC.CNT : Fld := ⟨0x50015c, 0x2000, 0x0, 31, 0⟩
def POS_LATCHCLO.reg : Fld := ⟨0x500160, 0x2000, 0x0, 31, 0⟩
def POS_LATCHCLO.CNT : Fld := ⟨0x500160, 0x2000, 0x0, 31, 0⟩
def POS_LATCHCHI.reg : Fld := ⟨0x500164, 0x2000, 0x0, 31, 0⟩
def POS_LATCHCHI.CNT : Fld := ⟨0x500164, 0x2000, 0x0, 15, 0⟩
def POS_LATCHTLO.reg : Fld := ⟨0x500168, 0x2000, 0x0, 31, 0⟩
def POS_LATCHTLO.T : Fld := ⟨0x500168, 0x2000, 0x0, 31, 0⟩
def POS_LATCHTHI.reg : Fld := ⟨0x50016c, 0x2000, 0x0, 31, 0⟩
def POS_LATCHTHI.T : Fld := ⟨0x50016c, 0x2000, 0x0, 31, 0⟩
def POS_LATCHST.reg : Fld := ⟨0x500170, 0x2000, 0x0, 31, 0⟩
def POS_LATCHST.SRC : Fld := ⟨0x500170, 0x2000, 0x0, 2, 2⟩
def POS_LATCHST.OVER : Fld := ⟨0x500170, 0x2000, 0x0, 1, 1⟩
def POS_LATCHST.VALID : Fld := ⟨0x500170, 0x2000, 0x0, 0, 0⟩
def POS_PHCNT.reg : Fld := ⟨0x500180, 0x2000, 0x0, 31, 0⟩
def POS_PHCNT.COUNT : Fld := ⟨0x500180, 0x2000, 0x0, 15, 0⟩
def POS_FASTCNT.reg : Fld := ⟨0x500184, 0x2000, 0x0, 31, 0⟩
def POS_FASTCNT.COUNT : Fld := ⟨0x500184, 0x2000, 0x0, 15, 0⟩
def POS_DISCNT.reg : Fld := ⟨0x500188, 0x2000, 0x0, 31, 0⟩
def POS_DISCNT.COUNT : Fld := ⟨0x500188, 0x2000, 0x0, 15, 0⟩
def POS_HALLCNT.reg : Fld := ⟨0x50018c, 0x2000, 0x0, 31, 0⟩
def POS_HALLCNT.COUNT : Fld := ⟨0x50018c, 0x2000, 0x0, 15, 0⟩
def POS_IDXCNT.reg : Fld := ⟨0x500190, 0x2000, 0x0, 31, 0⟩
def POS_IDXCNT.COUNT : Fld := ⟨0x500190, 0x2000, 0x0, 31, 0⟩
def POS_SSIERR.reg : Fld := ⟨0x500194, 0x2000, 0x0, 31, 0⟩
def POS_SSIERR.COUNT : Fld := ⟨0x500194, 0x2000, 0x0, 15, 0⟩
def POS_SSICNT.reg : Fld := ⟨0x500198, 0x2000, 0x0, 31, 0⟩
def POS_SSICNT.COUNT : Fld := ⟨0x500198, 0x2000, 0x0, 31, 0⟩
def POS_FILT.reg : Fld := ⟨0x5001c0, 0x2000, 0x0, 31, 0⟩
def POS_FILT.FILTZ : Fld := ⟨0x5001c0, 0x2000, 0x0, 19, 16⟩
def POS_FILT.FILTB : Fld := ⟨0x5001c0, 0x2000, 0x0, 11, 8⟩
def POS_FILT.FILTA : Fld := ⟨0x5001c0, 0x2000, 0x0, 3, 0⟩
def POS_MININT.reg : Fld := ⟨0x5001c4, 0x2000, 0x0, 31, 0⟩
def POS_MININT.CYCLES : Fld := ⟨0x5001c4, 0x2000, 0x0, 7, 0⟩
def POS_SPDWIN.reg : Fld := ⟨0x5001c8, 0x2000, 0x0, 31, 0⟩
def POS_SPDWIN.NS : Fld := ⟨0x5001c8, 0x2000, 0x0, 31, 0⟩
def POS_HISTGAP.reg : Fld := ⟨0x5001cc, 0x2000, 0x0, 31, 0⟩
def POS_HISTGAP.NS : Fld := ⟨0x5001cc, 0x2000, 0x0, 23, 0⟩
def POS_MAXSPAN.reg : Fld := ⟨0x5001d0, 0x2000, 0x0, 31, 0⟩
def POS_MAXSPAN.NS : Fld := ⟨0x5001d0, 0x2000, 0x0, 31, 0⟩
def POS_DISWIN.reg : Fld := ⟨0x5001d4, 0x2000, 0x0, 31, 0⟩
def POS_DISWIN.CYCLES : Fld := ⟨0x5001d4, 0x2000, 0x0, 15, 0⟩
def POS_SSITIM.reg : Fld := ⟨0x5001d8, 0x2000, 0x0, 31, 0⟩
def POS_SSITIM.HALF : Fld := ⟨0x5001d8, 0x2000, 0x0, 25, 16⟩
def POS_SSITIM.SDLY : Fld := ⟨0x5001d8, 0x2000, 0x0, 10, 0⟩
def POS_SSITIM2.reg : Fld := ⟨0x5001dc, 0x2000, 0x0, 31, 0⟩
def POS_SSITIM2.TMMAX : Fld := ⟨0x5001dc, 0x2000, 0x0, 31, 16⟩
def POS_SSITIM2.TPAUSE : Fld := ⟨0x5001dc, 0x2000, 0x0, 15, 0⟩
def POS_PRBCFG.reg : Fld := ⟨0x510000, 0x4, 0x0, 31, 0⟩
def POS_PRBCFG.ACTION : Fld := ⟨0x510000, 0x4, 0x0, 13, 12⟩
def POS_PRBCFG.FILT : Fld := ⟨0x510000, 0x4, 0x0, 11, 8⟩
def POS_PRBCFG.EDGE : Fld := ⟨0x510000, 0x4, 0x0, 5, 4⟩
def POS_PRBCFG.CH : Fld := ⟨0x510000, 0x4, 0x0, 2, 0⟩
def POS_PRBCLO.reg : Fld := ⟨0x510100, 0x20, 0x0, 31, 0⟩
def POS_PRBCLO.CNT : Fld := ⟨0x510100, 0x20, 0x0, 31, 0⟩
def POS_PRBCHI.reg : Fld := ⟨0x510104, 0x20, 0x0, 31, 0⟩
def POS_PRBCHI.CNT : Fld := ⟨0x510104, 0x20, 0x0, 15, 0⟩
def POS_PRBTLO.reg : Fld := ⟨0x510108, 0x20, 0x0, 31, 0⟩
def POS_PRBTLO.T : Fld := ⟨0x510108, 0x20, 0x0, 31, 0⟩
def POS_PRBTHI.reg : Fld := ⟨0x51010c, 0x20, 0x0, 31, 0⟩
def POS_PRBTHI.T : Fld := ⟨0x51010c, 0x20, 0x0, 31, 0⟩
def POS_PRBST.reg : Fld := ⟨0x510110, 0x20, 0x0, 31, 0⟩
def POS_PRBST.OVER : Fld := ⟨0x510110, 0x20, 0x0, 1, 1⟩
def POS_PRBST.VALID : Fld := ⟨0x510110, 0x20, 0x0, 0, 0⟩
def POS_TAGSEL.reg : Fld := ⟨0x511000, 0x4, 0x0, 31, 0⟩
def POS_TAGSEL.AEN : Fld := ⟨0x511000, 0x4, 0x0, 15, 15⟩
def POS_TAGSEL.ACH : Fld := ⟨0x511000, 0x4, 0x0, 10, 8⟩
def POS_TAGSEL.BEN : Fld := ⟨0x511000, 0x4, 0x0, 7, 7⟩
def POS_TAGSEL.BCH : Fld := ⟨0x511000, 0x4, 0x0, 2, 0⟩
/-! TWS (spec/12) -/
def TWS_ID.reg : Fld := ⟨0x540000, 0x0, 0x0, 31, 0⟩
def TWS_ID.UNIT : Fld := ⟨0x540000, 0x0, 0x0, 31, 16⟩
def TWS_ID.VERSION : Fld := ⟨0x540000, 0x0, 0x0, 15, 0⟩
def TWS_LEVEL.reg : Fld := ⟨0x540004, 0x0, 0x0, 31, 0⟩
def TWS_LEVEL.EXPERT : Fld := ⟨0x540004, 0x0, 0x0, 0, 0⟩
def TWS_WCFG.reg : Fld := ⟨0x540100, 0x40, 0x0, 31, 0⟩
def TWS_WCFG.EN : Fld := ⟨0x540100, 0x40, 0x0, 31, 31⟩
def TWS_WCFG.CH : Fld := ⟨0x540100, 0x40, 0x0, 27, 25⟩
def TWS_WCFG.EDGE : Fld := ⟨0x540100, 0x40, 0x0, 24, 24⟩
def TWS_WCFG.FILTER : Fld := ⟨0x540100, 0x40, 0x0, 23, 23⟩
def TWS_WCFG.CONFIRM : Fld := ⟨0x540100, 0x40, 0x0, 22, 22⟩
def TWS_WCFG.PRED : Fld := ⟨0x540100, 0x40, 0x0, 21, 21⟩
def TWS_WCFG.GAP : Fld := ⟨0x540100, 0x40, 0x0, 17, 16⟩
def TWS_WCFG.TEETH : Fld := ⟨0x540100, 0x40, 0x0, 12, 0⟩
def TWS_WZERO.reg : Fld := ⟨0x540104, 0x40, 0x0, 31, 0⟩
def TWS_WZERO.ZERO : Fld := ⟨0x540104, 0x40, 0x0, 31, 0⟩
def TWS_WSTALL.reg : Fld := ⟨0x540108, 0x40, 0x0, 31, 0⟩
def TWS_WSTALL.MS : Fld := ⟨0x540108, 0x40, 0x0, 15, 0⟩
def TWS_WSTAT.reg : Fld := ⟨0x540110, 0x40, 0x0, 31, 0⟩
def TWS_WSTAT.TOOTH : Fld := ⟨0x540110, 0x40, 0x0, 19, 8⟩
def TWS_WSTAT.PREDICTED : Fld := ⟨0x540110, 0x40, 0x0, 3, 3⟩
def TWS_WSTAT.STATE : Fld := ⟨0x540110, 0x40, 0x0, 2, 0⟩
def TWS_WANG.reg : Fld := ⟨0x540114, 0x40, 0x0, 31, 0⟩
def TWS_WANG.ANGLE : Fld := ⟨0x540114, 0x40, 0x0, 31, 0⟩
def TWS_WREV.reg : Fld := ⟨0x540118, 0x40, 0x0, 31, 0⟩
def TWS_WREV.REV : Fld := ⟨0x540118, 0x40, 0x0, 31, 0⟩
def TWS_WPER.reg : Fld := ⟨0x54011c, 0x40, 0x0, 31, 0⟩
def TWS_WPER.P : Fld := ⟨0x54011c, 0x40, 0x0, 31, 0⟩
def TWS_WGOODLO.reg : Fld := ⟨0x540120, 0x40, 0x0, 31, 0⟩
def TWS_WGOODLO.T : Fld := ⟨0x540120, 0x40, 0x0, 31, 0⟩
def TWS_WGOODHI.reg : Fld := ⟨0x540124, 0x40, 0x0, 31, 0⟩
def TWS_WGOODHI.T : Fld := ⟨0x540124, 0x40, 0x0, 31, 0⟩
def TWS_WCNT.reg : Fld := ⟨0x540128, 0x40, 0x0, 31, 0⟩
def TWS_WCNT.MISS : Fld := ⟨0x540128, 0x40, 0x0, 31, 16⟩
def TWS_WCNT.EARLY : Fld := ⟨0x540128, 0x40, 0x0, 15, 0⟩
def TWS_WCNT2.reg : Fld := ⟨0x54012c, 0x40, 0x0, 31, 0⟩
def TWS_WCNT2.SYNCERR : Fld := ⟨0x54012c, 0x40, 0x0, 31, 16⟩
def TWS_WCNT2.SYNCFAIL : Fld := ⟨0x54012c, 0x40, 0x0, 15, 0⟩
def TWS_WTH.reg : Fld := ⟨0x540130, 0x40, 0x0, 31, 0⟩
def TWS_WTH.MISSR : Fld := ⟨0x540130, 0x40, 0x0, 31, 24⟩
def TWS_WTH.EARLYR : Fld := ⟨0x540130, 0x40, 0x0, 23, 16⟩
def TWS_WTH.GAPLO : Fld := ⟨0x540130, 0x40, 0x0, 15, 8⟩
def TWS_WTH.GAPHI : Fld := ⟨0x540130, 0x40, 0x0, 7, 0⟩
def TWS_WTH2.reg : Fld := ⟨0x540134, 0x40, 0x0, 31, 0⟩
def TWS_WTH2.MISSMAX : Fld := ⟨0x540134, 0x40, 0x0, 7, 0⟩
def TWS_LSCFG.reg : Fld := ⟨0x540400, 0x0, 0x0, 31, 0⟩
def TWS_LSCFG.EN : Fld := ⟨0x540400, 0x0, 0x0, 31, 31⟩
def TWS_LSCFG.GATE : Fld := ⟨0x540400, 0x0, 0x0, 30, 30⟩
def TWS_LSCFG.TRACKBACK : Fld := ⟨0x540400, 0x0, 0x0, 29, 29⟩
def TWS_LSCFG.DIR : Fld := ⟨0x540400, 0x0, 0x0, 28, 28⟩
def TWS_LSCFG.CH : Fld := ⟨0x540400, 0x0, 0x0, 26, 24⟩
def TWS_LSCFG.BLKLINES : Fld := ⟨0x540400, 0x0, 0x0, 15, 0⟩
def TWS_LSRATIO.reg : Fld := ⟨0x540404, 0x0, 0x0, 31, 0⟩
def TWS_LSRATIO.RATIO : Fld := ⟨0x540404, 0x0, 0x0, 31, 0⟩
def TWS_LSSTARTLO.reg : Fld := ⟨0x540408, 0x0, 0x0, 31, 0⟩
def TWS_LSSTARTLO.START : Fld := ⟨0x540408, 0x0, 0x0, 31, 0⟩
def TWS_LSSTARTHI.reg : Fld := ⟨0x54040c, 0x0, 0x0, 31, 0⟩
def TWS_LSSTARTHI.START : Fld := ⟨0x54040c, 0x0, 0x0, 15, 0⟩
def TWS_LSDELAY.reg : Fld := ⟨0x540410, 0x0, 0x0, 31, 0⟩
def TWS_LSDELAY.DELAY : Fld := ⟨0x540410, 0x0, 0x0, 23, 0⟩
def TWS_LSMINPER.reg : Fld := ⟨0x540414, 0x0, 0x0, 31, 0⟩
def TWS_LSMINPER.NS : Fld := ⟨0x540414, 0x0, 0x0, 31, 0⟩
def TWS_LSASM.reg : Fld := ⟨0x540418, 0x0, 0x0, 31, 0⟩
def TWS_LSASM.EN : Fld := ⟨0x540418, 0x0, 0x0, 31, 31⟩
def TWS_LSASM.STREAM : Fld := ⟨0x540418, 0x0, 0x0, 29, 24⟩
def TWS_LSASM.FRAMEBLK : Fld := ⟨0x540418, 0x0, 0x0, 15, 0⟩
def TWS_LSLINES.reg : Fld := ⟨0x540420, 0x0, 0x0, 31, 0⟩
def TWS_LSLINES.LINES : Fld := ⟨0x540420, 0x0, 0x0, 31, 0⟩
def TWS_LSACC.reg : Fld := ⟨0x540424, 0x0, 0x0, 31, 0⟩
def TWS_LSACC.ACC : Fld := ⟨0x540424, 0x0, 0x0, 31, 0⟩
def TWS_LSDROP.reg : Fld := ⟨0x540428, 0x0, 0x0, 31, 0⟩
def TWS_LSDROP.COUNT : Fld := ⟨0x540428, 0x0, 0x0, 15, 0⟩
def TWS_ENTCTL.reg : Fld := ⟨0x541000, 0x20, 0x0, 31, 0⟩
def TWS_ENTCTL.EN : Fld := ⟨0x541000, 0x20, 0x0, 31, 31⟩
def TWS_ENTCTL.KIND : Fld := ⟨0x541000, 0x20, 0x0, 30, 29⟩
def TWS_ENTCTL.DIRQ : Fld := ⟨0x541000, 0x20, 0x0, 28, 27⟩
def TWS_ENTCTL.PREDMODE : Fld := ⟨0x541000, 0x20, 0x0, 26, 26⟩
def TWS_ENTCTL.REQREF : Fld := ⟨0x541000, 0x20, 0x0, 25, 25⟩
def TWS_ENTCTL.DONE : Fld := ⟨0x541000, 0x20, 0x0, 24, 24⟩
def TWS_ENTCTL.SRC : Fld := ⟨0x541000, 0x20, 0x0, 18, 16⟩
def TWS_ENTCTL.COUNT : Fld := ⟨0x541000, 0x20, 0x0, 15, 0⟩
def TWS_ENT1.reg : Fld := ⟨0x541004, 0x20, 0x0, 31, 0⟩
def TWS_ENT1.A : Fld := ⟨0x541004, 0x20, 0x0, 31, 0⟩
def TWS_ENT2.reg : Fld := ⟨0x541008, 0x20, 0x0, 31, 0⟩
def TWS_ENT2.B : Fld := ⟨0x541008, 0x20, 0x0, 31, 0⟩
def TWS_ENT3.reg : Fld := ⟨0x54100c, 0x20, 0x0, 31, 0⟩
def TWS_ENT3.FRAC : Fld := ⟨0x54100c, 0x20, 0x0, 18, 16⟩
def TWS_ENT3.SECHI : Fld := ⟨0x54100c, 0x20, 0x0, 15, 0⟩
def TWS_ENT4.reg : Fld := ⟨0x541010, 0x20, 0x0, 31, 0⟩
def TWS_ENT4.PERIOD : Fld := ⟨0x541010, 0x20, 0x0, 31, 0⟩
def TWS_ENT5.reg : Fld := ⟨0x541014, 0x20, 0x0, 31, 0⟩
def TWS_ENT5.HYST : Fld := ⟨0x541014, 0x20, 0x0, 15, 0⟩
def TWS_ENT6.reg : Fld := ⟨0x541018, 0x20, 0x0, 31, 0⟩
def TWS_ENT6.DELAY : Fld := ⟨0x541018, 0x20, 0x0, 23, 0⟩
def TWS_ENTFIRES.reg : Fld := ⟨0x54101c, 0x20, 0x0, 31, 0⟩
def TWS_ENTFIRES.FIRES : Fld := ⟨0x54101c, 0x20, 0x0, 31, 0⟩
def TWS_ANGSEL.reg : Fld := ⟨0x541800, 0x4, 0x0, 31, 0⟩
def TWS_ANGSEL.EN : Fld := ⟨0x541800, 0x4, 0x0, 2, 2⟩
def TWS_ANGSEL.WHEEL : Fld := ⟨0x541800, 0x4, 0x0, 1, 0⟩
def TWS_LATECNT.reg : Fld := ⟨0x541900, 0x0, 0x0, 31, 0⟩
def TWS_LATECNT.COUNT : Fld := ⟨0x541900, 0x0, 0x0, 31, 0⟩
def TWS_SUPCNT.reg : Fld := ⟨0x541904, 0x0, 0x0, 31, 0⟩
def TWS_SUPCNT.COUNT : Fld := ⟨0x541904, 0x0, 0x0, 31, 0⟩
/-! BTM (spec/13) -/
def BTM_ID.reg : Fld := ⟨0x600000, 0x0, 0x0, 31, 0⟩
def BTM_ID.UNIT : Fld := ⟨0x600000, 0x0, 0x0, 31, 16⟩
def BTM_ID.VERSION : Fld := ⟨0x600000, 0x0, 0x0, 15, 0⟩
def BTM_LEVEL.reg : Fld := ⟨0x600004, 0x0, 0x0, 31, 0⟩
def BTM_LEVEL.EXPERT : Fld := ⟨0x600004, 0x0, 0x0, 0, 0⟩
def BTM_FIRE.reg : Fld := ⟨0x600100, 0x4, 0x0, 31, 0⟩
def BTM_FIRE.FIRE : Fld := ⟨0x600100, 0x4, 0x0, 31, 0⟩
def BTM_FLAG.reg : Fld := ⟨0x600140, 0x4, 0x0, 31, 0⟩
def BTM_FLAG.FLAG : Fld := ⟨0x600140, 0x4, 0x0, 31, 0⟩
def BTM_OVR.reg : Fld := ⟨0x600180, 0x4, 0x0, 31, 0⟩
def BTM_OVR.OVR : Fld := ⟨0x600180, 0x4, 0x0, 31, 0⟩
def BTM_MIXED.reg : Fld := ⟨0x6001c0, 0x4, 0x0, 31, 0⟩
def BTM_MIXED.MIXED : Fld := ⟨0x6001c0, 0x4, 0x0, 31, 0⟩
def BTM_WATCHCFG.reg : Fld := ⟨0x600200, 0x10, 0x0, 31, 0⟩
def BTM_WATCHCFG.EN : Fld := ⟨0x600200, 0x10, 0x0, 31, 31⟩
def BTM_WATCHCFG.BEAT : Fld := ⟨0x600200, 0x10, 0x0, 7, 0⟩
def BTM_WATCHCNT.reg : Fld := ⟨0x600204, 0x10, 0x0, 31, 0⟩
def BTM_WATCHCNT.COUNT : Fld := ⟨0x600204, 0x10, 0x0, 31, 0⟩
def BTM_WATCHLO.reg : Fld := ⟨0x600208, 0x10, 0x0, 31, 0⟩
def BTM_WATCHLO.LAST : Fld := ⟨0x600208, 0x10, 0x0, 31, 0⟩
def BTM_WATCHHI.reg : Fld := ⟨0x60020c, 0x10, 0x0, 31, 0⟩
def BTM_WATCHHI.LAST : Fld := ⟨0x60020c, 0x10, 0x0, 31, 0⟩
def BTM_QWATCH.reg : Fld := ⟨0x600300, 0x4, 0x0, 31, 0⟩
def BTM_QWATCH.EN : Fld := ⟨0x600300, 0x4, 0x0, 31, 31⟩
def BTM_QWATCH.QID : Fld := ⟨0x600300, 0x4, 0x0, 13, 0⟩
def BTM_HNSTAT.reg : Fld := ⟨0x600400, 0x4, 0x0, 31, 0⟩
def BTM_HNSTAT.STAT : Fld := ⟨0x600400, 0x4, 0x0, 31, 0⟩
def BTM_HN.reg : Fld := ⟨0x600800, 0x8, 0x0, 31, 0⟩
def BTM_HN.EN : Fld := ⟨0x600800, 0x8, 0x0, 31, 31⟩
def BTM_HN.EVERY : Fld := ⟨0x600800, 0x8, 0x0, 30, 30⟩
def BTM_HN.VECTOR : Fld := ⟨0x600800, 0x8, 0x0, 10, 0⟩
def BTM_HNCNT.reg : Fld := ⟨0x600804, 0x8, 0x0, 31, 0⟩
def BTM_HNCNT.COUNT : Fld := ⟨0x600804, 0x8, 0x0, 15, 0⟩
def BTM_BEAT.reg : Fld := ⟨0x601000, 0x4, 0x0, 31, 0⟩
def BTM_BEAT.ASYNC : Fld := ⟨0x601000, 0x4, 0x0, 31, 31⟩
def BTM_BEAT.EDGE : Fld := ⟨0x601000, 0x4, 0x0, 29, 28⟩
def BTM_BEAT.SRC : Fld := ⟨0x601000, 0x4, 0x0, 9, 0⟩
def BTM_CSEL.reg : Fld := ⟨0x602000, 0x4, 0x0, 31, 0⟩
def BTM_CSEL.EN : Fld := ⟨0x602000, 0x4, 0x0, 31, 31⟩
def BTM_CSEL.PEND : Fld := ⟨0x602000, 0x4, 0x0, 30, 30⟩
def BTM_CSEL.OVR : Fld := ⟨0x602000, 0x4, 0x0, 29, 29⟩
def BTM_CSEL.BUSY : Fld := ⟨0x602000, 0x4, 0x0, 28, 28⟩
def BTM_CSEL.PENDING : Fld := ⟨0x602000, 0x4, 0x0, 27, 27⟩
def BTM_CSEL.BEAT : Fld := ⟨0x602000, 0x4, 0x0, 7, 0⟩
def BTM_CELL0.reg : Fld := ⟨0x603000, 0x10, 0x0, 31, 0⟩
def BTM_CELL0.EN : Fld := ⟨0x603000, 0x10, 0x0, 31, 31⟩
def BTM_CELL0.ASYNC : Fld := ⟨0x603000, 0x10, 0x0, 30, 30⟩
def BTM_CELL0.FF : Fld := ⟨0x603000, 0x10, 0x0, 29, 29⟩
def BTM_CELL0.CEEN : Fld := ⟨0x603000, 0x10, 0x0, 28, 28⟩
def BTM_CELL0.INIT : Fld := ⟨0x603000, 0x10, 0x0, 27, 27⟩
def BTM_CELL0.FILT : Fld := ⟨0x603000, 0x10, 0x0, 26, 25⟩
def BTM_CELL0.FILTUS : Fld := ⟨0x603000, 0x10, 0x0, 24, 24⟩
def BTM_CELL0.FUNC : Fld := ⟨0x603000, 0x10, 0x0, 23, 21⟩
def BTM_CELL0.USE : Fld := ⟨0x603000, 0x10, 0x0, 19, 16⟩
def BTM_CELL0.FILTN : Fld := ⟨0x603000, 0x10, 0x0, 15, 0⟩
def BTM_CELL1.reg : Fld := ⟨0x603004, 0x10, 0x0, 31, 0⟩
def BTM_CELL1.INMODE : Fld := ⟨0x603004, 0x10, 0x0, 23, 16⟩
def BTM_CELL1.TRUTH : Fld := ⟨0x603004, 0x10, 0x0, 15, 0⟩
def BTM_CELL2.reg : Fld := ⟨0x603008, 0x10, 0x0, 31, 0⟩
def BTM_CELL2.BADIN : Fld := ⟨0x603008, 0x10, 0x0, 2, 2⟩
def BTM_CELL2.Q : Fld := ⟨0x603008, 0x10, 0x0, 1, 1⟩
def BTM_CELL2.LEVEL : Fld := ⟨0x603008, 0x10, 0x0, 0, 0⟩
def BTM_CELL3.reg : Fld := ⟨0x60300c, 0x10, 0x0, 31, 0⟩
def BTM_CELL3.FIRES : Fld := ⟨0x60300c, 0x10, 0x0, 31, 0⟩
/-! OUT (spec/14) -/
def OUT_ID.reg : Fld := ⟨0x680000, 0x0, 0x0, 31, 0⟩
def OUT_ID.UNIT : Fld := ⟨0x680000, 0x0, 0x0, 31, 16⟩
def OUT_ID.VERSION : Fld := ⟨0x680000, 0x0, 0x0, 15, 0⟩
def OUT_LEVEL.reg : Fld := ⟨0x680004, 0x0, 0x0, 31, 0⟩
def OUT_LEVEL.EXPERT : Fld := ⟨0x680004, 0x0, 0x0, 0, 0⟩
def OUT_CALSTAT.reg : Fld := ⟨0x680010, 0x0, 0x0, 31, 0⟩
def OUT_CALSTAT.LOCK : Fld := ⟨0x680010, 0x0, 0x0, 0, 0⟩
def OUT_PINS.reg : Fld := ⟨0x680014, 0x0, 0x0, 31, 0⟩
def OUT_PINS.STB : Fld := ⟨0x680014, 0x0, 0x0, 23, 16⟩
def OUT_PINS.TRIG : Fld := ⟨0x680014, 0x0, 0x0, 15, 0⟩
def OUT_TCFG.reg : Fld := ⟨0x680100, 0x10, 0x0, 31, 0⟩
def OUT_TCFG.EN : Fld := ⟨0x680100, 0x10, 0x0, 31, 31⟩
def OUT_TCFG.SAFE : Fld := ⟨0x680100, 0x10, 0x0, 4, 3⟩
def OUT_TCFG.POL : Fld := ⟨0x680100, 0x10, 0x0, 2, 2⟩
def OUT_TCFG.MODE : Fld := ⟨0x680100, 0x10, 0x0, 1, 0⟩
def OUT_TDELAY.reg : Fld := ⟨0x680104, 0x10, 0x0, 31, 0⟩
def OUT_TDELAY.DELAY : Fld := ⟨0x680104, 0x10, 0x0, 23, 0⟩
def OUT_TWIDTH.reg : Fld := ⟨0x680108, 0x10, 0x0, 31, 0⟩
def OUT_TWIDTH.WIDTH : Fld := ⟨0x680108, 0x10, 0x0, 31, 0⟩
def OUT_TCNT.reg : Fld := ⟨0x68010c, 0x10, 0x0, 31, 0⟩
def OUT_TCNT.LATE : Fld := ⟨0x68010c, 0x10, 0x0, 31, 16⟩
def OUT_TCNT.CANCEL : Fld := ⟨0x68010c, 0x10, 0x0, 15, 0⟩
def OUT_TTRIM.reg : Fld := ⟨0x680200, 0x4, 0x0, 31, 0⟩
def OUT_TTRIM.TRIM : Fld := ⟨0x680200, 0x4, 0x0, 7, 0⟩
def OUT_SCFG.reg : Fld := ⟨0x680300, 0x20, 0x0, 31, 0⟩
def OUT_SCFG.EN : Fld := ⟨0x680300, 0x20, 0x0, 31, 31⟩
def OUT_SCFG.POL : Fld := ⟨0x680300, 0x20, 0x0, 30, 30⟩
def OUT_SCFG.DUTY : Fld := ⟨0x680300, 0x20, 0x0, 6, 0⟩
def OUT_SDELAY.reg : Fld := ⟨0x680304, 0x20, 0x0, 31, 0⟩
def OUT_SDELAY.NS : Fld := ⟨0x680304, 0x20, 0x0, 23, 0⟩
def OUT_SWIDTH.reg : Fld := ⟨0x680308, 0x20, 0x0, 31, 0⟩
def OUT_SWIDTH.NS : Fld := ⟨0x680308, 0x20, 0x0, 31, 0⟩
def OUT_SMAXON.reg : Fld := ⟨0x68030c, 0x20, 0x0, 31, 0⟩
def OUT_SMAXON.MAXON : Fld := ⟨0x68030c, 0x20, 0x0, 23, 0⟩
def OUT_SSTAT.reg : Fld := ⟨0x680310, 0x20, 0x0, 31, 0⟩
def OUT_SSTAT.TRIP : Fld := ⟨0x680310, 0x20, 0x0, 31, 31⟩
def OUT_SSTAT.L : Fld := ⟨0x680310, 0x20, 0x0, 30, 0⟩
def OUT_SCNT.reg : Fld := ⟨0x680314, 0x20, 0x0, 31, 0⟩
def OUT_SCNT.TRIPS : Fld := ⟨0x680314, 0x20, 0x0, 31, 24⟩
def OUT_SCNT.SUPPRESSED : Fld := ⟨0x680314, 0x20, 0x0, 23, 8⟩
def OUT_SCNT.CANCEL : Fld := ⟨0x680314, 0x20, 0x0, 7, 0⟩
def OUT_SRATE.reg : Fld := ⟨0x680318, 0x20, 0x0, 31, 0⟩
def OUT_SRATE.RATE : Fld := ⟨0x680318, 0x20, 0x0, 16, 0⟩
def OUT_SCAP.reg : Fld := ⟨0x68031c, 0x20, 0x0, 31, 0⟩
def OUT_SCAP.CAP : Fld := ⟨0x68031c, 0x20, 0x0, 31, 0⟩
def OUT_AENA.reg : Fld := ⟨0x680500, 0x0, 0x0, 31, 0⟩
def OUT_AENA.CLAMPED : Fld := ⟨0x680500, 0x0, 0x0, 31, 31⟩
def OUT_AENA.EN : Fld := ⟨0x680500, 0x0, 0x0, 3, 0⟩
def OUT_ACFG.reg : Fld := ⟨0x680600, 0x20, 0x0, 31, 0⟩
def OUT_ACFG.SAFE : Fld := ⟨0x680600, 0x20, 0x0, 3, 2⟩
def OUT_ACFG.UPD : Fld := ⟨0x680600, 0x20, 0x0, 0, 0⟩
def OUT_AVAL.reg : Fld := ⟨0x680604, 0x20, 0x0, 31, 0⟩
def OUT_AVAL.CODE : Fld := ⟨0x680604, 0x20, 0x0, 15, 0⟩
def OUT_ARNG.reg : Fld := ⟨0x680608, 0x20, 0x0, 31, 0⟩
def OUT_ARNG.RANGE : Fld := ⟨0x680608, 0x20, 0x0, 18, 16⟩
def OUT_ARNG.CODE : Fld := ⟨0x680608, 0x20, 0x0, 15, 0⟩
def OUT_ASAFE.reg : Fld := ⟨0x68060c, 0x20, 0x0, 31, 0⟩
def OUT_ASAFE.CODE : Fld := ⟨0x68060c, 0x20, 0x0, 15, 0⟩
def OUT_AOUT.reg : Fld := ⟨0x680610, 0x20, 0x0, 31, 0⟩
def OUT_AOUT.CODE : Fld := ⟨0x680610, 0x20, 0x0, 15, 0⟩
def OUT_ASTAT.reg : Fld := ⟨0x680614, 0x20, 0x0, 31, 0⟩
def OUT_ASTAT.COMPL : Fld := ⟨0x680614, 0x20, 0x0, 3, 3⟩
def OUT_ASTAT.OVLD : Fld := ⟨0x680614, 0x20, 0x0, 2, 2⟩
def OUT_ASTAT.STATE : Fld := ⟨0x680614, 0x20, 0x0, 1, 0⟩
def OUT_ACAL.reg : Fld := ⟨0x680618, 0x20, 0x0, 31, 0⟩
def OUT_ACAL.GAIN : Fld := ⟨0x680618, 0x20, 0x0, 31, 16⟩
def OUT_ACAL.OFFSET : Fld := ⟨0x680618, 0x20, 0x0, 15, 0⟩
/-! QUE (spec/15) -/
def QUE_ID.reg : Fld := ⟨0x800000, 0x0, 0x0, 31, 0⟩
def QUE_ID.UNIT : Fld := ⟨0x800000, 0x0, 0x0, 31, 16⟩
def QUE_ID.VERSION : Fld := ⟨0x800000, 0x0, 0x0, 15, 0⟩
def QUE_LEVEL.reg : Fld := ⟨0x800004, 0x0, 0x0, 31, 0⟩
def QUE_LEVEL.EXPERT : Fld := ⟨0x800004, 0x0, 0x0, 0, 0⟩
def QUE_BASIC.reg : Fld := ⟨0x800010, 0x0, 0x0, 31, 0⟩
def QUE_BASIC.AHEAD : Fld := ⟨0x800010, 0x0, 0x0, 20, 16⟩
def QUE_BASIC.STALLTO : Fld := ⟨0x800010, 0x0, 0x0, 15, 0⟩
def QUE_QCMD.reg : Fld := ⟨0x800020, 0x0, 0x0, 31, 0⟩
def QUE_QCMD.OP : Fld := ⟨0x800020, 0x0, 0x0, 31, 28⟩
def QUE_QCMD.QID : Fld := ⟨0x800020, 0x0, 0x0, 13, 0⟩
def QUE_QARG.reg : Fld := ⟨0x800024, 0x0, 0x0, 31, 0⟩
def QUE_QARG.ARG : Fld := ⟨0x800024, 0x0, 0x0, 31, 0⟩
def QUE_QCMDSTAT.reg : Fld := ⟨0x800030, 0x0, 0x0, 31, 0⟩
def QUE_QCMDSTAT.BUSY : Fld := ⟨0x800030, 0x0, 0x0, 31, 31⟩
def QUE_QCMDSTAT.RESULT : Fld := ⟨0x800030, 0x0, 0x0, 3, 0⟩
def QUE_NOQ.reg : Fld := ⟨0x800040, 0x0, 0x0, 31, 0⟩
def QUE_NOQ.COUNT : Fld := ⟨0x800040, 0x0, 0x0, 31, 0⟩
def QUE_BIST.reg : Fld := ⟨0x800080, 0x0, 0x0, 31, 0⟩
def QUE_BIST.START : Fld := ⟨0x800080, 0x0, 0x0, 31, 31⟩
def QUE_BIST.RUNNING : Fld := ⟨0x800080, 0x0, 0x0, 30, 30⟩
def QUE_BIST.RESULT : Fld := ⟨0x800080, 0x0, 0x0, 29, 28⟩
def QUE_TIMERS.reg : Fld := ⟨0x800100, 0x0, 0x0, 31, 0⟩
def QUE_TIMERS.MIDTO : Fld := ⟨0x800100, 0x0, 0x0, 31, 16⟩
def QUE_TIMERS.STARTTO : Fld := ⟨0x800100, 0x0, 0x0, 15, 0⟩
def QUE_DMA.reg : Fld := ⟨0x800104, 0x0, 0x0, 31, 0⟩
def QUE_DMA.FETCH : Fld := ⟨0x800104, 0x0, 0x0, 20, 16⟩
def QUE_DMA.SLICE : Fld := ⟨0x800104, 0x0, 0x0, 15, 0⟩
def QUE_SMAP0.reg : Fld := ⟨0x801000, 0x20, 0x0, 31, 0⟩
def QUE_SMAP0.EN : Fld := ⟨0x801000, 0x20, 0x0, 31, 31⟩
def QUE_SMAP0.SKIP : Fld := ⟨0x801000, 0x20, 0x0, 30, 30⟩
def QUE_SMAP0.SPREAD : Fld := ⟨0x801000, 0x20, 0x0, 26, 24⟩
def QUE_SMAP0.QID : Fld := ⟨0x801000, 0x20, 0x0, 13, 0⟩
def QUE_SMAP1.reg : Fld := ⟨0x801004, 0x20, 0x0, 31, 0⟩
def QUE_SMAP1.EN : Fld := ⟨0x801004, 0x20, 0x0, 31, 31⟩
def QUE_SMAP1.SKIP : Fld := ⟨0x801004, 0x20, 0x0, 30, 30⟩
def QUE_SMAP1.SPREAD : Fld := ⟨0x801004, 0x20, 0x0, 26, 24⟩
def QUE_SMAP1.QID : Fld := ⟨0x801004, 0x20, 0x0, 13, 0⟩
def QUE_SMAP2.reg : Fld := ⟨0x801008, 0x20, 0x0, 31, 0⟩
def QUE_SMAP2.EN : Fld := ⟨0x801008, 0x20, 0x0, 31, 31⟩
def QUE_SMAP2.SKIP : Fld := ⟨0x801008, 0x20, 0x0, 30, 30⟩
def QUE_SMAP2.SPREAD : Fld := ⟨0x801008, 0x20, 0x0, 26, 24⟩
def QUE_SMAP2.QID : Fld := ⟨0x801008, 0x20, 0x0, 13, 0⟩
def QUE_SMAP3.reg : Fld := ⟨0x80100c, 0x20, 0x0, 31, 0⟩
def QUE_SMAP3.EN : Fld := ⟨0x80100c, 0x20, 0x0, 31, 31⟩
def QUE_SMAP3.SKIP : Fld := ⟨0x80100c, 0x20, 0x0, 30, 30⟩
def QUE_SMAP3.SPREAD : Fld := ⟨0x80100c, 0x20, 0x0, 26, 24⟩
def QUE_SMAP3.QID : Fld := ⟨0x80100c, 0x20, 0x0, 13, 0⟩
def QUE_SMAP4.reg : Fld := ⟨0x801010, 0x20, 0x0, 31, 0⟩
def QUE_SMAP4.EN : Fld := ⟨0x801010, 0x20, 0x0, 31, 31⟩
def QUE_SMAP4.SKIP : Fld := ⟨0x801010, 0x20, 0x0, 30, 30⟩
def QUE_SMAP4.SPREAD : Fld := ⟨0x801010, 0x20, 0x0, 26, 24⟩
def QUE_SMAP4.QID : Fld := ⟨0x801010, 0x20, 0x0, 13, 0⟩
def QUE_SMAP5.reg : Fld := ⟨0x801014, 0x20, 0x0, 31, 0⟩
def QUE_SMAP5.EN : Fld := ⟨0x801014, 0x20, 0x0, 31, 31⟩
def QUE_SMAP5.SKIP : Fld := ⟨0x801014, 0x20, 0x0, 30, 30⟩
def QUE_SMAP5.SPREAD : Fld := ⟨0x801014, 0x20, 0x0, 26, 24⟩
def QUE_SMAP5.QID : Fld := ⟨0x801014, 0x20, 0x0, 13, 0⟩
def QUE_VMAP.reg : Fld := ⟨0x801800, 0x4, 0x0, 31, 0⟩
def QUE_VMAP.EN : Fld := ⟨0x801800, 0x4, 0x0, 31, 31⟩
def QUE_VMAP.SKIP : Fld := ⟨0x801800, 0x4, 0x0, 30, 30⟩
def QUE_VMAP.SPREAD : Fld := ⟨0x801800, 0x4, 0x0, 26, 24⟩
def QUE_VMAP.QID : Fld := ⟨0x801800, 0x4, 0x0, 13, 0⟩
def QUE_EVCFG.reg : Fld := ⟨0x801900, 0x4, 0x0, 31, 0⟩
def QUE_EVCFG.EN : Fld := ⟨0x801900, 0x4, 0x0, 31, 31⟩
def QUE_EVCFG.STREAM : Fld := ⟨0x801900, 0x4, 0x0, 5, 0⟩
def QUE_PSUM.reg : Fld := ⟨0x802000, 0x4, 0x0, 31, 0⟩
def QUE_PSUM.PAUSED : Fld := ⟨0x802000, 0x4, 0x0, 31, 0⟩
def QUE_FSEQ.reg : Fld := ⟨0x803000, 0x8, 0x0, 31, 0⟩
def QUE_FSEQ.SEQ : Fld := ⟨0x803000, 0x8, 0x0, 31, 0⟩
def QUE_ESEQ.reg : Fld := ⟨0x803004, 0x8, 0x0, 31, 0⟩
def QUE_ESEQ.SEQ : Fld := ⟨0x803004, 0x8, 0x0, 31, 0⟩
def QUE_CTX0.reg : Fld := ⟨0x900000, 0x40, 0x0, 31, 0⟩
def QUE_CTX0.DBASELO : Fld := ⟨0x900000, 0x40, 0x0, 31, 0⟩
def QUE_CTX1.reg : Fld := ⟨0x900004, 0x40, 0x0, 31, 0⟩
def QUE_CTX1.DBASEHI : Fld := ⟨0x900004, 0x40, 0x0, 31, 0⟩
def QUE_CTX2.reg : Fld := ⟨0x900008, 0x40, 0x0, 31, 0⟩
def QUE_CTX2.CBASELO : Fld := ⟨0x900008, 0x40, 0x0, 31, 0⟩
def QUE_CTX3.reg : Fld := ⟨0x90000c, 0x40, 0x0, 31, 0⟩
def QUE_CTX3.CBASEHI : Fld := ⟨0x90000c, 0x40, 0x0, 31, 0⟩
def QUE_CTX4.reg : Fld := ⟨0x900010, 0x40, 0x0, 31, 0⟩
def QUE_CTX4.DSIZE : Fld := ⟨0x900010, 0x40, 0x0, 31, 28⟩
def QUE_CTX4.CSIZE : Fld := ⟨0x900010, 0x40, 0x0, 27, 24⟩
def QUE_CTX4.TYPE : Fld := ⟨0x900010, 0x40, 0x0, 23, 23⟩
def QUE_CTX4.POLICY : Fld := ⟨0x900010, 0x40, 0x0, 22, 22⟩
def QUE_CTX4.IEN : Fld := ⟨0x900010, 0x40, 0x0, 21, 21⟩
def QUE_CTX4.VECTOR : Fld := ⟨0x900010, 0x40, 0x0, 10, 0⟩
def QUE_CTX5.reg : Fld := ⟨0x900014, 0x40, 0x0, 31, 0⟩
def QUE_CTX5.MODCNT : Fld := ⟨0x900014, 0x40, 0x0, 31, 24⟩
def QUE_CTX5.MODUS : Fld := ⟨0x900014, 0x40, 0x0, 15, 0⟩
def QUE_CTX6.reg : Fld := ⟨0x900018, 0x40, 0x0, 31, 0⟩
def QUE_CTX6.PI : Fld := ⟨0x900018, 0x40, 0x0, 16, 0⟩
def QUE_CTX7.reg : Fld := ⟨0x90001c, 0x40, 0x0, 31, 0⟩
def QUE_CTX7.CI : Fld := ⟨0x90001c, 0x40, 0x0, 16, 0⟩
def QUE_CTX8.reg : Fld := ⟨0x900020, 0x40, 0x0, 31, 0⟩
def QUE_CTX8.CWI : Fld := ⟨0x900020, 0x40, 0x0, 16, 0⟩
def QUE_CTX9.reg : Fld := ⟨0x900024, 0x40, 0x0, 31, 0⟩
def QUE_CTX9.STATE : Fld := ⟨0x900024, 0x40, 0x0, 29, 28⟩
def QUE_CTX9.REASON : Fld := ⟨0x900024, 0x40, 0x0, 27, 24⟩
def QUE_CTX9.PENDING : Fld := ⟨0x900024, 0x40, 0x0, 23, 16⟩
def QUE_CTX9.HELD : Fld := ⟨0x900024, 0x40, 0x0, 15, 15⟩
def QUE_CTX10.reg : Fld := ⟨0x900028, 0x40, 0x0, 31, 0⟩
def QUE_CTX10.DROPS : Fld := ⟨0x900028, 0x40, 0x0, 31, 0⟩
def QUE_CTX11.reg : Fld := ⟨0x90002c, 0x40, 0x0, 31, 0⟩
def QUE_CTX11.TAGS : Fld := ⟨0x90002c, 0x40, 0x0, 31, 0⟩
/-! HBR (spec/16) -/
def HBR_ID.reg : Fld := ⟨0xa00000, 0x0, 0x0, 31, 0⟩
def HBR_ID.UNIT : Fld := ⟨0xa00000, 0x0, 0x0, 31, 16⟩
def HBR_ID.VERSION : Fld := ⟨0xa00000, 0x0, 0x0, 15, 0⟩
def HBR_LEVEL.reg : Fld := ⟨0xa00004, 0x0, 0x0, 31, 0⟩
def HBR_LEVEL.EXPERT : Fld := ⟨0xa00004, 0x0, 0x0, 0, 0⟩
def HBR_BASIC.reg : Fld := ⟨0xa00010, 0x0, 0x0, 31, 0⟩
def HBR_BASIC.POLLINT : Fld := ⟨0xa00010, 0x0, 0x0, 31, 16⟩
def HBR_BASIC.HOSTCTO : Fld := ⟨0xa00010, 0x0, 0x0, 15, 0⟩
def HBR_FLRSCOPE.reg : Fld := ⟨0xa00014, 0x0, 0x0, 31, 0⟩
def HBR_FLRSCOPE.SCOPE : Fld := ⟨0xa00014, 0x0, 0x0, 6, 0⟩
def HBR_TLPCFG.reg : Fld := ⟨0xa00018, 0x0, 0x0, 31, 0⟩
def HBR_TLPCFG.NOSNOOP : Fld := ⟨0xa00018, 0x0, 0x0, 1, 1⟩
def HBR_TLPCFG.RO : Fld := ⟨0xa00018, 0x0, 0x0, 0, 0⟩
def HBR_FARBASE.reg : Fld := ⟨0xa0001c, 0x0, 0x0, 31, 0⟩
def HBR_FARBASE.BASE : Fld := ⟨0xa0001c, 0x0, 0x0, 25, 16⟩
def HBR_STAT.reg : Fld := ⟨0xa00020, 0x0, 0x0, 31, 0⟩
def HBR_STAT.TAGMODE : Fld := ⟨0xa00020, 0x0, 0x0, 27, 26⟩
def HBR_STAT.L1 : Fld := ⟨0xa00020, 0x0, 0x0, 25, 25⟩
def HBR_STAT.WIDTH : Fld := ⟨0xa00020, 0x0, 0x0, 24, 20⟩
def HBR_STAT.GEN : Fld := ⟨0xa00020, 0x0, 0x0, 19, 16⟩
def HBR_STAT.CORE : Fld := ⟨0xa00020, 0x0, 0x0, 8, 8⟩
def HBR_STAT.D3 : Fld := ⟨0xa00020, 0x0, 0x0, 7, 7⟩
def HBR_STAT.MSIEN : Fld := ⟨0xa00020, 0x0, 0x0, 6, 6⟩
def HBR_STAT.MSIXEN : Fld := ⟨0xa00020, 0x0, 0x0, 5, 5⟩
def HBR_STAT.BME : Fld := ⟨0xa00020, 0x0, 0x0, 4, 4⟩
def HBR_STAT.STATE : Fld := ⟨0xa00020, 0x0, 0x0, 2, 0⟩
def HBR_COREGEN.reg : Fld := ⟨0xa00024, 0x0, 0x0, 31, 0⟩
def HBR_COREGEN.COUNT : Fld := ⟨0xa00024, 0x0, 0x0, 31, 0⟩
def HBR_POLLOFS.reg : Fld := ⟨0xa00028, 0x0, 0x0, 31, 0⟩
def HBR_POLLOFS.OFS : Fld := ⟨0xa00028, 0x0, 0x0, 25, 2⟩
def HBR_RDOUT.reg : Fld := ⟨0xa00030, 0x0, 0x0, 31, 0⟩
def HBR_RDOUT.PEAK : Fld := ⟨0xa00030, 0x0, 0x0, 25, 16⟩
def HBR_RDOUT.NOW : Fld := ⟨0xa00030, 0x0, 0x0, 9, 0⟩
def HBR_CNT.reg : Fld := ⟨0xa00034, 0x0, 0x0, 31, 0⟩
def HBR_CNT.CTO : Fld := ⟨0xa00034, 0x0, 0x0, 31, 16⟩
def HBR_CNT.UNEXP : Fld := ⟨0xa00034, 0x0, 0x0, 15, 0⟩
def HBR_ACCCNT.reg : Fld := ⟨0xa00038, 0x0, 0x0, 31, 0⟩
def HBR_ACCCNT.BAD : Fld := ⟨0xa00038, 0x0, 0x0, 31, 16⟩
def HBR_ACCCNT.UR : Fld := ⟨0xa00038, 0x0, 0x0, 15, 0⟩
def HBR_RSTACC.reg : Fld := ⟨0xa0003c, 0x0, 0x0, 31, 0⟩
def HBR_RSTACC.COUNT : Fld := ⟨0xa0003c, 0x0, 0x0, 31, 0⟩
def HBR_FARSTAT.reg : Fld := ⟨0xa00040, 0x0, 0x0, 31, 0⟩
def HBR_FARSTAT.INFLIGHT : Fld := ⟨0xa00040, 0x0, 0x0, 31, 24⟩
def HBR_FARSTAT.SKIP : Fld := ⟨0xa00040, 0x0, 0x0, 23, 16⟩
def HBR_FARSTAT.FAILS : Fld := ⟨0xa00040, 0x0, 0x0, 15, 0⟩
def HBR_FARLOG0.reg : Fld := ⟨0xa00044, 0x0, 0x0, 31, 0⟩
def HBR_FARLOG0.OFFSET : Fld := ⟨0xa00044, 0x0, 0x0, 27, 0⟩
def HBR_FARLOG1.reg : Fld := ⟨0xa00048, 0x0, 0x0, 31, 0⟩
def HBR_FARLOG1.VALID : Fld := ⟨0xa00048, 0x0, 0x0, 31, 31⟩
def HBR_FARLOG1.WRITE : Fld := ⟨0xa00048, 0x0, 0x0, 30, 30⟩
def HBR_FARLOG1.CAUSE : Fld := ⟨0xa00048, 0x0, 0x0, 27, 24⟩
def HBR_FARLOG1.NODE : Fld := ⟨0xa00048, 0x0, 0x0, 11, 0⟩
def HBR_FARTO.reg : Fld := ⟨0xa00060, 0x0, 0x0, 31, 0⟩
def HBR_FARTO.US : Fld := ⟨0xa00060, 0x0, 0x0, 23, 0⟩
def HBR_FARRD.reg : Fld := ⟨0xa00064, 0x0, 0x0, 31, 0⟩
def HBR_FARRD.COUNT : Fld := ⟨0xa00064, 0x0, 0x0, 7, 0⟩
def HBR_RDMAX.reg : Fld := ⟨0xa00068, 0x0, 0x0, 31, 0⟩
def HBR_RDMAX.COUNT : Fld := ⟨0xa00068, 0x0, 0x0, 9, 0⟩
def HBR_POLL.reg : Fld := ⟨0xa00100, 0x8, 0x0, 31, 0⟩
def HBR_POLL.EN : Fld := ⟨0xa00100, 0x8, 0x0, 31, 31⟩
def HBR_POLL.CHG : Fld := ⟨0xa00100, 0x8, 0x0, 30, 30⟩
def HBR_POLL.FAIL : Fld := ⟨0xa00100, 0x8, 0x0, 29, 29⟩
def HBR_POLL.NODE : Fld := ⟨0xa00100, 0x8, 0x0, 11, 0⟩
def HBR_POLLMASK.reg : Fld := ⟨0xa00104, 0x8, 0x0, 31, 0⟩
def HBR_POLLMASK.MASK : Fld := ⟨0xa00104, 0x8, 0x0, 31, 0⟩
def HBR_POLLVAL.reg : Fld := ⟨0xa00300, 0x4, 0x0, 31, 0⟩
def HBR_POLLVAL.VAL : Fld := ⟨0xa00300, 0x4, 0x0, 31, 0⟩
/-! VEN (spec/17) -/
def VEN_ID.reg : Fld := ⟨0xc00000, 0x0, 0x0, 31, 0⟩
def VEN_ID.UNIT : Fld := ⟨0xc00000, 0x0, 0x0, 31, 16⟩
def VEN_ID.VERSION : Fld := ⟨0xc00000, 0x0, 0x0, 15, 0⟩
def VEN_LEVEL.reg : Fld := ⟨0xc00004, 0x0, 0x0, 31, 0⟩
def VEN_LEVEL.EXPERT : Fld := ⟨0xc00004, 0x0, 0x0, 0, 0⟩
def VEN_CORECTL.reg : Fld := ⟨0xc00100, 0x10000, 0x0, 31, 0⟩
def VEN_CORECTL.PARK : Fld := ⟨0xc00100, 0x10000, 0x0, 0, 0⟩
def VEN_CORESTAT.reg : Fld := ⟨0xc00104, 0x10000, 0x0, 31, 0⟩
def VEN_CORESTAT.CTX : Fld := ⟨0xc00104, 0x10000, 0x0, 12, 8⟩
def VEN_CORESTAT.STATE : Fld := ⟨0xc00104, 0x10000, 0x0, 2, 0⟩
def VEN_CORECTU.reg : Fld := ⟨0xc00108, 0x10000, 0x0, 31, 0⟩
def VEN_CORECTU.COUNT : Fld := ⟨0xc00108, 0x10000, 0x0, 31, 0⟩
def VEN_COREFAULT.reg : Fld := ⟨0xc0010c, 0x10000, 0x0, 31, 0⟩
def VEN_COREFAULT.COUNT : Fld := ⟨0xc0010c, 0x10000, 0x0, 15, 0⟩
def VEN_STAT.reg : Fld := ⟨0xc80000, 0x0, 0x0, 31, 0⟩
def VEN_STAT.READY : Fld := ⟨0xc80000, 0x0, 0x0, 31, 0⟩
def VEN_CCFG.reg : Fld := ⟨0xc81000, 0x80, 0x0, 31, 0⟩
def VEN_CCFG.EN : Fld := ⟨0xc81000, 0x80, 0x0, 31, 31⟩
def VEN_CCFG.DIV : Fld := ⟨0xc81000, 0x80, 0x0, 30, 29⟩
def VEN_CCFG.SEED : Fld := ⟨0xc81000, 0x80, 0x0, 28, 28⟩
def VEN_CCFG.HASH : Fld := ⟨0xc81000, 0x80, 0x0, 27, 27⟩
def VEN_CCFG.NREF : Fld := ⟨0xc81000, 0x80, 0x0, 26, 25⟩
def VEN_CCFG.PIPE : Fld := ⟨0xc81000, 0x80, 0x0, 23, 22⟩
def VEN_CCFG.CORES : Fld := ⟨0xc81000, 0x80, 0x0, 15, 8⟩
def VEN_CRC.reg : Fld := ⟨0xc81004, 0x80, 0x0, 31, 0⟩
def VEN_CRC.MODE : Fld := ⟨0xc81004, 0x80, 0x0, 31, 30⟩
def VEN_CRC.KBPS : Fld := ⟨0xc81004, 0x80, 0x0, 19, 0⟩
def VEN_CGOP.reg : Fld := ⟨0xc81008, 0x80, 0x0, 31, 0⟩
def VEN_CGOP.IDRINT : Fld := ⟨0xc81008, 0x80, 0x0, 31, 16⟩
def VEN_CGOP.LEVEL : Fld := ⟨0xc81008, 0x80, 0x0, 7, 0⟩
def VEN_CFPS.reg : Fld := ⟨0xc8100c, 0x80, 0x0, 31, 0⟩
def VEN_CFPS.NUM : Fld := ⟨0xc8100c, 0x80, 0x0, 31, 16⟩
def VEN_CFPS.DEN : Fld := ⟨0xc8100c, 0x80, 0x0, 15, 0⟩
def VEN_CGAINX.reg : Fld := ⟨0xc81010, 0x80, 0x0, 31, 0⟩
def VEN_CGAINX.GAIN : Fld := ⟨0xc81010, 0x80, 0x0, 31, 0⟩
def VEN_CGAINY.reg : Fld := ⟨0xc81014, 0x80, 0x0, 31, 0⟩
def VEN_CGAINY.GAIN : Fld := ⟨0xc81014, 0x80, 0x0, 31, 0⟩
def VEN_CRBASELO.reg : Fld := ⟨0xc81018, 0x80, 0x0, 31, 0⟩
def VEN_CRBASELO.BASE : Fld := ⟨0xc81018, 0x80, 0x0, 31, 0⟩
def VEN_CRBASEHI.reg : Fld := ⟨0xc8101c, 0x80, 0x0, 31, 0⟩
def VEN_CRBASEHI.BASE : Fld := ⟨0xc8101c, 0x80, 0x0, 31, 0⟩
def VEN_CRSIZE.reg : Fld := ⟨0xc81020, 0x80, 0x0, 31, 0⟩
def VEN_CRSIZE.SIZE : Fld := ⟨0xc81020, 0x80, 0x0, 23, 0⟩
def VEN_CCTL.reg : Fld := ⟨0xc81024, 0x80, 0x0, 31, 0⟩
def VEN_CCTL.RESTART : Fld := ⟨0xc81024, 0x80, 0x0, 1, 1⟩
def VEN_CCTL.IDR : Fld := ⟨0xc81024, 0x80, 0x0, 0, 0⟩
def VEN_CSTAT.reg : Fld := ⟨0xc81030, 0x80, 0x0, 31, 0⟩
def VEN_CSTAT.STATE : Fld := ⟨0xc81030, 0x80, 0x0, 31, 28⟩
def VEN_CSTAT.REASON : Fld := ⟨0xc81030, 0x80, 0x0, 27, 24⟩
def VEN_CSTAT.IDRPEND : Fld := ⟨0xc81030, 0x80, 0x0, 23, 23⟩
def VEN_CSTAT.QP : Fld := ⟨0xc81030, 0x80, 0x0, 13, 8⟩
def VEN_CSTAT.SLOTS : Fld := ⟨0xc81030, 0x80, 0x0, 1, 0⟩
def VEN_CPICS.reg : Fld := ⟨0xc81034, 0x80, 0x0, 31, 0⟩
def VEN_CPICS.COUNT : Fld := ⟨0xc81034, 0x80, 0x0, 31, 0⟩
def VEN_CLOST.reg : Fld := ⟨0xc81038, 0x80, 0x0, 31, 0⟩
def VEN_CLOST.COUNT : Fld := ⟨0xc81038, 0x80, 0x0, 31, 0⟩
def VEN_CGMV.reg : Fld := ⟨0xc8103c, 0x80, 0x0, 31, 0⟩
def VEN_CGMV.X : Fld := ⟨0xc8103c, 0x80, 0x0, 31, 16⟩
def VEN_CGMV.Y : Fld := ⟨0xc8103c, 0x80, 0x0, 15, 0⟩
def VEN_CBITS.reg : Fld := ⟨0xc81040, 0x80, 0x0, 31, 0⟩
def VEN_CBITS.BITS : Fld := ⟨0xc81040, 0x80, 0x0, 31, 0⟩
def VEN_CLEVEL.reg : Fld := ⟨0xc81044, 0x80, 0x0, 31, 0⟩
def VEN_CLEVEL.TIER : Fld := ⟨0xc81044, 0x80, 0x0, 8, 8⟩
def VEN_CLEVEL.LEVEL : Fld := ⟨0xc81044, 0x80, 0x0, 7, 0⟩
def VEN_CQP.reg : Fld := ⟨0xc81060, 0x80, 0x0, 31, 0⟩
def VEN_CQP.QPMAX : Fld := ⟨0xc81060, 0x80, 0x0, 29, 24⟩
def VEN_CQP.QPMIN : Fld := ⟨0xc81060, 0x80, 0x0, 21, 16⟩
def VEN_CQP.QPINIT : Fld := ⟨0xc81060, 0x80, 0x0, 13, 8⟩
def VEN_CQP.QPSTEP : Fld := ⟨0xc81060, 0x80, 0x0, 7, 4⟩
def VEN_CQP.DQPIDR : Fld := ⟨0xc81060, 0x80, 0x0, 3, 0⟩
def VEN_CVBV.reg : Fld := ⟨0xc81064, 0x80, 0x0, 31, 0⟩
def VEN_CVBV.VBVKBIT : Fld := ⟨0xc81064, 0x80, 0x0, 23, 0⟩
def VEN_CMAXR.reg : Fld := ⟨0xc81068, 0x80, 0x0, 31, 0⟩
def VEN_CMAXR.MAXKBPS : Fld := ⟨0xc81068, 0x80, 0x0, 23, 0⟩
def VEN_CSRCH.reg : Fld := ⟨0xc8106c, 0x80, 0x0, 31, 0⟩
def VEN_CSRCH.SRCH2 : Fld := ⟨0xc8106c, 0x80, 0x0, 15, 8⟩
def VEN_CSRCH.SRCH0 : Fld := ⟨0xc8106c, 0x80, 0x0, 7, 0⟩
def VEN_CDIV.reg : Fld := ⟨0xc81070, 0x80, 0x0, 31, 0⟩
def VEN_CDIV.NSEG : Fld := ⟨0xc81070, 0x80, 0x0, 3, 0⟩
def VEN_ROI0.reg : Fld := ⟨0xc90000, 0x100, 0x10, 31, 0⟩
def VEN_ROI0.X : Fld := ⟨0xc90000, 0x100, 0x10, 31, 16⟩
def VEN_ROI0.Y : Fld := ⟨0xc90000, 0x100, 0x10, 15, 0⟩
def VEN_ROI1.reg : Fld := ⟨0xc90004, 0x100, 0x10, 31, 0⟩
def VEN_ROI1.W : Fld := ⟨0xc90004, 0x100, 0x10, 31, 16⟩
def VEN_ROI1.H : Fld := ⟨0xc90004, 0x100, 0x10, 15, 0⟩
def VEN_ROI2.reg : Fld := ⟨0xc90008, 0x100, 0x10, 31, 0⟩
def VEN_ROI2.EN : Fld := ⟨0xc90008, 0x100, 0x10, 31, 31⟩
def VEN_ROI2.GROW : Fld := ⟨0xc90008, 0x100, 0x10, 30, 30⟩
def VEN_ROI2.SPDDQP : Fld := ⟨0xc90008, 0x100, 0x10, 21, 16⟩
def VEN_ROI2.DQP : Fld := ⟨0xc90008, 0x100, 0x10, 13, 8⟩
def VEN_ROI3.reg : Fld := ⟨0xc9000c, 0x100, 0x10, 31, 0⟩
def VEN_ROI3.SPDTH : Fld := ⟨0xc9000c, 0x100, 0x10, 15, 0⟩
/-! DRL (spec/18) -/
def DRL_ID.reg : Fld := ⟨0xe00000, 0x0, 0x0, 31, 0⟩
def DRL_ID.UNIT : Fld := ⟨0xe00000, 0x0, 0x0, 31, 16⟩
def DRL_ID.VERSION : Fld := ⟨0xe00000, 0x0, 0x0, 15, 0⟩
def DRL_LEVEL.reg : Fld := ⟨0xe00004, 0x0, 0x0, 31, 0⟩
def DRL_LEVEL.EXPERT : Fld := ⟨0xe00004, 0x0, 0x0, 0, 0⟩
def DRL_PCFG.reg : Fld := ⟨0xe00100, 0x10000, 0x0, 31, 0⟩
def DRL_PCFG.RATE : Fld := ⟨0xe00100, 0x10000, 0x0, 1, 0⟩
def DRL_PSTAT.reg : Fld := ⟨0xe00104, 0x10000, 0x0, 31, 0⟩
def DRL_PSTAT.PARTNER : Fld := ⟨0xe00104, 0x10000, 0x0, 27, 16⟩
def DRL_PSTAT.PVALID : Fld := ⟨0xe00104, 0x10000, 0x0, 8, 8⟩
def DRL_PSTAT.RATE : Fld := ⟨0xe00104, 0x10000, 0x0, 5, 5⟩
def DRL_PSTAT.LINK : Fld := ⟨0xe00104, 0x10000, 0x0, 4, 4⟩
def DRL_PSTAT.STATE : Fld := ⟨0xe00104, 0x10000, 0x0, 2, 0⟩
def DRL_PDSNLO.reg : Fld := ⟨0xe00108, 0x10000, 0x0, 31, 0⟩
def DRL_PDSNLO.DSN : Fld := ⟨0xe00108, 0x10000, 0x0, 31, 0⟩
def DRL_PDSNHI.reg : Fld := ⟨0xe0010c, 0x10000, 0x0, 31, 0⟩
def DRL_PDSNHI.DSN : Fld := ⟨0xe0010c, 0x10000, 0x0, 31, 0⟩
def DRL_PCNT.reg : Fld := ⟨0xe00110, 0x10000, 0x0, 31, 0⟩
def DRL_PCNT.FCSERR : Fld := ⟨0xe00110, 0x10000, 0x0, 31, 16⟩
def DRL_PCNT.DOWNS : Fld := ⟨0xe00110, 0x10000, 0x0, 15, 0⟩
def DRL_PDROP.reg : Fld := ⟨0xe00114, 0x10000, 0x0, 31, 0⟩
def DRL_PDROP.OVERSIZE : Fld := ⟨0xe00114, 0x10000, 0x0, 31, 16⟩
def DRL_PDROP.OTHER : Fld := ⟨0xe00114, 0x10000, 0x0, 15, 0⟩
def DRL_PFWD.reg : Fld := ⟨0xe00118, 0x10000, 0x0, 31, 0⟩
def DRL_PFWD.COUNT : Fld := ⟨0xe00118, 0x10000, 0x0, 31, 0⟩
def DRL_CFG.reg : Fld := ⟨0xe20000, 0x0, 0x0, 31, 0⟩
def DRL_CFG.EN : Fld := ⟨0xe20000, 0x0, 0x0, 31, 31⟩
def DRL_CFG.PRIO : Fld := ⟨0xe20000, 0x0, 0x0, 15, 8⟩
def DRL_CFG.REMWR : Fld := ⟨0xe20000, 0x0, 0x0, 7, 7⟩
def DRL_CFG.REMRD : Fld := ⟨0xe20000, 0x0, 0x0, 6, 6⟩
def DRL_CFG.MODE : Fld := ⟨0xe20000, 0x0, 0x0, 1, 0⟩
def DRL_ENUM_HOLD.reg : Fld := ⟨0xe20004, 0x0, 0x0, 31, 0⟩
def DRL_ENUM_HOLD.MS : Fld := ⟨0xe20004, 0x0, 0x0, 15, 0⟩
def DRL_BEACON.reg : Fld := ⟨0xe20008, 0x0, 0x0, 31, 0⟩
def DRL_BEACON.MS : Fld := ⟨0xe20008, 0x0, 0x0, 7, 0⟩
def DRL_NODE.reg : Fld := ⟨0xe20010, 0x0, 0x0, 31, 0⟩
def DRL_NODE.VALID : Fld := ⟨0xe20010, 0x0, 0x0, 31, 31⟩
def DRL_NODE.ROOT : Fld := ⟨0xe20010, 0x0, 0x0, 30, 30⟩
def DRL_NODE.STATE : Fld := ⟨0xe20010, 0x0, 0x0, 29, 27⟩
def DRL_NODE.ID : Fld := ⟨0xe20010, 0x0, 0x0, 11, 0⟩
def DRL_NET.reg : Fld := ⟨0xe20014, 0x0, 0x0, 31, 0⟩
def DRL_NET.PHASE : Fld := ⟨0xe20014, 0x0, 0x0, 31, 30⟩
def DRL_NET.RINGCLOSED : Fld := ⟨0xe20014, 0x0, 0x0, 29, 29⟩
def DRL_NET.SLOW : Fld := ⟨0xe20014, 0x0, 0x0, 28, 28⟩
def DRL_NET.NODES : Fld := ⟨0xe20014, 0x0, 0x0, 24, 12⟩
def DRL_NET.ROOTID : Fld := ⟨0xe20014, 0x0, 0x0, 11, 0⟩
def DRL_ROOTDSNLO.reg : Fld := ⟨0xe20018, 0x0, 0x0, 31, 0⟩
def DRL_ROOTDSNLO.DSN : Fld := ⟨0xe20018, 0x0, 0x0, 31, 0⟩
def DRL_ROOTDSNHI.reg : Fld := ⟨0xe2001c, 0x0, 0x0, 31, 0⟩
def DRL_ROOTDSNHI.DSN : Fld := ⟨0xe2001c, 0x0, 0x0, 31, 0⟩
def DRL_EPOCH.reg : Fld := ⟨0xe20020, 0x0, 0x0, 31, 0⟩
def DRL_EPOCH.EPOCH : Fld := ⟨0xe20020, 0x0, 0x0, 15, 0⟩
def DRL_LEAD.reg : Fld := ⟨0xe20030, 0x0, 0x0, 31, 0⟩
def DRL_LEAD.NS : Fld := ⟨0xe20030, 0x0, 0x0, 31, 0⟩
def DRL_HOPNS.reg : Fld := ⟨0xe20034, 0x0, 0x0, 31, 0⟩
def DRL_HOPNS.NS : Fld := ⟨0xe20034, 0x0, 0x0, 15, 0⟩
def DRL_EVRX.reg : Fld := ⟨0xe20040, 0x0, 0x0, 31, 0⟩
def DRL_EVRX.COUNT : Fld := ⟨0xe20040, 0x0, 0x0, 31, 0⟩
def DRL_EVTX.reg : Fld := ⟨0xe20044, 0x0, 0x0, 31, 0⟩
def DRL_EVTX.COUNT : Fld := ⟨0xe20044, 0x0, 0x0, 31, 0⟩
def DRL_LATECNT.reg : Fld := ⟨0xe20048, 0x0, 0x0, 31, 0⟩
def DRL_LATECNT.COUNT : Fld := ⟨0xe20048, 0x0, 0x0, 31, 0⟩
def DRL_EVDROP.reg : Fld := ⟨0xe2004c, 0x0, 0x0, 31, 0⟩
def DRL_EVDROP.FULL : Fld := ⟨0xe2004c, 0x0, 0x0, 31, 16⟩
def DRL_EVDROP.NOID : Fld := ⟨0xe2004c, 0x0, 0x0, 15, 0⟩
def DRL_REMCNT.reg : Fld := ⟨0xe20050, 0x0, 0x0, 31, 0⟩
def DRL_REMCNT.REFUSED : Fld := ⟨0xe20050, 0x0, 0x0, 31, 16⟩
def DRL_REMCNT.BUSY : Fld := ⟨0xe20050, 0x0, 0x0, 15, 0⟩
def DRL_REMSERVED.reg : Fld := ⟨0xe20054, 0x0, 0x0, 31, 0⟩
def DRL_REMSERVED.COUNT : Fld := ⟨0xe20054, 0x0, 0x0, 31, 0⟩
def DRL_STALE.reg : Fld := ⟨0xe20058, 0x0, 0x0, 31, 0⟩
def DRL_STALE.COUNT : Fld := ⟨0xe20058, 0x0, 0x0, 15, 0⟩
def DRL_EVLAST0.reg : Fld := ⟨0xe20060, 0x0, 0x0, 31, 0⟩
def DRL_EVLAST0.VALID : Fld := ⟨0xe20060, 0x0, 0x0, 31, 31⟩
def DRL_EVLAST0.LATE : Fld := ⟨0xe20060, 0x0, 0x0, 30, 30⟩
def DRL_EVLAST0.UNSYNC : Fld := ⟨0xe20060, 0x0, 0x0, 29, 29⟩
def DRL_EVLAST0.NUM : Fld := ⟨0xe20060, 0x0, 0x0, 25, 16⟩
def DRL_EVLAST0.SRC : Fld := ⟨0xe20060, 0x0, 0x0, 11, 0⟩
def DRL_EVLAST1.reg : Fld := ⟨0xe20064, 0x0, 0x0, 31, 0⟩
def DRL_EVLAST1.OCCLO : Fld := ⟨0xe20064, 0x0, 0x0, 31, 0⟩
def DRL_EVLAST2.reg : Fld := ⟨0xe20068, 0x0, 0x0, 31, 0⟩
def DRL_EVLAST2.OCCHI : Fld := ⟨0xe20068, 0x0, 0x0, 31, 0⟩
def DRL_EVLAST3.reg : Fld := ⟨0xe2006c, 0x0, 0x0, 31, 0⟩
def DRL_EVLAST3.PRESLO : Fld := ⟨0xe2006c, 0x0, 0x0, 31, 0⟩
def DRL_EVLAST4.reg : Fld := ⟨0xe20070, 0x0, 0x0, 31, 0⟩
def DRL_EVLAST4.PRESHI : Fld := ⟨0xe20070, 0x0, 0x0, 31, 0⟩
def DRL_MEMBER.reg : Fld := ⟨0xe20100, 0x4, 0x0, 31, 0⟩
def DRL_MEMBER.MEMBER : Fld := ⟨0xe20100, 0x4, 0x0, 31, 0⟩
def DRL_RCFG0.reg : Fld := ⟨0xe21000, 0x8, 0x0, 31, 0⟩
def DRL_RCFG0.EN : Fld := ⟨0xe21000, 0x8, 0x0, 31, 31⟩
def DRL_RCFG0.NUM : Fld := ⟨0xe21000, 0x8, 0x0, 9, 0⟩
def DRL_RCFG1.reg : Fld := ⟨0xe21004, 0x8, 0x0, 31, 0⟩
def DRL_RCFG1.LEAD : Fld := ⟨0xe21004, 0x8, 0x0, 31, 0⟩
def DRL_EMAP.reg : Fld := ⟨0xe21400, 0x4, 0x0, 31, 0⟩
def DRL_EMAP.EN : Fld := ⟨0xe21400, 0x4, 0x0, 31, 31⟩
def DRL_EMAP.NUM : Fld := ⟨0xe21400, 0x4, 0x0, 9, 0⟩
/-! BWR (spec/19) -/
def BWR_ID.reg : Fld := ⟨0xe80000, 0x0, 0x0, 31, 0⟩
def BWR_ID.UNIT : Fld := ⟨0xe80000, 0x0, 0x0, 31, 16⟩
def BWR_ID.VERSION : Fld := ⟨0xe80000, 0x0, 0x0, 15, 0⟩
def BWR_LEVEL.reg : Fld := ⟨0xe80004, 0x0, 0x0, 31, 0⟩
def BWR_LEVEL.EXPERT : Fld := ⟨0xe80004, 0x0, 0x0, 0, 0⟩
def BWR_CFG.reg : Fld := ⟨0xe80100, 0x0, 0x0, 31, 0⟩
def BWR_CFG.EN : Fld := ⟨0xe80100, 0x0, 0x0, 31, 31⟩
def BWR_CFG.SLOT : Fld := ⟨0xe80100, 0x0, 0x0, 12, 8⟩
def BWR_CFG.RATE : Fld := ⟨0xe80100, 0x0, 0x0, 1, 0⟩
def BWR_STAT.reg : Fld := ⟨0xe80104, 0x0, 0x0, 31, 0⟩
def BWR_STAT.DAT : Fld := ⟨0xe80104, 0x0, 0x0, 9, 9⟩
def BWR_STAT.CLK : Fld := ⟨0xe80104, 0x0, 0x0, 8, 8⟩
def BWR_STAT.DUPSLOT : Fld := ⟨0xe80104, 0x0, 0x0, 3, 3⟩
def BWR_STAT.STATE : Fld := ⟨0xe80104, 0x0, 0x0, 2, 0⟩
def BWR_TXTO.reg : Fld := ⟨0xe80108, 0x0, 0x0, 31, 0⟩
def BWR_TXTO.MS : Fld := ⟨0xe80108, 0x0, 0x0, 15, 0⟩
def BWR_TIM.reg : Fld := ⟨0xe80140, 0x0, 0x0, 31, 0⟩
def BWR_TIM.TLOW : Fld := ⟨0xe80140, 0x0, 0x0, 31, 24⟩
def BWR_TIM.THIGH : Fld := ⟨0xe80140, 0x0, 0x0, 23, 16⟩
def BWR_TIM.HOLD : Fld := ⟨0xe80140, 0x0, 0x0, 15, 8⟩
def BWR_TIM.SAMPLE : Fld := ⟨0xe80140, 0x0, 0x0, 7, 0⟩
def BWR_TIM2.reg : Fld := ⟨0xe80144, 0x0, 0x0, 31, 0⟩
def BWR_TIM2.CLKTO : Fld := ⟨0xe80144, 0x0, 0x0, 31, 16⟩
def BWR_TIM2.IDLE : Fld := ⟨0xe80144, 0x0, 0x0, 15, 4⟩
def BWR_TIM2.FILT : Fld := ⟨0xe80144, 0x0, 0x0, 3, 0⟩
def BWR_TIM3.reg : Fld := ⟨0xe80148, 0x0, 0x0, 31, 0⟩
def BWR_TIM3.TSTRIKE : Fld := ⟨0xe80148, 0x0, 0x0, 31, 16⟩
def BWR_TIM3.RETRY : Fld := ⟨0xe80148, 0x0, 0x0, 3, 0⟩
def BWR_SCFG.reg : Fld := ⟨0xe80200, 0x4, 0x0, 31, 0⟩
def BWR_SCFG.PRIO : Fld := ⟨0xe80200, 0x4, 0x0, 30, 28⟩
def BWR_SCFG.BCAST : Fld := ⟨0xe80200, 0x4, 0x0, 27, 27⟩
def BWR_SCFG.DST : Fld := ⟨0xe80200, 0x4, 0x0, 20, 16⟩
def BWR_SCFG.NUM : Fld := ⟨0xe80200, 0x4, 0x0, 7, 0⟩
def BWR_EMAP.reg : Fld := ⟨0xe80280, 0x4, 0x0, 31, 0⟩
def BWR_EMAP.EN : Fld := ⟨0xe80280, 0x4, 0x0, 31, 31⟩
def BWR_EMAP.NUM : Fld := ⟨0xe80280, 0x4, 0x0, 7, 0⟩
def BWR_TXCTL.reg : Fld := ⟨0xe80300, 0x0, 0x0, 31, 0⟩
def BWR_TXCTL.BUSY : Fld := ⟨0xe80300, 0x0, 0x0, 31, 31⟩
def BWR_TXCTL.GO : Fld := ⟨0xe80300, 0x0, 0x0, 30, 30⟩
def BWR_TXCTL.RESULT : Fld := ⟨0xe80300, 0x0, 0x0, 29, 28⟩
def BWR_TXCTL.LEN : Fld := ⟨0xe80300, 0x0, 0x0, 15, 12⟩
def BWR_TXCTL.CMD : Fld := ⟨0xe80300, 0x0, 0x0, 11, 9⟩
def BWR_TXCTL.DST : Fld := ⟨0xe80300, 0x0, 0x0, 8, 4⟩
def BWR_TXCTL.BCAST : Fld := ⟨0xe80300, 0x0, 0x0, 3, 3⟩
def BWR_TXCTL.PRIO : Fld := ⟨0xe80300, 0x0, 0x0, 2, 0⟩
def BWR_TXDATA0.reg : Fld := ⟨0xe80304, 0x0, 0x0, 31, 0⟩
def BWR_TXDATA0.DATA : Fld := ⟨0xe80304, 0x0, 0x0, 31, 0⟩
def BWR_TXDATA1.reg : Fld := ⟨0xe80308, 0x0, 0x0, 31, 0⟩
def BWR_TXDATA1.DATA : Fld := ⟨0xe80308, 0x0, 0x0, 31, 0⟩
def BWR_RXSTAT.reg : Fld := ⟨0xe80310, 0x0, 0x0, 31, 0⟩
def BWR_RXSTAT.OVR : Fld := ⟨0xe80310, 0x0, 0x0, 31, 16⟩
def BWR_RXSTAT.COUNT : Fld := ⟨0xe80310, 0x0, 0x0, 4, 0⟩
def BWR_RX0.reg : Fld := ⟨0xe80314, 0x0, 0x0, 31, 0⟩
def BWR_RX0.VALID : Fld := ⟨0xe80314, 0x0, 0x0, 31, 31⟩
def BWR_RX0.BCAST : Fld := ⟨0xe80314, 0x0, 0x0, 16, 16⟩
def BWR_RX0.LEN : Fld := ⟨0xe80314, 0x0, 0x0, 11, 8⟩
def BWR_RX1.reg : Fld := ⟨0xe80318, 0x0, 0x0, 31, 0⟩
def BWR_RX1.DATA : Fld := ⟨0xe80318, 0x0, 0x0, 31, 0⟩
def BWR_RX2.reg : Fld := ⟨0xe8031c, 0x0, 0x0, 31, 0⟩
def BWR_RX2.DATA : Fld := ⟨0xe8031c, 0x0, 0x0, 31, 0⟩
def BWR_RXPOP.reg : Fld := ⟨0xe80320, 0x0, 0x0, 31, 0⟩
def BWR_RXPOP.ANY : Fld := ⟨0xe80320, 0x0, 0x0, 31, 0⟩
def BWR_TXCNT.reg : Fld := ⟨0xe80330, 0x0, 0x0, 31, 0⟩
def BWR_TXCNT.SENT : Fld := ⟨0xe80330, 0x0, 0x0, 31, 16⟩
def BWR_TXCNT.ARBLOST : Fld := ⟨0xe80330, 0x0, 0x0, 15, 0⟩
def BWR_ERRCNT.reg : Fld := ⟨0xe80334, 0x0, 0x0, 31, 0⟩
def BWR_ERRCNT.NACK : Fld := ⟨0xe80334, 0x0, 0x0, 31, 24⟩
def BWR_ERRCNT.CRC : Fld := ⟨0xe80334, 0x0, 0x0, 23, 16⟩
def BWR_ERRCNT.CLKTO : Fld := ⟨0xe80334, 0x0, 0x0, 15, 8⟩
def BWR_ERRCNT.RECOVER : Fld := ⟨0xe80334, 0x0, 0x0, 7, 0⟩
def BWR_RXCNT.reg : Fld := ⟨0xe80338, 0x0, 0x0, 31, 0⟩
def BWR_RXCNT.COUNT : Fld := ⟨0xe80338, 0x0, 0x0, 31, 0⟩
/-! ERR (spec/22) -/
def ERR_ID.reg : Fld := ⟨0xf00000, 0x0, 0x0, 31, 0⟩
def ERR_ID.UNIT : Fld := ⟨0xf00000, 0x0, 0x0, 31, 16⟩
def ERR_ID.VERSION : Fld := ⟨0xf00000, 0x0, 0x0, 15, 0⟩
def ERR_LEVEL.reg : Fld := ⟨0xf00004, 0x0, 0x0, 31, 0⟩
def ERR_LEVEL.EXPERT : Fld := ⟨0xf00004, 0x0, 0x0, 0, 0⟩
def ERR_CTL.reg : Fld := ⟨0xf00100, 0x0, 0x0, 31, 0⟩
def ERR_CTL.MINSEV : Fld := ⟨0xf00100, 0x0, 0x0, 1, 0⟩
def ERR_WCNT.reg : Fld := ⟨0xf00104, 0x0, 0x0, 31, 0⟩
def ERR_WCNT.COUNT : Fld := ⟨0xf00104, 0x0, 0x0, 31, 0⟩
def ERR_RCNT.reg : Fld := ⟨0xf00108, 0x0, 0x0, 31, 0⟩
def ERR_RCNT.COUNT : Fld := ⟨0xf00108, 0x0, 0x0, 31, 0⟩
def ERR_LOST.reg : Fld := ⟨0xf0010c, 0x0, 0x0, 31, 0⟩
def ERR_LOST.COUNT : Fld := ⟨0xf0010c, 0x0, 0x0, 31, 0⟩
def ERR_FILT.reg : Fld := ⟨0xf00110, 0x0, 0x0, 31, 0⟩
def ERR_FILT.COUNT : Fld := ⟨0xf00110, 0x0, 0x0, 31, 0⟩
def ERR_DROP.reg : Fld := ⟨0xf00114, 0x0, 0x0, 31, 0⟩
def ERR_DROP.COUNT : Fld := ⟨0xf00114, 0x0, 0x0, 31, 0⟩
def ERR_FIRSTV.reg : Fld := ⟨0xf00118, 0x0, 0x0, 31, 0⟩
def ERR_FIRSTV.VALID : Fld := ⟨0xf00118, 0x0, 0x0, 0, 0⟩
def ERR_FIRST.reg : Fld := ⟨0xf00200, 0x4, 0x0, 31, 0⟩
def ERR_FIRST.WORD : Fld := ⟨0xf00200, 0x4, 0x0, 31, 0⟩
def ERR_UNITCNT.reg : Fld := ⟨0xf00404, 0x4, 0x0, 31, 0⟩
def ERR_UNITCNT.COUNT : Fld := ⟨0xf00404, 0x4, 0x0, 15, 0⟩
def ERR_REC.reg : Fld := ⟨0xf01000, 0x4, 0x0, 31, 0⟩
def ERR_REC.WORD : Fld := ⟨0xf01000, 0x4, 0x0, 31, 0⟩

end Sys2Proof.Machine
end

