-- ==== Sys2Proof/Machine/Formulas.lean ====
section
/-! DEFINITION. The formulas by which derived fields follow from basic ones where reset words need them too (R150): the
PLLs (R60) and the pixel pipes (R354). All are exact integer arithmetic. -/

namespace Sys2Proof.Machine

/-- The quotient rounded to the nearest integer, halves away from zero. -/
def roundDiv (a : Int) (b : Nat) : Int :=
  if 0 ≤ a then (2 * a + b) / (2 * b : Nat) else -((-(2 * a) + b) / (2 * b : Nat))

/-- The quotient, one of the two nearest integers where the spec gives no rounding (log entry 34). -/
def openDiv (a : Int) (b : Nat) : Int :=
  if a % b = 0 then a / b else a / b + (if Sys2Proof.Config.roundUp a b then 1 else 0)

/-- The 16-bit two's complement code of a derived value (log entry 35 where it does not fit). -/
def code16 (i : Int) : Nat :=
  if -32768 ≤ i ∧ i ≤ 32767 then codeOf 16 i else (Sys2Proof.Config.outside16 i).toNat

/-- The 32-bit two's complement code of a value (log entry 35 where it does not fit). -/
def code32 (i : Int) : Nat :=
  if -2147483648 ≤ i ∧ i ≤ 2147483647 then codeOf 32 i else (Sys2Proof.Config.outside32 i).toNat

/-- The word of `CLK_PLL[p]` with these fields. -/
def pllWord (bw post fb ref : Nat) : Nat := bw * 2 ^ 30 + post * 2 ^ 26 + fb * 2 ^ 12 + ref

/-- The derived `CLK_PLL[p]` (R60); `ref25` is true when 25 MHz is the frequency of `TREF`. -/
def pllDerived (ref25 : Bool) (p : Nat) : Nat :=
  match p with
  | 0 => pllWord 2 10 40 1
  | 1 => if ref25 then pllWord 2 10 200 1 else pllWord 1 10 500 1
  | 2 => pllWord 2 4 40 1
  | _ => pllWord 2 4 28 1

/-! ### Pixel pipes (R354) -/

/-- Kr, Kg and Kb in ten-thousandths for a `CSC` code; 3 acts as 1. -/
def lumaK (csc k : Nat) : Nat :=
  let (r, b) := match csc with
    | 0 => (2990, 1140)
    | 2 => (2627, 593)
    | _ => (2126, 722)
  match k with
  | 0 => r
  | 1 => 10000 - r - b
  | _ => b

/-- Entry (i, j) of `CSCM` (R354) for a `CSC` code, full or narrow range. -/
def cscEntry (csc : Nat) (narrow : Bool) (i j : Nat) : Int :=
  let k : Int := lumaK csc j
  let own := if i == 1 then 2 else 0
  let num : Int := if i == 0 then k else if j == own then 5000 else -k * 5000
  let den : Nat := if i == 0 then 10000 else if j == own then 10000 else 10000 * (10000 - lumaK csc own)
  let scale : Nat := if i == 0 then 219 else 224
  if narrow then roundDiv (num * 4096 * scale) (den * 255) else roundDiv (num * 4096) den

/-- The luma offset of R354. -/
def cscLumaOfs (narrow : Bool) : Nat := if narrow then 4112 else 0

/-- The largest `n` below `2 ^ k` plus `lo` for which `p` holds, where `p` holds up to some point; `lo` when it holds for
none above. -/
def searchTop (p : Nat → Bool) : Nat → Nat → Nat
  | 0, lo => lo
  | k + 1, lo => if p (lo + 2 ^ k) then searchTop p k (lo + 2 ^ k) else searchTop p k lo

/-- Entry `k` of the tone LUT for a `GAMMA` code (R354): the rounded value as the largest `n` whose lower half bound lies
under the curve, compared in exact integer powers. -/
def lutEntry (gamma k : Nat) : Nat :=
  match gamma with
  | 0 => (2 * 65535 * k + 1024) / 2048
  | 1 =>
    if k * 1000 < 18 * 1024 then (2 * 65535 * 45 * k + 10240) / 20480
    else searchTop (fun n =>
      ((2 * n - 1) * 1000 + 2 * 65535 * 99) ^ 20 * 1024 ^ 9 ≤ (1099 * 2 * 65535) ^ 20 * k ^ 9) 16 0
  | 2 =>
    if k * 10000000 ≤ 31308 * 1024 then (2 * 65535 * 1292 * k + 102400) / 204800
    else searchTop (fun n =>
      ((2 * n - 1) * 1000 + 2 * 65535 * 55) ^ 12 * 1024 ^ 5 ≤ (1055 * 2 * 65535) ^ 12 * k ^ 5) 16 0
  | _ => searchTop (fun n => 2 ^ (4 * (2 * n - 1)) * 1024 ^ 65535 ≤ (1024 + 255 * k) ^ 65535) 16 0

/-- The four rounded taps of phase `j` before adjustment (R354), from f = j / 64. -/
def rawTap (j t : Nat) : Int :=
  let f : Int := j
  let c : Int := 64 * 64 * 64
  let num : Int := match t with
    | 0 => -f * f * f + 2 * f * f * 64 - f * 64 * 64
    | 1 => 3 * f * f * f - 5 * f * f * 64 + 2 * c
    | 2 => -3 * f * f * f + 4 * f * f * 64 + f * 64 * 64
    | _ => f * f * f - f * f * 64
  roundDiv (1024 * num) (2 * 64 ^ 3)

/-- Word `4 j + t` of table 4 (R354): tap 1 is adjusted so that the four add up to 1,024. -/
def scaleTap (j t : Nat) : Int :=
  if t == 1 then 1024 - rawTap j 0 - rawTap j 2 - rawTap j 3 else rawTap j t

/-- `HINC` or `VINC` for an input and an output size (R354). -/
def scaleInc (input output : Nat) : Nat := if output == 0 then 65536 else (roundDiv (65536 * input) output).toNat

/-- Entry `k` of the base matrix M at reset (R341): the identity, s4.12. -/
def identityEntry (k : Nat) : Nat := if k % 4 == 0 then 4096 else 0

/-- A word that holds entries `2 k` and `2 k + 1` of a 3 by 3 matrix, the second above the first. -/
def pairWord (e : Nat → Int) (k : Nat) : Nat := code16 (e (2 * k)) + (if k == 4 then 0 else code16 (e (2 * k + 1)) * 65536)

end Sys2Proof.Machine
end

