-- ==== Sys2Proof/Machine/RegRows.lean ====
section
/-! DEFINITION. The register map: one row for each register or register array of BAR0 (the register tables of spec/),
with its reset word and, bit by bit, which access code of R16 each bit has. -/

namespace Sys2Proof.Machine

def rowsCLK0 : List RegRow := [
  ⟨0x20000, 0x0, 1, 0x0, 1, 0x30100, 0x0, 0x0, 0x0, 0x0⟩ /- CLK_ID -/,
  ⟨0x20004, 0x0, 1, 0x0, 1, 0x0, 0x1, 0x0, 0x0, 0x0⟩ /- CLK_LEVEL -/,
  ⟨0x20010, 0x0, 1, 0x0, 1, 0x0, 0x3, 0x3, 0x0, 0x0⟩ /- CLK_TREF -/,
  ⟨0x20014, 0x0, 1, 0x0, 1, 0x0, 0x1, 0x1, 0x0, 0x0⟩ /- CLK_VENCEN -/,
  ⟨0x20020, 0x0, 1, 0x0, 1, 0x0, 0x0, 0x0, 0x0, 0x0⟩ /- CLK_STATUS -/,
  ⟨0x20024, 0x0, 1, 0x0, 1, 0x0, 0x0, 0x0, 0x0, 0xffc0⟩ /- CLK_LOSS -/,
  ⟨0x20028, 0x0, 1, 0x0, 1, 0x0, 0x0, 0x0, 0x0, 0x3⟩ /- CLK_CAUSE -/,
  ⟨0x20030, 0x0, 1, 0x0, 1, 0xff, 0x3ff, 0x0, 0x0, 0x0⟩ /- CLK_RST -/,
  ⟨0x20040, 0x0, 1, 0x0, 1, 0x0, 0xf, 0x0, 0x0, 0x0⟩ /- CLK_MONSEL -/,
  ⟨0x20044, 0x0, 1, 0x0, 1, 0x0, 0x0, 0x0, 0x0, 0x0⟩ /- CLK_MONVAL -/,
  ⟨0x20048, 0x0, 1, 0x0, 1, 0x0, 0xffff, 0x0, 0x0, 0x0⟩ /- CLK_XOVR -/,
  ⟨0x20100, 0x10, 4, 0x0, 1, 0x0, 0x0, 0x0, 0xfcfff00f, 0x0⟩ /- CLK_PLL -/]

/-- The rows of CLK (spec/02). -/
def rowsCLK : List RegRow := rowsCLK0

def rowsCFG0 : List RegRow := [
  ⟨0x10000, 0x0, 1, 0x0, 1, 0x20100, 0x0, 0x0, 0x0, 0x0⟩ /- CFG_ID -/,
  ⟨0x10004, 0x0, 1, 0x0, 1, 0x0, 0x1, 0x0, 0x0, 0x0⟩ /- CFG_LEVEL -/,
  ⟨0x10010, 0x0, 1, 0x0, 1, 0x0, 0x0, 0x0, 0x0, 0x0⟩ /- CFG_STATUS -/,
  ⟨0x10014, 0x0, 1, 0x0, 1, 0x0, 0x0, 0x0, 0x0, 0x0⟩ /- CFG_FAIL -/,
  ⟨0x10018, 0x0, 1, 0x0, 1, 0x0, 0x0, 0x0, 0x0, 0x0⟩ /- CFG_FAILREC -/,
  ⟨0x1001c, 0x0, 1, 0x0, 1, 0x0, 0x0, 0x0, 0x0, 0x0⟩ /- CFG_IMGROLL -/,
  ⟨0x10020, 0x0, 1, 0x0, 1, 0x0, 0x0, 0x0, 0x0, 0x0⟩ /- CFG_FLOOR -/,
  ⟨0x10024, 0x0, 1, 0x0, 1, 0x0, 0x0, 0x0, 0x0, 0x0⟩ /- CFG_BUILD -/,
  ⟨0x10028, 0x0, 1, 0x0, 1, 0x0, 0x0, 0x0, 0x0, 0x0⟩ /- CFG_SKIPPED -/,
  ⟨0x1002c, 0x0, 1, 0x0, 1, 0x0, 0x0, 0x0, 0x0, 0x0⟩ /- CFG_LOADTIME -/,
  ⟨0x10030, 0x0, 1, 0x0, 1, 0x0, 0x0, 0x0, 0x0, 0x0⟩ /- CFG_EARLYWR -/,
  ⟨0x10034, 0x0, 1, 0x0, 1, 0x1000000, 0x0, 0x0, 0x0, 0x0⟩ /- CFG_SLOTBOFS -/,
  ⟨0x10040, 0x0, 1, 0x0, 1, 0x130000, 0xffffff, 0xffffff, 0x0, 0x0⟩ /- CFG_FSPEED -/,
  ⟨0x10044, 0x0, 1, 0x0, 1, 0x2404, 0x0, 0x0, 0xff0f, 0x0⟩ /- CFG_FTIM -/,
  ⟨0x10050, 0x0, 1, 0x0, 1, 0x0, 0x0, 0x0, 0x0, 0x0⟩ /- CFG_URST -/,
  ⟨0x10054, 0x0, 1, 0x0, 1, 0x0, 0x0, 0x0, 0x0, 0x0⟩ /- CFG_WARM -/,
  ⟨0x10080, 0x0, 1, 0x0, 1, 0x0, 0x0, 0x0, 0x0, 0x0⟩ /- CFG_FUNLOCK -/,
  ⟨0x10084, 0x0, 1, 0x0, 1, 0x0, 0x0, 0x0, 0x0, 0x40000000⟩ /- CFG_FCMD -/,
  ⟨0x10088, 0x0, 1, 0x0, 1, 0x0, 0xfffffff, 0x0, 0x0, 0x0⟩ /- CFG_FADDR -/,
  ⟨0x1008c, 0x0, 1, 0x0, 1, 0x0, 0x1ff, 0x0, 0x0, 0x0⟩ /- CFG_FARG -/]

def rowsCFG1 : List RegRow := [
  ⟨0x10090, 0x0, 1, 0x0, 1, 0x0, 0x0, 0x0, 0x0, 0x0⟩ /- CFG_FRES -/,
  ⟨0x10100, 0x4, 64, 0x0, 1, 0x0, 0xffffffff, 0x0, 0x0, 0x0⟩ /- CFG_FBUF -/,
  ⟨0x10200, 0x4, 16, 0x0, 1, 0x0, 0x0, 0x0, 0x0, 0x0⟩ /- CFG_KEYHASH -/]

/-- The rows of CFG (spec/03). -/
def rowsCFG : List RegRow := rowsCFG0 ++ rowsCFG1

def rowsGLB0 : List RegRow := [
  ⟨0x0, 0x0, 1, 0x0, 1, 0x10100, 0x0, 0x0, 0x0, 0x0⟩ /- GLB_ID -/,
  ⟨0x4, 0x0, 1, 0x0, 1, 0x0, 0x1, 0x0, 0x0, 0x0⟩ /- GLB_LEVEL -/,
  ⟨0x8, 0x0, 1, 0x0, 1, 0x10, 0x0, 0x0, 0x0, 0x0⟩ /- GLB_REV -/,
  ⟨0x10, 0x0, 1, 0x0, 1, 0x0, 0x0, 0x0, 0x0, 0x0⟩ /- GLB_UNITS -/,
  ⟨0x14, 0x0, 1, 0x0, 1, 0x0, 0x0, 0x0, 0x0, 0x0⟩ /- GLB_CAP -/,
  ⟨0x18, 0x0, 1, 0x0, 1, 0x0, 0x0, 0x0, 0x0, 0x0⟩ /- GLB_LEVELSUM -/,
  ⟨0x20, 0x4, 5, 0x0, 1, 0x0, 0x0, 0x0, 0x0, 0x0⟩ /- GLB_INST -/,
  ⟨0x38, 0x0, 1, 0x0, 1, 0x0, 0x0, 0x0, 0x0, 0x0⟩ /- GLB_DSNLO -/,
  ⟨0x3c, 0x0, 1, 0x0, 1, 0x0, 0x0, 0x0, 0x0, 0x0⟩ /- GLB_DSNHI -/,
  ⟨0x40, 0x0, 1, 0x0, 1, 0x0, 0x7, 0x0, 0x0, 0x0⟩ /- GLB_MODE -/,
  ⟨0x44, 0x0, 1, 0x0, 1, 0x0, 0xff, 0x0, 0x0, 0x0⟩ /- GLB_MODESTAT -/,
  ⟨0x48, 0x0, 1, 0x0, 1, 0x64, 0xffff, 0x0, 0x0, 0x0⟩ /- GLB_DRAIN -/,
  ⟨0x4c, 0x0, 1, 0x0, 1, 0x0, 0x107, 0x0, 0x0, 0x0⟩ /- GLB_GOTOCFG -/,
  ⟨0x50, 0x4, 2, 0x0, 1, 0x0, 0x0, 0x0, 0x0, 0x0⟩ /- GLB_HELD -/,
  ⟨0x58, 0x0, 1, 0x0, 1, 0x0, 0xffffffff, 0x0, 0x0, 0x0⟩ /- GLB_TRUNCCNT -/,
  ⟨0x60, 0x0, 1, 0x0, 1, 0x0, 0xffff, 0x0, 0x0, 0x0⟩ /- GLB_ABSENTWR -/,
  ⟨0x64, 0x0, 1, 0x0, 1, 0x0, 0x0, 0x0, 0x0, 0x0⟩ /- GLB_ABSENTADR -/,
  ⟨0x68, 0x0, 1, 0x0, 1, 0x0, 0xffff, 0x0, 0x0, 0x0⟩ /- GLB_XDROP -/,
  ⟨0x6c, 0x0, 1, 0x0, 1, 0x0, 0x0, 0x0, 0x0, 0x0⟩ /- GLB_XDROPADR -/]

/-- The rows of GLB (spec/04,ch05). -/
def rowsGLB : List RegRow := rowsGLB0

def rowsTIM0 : List RegRow := [
  ⟨0x100000, 0x0, 1, 0x0, 1, 0x40100, 0x0, 0x0, 0x0, 0x0⟩ /- TIM_ID -/,
  ⟨0x100004, 0x0, 1, 0x0, 1, 0x0, 0x1, 0x0, 0x0, 0x0⟩ /- TIM_LEVEL -/,
  ⟨0x100010, 0x0, 1, 0x0, 1, 0x0, 0x7, 0x7, 0x0, 0x0⟩ /- TIM_ROLE -/,
  ⟨0x100014, 0x0, 1, 0x0, 1, 0xd0d002, 0xfffff007, 0xfffff007, 0x0, 0x0⟩ /- TIM_PTPCFG -/,
  ⟨0x100018, 0x0, 1, 0x0, 1, 0x1140006, 0xffff0007, 0xffff0007, 0x0, 0x0⟩ /- TIM_SVBASIC -/,
  ⟨0x10001c, 0x0, 1, 0x0, 1, 0x0, 0xffffffff, 0xffffffff, 0x0, 0x0⟩ /- TIM_EPOCHLO -/,
  ⟨0x100020, 0x0, 1, 0x0, 1, 0x0, 0xffffffff, 0xffffffff, 0x0, 0x0⟩ /- TIM_EPOCHHI -/,
  ⟨0x100024, 0x0, 1, 0x0, 1, 0x8080f8fe, 0xffffffff, 0xffffffff, 0x0, 0x0⟩ /- TIM_ANNCFG -/,
  ⟨0x100028, 0x0, 1, 0x0, 1, 0x25ffff, 0xffffffff, 0xffffffff, 0x0, 0x0⟩ /- TIM_ANNCFG2 -/,
  ⟨0x10002c, 0x0, 1, 0x0, 1, 0x1900, 0xffc7, 0x0, 0x0, 0x0⟩ /- TIM_PPSCFG -/,
  ⟨0x100040, 0x0, 1, 0x0, 1, 0x78, 0xff000100, 0x0, 0x0, 0x0⟩ /- TIM_STAT -/,
  ⟨0x100044, 0x0, 1, 0x0, 1, 0x0, 0x0, 0x0, 0x0, 0x0⟩ /- TIM_CTRL -/,
  ⟨0x100050, 0x0, 1, 0x0, 1, 0x0, 0x0, 0x0, 0x0, 0x0⟩ /- TIM_OFFSET -/,
  ⟨0x100054, 0x0, 1, 0x0, 1, 0x0, 0x0, 0x0, 0x0, 0x0⟩ /- TIM_PATHDLY -/,
  ⟨0x100058, 0x0, 1, 0x0, 1, 0x0, 0x0, 0x0, 0x0, 0x0⟩ /- TIM_UTCOFS -/,
  ⟨0x10005c, 0x0, 1, 0x0, 1, 0x0, 0x0, 0x0, 0x0, 0x0⟩ /- TIM_GMIDLO -/,
  ⟨0x100060, 0x0, 1, 0x0, 1, 0x0, 0x0, 0x0, 0x0, 0x0⟩ /- TIM_GMIDHI -/,
  ⟨0x100064, 0x0, 1, 0x0, 1, 0x0, 0xffffffff, 0x0, 0x0, 0x0⟩ /- TIM_ANNDROP -/,
  ⟨0x100068, 0x0, 1, 0x0, 1, 0x0, 0xffffffff, 0x0, 0x0, 0x0⟩ /- TIM_PTPERR -/,
  ⟨0x10006c, 0x0, 1, 0x0, 1, 0x0, 0xffffffff, 0x0, 0x0, 0x0⟩ /- TIM_PPSCNT -/]

def rowsTIM1 : List RegRow := [
  ⟨0x100100, 0x4, 2, 0x0, 1, 0x0, 0x0, 0x0, 0x0, 0x0⟩ /- TIM_SEC -/,
  ⟨0x100108, 0x0, 1, 0x0, 1, 0x0, 0x0, 0x0, 0x0, 0x0⟩ /- TIM_NS -/,
  ⟨0x10010c, 0x0, 1, 0x0, 1, 0x0, 0x0, 0x0, 0x0, 0x0⟩ /- TIM_FRAC -/,
  ⟨0x100110, 0x0, 1, 0x0, 1, 0x0, 0x0, 0x0, 0xffffffff, 0x0⟩ /- TIM_INCF -/,
  ⟨0x100114, 0x0, 1, 0x0, 1, 0x2, 0x0, 0x0, 0xff, 0x0⟩ /- TIM_INCI -/,
  ⟨0x100118, 0x0, 1, 0x0, 1, 0x0, 0x0, 0x0, 0xffffffff, 0x0⟩ /- TIM_ADJ -/,
  ⟨0x10011c, 0x0, 1, 0x0, 1, 0x3e8, 0x0, 0x0, 0xffffff, 0x0⟩ /- TIM_SLEW -/,
  ⟨0x100120, 0x0, 1, 0x0, 1, 0x0, 0x0, 0x0, 0x0, 0x0⟩ /- TIM_APPLIED -/,
  ⟨0x100124, 0x0, 1, 0x0, 1, 0x0, 0x0, 0x0, 0xffffffff, 0x0⟩ /- TIM_STEPSECLO -/,
  ⟨0x100128, 0x0, 1, 0x0, 1, 0x0, 0x0, 0x0, 0xffff, 0x0⟩ /- TIM_STEPSECHI -/,
  ⟨0x10012c, 0x0, 1, 0x0, 1, 0x0, 0x0, 0x0, 0x3fffffff, 0x0⟩ /- TIM_STEPNS -/,
  ⟨0x100130, 0x0, 1, 0x0, 1, 0x0, 0x0, 0x0, 0x0, 0x0⟩ /- TIM_STEPCMD -/,
  ⟨0x100140, 0x0, 1, 0x0, 1, 0x80001000, 0x0, 0x0, 0xffffffff, 0x0⟩ /- TIM_SVGAIN -/,
  ⟨0x100144, 0x0, 1, 0x0, 1, 0xc803205, 0x0, 0x0, 0xffffffff, 0x0⟩ /- TIM_SVLIM -/,
  ⟨0x100148, 0x0, 1, 0x0, 1, 0xf4240, 0x0, 0x0, 0xffffffff, 0x0⟩ /- TIM_SVPANIC -/,
  ⟨0x100180, 0x8, 2, 0x0, 1, 0x2666, 0x0, 0x0, 0xffffffff, 0x0⟩ /- TIM_TXLAT -/,
  ⟨0x100184, 0x8, 2, 0x0, 1, 0x34cd, 0x0, 0x0, 0xffffffff, 0x0⟩ /- TIM_RXLAT -/,
  ⟨0x100200, 0x10, 8, 0x0, 1, 0x0, 0x3fffffff, 0x0, 0x0, 0x0⟩ /- TIM_CMPNS -/,
  ⟨0x100204, 0x10, 8, 0x0, 1, 0x0, 0xffffffff, 0x0, 0x0, 0x0⟩ /- TIM_CMPSECLO -/,
  ⟨0x100208, 0x10, 8, 0x0, 1, 0x0, 0xffff, 0x0, 0x0, 0x0⟩ /- TIM_CMPSECHI -/]

def rowsTIM2 : List RegRow := [
  ⟨0x10020c, 0x10, 8, 0x0, 1, 0x0, 0xffffffff, 0x0, 0x0, 0x0⟩ /- TIM_CMPPER -/,
  ⟨0x100280, 0x0, 1, 0x0, 1, 0x0, 0xff, 0x0, 0x0, 0x0⟩ /- TIM_CMPEN -/,
  ⟨0x100300, 0x10, 8, 0x0, 1, 0x0, 0x0, 0x0, 0x0, 0x0⟩ /- TIM_CAPTNS -/,
  ⟨0x100304, 0x10, 8, 0x0, 1, 0x0, 0x0, 0x0, 0x0, 0x0⟩ /- TIM_CAPTSECLO -/,
  ⟨0x100308, 0x10, 8, 0x0, 1, 0x0, 0x0, 0x0, 0x0, 0x0⟩ /- TIM_CAPTSECHI -/,
  ⟨0x10030c, 0x10, 8, 0x0, 1, 0x0, 0x0, 0x0, 0x0, 0x2⟩ /- TIM_CAPTST -/,
  ⟨0x100400, 0x0, 1, 0x0, 1, 0x0, 0x8000ffff, 0x0, 0x0, 0x0⟩ /- TIM_RAWCFG -/,
  ⟨0x100404, 0x0, 1, 0x0, 1, 0x0, 0x0, 0x0, 0x0, 0x0⟩ /- TIM_RAWPOP -/,
  ⟨0x100440, 0x4, 12, 0x0, 1, 0x0, 0x0, 0x0, 0x0, 0x0⟩ /- TIM_RAW -/]

/-- The rows of TIM (spec/06). -/
def rowsTIM : List RegRow := rowsTIM0 ++ rowsTIM1 ++ rowsTIM2

def rowsLNP0 : List RegRow := [
  ⟨0x200000, 0x0, 1, 0x0, 1, 0x50100, 0x0, 0x0, 0x0, 0x0⟩ /- LNP_ID -/,
  ⟨0x200004, 0x0, 1, 0x0, 1, 0x0, 0x1, 0x0, 0x0, 0x0⟩ /- LNP_LEVEL -/,
  ⟨0x200100, 0x4000, 16, 0x0, 1, 0x0, 0x17, 0x17, 0x0, 0x0⟩ /- LNP_CFG -/,
  ⟨0x200104, 0x4000, 16, 0x0, 1, 0x0, 0x0, 0x0, 0x0, 0x0⟩ /- LNP_CTL -/,
  ⟨0x200108, 0x4000, 16, 0x0, 1, 0x0, 0x0, 0x0, 0x0, 0x0⟩ /- LNP_STAT -/,
  ⟨0x20010c, 0x4000, 16, 0x0, 1, 0x0, 0x0, 0x0, 0x0, 0x0⟩ /- LNP_PARTNER -/,
  ⟨0x200110, 0x4000, 16, 0x0, 1, 0x10000, 0x30107, 0x30107, 0x0, 0x0⟩ /- LNP_EQBASIC -/,
  ⟨0x200114, 0x4000, 16, 0x0, 1, 0x0, 0x1ffff, 0x1ffff, 0x0, 0x0⟩ /- LNP_LPCFG -/,
  ⟨0x200118, 0x4000, 16, 0x0, 1, 0x0, 0x0, 0x0, 0x0, 0x0⟩ /- LNP_LPCTL -/,
  ⟨0x20011c, 0x4000, 16, 0x0, 1, 0x4b15, 0xffff, 0xffff, 0x0, 0x0⟩ /- LNP_MONCFG -/,
  ⟨0x200140, 0x4000, 16, 0x0, 1, 0x80000000, 0x0, 0x0, 0x803f3f3f, 0x0⟩ /- LNP_TXFIR -/,
  ⟨0x200144, 0x4000, 16, 0x0, 1, 0x80000000, 0x0, 0x0, 0x8fffffc0, 0x0⟩ /- LNP_RXEQ -/,
  ⟨0x200148, 0x4000, 16, 0x0, 1, 0xff, 0x0, 0x0, 0xff, 0x0⟩ /- LNP_PRESETS -/,
  ⟨0x20014c, 0x4000, 16, 0x0, 1, 0x14020a00, 0x0, 0x0, 0xffffff00, 0x0⟩ /- LNP_TMO -/,
  ⟨0x200150, 0x4000, 16, 0x0, 1, 0x3e80064, 0x0, 0x0, 0xffffffff, 0x0⟩ /- LNP_TMO2 -/,
  ⟨0x200154, 0x4000, 16, 0x0, 1, 0x14, 0x0, 0x0, 0xffffff, 0x0⟩ /- LNP_MONTH -/,
  ⟨0x200158, 0x4000, 16, 0x0, 1, 0x0, 0x0, 0x0, 0xffff, 0x0⟩ /- LNP_MONTH2 -/,
  ⟨0x200180, 0x4000, 16, 0x0, 1, 0x0, 0xffffff, 0x0, 0x0, 0x0⟩ /- LNP_TRNFAIL -/,
  ⟨0x200184, 0x4000, 16, 0x0, 1, 0x0, 0xffffffff, 0x0, 0x0, 0x0⟩ /- LNP_BADHDR -/,
  ⟨0x200188, 0x4000, 16, 0x0, 1, 0x0, 0xffff, 0x0, 0x0, 0x0⟩ /- LNP_LOCKCNT -/]

def rowsLNP1 : List RegRow := [
  ⟨0x20018c, 0x4000, 16, 0x0, 1, 0x0, 0xffffffff, 0x0, 0x0, 0x0⟩ /- LNP_TYPECNT -/,
  ⟨0x200190, 0x4000, 16, 0x0, 1, 0x0, 0xffffffff, 0x0, 0x0, 0x0⟩ /- LNP_EBADJ -/,
  ⟨0x200194, 0x4000, 16, 0x0, 1, 0x0, 0xffff, 0x0, 0x0, 0x0⟩ /- LNP_EBSLIP -/,
  ⟨0x2001c0, 0x4000, 16, 0x0, 1, 0x0, 0x0, 0x0, 0x0, 0x0⟩ /- LNP_MARGIN -/,
  ⟨0x2001c4, 0x4000, 16, 0x0, 1, 0x0, 0x0, 0x0, 0x0, 0x0⟩ /- LNP_MARGIN2 -/,
  ⟨0x200200, 0x4000, 16, 0x0, 1, 0x0, 0xffffffc0, 0x0, 0x0, 0x0⟩ /- LNP_ESCFG -/,
  ⟨0x200204, 0x4000, 16, 0x0, 1, 0x0, 0x3fff, 0x0, 0x0, 0x0⟩ /- LNP_ESCFG2 -/,
  ⟨0x200208, 0x4000, 16, 0x0, 1, 0x0, 0x0, 0x0, 0x0, 0x0⟩ /- LNP_ESCTL -/,
  ⟨0x20020c, 0x4000, 16, 0x0, 1, 0x0, 0x0, 0x0, 0x0, 0x0⟩ /- LNP_ESSTAT -/,
  ⟨0x200210, 0x4000, 16, 0x0, 1, 0x0, 0x1fff, 0x0, 0x0, 0x0⟩ /- LNP_ESIDX -/,
  ⟨0x200214, 0x4000, 16, 0x0, 1, 0x0, 0x0, 0x0, 0x0, 0x0⟩ /- LNP_ESDATA -/,
  ⟨0x200240, 0x4000, 16, 0x0, 1, 0x0, 0x3, 0x0, 0x0, 0x0⟩ /- LNP_LOOP -/,
  ⟨0x200244, 0x4000, 16, 0x0, 1, 0x0, 0x33, 0x0, 0x0, 0x0⟩ /- LNP_PRBS -/,
  ⟨0x200248, 0x4000, 16, 0x0, 1, 0x0, 0xffffffff, 0x0, 0x0, 0x0⟩ /- LNP_PRBSERR -/,
  ⟨0x20024c, 0x4000, 16, 0x4, 2, 0x0, 0xffffffff, 0x0, 0x0, 0x0⟩ /- LNP_PRBSBITS -/,
  ⟨0x200260, 0x4000, 16, 0x0, 1, 0x0, 0x0, 0x0, 0x0, 0x0⟩ /- LNP_INJ -/,
  ⟨0x240000, 0x0, 1, 0x0, 1, 0x0, 0x0, 0x0, 0x0, 0x0⟩ /- LNP_LINKMAP -/,
  ⟨0x240004, 0x0, 1, 0x0, 1, 0x0, 0x0, 0x0, 0x0, 0x0⟩ /- LNP_ALARMMAP -/]

/-- The rows of LNP (spec/07). -/
def rowsLNP : List RegRow := rowsLNP0 ++ rowsLNP1

def rowsCLP0 : List RegRow := [
  ⟨0x300000, 0x0, 1, 0x0, 1, 0x60100, 0x0, 0x0, 0x0, 0x0⟩ /- CLP_ID -/,
  ⟨0x300004, 0x0, 1, 0x0, 1, 0x0, 0x1, 0x0, 0x0, 0x0⟩ /- CLP_LEVEL -/,
  ⟨0x300100, 0x2000, 16, 0x0, 1, 0x0, 0x0, 0x0, 0x0, 0x0⟩ /- CLP_LSTAT -/,
  ⟨0x300104, 0x2000, 16, 0x0, 1, 0x0, 0xffffffff, 0x0, 0x0, 0x0⟩ /- CLP_LERR -/,
  ⟨0x300200, 0x2000, 16, 0x0, 1, 0x0, 0x0, 0x0, 0x0, 0x0⟩ /- CLP_GSTAT -/,
  ⟨0x300204, 0x2000, 16, 0x0, 1, 0x0, 0xbf000000, 0x0, 0x0, 0x0⟩ /- CLP_GCFG -/,
  ⟨0x300208, 0x2000, 16, 0x0, 1, 0x43, 0xff, 0xff, 0x0, 0x0⟩ /- CLP_RELCFG -/,
  ⟨0x30020c, 0x2000, 16, 0x0, 1, 0x0, 0x0, 0x0, 0x0, 0x0⟩ /- CLP_SEQ -/,
  ⟨0x300210, 0x2000, 16, 0x0, 1, 0xfff, 0x0, 0x0, 0x0, 0x0⟩ /- CLP_SEQ2 -/,
  ⟨0x300214, 0x2000, 16, 0x0, 1, 0x0, 0xffffffff, 0x0, 0x0, 0x0⟩ /- CLP_RELCNT -/,
  ⟨0x300218, 0x2000, 16, 0x0, 1, 0x0, 0xffffffff, 0x0, 0x0, 0x0⟩ /- CLP_REPLAYS -/,
  ⟨0x30021c, 0x2000, 16, 0x0, 1, 0x0, 0xffff, 0x0, 0x0, 0x0⟩ /- CLP_DUP -/,
  ⟨0x300220, 0x2000, 16, 0x0, 1, 0x0, 0xffff, 0x0, 0x0, 0x0⟩ /- CLP_LOST -/,
  ⟨0x300224, 0x2000, 16, 0x0, 1, 0x0, 0x0, 0x0, 0x0, 0x0⟩ /- CLP_LINKDLY -/,
  ⟨0x300228, 0x2000, 16, 0x0, 1, 0x0, 0x0, 0x0, 0x0, 0x0⟩ /- CLP_PART0 -/,
  ⟨0x30022c, 0x2000, 16, 0x0, 1, 0x0, 0x0, 0x0, 0x0, 0x0⟩ /- CLP_PART1 -/,
  ⟨0x300230, 0x2000, 16, 0x0, 1, 0x0, 0x0, 0x0, 0x0, 0x0⟩ /- CLP_SERLO -/,
  ⟨0x300234, 0x2000, 16, 0x0, 1, 0x0, 0x0, 0x0, 0x0, 0x0⟩ /- CLP_SERHI -/,
  ⟨0x300238, 0x2000, 16, 0x0, 1, 0x0, 0xffffff, 0x0, 0x0, 0x0⟩ /- CLP_EVTCNT -/,
  ⟨0x30023c, 0x2000, 16, 0x0, 1, 0x0, 0xffffffff, 0x0, 0x0, 0x0⟩ /- CLP_BADPKT -/]

def rowsCLP1 : List RegRow := [
  ⟨0x300280, 0x2000, 16, 0x0, 1, 0x1223, 0x0, 0x0, 0xffffff, 0x0⟩ /- CLP_RTO -/,
  ⟨0x300284, 0x2000, 16, 0x0, 1, 0xa040440, 0x0, 0x0, 0xffffffff, 0x0⟩ /- CLP_ACKCFG -/,
  ⟨0x300300, 0x2000, 16, 0x0, 1, 0x0, 0xff, 0x0, 0x0, 0x0⟩ /- CLP_CCCTL -/,
  ⟨0x300304, 0x2000, 16, 0x0, 1, 0x0, 0xffffffff, 0x0, 0x0, 0x0⟩ /- CLP_CCADDR -/,
  ⟨0x300308, 0x2000, 16, 0x0, 1, 0xa, 0xff, 0xff, 0x0, 0x0⟩ /- CLP_CCTO -/,
  ⟨0x300400, 0x2000, 16, 0x4, 64, 0x0, 0xffffffff, 0x0, 0x0, 0x0⟩ /- CLP_CCDATA -/,
  ⟨0x320000, 0x0, 1, 0x0, 1, 0x64000a, 0xffffffff, 0xffffffff, 0x0, 0x0⟩ /- CLP_TIMECFG -/,
  ⟨0x320004, 0x0, 1, 0x0, 1, 0x0, 0xffffffff, 0x0, 0x0, 0x0⟩ /- CLP_DISCARD -/,
  ⟨0x320008, 0x0, 1, 0x0, 1, 0x0, 0x0, 0x0, 0x0, 0x0⟩ /- CLP_GROUPMAP -/,
  ⟨0x321000, 0x10, 64, 0x0, 1, 0x64, 0x800f07ff, 0x0, 0x0, 0x0⟩ /- CLP_STREAM0 -/,
  ⟨0x321004, 0x10, 64, 0x0, 1, 0x640000, 0xffffffff, 0x0, 0x0, 0x0⟩ /- CLP_STREAM1 -/,
  ⟨0x321008, 0x10, 64, 0x0, 1, 0x0, 0xffffffff, 0x0, 0x0, 0x0⟩ /- CLP_STREAM2 -/,
  ⟨0x32100c, 0x10, 64, 0x0, 1, 0x0, 0xffffffff, 0x0, 0x0, 0x0⟩ /- CLP_STREAM3 -/]

/-- The rows of CLP (spec/08). -/
def rowsCLP : List RegRow := rowsCLP0 ++ rowsCLP1

def rowsPAR0 : List RegRow := [
  ⟨0x380000, 0x0, 1, 0x0, 1, 0x70100, 0x0, 0x0, 0x0, 0x0⟩ /- PAR_ID -/,
  ⟨0x380004, 0x0, 1, 0x0, 1, 0x0, 0x1, 0x0, 0x0, 0x0⟩ /- PAR_LEVEL -/,
  ⟨0x380100, 0x40000, 2, 0x0, 1, 0x0, 0xff001fff, 0xff001fff, 0x0, 0x0⟩ /- PAR_CFG -/,
  ⟨0x380104, 0x40000, 2, 0x0, 1, 0x0, 0xffffffff, 0xffffffff, 0x0, 0x0⟩ /- PAR_SIZE -/,
  ⟨0x380108, 0x40000, 2, 0x0, 1, 0x0, 0xffffffff, 0xffffffff, 0x0, 0x0⟩ /- PAR_WIN -/,
  ⟨0x38010c, 0x40000, 2, 0x0, 1, 0x0, 0xbf0000ff, 0xbf0000ff, 0x0, 0x0⟩ /- PAR_STREAM -/,
  ⟨0x380110, 0x40000, 2, 0x0, 1, 0x64, 0xffff, 0xffff, 0x0, 0x0⟩ /- PAR_TRIGCFG -/,
  ⟨0x380114, 0x40000, 2, 0x0, 1, 0x0, 0xffffffff, 0xffffffff, 0x0, 0x0⟩ /- PAR_EXPOFS -/,
  ⟨0x380118, 0x40000, 2, 0x0, 1, 0x0, 0xffffffff, 0xffffffff, 0x0, 0x0⟩ /- PAR_EXPDUR -/,
  ⟨0x38011c, 0x40000, 2, 0x0, 1, 0x0, 0xffff, 0xffff, 0x0, 0x0⟩ /- PAR_FRAMETO -/,
  ⟨0x380140, 0x40000, 2, 0x0, 1, 0x0, 0x0, 0x0, 0x0, 0x0⟩ /- PAR_STAT -/,
  ⟨0x380144, 0x40000, 2, 0x0, 1, 0x0, 0x0, 0x0, 0x0, 0x0⟩ /- PAR_MEAS0 -/,
  ⟨0x380148, 0x40000, 2, 0x0, 1, 0x0, 0x0, 0x0, 0x0, 0x0⟩ /- PAR_MEAS1 -/,
  ⟨0x38014c, 0x40000, 2, 0x0, 1, 0x0, 0x0, 0x0, 0x0, 0x0⟩ /- PAR_MEAS2 -/,
  ⟨0x380160, 0x40000, 2, 0x0, 1, 0x0, 0xffffffff, 0x0, 0x0, 0x0⟩ /- PAR_DISCARD -/,
  ⟨0x380164, 0x40000, 2, 0x0, 1, 0x0, 0xffffffff, 0x0, 0x0, 0x0⟩ /- PAR_CODE -/,
  ⟨0x380168, 0x40000, 2, 0x0, 1, 0x0, 0xffff, 0x0, 0x0, 0x0⟩ /- PAR_SYNCLOSS -/,
  ⟨0x38016c, 0x40000, 2, 0x0, 1, 0x0, 0xffff, 0x0, 0x0, 0x0⟩ /- PAR_XLINES -/,
  ⟨0x380170, 0x40000, 2, 0x0, 1, 0x0, 0xffffffff, 0x0, 0x0, 0x0⟩ /- PAR_UNTRIG -/,
  ⟨0x380180, 0x40000, 2, 0x0, 1, 0x403e8, 0x0, 0x0, 0xffffffff, 0x0⟩ /- PAR_SYNCTH -/]

def rowsPAR1 : List RegRow := [
  ⟨0x380184, 0x40000, 2, 0x0, 1, 0x0, 0x0, 0x0, 0x3f3f, 0x0⟩ /- PAR_IDLY -/]

/-- The rows of PAR (spec/09). -/
def rowsPAR : List RegRow := rowsPAR0 ++ rowsPAR1

def rowsPIX0 : List RegRow := [
  ⟨0x400000, 0x0, 1, 0x0, 1, 0x80100, 0x0, 0x0, 0x0, 0x0⟩ /- PIX_ID -/,
  ⟨0x400004, 0x0, 1, 0x0, 1, 0x0, 0x1, 0x0, 0x0, 0x0⟩ /- PIX_LEVEL -/,
  ⟨0x400100, 0x40000, 4, 0x0, 1, 0x0, 0x8000003f, 0x0, 0x0, 0x0⟩ /- PIX_SRC -/,
  ⟨0x400104, 0x40000, 4, 0x0, 1, 0x0, 0x1, 0x0, 0x0, 0x0⟩ /- PIX_CTL -/,
  ⟨0x400108, 0x40000, 4, 0x0, 1, 0x0, 0x0, 0x0, 0x0, 0x0⟩ /- PIX_STAT -/,
  ⟨0x400110, 0x40000, 4, 0x0, 1, 0x7641020, 0xfffffff0, 0xfffffff0, 0x0, 0x0⟩ /- PIX_BASIC -/,
  ⟨0x400114, 0x40000, 4, 0x0, 1, 0x0, 0x7f, 0x7f, 0x0, 0x0⟩ /- PIX_STAGES -/,
  ⟨0x400118, 0x40000, 4, 0x0, 1, 0x0, 0xffffffff, 0xffffffff, 0x0, 0x0⟩ /- PIX_BLACK0 -/,
  ⟨0x40011c, 0x40000, 4, 0x0, 1, 0x0, 0xffffffff, 0xffffffff, 0x0, 0x0⟩ /- PIX_BLACK1 -/,
  ⟨0x400120, 0x40000, 4, 0x0, 1, 0x10001000, 0xffffffff, 0xffffffff, 0x0, 0x0⟩ /- PIX_WB0 -/,
  ⟨0x400124, 0x40000, 4, 0x0, 1, 0x10001000, 0xffffffff, 0xffffffff, 0x0, 0x0⟩ /- PIX_WB1 -/,
  ⟨0x400128, 0x40000, 4, 0x0, 1, 0x0, 0xffffffff, 0xffffffff, 0x0, 0x0⟩ /- PIX_OUTSIZE -/,
  ⟨0x40012c, 0x40000, 4, 0x0, 1, 0x0, 0x800003ff, 0x800003ff, 0x0, 0x0⟩ /- PIX_STATCFG -/,
  ⟨0x400130, 0x40000, 4, 0x0, 1, 0x202, 0x3f3f, 0x3f3f, 0x0, 0x0⟩ /- PIX_SHADECFG -/,
  ⟨0x400140, 0x40000, 4, 0x8, 4, 0x0, 0xffffffff, 0x0, 0x0, 0x0⟩ /- PIX_ROIA -/,
  ⟨0x400144, 0x40000, 4, 0x8, 4, 0x0, 0xffffffff, 0x0, 0x0, 0x0⟩ /- PIX_ROIB -/,
  ⟨0x400160, 0x40000, 4, 0x0, 1, 0x0, 0x10f, 0x0, 0x0, 0x0⟩ /- PIX_ROICTL -/,
  ⟨0x400180, 0x40000, 4, 0x0, 1, 0x10001000, 0x0, 0x0, 0xffffffff, 0x0⟩ /- PIX_BLGAIN0 -/,
  ⟨0x400184, 0x40000, 4, 0x0, 1, 0x10001000, 0x0, 0x0, 0xffffffff, 0x0⟩ /- PIX_BLGAIN1 -/,
  ⟨0x400188, 0x40000, 4, 0x0, 1, 0x400ffff, 0x0, 0x0, 0xffffffff, 0x0⟩ /- PIX_DEFTH -/]

def rowsPIX1 : List RegRow := [
  ⟨0x400190, 0x40000, 4, 0x4, 5, 0x0, 0x0, 0x0, 0xffffffff, 0x0⟩ /- PIX_CCM -/,
  ⟨0x4001b0, 0x40000, 4, 0x4, 5, 0x0, 0x0, 0x0, 0xffffffff, 0x0⟩ /- PIX_CSCM -/,
  ⟨0x4001c4, 0x40000, 4, 0x0, 1, 0x0, 0x0, 0x0, 0xffffffff, 0x0⟩ /- PIX_CSCOFS0 -/,
  ⟨0x4001c8, 0x40000, 4, 0x0, 1, 0x0, 0x0, 0x0, 0xffff, 0x0⟩ /- PIX_CSCOFS1 -/,
  ⟨0x4001d0, 0x40000, 4, 0x0, 1, 0x10000, 0x0, 0x0, 0xffffffff, 0x0⟩ /- PIX_SCALE0 -/,
  ⟨0x4001d4, 0x40000, 4, 0x0, 1, 0x10000, 0x0, 0x0, 0xffffffff, 0x0⟩ /- PIX_SCALE1 -/,
  ⟨0x400200, 0x40000, 4, 0x0, 1, 0x0, 0xffffffff, 0x0, 0x0, 0x0⟩ /- PIX_FRAMES -/,
  ⟨0x400204, 0x40000, 4, 0x0, 1, 0x0, 0xffff, 0x0, 0x0, 0x0⟩ /- PIX_OVFCNT -/,
  ⟨0x400208, 0x40000, 4, 0x0, 1, 0x0, 0xffffffff, 0x0, 0x0, 0x0⟩ /- PIX_REFUSED -/,
  ⟨0x40020c, 0x40000, 4, 0x0, 1, 0x0, 0xffff, 0x0, 0x0, 0x0⟩ /- PIX_ROIEMPTY -/,
  ⟨0x400210, 0x40000, 4, 0x0, 1, 0x0, 0x0, 0x0, 0x0, 0x0⟩ /- PIX_BIST -/,
  ⟨0x410000, 0x40000, 4, 0x4, 4096, 0xffffffff, 0xffffffff, 0x0, 0x0, 0x0⟩ /- PIX_TBL0 -/,
  ⟨0x418000, 0x40000, 4, 0x4, 4356, 0x1000, 0xffff, 0x0, 0x0, 0x0⟩ /- PIX_TBL1 -/,
  ⟨0x420000, 0x40000, 4, 0x4, 9, 0x0, 0xffff, 0xffff, 0x0, 0x0⟩ /- PIX_TBL2 -/,
  ⟨0x428000, 0x40000, 4, 0x4, 1025, 0x0, 0x0, 0x0, 0xffff, 0x0⟩ /- PIX_TBL3 -/,
  ⟨0x430000, 0x40000, 4, 0x4, 256, 0x0, 0x0, 0x0, 0xffff, 0x0⟩ /- PIX_TBL4 -/,
  ⟨0x438000, 0x40000, 4, 0x4, 2048, 0x0, 0x0, 0x0, 0x0, 0x0⟩ /- PIX_BANK0 -/,
  ⟨0x43a000, 0x40000, 4, 0x4, 2048, 0x0, 0x0, 0x0, 0x0, 0x0⟩ /- PIX_BANK1 -/]

/-- The rows of PIX (spec/10). -/
def rowsPIX : List RegRow := rowsPIX0 ++ rowsPIX1

def rowsPOS0 : List RegRow := [
  ⟨0x500000, 0x0, 1, 0x0, 1, 0x90100, 0x0, 0x0, 0x0, 0x0⟩ /- POS_ID -/,
  ⟨0x500004, 0x0, 1, 0x0, 1, 0x0, 0x1, 0x0, 0x0, 0x0⟩ /- POS_LEVEL -/,
  ⟨0x500100, 0x2000, 8, 0x0, 1, 0x2004004, 0x8ffec0ff, 0x8ffec0ff, 0x0, 0x0⟩ /- POS_CFG -/,
  ⟨0x500104, 0x2000, 8, 0x0, 1, 0xc0, 0x2c3, 0x2c3, 0x0, 0x0⟩ /- POS_IDXCFG -/,
  ⟨0x500108, 0x2000, 8, 0x0, 1, 0x0, 0xffffffff, 0xffffffff, 0x0, 0x0⟩ /- POS_IDXVALLO -/,
  ⟨0x50010c, 0x2000, 8, 0x0, 1, 0x0, 0xffff, 0xffff, 0x0, 0x0⟩ /- POS_IDXVALHI -/,
  ⟨0x500110, 0x2000, 8, 0x0, 1, 0x64018064, 0xffffffff, 0xffffffff, 0x0, 0x0⟩ /- POS_SSICFG -/,
  ⟨0x500114, 0x2000, 8, 0x0, 1, 0x30a00, 0x7fffff00, 0x7fffff00, 0x0, 0x0⟩ /- POS_SSICFG2 -/,
  ⟨0x500118, 0x2000, 8, 0x0, 1, 0x0, 0xffff, 0xffff, 0x0, 0x0⟩ /- POS_SSILAT -/,
  ⟨0x50011c, 0x2000, 8, 0x0, 1, 0x0, 0xffffffff, 0xffffffff, 0x0, 0x0⟩ /- POS_SSIJUMP -/,
  ⟨0x500120, 0x2000, 8, 0x0, 1, 0x641003, 0xffff07, 0xffff07, 0x0, 0x0⟩ /- POS_MOTION -/,
  ⟨0x500124, 0x2000, 8, 0x0, 1, 0x0, 0x73f, 0x0, 0x0, 0x0⟩ /- POS_PTCFG -/,
  ⟨0x500128, 0x2000, 8, 0x0, 1, 0x0, 0x0, 0x0, 0x0, 0x0⟩ /- POS_CTL -/,
  ⟨0x50012c, 0x2000, 8, 0x0, 1, 0x0, 0xffffffff, 0x0, 0x0, 0x0⟩ /- POS_CNTSETLO -/,
  ⟨0x500130, 0x2000, 8, 0x0, 1, 0x0, 0xffff, 0x0, 0x0, 0x0⟩ /- POS_CNTSETHI -/,
  ⟨0x500140, 0x2000, 8, 0x0, 1, 0x0, 0x0, 0x0, 0x0, 0x0⟩ /- POS_STAT -/,
  ⟨0x500144, 0x2000, 8, 0x0, 1, 0x0, 0x0, 0x0, 0x0, 0x1fe⟩ /- POS_FAULT -/,
  ⟨0x500148, 0x2000, 8, 0x0, 1, 0x0, 0x0, 0x0, 0x0, 0x0⟩ /- POS_CNTLO -/,
  ⟨0x50014c, 0x2000, 8, 0x0, 1, 0x0, 0x0, 0x0, 0x0, 0x0⟩ /- POS_CNTHI -/,
  ⟨0x500150, 0x2000, 8, 0x0, 1, 0x0, 0x0, 0x0, 0x0, 0x0⟩ /- POS_SPEED -/]

def rowsPOS1 : List RegRow := [
  ⟨0x500154, 0x2000, 8, 0x4, 2, 0x0, 0x0, 0x0, 0x0, 0x0⟩ /- POS_LASTT -/,
  ⟨0x50015c, 0x2000, 8, 0x0, 1, 0x0, 0x0, 0x0, 0x0, 0x0⟩ /- POS_LASTC -/,
  ⟨0x500160, 0x2000, 8, 0x0, 1, 0x0, 0x0, 0x0, 0x0, 0x0⟩ /- POS_LATCHCLO -/,
  ⟨0x500164, 0x2000, 8, 0x0, 1, 0x0, 0x0, 0x0, 0x0, 0x0⟩ /- POS_LATCHCHI -/,
  ⟨0x500168, 0x2000, 8, 0x0, 1, 0x0, 0x0, 0x0, 0x0, 0x0⟩ /- POS_LATCHTLO -/,
  ⟨0x50016c, 0x2000, 8, 0x0, 1, 0x0, 0x0, 0x0, 0x0, 0x0⟩ /- POS_LATCHTHI -/,
  ⟨0x500170, 0x2000, 8, 0x0, 1, 0x0, 0x0, 0x0, 0x0, 0x2⟩ /- POS_LATCHST -/,
  ⟨0x500180, 0x2000, 8, 0x0, 1, 0x0, 0xffff, 0x0, 0x0, 0x0⟩ /- POS_PHCNT -/,
  ⟨0x500184, 0x2000, 8, 0x0, 1, 0x0, 0xffff, 0x0, 0x0, 0x0⟩ /- POS_FASTCNT -/,
  ⟨0x500188, 0x2000, 8, 0x0, 1, 0x0, 0xffff, 0x0, 0x0, 0x0⟩ /- POS_DISCNT -/,
  ⟨0x50018c, 0x2000, 8, 0x0, 1, 0x0, 0xffff, 0x0, 0x0, 0x0⟩ /- POS_HALLCNT -/,
  ⟨0x500190, 0x2000, 8, 0x0, 1, 0x0, 0xffffffff, 0x0, 0x0, 0x0⟩ /- POS_IDXCNT -/,
  ⟨0x500194, 0x2000, 8, 0x0, 1, 0x0, 0xffff, 0x0, 0x0, 0x0⟩ /- POS_SSIERR -/,
  ⟨0x500198, 0x2000, 8, 0x0, 1, 0x0, 0xffffffff, 0x0, 0x0, 0x0⟩ /- POS_SSICNT -/,
  ⟨0x5001c0, 0x2000, 8, 0x0, 1, 0x20202, 0x0, 0x0, 0xf0f0f, 0x0⟩ /- POS_FILT -/,
  ⟨0x5001c4, 0x2000, 8, 0x0, 1, 0x7, 0x0, 0x0, 0xff, 0x0⟩ /- POS_MININT -/,
  ⟨0x5001c8, 0x2000, 8, 0x0, 1, 0x100000, 0x0, 0x0, 0xffffffff, 0x0⟩ /- POS_SPDWIN -/,
  ⟨0x5001cc, 0x2000, 8, 0x0, 1, 0x3d4, 0x0, 0x0, 0xffffff, 0x0⟩ /- POS_HISTGAP -/,
  ⟨0x5001d0, 0x2000, 8, 0x0, 1, 0x100000, 0x0, 0x0, 0xffffffff, 0x0⟩ /- POS_MAXSPAN -/,
  ⟨0x5001d4, 0x2000, 8, 0x0, 1, 0xfa, 0x0, 0x0, 0xffff, 0x0⟩ /- POS_DISWIN -/]

def rowsPOS2 : List RegRow := [
  ⟨0x5001d8, 0x2000, 8, 0x0, 1, 0x7d0023, 0x0, 0x0, 0x3ff07ff, 0x0⟩ /- POS_SSITIM -/,
  ⟨0x5001dc, 0x2000, 8, 0x0, 1, 0x2800fa, 0x0, 0x0, 0xffffffff, 0x0⟩ /- POS_SSITIM2 -/,
  ⟨0x510000, 0x4, 8, 0x0, 1, 0x30, 0x3f37, 0x0, 0x0, 0x0⟩ /- POS_PRBCFG -/,
  ⟨0x510100, 0x20, 8, 0x0, 1, 0x0, 0x0, 0x0, 0x0, 0x0⟩ /- POS_PRBCLO -/,
  ⟨0x510104, 0x20, 8, 0x0, 1, 0x0, 0x0, 0x0, 0x0, 0x0⟩ /- POS_PRBCHI -/,
  ⟨0x510108, 0x20, 8, 0x0, 1, 0x0, 0x0, 0x0, 0x0, 0x0⟩ /- POS_PRBTLO -/,
  ⟨0x51010c, 0x20, 8, 0x0, 1, 0x0, 0x0, 0x0, 0x0, 0x0⟩ /- POS_PRBTHI -/,
  ⟨0x510110, 0x20, 8, 0x0, 1, 0x0, 0x0, 0x0, 0x0, 0x2⟩ /- POS_PRBST -/,
  ⟨0x511000, 0x4, 64, 0x0, 1, 0x0, 0x8787, 0x0, 0x0, 0x0⟩ /- POS_TAGSEL -/]

/-- The rows of POS (spec/11). -/
def rowsPOS : List RegRow := rowsPOS0 ++ rowsPOS1 ++ rowsPOS2

def rowsTWS0 : List RegRow := [
  ⟨0x540000, 0x0, 1, 0x0, 1, 0xa0100, 0x0, 0x0, 0x0, 0x0⟩ /- TWS_ID -/,
  ⟨0x540004, 0x0, 1, 0x0, 1, 0x0, 0x1, 0x0, 0x0, 0x0⟩ /- TWS_LEVEL -/,
  ⟨0x540100, 0x40, 4, 0x0, 1, 0xc10000, 0x8fe31fff, 0x8fe31fff, 0x0, 0x0⟩ /- TWS_WCFG -/,
  ⟨0x540104, 0x40, 4, 0x0, 1, 0x0, 0xffffffff, 0xffffffff, 0x0, 0x0⟩ /- TWS_WZERO -/,
  ⟨0x540108, 0x40, 4, 0x0, 1, 0x64, 0xffff, 0xffff, 0x0, 0x0⟩ /- TWS_WSTALL -/,
  ⟨0x540110, 0x40, 4, 0x0, 1, 0x0, 0x0, 0x0, 0x0, 0x0⟩ /- TWS_WSTAT -/,
  ⟨0x540114, 0x40, 4, 0x0, 1, 0xffffffff, 0x0, 0x0, 0x0, 0x0⟩ /- TWS_WANG -/,
  ⟨0x540118, 0x40, 4, 0x0, 1, 0x0, 0x0, 0x0, 0x0, 0x0⟩ /- TWS_WREV -/,
  ⟨0x54011c, 0x40, 4, 0x0, 1, 0x0, 0x0, 0x0, 0x0, 0x0⟩ /- TWS_WPER -/,
  ⟨0x540120, 0x40, 4, 0x0, 1, 0x0, 0x0, 0x0, 0x0, 0x0⟩ /- TWS_WGOODLO -/,
  ⟨0x540124, 0x40, 4, 0x0, 1, 0x0, 0x0, 0x0, 0x0, 0x0⟩ /- TWS_WGOODHI -/,
  ⟨0x540128, 0x40, 4, 0x0, 1, 0x0, 0xffffffff, 0x0, 0x0, 0x0⟩ /- TWS_WCNT -/,
  ⟨0x54012c, 0x40, 4, 0x0, 1, 0x0, 0xffffffff, 0x0, 0x0, 0x0⟩ /- TWS_WCNT2 -/,
  ⟨0x540130, 0x40, 4, 0x0, 1, 0x18081828, 0x0, 0x0, 0xffffffff, 0x0⟩ /- TWS_WTH -/,
  ⟨0x540134, 0x40, 4, 0x0, 1, 0x2, 0x0, 0x0, 0xff, 0x0⟩ /- TWS_WTH2 -/,
  ⟨0x540400, 0x0, 1, 0x0, 1, 0x1, 0xf700ffff, 0x0, 0x0, 0x0⟩ /- TWS_LSCFG -/,
  ⟨0x540404, 0x0, 1, 0x0, 1, 0x10000, 0xffffffff, 0x0, 0x0, 0x0⟩ /- TWS_LSRATIO -/,
  ⟨0x540408, 0x0, 1, 0x0, 1, 0x0, 0xffffffff, 0x0, 0x0, 0x0⟩ /- TWS_LSSTARTLO -/,
  ⟨0x54040c, 0x0, 1, 0x0, 1, 0x0, 0xffff, 0x0, 0x0, 0x0⟩ /- TWS_LSSTARTHI -/,
  ⟨0x540410, 0x0, 1, 0x0, 1, 0x0, 0xffffff, 0x0, 0x0, 0x0⟩ /- TWS_LSDELAY -/]

def rowsTWS1 : List RegRow := [
  ⟨0x540414, 0x0, 1, 0x0, 1, 0x0, 0xffffffff, 0x0, 0x0, 0x0⟩ /- TWS_LSMINPER -/,
  ⟨0x540418, 0x0, 1, 0x0, 1, 0x1, 0xbf00ffff, 0x0, 0x0, 0x0⟩ /- TWS_LSASM -/,
  ⟨0x540420, 0x0, 1, 0x0, 1, 0x0, 0x0, 0x0, 0x0, 0x0⟩ /- TWS_LSLINES -/,
  ⟨0x540424, 0x0, 1, 0x0, 1, 0x0, 0x0, 0x0, 0x0, 0x0⟩ /- TWS_LSACC -/,
  ⟨0x540428, 0x0, 1, 0x0, 1, 0x0, 0xffff, 0x0, 0x0, 0x0⟩ /- TWS_LSDROP -/,
  ⟨0x541000, 0x20, 64, 0x0, 1, 0x0, 0xfe07ffff, 0x0, 0x0, 0x0⟩ /- TWS_ENTCTL -/,
  ⟨0x541004, 0x20, 64, 0x0, 1, 0x0, 0xffffffff, 0x0, 0x0, 0x0⟩ /- TWS_ENT1 -/,
  ⟨0x541008, 0x20, 64, 0x0, 1, 0x0, 0xffffffff, 0x0, 0x0, 0x0⟩ /- TWS_ENT2 -/,
  ⟨0x54100c, 0x20, 64, 0x0, 1, 0x0, 0x7ffff, 0x0, 0x0, 0x0⟩ /- TWS_ENT3 -/,
  ⟨0x541010, 0x20, 64, 0x0, 1, 0x0, 0xffffffff, 0x0, 0x0, 0x0⟩ /- TWS_ENT4 -/,
  ⟨0x541014, 0x20, 64, 0x0, 1, 0x0, 0xffff, 0x0, 0x0, 0x0⟩ /- TWS_ENT5 -/,
  ⟨0x541018, 0x20, 64, 0x0, 1, 0x0, 0xffffff, 0x0, 0x0, 0x0⟩ /- TWS_ENT6 -/,
  ⟨0x54101c, 0x20, 64, 0x0, 1, 0x0, 0x0, 0x0, 0x0, 0x0⟩ /- TWS_ENTFIRES -/,
  ⟨0x541800, 0x4, 64, 0x0, 1, 0x0, 0x7, 0x0, 0x0, 0x0⟩ /- TWS_ANGSEL -/,
  ⟨0x541900, 0x0, 1, 0x0, 1, 0x0, 0xffffffff, 0x0, 0x0, 0x0⟩ /- TWS_LATECNT -/,
  ⟨0x541904, 0x0, 1, 0x0, 1, 0x0, 0xffffffff, 0x0, 0x0, 0x0⟩ /- TWS_SUPCNT -/]

/-- The rows of TWS (spec/12). -/
def rowsTWS : List RegRow := rowsTWS0 ++ rowsTWS1

def rowsBTM0 : List RegRow := [
  ⟨0x600000, 0x0, 1, 0x0, 1, 0xb0100, 0x0, 0x0, 0x0, 0x0⟩ /- BTM_ID -/,
  ⟨0x600004, 0x0, 1, 0x0, 1, 0x0, 0x1, 0x0, 0x0, 0x0⟩ /- BTM_LEVEL -/,
  ⟨0x600100, 0x4, 8, 0x0, 1, 0x0, 0x0, 0x0, 0x0, 0x0⟩ /- BTM_FIRE -/,
  ⟨0x600140, 0x4, 8, 0x0, 1, 0x0, 0x0, 0x0, 0x0, 0xffffffff⟩ /- BTM_FLAG -/,
  ⟨0x600180, 0x4, 16, 0x0, 1, 0x0, 0x0, 0x0, 0x0, 0xffffffff⟩ /- BTM_OVR -/,
  ⟨0x6001c0, 0x4, 8, 0x0, 1, 0x0, 0x0, 0x0, 0x0, 0x0⟩ /- BTM_MIXED -/,
  ⟨0x600200, 0x10, 4, 0x0, 1, 0x0, 0x800000ff, 0x0, 0x0, 0x0⟩ /- BTM_WATCHCFG -/,
  ⟨0x600204, 0x10, 4, 0x0, 1, 0x0, 0xffffffff, 0x0, 0x0, 0x0⟩ /- BTM_WATCHCNT -/,
  ⟨0x600208, 0x10, 4, 0x0, 1, 0x0, 0x0, 0x0, 0x0, 0x0⟩ /- BTM_WATCHLO -/,
  ⟨0x60020c, 0x10, 4, 0x0, 1, 0x0, 0x0, 0x0, 0x0, 0x0⟩ /- BTM_WATCHHI -/,
  ⟨0x600300, 0x4, 64, 0x0, 1, 0x0, 0x80003fff, 0x0, 0x0, 0x0⟩ /- BTM_QWATCH -/,
  ⟨0x600400, 0x4, 2, 0x0, 1, 0x0, 0x0, 0x0, 0x0, 0xffffffff⟩ /- BTM_HNSTAT -/,
  ⟨0x600800, 0x8, 64, 0x0, 1, 0x0, 0xc00007ff, 0x0, 0x0, 0x0⟩ /- BTM_HN -/,
  ⟨0x600804, 0x8, 64, 0x0, 1, 0x0, 0xffff, 0x0, 0x0, 0x0⟩ /- BTM_HNCNT -/,
  ⟨0x601000, 0x4, 256, 0x0, 1, 0x0, 0xb00003ff, 0x0, 0x0, 0x0⟩ /- BTM_BEAT -/,
  ⟨0x602000, 0x4, 512, 0x0, 1, 0x0, 0xc00000ff, 0x0, 0x0, 0x20000000⟩ /- BTM_CSEL -/,
  ⟨0x603000, 0x10, 32, 0x0, 1, 0x1, 0xffefffff, 0xef0000, 0x0, 0x0⟩ /- BTM_CELL0 -/,
  ⟨0x603004, 0x10, 32, 0x0, 1, 0x0, 0x0, 0x0, 0xffffff, 0x0⟩ /- BTM_CELL1 -/,
  ⟨0x603008, 0x10, 32, 0x0, 1, 0x0, 0x0, 0x0, 0x0, 0x0⟩ /- BTM_CELL2 -/,
  ⟨0x60300c, 0x10, 32, 0x0, 1, 0x0, 0xffffffff, 0x0, 0x0, 0x0⟩ /- BTM_CELL3 -/]

/-- The rows of BTM (spec/13). -/
def rowsBTM : List RegRow := rowsBTM0

def rowsOUT0 : List RegRow := [
  ⟨0x680000, 0x0, 1, 0x0, 1, 0xc0100, 0x0, 0x0, 0x0, 0x0⟩ /- OUT_ID -/,
  ⟨0x680004, 0x0, 1, 0x0, 1, 0x0, 0x1, 0x0, 0x0, 0x0⟩ /- OUT_LEVEL -/,
  ⟨0x680010, 0x0, 1, 0x0, 1, 0x0, 0x0, 0x0, 0x0, 0x0⟩ /- OUT_CALSTAT -/,
  ⟨0x680014, 0x0, 1, 0x0, 1, 0x0, 0x0, 0x0, 0x0, 0x0⟩ /- OUT_PINS -/,
  ⟨0x680100, 0x10, 16, 0x0, 1, 0x0, 0x8000001f, 0x0, 0x0, 0x0⟩ /- OUT_TCFG -/,
  ⟨0x680104, 0x10, 16, 0x0, 1, 0x0, 0xffffff, 0x0, 0x0, 0x0⟩ /- OUT_TDELAY -/,
  ⟨0x680108, 0x10, 16, 0x0, 1, 0x320, 0xffffffff, 0x0, 0x0, 0x0⟩ /- OUT_TWIDTH -/,
  ⟨0x68010c, 0x10, 16, 0x0, 1, 0x0, 0xffffffff, 0x0, 0x0, 0x0⟩ /- OUT_TCNT -/,
  ⟨0x680200, 0x4, 16, 0x0, 1, 0x0, 0x0, 0x0, 0xff, 0x0⟩ /- OUT_TTRIM -/,
  ⟨0x680300, 0x20, 8, 0x0, 1, 0x64, 0xc000007f, 0x7f, 0x0, 0x0⟩ /- OUT_SCFG -/,
  ⟨0x680304, 0x20, 8, 0x0, 1, 0x0, 0xffffff, 0x0, 0x0, 0x0⟩ /- OUT_SDELAY -/,
  ⟨0x680308, 0x20, 8, 0x0, 1, 0x3e8, 0xffffffff, 0x0, 0x0, 0x0⟩ /- OUT_SWIDTH -/,
  ⟨0x68030c, 0x20, 8, 0x0, 1, 0x0, 0xffffff, 0xffffff, 0x0, 0x0⟩ /- OUT_SMAXON -/,
  ⟨0x680310, 0x20, 8, 0x0, 1, 0x0, 0x0, 0x0, 0x0, 0x0⟩ /- OUT_SSTAT -/,
  ⟨0x680314, 0x20, 8, 0x0, 1, 0x0, 0xffffffff, 0x0, 0x0, 0x0⟩ /- OUT_SCNT -/,
  ⟨0x680318, 0x20, 8, 0x0, 1, 0x10000, 0x0, 0x0, 0x1ffff, 0x0⟩ /- OUT_SRATE -/,
  ⟨0x68031c, 0x20, 8, 0x0, 1, 0x0, 0x0, 0x0, 0xffffffff, 0x0⟩ /- OUT_SCAP -/,
  ⟨0x680500, 0x0, 1, 0x0, 1, 0x80000000, 0xf, 0x0, 0x0, 0x0⟩ /- OUT_AENA -/,
  ⟨0x680600, 0x20, 4, 0x0, 1, 0x0, 0xd, 0x0, 0x0, 0x0⟩ /- OUT_ACFG -/,
  ⟨0x680604, 0x20, 4, 0x0, 1, 0x0, 0xffff, 0x0, 0x0, 0x0⟩ /- OUT_AVAL -/]

def rowsOUT1 : List RegRow := [
  ⟨0x680608, 0x20, 4, 0x0, 1, 0x0, 0x70000, 0x70000, 0x0, 0x0⟩ /- OUT_ARNG -/,
  ⟨0x68060c, 0x20, 4, 0x0, 1, 0x0, 0xffff, 0x0, 0x0, 0x0⟩ /- OUT_ASAFE -/,
  ⟨0x680610, 0x20, 4, 0x0, 1, 0x0, 0x0, 0x0, 0x0, 0x0⟩ /- OUT_AOUT -/,
  ⟨0x680614, 0x20, 4, 0x0, 1, 0x0, 0x0, 0x0, 0x0, 0x0⟩ /- OUT_ASTAT -/,
  ⟨0x680618, 0x20, 4, 0x0, 1, 0x0, 0x0, 0x0, 0xffffffff, 0x0⟩ /- OUT_ACAL -/]

/-- The rows of OUT (spec/14). -/
def rowsOUT : List RegRow := rowsOUT0 ++ rowsOUT1

def rowsQUE0 : List RegRow := [
  ⟨0x800000, 0x0, 1, 0x0, 1, 0xd0100, 0x0, 0x0, 0x0, 0x0⟩ /- QUE_ID -/,
  ⟨0x800004, 0x0, 1, 0x0, 1, 0x0, 0x1, 0x0, 0x0, 0x0⟩ /- QUE_LEVEL -/,
  ⟨0x800010, 0x0, 1, 0x0, 1, 0x80064, 0x1fffff, 0x1fffff, 0x0, 0x0⟩ /- QUE_BASIC -/,
  ⟨0x800020, 0x0, 1, 0x0, 1, 0x0, 0x0, 0x0, 0x0, 0x0⟩ /- QUE_QCMD -/,
  ⟨0x800024, 0x0, 1, 0x0, 1, 0x0, 0xffffffff, 0x0, 0x0, 0x0⟩ /- QUE_QARG -/,
  ⟨0x800030, 0x0, 1, 0x0, 1, 0x0, 0x0, 0x0, 0x0, 0x0⟩ /- QUE_QCMDSTAT -/,
  ⟨0x800040, 0x0, 1, 0x0, 1, 0x0, 0xffffffff, 0x0, 0x0, 0x0⟩ /- QUE_NOQ -/,
  ⟨0x800080, 0x0, 1, 0x0, 1, 0x0, 0x0, 0x0, 0x0, 0x0⟩ /- QUE_BIST -/,
  ⟨0x800100, 0x0, 1, 0x0, 1, 0x640064, 0x0, 0x0, 0xffffffff, 0x0⟩ /- QUE_TIMERS -/,
  ⟨0x800104, 0x0, 1, 0x0, 1, 0x80040, 0x0, 0x0, 0x1fffff, 0x0⟩ /- QUE_DMA -/,
  ⟨0x801000, 0x20, 64, 0x0, 1, 0x0, 0xc7003fff, 0x0, 0x0, 0x0⟩ /- QUE_SMAP0 -/,
  ⟨0x801004, 0x20, 64, 0x0, 1, 0x0, 0xc7003fff, 0x0, 0x0, 0x0⟩ /- QUE_SMAP1 -/,
  ⟨0x801008, 0x20, 64, 0x0, 1, 0x0, 0xc7003fff, 0x0, 0x0, 0x0⟩ /- QUE_SMAP2 -/,
  ⟨0x80100c, 0x20, 64, 0x0, 1, 0x0, 0xc7003fff, 0x0, 0x0, 0x0⟩ /- QUE_SMAP3 -/,
  ⟨0x801010, 0x20, 64, 0x0, 1, 0x0, 0xc7003fff, 0x0, 0x0, 0x0⟩ /- QUE_SMAP4 -/,
  ⟨0x801014, 0x20, 64, 0x0, 1, 0x0, 0xc7003fff, 0x0, 0x0, 0x0⟩ /- QUE_SMAP5 -/,
  ⟨0x801800, 0x4, 32, 0x0, 1, 0x0, 0xc7003fff, 0x0, 0x0, 0x0⟩ /- QUE_VMAP -/,
  ⟨0x801900, 0x4, 16, 0x0, 1, 0x0, 0x8000003f, 0x0, 0x0, 0x0⟩ /- QUE_EVCFG -/,
  ⟨0x802000, 0x4, 512, 0x0, 1, 0x0, 0x0, 0x0, 0x0, 0x0⟩ /- QUE_PSUM -/,
  ⟨0x803000, 0x8, 64, 0x0, 1, 0x0, 0x0, 0x0, 0x0, 0x0⟩ /- QUE_FSEQ -/]

def rowsQUE1 : List RegRow := [
  ⟨0x803004, 0x8, 64, 0x0, 1, 0x0, 0x0, 0x0, 0x0, 0x0⟩ /- QUE_ESEQ -/,
  ⟨0x900000, 0x40, 16384, 0x0, 1, 0x0, 0xffffffff, 0x0, 0x0, 0x0⟩ /- QUE_CTX0 -/,
  ⟨0x900004, 0x40, 16384, 0x0, 1, 0x0, 0xffffffff, 0x0, 0x0, 0x0⟩ /- QUE_CTX1 -/,
  ⟨0x900008, 0x40, 16384, 0x0, 1, 0x0, 0xffffffff, 0x0, 0x0, 0x0⟩ /- QUE_CTX2 -/,
  ⟨0x90000c, 0x40, 16384, 0x0, 1, 0x0, 0xffffffff, 0x0, 0x0, 0x0⟩ /- QUE_CTX3 -/,
  ⟨0x900010, 0x40, 16384, 0x0, 1, 0x0, 0xffe007ff, 0x0, 0x0, 0x0⟩ /- QUE_CTX4 -/,
  ⟨0x900014, 0x40, 16384, 0x0, 1, 0x1000000, 0xff00ffff, 0x0, 0x0, 0x0⟩ /- QUE_CTX5 -/,
  ⟨0x900018, 0x40, 16384, 0x0, 1, 0x0, 0x0, 0x0, 0x0, 0x0⟩ /- QUE_CTX6 -/,
  ⟨0x90001c, 0x40, 16384, 0x0, 1, 0x0, 0x0, 0x0, 0x0, 0x0⟩ /- QUE_CTX7 -/,
  ⟨0x900020, 0x40, 16384, 0x0, 1, 0x0, 0x0, 0x0, 0x0, 0x0⟩ /- QUE_CTX8 -/,
  ⟨0x900024, 0x40, 16384, 0x0, 1, 0x0, 0x0, 0x0, 0x0, 0x0⟩ /- QUE_CTX9 -/,
  ⟨0x900028, 0x40, 16384, 0x0, 1, 0x0, 0x0, 0x0, 0x0, 0x0⟩ /- QUE_CTX10 -/,
  ⟨0x90002c, 0x40, 16384, 0x0, 1, 0x0, 0x0, 0x0, 0x0, 0x0⟩ /- QUE_CTX11 -/]

/-- The rows of QUE (spec/15). -/
def rowsQUE : List RegRow := rowsQUE0 ++ rowsQUE1

def rowsHBR0 : List RegRow := [
  ⟨0xa00000, 0x0, 1, 0x0, 1, 0xe0100, 0x0, 0x0, 0x0, 0x0⟩ /- HBR_ID -/,
  ⟨0xa00004, 0x0, 1, 0x0, 1, 0x0, 0x1, 0x0, 0x0, 0x0⟩ /- HBR_LEVEL -/,
  ⟨0xa00010, 0x0, 1, 0x0, 1, 0xa, 0xffffffff, 0xffffffff, 0x0, 0x0⟩ /- HBR_BASIC -/,
  ⟨0xa00014, 0x0, 1, 0x0, 1, 0x0, 0x7f, 0x0, 0x0, 0x0⟩ /- HBR_FLRSCOPE -/,
  ⟨0xa00018, 0x0, 1, 0x0, 1, 0x0, 0x3, 0x0, 0x0, 0x0⟩ /- HBR_TLPCFG -/,
  ⟨0xa0001c, 0x0, 1, 0x0, 1, 0x0, 0x3ff0000, 0x0, 0x0, 0x0⟩ /- HBR_FARBASE -/,
  ⟨0xa00020, 0x0, 1, 0x0, 1, 0x100, 0x0, 0x0, 0x0, 0x0⟩ /- HBR_STAT -/,
  ⟨0xa00024, 0x0, 1, 0x0, 1, 0x0, 0x0, 0x0, 0x0, 0x0⟩ /- HBR_COREGEN -/,
  ⟨0xa00028, 0x0, 1, 0x0, 1, 0x0, 0x3fffffc, 0x0, 0x0, 0x0⟩ /- HBR_POLLOFS -/,
  ⟨0xa00030, 0x0, 1, 0x0, 1, 0x0, 0x3ff0000, 0x0, 0x0, 0x0⟩ /- HBR_RDOUT -/,
  ⟨0xa00034, 0x0, 1, 0x0, 1, 0x0, 0xffffffff, 0x0, 0x0, 0x0⟩ /- HBR_CNT -/,
  ⟨0xa00038, 0x0, 1, 0x0, 1, 0x0, 0xffffffff, 0x0, 0x0, 0x0⟩ /- HBR_ACCCNT -/,
  ⟨0xa0003c, 0x0, 1, 0x0, 1, 0x0, 0xffffffff, 0x0, 0x0, 0x0⟩ /- HBR_RSTACC -/,
  ⟨0xa00040, 0x0, 1, 0x0, 1, 0x0, 0xffffff, 0x0, 0x0, 0x0⟩ /- HBR_FARSTAT -/,
  ⟨0xa00044, 0x0, 1, 0x0, 1, 0x0, 0x0, 0x0, 0x0, 0x0⟩ /- HBR_FARLOG0 -/,
  ⟨0xa00048, 0x0, 1, 0x0, 1, 0x0, 0x0, 0x0, 0x0, 0x80000000⟩ /- HBR_FARLOG1 -/,
  ⟨0xa00060, 0x0, 1, 0x0, 1, 0x1d4c, 0x0, 0x0, 0xffffff, 0x0⟩ /- HBR_FARTO -/,
  ⟨0xa00064, 0x0, 1, 0x0, 1, 0x3c, 0x0, 0x0, 0xff, 0x0⟩ /- HBR_FARRD -/,
  ⟨0xa00068, 0x0, 1, 0x0, 1, 0x20, 0x0, 0x0, 0x3ff, 0x0⟩ /- HBR_RDMAX -/,
  ⟨0xa00100, 0x8, 64, 0x0, 1, 0x0, 0x80000fff, 0x0, 0x0, 0x60000000⟩ /- HBR_POLL -/]

def rowsHBR1 : List RegRow := [
  ⟨0xa00104, 0x8, 64, 0x0, 1, 0x0, 0xffffffff, 0x0, 0x0, 0x0⟩ /- HBR_POLLMASK -/,
  ⟨0xa00300, 0x4, 64, 0x0, 1, 0x0, 0x0, 0x0, 0x0, 0x0⟩ /- HBR_POLLVAL -/]

/-- The rows of HBR (spec/16). -/
def rowsHBR : List RegRow := rowsHBR0 ++ rowsHBR1

def rowsVEN0 : List RegRow := [
  ⟨0xc00000, 0x0, 1, 0x0, 1, 0xf0100, 0x0, 0x0, 0x0, 0x0⟩ /- VEN_ID -/,
  ⟨0xc00004, 0x0, 1, 0x0, 1, 0x0, 0x1, 0x0, 0x0, 0x0⟩ /- VEN_LEVEL -/,
  ⟨0xc00100, 0x10000, 8, 0x0, 1, 0x0, 0x1, 0x0, 0x0, 0x0⟩ /- VEN_CORECTL -/,
  ⟨0xc00104, 0x10000, 8, 0x0, 1, 0x0, 0x0, 0x0, 0x0, 0x0⟩ /- VEN_CORESTAT -/,
  ⟨0xc00108, 0x10000, 8, 0x0, 1, 0x0, 0xffffffff, 0x0, 0x0, 0x0⟩ /- VEN_CORECTU -/,
  ⟨0xc0010c, 0x10000, 8, 0x0, 1, 0x0, 0xffff, 0x0, 0x0, 0x0⟩ /- VEN_COREFAULT -/,
  ⟨0xc80000, 0x0, 1, 0x0, 1, 0x0, 0x0, 0x0, 0x0, 0x0⟩ /- VEN_STAT -/,
  ⟨0xc81000, 0x80, 32, 0x0, 1, 0x12000000, 0xfec0ff00, 0xfec0ff00, 0x0, 0x0⟩ /- VEN_CCFG -/,
  ⟨0xc81004, 0x80, 32, 0x0, 1, 0x40004e20, 0xc00fffff, 0xc00fffff, 0x0, 0x0⟩ /- VEN_CRC -/,
  ⟨0xc81008, 0x80, 32, 0x0, 1, 0x0, 0xffff00ff, 0xffff00ff, 0x0, 0x0⟩ /- VEN_CGOP -/,
  ⟨0xc8100c, 0x80, 32, 0x0, 1, 0x3c0001, 0xffffffff, 0xffffffff, 0x0, 0x0⟩ /- VEN_CFPS -/,
  ⟨0xc81010, 0x80, 32, 0x0, 1, 0x0, 0xffffffff, 0xffffffff, 0x0, 0x0⟩ /- VEN_CGAINX -/,
  ⟨0xc81014, 0x80, 32, 0x0, 1, 0x0, 0xffffffff, 0xffffffff, 0x0, 0x0⟩ /- VEN_CGAINY -/,
  ⟨0xc81018, 0x80, 32, 0x0, 1, 0x0, 0xffffffff, 0x0, 0x0, 0x0⟩ /- VEN_CRBASELO -/,
  ⟨0xc8101c, 0x80, 32, 0x0, 1, 0x0, 0xffffffff, 0x0, 0x0, 0x0⟩ /- VEN_CRBASEHI -/,
  ⟨0xc81020, 0x80, 32, 0x0, 1, 0x0, 0xffffff, 0x0, 0x0, 0x0⟩ /- VEN_CRSIZE -/,
  ⟨0xc81024, 0x80, 32, 0x0, 1, 0x0, 0x0, 0x0, 0x0, 0x0⟩ /- VEN_CCTL -/,
  ⟨0xc81030, 0x80, 32, 0x0, 1, 0x0, 0x0, 0x0, 0x0, 0x0⟩ /- VEN_CSTAT -/,
  ⟨0xc81034, 0x80, 32, 0x0, 1, 0x0, 0xffffffff, 0x0, 0x0, 0x0⟩ /- VEN_CPICS -/,
  ⟨0xc81038, 0x80, 32, 0x0, 1, 0x0, 0xffffffff, 0x0, 0x0, 0x0⟩ /- VEN_CLOST -/]

def rowsVEN1 : List RegRow := [
  ⟨0xc8103c, 0x80, 32, 0x0, 1, 0x0, 0x0, 0x0, 0x0, 0x0⟩ /- VEN_CGMV -/,
  ⟨0xc81040, 0x80, 32, 0x0, 1, 0x0, 0x0, 0x0, 0x0, 0x0⟩ /- VEN_CBITS -/,
  ⟨0xc81044, 0x80, 32, 0x0, 1, 0x0, 0x0, 0x0, 0x0, 0x0⟩ /- VEN_CLEVEL -/,
  ⟨0xc81060, 0x80, 32, 0x0, 1, 0x330a1a4d, 0x0, 0x0, 0x3f3f3fff, 0x0⟩ /- VEN_CQP -/,
  ⟨0xc81064, 0x80, 32, 0x0, 1, 0x4e20, 0x0, 0x0, 0xffffff, 0x0⟩ /- VEN_CVBV -/,
  ⟨0xc81068, 0x80, 32, 0x0, 1, 0x4e20, 0x0, 0x0, 0xffffff, 0x0⟩ /- VEN_CMAXR -/,
  ⟨0xc8106c, 0x80, 32, 0x0, 1, 0x2004, 0x0, 0x0, 0xffff, 0x0⟩ /- VEN_CSRCH -/,
  ⟨0xc81070, 0x80, 32, 0x0, 1, 0x1, 0x0, 0x0, 0xf, 0x0⟩ /- VEN_CDIV -/,
  ⟨0xc90000, 0x100, 32, 0x10, 16, 0x0, 0xffffffff, 0x0, 0x0, 0x0⟩ /- VEN_ROI0 -/,
  ⟨0xc90004, 0x100, 32, 0x10, 16, 0x0, 0xffffffff, 0x0, 0x0, 0x0⟩ /- VEN_ROI1 -/,
  ⟨0xc90008, 0x100, 32, 0x10, 16, 0x0, 0xc03f3f00, 0x0, 0x0, 0x0⟩ /- VEN_ROI2 -/,
  ⟨0xc9000c, 0x100, 32, 0x10, 16, 0x0, 0xffff, 0x0, 0x0, 0x0⟩ /- VEN_ROI3 -/]

/-- The rows of VEN (spec/17). -/
def rowsVEN : List RegRow := rowsVEN0 ++ rowsVEN1

def rowsDRL0 : List RegRow := [
  ⟨0xe00000, 0x0, 1, 0x0, 1, 0x100100, 0x0, 0x0, 0x0, 0x0⟩ /- DRL_ID -/,
  ⟨0xe00004, 0x0, 1, 0x0, 1, 0x0, 0x1, 0x0, 0x0, 0x0⟩ /- DRL_LEVEL -/,
  ⟨0xe00100, 0x10000, 2, 0x0, 1, 0x2, 0x3, 0x3, 0x0, 0x0⟩ /- DRL_PCFG -/,
  ⟨0xe00104, 0x10000, 2, 0x0, 1, 0x0, 0x0, 0x0, 0x0, 0x0⟩ /- DRL_PSTAT -/,
  ⟨0xe00108, 0x10000, 2, 0x0, 1, 0x0, 0x0, 0x0, 0x0, 0x0⟩ /- DRL_PDSNLO -/,
  ⟨0xe0010c, 0x10000, 2, 0x0, 1, 0x0, 0x0, 0x0, 0x0, 0x0⟩ /- DRL_PDSNHI -/,
  ⟨0xe00110, 0x10000, 2, 0x0, 1, 0x0, 0xffffffff, 0x0, 0x0, 0x0⟩ /- DRL_PCNT -/,
  ⟨0xe00114, 0x10000, 2, 0x0, 1, 0x0, 0xffffffff, 0x0, 0x0, 0x0⟩ /- DRL_PDROP -/,
  ⟨0xe00118, 0x10000, 2, 0x0, 1, 0x0, 0xffffffff, 0x0, 0x0, 0x0⟩ /- DRL_PFWD -/,
  ⟨0xe20000, 0x0, 1, 0x0, 1, 0x8040, 0x8000ffc3, 0x8000ffc3, 0x0, 0x0⟩ /- DRL_CFG -/,
  ⟨0xe20004, 0x0, 1, 0x0, 1, 0x12c, 0xffff, 0xffff, 0x0, 0x0⟩ /- DRL_ENUM_HOLD -/,
  ⟨0xe20008, 0x0, 1, 0x0, 1, 0xa, 0xff, 0xff, 0x0, 0x0⟩ /- DRL_BEACON -/,
  ⟨0xe20010, 0x0, 1, 0x0, 1, 0x0, 0x0, 0x0, 0x0, 0x0⟩ /- DRL_NODE -/,
  ⟨0xe20014, 0x0, 1, 0x0, 1, 0x0, 0x0, 0x0, 0x0, 0x0⟩ /- DRL_NET -/,
  ⟨0xe20018, 0x0, 1, 0x0, 1, 0x0, 0x0, 0x0, 0x0, 0x0⟩ /- DRL_ROOTDSNLO -/,
  ⟨0xe2001c, 0x0, 1, 0x0, 1, 0x0, 0x0, 0x0, 0x0, 0x0⟩ /- DRL_ROOTDSNHI -/,
  ⟨0xe20020, 0x0, 1, 0x0, 1, 0x0, 0x0, 0x0, 0x0, 0x0⟩ /- DRL_EPOCH -/,
  ⟨0xe20030, 0x0, 1, 0x0, 1, 0x2625a0, 0x0, 0x0, 0xffffffff, 0x0⟩ /- DRL_LEAD -/,
  ⟨0xe20034, 0x0, 1, 0x0, 1, 0x1e0, 0x0, 0x0, 0xffff, 0x0⟩ /- DRL_HOPNS -/,
  ⟨0xe20040, 0x0, 1, 0x0, 1, 0x0, 0xffffffff, 0x0, 0x0, 0x0⟩ /- DRL_EVRX -/]

def rowsDRL1 : List RegRow := [
  ⟨0xe20044, 0x0, 1, 0x0, 1, 0x0, 0xffffffff, 0x0, 0x0, 0x0⟩ /- DRL_EVTX -/,
  ⟨0xe20048, 0x0, 1, 0x0, 1, 0x0, 0xffffffff, 0x0, 0x0, 0x0⟩ /- DRL_LATECNT -/,
  ⟨0xe2004c, 0x0, 1, 0x0, 1, 0x0, 0xffffffff, 0x0, 0x0, 0x0⟩ /- DRL_EVDROP -/,
  ⟨0xe20050, 0x0, 1, 0x0, 1, 0x0, 0xffffffff, 0x0, 0x0, 0x0⟩ /- DRL_REMCNT -/,
  ⟨0xe20054, 0x0, 1, 0x0, 1, 0x0, 0xffffffff, 0x0, 0x0, 0x0⟩ /- DRL_REMSERVED -/,
  ⟨0xe20058, 0x0, 1, 0x0, 1, 0x0, 0xffff, 0x0, 0x0, 0x0⟩ /- DRL_STALE -/,
  ⟨0xe20060, 0x0, 1, 0x0, 1, 0x0, 0x0, 0x0, 0x0, 0x0⟩ /- DRL_EVLAST0 -/,
  ⟨0xe20064, 0x0, 1, 0x0, 1, 0x0, 0x0, 0x0, 0x0, 0x0⟩ /- DRL_EVLAST1 -/,
  ⟨0xe20068, 0x0, 1, 0x0, 1, 0x0, 0x0, 0x0, 0x0, 0x0⟩ /- DRL_EVLAST2 -/,
  ⟨0xe2006c, 0x0, 1, 0x0, 1, 0x0, 0x0, 0x0, 0x0, 0x0⟩ /- DRL_EVLAST3 -/,
  ⟨0xe20070, 0x0, 1, 0x0, 1, 0x0, 0x0, 0x0, 0x0, 0x0⟩ /- DRL_EVLAST4 -/,
  ⟨0xe20100, 0x4, 128, 0x0, 1, 0x0, 0x0, 0x0, 0x0, 0x0⟩ /- DRL_MEMBER -/,
  ⟨0xe21000, 0x8, 64, 0x0, 1, 0x0, 0x800003ff, 0x0, 0x0, 0x0⟩ /- DRL_RCFG0 -/,
  ⟨0xe21004, 0x8, 64, 0x0, 1, 0x0, 0xffffffff, 0x0, 0x0, 0x0⟩ /- DRL_RCFG1 -/,
  ⟨0xe21400, 0x4, 64, 0x0, 1, 0x0, 0x800003ff, 0x0, 0x0, 0x0⟩ /- DRL_EMAP -/]

/-- The rows of DRL (spec/18). -/
def rowsDRL : List RegRow := rowsDRL0 ++ rowsDRL1

def rowsBWR0 : List RegRow := [
  ⟨0xe80000, 0x0, 1, 0x0, 1, 0x110100, 0x0, 0x0, 0x0, 0x0⟩ /- BWR_ID -/,
  ⟨0xe80004, 0x0, 1, 0x0, 1, 0x0, 0x1, 0x0, 0x0, 0x0⟩ /- BWR_LEVEL -/,
  ⟨0xe80100, 0x0, 1, 0x0, 1, 0x1, 0x80001f03, 0x80001f03, 0x0, 0x0⟩ /- BWR_CFG -/,
  ⟨0xe80104, 0x0, 1, 0x0, 1, 0x0, 0x0, 0x0, 0x0, 0x0⟩ /- BWR_STAT -/,
  ⟨0xe80108, 0x0, 1, 0x0, 1, 0xa, 0xffff, 0xffff, 0x0, 0x0⟩ /- BWR_TXTO -/,
  ⟨0xe80140, 0x0, 1, 0x0, 1, 0x32320c19, 0x0, 0x0, 0xffffffff, 0x0⟩ /- BWR_TIM -/,
  ⟨0xe80144, 0x0, 1, 0x0, 1, 0xc801903, 0x0, 0x0, 0xffffffff, 0x0⟩ /- BWR_TIM2 -/,
  ⟨0xe80148, 0x0, 1, 0x0, 1, 0xc80003, 0x0, 0x0, 0xffff000f, 0x0⟩ /- BWR_TIM3 -/,
  ⟨0xe80200, 0x4, 16, 0x0, 1, 0x78000000, 0x781f00ff, 0x0, 0x0, 0x0⟩ /- BWR_SCFG -/,
  ⟨0xe80280, 0x4, 16, 0x0, 1, 0x0, 0x800000ff, 0x0, 0x0, 0x0⟩ /- BWR_EMAP -/,
  ⟨0xe80300, 0x0, 1, 0x0, 1, 0x0, 0xffff, 0x0, 0x0, 0x0⟩ /- BWR_TXCTL -/,
  ⟨0xe80304, 0x0, 1, 0x0, 1, 0x0, 0xffffffff, 0x0, 0x0, 0x0⟩ /- BWR_TXDATA0 -/,
  ⟨0xe80308, 0x0, 1, 0x0, 1, 0x0, 0xffffffff, 0x0, 0x0, 0x0⟩ /- BWR_TXDATA1 -/,
  ⟨0xe80310, 0x0, 1, 0x0, 1, 0x0, 0xffff0000, 0x0, 0x0, 0x0⟩ /- BWR_RXSTAT -/,
  ⟨0xe80314, 0x0, 1, 0x0, 1, 0x0, 0x0, 0x0, 0x0, 0x0⟩ /- BWR_RX0 -/,
  ⟨0xe80318, 0x0, 1, 0x0, 1, 0x0, 0x0, 0x0, 0x0, 0x0⟩ /- BWR_RX1 -/,
  ⟨0xe8031c, 0x0, 1, 0x0, 1, 0x0, 0x0, 0x0, 0x0, 0x0⟩ /- BWR_RX2 -/,
  ⟨0xe80320, 0x0, 1, 0x0, 1, 0x0, 0x0, 0x0, 0x0, 0x0⟩ /- BWR_RXPOP -/,
  ⟨0xe80330, 0x0, 1, 0x0, 1, 0x0, 0xffffffff, 0x0, 0x0, 0x0⟩ /- BWR_TXCNT -/,
  ⟨0xe80334, 0x0, 1, 0x0, 1, 0x0, 0xffffffff, 0x0, 0x0, 0x0⟩ /- BWR_ERRCNT -/]

def rowsBWR1 : List RegRow := [
  ⟨0xe80338, 0x0, 1, 0x0, 1, 0x0, 0xffffffff, 0x0, 0x0, 0x0⟩ /- BWR_RXCNT -/]

/-- The rows of BWR (spec/19). -/
def rowsBWR : List RegRow := rowsBWR0 ++ rowsBWR1

def rowsERR0 : List RegRow := [
  ⟨0xf00000, 0x0, 1, 0x0, 1, 0x120100, 0x0, 0x0, 0x0, 0x0⟩ /- ERR_ID -/,
  ⟨0xf00004, 0x0, 1, 0x0, 1, 0x0, 0x1, 0x0, 0x0, 0x0⟩ /- ERR_LEVEL -/,
  ⟨0xf00100, 0x0, 1, 0x0, 1, 0x0, 0x3, 0x0, 0x0, 0x0⟩ /- ERR_CTL -/,
  ⟨0xf00104, 0x0, 1, 0x0, 1, 0x0, 0x0, 0x0, 0x0, 0x0⟩ /- ERR_WCNT -/,
  ⟨0xf00108, 0x0, 1, 0x0, 1, 0x0, 0xffffffff, 0x0, 0x0, 0x0⟩ /- ERR_RCNT -/,
  ⟨0xf0010c, 0x0, 1, 0x0, 1, 0x0, 0xffffffff, 0x0, 0x0, 0x0⟩ /- ERR_LOST -/,
  ⟨0xf00110, 0x0, 1, 0x0, 1, 0x0, 0xffffffff, 0x0, 0x0, 0x0⟩ /- ERR_FILT -/,
  ⟨0xf00114, 0x0, 1, 0x0, 1, 0x0, 0xffffffff, 0x0, 0x0, 0x0⟩ /- ERR_DROP -/,
  ⟨0xf00118, 0x0, 1, 0x0, 1, 0x0, 0x0, 0x0, 0x0, 0x1⟩ /- ERR_FIRSTV -/,
  ⟨0xf00200, 0x4, 8, 0x0, 1, 0x0, 0x0, 0x0, 0x0, 0x0⟩ /- ERR_FIRST -/,
  ⟨0xf00404, 0x4, 18, 0x0, 1, 0x0, 0xffff, 0x0, 0x0, 0x0⟩ /- ERR_UNITCNT -/,
  ⟨0xf01000, 0x4, 2048, 0x0, 1, 0x0, 0x0, 0x0, 0x0, 0x0⟩ /- ERR_REC -/]

/-- The rows of ERR (spec/22). -/
def rowsERR : List RegRow := rowsERR0

end Sys2Proof.Machine
end

