-- ==== Sys2Proof/Machine/ResetWords.lean ====
section
/-! DEFINITION. The reset word of every register of BAR0: the register map's constant, or, where R150 gives a derived
value that differs along an array, the derivation from the reset values of the basic fields. -/

namespace Sys2Proof.Machine

/-- The rows of the unit with code `u` (R136). -/
def unitRows (u : Nat) : List RegRow :=
  match u with
  | 1 => rowsGLB | 2 => rowsCFG | 3 => rowsCLK | 4 => rowsTIM | 5 => rowsLNP | 6 => rowsCLP
  | 7 => rowsPAR | 8 => rowsPIX | 9 => rowsPOS | 10 => rowsTWS | 11 => rowsBTM | 12 => rowsOUT
  | 13 => rowsQUE | 14 => rowsHBR | 15 => rowsVEN | 16 => rowsDRL | 17 => rowsBWR | 18 => rowsERR
  | _ => []

/-- The base address of the window of unit `u` (R136). -/
def unitBase (u : Nat) : Nat :=
  match u with
  | 1 => 0 | 2 => 0x10000 | 3 => 0x20000 | 4 => 0x100000 | 5 => 0x200000 | 6 => 0x300000
  | 7 => 0x380000 | 8 => 0x400000 | 9 => 0x500000 | 10 => 0x540000 | 11 => 0x600000 | 12 => 0x680000
  | 13 => 0x800000 | 14 => 0xA00000 | 15 => 0xC00000 | 16 => 0xE00000 | 17 => 0xE80000 | _ => 0xF00000

/-- The first address after the window of unit `u` (R136). -/
def unitEnd (u : Nat) : Nat :=
  match u with
  | 1 => 0x10000 | 2 => 0x20000 | 3 => 0x30000 | 4 => 0x200000 | 5 => 0x300000 | 6 => 0x380000
  | 7 => 0x400000 | 8 => 0x500000 | 9 => 0x540000 | 10 => 0x600000 | 11 => 0x680000 | 12 => 0x800000
  | 13 => 0xA00000 | 14 => 0xC00000 | 15 => 0xE00000 | 16 => 0xE80000 | 17 => 0xF00000 | _ => 0x1000000

/-- The unit whose window holds address `a` (R136); none in unallocated space. -/
def unitAt (a : Nat) : Option Nat :=
  if a < 0x10000 then some 1 else if a < 0x20000 then some 2 else if a < 0x30000 then some 3
  else if a < 0x100000 then none else if a < 0x200000 then some 4 else if a < 0x300000 then some 5
  else if a < 0x380000 then some 6 else if a < 0x400000 then some 7 else if a < 0x500000 then some 8
  else if a < 0x540000 then some 9 else if a < 0x600000 then some 10 else if a < 0x680000 then some 11
  else if a < 0x800000 then some 12 else if a < 0xA00000 then some 13 else if a < 0xC00000 then some 14
  else if a < 0xE00000 then some 15 else if a < 0xE80000 then some 16 else if a < 0xF00000 then some 17
  else if a < 0x1000000 then some 18 else none

/-- The row of `rows` that holds address `a`, with its indices. -/
def findRow (rows : List RegRow) (a : Nat) : Option (RegRow × Nat × Nat) :=
  match rows with
  | [] => none
  | r :: t => match r.find a with
    | some (i, j) => some (r, i, j)
    | none => findRow t a

/-- The register at address `a`, with its indices; none where no register is (R141). -/
def rowAt (a : Nat) : Option (RegRow × Nat × Nat) :=
  match unitAt a with
  | some u => findRow (unitRows u) a
  | none => none

/-- Whether `BTM_CSEL[i].PEND` resets to 1 (R429): the programmable ones and `POS_SSIREQ`. -/
def pendReset (i : Nat) : Bool :=
  i ≤ 0x41 || (0x48 ≤ i && i ≤ 0x5F) || (0x80 ≤ i && i ≤ 0x87) || (0x90 ≤ i && i ≤ 0xDF) ||
    (0x1A0 ≤ i && i ≤ 0x1AF) || 0x1C0 ≤ i

/-- Reset words that differ along an array or that a formula gives (R150, R429). -/
def resetSpecial (r : RegRow) (i j : Nat) : Nat :=
  match r.base with
  | 0x20100 => pllDerived false i
  | 0x400190 => pairWord (fun e => (identityEntry e : Int)) j
  | 0x4001B0 => pairWord (fun e => cscEntry 1 false (e / 3) (e % 3)) j
  | 0x4001C4 => 32768 * 65536 + cscLumaOfs false
  | 0x4001C8 => 32768
  | 0x420000 => identityEntry j
  | 0x428000 => lutEntry 0 j
  | 0x430000 => code16 (scaleTap (j / 4) (j % 4))
  | 0x602000 => if pendReset i then 2 ^ 30 else 0
  | _ => r.reset

/-- The word that the register at `a` holds after the reset that clears it (R18, R150). -/
def resetWord (a : Nat) : Nat :=
  match rowAt a with
  | some (r, i, j) => resetSpecial r i j
  | none => 0

end Sys2Proof.Machine
end

