-- ==== Sys2Proof/Machine/State.lean ====
section
/-! DEFINITION. The state of the LVG-16: every register (one sparse table over BAR0, in one canonical form), the time
base, and the state that no register shows, unit by unit; with the queue of waiting commands and what the block has sent.
`State.reset` is the machine while `POR_N` is low (R71). -/

namespace Sys2Proof.Machine

/-- Why a run stops for good. No rule of the spec gives the block a state that it cannot leave by a command, so the one
constructor stands for a step that the model's own data makes meaningless. -/
inductive Fault where
  /-- Raised by no command of the present model (safe: it stops nothing that the hardware would run). -/
  | outsideModel
  deriving DecidableEq, Repr

/-- Why a command has no meaning in the model. -/
inductive Refusal where
  /-- Raised by an arm of `exec` whose row has no meaning yet; safe, it stops where the hardware goes on. -/
  | notModelled (mnemonic : String)
  deriving DecidableEq, Repr

/-- The three variants of R1. -/
inductive Variant where
  | f
  | s
  | e
  deriving DecidableEq, Repr

/-- The fuses that FUSE reads (R74, R83, R84) and that fix the variant and serial number (R155). -/
structure Fuses where
  variant : Variant
  dsn : Nat
  keyHash : List Nat
  floor : Nat
  parityOk : Bool
  outTrim : List Nat
  outCal : List Nat
  deriving DecidableEq, Repr

/-- A producer event (R424) on its way to the beats: the producer ID of R426, the instant of its tick in 2^-32 ns of the
time base, and the flags that travel with a fire (bit 0 LATE, bit 1 PREDICTED). -/
structure Fired where
  prod : Nat
  time : Nat
  flags : Nat
  deriving DecidableEq, Repr

/-- What the block has put on an interface: a model-own record of its outputs (log entry 4). -/
inductive Emission where
  /-- The answer to a configuration request (R97): none for Configuration Request Retry Status. -/
  | cfgReply (data : Option Nat)
  /-- A flash command sequence sent on the flash pins (R76, R77, R80): opcode, address, data. -/
  | flash (opcode address : Nat) (data : List Nat)
  /-- A posted memory write request on the PCIe link: address, bytes, attributes (R505, R525: bit 0 No Snoop, bit 1
  Relaxed Ordering). -/
  | memWrite (addr : Nat) (bytes : List Nat) (attr : Nat)
  /-- A memory read request on the PCIe link: tag, address, length in bytes (R527). -/
  | memRead (tag addr len : Nat)
  /-- An interrupt message: address and data written (R544, R546). -/
  | message (addr data : Nat)
  /-- A completion on the PCIe link (R554, R549): status 0 successful, 1 unsupported request, 4 completer abort; data. -/
  | completion (status data : Nat)
  /-- The data returned to whoever read a register whose read has a side effect: address, value. -/
  | readData (addr value : Nat)
  /-- A down-link packet of a camera group (R281): lead lane, and all its bytes with the CRC. -/
  | clpPacket (group : Nat) (bytes : List Nat)
  /-- An ALIGN row of a camera group (R256, R257): lead lane, COUNT, TXSET and RXOK. -/
  | alignRow (group count txset rxok : Nat)
  /-- A test fault injected on a lane (R242): lane, bit of `LNP_INJ`. -/
  | injected (lane kind : Nat)
  /-- An Ethernet frame that a ring port sends, with its FCS (R606, R181): port, octets. -/
  | ringFrame (port : Nat) (bytes : List Nat)
  /-- An edge of `PPS_OUT` (R175). -/
  | ppsOut (high : Bool)
  /-- A pulse that has ended on an output (R461, R465), or an edge of a TOGGLE output: trigger output 0-15 or strobe plus
  16, and its edges in 1/8 ns of `elapsed`. -/
  | outPulse (pin : Nat) (lead trail : Int)
  /-- What the grabber drives on Bellwire (R633, R641, R653): 0 a frame it starts to send, with its CRC, 1 the ACK of a
  received frame, 2 a reset strike. -/
  | bellwire (kind : Nat) (bytes : List Nat)
  deriving DecidableEq, Repr

/-- The sixteen states of the TAP controller of IEEE 1149.1 (R675). -/
inductive TapState where
  | testLogicReset
  | runTestIdle
  | selectDr
  | captureDr
  | shiftDr
  | exit1Dr
  | pauseDr
  | exit2Dr
  | updateDr
  | selectIr
  | captureIr
  | shiftIr
  | exit1Ir
  | pauseIr
  | exit2Ir
  | updateIr
  deriving DecidableEq, Repr

/-- Boundary scan (R675-R679): the controller's state, the current instruction's code, the shift register, the level at
`TDO` while it is driven, and the boundary cells as Update-DR left them (bit k is cell k). -/
structure JtagSt where
  tap : TapState := .testLogicReset
  ir : Nat := 1
  shift : Nat := 0
  tdo : Option Bool := none
  cells : Nat := 0
  deriving DecidableEq, Repr

/-- Clock, reset and pin state (chapter 2, R28, R669-R672, R684) that no register shows. -/
structure ClkSt where
  porLow : Bool := true
  dip : Bool := false
  rstLow : Bool := false
  perstLow : Bool := true
  testHold : Bool := false
  restartWait : Bool := false
  cfgUp : Bool := false
  coreUp : Bool := false
  timeUp : Bool := false
  hostUp : Bool := false
  vencUp : Bool := false
  fieldLink : Bool := true
  timeUnlock : Bool := false
  pllUse : List (Nat × Nat) := []
  strapSlot : Nat := 0
  deriving DecidableEq, Repr

/-- A POLL record in progress (R87). -/
structure PollSt where
  required : Bool
  addr : Nat
  mask : Nat
  value : Nat
  deriving DecidableEq, Repr

/-- Loader and flash state (chapter 3) that no register shows. -/
structure CfgSt where
  shadow : Bool := false
  slot : Nat := 0
  slow : Bool := false
  resume : Bool := false
  hdr : List Nat := []
  recIdx : Nat := 0
  waiting : Bool := false
  poll : Option PollSt := none
  skipLogged : Bool := false
  earlyLogged : Bool := false
  modeRec : Option Nat := none
  startAt : Nat := 0
  unlocked : Bool := false
  flashReset : Bool := false
  flashOp : Nat := 0
  subsys : Nat := 0
  subLock : Bool := false
  deriving DecidableEq, Repr

/-- A re-derivation in progress (R145, R157): the unit, and for each register the derived RWX bits. -/
structure Rederive where
  unit : Nat
  words : List (Nat × Nat × Nat)
  due : Bool
  deriving DecidableEq, Repr

/-- A register write that waits for a change of level (R148). -/
structure HeldWrite where
  unit : Nat
  addr : Nat
  val : Nat
  deriving DecidableEq, Repr

/-- Mode controller and register-convention state (chapters 4 and 5) that no register shows. -/
structure GlbSt where
  enterMode : Nat := 0
  finishing : List Nat := []
  closed : List Nat := []
  firstAfter : List Nat := []
  rederive : List Rederive := []
  levelWait : List Nat := []
  held : List HeldWrite := []
  deriving DecidableEq, Repr

/-- Error log state (chapter 22) that no register shows. -/
structure ErrSt where
  held : Nat := 0
  dropRun : Nat := 0
  deriving DecidableEq, Repr

/-- An item on its way to a queue (R480-R506). `source` says who made it: 0 `CLP`, 1 `PAR`, 2 `PIX`, 3 `VEN`, 4 event
capture, 5 a MARK command, 6 line-block assembly; `src` is its index there. `body` is the tag's bytes 0x10-0x3B. -/
structure Item where
  id : Nat := 0
  source : Nat := 0
  src : Nat := 0
  stream : Nat := 0
  region : Nat := 0
  kind : Nat := 0
  mapIx : Nat := 0
  seq : Nat := 0
  flags : Nat := 0
  body : List Nat := []
  payload : List Nat := []
  descs : List (Nat × Nat × Nat) := []
  written : Nat := 0
  irq : Bool := false
  ended : Bool := false
  wait : Nat := 0
  ctx : Nat := 0
  deriving DecidableEq, Repr

/-- A descriptor read ahead (R489): its ring slot and its 32 bytes. -/
structure Desc where
  slot : Nat
  bytes : List Nat
  deriving DecidableEq, Repr

/-- A run of drops on a queue (R509). -/
structure DropRun where
  cause : Nat
  seq : Nat
  stream : Nat
  count : Nat
  time : Nat
  deriving DecidableEq, Repr

/-- The state of one queue that its context does not show. `heldTag` is a tag that could not be written (R512). -/
structure QueueSt where
  item : Option Item := none
  waiting : List Item := []
  ready : List Desc := []
  reading : Nat := 0
  heldTag : Option (List Nat) := none
  drop : Option DropRun := none
  lastFrame : Option (Nat × Nat) := none
  deriving DecidableEq, Repr

/-- Queue unit state (chapter 15) that no register shows: created items not yet started, the queues,
the access-unit counters, and the descriptor reads that have completed and not yet been taken. -/
structure QueSt where
  nextId : Nat := 1
  created : List Item := []
  queues : List (Nat × QueueSt) := []
  aseq : List (Nat × Nat) := []
  arrived : List (Nat × Nat × List Nat) := []
  resetting : List Nat := []
  clash : List (Nat × Nat) := []
  deriving DecidableEq, Repr

/-- One entry of the MSI-X table (R545). -/
structure MsixEntry where
  addr : Nat := 0
  data : Nat := 0
  masked : Bool := true
  deriving DecidableEq, Repr

/-- A memory read outstanding on the PCIe link (R527): its tag, and the queue, first slot and count of descriptors. -/
structure ReadReq where
  tag : Nat
  qid : Nat
  slot : Nat
  count : Nat
  deriving DecidableEq, Repr

/-- An interrupt message that is held (R543): its source (0 queue, 1 host-notify consumer) with the index, and the vector. -/
structure HeldMsg where
  source : Nat
  index : Nat
  vector : Nat
  deriving DecidableEq, Repr

/-- A far-side access (R554, R556, R561): its BAR4 offset, node, BAR0 offset at the node, the dwords of a write or the
number of a read's, whether it has been sent, whether a BUSY answer waits for its retry, the poll entry it belongs to, and
whether the host that waits for it is gone (R531). -/
structure FarReq where
  id : Nat := 0
  offset : Nat := 0
  node : Nat := 0
  addr : Nat := 0
  isWrite : Bool := false
  data : List Nat := []
  count : Nat := 1
  flying : Bool := false
  retry : Bool := false
  poll : Option Nat := none
  abandoned : Bool := false
  deriving DecidableEq, Repr

/-- Host bridge state (chapter 16) that no register shows: configuration-space fields (`space` holds the RW bits that no
other field here names), the MSI-X table and pending bits, outstanding reads, held messages, far-side accesses, and the
poll entries read since EN was set. -/
structure HbrSt where
  linkUp : Bool := false
  msixEn : Bool := false
  msixMask : Bool := false
  msiMme : Nat := 0
  msiAddr : Nat := 0
  msiData : Nat := 0
  msiMask : Nat := 0
  msiPend : Nat := 0
  msix : List (Nat × MsixEntry) := []
  pba : List (Nat × Bool) := []
  reads : List ReadReq := []
  silent : List Nat := []
  heldMsgs : List HeldMsg := []
  mse : Bool := false
  mps : Nat := 128
  mrrs : Nat := 512
  extTag : Bool := false
  tenTag : Bool := false
  aerUncor : Nat := 0
  aerCor : Nat := 0
  deadQueues : Bool := false
  far : List FarReq := []
  nextFar : Nat := 0
  pollSeen : List (Nat × Bool) := []
  space : List (Nat × Word) := []
  ctoOff : Bool := false
  deriving DecidableEq, Repr

/-- A lane's training, low-power and measurement state (chapter 7) that no register shows. -/
structure LaneSt where
  rxRun : Nat := 0
  ackRun : Nat := 0
  echoRun : Nat := 0
  seen : Nat := 0
  sent : Nat := 0
  ack : Bool := false
  selOffer : Nat := 0
  switching : Bool := false
  tail : Nat := 0
  req : Nat := 0
  lastReq : Nat := 0
  reqRun : Nat := 0
  txPreset : Nat := 0
  trials : List Nat := []
  best : Option (Nat × Nat) := none
  trying : Bool := false
  rxQuiet : Bool := false
  txQuiet : Bool := false
  deepAsk : Bool := false
  retrain : Bool := false
  member : Bool := false
  looping : Bool := false
  basePend : Bool := false
  lowRun : Nat := 0
  lowClass : Nat := 0
  sweepWait : Bool := false
  eye : List Nat := []
  slipAt : Nat := 0
  matchRun : Nat := 0
  missRun : Nat := 0
  deriving DecidableEq, Repr

/-- A reliable packet that a group has sent and not yet freed (R275): header and payload without CRC, and the number of a
TRIGGER it carries. -/
structure RelPkt where
  seq : Nat
  bytes : List Nat
  trig : Option Nat := none
  isTime : Bool := false
  deriving DecidableEq, Repr

/-- A TRIGGER of a group (R283): its number, latched time, streams, and how often it has been sent. -/
structure TrigSt where
  id : Nat
  time : Nat
  streams : List Nat
  flags : Nat := 0
  sends : Nat := 0
  deriving DecidableEq, Repr

/-- A group's link state (chapter 8) that no register shows. -/
structure GroupSt where
  rate : Nat := 0
  tag : Nat := 0
  alignTx : Nat := 0
  striped : Bool := false
  buffer : List RelPkt := []
  replayQ : List Nat := []
  replays : Nat := 0
  busyWait : Bool := false
  nakSent : Bool := false
  unacked : Nat := 0
  ackDue : Option Nat := none
  trigQ : List RelPkt := []
  timeDue : Option Bool := none
  pingDue : Bool := false
  rspDue : Bool := false
  ctrlDue : Option RelPkt := none
  nextTrig : Nat := 0
  trigs : List TrigSt := []
  nextPing : Nat := 0
  pings : List (Nat × Nat) := []
  delays : List Nat := []
  nextTag : Nat := 0
  maxDl : Nat := 244
  deriving DecidableEq, Repr

/-- A frame of a stream as its source assembles it (R272, R305). `src` is 0 for `CLP`, 1 for `PAR`, `ix` the group or the
port. `missing` lists the lines that hold filled or discarded bytes. `path` is 0 for raw bypass, else the pipe plus 1;
`item` is the raw bypass item. -/
structure Feed where
  id : Nat := 0
  stream : Nat := 0
  src : Nat := 0
  ix : Nat := 0
  frame : Nat := 0
  format : Nat := 0
  width : Nat := 0
  height : Nat := 0
  tTrig : Nat := 0
  tExp : Nat := 0
  expNs : Nat := 0
  flags : Nat := 0
  seq : Nat := 0
  kind : Nat := 1
  data : List Nat := []
  length : Nat := 0
  accepted : Nat := 0
  damage : Nat := 0
  missing : List Nat := []
  started : Bool := false
  ended : Bool := false
  path : Nat := 0
  item : Nat := 0
  first : Bool := false
  linesMissing : Nat := 0
  deriving DecidableEq, Repr

/-- A frame assembled from line blocks (R419, R420): its item, how many blocks it holds, and the sums of R420. -/
structure AsmSt where
  item : Nat
  seq : Nat
  blocks : Nat := 0
  tTrig : Nat := 0
  tExp : Nat := 0
  endNs : Nat := 0
  width : Nat := 0
  height : Nat := 0
  damage : Nat := 0
  missing : Nat := 0
  flags : Nat := 0
  cut : Bool := false
  deriving DecidableEq, Repr

/-- Frame sources (chapters 8 and 9) that no register shows: frames in assembly or waiting for their pipe, the groups and
lanes, the frame value each stream closed last, the packet counters of each group and VSID, the last trigger of each
stream, and the parallel ports. -/
structure SrcSt where
  nextFeed : Nat := 1
  feeds : List Feed := []
  asm : Option AsmSt := none
  closed : List (Nat × Nat) := []
  pixCount : List (Nat × Nat) := []
  deriving DecidableEq, Repr

/-- A parallel port (chapter 9) that no register shows: the frame it assembles (0 none), the instants of the last frame
start, of the entry to SEEK (plus 1) and of the last line end, the measured line period, the lines since the frame start,
the run of bad lines, the first period of the frame in clocks, whether a sync loss waits for its next frame start, the
stored trigger, the exposure edges, and the lines of a woven frame. -/
structure PortSt where
  feed : Nat := 0
  startAt : Option Nat := none
  seekAt : Nat := 0
  lineAt : Option Nat := none
  lineNs : Nat := 0
  total : Nat := 0
  badRun : Nat := 0
  firstPeriod : Option Nat := none
  recover : Bool := false
  trig : Option (Nat × Nat) := none
  expLead : Option Nat := none
  pulse : Option (Nat × Nat) := none
  rows : List (Nat × List Nat) := []
  deriving DecidableEq, Repr

/-- A pixel pipe (chapter 10) that no register shows: the frame in it, its latched parameter set, the input lines taken,
and the items open. -/
structure PipeSt where
  feed : Nat := 0
  set : List (Nat × BitVec 32) := []
  hasSet : Bool := false
  lastW : Nat := 1920
  lastH : Nat := 1080
  lines : List (Nat × List Nat) := []
  bad : List Nat := []
  items : List (Nat × Nat × Nat × Nat × Nat × Nat) := []
  overrun : Bool := false
  rows : Nat := 0
  seq : Nat := 0
  frame : Feed := {}
  order : Bool := false
  tblLogged : Bool := false
  deriving DecidableEq, Repr

/-- One encoded segment of a picture (R580): its bytes, the sum of its groups' QPs and the number of groups. -/
structure SegPart where
  bytes : List Nat
  qpSum : Nat
  groups : Nat
  deriving DecidableEq, Repr

/-- A picture that an encoder context holds (R578): its source frame, its parameters (`set` the context's registers and
ROIs as latched), and its segments (0 waiting, 1 running, 2 done). `posWait` says that its position is not evaluated,
`barred` lists the cores that may not take its segments (R583). -/
structure Picture where
  ctx : Nat
  order : Nat
  feed : Nat
  stream : Nat
  seq : Nat
  width : Nat
  height : Nat
  code : Nat
  flags : Nat
  body : List Nat
  set : List (Nat × BitVec 32) := []
  posWait : Bool := false
  speed : Option (Nat × Nat × Nat) := none
  complete : Bool := false
  started : Bool := false
  segs : List Nat := []
  parts : List (Nat × SegPart) := []
  idr : Bool := false
  seeded : Bool := false
  gmvX : Nat := 0
  gmvY : Nat := 0
  qp : Nat := 0
  lost : Nat := 0
  poc : Nat := 0
  barred : List Nat := []
  deriving DecidableEq, Repr

/-- What a position evaluation gave a frame of a stream (R375, R587): the frame's SEQ, the two speeds and which are valid,
the two positions and the flag bits. -/
structure PosEval where
  seq : Nat
  sa : Nat
  sb : Nat
  valid : Nat
  posA : Nat
  posB : Nat
  flags : Nat
  deriving DecidableEq, Repr

/-- An encoder context (chapter 17) that no register shows: the segments latched at the enable, size, chroma and colour of
the last picture taken, twice the exposure midpoint of the last one encoded, its picture order count and QP, the pictures
lost since the last one taken, the pictures since the last IDR, the frame offered last, the size of the last picture
latched and the fill of its buffer in bits. -/
structure CtxSt where
  nseg : Nat := 1
  last : Option (Nat × Nat × Nat × Nat) := none
  lastMid : Nat := 0
  lastPoc : Nat := 0
  lastQp : Option Nat := none
  lostNow : Nat := 0
  sinceIdr : Nat := 0
  levelLogged : Bool := false
  offered : Nat := 0
  latchW : Nat := 1920
  latchH : Nat := 1080
  vbv : Nat := 0
  deriving DecidableEq, Repr

/-- Video encoder state (chapter 17) that no register shows. `work` names the picture (by its order) and segment of each
running core; `evals` the last position evaluation of each stream. -/
structure VenSt where
  pics : List Picture := []
  order : Nat := 1
  ctxs : List (Nat × CtxSt) := []
  work : List (Nat × (Nat × Nat)) := []
  evals : List (Nat × PosEval) := []
  deriving DecidableEq, Repr

/-- An event as a consumer latches it (R440): the short-form time its tag latch records, its flags (bit 0 LATE, bit 1
PREDICTED, bit 4 TIMEUNSYNC), and the instant that an output places it at (R460), in 1/8 ns of `elapsed`. -/
structure Latch where
  time : Nat := 0
  flags : Nat := 0
  inst : Int := 0
  deriving DecidableEq, Repr

/-- A consumer input of the beat matrix (R438-R440): the held event, the tag latch, and whether a run of losses is open. -/
structure ConSt where
  held : Option Latch := none
  latch : Latch := {}
  lossRun : Bool := false
  deriving DecidableEq, Repr

/-- A chime cell (R446-R449): the states of its inputs (bit i), the pre-filter level, the cycles that the filter has
counted, whether its count still runs, and whether `CHIME[c]` fired on the last cycle. -/
structure CellSt where
  x : Nat := 0
  pre : Bool := false
  run : Nat := 0
  counting : Bool := false
  fired : Bool := false
  deriving DecidableEq, Repr

/-- Beat matrix state (chapter 13) that no register shows: the pulse synchronisers of R49 as (crossing, the instant up to
which they are busy), and the levels of the pins (bits 0-7 `PROBE`, bit 8 `PPS_IN`). -/
structure BtmSt where
  cons : List (Nat × ConSt) := []
  cells : List (Nat × CellSt) := []
  busy : List (Nat × Nat) := []
  pins : Nat := 0
  deriving DecidableEq, Repr

/-- A pulse or an edge in flight at an output (R463, R465): its leading and trailing edge in 1/8 ns of `elapsed`, whether
it is an edge of a TOGGLE output, whether its pin does not move, and where the guard cut it. -/
structure OutPulse where
  lead : Int
  trail : Int
  toggle : Bool := false
  dead : Bool := false
  cut : Option Int := none
  deriving DecidableEq, Repr

/-- A trigger output (R463): what is in flight, the last edge, and the level that TOGGLE has reached. -/
structure TrigOut where
  pulse : Option OutPulse := none
  edge : Int := -64
  level : Bool := false
  deriving DecidableEq, Repr

/-- A strobe (R465, R466): what is in flight, the last trailing edge, and the guard level in 1/65,536 ns at the instant
`seen` of `elapsed`. -/
structure StrobeOut where
  pulse : Option OutPulse := none
  edge : Int := -64
  level : Nat := 0
  seen : Nat := 0
  deriving DecidableEq, Repr

/-- An analog output (R469, R475): the code held since outputs became safe, and whether its discharge path is closed. -/
structure AnalogOut where
  held : Nat := 0
  discharge : Bool := false
  deriving DecidableEq, Repr

/-- Output state (chapter 14) that no register shows. -/
structure OutSt where
  trigs : List (Nat × TrigOut) := []
  strobes : List (Nat × StrobeOut) := []
  analog : List (Nat × AnalogOut) := []
  deriving DecidableEq, Repr

/-- An entry of a channel's history ring (R372): its time in ns, the 48-bit count after the event, whether it is a MARK,
and the values of `REFOK` and `DIR`. -/
structure HistEntry where
  time : Nat
  cnt : Nat
  mark : Bool := false
  ref : Bool := false
  dir : Nat := 0
  deriving DecidableEq, Repr

/-- A position channel (chapter 11) that no register shows. `last` is the instant of the last transition on a count input
plus 1 (0 none); `ring` and `slots` have their newest entry first; `edge` is the live last edge (time, count, direction);
`stored` counts the speed slots since the channel was enabled, after the first. `ssiLast` is the raw code of the last valid
SSI value, `ssiNew` whether a valid frame has come since the channel was enabled, `ssiAt` the start of the last transaction,
`ssiFall` the network time of its falling edge 0, `pause` the end of the pause. `dis` holds the inputs in disagree. `offAt`
is the start of the present interval in which the channel is disabled, `offs` the intervals before it. -/
structure PosCh where
  cnt : Nat := 0
  last : Nat := 0
  dirRun : Nat := 0
  ring : List HistEntry := []
  edge : Option (Nat × Nat × Nat) := none
  motion : Int := 0
  slots : List (Nat × Int) := []
  stored : Nat := 0
  ssiLast : Option Nat := none
  ssiNew : Bool := false
  ssiBad : Nat := 0
  ssiAt : Option Nat := none
  ssiFall : Nat := 0
  pause : Nat := 0
  dis : Nat := 0
  offAt : Option Nat := some 0
  offs : List (Nat × Nat) := []
  deriving DecidableEq, Repr

/-- Position state (chapter 11) beside the channels: the field-link losses as intervals of network time in ns, the start
of the present one, and the time that the last step set (R373). -/
structure PosSt where
  losses : List (Nat × Nat) := []
  lossAt : Option Nat := none
  stepAt : Option Nat := none
  deriving DecidableEq, Repr

/-- A pending fire instant of a scheduler entry (R405): the instant in 1/8 ns, its flags (bit 0 LATE, bit 1 PREDICTED), the
boundary of a POSITION entry, the angle of an ANGLE entry in unwrapped 16.16 tooth units, and whether SUPPRESS holds it. -/
structure FireAt where
  inst : Nat
  flags : Nat := 0
  bound : Int := 0
  angle : Nat := 0
  sup : Bool := false
  deriving DecidableEq, Repr

/-- A scheduler entry as it acts (R412): the words that its last CTL write put in effect, whether it is armed, the next
instant of a TIME entry in 1/8 ns, its pending instants, the boundaries at which it is blocked (R408) and the next angle of
an ANGLE entry. -/
structure EntrySt where
  kind : Nat := 0
  words : List Nat := []
  armed : Bool := false
  next : Option Nat := none
  pend : List FireAt := []
  blocks : List Int := []
  angle : Option Nat := none
  deriving DecidableEq, Repr

/-- A tooth in a wheel's ring (R402): its time in 1/16 ns, its position counted on from the sync without wrapping,
whether it is synthetic, and which span in SYNCED it belongs to. -/
structure Tooth where
  time : Nat
  pos : Nat
  synth : Bool
  run : Nat
  deriving DecidableEq, Repr

/-- A tooth wheel (chapter 12) that no register shows; times are in 1/16 ns of the time base. `edges` are the edges on their
way from `POS`; `prev` is the last accepted tooth, `ivs` the intervals T' and T'' before it; `pos` and `tk` give the newest
tooth, `per` is P, `normal` the last interval as R395 normalises it, `misses` the synthetic teeth in a row, `zero` the ZERO
in effect, `good` the last verified gap, `fires` the angle fires since; `ring` has its newest tooth first; `synced` holds the
spans in SYNCED before the present one, which began at `since`; `bad` holds the spans that a sync error made suspect. -/
structure WheelSt where
  edges : List Nat := []
  prev : Option Nat := none
  ivs : List Nat := []
  pos : Nat := 0
  tk : Nat := 0
  synth : Bool := false
  per : Nat := 0
  normal : Option Nat := none
  misses : Nat := 0
  zero : Nat := 0
  good : Option Nat := none
  fires : Nat := 0
  ring : List Tooth := []
  since : Option Nat := none
  synced : List (Nat × Nat) := []
  bad : List (Nat × Nat) := []
  deriving DecidableEq, Repr

/-- Tooth wheel and scheduler state (chapter 12) that no register shows. Of the line-scan divider: whether it is armed,
whether line 0 has come, ACC, the lines to come as (number, instant in 1/8 ns), the instant of the last line, and the
streams whose next block carries OVERRUN. -/
structure TwsSt where
  entries : List (Nat × EntrySt) := []
  wheels : List (Nat × WheelSt) := []
  lsArmed : Bool := false
  lsRun : Bool := false
  acc : Int := 0
  lines : List (Nat × Nat) := []
  lineAt : Option Nat := none
  isOver : List Nat := []
  deriving DecidableEq, Repr

/-- The best Announce of one foreign master (R186): its ring port, `sourcePortIdentity`, the data set of the
grandmaster, `stepsRemoved`, and the UTC offset with its valid flag. -/
structure Foreign where
  port : Nat := 0
  ident : List Nat := []
  prio1 : Nat := 0
  quality : List Nat := []
  prio2 : Nat := 0
  gm : List Nat := []
  steps : Nat := 0
  utc : Nat := 0
  utcValid : Bool := false
  deriving DecidableEq, Repr

/-- A ring port's link delay measurement (R188): the open Pdelay_Req with its transmit stamp, a response that waits for its
follow-up, the delays measured last, the instants of the Announce messages processed last (R187), and whether the port
trained 10GBASE-R last (R198). Times are in 2^-16 ns. -/
structure PtpPort where
  pseq : Nat := 0
  reqAt : Option Int := none
  resp : Option (Int × Int × Int) := none
  delays : List Int := []
  anns : List Nat := []
  slow : Bool := false
  deriving DecidableEq, Repr

/-- Time base state (chapter 6) that no register shows. `slew` is the rate at the start of the slew in progress and the
steps made; `fNum / fDen` is f of R193 and `integ` its i in 2^-16 ns; `prev` is the last sample's master and local time;
`role` and `ptp` are the words of `TIM_ROLE` and `TIM_PTPCFG` in effect (R197); `fresh` says that no re-arm has come since
the time-base reset; `second` is the last whole second fired. -/
structure TimSt where
  slew : Option (Int × Nat) := none
  fNum : Int := 0
  fDen : Nat := 1
  integ : Int := 0
  prev : Option (Int × Int) := none
  lockRun : Nat := 0
  panicRun : Nat := 0
  trustOver : Bool := false
  role : Nat := 0
  ptp : Nat := 0xD0D002
  fresh : Bool := true
  stepReq : Option (Bool × Int) := none
  loadReq : Bool := false
  second : Nat := 0
  ppsHigh : Bool := false
  ppsAt : Option Nat := none
  foreign : List Foreign := []
  master : Option (List Nat) := none
  waitSync : Option (Nat × Int × Int) := none
  lastSync : Option (Int × Int) := none
  syncSeq : Nat := 0
  annSeq : Nat := 0
  delSeq : Nat := 0
  delAt : Option Int := none
  delays : List Int := []
  ports : List (Nat × PtpPort) := []
  raw : List (List Nat) := []
  deriving DecidableEq, Repr

/-- A Drumline event that is scheduled (R624): its number, sender, occurrence and presentation time in ns. -/
structure RingEvent where
  num : Nat
  src : Nat
  occ : Nat
  pres : Nat
  unsync : Bool := false
  deriving DecidableEq, Repr

/-- Drumline state (chapter 18) that no register shows. `partners` gives each port's partner ID (0xFFFF none) and DSN as
last heard; `roots` counts how often the node became root; `table` is the root's table of DSN, ID and SLOW; `linkups`
the links reported to the root (node, port, arrival port); `wait` is the root's progress in R620 (0 none, 1 next beacon
due, 2 sent, 3 returned). -/
structure DrlSt where
  heard : Bool := false
  runHeard : Bool := false
  holdDone : Bool := false
  knownRoot : Option Nat := none
  roots : Nat := 0
  partners : List (Nat × (Nat × Nat)) := []
  table : List (Nat × Nat × Bool) := []
  claimSeen : Bool := false
  topId : Nat := 0
  nodeUpDue : Bool := false
  rejoin : Bool := false
  events : Nat := 0
  sched : List RingEvent := []
  linkups : List (Nat × Nat × Nat) := []
  wait : Nat := 0
  deriving DecidableEq, Repr

/-- A Bellwire frame that is requested (R645): its source (`BWR_SEND[k]`, 16 `BWR_TXCTL`, 17 the slot check of R650), its
header and data bytes, and how often it has been sent without success. -/
structure BwReq where
  src : Nat
  bytes : List Nat
  tries : Nat := 0
  deriving DecidableEq, Repr

/-- Bellwire state (chapter 19) that no register shows: the requests, the frame that is being sent, the receive FIFO
(broadcast, data), the reset strikes used, whether one is being driven, and whether recovery is to be tried again. -/
structure BwrSt where
  reqs : List BwReq := []
  cur : Option BwReq := none
  fifo : List (Bool × List Nat) := []
  strikes : Nat := 0
  striking : Bool := false
  retry : Bool := false
  deriving DecidableEq, Repr
/-- The state of one LVG-16 (see the comment at the head of the file). -/
structure State where
  pending : List Instr := []
  regs : List (Nat × Word) := []
  now : Nat := 0
  elapsed : Nat := 0
  fired : List Fired := []
  sent : List Emission := []
  stamps : List (Nat × Nat) := []
  runs : List (Nat × Bool) := []
  freeCount : Nat := 0
  fuses : Fuses
  clk : ClkSt := {}
  cfg : CfgSt := {}
  glb : GlbSt := {}
  err : ErrSt := {}
  que : QueSt := {}
  hbr : HbrSt := {}
  tim : TimSt := {}
  drl : DrlSt := {}
  pos : PosSt := {}
  chans : List (Nat × PosCh) := []
  tws : TwsSt := {}
  out : OutSt := {}
  lanes : List (Nat × LaneSt) := []
  groups : List (Nat × GroupSt) := []
  src : SrcSt := {}
  ports : List (Nat × PortSt) := []
  pipes : List (Nat × PipeSt) := []
  ven : VenSt := {}
  btm : BtmSt := {}
  bwr : BwrSt := {}
  jtag : JtagSt := {}
  deriving DecidableEq, Repr

/-- The state while `POR_N` is low (R71): every register at its reset value, every domain in reset. The device is a
LVG-16F whose key hash is blank, whose floor is 0 and whose trims are 0 (DESIGN CHOICE, log entry 3). -/
def State.reset : State :=
  { fuses := { variant := .f, dsn := 0x0001, keyHash := [], floor := 0, parityOk := true, outTrim := [], outCal := [] } }

end Sys2Proof.Machine
end

