-- ==== Sys2Proof/Machine/Ops.lean ====
section
/-! DEFINITION. The operations every unit uses: registers and their fields, firing a producer, the rate limits on error
records, logging an error (chapter 22), and the time readings that records and tags carry. -/

namespace Sys2Proof.Machine

/-- The outcome of a step of this block. -/
abbrev Out := Host.Outcome State Fault Refusal

/-! ### Registers -/

/-- The word stored at BAR0 address `a`; an address the table does not list holds its reset word (R18). -/
def State.rdA (s : State) (a : Nat) : Nat := (tget (BitVec.ofNat 32 (resetWord a)) s.regs a).toNat

/-- `s` with the word `v` stored at address `a`. -/
def State.wrA (s : State) (a v : Nat) : State :=
  { s with regs := tput (BitVec.ofNat 32 (resetWord a)) s.regs a (BitVec.ofNat 32 v) }

/-- The value of field `f` at the indices `i` and `j`. -/
def State.get (s : State) (f : Fld) (i : Nat := 0) (j : Nat := 0) : Nat := bitsOf (s.rdA (f.adr i j)) f.hi f.lo

/-- `s` with field `f` at the indices `i` and `j` holding the low bits of `v`. -/
def State.set (s : State) (f : Fld) (v : Nat) (i : Nat := 0) (j : Nat := 0) : State :=
  s.wrA (f.adr i j) (putBits (s.rdA (f.adr i j)) f.hi f.lo v)

/-- Whether a one-bit field reads 1. -/
def State.flag (s : State) (f : Fld) (i : Nat := 0) (j : Nat := 0) : Bool := s.get f i j == 1

/-- `s` with `n` added to counter field `f`, which saturates. -/
def State.count (s : State) (f : Fld) (i : Nat := 0) (j : Nat := 0) (n : Nat := 1) : State :=
  s.set f (satAdd (f.hi + 1 - f.lo) (s.get f i j) n) i j

/-- `s` with `n` added to counter field `f`, which wraps. -/
def State.wrapAdd (s : State) (f : Fld) (n : Nat) (i : Nat := 0) (j : Nat := 0) : State :=
  s.set f (s.get f i j + n) i j

/-- `s` with every register from address `lo` up to `hi` (exclusive) at its reset word. -/
def State.clearRegs (s : State) (lo hi : Nat) : State :=
  { s with regs := s.regs.filter (fun e => e.1 < lo || hi ≤ e.1) }

/-! ### The time base as others read it -/

/-- 2^32: the time base counts in 2^-32 ns (R159). -/
def subNs : Nat := 2 ^ 32

/-- The time base in nanoseconds. -/
def State.nowNs (s : State) : Nat := s.now / subNs

/-- The short form of an instant in ns (R162): the low 34 bits of the seconds above 30 bits of nanoseconds. -/
def shortForm (ns : Nat) : Nat := ns / 1000000000 % 2 ^ 34 * 2 ^ 30 + ns % 1000000000

/-- Whether tags taken now would carry `TIMEUNSYNC` (R166, R719): set as well while `CLK_TIME` is in reset. -/
def State.unsync (s : State) : Bool := !s.clk.timeUp || s.flag TIM_STAT.UNSYNC

/-- The short form `t` as nanoseconds modulo 2^34 s (R162). -/
def shortNs (t : Nat) : Nat := t / 2 ^ 30 * 1000000000 + t % 2 ^ 30

/-- The network time in full of the short-form instant `t`: the one nearest to the present (R162). -/
def fullNs (s : State) (t : Nat) : Nat :=
  let span := 2 ^ 34 * 1000000000
  let d := (span - t % span + s.nowNs % span) % span
  if 2 * d ≤ span then s.nowNs - d else s.nowNs + (span - d)

/-- SERVICE is in effect. -/
def inService (s : State) : Bool := s.get GLB_MODESTAT.CUR == 7 && s.get GLB_MODESTAT.PHASE == 0

/-- A value that the spec leaves open: the next of the free values (log entry 5). -/
def State.free (s : State) (w : Nat) : Nat × State :=
  ((Sys2Proof.Config.freeValue s.freeCount).toNat % 2 ^ w, { s with freeCount := s.freeCount + 1 })

/-! ### Firing -/

/-- `s` with producer `p` fired on the present tick (R424). -/
def State.fire (s : State) (p : Nat) : State := { s with fired := s.fired ++ [⟨p, s.now, 0⟩] }

/-- `s` with producer `p` fired, its tick at `t` and its flags `fl`. -/
def State.fireAt (s : State) (p t fl : Nat) : State := { s with fired := s.fired ++ [⟨p, t, fl⟩] }

/-- While EXTEST, HIGHZ or CLAMP is the TAP's instruction, the chain or the high-impedance state owns the pins (R679). -/
def tapOwns (s : State) : Bool := s.jtag.ir == 0 || s.jtag.ir == 8 || s.jtag.ir == 9

/-- What leaves the grabber over PCI Express, which R679 does not cut off. -/
def Emission.onPcie (e : Emission) : Bool :=
  match e with
  | .cfgReply _ | .memWrite _ _ _ | .memRead _ _ _ | .message _ _ | .completion _ _ | .readData _ _ => true
  | _ => false

/-- `s` with the emission `e` sent; none of the functional logic's other pin effects leaves the package while the chain
owns the pins (R679). -/
def State.emit (s : State) (e : Emission) : State :=
  if tapOwns s && !e.onPcie then s else { s with sent := s.sent ++ [e] }

/-! ### The error log (chapter 22) -/

/-- The codes of severity info (R730). -/
def infoCodes : List Nat := [0x0102, 0x0122, 0x0203, 0x0303, 0x0403, 0x0406, 0x040B, 0x0508, 0x0604, 0x060E, 0x0708,
  0x0907, 0x0A04, 0x0D08, 0x0E02, 0x0E04, 0x0E0B, 0x0F04, 0x0F07, 0x0F08, 0x1002, 0x1003, 0x1005, 0x100B, 0x100C, 0x1104]

/-- The codes of severity error (R730). -/
def errorCodes : List Nat := [0x0123, 0x0201, 0x0206, 0x0209, 0x0302, 0x0304, 0x0305, 0x0307, 0x0308, 0x030C, 0x0405,
  0x0407, 0x0502, 0x0503, 0x0505, 0x0601, 0x0701, 0x0801, 0x0808, 0x0904, 0x0A03, 0x0C03, 0x0C05, 0x0D02, 0x0D03,
  0x0D04, 0x0D0A, 0x0E01, 0x0E05, 0x0E07, 0x0E08, 0x0E0C, 0x0E0E, 0x0F03, 0x0F05, 0x1001, 0x1008, 0x1102, 0x1103, 0x1106]

/-- The codes of severity fatal (R730). -/
def fatalCodes : List Nat := [0x0202, 0x020B, 0x0309]

/-- The severity of an error code: 0 info, 1 warning, 2 error, 3 fatal (R718, R730). -/
def sevOf (code : Nat) : Nat :=
  if infoCodes.contains code then 0 else if errorCodes.contains code then 2
  else if fatalCodes.contains code then 3 else 1

/-- The eight words of an error record (R718, R719). -/
def errWords (s : State) (code seq : Nat) (ds : List Nat) : List Nat :=
  let t := if s.clk.timeUp then shortForm s.nowNs else 0
  [t % 2 ^ 32, t / 2 ^ 32, code + code / 256 * 2 ^ 16 + (sevOf code + b2n s.unsync * 128) * 2 ^ 24, seq,
    ds.getD 0 0, ds.getD 1 0, ds.getD 2 0, ds.getD 3 0]

/-- `s` with the words `ws` written at address `a` and the addresses above it. -/
def State.wrWords (s : State) (a : Nat) (ws : List Nat) : State :=
  match ws with
  | [] => s
  | w :: t => (s.wrA a w).wrWords (a + 4) t

/-- `s` with one record stored (R721, R725), whatever it overwrites. -/
def storeRec (s : State) (code : Nat) (ds : List Nat) : State :=
  let seq := s.get ERR_WCNT.COUNT
  let ws := errWords s code seq ds
  let s1 := (s.wrWords (0xF01000 + 32 * (seq % 256)) ws).set ERR_WCNT.COUNT (seq + 1)
  let s2 := { s1 with err := { s1.err with held := min 256 (s1.err.held + 1) } }
  if 2 ≤ sevOf code && !s2.flag ERR_FIRSTV.VALID then (s2.wrWords 0xF00200 ws).set ERR_FIRSTV.VALID 1 else s2

/-- Whether the next record overwrites one that the driver has not read (R722). -/
def overwritesUnread (s : State) : Bool :=
  s.err.held == 256 &&
    (2 ^ 32 - 256 + s.get ERR_WCNT.COUNT + (2 ^ 32 - s.get ERR_RCNT.COUNT)) % 2 ^ 32 < 2 ^ 31

/-- The count, the producers and the storing of one raised error (R721-R725), with no limit applied. -/
def takeError (s : State) (code : Nat) (ds : List Nat) (full : Bool) : State :=
  let u := code / 256
  let s1 := ((s.count ERR_UNITCNT.COUNT (u - 1)).fire 0x3E0).fire (0x3E0 + u)
  if sevOf code < s1.get ERR_CTL.MINSEV then s1.count ERR_FILT.COUNT
  else if full then
    { s1.count ERR_DROP.COUNT with err := { s1.err with dropRun := s1.err.dropRun + 1 } }
  else storeRec s1 code ds

/-- One raised error (R721-R725): the record, and the record 0x1201 that the first overwrite of a run adds (R722). -/
def logOne (s : State) (code : Nat) (ds : List Nat) : State :=
  let isOver := overwritesUnread s && !(sevOf code < s.get ERR_CTL.MINSEV)
  let lostSeq := (2 ^ 32 - 256 + s.get ERR_WCNT.COUNT) % 2 ^ 32
  let s1 := takeError s code ds false
  if isOver then
    let s2 := s1.count ERR_LOST.COUNT
    if tget false s2.runs 0x12010000 then s2
    else
      let s3 := { s2 with runs := tput false s2.runs 0x12010000 true }
      let over2 := overwritesUnread s3 && !(1 < s3.get ERR_CTL.MINSEV)
      let s4 := takeError s3 0x1201 [lostSeq] false
      if over2 then s4.count ERR_LOST.COUNT else s4
  else s1

/-- Log a raised error: when records were discarded before it because the input FIFO was full, 0x1202 comes first, since
space has returned (R723). -/
def State.log (s : State) (code : Nat) (ds : List Nat := []) : State :=
  if s.err.dropRun == 0 then logOne s code ds
  else logOne (logOne { s with err := { s.err with dropRun := 0 } } 0x1202 [s.err.dropRun]) code ds

/-- The key of a rate limit: one error code in one scope (R726). -/
def limKey (code scope : Nat) : Nat := code * 2 ^ 16 + scope

/-- Log `code` unless it has been logged for `scope` in the present run (R726). -/
def State.logRun (s : State) (code scope : Nat) (ds : List Nat := []) : State :=
  if tget false s.runs (limKey code scope) then s
  else ({ s with runs := tput false s.runs (limKey code scope) true }).log code ds

/-- The run of `code` in `scope` ends. -/
def State.endRun (s : State) (code scope : Nat) : State :=
  { s with runs := tput false s.runs (limKey code scope) false }

/-- Log `code` unless it was logged for `scope` less than one second ago (R726). The stamp holds the time after the
record plus 1, so that 0 means never. -/
def State.logSec (s : State) (code scope : Nat) (ds : List Nat := []) : State :=
  let last := tget 0 s.stamps (limKey code scope)
  if last ≠ 0 && s.elapsed + 1 < last + 1000000000 then s
  else ({ s with stamps := tput 0 s.stamps (limKey code scope) (s.elapsed + 1) }).log code ds

end Sys2Proof.Machine
end

