-- ==== Sys2Proof/Machine/Consumers.lean ====
section
/-! DEFINITION. Consumer inputs of the beat matrix (R429, R438-R440): busy bits, held events and tag latches, as the
owning units use them. -/

namespace Sys2Proof.Machine

/-- The hidden state of consumer `i`. -/
def State.con (s : State) (i : Nat) : ConSt := tget {} s.btm.cons i

/-- `s` with the hidden state of consumer `i` replaced. -/
def State.setCon (s : State) (i : Nat) (u : ConSt) : State :=
  { s with btm := { s.btm with cons := tput {} s.btm.cons i u } }

/-- Whether consumer `i` is busy (R438). -/
def conBusy (s : State) (i : Nat) : Bool := s.flag BTM_CSEL.BUSY i

/-- Consumer `i` is busy, or idle, from now on (R438). -/
def setBusy (i : Nat) (b : Bool) (s : State) : State := s.set BTM_CSEL.BUSY (b2n b) i

/-- Discard the event that consumer `i` holds (R441). -/
def dropHeld (i : Nat) (s : State) : State :=
  (s.setCon i { s.con i with held := none }).set BTM_CSEL.PENDING 0 i

/-- Count `n` discarded trigger events (R117, R121, R280). -/
def countDropped (n : Nat) (s : State) : State := s.count GLB_TRUNCCNT.DROPPED 0 0 n

end Sys2Proof.Machine
end

