-- ==== Sys2Proof/Machine/Gate.lean ====
section
/-! DEFINITION. What every register write passes before it acts: the core reset and early-access rules (R98, R550), absent
and reserved space (R141, R142), the expert drop (R152), and the access codes of R16. -/

namespace Sys2Proof.Machine

/-- Address `a` lies in `[lo, hi)`. -/
def within (a lo hi : Nat) : Bool := lo ≤ a && a < hi

/-- Consumer inputs whose `BTM_CSEL` elements are absent on the LVG-16E (R456). -/
def cselAbsentE (i : Nat) : Bool :=
  i == 0x41 || within i 0x50 0x58 || within i 0x5C 0x60 || within i 0x60 0x64 || within i 0x74 0x78 ||
    within i 0x7C 0x80 || within i 0x84 0x88 || within i 0xE0 0x100 || within i 0x140 0x180 || within i 0x190 0x1A0

/-- Absent instances and array elements of the LVG-16E (R4, R5, R456). -/
def absentE (a : Nat) : Bool :=
  within a 0x220000 0x240000 || within a 0x310000 0x320000 || within a 0x3C0000 0x400000 ||
    within a 0x508000 0x510000 || within a 0x510010 0x510020 || within a 0x510180 0x510200 ||
    within a 0x603100 0x603200 || (within a 0x602000 0x602800 && cselAbsentE ((a - 0x602000) / 4)) ||
    within a 0x680180 0x680200 || within a 0x680220 0x680240 || within a 0x680380 0x680400 ||
    a == 0x680500 || within a 0x680600 0x680680 || within a 0xE10000 0xE20000

/-- What is absent on the variants without `VEN` (R3): the window, its map entries, its consumers and its clock. -/
def absentVen (a : Nat) : Bool :=
  within a 0x801800 0x801880 || within a 0x602380 0x602400 || a == 0x20014 || a == 0x20130

/-- Detail 1 of error 0x0101 for a write to address `a` (R142): 0 absent unit, 1 absent instance or element, 2 unallocated;
none where something stands. -/
def absentAt (v : Variant) (a : Nat) : Option Nat :=
  match unitAt a with
  | none => some 2
  | some u =>
    if u == 15 && v != .f then some 0
    else if (v != .f && absentVen a) || (v == .e && absentE a) then some 1
    else none

/-- Count one write to absent space (R142). -/
def countAbsent (a kind : Nat) (s : State) : State :=
  let s1 := s.count GLB_ABSENTWR.COUNT
  if s.get GLB_ABSENTWR.COUNT == 0 then (s1.set GLB_ABSENTADR.ADDR a).log 0x0101 [a, kind] else s1

/-- A BAR2 or BAR0 write of the host is discarded by R550. -/
def countInReset (s : State) : State := s.count HBR_RSTACC.COUNT

/-- A write is discarded by R98, before `CFG_STATUS.DONE` = 1. -/
def countEarly (s : State) : State :=
  let s1 := s.count CFG_EARLYWR.COUNT
  if s.cfg.earlyLogged then s1 else ({ s1 with cfg := { s1.cfg with earlyLogged := true } }).log 0x020A

/-- The level of unit `u`: the EXPERT bit of its `UNIT_LEVEL` register (R137). -/
def unitExpert (s : State) (u : Nat) : Bool := bitAt (s.rdA (unitBase u + 4)) 0

/-- The writes to unit `u` wait for its change of level (R148). -/
def levelWaits (s : State) (u : Nat) : Bool := s.glb.levelWait.contains u

/-- A write of `v` to BAR0 address `a` that has reached the core: absent space (R142), a change of level under way (R148),
or `op`. -/
def coreGate (a v : Nat) (op : State → State) (s : State) : State :=
  match absentAt s.fuses.variant a with
  | some k => countAbsent a k s
  | none =>
    let u := (unitAt a).getD 0
    if levelWaits s u then { s with glb := { s.glb with held := s.glb.held ++ [HeldWrite.mk u a v] } }
    else op s

/-- Count one expert value of unit `u` dropped at address `a` (R152). -/
def countXdrop (a u : Nat) (s : State) : State :=
  let s1 := ((s.count GLB_XDROP.COUNT).set GLB_XDROP.UNIT u).set GLB_XDROPADR.ADDR a
  if s.get GLB_XDROP.COUNT == 0 then s1.log 0x0102 [a, u] else s1

/-- The expert drop of R152 for a write of `v` to address `a`: counted when an RWX bit written differs from the bit held
while the unit is at the basic level. -/
def expertDrop (a v : Nat) (s : State) : State :=
  match rowAt a, unitAt a with
  | some (r, _, _), some u =>
    if !unitExpert s u && (v &&& r.rwx) != (s.rdA a &&& r.rwx) then countXdrop a u s else s
  | _, _ => s

/-- The word that a write of `v` by the access codes of R16 leaves in the register `r` of unit `u` that held `old`. -/
def codedWord (r : RegRow) (expert : Bool) (old v : Nat) : Nat :=
  let w := (if expert then r.rw ||| r.rwx else r.rw) &&& (2 ^ 32 - 1)
  let kept := old &&& (2 ^ 32 - 1 - w)
  (v &&& w ||| kept) &&& (2 ^ 32 - 1 - (v &&& r.w1c))

/-- A write of `v` to the register at `a` by its access codes (R16, R141, R152). -/
def codedWrite (a v : Nat) (s : State) : State :=
  match rowAt a with
  | none => s
  | some (r, _, _) =>
    let u := (unitAt a).getD 0
    (expertDrop a v s).wrA a (codedWord r (unitExpert s u) (s.rdA a) v)

/-- Whether a write to address `a` touches an RWB field (R145). -/
def touchesBasic (a : Nat) : Bool :=
  match rowAt a with
  | some (r, _, _) => r.rwb != 0
  | none => false

end Sys2Proof.Machine
end

