-- ==== Sys2Proof/Machine/Beats.lean ====
section
/-! DEFINITION. Beats, producers and consumers as chapter 13 numbers them, asynchronous beats (R434-R437), asynchronous
chime cells (R451), and the derived fields of the cells (R458). -/

namespace Sys2Proof.Machine

/-! ### Numbers (R426, R429) -/

/-- A `PIN_*` producer (R426). -/
def pinProducer (p : Nat) : Bool := 0x300 ≤ p && p ≤ 0x308

/-- Chime cell `c` is there (R456). -/
def cellThere (s : State) (c : Nat) : Bool := c < 16 || (c < 32 && s.fuses.variant != .e)

/-- Cell `c` is an asynchronous cell that is enabled (R451). -/
def cellAsync (s : State) (c : Nat) : Bool := cellThere s c && s.flag BTM_CELL0.EN c && s.flag BTM_CELL0.ASYNC c

/-- Producer `p` is pin-level: a pin or the `CHIME` of an asynchronous cell (R426, R451). -/
def pinLevelProducer (s : State) (p : Nat) : Bool :=
  pinProducer p || (0x1C0 ≤ p && p ≤ 0x1DF && cellAsync s (p - 0x1C0))

/-- A consumer number that R429 assigns. -/
def consumerThere (i : Nat) : Bool :=
  i ≤ 0x41 || (0x48 ≤ i && i ≤ 0x63) || (0x68 ≤ i && i ≤ 0x8D) || (0x90 ≤ i && i ≤ 0x19F) || (0x1A0 ≤ i && i ≤ 0x1AF) ||
    (0x1C0 ≤ i && i ≤ 0x1FF)

/-- The consumers whose PEND is programmable (R429). -/
def pendFree (i : Nat) : Bool :=
  i ≤ 0x41 || (0x48 ≤ i && i ≤ 0x5F) || (0x90 ≤ i && i ≤ 0xDF) || (0x1A0 ≤ i && i ≤ 0x1AF) || (0x1C0 ≤ i && i ≤ 0x1FF)

/-- The beat that consumer `i` selects (R424). -/
def beatOf (s : State) (i : Nat) : Option Nat := if s.flag BTM_CSEL.EN i then some (s.get BTM_CSEL.BEAT i) else none

/-- The consumers that select something, in rising order. -/
def selecting (s : State) : List Nat :=
  (s.regs.filter (fun e => within e.1 0x602000 0x602800 && bitAt e.2.toNat 31)).map (fun e => (e.1 - 0x602000) / 4)

/-- The beats whose source is producer `p`, not `BTM_FIRE`, in rising order. -/
def beatsFrom (s : State) (p : Nat) : List Nat :=
  if p == 0 then []
  else (s.regs.filter (fun e => within e.1 0x601000 0x601400 && e.2.toNat % 1024 == p)).map (fun e => (e.1 - 0x601000) / 4)

/-! ### Asynchronous levels (R434-R436, R451) -/

/-- The level of pin producer `p`. -/
def pinLevel (s : State) (p : Nat) : Bool := bitAt s.btm.pins (p - 0x300)

/-- The level of input `j` of asynchronous cell `c`: a pin on an asynchronous beat, else 0 (R451). -/
def asyncInput (s : State) (c j : Nat) : Bool :=
  match beatOf s (0x100 + 4 * c + j) with
  | some b => s.flag BTM_BEAT.ASYNC b && pinProducer (s.get BTM_BEAT.SRC b) && pinLevel s (s.get BTM_BEAT.SRC b)
  | none => false

/-- Whether input `j` of asynchronous cell `c` selects a beat that it cannot take (R451). -/
def badInput (s : State) (c j : Nat) : Bool :=
  match beatOf s (0x100 + 4 * c + j) with
  | some b => !(s.flag BTM_BEAT.ASYNC b && pinProducer (s.get BTM_BEAT.SRC b))
  | none => false

/-- The table index of four input values (R447). -/
def tableIndex (x : Nat → Bool) : Nat := b2n (x 0) + 2 * b2n (x 1) + 4 * b2n (x 2) + 8 * b2n (x 3)

/-- The level of pin-level producer `p` (R434, R451). -/
def prodLevel (s : State) (p : Nat) : Bool :=
  if pinProducer p then pinLevel s p
  else cellAsync s (p - 0x1C0) &&
    bitAt (s.get BTM_CELL1.TRUTH (p - 0x1C0)) (tableIndex (asyncInput s (p - 0x1C0)))

/-- Consumer `i` is pin-level: an output, or an input of an asynchronous cell (R434). -/
def pinConsumer (s : State) (i : Nat) : Bool :=
  (0x48 ≤ i && i ≤ 0x5F) || (0x100 ≤ i && i ≤ 0x17F && cellAsync s ((i - 0x100) / 4))

/-- Beat `b` and consumer `i` form an eligible pair (R434). -/
def eligiblePair (s : State) (b i : Nat) : Bool :=
  s.flag BTM_BEAT.ASYNC b && pinLevelProducer s (s.get BTM_BEAT.SRC b) && pinConsumer s i

/-- The level that an asynchronous beat gives consumer `i`, when it forms an eligible pair with it (R436). -/
def asyncLevel (s : State) (i : Nat) : Option Bool :=
  match beatOf s i with
  | some b => if eligiblePair s b i then some (prodLevel s (s.get BTM_BEAT.SRC b)) else none
  | none => none

/-- Whether beat `b` is mixed (R435). -/
def isMixed (s : State) (b : Nat) : Bool :=
  s.flag BTM_BEAT.ASYNC b && (!pinLevelProducer s (s.get BTM_BEAT.SRC b) ||
    (selecting s).any (fun i => s.get BTM_CSEL.BEAT i == b && !eligiblePair s b i))

/-- The beats that are or may be mixed: those with `ASYNC`, and those marked. -/
def mixedCandidates (s : State) : List Nat :=
  (List.range 256).filter (fun b =>
    (tget 0 s.regs (0x601000 + 4 * b)).toNat / 2 ^ 31 == 1 || bitAt (tget 0 s.regs (0x6001C0 + 4 * (b / 32))).toNat (b % 32))

/-- The cells that are enabled as asynchronous ones, or that are marked with `BADIN`. -/
def badinCandidates (s : State) : List Nat :=
  (List.range 32).filter (fun c =>
    bitsOf (tget 0 s.regs (0x603000 + 16 * c)).toNat 31 30 == 3 || bitAt (tget 0 s.regs (0x603008 + 16 * c)).toNat 2)

/-- `BTM_MIXED` and `BADIN` follow the selections (R435, R451); each rise is logged. -/
def refreshAsync (s : State) : State :=
  let s1 := (mixedCandidates s).foldl (fun t b =>
    let old := bitAt (t.get BTM_MIXED.MIXED (b / 32)) (b % 32)
    let new := isMixed t b
    if old == new then t
    else
      let t1 := t.set BTM_MIXED.MIXED (putBits (t.get BTM_MIXED.MIXED (b / 32)) (b % 32) (b % 32) (b2n new)) (b / 32)
      if new then t1.log 0x0B02 [b] else t1) s
  (badinCandidates s1).foldl (fun t c =>
    let bad := (List.range 4).find? (fun j => cellAsync t c && badInput t c j)
    if bad.isSome == t.flag BTM_CELL2.BADIN c then t
    else match bad with
      | some j => (t.set BTM_CELL2.BADIN 1 c).log 0x0B03 [c, j]
      | none => t.set BTM_CELL2.BADIN 0 c) s1

/-! ### Derivation (R458) -/

/-- The derived `TRUTH` for FUNC `f` and USE `u`. -/
def cellTruth (f u : Nat) : Nat :=
  let bit := fun x : Nat => match f with
    | 1 => (x &&& u) != 0
    | 2 => (x &&& u) == u && u != 0
    | 3 => bitAt x 0 && bitAt x 1
    | 4 => bitAt x 0 && !bitAt x 1
    | _ => false
  ((List.range 16).map (fun x => b2n (bit x) * 2 ^ x)).foldl (· + ·) 0

/-- The derived `INMODE` for FUNC `f` and USE `u`. -/
def cellInmode (f u : Nat) : Nat :=
  match f with
  | 2 => ((List.range 4).map (fun j => 2 * b2n (bitAt u j) * 4 ^ j)).foldl (· + ·) 0
  | 3 => 4
  | 4 => 4
  | _ => 0

/-- The derived fields of cell `c`. -/
def deriveCell (c : Nat) (s : State) : State :=
  let f := s.get BTM_CELL0.FUNC c
  let u := s.get BTM_CELL0.USE c
  (s.set BTM_CELL1.TRUTH (cellTruth f u) c).set BTM_CELL1.INMODE (cellInmode f u) c

/-- Every derived field of `BTM`. -/
def deriveBtm (s : State) : State := (List.range 32).foldl (fun t c => if cellThere t c then deriveCell c t else t) s

end Sys2Proof.Machine
end

