-- ==== Sys2Proof/Machine/Bwr.lean ====
section
/-! DEFINITION. The Bellwire chassis bus (chapter 19), frame by frame: requests, strikes and arbitration, the MARK, and the
recovery of a stuck bus. The commands bring what the lines carry; bits and cycles are left out (log entry 60). -/

namespace Sys2Proof.Machine

/-! ### Frames -/

/-- Header byte 0 and 1 of a frame (R637). -/
def bwHeader (prio bcast dst cmd len : Nat) : List Nat :=
  [prio % 8 * 32 + bcast % 2 * 16 + dst % 32 / 2, dst % 2 * 128 + cmd % 8 * 16 + len % 16]

/-- A frame's bytes with the CRC of R639. -/
def bwFrame (bytes : List Nat) : List Nat := bytes ++ [crc8 bytes]

/-- PRIO of a frame. -/
def bwPrio (bytes : List Nat) : Nat := byteAt bytes 0 / 32

/-- Whether a frame is a broadcast. -/
def bwBcast (bytes : List Nat) : Bool := bitAt (byteAt bytes 0) 4

/-- DST of a frame. -/
def bwDst (bytes : List Nat) : Nat := byteAt bytes 0 % 16 * 2 + byteAt bytes 1 / 128

/-- CMD of a frame. -/
def bwCmd (bytes : List Nat) : Nat := byteAt bytes 1 / 16 % 8

/-- LEN of a frame. -/
def bwLen (bytes : List Nat) : Nat := byteAt bytes 1 % 16

/-- CMD and LEN match R638. -/
def bwCmdOk (cmd len : Nat) : Bool :=
  match cmd with
  | 0 => 1 ≤ len && len ≤ 4
  | 1 => 1 ≤ len && len ≤ 8
  | 2 => len == 0
  | _ => false

/-- The state of the controller (R649). -/
def bwState (s : State) : Nat := s.get BWR_STAT.STATE

/-- The controller enters state `n` (R649). -/
def setBwState (n : Nat) (s : State) : State := s.set BWR_STAT.STATE n

/-- The filtered levels of `BW_CLK` and `BW_DAT` as the commands show them. -/
def setBwLines (clk dat : Nat) (s : State) : State := (s.set BWR_STAT.CLK clk).set BWR_STAT.DAT dat

/-! ### Requests (R645, R647) -/

/-- Put a request in the set of those that wait. -/
def bwAdd (r : BwReq) (s : State) : State := { s with bwr := { s.bwr with reqs := s.bwr.reqs ++ [r] } }

/-- Remove the request of source `k`. -/
def bwRemove (k : Nat) (s : State) : State :=
  { s with bwr := { s.bwr with reqs := s.bwr.reqs.filter (fun r => r.src != k) } }

/-- Consumer `BWR_SEND[k]` accepts an event: it requests its EVENT frame (R645). -/
def bwSend (k : Nat) (s : State) : State :=
  bwAdd {
    src := k
    bytes := bwHeader (s.get BWR_SCFG.PRIO k) (s.get BWR_SCFG.BCAST k) (s.get BWR_SCFG.DST k) 0 1 ++
      [s.get BWR_SCFG.NUM k] } s

/-- `r` goes before `q` (R645): the slot check first, then the lowest PRIO, then the lowest source. -/
def bwBefore (r q : BwReq) : Bool :=
  r.src == 17 || (q.src != 17 &&
    (bwPrio r.bytes < bwPrio q.bytes || (bwPrio r.bytes == bwPrio q.bytes && r.src < q.src)))

/-- The request that is sent next. -/
def bwNext (s : State) : Option BwReq :=
  s.bwr.reqs.foldl (fun m r => match m with
    | none => some r
    | some q => if bwBefore r q then some r else some q) none

/-- Source `k` is no longer busy, and a register command reports `result`. -/
def bwFree (k result : Nat) (s : State) : State :=
  if k < 16 then setBusy (0xD0 + k) false s
  else if k == 16 then (s.set BWR_TXCTL.BUSY 0).set BWR_TXCTL.RESULT result
  else s

/-- The frame of source `k` has completed (R647). -/
def bwDone (k : Nat) (s : State) : State :=
  if k == 17 then bwRemove 17 s else (bwFree k 0 (bwRemove k s)).count BWR_TXCNT.SENT

/-- The frame of source `k` has failed: 1 NACK, 2 TIMEOUT (R647). -/
def bwFail (k cause : Nat) (s : State) : State :=
  if k == 17 then bwRemove 17 s
  else ((bwFree k cause (bwRemove k s)).count BWR_ERRCNT.NACK).log 0x1101 [k, cause]

/-- The frame of `r` has been sent without success: it is sent again up to RETRY times (R647). -/
def bwAgain (r : BwReq) (s : State) : State :=
  if !(s.bwr.reqs.any (fun q => q.src == r.src)) then s
  else if r.src == 17 || s.get BWR_TIM3.RETRY ≤ r.tries then bwFail r.src 1 s
  else { s with bwr := { s.bwr with reqs := s.bwr.reqs.map (fun q =>
    if q.src == r.src then { q with tries := q.tries + 1 } else q) } }

/-! ### The MARK (R640-R642, R646-R648) -/

/-- Event `n` of a delivered EVENT frame fires its producers (R642). -/
def bwDeliver (n : Nat) (s : State) : State :=
  (List.range 16).foldl (fun t j =>
    if t.flag BWR_EMAP.EN j && t.get BWR_EMAP.NUM j == n then t.fire (0x2F0 + j) else t) s

/-- `BWR_RX` shows the head of the receive FIFO (R646). -/
def showRx (s : State) : State :=
  let s1 := s.set BWR_RXSTAT.COUNT s.bwr.fifo.length
  match s.bwr.fifo with
  | [] => ((s1.wrA BWR_RX0.reg.base 0).wrA BWR_RX1.reg.base 0).wrA BWR_RX2.reg.base 0
  | (b, d) :: _ =>
    ((s1.wrA BWR_RX0.reg.base (2 ^ 31 + b2n b * 2 ^ 16 + d.length * 2 ^ 8)).wrA BWR_RX1.reg.base
      (leNat (sliceOf d 0 4))).wrA BWR_RX2.reg.base (leNat (sliceOf d 4 4))

/-- A frame `f`, with its CRC, as a receiver judges it (R640): whether it is accepted, and the state with what is counted. -/
def bwJudge (f : List Nat) (s : State) : Bool × State :=
  let n := bwLen f
  if f.length != n + 3 || crc8 (f.take (n + 2)) != byteAt f (n + 2) then
    (false, (s.count BWR_ERRCNT.CRC).logSec 0x1105 0)
  else if !(bwBcast f || bwDst f == s.get BWR_CFG.SLOT) || !bwCmdOk (bwCmd f) n || (bwBcast f && bwDst f != 0) then
    (false, s)
  else if bwCmd f == 1 && 16 ≤ s.bwr.fifo.length then
    (false, (s.count BWR_RXSTAT.OVR).logRun 0x1107 0)
  else (true, s)

/-- What an accepted frame does at its MARK (R642, R646). -/
def bwAccept (f : List Nat) (s : State) : State :=
  let s1 := s.count BWR_RXCNT.COUNT
  let d := sliceOf f 2 (bwLen f)
  match bwCmd f with
  | 0 => bwDeliver (byteAt d 0) s1
  | 1 => showRx ({ s1 with bwr := { s1.bwr with fifo := s1.bwr.fifo ++ [(bwBcast f, d)] } }.endRun 0x1107 0)
  | _ => s1

/-- The outcome for the sender of `r` (R647, R648, R650): whether the ACK slot read low. -/
def bwSettle (r : BwReq) (ack : Bool) (s : State) : State :=
  let s1 := if bwBcast r.bytes && bwCmd r.bytes == 0 then bwDeliver (byteAt r.bytes 2) s else s
  if r.src == 17 then
    let s2 := bwRemove 17 s1
    if ack then (s2.set BWR_STAT.DUPSLOT 1).log 0x1106 [s.get BWR_CFG.SLOT] else s2
  else if !(s1.bwr.reqs.any (fun q => q.src == r.src)) then s1
  else if ack || bwBcast r.bytes then bwDone r.src s1
  else bwAgain r s1

/-- The frame on the bus is abandoned (R634, R636, R653): it delivers nothing, and its sender sends it again. -/
def bwAbandon (quiet : Bool) (s : State) : State :=
  let cur := s.bwr.cur
  let s1 : State := { s with bwr := { s.bwr with cur := none } }
  let s2 := setBwState 1 s1
  let s3 := if quiet then s2 else s2.logSec 0x1108 0
  match cur with
  | some r => bwAgain r s3
  | none => s3

/-- A frame reaches its MARK, or its tail is sampled high (R636). `f` is what the lines carried from PRIO through CRC, which
a receiver needs; `ack` is the level of the ACK slot as another node drove it. -/
def frameMark (f : List Nat) (ack tail : Bool) (s : State) : State :=
  if bwState s == 3 then
    if !tail then bwAbandon false s
    else match s.bwr.cur with
      | some r => bwSettle r ack (setBwLines 1 1 (setBwState 2 { s with bwr := { s.bwr with cur := none } }))
      | none => setBwLines 1 1 (setBwState 2 s)
  else if bwState s == 4 then
    let (ok, s1) := bwJudge f s
    let s2 := if ok then s1.emit (.bellwire 1 []) else s1
    if !tail then bwAbandon false s2
    else
      let s3 := setBwLines 1 1 (setBwState 2 s2)
      if ok then bwAccept f s3 else s3
  else s

/-! ### Strikes and arbitration (R633-R635, R643, R644) -/

/-- Whether frame `own` loses against a frame `other` that another node sends at the same time (R643, R644): at the first
bit in which they differ it has the 1. -/
def bwLoses (own other : List Nat) : Bool :=
  match own, other with
  | a :: x, b :: y => if a == b then bwLoses x y else decide (b < a)
  | _, _ => false

/-- The grabber sends `r` against the frame `rival` of another node, [] for none (R643). -/
def bwStart (r : BwReq) (rival : List Nat) (s : State) : State :=
  let s1 := s.emit (.bellwire 0 (bwFrame r.bytes))
  if bwLoses (bwFrame r.bytes) rival then setBwState 4 (s1.count BWR_TXCNT.ARBLOST)
  else setBwState 3 { s1 with bwr := { s1.bwr with cur := some r } }

/-- The grabber drives a strike of its own from idle (R635). -/
def bwStrike (rival : List Nat) (s : State) : State :=
  if bwState s != 2 then s
  else match bwNext s with
    | some r => bwStart r rival (setBwLines 0 1 s)
    | none => s

/-- `BW_CLK` falls from idle (R634, R635): the node joins the strike when it has a request and is in time, else it receives. -/
def strikeSeen (join : Bool) (rival : List Nat) (s : State) : State :=
  let s1 := s.set BWR_STAT.CLK 0
  if bwState s1 != 2 then s1
  else match bwNext s1 with
    | some r => if join then bwStart r rival s1 else setBwState 4 s1
    | none => setBwState 4 s1

/-- Both lines have been high for IDLE cycles (R634, R649, R650, R653). -/
def busIdle (s : State) : State :=
  let s1 := setBwLines 1 1 s
  if bwState s1 == 1 then
    let s2 := setBwState 2 s1
    if s2.bwr.reqs.any (fun r => r.src == 17) then s2
    else bwAdd { src := 17, bytes := bwHeader 7 0 (s2.get BWR_CFG.SLOT) 2 0 } s2
  else if bwState s1 == 4 then bwAbandon false s1
  else s1

/-! ### Recovery (R653) -/

/-- `BW_CLK` has been low for CLKTO cycles. -/
def clkLowTimeout (s : State) : State :=
  let s1 := s.set BWR_STAT.CLK 0
  if bwState s1 == 0 || (bwState s1 == 5 && s1.bwr.striking) then s1
  else (bwAbandon true { s1 with bwr := { s1.bwr with striking := false } }).count BWR_ERRCNT.CLKTO |>.log 0x1102

/-- A reset strike starts. -/
def resetStrike (n : Nat) (s : State) : State :=
  let s1 : State := { s with bwr := { s.bwr with strikes := n, striking := true, retry := false } }
  (setBwLines 0 (s.get BWR_STAT.DAT) (setBwState 5 s1)).emit (.bellwire 2 [])

/-- `BW_DAT` stays low with the clock high for IDLE cycles outside a frame. -/
def busStuck (s : State) : State :=
  let s1 := setBwLines 1 0 s
  if bwState s1 == 1 || bwState s1 == 2 then resetStrike 1 s1 else s1

/-- A reset strike ends. -/
def resetStrikeEnd (s : State) : State :=
  if bwState s == 5 && s.bwr.striking then
    ({ s with bwr := { s.bwr with striking := false } } : State).set BWR_STAT.CLK 1
  else s

/-- The data line is judged IDLE cycles after a reset strike. -/
def recoveryCheck (high : Bool) (s : State) : State :=
  if bwState s == 5 && !s.bwr.striking then
    let s1 := s.set BWR_STAT.DAT (b2n high)
    if high then ((setBwState 2 s1).count BWR_ERRCNT.RECOVER).log 0x1104 [s.bwr.strikes]
    else if s.bwr.strikes < 3 then resetStrike (s.bwr.strikes + 1) s1
    else
      let s2 := (setBwState 2 s1).log 0x1103
      { s2 with bwr := { s2.bwr with retry := true } }
  else s

/-- 10 ms after the third reset strike recovery is tried again. -/
def recoveryRetry (s : State) : State :=
  if s.bwr.retry && (bwState s == 1 || bwState s == 2) then resetStrike 1 s else s

/-! ### Registers (R646, R651, R652) -/

/-- A write of `BWR_TXCTL` (R645); GO while a command is busy is discarded. -/
def txctlWrite (v : Nat) (s : State) : State :=
  let s1 := codedWrite BWR_TXCTL.reg.base v s
  if !bitAt v 30 || s.flag BWR_TXCTL.BUSY then s1
  else
    let n := s1.get BWR_TXCTL.LEN
    if !bwCmdOk (s1.get BWR_TXCTL.CMD) n then s1.set BWR_TXCTL.RESULT 3
    else
      let d := leBytes 4 (s1.get BWR_TXDATA0.DATA) ++ leBytes 4 (s1.get BWR_TXDATA1.DATA)
      bwAdd {
        src := 16
        bytes := bwHeader (s1.get BWR_TXCTL.PRIO) (s1.get BWR_TXCTL.BCAST) (s1.get BWR_TXCTL.DST)
          (s1.get BWR_TXCTL.CMD) n ++ d.take n } ((s1.set BWR_TXCTL.BUSY 1).set BWR_TXCTL.RESULT 0)

/-- A write of `BWR_RXPOP` (R646). -/
def rxPop (s : State) : State := showRx { s with bwr := { s.bwr with fifo := s.bwr.fifo.drop 1 } }

/-- A write of `BWR_CFG` (R649-R651). -/
def bwrCfgWrite (v : Nat) (s : State) : State :=
  let was := s.flag BWR_CFG.EN
  let s1 := codedWrite BWR_CFG.reg.base v s
  let s2 : State := { s1 with bwr := { s1.bwr with cur := none, striking := false, retry := false } }
  if !bitAt v 31 then setBwState 0 { s2 with bwr := { s2.bwr with reqs := s2.bwr.reqs.filter (fun r => r.src != 17) } }
  else if was then setBwState 1 s2
  else setBwState 1 (s2.set BWR_STAT.DUPSLOT 0)

/-- The derived fields of `BWR` (R652); RATE 3 acts as 1. -/
def deriveBwr (s : State) : State :=
  let rate := s.get BWR_CFG.RATE
  let tb := match rate with
    | 0 => 250
    | 2 => 50
    | _ => 100
  let filt := match rate with
    | 0 => 5
    | 2 => 2
    | _ => 3
  ((s.wrA BWR_TIM.reg.base (tb / 2 * 2 ^ 24 + tb / 2 * 2 ^ 16 + tb / 8 * 2 ^ 8 + tb / 4)).wrA BWR_TIM2.reg.base
    (32 * tb * 2 ^ 16 + 4 * tb * 2 ^ 4 + filt)).wrA BWR_TIM3.reg.base (2 * tb * 2 ^ 16 + 3)

/-- A write of `BWR_TIM`, `BWR_TIM2` or `BWR_TIM3`: a value that R652 refuses leaves the fields it names. -/
def bwrTimWrite (a v : Nat) (s : State) : State :=
  let t := codedWrite a v s
  let keep (bad : Bool) (f g : Fld) (u : State) : State := if bad then (u.set f (s.get f)).set g (s.get g) else u
  let bad1 := 3 * t.get BWR_TIM3.TSTRIKE ≤ 4 * t.get BWR_TIM.TLOW
  let t1 := keep bad1 BWR_TIM.TLOW BWR_TIM3.TSTRIKE t
  let bad2 := t1.get BWR_TIM.TLOW ≤ t1.get BWR_TIM.HOLD
  let t2 := keep bad2 BWR_TIM.TLOW BWR_TIM.HOLD t1
  let bad3 := t2.get BWR_TIM.THIGH ≤ t2.get BWR_TIM.SAMPLE
  let t3 := keep bad3 BWR_TIM.THIGH BWR_TIM.SAMPLE t2
  let bad4 := t3.get BWR_TIM2.FILT == 0
  let t4 := keep bad4 BWR_TIM2.FILT BWR_TIM2.FILT t3
  if bad1 || bad2 || bad3 || bad4 then t4.log 0x1109 [a - 0xE80000] else t4

/-- The reset of `BWR` (R71): registers, requests and FIFO clear, the lines are released; `SLOT` reads the straps. -/
def resetBwr (s : State) : State :=
  let s1 := (s.clearRegs 0xE80000 0xF00000).set BWR_CFG.SLOT s.clk.strapSlot
  { s1 with bwr := {} }

def execBusIdle (s : State) : Out := .next (busIdle s)
def execStrikeSeen (join : Bool) (rival : List Byte) (s : State) : Out := .next (strikeSeen join (natBytes rival) s)
def execBwStrike (rival : List Byte) (s : State) : Out := .next (bwStrike (natBytes rival) s)
def execFrameMark (f : List Byte) (ack tail : Bool) (s : State) : Out := .next (frameMark (natBytes f) ack tail s)
def execFramingError (s : State) : Out :=
  .next (if bwState s == 3 || bwState s == 4 then bwAbandon false s else s)
def execClkLowTimeout (s : State) : Out := .next (clkLowTimeout s)
def execBusStuckDetect (s : State) : Out := .next (busStuck s)
def execResetStrikeEnd (s : State) : Out := .next (resetStrikeEnd s)
def execRecoveryCheck (high : Bool) (s : State) : Out := .next (recoveryCheck high s)
def execRecoveryRetry (s : State) : Out := .next (recoveryRetry s)
def execTxTimeout (k : Fin 17) (s : State) : Out :=
  .next (if s.bwr.reqs.any (fun r => r.src == k.val) then bwFail k.val 2 s else s)

end Sys2Proof.Machine
end

