-- ==== Sys2Proof/Machine/Msg.lean ====
section
/-! DEFINITION. Interrupt messages (R543-R547) and the test of whether the bridge may issue requests (R529). -/

namespace Sys2Proof.Machine

/-- The host bridge issues requests only in MASTER (R529), and for its queues not after an internal error (R563). -/
def canMaster (s : State) : Bool := s.get HBR_STAT.STATE == 3 && !s.hbr.deadQueues

/-- Whether the function can send an interrupt message (R543). With MSI-X enabled and Function Mask set the request goes
to the pending bits (R544), so it counts as one that can be taken (log entry 20). -/
def canMessage (s : State) : Bool := canMaster s && (s.hbr.msixEn || s.flag HBR_STAT.MSIEN)

/-! ### Read requests (R524) -/

/-- The lowest request tag and the number of tags of the tag mode in effect (R524). -/
def tagRange (s : State) : Nat × Nat :=
  if s.hbr.tenTag then (256, 768) else if s.hbr.extTag then (0, 256) else (0, 32)

/-- The most reads outstanding (R524, R565): `HBR_RDMAX`, never above the limit of the tag mode. -/
def readLimit (s : State) : Nat := min (s.get HBR_RDMAX.COUNT) (tagRange s).2

/-- A free request tag; none when the limit is reached (R524). -/
def freeTag (s : State) : Option Nat :=
  let (lo, n) := tagRange s
  if readLimit s ≤ s.hbr.reads.length then none
  else ((List.range n).map (fun k => lo + k)).find? (fun t => !(s.hbr.reads.any (fun r => r.tag == t)))

/-- `s` with these reads outstanding, and `HBR_RDOUT` showing their number and its peak. -/
def setReads (rs : List ReadReq) (s : State) : State :=
  let s1 : State := { s with hbr := { s.hbr with reads := rs } }
  let s2 := s1.set HBR_RDOUT.NOW rs.length
  if s2.get HBR_RDOUT.PEAK < rs.length then s2.set HBR_RDOUT.PEAK rs.length else s2

/-- Issue a read of `len` bytes at `a` for queue `q`, or for encoder context `q - 16384`. -/
def issueRead (q slot count a len : Nat) (s : State) : State :=
  match freeTag s with
  | none => s
  | some t => setReads (s.hbr.reads ++ [ReadReq.mk t q slot count]) (s.emit (.memRead t a len))

/-- Entry `v` of the MSI-X table (R545). -/
def State.msixEntry (s : State) (v : Nat) : MsixEntry := tget {} s.hbr.msix v

/-- Send the message of vector `v` by the scheme that is enabled, or set its pending bit (R544, R546). -/
def sendMessage (v : Nat) (s : State) : State :=
  if s.hbr.msixEn then
    let e := s.msixEntry v
    if e.masked || s.hbr.msixMask then { s with hbr := { s.hbr with pba := tput false s.hbr.pba v true } }
    else s.emit (.message e.addr e.data)
  else
    let m := v % 2 ^ s.hbr.msiMme
    if bitAt s.hbr.msiMask m then
      { s with hbr := { s.hbr with msiPend := s.hbr.msiPend ||| 2 ^ m } }
    else s.emit (.message s.hbr.msiAddr (s.hbr.msiData / 2 ^ s.hbr.msiMme * 2 ^ s.hbr.msiMme + m))

/-- Request the message of vector `v` for the source `src` with index `ix` (0 queue, 1 host-notify consumer): sent if it
can be, otherwise held, once for each source (R543). -/
def requestMessage (src ix v : Nat) (s : State) : State :=
  if canMessage s then sendMessage v s
  else if s.hbr.heldMsgs.any (fun h => h.source == src && h.index == ix) then s
  else { s with hbr := { s.hbr with heldMsgs := s.hbr.heldMsgs ++ [⟨src, ix, v⟩] } }

/-- Drop the message held for a source (R455, R513). -/
def dropMessage (src ix : Nat) (s : State) : State :=
  { s with hbr := { s.hbr with heldMsgs := s.hbr.heldMsgs.filter (fun h => !(h.source == src && h.index == ix)) } }

end Sys2Proof.Machine
end

