-- ==== Sys2Proof/Machine/Streams.lean ====
section
/-! DEFINITION. Streams and their trigger classes (R113-R115, R124): which stream is active, its class, and when it is
held. -/

namespace Sys2Proof.Machine

/-- The trigger consumer of stream `st` (R113, R429): that of `CLP` when `CLP_STREAM[st].EN` is set, that of the parallel
port that sources the stream, none when no unit has enabled it. -/
def streamConsumer (s : State) (st : Nat) : Option Nat :=
  if s.flag CLP_STREAM0.EN st then some st
  else if s.flag PAR_STREAM.EN 0 && s.get PAR_STREAM.STREAM 0 == st then some 0x40
  else if s.flag PAR_STREAM.EN 1 && s.get PAR_STREAM.STREAM 1 == st then some 0x41
  else none

/-- A stream is active when the unit that sources it has enabled it (R115). -/
def streamActive (s : State) (st : Nat) : Bool := (streamConsumer s st).isSome

/-- The producer that consumer `i` has selected (R424, R425). -/
def selectedProducer (s : State) (i : Nat) : Option Nat :=
  if s.flag BTM_CSEL.EN i then some (s.get BTM_BEAT.SRC (s.get BTM_CSEL.BEAT i)) else none

/-- The KIND that scheduler entry `e` has in effect (R113, R412): 0 off, 1 TIME, 2 POSITION, 3 ANGLE. -/
def entryKind (s : State) (e : Nat) : Nat := (tget {} s.tws.entries e).kind

/-- The class code of a producer (R113). -/
def producerClass (s : State) (p : Nat) : Nat :=
  if 0x160 ≤ p && p ≤ 0x19F then
    match entryKind s (p - 0x160) with
    | 1 => 1
    | 2 => 2
    | 3 => 4
    | _ => 5
  else if 0x010 ≤ p && p ≤ 0x014 || 0x018 ≤ p && p ≤ 0x01F || 0x2A0 ≤ p && p ≤ 0x2DF then 1
  else if 0x128 ≤ p && p ≤ 0x157 then 2
  else if p == 0x1A0 then 3
  else if p == 0x1A1 || 0x1A4 ≤ p && p ≤ 0x1B3 then 4
  else 5

/-- The class code of stream `st` (R113): 0 FREE when its consumer selects nothing. -/
def streamClass (s : State) (st : Nat) : Nat :=
  match streamConsumer s st with
  | none => 0
  | some i => match selectedProducer s i with
    | none => 0
    | some p => producerClass s p

/-- The capture modes are M1 to M5 (R112). -/
def captureMode (m : Nat) : Bool := 1 ≤ m && m ≤ 5

/-- Whether mode `m` allows class `c` (R114). -/
def classAllowed (m c : Nat) : Bool :=
  captureMode m &&
    match c with
    | 0 => true
    | 1 => m == 2
    | 2 => m == 3
    | 3 => m == 4
    | 4 => m == 5
    | _ => m != 1

/-- The mode in effect (R118). -/
def modeNow (s : State) : Nat := s.get GLB_MODESTAT.CUR

/-- Whether stream `st` is held (R115). -/
def streamHeld (s : State) (st : Nat) : Bool := bitAt (s.get GLB_HELD.STREAMS (st / 32)) (st % 32)

/-- Set or clear the held bit of stream `st`. -/
def setHeld (st : Nat) (b : Bool) (s : State) : State :=
  s.set GLB_HELD.STREAMS (putBits (s.get GLB_HELD.STREAMS (st / 32)) (st % 32) (st % 32) (b2n b)) (st / 32)

/-- An item of KIND FRAME, REGION or LINEBLOCK of stream `st` that is in progress (R119). -/
def itemOf (st : Nat) (it : Item) : Bool := it.stream == st && (it.kind == 1 || it.kind == 2 || it.kind == 3)

/-- Whether an item of stream `st` is in progress (R119): created or on a queue, or a frame of it still in assembly or in
a pipe. -/
def itemInProgress (s : State) (st : Nat) : Bool :=
  s.src.feeds.any (fun f => f.stream == st) || s.pipes.any (fun e => e.2.feed != 0 && e.2.frame.stream == st) ||
  s.que.created.any (itemOf st) ||
    s.que.queues.any (fun e => (match e.2.item with | some it => itemOf st it | none => false) || e.2.waiting.any (itemOf st))

/-- Whether stream `st` may deliver now: a capture mode is in effect and settled, its class is allowed, and it is neither
held nor finishing (R114, R115, R117). -/
def streamOpen (s : State) (st : Nat) : Bool :=
  streamActive s st && s.get GLB_MODESTAT.PHASE == 0 && classAllowed (modeNow s) (streamClass s st) &&
    !streamHeld s st && !s.glb.finishing.contains st && !s.glb.closed.contains st

/-- The check of R115 for stream `st` in a settled capture mode: held at once, marked as finishing while an item is in
progress, or opened again with FIRSTAFTERENABLE (R124). -/
def recheckStream (st : Nat) (s : State) : State :=
  if !(captureMode (modeNow s) && s.get GLB_MODESTAT.PHASE == 0 && streamActive s st) then s
  else
    let fin := s.glb.finishing.filter (· != st)
    if classAllowed (modeNow s) (streamClass s st) then
      if streamHeld s st then
        let s1 := setHeld st false s
        { s1 with glb := { s1.glb with finishing := fin, firstAfter := st :: s1.glb.firstAfter.filter (· != st) } }
      else { s with glb := { s.glb with finishing := fin } }
    else if streamHeld s st then s
    else if itemInProgress s st then { s with glb := { s.glb with finishing := st :: fin } }
    else
      let s1 := setHeld st true { s with glb := { s.glb with finishing := fin } }
      s1.log 0x0122 [st, streamClass s st]

/-- What the end of an item means for its stream (R115): a finishing stream becomes held, or closed during a change of
mode. -/
def settleStream (st : Nat) (s : State) : State :=
  if s.glb.finishing.contains st && !itemInProgress s st then
    if s.get GLB_MODESTAT.PHASE == 0 then recheckStream st s
    else { s with glb := { s.glb with finishing := s.glb.finishing.filter (· != st), closed := st :: s.glb.closed } }
  else s

/-- Whether the next item of stream `st` carries FIRSTAFTERENABLE (R124), and the state once it is taken. -/
def takeFirst (st : Nat) (s : State) : Bool × State :=
  (s.glb.firstAfter.contains st, { s with glb := { s.glb with firstAfter := s.glb.firstAfter.filter (· != st) } })

end Sys2Proof.Machine
end

