-- ==== Sys2Proof/Machine/Que.lean ====
section
/-! DEFINITION. Queues, descriptors, items and frame tags (chapter 15): the shared operations. -/

namespace Sys2Proof.Machine

/-! ### Reading a queue -/

/-- The hidden state of queue `q`. -/
def State.queue (s : State) (q : Nat) : QueueSt := tget {} s.que.queues q

/-- `s` with the hidden state of queue `q` replaced. -/
def State.setQueue (s : State) (q : Nat) (u : QueueSt) : State :=
  { s with que := { s.que with queues := tput {} s.que.queues q u } }

/-- The number of descriptor slots of queue `q` (R493); a size code above 12 acts as 12. -/
def descSlots (s : State) (q : Nat) : Nat := 2 ^ (min 12 (s.get QUE_CTX4.DSIZE q) + 4)

/-- The number of completion slots of queue `q` (R493). -/
def compSlots (s : State) (q : Nat) : Nat := 2 ^ (min 12 (s.get QUE_CTX4.CSIZE q) + 4)

/-- The descriptors available on queue `q` (R494). -/
def descAvail (s : State) (q : Nat) : Nat :=
  let n := descSlots s q
  (s.get QUE_CTX6.PI q + 2 * n - s.get QUE_CTX7.CI q % (2 * n)) % (2 * n)

/-- The state of queue `q`: 0 IDLE, 1 ACTIVE, 2 PAUSED, 3 RESETTING (R511). -/
def queueState (s : State) (q : Nat) : Nat := s.get QUE_CTX9.STATE q

/-- Whether items of this KIND carry a payload (R482). -/
def hasPayload (kind : Nat) : Bool := kind == 1 || kind == 2 || kind == 3 || kind == 5

/-! ### Interrupts of a queue (R516) -/

/-- Issue the message that PENDING tags of queue `q` ask for. -/
def queueMessage (q : Nat) (s : State) : State :=
  (requestMessage 0 q (s.get QUE_CTX4.VECTOR q) s).set QUE_CTX9.PENDING 0 q

/-- Fire `QUE_DONE` for every watch slot that names `q` (R427). -/
def fireQueDone (q : Nat) (s : State) : State :=
  (List.range 64).foldl (fun t k =>
    if s.flag BTM_QWATCH.EN k && s.get BTM_QWATCH.QID k == q then t.fire (0x200 + k) else t) s

/-- The count of tags since the last message, and the message when it is due (R516). -/
def queueInterrupt (q : Nat) (irq : Bool) (s : State) : State :=
  if s.flag QUE_CTX4.IEN q then
    let s1 := s.count QUE_CTX9.PENDING q
    if irq || s1.get QUE_CTX5.MODUS q == 0 || max 1 (s1.get QUE_CTX5.MODCNT q) ≤ s1.get QUE_CTX9.PENDING q
    then queueMessage q s1 else s1
  else s

/-! ### Tags (R498-R501) -/

/-- The 64 bytes of a tag with PHASE as the completion index of `q` gives it. -/
def tagBytes (s : State) (q : Nat) (it : Item) (bytes : Nat) (flags : Nat) : List Nat :=
  let phase := 1 - s.get QUE_CTX8.CWI q / compSlots s q % 2
  let head := leBytes 4 it.seq ++ leBytes 2 (q + phase * 2 ^ 15) ++ [it.stream + it.region * 64, it.kind] ++
    leBytes 2 (if s.flag DRL_NODE.VALID then s.get DRL_NODE.ID else 0) ++ leBytes 2 flags ++ leBytes 4 bytes
  let body := head ++ (it.body ++ List.replicate 44 0).take 44
  body ++ leBytes 4 (crc32c body)

/-- Write the tag `bs` to the next completion slot of `q`, with its counts, producers and interrupt (R496, R505, R516). -/
def writeTag (q : Nat) (bs : List Nat) (irq : Bool) (s : State) : State :=
  let n := compSlots s q
  let cwi := s.get QUE_CTX8.CWI q
  let a := s.get QUE_CTX2.CBASELO q + s.get QUE_CTX3.CBASEHI q * 2 ^ 32 + 64 * (cwi % n)
  let s1 := (s.emit (.memWrite a bs 0)).set QUE_CTX8.CWI ((cwi + 1) % (2 * n)) q
  let s2 := fireQueDone q (s1.wrapAdd QUE_CTX11.TAGS 1 q)
  queueInterrupt q irq s2

/-! ### Descriptor reads (R495) -/

/-- Issue one read of descriptors for queue `q` when it is ACTIVE and fewer than `AHEAD` are read ahead (R495, R507,
R518). -/
def fetchDescs (q : Nat) (s : State) : State :=
  let u := s.queue q
  let n := descSlots s q
  let ci := s.get QUE_CTX7.CI q
  let have_ := u.ready.length + u.reading
  let slot := (ci + have_) % n
  let ahead := max 1 (s.get QUE_BASIC.AHEAD)
  let want := min (min (max 1 (s.get QUE_DMA.FETCH)) (descAvail s q - have_)) (min (ahead - have_) (n - slot))
  if queueState s q == 1 && canMaster s && 0 < want && (freeTag s).isSome then
    let a := s.get QUE_CTX0.DBASELO q + s.get QUE_CTX1.DBASEHI q * 2 ^ 32 + 32 * slot
    (issueRead q slot want a (32 * want) s).setQueue q { u with reading := u.reading + want }
  else s

/-! ### Drops and pauses (R508-R512) -/

/-- What follows the end of item `it`, delivered or not: its event capture is free again, and its stream may become held
(R115, R484). -/
def itemGone (it : Item) (s : State) : State :=
  let s1 := if it.source == 4 then s.set BTM_CSEL.BUSY 0 (0x1A0 + it.src) else s
  if it.kind == 1 || it.kind == 2 || it.kind == 3 then settleStream it.stream s1 else s1

/-- The record of one drop on queue `q` (R508, R509). -/
def noteDrop (q cause : Nat) (it : Item) (s : State) : State :=
  let u := s.queue q
  let run := match u.drop with
    | some d => { d with count := d.count + 1 }
    | none => { cause := cause, seq := it.seq, stream := it.stream, count := 1, time := shortForm s.nowNs }
  ((s.setQueue q { u with drop := some run }).count QUE_CTX10.DROPS q).logSec 0x0D01 q [q, cause, it.stream]

/-- Drop item `it` on queue `q` (R508). -/
def dropItem (q cause : Nat) (it : Item) (s : State) : State := itemGone it (noteDrop q cause it s)

/-- The entry of queue `q` to PAUSED with a reason (R511, R512, R516). -/
def pauseQueue (q reason : Nat) (s : State) : State :=
  let s1 := ((s.set QUE_CTX9.STATE 2 q).set QUE_CTX9.REASON reason q).fire 0x240
  let s2 := s1.set QUE_PSUM.PAUSED (s1.get QUE_PSUM.PAUSED (q / 32) ||| 2 ^ (q % 32)) (q / 32)
  if s2.flag QUE_CTX4.IEN q && 0 < s2.get QUE_CTX9.PENDING q then queueMessage q s2 else s2

/-- Queue `q` is no longer PAUSED. -/
def clearPaused (q : Nat) (s : State) : State :=
  (s.set QUE_PSUM.PAUSED (s.get QUE_PSUM.PAUSED (q / 32) &&& (2 ^ 32 - 1 - 2 ^ (q % 32))) (q / 32)).set QUE_CTX9.REASON 0 q

/-! ### Consuming descriptors (R483, R490-R492) -/

/-- The address, length, flags and reserved bits of a descriptor (R489). -/
def descAddr (d : Desc) : Nat := leNat (sliceOf d.bytes 0 8)
def descLen (d : Desc) : Nat := leNat (sliceOf d.bytes 8 4)
def descIrq (d : Desc) : Bool := bitAt (leNat (sliceOf d.bytes 12 2)) 0
def descUser (d : Desc) : Nat := leNat (sliceOf d.bytes 14 2)
def descUserTag (d : Desc) : Nat := leNat (sliceOf d.bytes 16 8)

/-- The validity conditions of R490 for a payload item. -/
def descValid (d : Desc) : Bool :=
  descAddr d % 64 == 0 && descLen d % 64 == 0 && descLen d != 0 && descAddr d + descLen d ≤ 2 ^ 64 &&
    leNat (sliceOf d.bytes 12 2) / 2 == 0 && leNat (sliceOf d.bytes 24 8) == 0

/-- `CI` moves over one descriptor. -/
def advanceCi (q : Nat) (s : State) : State :=
  s.set QUE_CTX7.CI ((s.get QUE_CTX7.CI q + 1) % (2 * descSlots s q)) q

/-- The bytes that an item's descriptors can hold. -/
def capacity (it : Item) : Nat := (it.descs.map (fun d => d.2.2)).foldl (· + ·) 0

/-- The most descriptors one item may fill (R492). -/
def descCap (s : State) (q : Nat) : Nat := min (descSlots s q) 65535

/-- The attributes of payload writes (R525): Device Control's enables are bits 4 and 11 of configuration dword 0x78. -/
def payloadAttr (s : State) : Nat :=
  let ctl := (tget (BitVec.ofNat 32 0x810) s.hbr.space 0x78).toNat
  b2n (s.flag HBR_TLPCFG.NOSNOOP && bitAt ctl 11) + 2 * b2n (s.flag HBR_TLPCFG.RO && bitAt ctl 4)

/-- The payload write requests of an item, in address order (R491, R505), at most `slice` bytes each (R507, R523), none
across a 4 KiB boundary (R523). -/
def sliceWrites (attr slice a : Nat) (bs : List Nat) : Nat → List Emission
  | 0 => []
  | n + 1 =>
    if bs = [] then []
    else
      let k := min slice (4096 - a % 4096)
      .memWrite a (bs.take k) attr :: sliceWrites attr slice (a + k) (bs.drop k) n

/-- The payload writes over the item's descriptors, without its first `skip` bytes, which are already written. -/
def payloadWrites (attr slice : Nat) (descs : List (Nat × Nat × Nat)) (skip : Nat) (bs : List Nat) : List Emission :=
  match descs with
  | [] => []
  | (_, a, len) :: t =>
    sliceWrites attr slice (a + skip) ((bs.take len).drop skip) (bs.length + 1) ++
      payloadWrites attr slice t (skip - len) (bs.drop len)

/-- Bytes per write request: the slice of R507 and R518, and Max_Payload_Size (R523). -/
def sliceBytes (s : State) : Nat := min s.hbr.mps (max 64 (s.get QUE_DMA.SLICE * 64))

/-- The tag body of an item with its descriptors put in (R501): bytes 0x24-0x27 are DESC_FIRST and DESC_COUNT. -/
def bodyWithDescs (it : Item) (first count : Nat) : List Nat :=
  let b := (it.body ++ List.replicate 44 0).take 44
  b.take 20 ++ leBytes 2 first ++ leBytes 2 count ++ b.drop 24

/-- Write the payload and the tag of item `it`, which holds at least one descriptor, on queue `q` (R505). -/
def deliver (q : Nat) (it : Item) (extra : Nat) (s : State) : State :=
  let bs := it.payload.take (capacity it)
  let s1 : State := { s with sent := s.sent ++ payloadWrites (payloadAttr s) (sliceBytes s) it.descs it.written bs }
  let it2 := { it with body := bodyWithDescs it (match it.descs with | d :: _ => d.1 | [] => 0) it.descs.length }
  writeTag q (tagBytes s q it2 bs.length (it.flags ||| extra)) it.irq s1

/-- Issue the payload writes of the open item of queue `q` that its descriptors have room for (R491, R505). -/
def writeOpen (q : Nat) (s : State) : State :=
  let u := s.queue q
  match u.item with
  | none => s
  | some it =>
    let n := min it.payload.length (capacity it)
    if canMaster s && it.written < n then
      let w := payloadWrites (payloadAttr s) (sliceBytes s) it.descs it.written (it.payload.take n)
      let s1 : State := { s with sent := s.sent ++ w }
      s1.setQueue q { u with item := some { it with written := n } }
    else s

/-- Write a tag that consumes exactly one descriptor, whose USER and USERTAG it echoes (R489, R501). -/
def deliverEvent (q : Nat) (it : Item) (d : Desc) (s : State) : State :=
  let b := (it.body ++ List.replicate 44 0).take 44
  let words := if it.kind == 6 then sliceOf b 32 8 else sliceOf b 32 4 ++ leBytes 2 (descUser d) ++ [0, 0]
  let it2 := { it with body := b.take 20 ++ leBytes 2 d.slot ++ leBytes 2 1 ++ leBytes 8 (descUserTag d) ++ words ++ [0, 0, 0, 0] }
  writeTag q (tagBytes s q it2 0 it.flags) (descIrq d) (advanceCi q s)

/-- The ERROR tag of queue `q` for the drop run `d` (R509), consuming descriptor `de`. -/
def errorTag (q : Nat) (d : DropRun) (de : Desc) (s : State) : State :=
  deliverEvent q {
    kind := 6
    seq := d.seq
    stream := d.stream
    flags := if s.unsync then 0x10 else 0
    body := leBytes 8 d.time ++ leBytes 8 d.time ++ leBytes 4 0 ++ leBytes 4 0 ++ leBytes 8 0 ++ leBytes 4 d.cause ++
      leBytes 4 d.count ++ leBytes 4 0 } de s

/-- A descriptor that fails R490 met by item `it` of queue `q` (R510): the item ends in its good descriptors or is
dropped, an ERROR tag consumes the descriptor, and the queue pauses. -/
def badDesc (q : Nat) (it : Item) (d : Desc) (s : State) : State :=
  let u := s.queue q
  let s0 := s.setQueue q { u with item := none }
  let s1 := if it.descs = [] then noteDrop q 3 it s0 else deliver q it 1 s0
  let u1 := s1.queue q
  let run := match u1.drop with
    | some r => r
    | none => { cause := 3, seq := it.seq, stream := it.stream, count := 0, time := shortForm s.nowNs }
  let s2 := errorTag q run d (s1.setQueue q { u1 with drop := none })
  itemGone it ((pauseQueue q 3 s2).log 0x0D02 [q, d.slot])

/-- Give the open item of queue `q` the descriptors that are ready, as far as its payload needs them (R491, R492). -/
def fillItem (q : Nat) (ready : List Desc) (s : State) : State :=
  match ready with
  | [] => s
  | d :: rest =>
    let u := s.queue q
    match u.item with
    | none => s
    | some it =>
      if !hasPayload it.kind then s
      else if it.descs ≠ [] && (it.payload.length ≤ capacity it || descCap s q ≤ it.descs.length) then s
      else
        let s1 := s.setQueue q { u with ready := rest }
        if s.get QUE_CTX4.TYPE q == 0 && !descValid d then badDesc q it d s1
        else
          let it2 := { it with descs := it.descs ++ [(d.slot, descAddr d, descLen d)], irq := it.irq || descIrq d }
          fillItem q rest (advanceCi q (s1.setQueue q { u with ready := rest, item := some it2 }))

/-- `fillItem` with all that is ready, and the payload writes this allows. -/
def fillOpen (q : Nat) (s : State) : State := writeOpen q (fillItem q (s.queue q).ready s)

/-- The first waiting item of queue `q` opens when the queue is free for it (R502, R509). -/
def promote (q : Nat) (s : State) : State :=
  let u := s.queue q
  match u.item, u.drop, u.waiting with
  | none, none, it :: rest =>
    if queueState s q == 1 then
      if 0 < descAvail s q then fetchDescs q (fillOpen q (s.setQueue q { u with item := some it, waiting := rest }))
      else if s.flag QUE_CTX4.POLICY q && it.kind != 7 then dropItem q 1 it (s.setQueue q { u with waiting := rest })
      else s
    else s
  | _, _, _ => fetchDescs q s

/-! ### Creating and opening items -/

/-- A new item, behind those created before it (R488: its SEQ is already taken). -/
def createItem (it : Item) (s : State) : State :=
  { s with que := { s.que with created := s.que.created ++ [{ it with id := s.que.nextId }], nextId := s.que.nextId + 1 } }

/-- The map entry of an item (R485): the words of `QUE_SMAP[s][r]`, or of `QUE_VMAP[x]` for an access unit. -/
def mapWord (s : State) (it : Item) : Nat :=
  if it.kind == 5 then s.rdA (0x801800 + 4 * it.mapIx) else s.rdA (0x801000 + 0x20 * it.stream + 4 * it.mapIx)

/-- The queue chosen for an item by its map entry `w` (R486): the queue of its SEQ, or with SKIP the next one of the set
that has a descriptor. -/
def chooseQueue (s : State) (w seq : Nat) : Nat :=
  let k := 2 ^ min 6 (bitsOf w 26 24)
  let base := bitsOf w 13 0
  let first := seq % k
  let order := (List.range k).map (fun j => base + (first + j) % k)
  if bitAt w 30 then (order.find? (fun q => 0 < descAvail s q)).getD (base + first) else base + first

/-- The start of one item (R486, R487, R502, R503, R508). -/
def startItem (it : Item) (s : State) : State :=
  let w := mapWord s it
  let q := chooseQueue s w it.seq
  let st := queueState s q
  if !bitAt w 31 || st == 0 || st == 3 then
    itemGone it ((s.count QUE_NOQ.COUNT).logSec 0x0D08 0 [it.stream, q])
  else if st == 2 then dropItem q 2 it s
  else if s.get QUE_CTX4.TYPE q == 1 && hasPayload it.kind then dropItem q 5 it s
  else
    let u := s.queue q
    let frame := (it.stream, it.seq)
    if (it.kind == 1 || it.kind == 2 || it.kind == 3) && u.lastFrame = some frame then
      let c := tget 0 s.que.clash it.stream
      let s1 := if c == it.seq + 1 then s
        else ({ s with que := { s.que with clash := tput 0 s.que.clash it.stream (it.seq + 1) } }).log 0x0D07 [it.stream, q]
      dropItem q 4 it s1
    else
      let u2 := if hasPayload it.kind && it.kind != 5 then { u with lastFrame := some frame } else u
      if u.item = none && u.drop = none && u.waiting = [] && descAvail s q == 0 && s.flag QUE_CTX4.POLICY q then
        dropItem q 1 it s
      else promote q (s.setQueue q { u2 with waiting := u.waiting ++ [it] })

/-- Change the item with number `id`, wherever it stands. -/
def mapItem (id : Nat) (f : Item → Item) (s : State) : State :=
  let g := fun it : Item => if it.id == id then f it else it
  { s with que := { s.que with
      created := s.que.created.map g
      queues := s.que.queues.map (fun e => (e.1, { e.2 with item := e.2.item.map g, waiting := e.2.waiting.map g })) } }

/-- The payload bytes `bs` arrive for item `id`. -/
def itemData (id : Nat) (bs : List Nat) (s : State) : State :=
  mapItem id (fun it => { it with payload := it.payload ++ bs }) s

/-- The final body of a frame's tag over the present one: what the position and angle evaluation wrote (bytes 0x28-0x33 of
the tag) stays. -/
def overBody (old new : List Nat) : List Nat := new.take 24 ++ (old.drop 24).take 12 ++ new.drop 36

/-- The source of item `id` has ended it, with further flags and its final tag body. -/
def endItem (id flags : Nat) (body : List Nat) (s : State) : State :=
  mapItem id (fun it => { it with
    ended := true
    flags := it.flags ||| flags
    body := overBody it.body body
    wait := it.wait % 4 }) s

/-! ### Ending items -/

/-- The ended open item of queue `q` is delivered when its descriptors hold its payload, or cut at the cap (R491, R492,
R506); then the next item opens. -/
def finishOpen (q : Nat) (s0 : State) : State :=
  let s := fillOpen q s0
  let u := s.queue q
  match u.item with
  | none => s
  | some it =>
    if hasPayload it.kind then
      let full := descCap s q ≤ it.descs.length && capacity it < it.payload.length
      if it.descs ≠ [] && it.wait == 0 && (it.payload.length ≤ capacity it && it.ended || full) then
        let s1 := deliver q it (if full then 1 else 0) (s.setQueue q { u with item := none })
        let s2 := if full then s1.log 0x0D0C [q] else s1
        promote q (itemGone it s2)
      else if it.ended && it.descs = [] && bitAt it.flags 0 && descAvail s q == 0 then
        promote q (dropItem q 6 it (s.setQueue q { u with item := none }))
      else fetchDescs q s
    else
      match u.ready with
      | d :: rest =>
        promote q (itemGone it (deliverEvent q it d (s.setQueue q { u with item := none, ready := rest })))
      | [] => fetchDescs q s

/-- The end of the open item of queue `q` with the flag bits `extra` (R506): its tag is written when it holds a
descriptor, else it is dropped with `cause`. -/
def cutOpen (q extra cause : Nat) (s : State) : State :=
  let u := s.queue q
  match u.item with
  | none => s
  | some it =>
    let s1 := s.setQueue q { u with item := none }
    if it.descs = [] then dropItem q cause it s1 else itemGone it (deliver q it extra s1)

/-- Every waiting item of queue `q` is dropped with `cause` (R508); a MARK is lost without a tag. -/
def dropWaiting (q cause : Nat) (s : State) : State :=
  let u := s.queue q
  u.waiting.foldl (fun t it => if it.kind == 7 then t else dropItem q cause it t) (s.setQueue q { u with waiting := [] })

/-- A Bus Master Enable halt or a lost link at queue `q` (R512, R531, R534): the open item ends ABORTED with its tag
held, and the queue is PAUSED with the reason. -/
def haltQueue (q reason : Nat) (s : State) : State :=
  if queueState s q == 1 || (queueState s q == 2 && s.get QUE_CTX9.REASON q == 1) then
    let u := s.queue q
    let s1 := match u.item with
      | none => s
      | some it =>
        let s0 := s.setQueue q { u with item := none }
        if it.descs = [] then dropItem q 2 it s0
        else
          let it2 := { it with body := bodyWithDescs it (match it.descs with | d :: _ => d.1 | [] => 0) it.descs.length }
          itemGone it ((s0.setQueue q { (s0.queue q) with
            heldTag := some (tagBytes s q it2 it.written (it.flags ||| 0x40)) }).set QUE_CTX9.HELD 1 q)
    pauseQueue q reason (dropWaiting q 2 s1)
  else s

/-- A descriptor read of queue `q` failed or timed out at `slot` (R512 reason 5). -/
def hostErr (q slot : Nat) (s : State) : State :=
  if queueState s q == 1 || (queueState s q == 2 && s.get QUE_CTX9.REASON q == 1) then
    (pauseQueue q 5 (dropWaiting q 2 (cutOpen q 1 6 s))).log 0x0D04 [q, slot]
  else s

/-- The queues whose state is not IDLE, in rising order: every one has its context word 9 in the register table. -/
def liveQueues (s : State) : List Nat :=
  ((s.regs.filter (fun e => 0x900000 ≤ e.1 && e.1 < 0xA00000 && e.1 % 64 == 0x24)).map
    (fun e => (e.1 - 0x900024) / 64)).filter (fun q => queueState s q != 0)

/-- The queues that hold an item, in rising order. -/
def busyQueues (s : State) : List Nat :=
  (s.que.queues.filter (fun e => e.2.item.isSome || e.2.waiting ≠ [])).map (·.1)

end Sys2Proof.Machine
end

