-- ==== Sys2Proof/Machine/Queues.lean ====
section
/-! DEFINITION. The commands of the queue unit (chapter 15): doorbells, queue commands, contexts and maps, items,
descriptor reads, timers, moderation and the self test. -/

namespace Sys2Proof.Machine

/-- A doorbell write (R494). In IDLE it sets PI whatever it makes available (R511; log entry 21). -/
def doorbell (q v : Nat) (s : State) : State :=
  let n := descSlots s q
  let pi := v % 2 ^ 17 % (2 * n)
  let avail := (pi + 2 * n - s.get QUE_CTX7.CI q % (2 * n)) % (2 * n)
  if queueState s q == 0 then s.set QUE_CTX6.PI pi q
  else if queueState s q == 3 then s
  else if n < avail then
    let s1 := if queueState s q == 1 || s.get QUE_CTX9.REASON q == 1
      then pauseQueue q 4 (dropWaiting q 2 (cutOpen q 1 6 s)) else s
    s1.log 0x0D03 [q, v]
  else promote q (fillOpen q (s.set QUE_CTX6.PI pi q))

/-- The result of a queue command (R514): refused commands set RESULT and log 0x0D05. -/
def refuseQcmd (q op result : Nat) (s : State) : State :=
  (s.set QUE_QCMDSTAT.RESULT result).log 0x0D05 [q, op, result]

/-- The context checks of ENABLE (R493, R515). -/
def contextValid (s : State) (q : Nat) : Bool :=
  let dbase := s.get QUE_CTX0.DBASELO q + s.get QUE_CTX1.DBASEHI q * 2 ^ 32
  let cbase := s.get QUE_CTX2.CBASELO q + s.get QUE_CTX3.CBASEHI q * 2 ^ 32
  dbase % 64 == 0 && dbase != 0 && cbase % 64 == 0 && cbase != 0 &&
    s.get QUE_CTX4.DSIZE q ≤ 12 && s.get QUE_CTX4.CSIZE q ≤ 12 &&
    s.get QUE_CTX4.DSIZE q ≤ s.get QUE_CTX4.CSIZE q && descAvail s q ≤ descSlots s q

/-- ENABLE (R514, R515). -/
def queueEnable (q : Nat) (s : State) : State :=
  if queueState s q != 0 then refuseQcmd q 1 1 s
  else if !contextValid s q then refuseQcmd q 1 2 s
  else promote q ((s.set QUE_CTX9.STATE 1 q).set QUE_QCMDSTAT.RESULT 0)

/-- PAUSE (R514): reason DRIVER. -/
def queuePause (q : Nat) (s : State) : State :=
  if queueState s q != 1 then refuseQcmd q 2 1 s
  else (pauseQueue q 1 s).set QUE_QCMDSTAT.RESULT 0

/-- RESUME (R512, R514, R535): the held tag first, then the queue goes on. -/
def queueResume (q : Nat) (s : State) : State :=
  let reason := s.get QUE_CTX9.REASON q
  if queueState s q != 2 then refuseQcmd q 3 1 s
  else if (reason == 2 || reason == 6) && !canMaster s then refuseQcmd q 3 3 s
  else
    let s1 := (clearPaused q s).set QUE_CTX9.STATE 1 q
    let u := s1.queue q
    let s2 := match u.heldTag with
      | some bs => writeTag q bs false ((s1.setQueue q { u with heldTag := none }).set QUE_CTX9.HELD 0 q)
      | none => s1
    promote q (s2.set QUE_QCMDSTAT.RESULT 0)

/-- RESET (R513): what the queue held is lost without a tag; the queue is RESETTING until the reset ends. -/
def queueReset (q : Nat) (s : State) : State :=
  let u := s.queue q
  let lost := (match u.item with | some it => [it] | none => []) ++ u.waiting
  let s1 := s.setQueue q {}
  let s2 := lost.foldl (fun t it => itemGone it t) s1
  let s3 := clearPaused q s2
  let s4 := (((s3.set QUE_CTX6.PI 0 q).set QUE_CTX7.CI 0 q).set QUE_CTX8.CWI 0 q).set QUE_CTX10.DROPS 0 q
  let s5 := ((s4.set QUE_CTX9.PENDING 0 q).set QUE_CTX9.HELD 0 q).set QUE_CTX9.STATE 3 q
  let s6 := dropMessage 0 q s5
  { s6 with hbr := { s6.hbr with reads := s6.hbr.reads.map (fun r => if r.qid == q then { r with count := 0 } else r) } }

/-- The end of a queue reset (R513). -/
def queueResetDone (q : Nat) (s : State) : State :=
  if queueState s q == 3 then (s.set QUE_CTX9.STATE 0 q).set QUE_QCMDSTAT.BUSY 0 else s

/-- MARK (R514): a MARK tag behind the open item and any ERROR tag that is due. -/
def queueMark (q : Nat) (s : State) : State :=
  if queueState s q != 1 && queueState s q != 2 then refuseQcmd q 5 1 s
  else
    let t := shortForm s.nowNs
    let it : Item := {
      source := 5
      kind := 7
      seq := s.get QUE_QARG.ARG
      flags := if s.unsync then 0x10 else 0
      ended := true
      body := leBytes 8 t ++ leBytes 8 t }
    let u := s.queue q
    let marks := u.waiting.filter (fun w => w.kind == 7)
    let others := u.waiting.filter (fun w => w.kind != 7)
    promote q ((s.setQueue q { u with waiting := marks ++ it :: others }).set QUE_QCMDSTAT.RESULT 0)

/-- A write of `QUE_QCMD` (R514); discarded while BUSY. -/
def queueCommand (op q : Nat) (s : State) : State :=
  if s.flag QUE_QCMDSTAT.BUSY then s
  else match op with
    | 1 => queueEnable q s
    | 2 => queuePause q s
    | 3 => queueResume q s
    | 4 => (queueReset q (s.set QUE_QCMDSTAT.RESULT 0)).set QUE_QCMDSTAT.BUSY 1
    | 5 => queueMark q s
    | _ => refuseQcmd q op 1 s

/-- A write of context word `w` of queue `q` (R515); the bits that are reserved stay 0 (R17). -/
def ctxWrite (q w v : Nat) (s : State) : State :=
  if queueState s q != 0 then s.log 0x0D09 [q, w]
  else
    let m := if w == 4 then 0xFFE007FF else if w == 5 then 0xFF00FFFF else 0xFFFFFFFF
    s.wrA (0x900000 + 64 * q + 4 * w) (v &&& m)

/-- A write of a map entry at `addr` (R486): refused when its set reaches beyond queue 16383. -/
def mapWrite (addr v : Nat) (s : State) : State :=
  if 16383 < bitsOf v 13 0 + 2 ^ min 6 (bitsOf v 26 24) - 1 then s.log 0x0D05 [bitsOf v 13 0, 0, 2]
  else s.wrA addr (v &&& 0xC7003FFF)

/-- One created item starts (R502). -/
def startNext (s : State) : State :=
  match s.que.created with
  | [] => s
  | it :: rest => startItem it { s with que := { s.que with created := rest } }

/-- A completed descriptor read is taken (R495): its descriptors are ready, and the queue goes on. -/
def takeArrived (q : Nat) (s : State) : State :=
  match s.que.arrived.find? (fun a => a.1 == q) with
  | none => s
  | some (_, slot, bs) =>
    let n := bs.length / 32
    let ds := (List.range n).map (fun k => (Desc.mk ((slot + k) % descSlots s q) (sliceOf bs (32 * k) 32)))
    let s1 : State := { s with que := { s.que with arrived := s.que.arrived.erase (q, slot, bs) } }
    let u := s1.queue q
    promote q (fillOpen q (s1.setQueue q { u with ready := u.ready ++ ds, reading := u.reading - n }))

/-- STARTTO expires at queue `q` (R504): the item that waits for its first descriptor is dropped. -/
def startTimeout (q : Nat) (s : State) : State :=
  let u := s.queue q
  match u.item, u.waiting with
  | some it, w =>
    if it.descs = [] && hasPayload it.kind then promote q (dropItem q 1 it (s.setQueue q { u with item := none }))
    else match w with
      | x :: rest => if x.kind == 7 then s else promote q (dropItem q 1 x (s.setQueue q { u with waiting := rest }))
      | [] => s
  | none, x :: rest => if x.kind == 7 then s else promote q (dropItem q 1 x (s.setQueue q { u with waiting := rest }))
  | none, [] => s

/-- MIDTO expires at queue `q` (R504): the open item ends with TRUNC and carries what it has written. -/
def midTimeout (q : Nat) (s : State) : State :=
  match (s.queue q).item with
  | some it =>
    if it.descs ≠ [] && capacity it < it.payload.length then
      promote q ((cutOpen q 1 6 s).log 0x0D06 [q, it.stream])
    else s
  | none => s

/-- The ERROR tag of a run of drops (R509). -/
def errorTagWrite (q : Nat) (s : State) : State :=
  let u := s.queue q
  match u.item, u.drop, u.ready with
  | none, some d, de :: rest =>
    if queueState s q == 1 && canMaster s then
      promote q (errorTag q d de (s.setQueue q { u with drop := none, ready := rest }))
    else s
  | none, some _, [] => fetchDescs q s
  | _, _, _ => s

/-- The moderation time of queue `q` passes (R516). -/
def moderationTimeout (q : Nat) (s : State) : State :=
  if s.flag QUE_CTX4.IEN q && 0 < s.get QUE_CTX9.PENDING q then queueMessage q s else s

/-- A write of `QUE_BIST.START` (R517). -/
def queBistStart (s : State) : State :=
  if modeNow s == 7 && s.get GLB_MODESTAT.PHASE == 0 && liveQueues s == [] && !s.flag QUE_BIST.RUNNING then
    (s.set QUE_BIST.RUNNING 1).set QUE_BIST.RESULT 0
  else s.log 0x0D0B

/-- The end of the queue self test (R517): every context and staging buffer is cleared (MODCNT
reads its reset value 1, which acts as 0 does; log entry 22). -/
def queBistEnd (result : Nat) (s : State) : State :=
  if s.flag QUE_BIST.RUNNING then
    let zeroed := s.clearRegs 0x900000 0xA00000
    let s1 : State := { zeroed with que := { zeroed.que with queues := [], created := [] } }
    let s2 := (s1.set QUE_BIST.RUNNING 0).set QUE_BIST.RESULT result
    if result == 2 then s2.log 0x0D0A else s2
  else s

def execQueueResetDone (q : Fin 16384) (s : State) : Out := .next (queueResetDone q.val s)
def execItemStart (s : State) : Out := .next (startNext s)
def execDescReadComplete (q : Fin 16384) (s : State) : Out := .next (takeArrived q.val s)
def execItemStartTimeout (q : Fin 16384) (s : State) : Out := .next (startTimeout q.val s)
def execItemMidTimeout (q : Fin 16384) (s : State) : Out := .next (midTimeout q.val s)
def execItemEnd (q : Fin 16384) (s : State) : Out :=
  .next (if canMaster s && queueState s q.val != 3 then finishOpen q.val s else s)
def execErrorTagWrite (q : Fin 16384) (s : State) : Out := .next (errorTagWrite q.val s)
def execModerationTimeout (q : Fin 16384) (s : State) : Out := .next (moderationTimeout q.val s)
def execQueBistDone (pass : Bool) (s : State) : Out := .next (queBistEnd (if pass then 1 else 2) s)

end Sys2Proof.Machine
end

