-- ==== Sys2Proof/Machine/Feeds.lean ====
section
/-! DEFINITION. Frames on their way from a source to their path (R321-R324, R419): opening a frame, its bytes, and its
end; the items of raw bypass, and line-block assembly (R419, R420). -/

namespace Sys2Proof.Machine

/-- The frame with number `id`. -/
def feedOf (s : State) (id : Nat) : Option Feed := s.src.feeds.find? (fun f => f.id == id)

/-- The frame that stream `st` is receiving. -/
def openFrame (s : State) (st : Nat) : Option Feed := s.src.feeds.find? (fun f => f.stream == st && !f.ended)

/-- `s` with the frame of the same number replaced by `f`. -/
def State.setFeed (s : State) (f : Feed) : State :=
  { s with src := { s.src with feeds := s.src.feeds.map (fun g => if g.id == f.id then f else g) } }

/-- `s` without the frame `id`. -/
def State.dropFeed (s : State) (id : Nat) : State :=
  { s with src := { s.src with feeds := s.src.feeds.filter (fun g => g.id != id) } }

/-- The path of stream `st` (R321): 0 for raw bypass, or the pipe that holds it plus 1. A frame that its pipe has refused
(R327, R338) has path 255: its bytes go nowhere. -/
def pathOf (s : State) (st : Nat) : Nat :=
  match (List.range 4).find? (fun p => s.flag PIX_SRC.EN p && s.get PIX_SRC.STREAM p == st) with
  | some p => p + 1
  | none => 0

/-- The next FSEQ of stream `st` is taken (R488). -/
def takeSeq (st : Nat) (s : State) : Nat × State := (s.get QUE_FSEQ.SEQ st, s.wrapAdd QUE_FSEQ.SEQ 1 st)

/-- The body of a frame's tag (R501): bytes 0x10-0x3B. -/
def frameBody (tTrig tExp expNs w h damage missing : Nat) : List Nat :=
  leBytes 8 tTrig ++ leBytes 8 tExp ++ leBytes 4 expNs ++ leBytes 4 0 ++ leBytes 4 0 ++ leBytes 4 0 ++ leBytes 4 0 ++
    leBytes 2 w ++ leBytes 2 h ++ leBytes 2 (min damage 0xFFFF) ++ leBytes 2 (min missing 0xFFFF)

/-- What a frame's tag waits for (R375, R402): bit 0 the positions, bit 1 the angle. -/
def tagWaits (s : State) (st : Nat) : Nat :=
  b2n (s.flag POS_TAGSEL.AEN st || s.flag POS_TAGSEL.BEN st) + 2 * b2n (s.flag TWS_ANGSEL.EN st)

/-- The flags of a latched event as a tag carries them (R499): LATE, PREDICTED and TIMEUNSYNC. -/
def latchFlags (fl : Nat) : Nat := fl % 4 * 4 + fl / 16 % 2 * 16

/-- Whether the blocks of stream `st` are assembled (R419). -/
def assembling (s : State) (st : Nat) : Bool :=
  s.flag TWS_LSASM.EN && s.get TWS_LSASM.STREAM == st && streamClass s st == 3

/-- The KIND of a whole-picture item of stream `st` (R419, R482). -/
def frameKind (s : State) (st : Nat) : Nat := if streamClass s st == 3 then 3 else 1

/-- Create an item of stream `st` and give its number. `hold` is 4 while the exposure times of its frame are not known. -/
def newItem (source ix st kind region mapIx seq flags hold : Nat) (body : List Nat) (s : State) : Nat × State :=
  (s.que.nextId, createItem {
    source := source
    src := ix
    stream := st
    kind := kind
    region := region
    mapIx := mapIx
    seq := seq
    flags := flags
    body := body
    wait := tagWaits s st + hold } s)

/-- The whole-picture item of frame `f` with output size `w` by `h` opens, on a queue of its own or in the assembled frame
of its stream (R345, R419, R420). The answer gives the item, 0 when the block is discarded, and its SEQ. -/
def openPicture (f : Feed) (w h : Nat) (s : State) : (Nat × Nat) × State :=
  let flags := f.flags
  let body := frameBody f.tTrig f.tExp f.expNs w h f.damage 0
  if assembling s f.stream then
    match s.src.asm with
    | some a =>
      if a.width == w then ((a.item, a.seq), s)
      else
        let a2 := { a with missing := a.missing + h, flags := a.flags ||| 2 }
        ((0, a.seq), ({ s with src := { s.src with asm := some a2 } }).log 0x0A0A [f.stream])
    | none =>
      let (seq, s1) := takeSeq f.stream s
      let (id, s2) := newItem f.src f.ix f.stream 1 0 4 seq flags (if f.started then 0 else 4) body s1
      ((id, seq), { s2 with src := { s2.src with asm := some { item := id, seq := seq, width := w } } })
  else
    let (seq, s1) := takeSeq f.stream s
    let (id, s2) := newItem f.src f.ix f.stream (frameKind s f.stream) 0 4 seq flags (if f.started then 0 else 4) body s1
    ((id, seq), s2)

/-- The assembled frame closes (R419, R420). -/
def closeAssembly (extra : Nat) (s : State) : State :=
  match s.src.asm with
  | none => s
  | some a =>
    let s1 : State := { s with src := { s.src with asm := none } }
    endItem a.item (a.flags ||| extra)
      (frameBody a.tTrig a.tExp (a.endNs - shortNs a.tExp) a.width a.height a.damage a.missing) s1

/-- The whole-picture item `id` of frame `f` ends with its final counts and flags (R273, R346, R420). -/
def closePicture (f : Feed) (id w h damage missing flags : Nat) (s : State) : State :=
  match s.src.asm with
  | some a =>
    if a.item == id then
      let a2 := { a with
        blocks := a.blocks + 1
        tTrig := if a.blocks == 0 then f.tTrig else a.tTrig
        tExp := if a.blocks == 0 then f.tExp else a.tExp
        endNs := shortNs f.tExp + f.expNs
        height := a.height + h
        damage := min 0xFFFF (a.damage + damage)
        missing := min 0xFFFF (a.missing + missing)
        flags := a.flags ||| flags }
      let s1 : State := { s with src := { s.src with asm := some a2 } }
      if max 1 (s.get TWS_LSASM.FRAMEBLK) ≤ a2.blocks || a2.cut || !assembling s f.stream then closeAssembly 0 s1 else s1
    else endItem id flags (frameBody f.tTrig f.tExp f.expNs w h damage missing) s
  | none => endItem id flags (frameBody f.tTrig f.tExp f.expNs w h damage missing) s

/-- A source opens a frame of stream `st` (R272, R305): on raw bypass its item is created at once. -/
def openFeed (f0 : Feed) (s : State) : Nat × State :=
  let (first, s1) := takeFirst f0.stream s
  let id := s1.src.nextFeed
  let f := { f0 with
    id := id
    path := pathOf s f0.stream
    kind := frameKind s f0.stream
    first := first
    flags := f0.flags ||| (if first then 0x100 else 0) ||| (if s.unsync then 0x10 else 0) |||
      (if s.tws.isOver.contains f0.stream then 0x80 else 0) }
  let s2 : State := { s1 with
    src := { s1.src with nextFeed := id + 1 }
    tws := { s1.tws with isOver := s1.tws.isOver.filter (· != f0.stream) } }
  if f.path == 0 then
    let ((item, seq), s3) := openPicture f f.width f.height s2
    (id, { s3 with src := { s3.src with feeds := s3.src.feeds ++ [{ f with item := item, seq := seq }] } })
  else (id, { s2 with src := { s2.src with feeds := s2.src.feeds ++ [f] } })

/-- The exposure times of frame `f` become known while its item is open (R274). -/
def patchTimes (f : Feed) (s : State) : State :=
  mapItem f.item (fun it => { it with
    wait := it.wait % 4
    flags := it.flags ||| f.flags
    body := overBody it.body (frameBody f.tTrig f.tExp f.expNs f.width f.height 0 0) }) s

/-- The payload bytes of item `id` that are not yet written (R502). -/
def stagedBytes (s : State) (id : Nat) : Nat :=
  let count := fun it : Item => if it.id == id then it.payload.length - it.written else 0
  (s.que.created.map count).foldl (· + ·) 0 +
    (s.que.queues.map (fun e => (match e.2.item with | some it => count it | none => 0) +
      (e.2.waiting.map count).foldl (· + ·) 0)).foldl (· + ·) 0

/-- The lines, of `lb` bytes each, that the bytes from `lo` up to `hi` touch. -/
def linesTouched (lb lo hi : Nat) : List Nat :=
  if lb == 0 || hi ≤ lo then [] else (List.range ((hi - 1) / lb + 1 - lo / lb)).map (fun k => lo / lb + k)

/-- Two line lists in one, each line once. -/
def addLines (a b : List Nat) : List Nat := a ++ b.filter (fun y => !a.contains y)

/-- Bytes of frame `f` arrive next in order, `lb` bytes to a line: to its item with the staging limit of R502, or to the
buffer of its pipe. -/
def feedBytes (id : Nat) (lb : Nat) (bs : List Nat) (s : State) : State :=
  match feedOf s id with
  | none => s
  | some f =>
    let f1 := { f with length := f.length + bs.length }
    if f.path == 0 then
      let room := 65536 - stagedBytes s f.item
      let lost := bs.length - room
      let f2 := if room < bs.length then
        { f1 with
          flags := f1.flags ||| 0x82
          missing := addLines f1.missing (linesTouched lb (f.length + bs.length - lost) (f.length + bs.length)) }
        else f1
      itemData f.item (bs.take room) (s.setFeed f2)
    else if f.path == 255 then s.setFeed f1
    else s.setFeed { f1 with data := f.data ++ bs }

/-- The lines of a frame that are missing (R273): those that hold filled or discarded bytes, and those not received
whole. -/
def countMissing (f : Feed) (lb : Nat) : Nat :=
  if lb == 0 then 0
  else ((List.range f.height).filter (fun y => f.missing.contains y || f.length < (y + 1) * lb)).length

/-- The source ends frame `id` with its final counts (R273, R294, R307): on raw bypass its item ends; on a pipe the frame
waits to be taken. -/
def closeFeed (id damage missing flags : Nat) (s : State) : State :=
  match feedOf s id with
  | none => s
  | some f =>
    let f1 := { f with damage := damage, linesMissing := missing, flags := f.flags ||| flags, ended := true }
    if f.path == 0 then
      settleStream f.stream (closePicture f1 f1.item f1.width f1.height damage missing f1.flags (s.dropFeed id))
    else if f.path == 255 then settleStream f.stream (s.dropFeed id)
    else s.setFeed f1

end Sys2Proof.Machine
end

