-- ==== Sys2Proof/Machine/Lnp.lean ====
section
/-! DEFINITION. Camera lanes (chapter 7): the lane state machine and the operations that the lane commands and the groups
of chapter 8 share. -/

namespace Sys2Proof.Machine

/-- The hidden state of lane `n`. -/
def State.lane (s : State) (n : Nat) : LaneSt := tget {} s.lanes n

/-- `s` with the hidden state of lane `n` replaced. -/
def State.setLane (s : State) (n : Nat) (u : LaneSt) : State := { s with lanes := tput {} s.lanes n u }

/-- The state of lane `n` (R215): 0 OFF, 1 DETECT, 2 SPEED, 3 EQUALIZE, 4 BOND, 5 LINKED, 6 REJOIN, 7 QUIET, 8 DEEP,
9 WAKE, 10 BACKOFF. -/
def laneState (s : State) (n : Nat) : Nat := s.get LNP_STAT.STATE n

/-- Lanes 8-15 are absent on the LVG-16E (R4). -/
def laneExists (s : State) (n : Nat) : Bool := n < 8 || s.fuses.variant != .e

/-- Whether the expert level is on in the unit whose LEVEL register is `f`. -/
def expertOn (s : State) (f : Fld) : Bool := s.flag f

/-- The quad of lane `n` is held by `CLK_RST.QUAD` (R70, R202). -/
def quadHeld (s : State) (n : Nat) : Bool := bitAt (s.get CLK_RST.QUAD) (n / 4)

/-- The lane carries a link: LINKED, QUIET or DEEP (`LNP_LINKMAP`). -/
def laneUp (st : Nat) : Bool := st == 5 || st == 7 || st == 8

/-- The three taps of a transmit preset (R222): pre-cursor, main and post-cursor magnitudes. -/
def presetTaps (p : Nat) : Nat × Nat × Nat :=
  match p with
  | 0 => (0, 64, 0) | 1 => (0, 56, 8) | 2 => (0, 52, 12) | 3 => (0, 48, 16)
  | 4 => (4, 50, 10) | 5 => (4, 46, 14) | 6 => (8, 46, 10) | _ => (8, 42, 14)

/-- The timeout of EQUALIZE at rate code `r` in ms (R215, R246). -/
def eqTimeout (r : Nat) : Nat := if r ≤ 3 then 2 else 20

/-- Re-derive `LNP_TMO.EQ` of lane `n` for rate code `r` at the basic level (R246). -/
def deriveEq (n r : Nat) (s : State) : State :=
  if expertOn s LNP_LEVEL.EXPERT then s else s.set LNP_TMO.EQ (eqTimeout r) n

/-- The preset that the partner last requested becomes the one in use; its taps show in `LNP_TXFIR` at the basic level
(R221, R246). -/
def applyPreset (n p : Nat) (s : State) : State :=
  let s1 := s.setLane n { s.lane n with txPreset := p }
  if expertOn s LNP_LEVEL.EXPERT then s1
  else
    let t := presetTaps p
    ((s1.set LNP_TXFIR.PRE t.1 n).set LNP_TXFIR.MAIN t.2.1 n).set LNP_TXFIR.POST t.2.2 n

/-- The exchange counters of a lane at the entry to a training state. -/
def freshExchange (u : LaneSt) : LaneSt :=
  { u with
    rxRun := 0
    ackRun := 0
    echoRun := 0
    seen := 0
    sent := 0
    ack := false
    selOffer := 0
    switching := false
    tail := 0
    reqRun := 0
    trials := []
    best := none
    trying := false }

/-- The points of a sweep along one axis (R238): from `lo` to `hi` in steps of `step`, where 0 acts as 1. -/
def sweepCount (lo hi : Int) (step : Nat) : Nat :=
  if hi < lo then 0 else ((hi - lo).toNat / max 1 step) + 1

/-- The number of points of the sweep configured on lane `n` (R238). -/
def sweepPoints (s : State) (n : Nat) : Nat :=
  sweepCount (signedOf 7 (s.get LNP_ESCFG.VMIN n)) (signedOf 7 (s.get LNP_ESCFG.VMAX n)) (s.get LNP_ESCFG2.VSTEP n) *
    sweepCount (signedOf 6 (s.get LNP_ESCFG.HMIN n)) (signedOf 6 (s.get LNP_ESCFG.HMAX n)) (s.get LNP_ESCFG2.HSTEP n)

/-- Start a sweep on lane `n`. -/
def beginSweep (n : Nat) (s : State) : State :=
  let s1 := s.setLane n { s.lane n with eye := [], sweepWait := false }
  ((s1.set LNP_ESSTAT.RUNNING 1 n).set LNP_ESSTAT.DONE 0 n).set LNP_ESSTAT.POINT 0 n

/-- Lane `n` enters state `st` (R215, R243): the producers and records of the entry, the rate of DETECT, and what the
state forgets. -/
def enterLane (n st : Nat) (s : State) : State :=
  let old := laneState s n
  let s1 := if laneUp old && !laneUp st && st != 9 then s.fire (0x030 + n) else s
  let u := freshExchange (s1.lane n)
  let u1 := if st == 7 then u else { u with rxQuiet := false, txQuiet := false, deepAsk := false }
  let u2 := if st == 5 || st == 7 || st == 8 || st == 9 || st == 4 then u1
    else { u1 with member := false, looping := false, matchRun := 0, missRun := 0 }
  let u3 := if st ≤ 1 then { u2 with txPreset := 0, req := 0, lastReq := 0 } else u2
  let s1b := s1.setLane n u3
  let s2 := (if old == 3 && st != 3 && u3.sweepWait then beginSweep n s1b else s1b).set LNP_STAT.STATE st n
  match st with
  | 0 => ((s2.set LNP_STAT.RATE 0 n).set LNP_STAT.LOCK 0 n).set LNP_STAT.READY 0 n
  | 1 => applyPreset n 0 ((((s2.set LNP_STAT.RATE 1 n).set LNP_STAT.LOCK 0 n).set LNP_STAT.READY 0 n).set LNP_STAT.RXINV 0 n)
  | 5 =>
    if old == 4 || old == 6 then
      let s3 := ((s2.set LNP_STAT.BACKOFFK 0 n).set LNP_STAT.READY 0 n).fire (0x020 + n)
      if old == 4 then
        (s3.setLane n { s3.lane n with basePend := true, member := true }).log 0x0508
          [n, s3.get LNP_STAT.RATE n, s3.get LNP_STAT.PRESET n]
      else s3.setLane n { s3.lane n with member := true }
    else s2
  | 6 => deriveEq n (s2.get LNP_STAT.RATE n) ((s2.set LNP_STAT.READY 0 n).set LNP_STAT.LOCK 0 n)
  | 8 => s2.set LNP_STAT.LOCK 0 n
  | 10 => (s2.set LNP_STAT.LOCK 0 n).set LNP_STAT.READY 0 n
  | _ => s2

/-- Lane `n` starts DETECT when its quad is released and `RATEMAX` is not 0; otherwise it stays or goes OFF (R215, R244). -/
def startDetect (n : Nat) (s : State) : State :=
  if !laneExists s n || quadHeld s n || s.get LNP_CFG.RATEMAX n == 0 then enterLane n 0 s else enterLane n 1 s

/-- A training failure of lane `n` with a reason (R226): counted, its state and reason stored, logged on the first of a
run of failures, and the lane in BACKOFF. -/
def trainFail (n reason : Nat) (s : State) : State :=
  let st := laneState s n
  let k := s.get LNP_STAT.BACKOFFK n
  let s1 := ((s.count LNP_TRNFAIL.COUNT n).set LNP_TRNFAIL.STATE st n).set LNP_TRNFAIL.REASON reason n
  let s2 := enterLane n 10 (s1.set LNP_STAT.BACKOFFK (min 15 (k + 1)) n)
  if k == 0 then s2.log 0x0501 [n, st, reason] else s2

/-- The back-off time in ms after the `k`-th failure (R226). -/
def backoffMs (s : State) (n k : Nat) : Nat :=
  min (s.get LNP_TMO2.BACKMIN n * 2 ^ (k - 1)) (s.get LNP_TMO2.BACKMAX n)

/-- Retrain lane `n` (R245): DETECT at once without counting a failure; from DEEP the lane wakes first. -/
def retrainLane (n : Nat) (s : State) : State :=
  let st := laneState s n
  if st == 0 then s
  else
    let s1 := s.set LNP_STAT.BACKOFFK 0 n
    if st == 8 then
      let s2 := enterLane n 9 s1
      s2.setLane n { s2.lane n with retrain := true }
    else startDetect n s1

/-- A quad reset reaches lane `n` (R248): OFF, with `LNP_STAT`, `LNP_MARGIN` and any sweep or loopback cleared. -/
def quadResetLane (n : Nat) (s : State) : State :=
  let s1 := enterLane n 0 s
  let s2 := ((s1.set LNP_STAT.reg 0 n).set LNP_MARGIN.reg 0 n).set LNP_MARGIN2.reg 0 n
  let s3 := (s2.set LNP_ESSTAT.reg 0 n).set LNP_LOOP.MODE 0 n
  s3.setLane n {}

/-- What a receiver has counted on a lane since the last command: invalid headers, one-bit type errors, bad types, SKIP
blocks deleted and inserted (R207, R209, R211). -/
def noteLane (nt : Sys2Proof.LinkNote) (s : State) : State :=
  let n := nt.lane.val
  if !laneExists s n then s
  else
    let s1 := (s.count LNP_BADHDR.COUNT n 0 nt.badHdr).count LNP_TYPECNT.FIXED n 0 nt.fixed
    let s2 := s1.count LNP_TYPECNT.BAD n 0 nt.bad
    (s2.count LNP_EBADJ.DEL n 0 nt.del).count LNP_EBADJ.INS n 0 nt.ins

/-- The control block types of R208. -/
def blockTypes : List Nat := [0x1E, 0x2D, 0x33, 0x4B, 0x55, 0x66, 0x78, 0x87]

/-- The number of bits in which two bytes differ. -/
def bitDiff (a b : Nat) : Nat := ((List.range 8).filter (fun k => bitAt a k != bitAt b k)).length

/-- The type that a received type byte is taken as (R209): the code itself, or the one code that differs in one bit. -/
def typeOf (b : Nat) : Option Nat := blockTypes.find? (fun c => bitDiff b c ≤ 1)

/-- The number of the test bits that `LNP_INJ` holds at `kind`, sent once (R242); the bit reads 0 again. -/
def injectFault (n kind : Nat) (s : State) : State :=
  if laneExists s n then s.emit (.injected n kind) else s

/-- WARNPCT as it acts: values outside 26-100 act as 75 (`LNP_MONCFG`). -/
def warnPct (s : State) (n : Nat) : Nat :=
  let w := s.get LNP_MONCFG.WARNPCT n
  if 26 ≤ w && w ≤ 100 then w else 75

/-- Re-derive the margin thresholds of lane `n` at the basic level (R246). -/
def deriveMargin (n : Nat) (s : State) : State :=
  if expertOn s LNP_LEVEL.EXPERT then s
  else
    let v := s.flag LNP_MARGIN2.BASEVALID n
    let h := if v then s.get LNP_MARGIN.BASEH n else 0
    let w := if v then s.get LNP_MARGIN.BASEV n else 0
    let p := warnPct s n
    let a := max (p - 25) 25
    let s1 := (s.set LNP_MONTH.WARNH (ceilDiv (h * p) 100) n).set LNP_MONTH.WARNV (ceilDiv (w * p) 100) n
    (s1.set LNP_MONTH2.ALARMH (ceilDiv (h * a) 100) n).set LNP_MONTH2.ALARMV (ceilDiv (w * a) 100) n

/-- End every sweep and loopback (R130, R240): a lane that was looped enters DETECT. -/
def endLaneTests (s : State) : State :=
  (List.range 16).foldl (fun t n =>
    let t1 := t.setLane n { t.lane n with sweepWait := false }
    let t2 := if t1.flag LNP_ESSTAT.RUNNING n then t1.set LNP_ESSTAT.RUNNING 0 n else t1
    if t2.get LNP_LOOP.MODE n != 0 then startDetect n ((t2.set LNP_LOOP.MODE 0 n).set LNP_PRBS.reg 0 n) else t2) s

end Sys2Proof.Machine
end

