-- ==== Sys2Proof/Machine/Clp.lean ====
section
/-! DEFINITION. Camera groups and packets (chapter 8): the group state machine, the reliable class, packet checks, frames
and their truncation, and what the down-link sends. -/

namespace Sys2Proof.Machine

/-! ### Groups and lanes -/

/-- The hidden state of the group with lead lane `g`. -/
def State.group (s : State) (g : Nat) : GroupSt := tget {} s.groups g

/-- `s` with the hidden state of group `g` replaced. -/
def State.setGroup (s : State) (g : Nat) (u : GroupSt) : State := { s with groups := tput {} s.groups g u }

/-- The state of group `g` (R261): 0 DOWN, 1 FORMING, 2 LINKED, 3 DISCOVERED. -/
def groupState (s : State) (g : Nat) : Nat := s.get CLP_GSTAT.STATE g

/-- The lanes of the block of group `g`. -/
def blockLanes (s : State) (g : Nat) : List Nat :=
  ((List.range (2 ^ min 3 (s.get CLP_GSTAT.WIDTH g))).map (fun k => g + k)).filter (fun n => n < 16)

/-- The group that runs on lane `n`: the one whose block holds it. -/
def runningGroup (s : State) (n : Nat) : Option Nat :=
  (List.range 16).find? (fun g => groupState s g != 0 && (blockLanes s g).contains n)

/-- The rate that lane `n` must offer alone because its group runs (R220, R252). -/
def forcedRate (s : State) (n : Nat) : Option Nat := (runningGroup s n).map (fun g => (s.group g).rate)

/-- The lanes of group `g` that have been admitted and not lost. -/
def memberLanes (s : State) (g : Nat) : List Nat := (blockLanes s g).filter (fun n => (s.lane n).member)

/-- The set of camera lane indices of the lanes `ns`. -/
def indexSet (s : State) (ns : List Nat) : Nat := ns.foldl (fun m n => m ||| 2 ^ (s.get CLP_LSTAT.INDEX n % 8)) 0

/-- The indices that the grabber receives deskewed: its RXOK (R257). -/
def rxokOf (s : State) (g : Nat) : Nat := indexSet s ((blockLanes s g).filter (fun n => s.flag CLP_LSTAT.DESKEW n))

/-- The lane bits TXACT and RXACT follow the stripe sets of group `g`. -/
def syncLanes (g : Nat) (s : State) : State :=
  let tx := s.get CLP_GSTAT.TXSET g
  let rx := s.get CLP_GSTAT.RXSET g
  (blockLanes s g).foldl (fun t n =>
    let k := t.get CLP_LSTAT.INDEX n % 8
    let m := (t.lane n).member
    (t.set CLP_LSTAT.TXACT (b2n (m && bitAt tx k)) n).set CLP_LSTAT.RXACT (b2n (m && bitAt rx k)) n) s

/-- The block period of a rate code in ps (R203). -/
def blockPs (r : Nat) : Nat :=
  match r with
  | 1 => 52800 | 2 => 26400 | 3 => 13200 | 4 => 6600 | 5 => 5280 | 6 => 3300 | _ => 52800

/-- The number of bits set in the low 8 bits of `v`. -/
def popCount8 (v : Nat) : Nat := ((List.range 8).filter (fun k => bitAt v k)).length

/-- The derived replay timeout of R292 in units of 16 ns, for rate code `r` and `a` stripe lanes. -/
def derivedRto (r a : Nat) : Nat := ceilDiv (20000000 + 2 * ceilDiv 514 (max 1 a) * blockPs r) 16000

/-- Re-derive the expert fields of group `g` at the basic level (R292). -/
def deriveGroup (g : Nat) (s : State) : State :=
  if expertOn s CLP_LEVEL.EXPERT then s
  else
    let a := popCount8 (s.get CLP_GSTAT.RXSET g)
    let p := s.get CLP_RELCFG.PATIENCE g
    let s1 := s.set CLP_RTO.RTO (derivedRto (s.group g).rate a) g
    let s2 := (s1.set CLP_ACKCFG.ACKCNT (s.get CLP_RELCFG.ACKCOAL g + 1) g).set CLP_ACKCFG.ACKDLY 10 g
    (s2.set CLP_ACKCFG.REPLAYMAX (if p == 0 then 4 else p) g).set CLP_ACKCFG.ALIGNINT 64 g

/-- Why lane `n` is refused in BOND (R251), 0 for none: its index or block lies outside what its WIDTH implies, its index
is taken, or its tag, rate or width differs from those of the group that runs on its block. -/
def refusalCause (s : State) (n : Nat) : Nat :=
  let code := s.get LNP_PARTNER.WIDTH n
  let w := 2 ^ min 3 code
  let g := n / w * w
  let idx := s.get LNP_PARTNER.LANE n
  if 3 < code || w ≤ idx || !laneExists s (g + w - 1) then 1
  else
    match ((List.range w).map (fun k => runningGroup s (g + k))).find? (·.isSome) with
    | some (some h) =>
      if (blockLanes s h).any (fun m => m != n && s.get CLP_LSTAT.GROUP m == h && 4 ≤ laneState s m &&
          laneState s m ≤ 9 && s.get CLP_LSTAT.INDEX m == idx) then 2
      else if s.get LNP_PARTNER.GROUPTAG n != (s.group h).tag then 3
      else if s.get LNP_STAT.RATE n != (s.group h).rate then 4
      else if code != s.get CLP_GSTAT.WIDTH h then 5
      else 0
    | _ => 0

/-- Lane `n` has entered BOND (R251, R252, R261): it is refused, or it joins the group that runs on its block, or forms
one. -/
def bondLane (n : Nat) (s : State) : State :=
  let cause := refusalCause s n
  if cause != 0 then trainFail n 5 (s.log 0x0602 [n, cause])
  else
    let idx := s.get LNP_PARTNER.LANE n
    match runningGroup s n with
    | some g => (s.set CLP_LSTAT.GROUP g n).set CLP_LSTAT.INDEX idx n
    | none =>
      let w := 2 ^ s.get LNP_PARTNER.WIDTH n
      let g := n / w * w
      let s1 := ((s.set CLP_LSTAT.GROUP g n).set CLP_LSTAT.INDEX idx n).set CLP_GSTAT.reg 0 g
      let s2 := (s1.set CLP_GSTAT.STATE 1 g).set CLP_GSTAT.WIDTH (s.get LNP_PARTNER.WIDTH n) g
      deriveGroup g (s2.setGroup g {
        rate := s.get LNP_STAT.RATE n
        tag := s.get LNP_PARTNER.GROUPTAG n
        nextTrig := (s.group g).nextTrig
        nextPing := (s.group g).nextPing })

/-- The reliable class of group `g` starts afresh (R275). -/
def clearReliable (g : Nat) (s : State) : State :=
  let u := s.group g
  let s1 := s.setGroup g { u with
    buffer := []
    replayQ := []
    replays := 0
    busyWait := false
    nakSent := false
    unacked := 0
    ackDue := none
    trigQ := []
    timeDue := none
    pingDue := false
    rspDue := false
    ctrlDue := none
    trigs := []
    pings := [] }
  ((s1.set CLP_SEQ.reg 0 g).set CLP_SEQ2.OUT 0 g).set CLP_SEQ2.ACKD 0xFFF g

/-! ### Frames of a camera (R272-R274, R294) -/

/-- The enabled stream of group `g` and camera stream `vsid` (R290); the lowest when several name it. -/
def streamFor (s : State) (g vsid : Nat) : Option Nat :=
  (List.range 64).find? (fun st =>
    s.flag CLP_STREAM0.EN st && s.get CLP_STREAM0.GROUP st == g && s.get CLP_STREAM0.VSID st == vsid)

/-- The enabled streams of group `g`. -/
def groupStreams (s : State) (g : Nat) : List Nat :=
  (List.range 64).filter (fun st => s.flag CLP_STREAM0.EN st && s.get CLP_STREAM0.GROUP st == g)

/-- One packet discarded by R112, R115 or R290. -/
def discardPkt (s : State) : State := s.count CLP_DISCARD.COUNT

/-- The open frame of stream `st` closes with DAMAGE `damage` and the flag bits `extra` (R272-R274, R294). A frame
without a delivered FRAME_START carries `T_EXP` = `T_TRIG` and is DAMAGED. -/
def closeClpFrame (st damage extra : Nat) (s : State) : State :=
  match openFrame s st with
  | none => s
  | some f0 =>
    let f := if f0.started then f0 else { f0 with tExp := f0.tTrig, expNs := 0 }
    let bad := damage != 0 || !f.started
    let missing := countMissing f (s.get CLP_STREAM1.LINEBYTES st)
    let s1 := closeFeed f.id (min damage 0xFFFF) missing (extra ||| (if bad then 2 else 0)) (s.setFeed f)
    let s2 : State := { s1 with src := { s1.src with closed := tput 0 s1.src.closed st (f.frame % 2 ^ 16 + 1) } }
    let s3 := s2.fire (0x0D0 + st)
    if damage != 0 then (s3.count CLP_STREAM3.DAMAGED st).logSec 0x0607 st [st, min damage 0xFFFF] else s3

/-- The open frame of stream `st` is ended early by the grabber with a cause (R294). -/
def truncateClp (st cause : Nat) (s : State) : State :=
  match openFrame s st with
  | none => s
  | some f =>
    if f.src != 0 then s
    else ((closeClpFrame st f.damage 1 s).count CLP_STREAM3.TRUNC st).log 0x0606 [st, cause]

/-- The trigger of stream `st` that group `g` sent last. -/
def lastTrig (s : State) (g st : Nat) : Option TrigSt := (s.group g).trigs.find? (fun t => t.streams.contains st)

/-! ### Closing a group's work (R280, R293) -/

/-- The mailbox request in progress completes with a status (R287). -/
def endMailbox (g status : Nat) (s : State) : State :=
  if s.flag CLP_CCCTL.BUSY g then
    let s1 := (s.set CLP_CCCTL.BUSY 0 g).set CLP_CCCTL.STATUS status g
    if status == 0 then s1 else s1.log 0x060A [g, status]
  else s

/-- The trigger consumers of the group's streams become idle; `count` says whether their triggers are counted as dropped
(R280, R293). -/
def idleTriggers (g : Nat) (count : Bool) (s : State) : State :=
  (groupStreams s g).foldl (fun t st =>
    if conBusy t st then
      let t1 := setBusy st false t
      if count then countDropped 1 t1 else t1
    else t) s

/-- End the frames, the mailbox request, the triggers and the reliable state of group `g` (R280, R293). -/
def closeGroup (g cause mail : Nat) (count : Bool) (s : State) : State :=
  let s1 := (groupStreams s g).foldl (fun t st => truncateClp st cause t) s
  clearReliable g (idleTriggers g count (endMailbox g mail s1))

/-- Group `g` reaches DOWN (R261, R293): its frames end with cause 4, its lanes leave it, and lanes in REJOIN fail with
reason READMIT (R225). -/
def groupDown (g : Nat) (s : State) : State :=
  let ns := blockLanes s g
  let s1 := closeGroup g 4 11 false s
  let s2 := s1.set CLP_GROUPMAP.DISC (putBits (s1.get CLP_GROUPMAP.DISC) g g 0)
  let s3 := ns.foldl (fun t n => if t.get CLP_LSTAT.GROUP n == g then t.set CLP_LSTAT.reg 0 n else t) s2
  let s4 := (s3.set CLP_GSTAT.reg 0 g).set CLP_LINKDLY.reg 0 g
  let s5 := s4.setGroup g { nextTrig := (s4.group g).nextTrig, nextPing := (s4.group g).nextPing, nextTag := (s4.group g).nextTag }
  ns.foldl (fun t n => if laneState t n == 6 then trainFail n 6 t else t) s5

/-- The group of a lane is checked after the lane has left BOND or a later state (R261). -/
def groupCheck (g : Nat) (s : State) : State :=
  match groupState s g with
  | 0 => s
  | 1 => if (blockLanes s g).any (fun n => laneState s n == 4 && s.get CLP_LSTAT.GROUP n == g) then s else groupDown g s
  | _ => if memberLanes s g == [] then groupDown g s else syncLanes g s

/-- Lane `n` no longer carries its group's traffic (R258, R260, R261). -/
def laneLost (n : Nat) (s : State) : State :=
  let g := s.get CLP_LSTAT.GROUP n
  let s1 := (s.set CLP_LSTAT.DESKEW 0 n).setLane n { s.lane n with member := false, matchRun := 0, missRun := 0 }
  groupCheck g s1

/-- The deskewed lanes of group `g` in BOND are admitted (R261, R262). -/
def admitLanes (g : Nat) (s : State) : State :=
  (blockLanes s g).foldl (fun t n =>
    if laneState t n == 4 && t.flag CLP_LSTAT.DESKEW n then enterLane n 5 t else t) s

/-- The admitted lanes that the partner receives: the grabber's TXSET (R260, R261). -/
def txsetOf (s : State) (g : Nat) : Nat := indexSet s (memberLanes s g) &&& s.get CLP_GSTAT.RXOK g

/-- Group `g` enters LINKED (R261). -/
def groupLinked (g : Nat) (s : State) : State :=
  let s1 := admitLanes g (s.set CLP_GSTAT.STATE 2 g)
  syncLanes g (s1.set CLP_GSTAT.TXSET (txsetOf s1 g) g)

/-- The link of group `g` is declared failed (R280). -/
def linkFail (g : Nat) (s : State) : State :=
  let u := s.group g
  let oldest := match u.buffer with | p :: _ => p.seq | [] => s.get CLP_SEQ.TXNEXT g
  let s1 := (s.count CLP_LOST.COUNT g 0 u.buffer.length).count CLP_RELCNT.LINKFAIL g
  let s2 := closeGroup g 3 9 true s1
  let s3 := s2.log 0x0601 [g, oldest]
  let ns := blockLanes s3 g
  let s4 := ns.foldl (fun t n => retrainLane n t) s3
  groupCheck g s4

/-! ### Packets (R266-R270) -/

/-- A packet without its CRC. -/
def mkPkt (ty flags num sub aux : Nat) (payload : List Nat) : List Nat :=
  [ty * 16 + flags] ++ leBytes 2 num ++ [sub % 256] ++ leBytes 2 payload.length ++ leBytes 2 aux ++ payload

/-- A packet with its CRC (R267). -/
def sealPkt (bs : List Nat) : List Nat := bs ++ leBytes 4 (crc32c bs)

/-- TYPE, FLAGS, NUM, SUB, LEN and AUX of a packet (R266). -/
def pktType (p : List Nat) : Nat := byteAt p 0 / 16 % 16
def pktFlags (p : List Nat) : Nat := byteAt p 0 % 8
def pktNum (p : List Nat) : Nat := leNat (sliceOf p 1 2)
def pktSub (p : List Nat) : Nat := byteAt p 3 % 256
def pktLen (p : List Nat) : Nat := leNat (sliceOf p 4 2)
def pktAux (p : List Nat) : Nat := leNat (sliceOf p 6 2)

/-- The little-endian number of `n` payload bytes from `k` on. -/
def payNat (p : List Nat) (k n : Nat) : Nat := leNat (sliceOf p (8 + k) n)

/-- The up-link packets of the reliable class (R268). -/
def relType (t : Nat) : Bool := t == 7 || t == 0xA || t == 0xB || t == 0xC

/-- Whether the CRC of a packet holds (R267). -/
def crcOk (p : List Nat) : Bool :=
  12 ≤ p.length && crc32c (p.take (p.length - 4)) == leNat (p.drop (p.length - 4))

/-- Whether a packet is one that a camera may send: TYPE, direction, LEN and PROTO (R266, R268, R270). -/
def legalUp (p : List Nat) : Bool :=
  let n := pktLen p
  match pktType p with
  | 0 => n == 0
  | 1 => n == 0
  | 3 => n == 4
  | 4 => n == 32 && byteAt p 20 == 1
  | 7 => n == 4 || n == 4 + 4 * pktAux p
  | 0xA => n == 8
  | 0xB => n == 24
  | 0xC => n == 12
  | 0xD => 8 ≤ n && n ≤ 4096 && n % 4 == 0
  | _ => false

/-- A NAK is called for, unless one has been sent since RXNEXT advanced (R276). -/
def askReplay (g : Nat) (s : State) : State :=
  let u := s.group g
  if groupState s g != 3 || u.nakSent then s else s.setGroup g { u with nakSent := true, ackDue := some 1 }

/-- Take a received packet through the checks of R265, R270 and R296, and pass it to `f` when its TYPE is `ty`. -/
def takePacket (g ty : Nat) (p : List Nat) (f : State → State) (s : State) : State :=
  let lost := fun t : State => if relType (pktType p) then askReplay g t else t
  if p.length != 12 + pktLen p then lost (s.count CLP_BADPKT.PROTO g)
  else if !crcOk p then lost (s.count CLP_BADPKT.CRC g)
  else if !legalUp p then
    let (why, s1) := (s.count CLP_BADPKT.PROTO g).free 32
    lost (s1.logSec 0x060B g [g, pktType p, why])
  else if groupState s g != 3 && pktType p != 4 then s.count CLP_BADPKT.PROTO g
  else if groupState s g < 2 then s
  else if pktType p != ty then s
  else f s

/-- An acknowledgement is due after an acceptance (R277). -/
def noteAccepted (g : Nat) (s : State) : State :=
  let u := s.group g
  if max 1 (s.get CLP_ACKCFG.ACKCNT g) ≤ u.unacked + 1 then
    s.setGroup g { u with unacked := 0, ackDue := some (u.ackDue.getD 0) }
  else s.setGroup g { u with unacked := u.unacked + 1 }

/-- A reliable packet by its SEQ (R276): accepted and passed to `f`, ahead, or behind. -/
def relReceive (g : Nat) (p : List Nat) (f : State → State) (s : State) : State :=
  let rx := s.get CLP_SEQ.RXNEXT g
  let d := (4096 - rx + pktNum p % 4096) % 4096
  if d == 0 then
    let s1 := s.set CLP_SEQ.RXNEXT ((rx + 1) % 4096) g
    f (noteAccepted g (s1.setGroup g { s1.group g with nakSent := false }))
  else if d ≤ 2047 then askReplay g s
  else
    let s1 := s.count CLP_DUP.COUNT g
    let u := s1.group g
    s1.setGroup g { u with ackDue := some (u.ackDue.getD 0) }

/-! ### Acknowledgement and replay (R278, R279) -/

/-- Every unacknowledged packet of group `g` is to be sent again, in SEQ order; `counted` replays count toward the limit
of R280. -/
def startReplay (g : Nat) (counted : Bool) (s : State) : State :=
  let u := s.group g
  if u.buffer == [] then s
  else if counted && max 1 (s.get CLP_ACKCFG.REPLAYMAX g) ≤ u.replays then linkFail g s
  else s.setGroup g { u with
    replayQ := u.buffer.map (fun p => p.seq)
    replays := if counted then u.replays + 1 else u.replays
    busyWait := false }

/-- An ACK or NAK of `n` at group `g` (R278): packets up to `n` are freed; the answer says whether `n` lay in the
window. -/
def acknowledge (g n : Nat) (s : State) : Bool × State :=
  let ackd := s.get CLP_SEQ2.ACKD g
  let out := s.get CLP_SEQ2.OUT g
  let e := (4096 - ackd + n % 4096) % 4096
  if 1 ≤ e && e ≤ out then
    let u := s.group g
    let keep := u.buffer.drop e
    let s1 := s.setGroup g { u with
      buffer := keep
      replays := 0
      replayQ := u.replayQ.filter (fun q => keep.any (fun p => p.seq == q)) }
    (true, (s1.set CLP_SEQ2.ACKD (n % 4096) g).set CLP_SEQ2.OUT (out - e) g)
  else (false, (s.count CLP_RELCNT.STALEACK g).logSec 0x060E g [g, n % 4096])

/-! ### The down-link (R281-R286) -/

/-- The payload of a TIME packet: the time at which it reaches the camera (R285). -/
def timePayload (s : State) (g : Nat) : List Nat :=
  let ns := (s.now + s.get CLP_LINKDLY.DLY g * 2 ^ 24) / subNs
  leBytes 4 (ns % 1000000000) ++ leBytes 4 (ns / 1000000000) ++ leBytes 4 (ns / 1000000000 / 2 ^ 32)

/-- The bytes of a stored reliable packet as they go out: its SEQ, RPL, and for TIME a fresh value (R267, R285). -/
def outBytes (s : State) (g : Nat) (p : RelPkt) (rpl : Bool) : List Nat :=
  let b0 := byteAt p.bytes 0 % 8 + byteAt p.bytes 0 / 16 * 16 + (if rpl then 8 else 0)
  let body := if p.isTime then timePayload s g else p.bytes.drop 8
  [b0] ++ leBytes 2 p.seq ++ sliceOf p.bytes 3 5 ++ body

/-- A TRIGGER goes out once more (R274). -/
def noteTrigSent (g : Nat) (p : RelPkt) (s : State) : State :=
  match p.trig with
  | none => s
  | some id =>
    let u := s.group g
    s.setGroup g { u with trigs := u.trigs.map (fun t => if t.id == id then { t with sends := t.sends + 1 } else t) }

/-- A new reliable packet is sent (R275, R281): it takes the next SEQ and stays in the replay buffer. -/
def sendNew (g : Nat) (p0 : RelPkt) (s : State) : State :=
  let seq := s.get CLP_SEQ.TXNEXT g
  let p := { p0 with seq := seq }
  let u := s.group g
  let s1 := s.setGroup g { u with buffer := u.buffer ++ [p] }
  let s2 := (s1.set CLP_SEQ.TXNEXT ((seq + 1) % 4096) g).set CLP_SEQ2.OUT (s.get CLP_SEQ2.OUT g + 1) g
  noteTrigSent g p (s2.emit (.clpPacket g (sealPkt (outBytes s2 g p false))))

/-- The DISC_RSP of group `g` (R269). -/
def discRsp (s : State) (g : Nat) : List Nat :=
  let dev := match s.fuses.variant with | .f => 0x1600 | .s => 0x1601 | .e => 0x1602
  mkPkt 5 0 0 0 0 (leBytes 2 0x1F9E ++ leBytes 2 dev ++ leBytes 8 s.fuses.dsn ++ [1, g] ++
    leBytes 2 (if s.flag DRL_NODE.VALID then s.get DRL_NODE.ID else 0xFFFF) ++ leBytes 2 4096 ++
    leBytes 2 (s.group g).maxDl ++ leBytes 2 128 ++ [(s.group g).rate, (memberLanes s g).length] ++ List.replicate 8 0)

/-- A TRIGGER of group `g` for `streams` is queued (R283, R284): TRIGID advances from 0 to 0xFFFE and wraps. The lead of
the lowest stream applies to all of one TRIGGER (log entry 30). -/
def queueTrigger (g : Nat) (streams : List Nat) (lat : Latch) (s : State) : State :=
  let u := s.group g
  let id := u.nextTrig
  let lead := match streams with | st :: _ => s.get CLP_STREAM2.ACTLEAD st | [] => 0
  let mask := streams.foldl (fun m st => m ||| 2 ^ s.get CLP_STREAM0.VSID st) 0
  let act := if lead == 0 then 0 else shortForm (shortNs lat.time + lead)
  let p : RelPkt := {
    seq := 0
    bytes := mkPkt 8 (if lead == 0 then 0 else 1) 0 mask id (leBytes 8 lat.time ++ leBytes 8 act)
    trig := some id }
  let old := u.trigs.map (fun t => { t with streams := t.streams.filter (fun x => !streams.contains x) })
  s.setGroup g { u with
    nextTrig := if id == 0xFFFE then 0 else id + 1
    trigQ := u.trigQ ++ [p]
    trigs := { id := id, time := lat.time, streams := streams, flags := lat.flags } ::
      old.filter (fun t => t.streams != []) }

/-- The down-link of the lanes of group `g` leaves QUIET (R230). -/
def leaveTxQuiet (g : Nat) (s : State) : State :=
  (memberLanes s g).foldl (fun t n =>
    if laneState t n == 7 && (t.lane n).txQuiet then
      let t1 := t.setLane n { t.lane n with txQuiet := false, deepAsk := false }
      if (t1.lane n).rxQuiet then t1 else enterLane n 5 t1
    else t) s

/-- Whether the down-link of group `g` can carry a packet now: a lane of it is LINKED or QUIET. -/
def downlinkUp (s : State) (g : Nat) : Bool :=
  2 ≤ groupState s g && (memberLanes s g).any (fun n => laneState s n == 5 || laneState s n == 7)

/-- Whether a packet waits for the down-link of group `g`. -/
def downlinkWaits (s : State) (g : Nat) : Bool :=
  let u := s.group g
  u.trigQ != [] || u.ackDue.isSome || u.replayQ != [] || u.timeDue.isSome || u.pingDue || u.rspDue || u.ctrlDue.isSome

/-- The next packet of the down-link of group `g`, by the priorities of R281; a new reliable packet waits for the end of a
replay and while 128 are unacknowledged. -/
def txSelect (g : Nat) (s0 : State) : State :=
  if !downlinkUp s0 g || !downlinkWaits s0 g then s0
  else
    let s := leaveTxQuiet g s0
    let u := s.group g
    let room := u.replayQ == [] && !u.busyWait && s.get CLP_SEQ2.OUT g < 128
    match u.trigQ, room with
    | p :: rest, true => sendNew g p (s.setGroup g { u with trigQ := rest })
    | _, _ =>
      match u.ackDue with
      | some k =>
        let n := (s.get CLP_SEQ.RXNEXT g + 4095) % 4096
        let s1 := (s.setGroup g { u with ackDue := none, unacked := 0 }).emit (.clpPacket g (sealPkt (mkPkt k 0 n 0 0 [])))
        if k == 1 then s1.count CLP_RELCNT.NAKTX g else s1
      | none =>
        match u.replayQ with
        | q :: rest =>
          let s1 := s.setGroup g { u with replayQ := rest }
          match u.buffer.find? (fun p => p.seq == q) with
          | some p =>
            noteTrigSent g p ((s1.count CLP_REPLAYS.COUNT g).emit (.clpPacket g (sealPkt (outBytes s1 g p true))))
          | none => s1
        | [] =>
          match u.timeDue, room with
          | some step, true =>
            let fl := b2n step + 2 * b2n s.unsync + 4 * s.get CLP_LINKDLY.VALID g
            sendNew g { seq := 0, bytes := mkPkt 9 fl 0 0 0 (List.replicate 12 0), isTime := true }
              (s.setGroup g { u with timeDue := none })
          | _, _ =>
            if u.rspDue then
              (s.setGroup g { u with rspDue := false, timeDue := some false }).emit
                (.clpPacket g (sealPkt (discRsp s g)))
            else if u.pingDue then
              let id := u.nextPing
              (s.setGroup g { u with pingDue := false, nextPing := (id + 1) % 2 ^ 16, pings := u.pings ++ [(id, s.elapsed)] }).emit
                (.clpPacket g (sealPkt (mkPkt 2 0 0 0 id [])))
            else
              match u.ctrlDue, room with
              | some p, true => sendNew g p (s.setGroup g { u with ctrlDue := none })
              | _, _ => s

/-- TIME is due on every group in DISCOVERED (R285). -/
def dueTime (step : Bool) (s : State) : State :=
  (List.range 16).foldl (fun t g =>
    if groupState t g == 3 then
      let u := t.group g
      t.setGroup g { u with timeDue := some (step || u.timeDue.getD false) }
    else t) s

end Sys2Proof.Machine
end

