-- ==== Sys2Proof/Machine/Lanes.lean ====
section
/-! DEFINITION. The commands of the camera lanes (chapter 7): training, low power, the margin monitor, eye scans,
loopbacks and error injection. -/

namespace Sys2Proof.Machine

/-! ### The training exchange (R216-R225) -/

/-- The rate codes that lane `n` offers in SPEED (R219, R220, R252). -/
def offeredRates (s : State) (n : Nat) : Nat :=
  match forcedRate s n with
  | some r => 2 ^ (r - 1)
  | none => 2 ^ min 6 (s.get LNP_CFG.RATEMAX n) - 1

/-- The highest rate code set in a mask (R219); 0 for none. -/
def highestRate (m : Nat) : Nat := ((List.range 6).filter (fun c => bitAt m c)).foldl (fun _ c => c + 1) 0

/-- The fields of a valid TRAIN block are stored (`LNP_PARTNER`, `LNP_STAT.PRESET`). -/
def storePartner (n : Nat) (b : List Nat) (s : State) : State :=
  let s1 := (s.set LNP_PARTNER.GROUPTAG (byteAt b 6) n).set LNP_PARTNER.LANE (byteAt b 5 % 16) n
  let s2 := (s1.set LNP_PARTNER.WIDTH (byteAt b 5 / 16 % 8) n).set LNP_PARTNER.LOOPCAP (byteAt b 2 / 64) n
  let s3 := (s2.set LNP_PARTNER.RATES (byteAt b 2) n).set LNP_PARTNER.ROLE (byteAt b 1 / 8) n
  s3.set LNP_STAT.PRESET (byteAt b 4 / 16) n

/-- The presets that lane `n` tries in AUTO (R223). -/
def trialList (s : State) (n : Nat) : List Nat :=
  (List.range 8).filter (fun p => bitAt (s.get LNP_PRESETS.MASK n) p)

/-- Lane `n` begins the EQUALIZE exchange, in EQUALIZE, REJOIN or WAKE (R221, R223, R225): P0 at 5.0 Gb/s and below, the
preset of FIXED, or the first preset to try; REJOIN and WAKE start from the preset held. -/
def beginEqualize (n : Nat) (s : State) : State :=
  let u := s.lane n
  let st := laneState s n
  if s.get LNP_STAT.RATE n ≤ 3 then s.setLane n { u with req := 0 }
  else if st != 3 then s
  else if s.flag LNP_EQBASIC.MODE n then s.setLane n { u with req := s.get LNP_EQBASIC.PRESET n }
  else
    match trialList s n with
    | p :: rest => s.setLane n { u with req := p, trials := rest, trying := true }
    | [] => s.setLane n { u with req := 0 }

/-- Lane `n` enters a training state and begins its exchange. -/
def enterTraining (n st : Nat) (s : State) : State :=
  let s1 := enterLane n st s
  if st == 3 || st == 6 || st == 9 then beginEqualize n s1 else s1

/-- A lane has left the state in which its group counted on it: BOND is entered (R224, R252). -/
def enterBond (n : Nat) (s : State) : State :=
  let s1 := (enterLane n 4 s).set CLP_LSTAT.DESKEW 0 n
  bondLane n (s1.setLane n { s1.lane n with matchRun := 0, missRun := 0 })

/-- One received block of the DETECT exchange (R218). -/
def trainDetect (n state ack : Nat) (s : State) : State :=
  let u := s.lane n
  if s.get LNP_PARTNER.ROLE n == 0 then trainFail n 4 s
  else if state != 1 then s.setLane n { u with rxRun := 0, ackRun := 0 }
  else
    let u1 := { u with
      rxRun := u.rxRun + 1
      ackRun := if ack == 1 then u.ackRun + 1 else 0
      sent := if u.ack then u.sent + 1 else 0
      ack := u.ack || 8 ≤ u.rxRun + 1 }
    if 8 ≤ u1.sent && 8 ≤ u1.ackRun then enterTraining n 2 s else s.setLane n u1

/-- The switch of SPEED ends, and the lane starts EQUALIZE at the selected rate (R219, R246). -/
def speedDone (n sel : Nat) (s : State) : State :=
  enterTraining n 3 (deriveEq n sel (s.set LNP_STAT.RATE sel n))

/-- One received block of the SPEED exchange (R219, R220). The grabber sends one block for each that it receives, since
both directions run at one rate (R204). -/
def trainSpeed (n state ack sel : Nat) (s : State) : State :=
  let u := s.lane n
  if u.switching then
    if u.tail ≤ 1 then
      if u.selOffer == 1 then speedDone n 1 s else s.setLane n { u with tail := 0 }
    else s.setLane n { u with tail := u.tail - 1 }
  else if s.get LNP_PARTNER.ROLE n == 0 then trainFail n 4 s
  else if state != 2 then s.setLane n { u with ackRun := 0, echoRun := 0 }
  else
    let seen := u.seen + 1
    let common := offeredRates s n &&& s.get LNP_PARTNER.RATES n
    if seen < 4 then s.setLane n { u with seen := seen }
    else if common == 0 then trainFail n 3 s
    else
      let offer := if u.selOffer == 0 then highestRate common else u.selOffer
      let echo := if sel == offer && ack == 1 && u.selOffer != 0 then u.echoRun + 1 else 0
      let u1 := { u with
        seen := seen
        selOffer := offer
        echoRun := echo
        ackRun := echo
        sent := if u.ack then u.sent + 1 else 0
        ack := u.ack || 8 ≤ echo }
      if 8 ≤ u1.sent && 8 ≤ u1.ackRun then s.setLane n { u1 with switching := true, tail := 16 } else s.setLane n u1

/-- The equalisation exchange of lane `n` is done (R221, R225, R233). -/
def equalizeDone (n : Nat) (s : State) : State :=
  let st := laneState s n
  if st == 6 then (s.set LNP_STAT.READY 1 n).setLane n { s.lane n with sent := 0, ackRun := 0 }
  else if (s.lane n).retrain then startDetect n (s.setLane n { s.lane n with retrain := false, member := false })
  else enterBond n s

/-- One received block of the EQUALIZE exchange, in EQUALIZE, REJOIN or WAKE (R221). A request seen in two consecutive
blocks is applied; with adaptation done for the requested preset in use, ACK is sent. -/
def trainEqualize (n state ack cur req : Nat) (s : State) : State :=
  let st := laneState s n
  let want := if st == 3 then 3 else 4
  let u := s.lane n
  if st == 6 && s.flag LNP_STAT.READY n then s
  else if state != want then s.setLane n { u with ackRun := 0, reqRun := 0 }
  else
    let reqRun := if req == u.lastReq then u.reqRun + 1 else 1
    let s1 := if 2 ≤ reqRun && req % 8 != u.txPreset then applyPreset n (req % 8) s else s
    let u1 := { s1.lane n with
      lastReq := req
      reqRun := reqRun
      ackRun := if ack == 1 then u.ackRun + 1 else 0
      sent := if u.ack then u.sent + 1 else 0
      ack := u.ack || (!u.trying && cur == u.req) }
    let s2 := s1.setLane n u1
    if 16 ≤ u1.sent && 8 ≤ u1.ackRun then equalizeDone n s2 else s2

/-- A TRAIN block received in LINKED: only the remote loopback uses it (R240). -/
def trainLoop (n state ack : Nat) (s : State) : State :=
  let m := s.get LNP_LOOP.MODE n
  if state == 5 && ((m == 2 && ack == 1) || m == 3) then s.setLane n { s.lane n with looping := true } else s

/-- The block breaks every count of consecutive TRAIN blocks (R217). -/
def breakRuns (n : Nat) (s : State) : State :=
  s.setLane n { s.lane n with rxRun := 0, ackRun := 0, echoRun := 0, reqRun := 0 }

/-- A block arrives on a lane in training: its type (R209), CHECK (R217), and its part in the exchange of the state the
lane is in. `inv` says that lock was found only with the pair inverted (R214). -/
def trainReceived (n : Nat) (b : List Nat) (inv : Bool) (s0 : State) : State :=
  let s := s0
  let st := laneState s n
  if st == 0 || st == 8 || st == 10 then s
  else
    match typeOf (byteAt b 0) with
    | none => breakRuns n (s.count LNP_TYPECNT.BAD n)
    | some ty =>
      let s1 := if ty == byteAt b 0 then s else s.count LNP_TYPECNT.FIXED n
      if ty != 0x55 then s1
      else if crc8 (0x55 :: sliceOf b 1 6) != byteAt b 7 then breakRuns n (s1.count LNP_TYPECNT.TRAINBAD n)
      else
        let s2 := storePartner n b (s1.set LNP_STAT.LOCK 1 n)
        let s3 := if st == 1 && inv then s2.set LNP_STAT.RXINV 1 n else s2
        let state := byteAt b 1 / 16
        let ack := byteAt b 1 / 4 % 2
        match st with
        | 1 => trainDetect n state ack s3
        | 2 => trainSpeed n state ack (byteAt b 3 % 8) s3
        | 3 => trainEqualize n state ack (byteAt b 4 / 16) (byteAt b 4 % 16) s3
        | 6 => trainEqualize n state ack (byteAt b 4 / 16) (byteAt b 4 % 16) s3
        | 9 => trainEqualize n state ack (byteAt b 4 / 16) (byteAt b 4 % 16) s3
        | 5 => trainLoop n state ack s3
        | _ => s3

/-- Lock is lost on lane `n` (R207, R225): in LINKED or QUIET the lane goes to REJOIN or DETECT and its group loses it. -/
def lockLost (n : Nat) (s : State) : State :=
  let st := laneState s n
  let s1 := (s.count LNP_LOCKCNT.LOSS n).set LNP_STAT.LOCK 0 n
  if st == 5 || st == 7 then
    let g := s.get CLP_LSTAT.GROUP n
    let others := (memberLanes s g).any (fun k => k != n && laneUp (laneState s k))
    let next := if others then 6 else 1
    let s2 := s1.log 0x0502 [n, next]
    let s3 := if others then enterTraining n 6 s2 else startDetect n s2
    laneLost n s3
  else breakRuns n s1

/-- A training state's timeout expires (R215, R224-R227). `lock` says whether the receiver has had block lock. -/
def trainTimeout (n : Nat) (lock : Bool) (s : State) : State :=
  let g := s.get CLP_LSTAT.GROUP n
  match laneState s n with
  | 1 => trainFail n (if lock || s.flag LNP_STAT.LOCK n then 2 else 1) s
  | 2 => trainFail n 2 s
  | 3 => trainFail n 2 s
  | 4 => groupCheck g (trainFail n 5 s)
  | 6 => trainFail n (if s.flag LNP_STAT.READY n then 6 else 2) s
  | 9 => groupCheck g (trainFail n 2 s)
  | _ => s

/-- One trial of AUTO ends with the opening measured and the values adapted (R223): the next preset, then the best, then
ACK. -/
def trialDone (n opening ctle dfe1 dfe2 dfe3 : Nat) (s : State) : State :=
  let u := s.lane n
  if laneState s n != 3 || !u.trying then s
  else
    let s1 := if expertOn s LNP_LEVEL.EXPERT then s
      else (((s.set LNP_RXEQ.CTLE ctle n).set LNP_RXEQ.DFE1 dfe1 n).set LNP_RXEQ.DFE2 dfe2 n).set LNP_RXEQ.DFE3 dfe3 n
    let best := match u.best with
      | some (o, p) => if o < opening then (opening, u.req) else (o, p)
      | none => (opening, u.req)
    match u.trials with
    | p :: rest => s1.setLane n { u with req := p, trials := rest, best := some best }
    | [] => s1.setLane n { u with req := best.2, best := some best, trying := false }

/-! ### Low power (R230-R233) -/

/-- LPI blocks arrive with DEEPREQ and DEEPACK as given (R230, R232). -/
def lpiReceived (n : Nat) (req ack : Bool) (s : State) : State :=
  let st := laneState s n
  if st != 5 && st != 7 then s
  else
    let s1 := if st == 5 then enterLane n 7 s else s
    let s2 := s1.setLane n { s1.lane n with rxQuiet := true }
    if (req && s.flag LNP_LPCFG.DEEPOK n) || (ack && (s2.lane n).deepAsk) then
      (enterLane n 8 s2).set CLP_LSTAT.DESKEW 0 n
    else s2

/-- The down-link of lane `n` goes quiet (R231). -/
def txQuiet (n : Nat) (s : State) : State :=
  let st := laneState s n
  if st == 5 || st == 7 then
    let s1 := if st == 5 then enterLane n 7 s else s
    s1.setLane n { s1.lane n with txQuiet := true }
  else s

/-- The down-link has been idle for QUIETIDLE µs (R231). -/
def quietIdle (n : Nat) (s : State) : State :=
  if s.get LNP_LPCFG.QUIETIDLE n == 0 || downlinkWaits s (s.get CLP_LSTAT.GROUP n) then s else txQuiet n s

/-- DEEP is requested of the partner (R232): LPI with DEEPREQ on the down-link. -/
def deepRequest (n : Nat) (s : State) : State :=
  let st := laneState s n
  if st == 5 || st == 7 then
    let s1 := txQuiet n s
    s1.setLane n { s1.lane n with deepAsk := true }
  else s

/-- Lane `n` wakes from DEEP (R233). -/
def wakeLane (n : Nat) (s : State) : State := if laneState s n == 8 then enterTraining n 9 s else s

/-- The camera leaves QUIET on the up-link (R230). -/
def uplinkWake (n : Nat) (s : State) : State :=
  if laneState s n == 7 && (s.lane n).rxQuiet then
    let s1 := s.setLane n { s.lane n with rxQuiet := false }
    if (s1.lane n).txQuiet then s1 else enterLane n 5 s1
  else s

/-! ### Elastic buffer, margin monitor and eye scan -/

/-- The elastic buffer slips (R213): counted, logged once per run of slips within 1 ms, and the damage passed up (R259,
R265). -/
def slip (n : Nat) (isOver inPacket : Bool) (s : State) : State :=
  let u := s.lane n
  let again := u.slipAt != 0 && s.elapsed + 1 < u.slipAt + 1000000
  let s1 := (s.count LNP_EBSLIP.SLIP n).setLane n { u with slipAt := s.elapsed + 1 }
  let s2 := if again then s1 else s1.log 0x0503 [n, if isOver then 0 else 1]
  let s3 := if s2.flag CLP_LSTAT.RXACT n then s2.count CLP_LERR.ERRBLK n else s2
  if s3.flag CLP_LSTAT.RXACT n && inPacket then s3.count CLP_BADPKT.PROTO (s3.get CLP_LSTAT.GROUP n) else s3

/-- The alarm level that a measurement calls for (R237): 0 none, 1 warning, 2 alarm. -/
def marginClass (s : State) (n ho vo : Nat) : Nat :=
  if ho < s.get LNP_MONTH2.ALARMH n || vo < s.get LNP_MONTH2.ALARMV n then 2
  else if ho < s.get LNP_MONTH.WARNH n || vo < s.get LNP_MONTH.WARNV n then 1 else 0

/-- A measurement against the thresholds (R237): a rise at once, a fall after two measurements below the level. -/
def marginLevel (n ho vo : Nat) (s : State) : State :=
  let c := marginClass s n ho vo
  let l := s.get LNP_MARGIN2.LEVEL n
  let u := s.lane n
  if l < c then
    ((s.setLane n { u with lowRun := 0 }).set LNP_MARGIN2.LEVEL c n |>.fire (0x040 + n)).log
      (if c == 2 then 0x0505 else 0x0504) [n, ho, vo]
  else if c < l then
    if u.lowRun == 0 then s.setLane n { u with lowRun := 1, lowClass := c }
    else (s.setLane n { u with lowRun := 0 }).set LNP_MARGIN2.LEVEL (max c u.lowClass) n
  else s.setLane n { u with lowRun := 0 }

/-- The margin monitor completes a measurement (R235-R237, R239). -/
def marginMeasure (n ho vo : Nat) (s : State) : State :=
  let st := laneState s n
  if (st == 5 || st == 7) && s.flag LNP_MONCFG.EN n && !s.flag LNP_ESSTAT.RUNNING n then
    let s1 := (s.set LNP_MARGIN.CURH ho n).set LNP_MARGIN.CURV vo n
    let u := s1.lane n
    if u.basePend then
      let s2 := (s1.setLane n { u with basePend := false, lowRun := 0 }).set LNP_MARGIN2.BASEVALID 1 n
      deriveMargin n ((s2.set LNP_MARGIN.BASEH ho n).set LNP_MARGIN.BASEV vo n)
    else if s1.flag LNP_MARGIN2.BASEVALID n then marginLevel n ho vo s1
    else s1
  else s

/-- The next measurement becomes the baseline (R236). -/
def rebase (n : Nat) (s : State) : State := s.setLane n { s.lane n with basePend := true }

/-- A write of `LNP_ESCTL.START` (R238, R239). -/
def sweepStart (n : Nat) (s : State) : State :=
  if !inService s then s.log 0x0507 [n, 0x208]
  else if laneState s n == 3 then s.setLane n { s.lane n with sweepWait := true }
  else beginSweep n s

/-- The counts that the sweep has stored, saturating, no more than the points configured (R238). -/
def storedPoints (s : State) (n : Nat) (counts : List Nat) : List Nat :=
  (counts.map (fun c => min c 0xFFFFFFFF)).take (sweepPoints s n)

/-- The sweep stops before its last point (R238): the words stored so far stay valid. -/
def sweepAbort (n : Nat) (counts : List Nat) (s : State) : State :=
  let s1 := s.setLane n { s.lane n with sweepWait := false }
  if s.flag LNP_ESSTAT.RUNNING n then
    let e := (storedPoints s n counts).take (sweepPoints s n - 1)
    ((s1.setLane n { s1.lane n with eye := e }).set LNP_ESSTAT.RUNNING 0 n).set LNP_ESSTAT.POINT e.length n
  else s1

/-- The last point of the sweep is stored (R238). -/
def sweepDone (n : Nat) (counts : List Nat) (s : State) : State :=
  if s.flag LNP_ESSTAT.RUNNING n then
    let e := storedPoints s n counts
    let s1 := s.setLane n { s.lane n with eye := e }
    ((s1.set LNP_ESSTAT.RUNNING 0 n).set LNP_ESSTAT.DONE 1 n).set LNP_ESSTAT.POINT e.length n
  else s

/-- The result word of lane `n` at `LNP_ESIDX` (R238); a word that no sweep has stored reads 0. -/
def eyeWord (s : State) (n : Nat) : Nat := (s.lane n).eye.getD (s.get LNP_ESIDX.IDX n) 0

/-- A read of `LNP_ESDATA` advances `LNP_ESIDX`. -/
def eyeRead (n : Nat) (s : State) : State :=
  (s.emit (.readData (LNP_ESDATA.DATA.adr n) (eyeWord s n))).wrapAdd LNP_ESIDX.IDX 1 n

/-! ### Loopbacks (R240) and configuration -/

/-- A write of `LNP_LOOP` (R240). -/
def loopWrite (n mode : Nat) (s : State) : State :=
  let old := s.get LNP_LOOP.MODE n
  if mode == 0 then
    if old == 0 then s
    else
      let s1 := (s.set LNP_LOOP.MODE 0 n).set LNP_PRBS.reg 0 n
      laneLost n (startDetect n s1)
  else if !inService s then s.log 0x0507 [n, 0x240]
  else if mode == 1 then (s.set LNP_LOOP.MODE 1 n).set LNP_STAT.RATE (s.get LNP_CFG.RATEMAX n) n
  else if mode == 2 && laneState s n == 5 && !s.flag LNP_PARTNER.LOOPCAP n then
    laneLost n (trainFail n 7 s)
  else s.set LNP_LOOP.MODE mode n

/-- A write of `LNP_CFG` (R226, R244). -/
def rateMaxWrite (n v : Nat) (s : State) : State :=
  let r := v % 8
  let st := laneState s n
  let s1 := ((s.set LNP_CFG.RATEMAX r n).set LNP_CFG.TXINV (v / 16) n).set LNP_STAT.BACKOFFK 0 n
  if r == 0 then if st == 0 then s1 else laneLost n (enterLane n 0 s1)
  else if st == 0 then startDetect n s1
  else if st != 10 && r < s.get LNP_STAT.RATE n then laneLost n (startDetect n s1)
  else s1

/-- A write of `LNP_CTL.RETRAIN` (R245). -/
def retrainWrite (n : Nat) (s : State) : State :=
  if laneState s n == 8 then retrainLane n s else laneLost n (retrainLane n s)

/-- A write of `LNP_TXFIR` (R246, R247). At the basic level its bits are not writable; with EXPERT = 1 the magnitudes must
sum to 64, where MAIN 0 stands for 64 (log entry 23). -/
def txFirWrite (n v : Nat) (s : State) : State :=
  if !expertOn s LNP_LEVEL.EXPERT then s
  else
    let main := if bitsOf v 13 8 == 0 then 64 else bitsOf v 13 8
    if bitsOf v 21 16 + main + bitsOf v 5 0 != 64 then s.log 0x0506 [n]
    else s.wrA (LNP_TXFIR.reg.adr n) (v &&& 0x803F3F3F)

/-! ### The commands -/

/-- A lane command acts on a lane that the variant has (R4). -/
def onLane (n : Nat) (f : State → State) (s : State) : State := if laneExists s n then f s else s

def execTrainReceived (n : Fin 16) (b : List Byte) (inverted : Bool) (note : LinkNote) (s : State) : Out :=
  .next (onLane n.val (trainReceived n.val (b.map (·.toNat)) inverted) (noteLane note s))
def execBlockLockLost (n : Fin 16) (note : LinkNote) (s : State) : Out := .next (onLane n.val (lockLost n.val) (noteLane note s))
def execEbSlip (n : Fin 16) (isOver inPacket : Bool) (s : State) : Out := .next (onLane n.val (slip n.val isOver inPacket) s)
def execTrainTimeout (n : Fin 16) (lock : Bool) (s : State) : Out := .next (onLane n.val (trainTimeout n.val lock) s)
def execRateSwitchDone (n : Fin 16) (s : State) : Out :=
  .next (onLane n.val (fun t =>
    if laneState t n.val == 2 && (t.lane n.val).switching && (t.lane n.val).selOffer != 1
    then speedDone n.val (t.lane n.val).selOffer t else t) s)
def execPresetTrialDone (n : Fin 16) (opening : Nat) (ctle : BitVec 4) (dfe1 dfe2 dfe3 : BitVec 6) (s : State) : Out :=
  .next (onLane n.val (trialDone n.val opening ctle.toNat dfe1.toNat dfe2.toNat dfe3.toNat) s)
def execBackoffEnd (n : Fin 16) (s : State) : Out :=
  .next (onLane n.val (fun t => if laneState t n.val == 10 then startDetect n.val t else t) s)
def execBackoffEarlyExit (n : Fin 16) (s : State) : Out :=
  .next (onLane n.val (fun t =>
    if laneState t n.val == 10 && t.get LNP_TRNFAIL.REASON n.val == 1 then startDetect n.val t else t) s)
def execLpiReceived (n : Fin 16) (deepReq deepAck : Bool) (s : State) : Out :=
  .next (onLane n.val (lpiReceived n.val deepReq deepAck) s)
def execQuietIdleTimeout (n : Fin 16) (s : State) : Out := .next (onLane n.val (quietIdle n.val) s)
def execWakeEnergy (n : Fin 16) (s : State) : Out := .next (onLane n.val (wakeLane n.val) s)
def execUplinkQuietExit (n : Fin 16) (s : State) : Out := .next (onLane n.val (uplinkWake n.val) s)
def execMarginMeasure (n : Fin 16) (ho vo : Byte) (s : State) : Out :=
  .next (onLane n.val (marginMeasure n.val ho.toNat vo.toNat) s)
def execSweepDone (n : Fin 16) (counts : List Nat) (s : State) : Out := .next (onLane n.val (sweepDone n.val counts) s)

end Sys2Proof.Machine
end

