-- ==== Sys2Proof/Machine/Camera.lean ====
section
/-! DEFINITION. The commands of the Camera Lane Protocol (chapter 8): ALIGN rows, received packets, the timers of a group,
the mailbox and the streams. -/

namespace Sys2Proof.Machine

/-! ### ALIGN rows (R256-R262) -/

/-- The fields of an ALIGN block (R257). -/
def alCount (b : List Nat) : Nat := byteAt b 1
def alLane (b : List Nat) : Nat := byteAt b 2 / 16
def alWidth (b : List Nat) : Nat := byteAt b 2 % 8
def alTxset (b : List Nat) : Nat := byteAt b 3
def alRxok (b : List Nat) : Nat := byteAt b 4
def alTag (b : List Nat) : Nat := byteAt b 5

/-- Whether TYPE and CHECK of an ALIGN block hold (R209, R257). -/
def alValid (b : List Nat) : Bool :=
  typeOf (byteAt b 0) == some 0x66 && crc8 (0x66 :: sliceOf b 1 6) == byteAt b 7

/-- Whether two blocks are of one ALIGN row: all but LANE and CHECK agree (R257). -/
def sameRow (a b : List Nat) : Bool :=
  byteAt a 1 == byteAt b 1 && byteAt a 2 % 16 == byteAt b 2 % 16 && sliceOf a 3 3 == sliceOf b 3 3

/-- Whether lane `n` takes part in the ALIGN rows of group `g`. -/
def alignLane (s : State) (g n : Nat) : Bool :=
  (blockLanes s g).contains n && s.get CLP_LSTAT.GROUP n == g && 4 ≤ laneState s n && laneState s n ≤ 7

/-- The block that a row of group `g` is matched against: a valid one with the group's width and tag, of a deskewed lane
when there is one. -/
def alignRef (s : State) (g : Nat) (row : List (Nat × Nat × List Nat)) : Option (List Nat) :=
  let good := row.filter (fun e => alignLane s g e.1 && alValid e.2.2 && alWidth e.2.2 == s.get CLP_GSTAT.WIDTH g &&
    alTag e.2.2 == (s.group g).tag)
  match good.find? (fun e => s.flag CLP_LSTAT.DESKEW e.1) with
  | some e => some e.2.2
  | none => good.head?.map (·.2.2)

/-- One block of an ALIGN row on lane `n`, `skew` block periods behind the earliest lane (R258). -/
def alignBlock (g : Nat) (ref : Option (List Nat)) (e : Nat × Nat × List Nat) (s : State) : State :=
  let n := e.1
  if !alignLane s g n then s
  else
    let u := s.lane n
    let ok := match ref with
      | some r => alValid e.2.2 && sameRow r e.2.2 && e.2.1 ≤ 24
      | none => false
    if ok then
      let run := u.matchRun + 1
      let s1 := (s.set CLP_LSTAT.INDEX (alLane e.2.2) n).set CLP_LSTAT.SKEW e.2.1 n
      let s2 := s1.setLane n { u with matchRun := run, missRun := 0 }
      if 4 ≤ run then s2.set CLP_LSTAT.DESKEW 1 n else s2
    else
      let s1 := (s.count CLP_LERR.ALIGNBAD n).setLane n { u with matchRun := 0, missRun := u.missRun + 1 }
      if 2 ≤ u.missRun + 1 then s1.set CLP_LSTAT.DESKEW 0 n else s1

/-- Log the indices of mask `m` of group `g` with `code`. -/
def logIndices (g code m : Nat) (s : State) : State :=
  (List.range 8).foldl (fun t k => if bitAt m k then t.log code [g, k] else t) s

/-- The camera's TXSET becomes `v` (R259, R262): the producer `CLP_DEGR`, the lanes lost and readmitted, and the derived
fields (R292). -/
def takeRxset (g v : Nat) (s : State) : State :=
  let old := s.get CLP_GSTAT.RXSET g
  if v == old then s
  else
    let s1 := (s.set CLP_GSTAT.RXSET v g).fire (0x060 + g)
    let s2 := logIndices g 0x0603 (old &&& (0xFF - v)) s1
    let s3 := if old == 0 then s2 else logIndices g 0x0604 (v &&& (0xFF - old)) s2
    deriveGroup g s3

/-- Lanes in REJOIN that are ready and deskewed enter LINKED when the camera stripes on them (R225, R262). -/
def readmit (g : Nat) (s : State) : State :=
  (blockLanes s g).foldl (fun t n =>
    if laneState t n == 6 && t.flag LNP_STAT.READY n && t.flag CLP_LSTAT.DESKEW n &&
        t.get CLP_LSTAT.GROUP n == g && bitAt (t.get CLP_GSTAT.RXSET g) (t.get CLP_LSTAT.INDEX n % 8)
    then enterLane n 5 t else t) s

/-- An ALIGN row arrives on the lanes of group `g` (R258-R262). -/
def alignReceived (g : Nat) (row : List (Nat × Nat × List Nat)) (s : State) : State :=
  if groupState s g == 0 then s
  else
    let ref := alignRef s g row
    let s1 := row.foldl (fun t e => alignBlock g ref e t) s
    let s2 := match ref with
      | some r => takeRxset g (alTxset r) (s1.set CLP_GSTAT.RXOK (alRxok r) g)
      | none => s1
    if groupState s2 g == 1 then
      if (blockLanes s2 g).all (fun n => s2.flag CLP_LSTAT.DESKEW n) then groupLinked g s2 else s2
    else syncLanes g (readmit g (admitLanes g s2))

/-- The grabber sends an ALIGN row on group `g` (R256, R259, R260): TXSET changes only here. -/
def alignSend (g : Nat) (s : State) : State :=
  if groupState s g == 0 then s
  else
    let u := s.group g
    let tx := if groupState s g == 1 then 0 else txsetOf s g
    let s1 := (s.setGroup g { u with alignTx := (u.alignTx + 1) % 256 }).set CLP_GSTAT.TXSET tx g
    syncLanes g (s1.emit (.alignRow g u.alignTx tx (rxokOf s g)))

/-- FORMING has lasted 8 ms (R261). -/
def formTimeout (g : Nat) (s : State) : State :=
  if groupState s g == 1 && (blockLanes s g).any (fun n => s.flag CLP_LSTAT.DESKEW n) then groupLinked g s else s

/-! ### Link-class packets -/

/-- A NAK (R278, R279): after the acknowledgement every unacknowledged packet is sent again, later when BUSY. -/
def nakReceived (g : Nat) (p : List Nat) (s : State) : State :=
  let (ok, s1) := acknowledge g (pktNum p) (s.count CLP_RELCNT.NAKRX g)
  if !ok then s1
  else if pktFlags p % 2 == 1 then s1.setGroup g { s1.group g with busyWait := true }
  else startReplay g true s1

/-- A valid DISC_REQ (R263, R275, R293): discovery, or the restart of a camera. -/
def discReceived (g : Nat) (p : List Nat) (s : State) : State :=
  let s0 := if groupState s g == 3 then (closeGroup g 2 11 false s).log 0x0605 [g] else s
  let s1 := (s0.set CLP_PART0.VENDOR (payNat p 0 2) g).set CLP_PART0.MODEL (payNat p 2 2) g
  let s2 := (s1.set CLP_SERLO.SERIAL (payNat p 4 4) g).set CLP_SERHI.SERIAL (payNat p 8 4) g
  let s3 := (s2.set CLP_PART1.PROTO (payNat p 12 1) g).set CLP_PART1.NVSID (payNat p 13 1) g
  let s4 := clearReliable g (s3.set CLP_PART1.RBUF (payNat p 14 2) g)
  let s5 := s4.setGroup g { s4.group g with rspDue := true, maxDl := max 64 (min 244 (payNat p 16 2)) }
  if groupState s g == 3 then s5
  else
    let s6 := (s5.set CLP_GSTAT.STATE 3 g).set CLP_GROUPMAP.DISC (s5.get CLP_GROUPMAP.DISC ||| 2 ^ g)
    s6.fire (0x050 + g)

/-- An ECHO (R286): the link delay is the mean of the last 8 measurements, in 2^-8 ns. -/
def echoReceived (g : Nat) (p : List Nat) (s : State) : State :=
  let u := s.group g
  match u.pings.find? (fun e => e.1 == pktAux p) with
  | none => s
  | some (id, t) =>
    let rest := u.pings.filter (fun e => e.1 != id)
    let d := s.elapsed - t
    if 1000000 < d then s.setGroup g { u with pings := rest }
    else
      let ds := (((d - payNat p 0 4) * 256 / 2) :: u.delays).take 8
      let s1 := s.setGroup g { u with pings := rest, delays := ds }
      (s1.set CLP_LINKDLY.DLY (ds.foldl (· + ·) 0 / ds.length) g).set CLP_LINKDLY.VALID 1 g

/-! ### Reliable and streaming packets -/

/-- A CTRL_RSP (R287): with the tag of the request in progress it completes the request. -/
def ctrlRsp (g : Nat) (p : List Nat) (s : State) : State :=
  if s.flag CLP_CCCTL.BUSY g && pktSub p == s.get CLP_CCCTL.TAG g then
    let st := pktFlags p
    let n := (pktLen p - 4) / 4
    let s1 := if st == 0 && !s.flag CLP_CCCTL.OP g then
        (List.range (min 64 n)).foldl (fun t k => t.set CLP_CCDATA.DATA (payNat p (4 + 4 * k) 4) g k) s
      else s
    endMailbox g st s1
  else s

/-- An EVENT item (R484): the tag body with its SOURCE word. -/
def eventBody (t source : Nat) : List Nat :=
  leBytes 8 t ++ leBytes 8 t ++ leBytes 4 0 ++ leBytes 4 0 ++ leBytes 8 0 ++ leBytes 4 source

/-- Create an EVENT item on stream `st` (R484, R488): its SEQ comes from the stream's event counter. -/
def eventItem (source src st t word flags : Nat) (s : State) : State :=
  createItem {
    source := source
    src := src
    stream := st
    kind := 4
    mapIx := 5
    seq := s.get QUE_ESEQ.SEQ st
    flags := flags
    ended := true
    body := eventBody t word } (s.wrapAdd QUE_ESEQ.SEQ 1 st)

/-- A camera EVENT (R289). -/
def clpEvent (g : Nat) (p : List Nat) (s : State) : State :=
  let e := pktSub p
  let s1 := (s.count CLP_EVTCNT.COUNT g).set CLP_EVTCNT.LASTEVT e g
  let s2 := if e < 4 then s1.fire (0x070 + 4 * (g / 2) + e) else s1
  if s2.flag CLP_GCFG.EVEN g then
    eventItem 0 g (s2.get CLP_GCFG.EVSTREAM g) (payNat p 0 8) (0x06 * 2 ^ 24 + g * 2 ^ 16 + e)
      (if s2.unsync then 0x10 else 0) s2
  else s2

/-- Whether stream `st` may open a frame: it is open, or a change of mode still waits for the frame of a trigger that was
forwarded to its camera (R114, R119). -/
def mayOpen (s : State) (st : Nat) : Bool :=
  streamOpen s st ||
    ((s.get GLB_MODESTAT.PHASE == 1 || s.get GLB_MODESTAT.PHASE == 2) && streamActive s st && conBusy s st &&
      classAllowed (modeNow s) (streamClass s st) && !streamHeld s st && !s.glb.closed.contains st)

/-- Stream `st` of group `g` opens a frame (R272). -/
def openClp (g st : Nat) (f : Feed) (s : State) : State :=
  let (_, s1) := openFeed { f with stream := st, src := 0, ix := g } s
  s1.fire (0x090 + st)

/-- A FRAME_START accepted by the reliable class (R272, R274, R283). A frame of the stream still open under another number
is ended first (log entry 31). -/
def frameStart (g : Nat) (p : List Nat) (s : State) : State :=
  match streamFor s g (pktSub p) with
  | none => discardPkt s
  | some st =>
    let id := pktAux p
    let triggered := pktFlags p % 2 == 1
    let hit := if triggered then (s.group g).trigs.find? (fun t => t.streams.contains st && t.id == id) else none
    let s1 := if triggered && hit.isNone then s.log 0x060D [st, id] else s
    let may := mayOpen s st
    let s2 := if hit.isSome && conBusy s1 st then setBusy st false s1 else s1
    let tExp := payNat p 8 8
    let own := match hit with
      | some t => if streamClass s st == 0 then none else some t
      | none => none
    let late := pktFlags p / 2 % 2 == 1 || (match own with | some t => 1 < t.sends | none => false)
    let flags := (match own with | some t => latchFlags t.flags | none => 0) ||| (if late then 4 else 0)
    let frame := payNat p 0 4
    let fill := fun f : Feed => { f with
      frame := frame
      format := payNat p 20 2
      width := payNat p 16 2
      height := payNat p 18 2
      tTrig := (match own with | some t => t.time | none => tExp)
      tExp := tExp
      expNs := payNat p 4 4
      flags := f.flags ||| flags
      started := true }
    match openFrame s2 st with
    | some f =>
      if f.frame % 2 ^ 16 == frame % 2 ^ 16 && !f.started then
        let f2 := fill f
        if f.path == 0 then patchTimes f2 (s2.setFeed f2) else s2.setFeed f2
      else
        let s3 := truncateClp st 1 s2
        if may then openClp g st (fill {}) s3 else discardPkt s3
    | none => if may then openClp g st (fill {}) s2 else discardPkt s2

/-- The bytes of a PIXEL go to the open frame `f` (R272, R273): `gap` packets are missing before it. -/
def pixelInto (st : Nat) (f : Feed) (gap : Nat) (p : List Nat) (s : State) : State :=
  let off := payNat p 0 4
  let lb := s.get CLP_STREAM1.LINEBYTES st
  let f1 := { f with damage := f.damage + (if f.accepted == 0 then 0 else gap) }
  if off < f.length then s.setFeed { f1 with damage := f1.damage + 1 }
  else
    let f2 := { f1 with
      accepted := f1.accepted + 1
      missing := addLines f1.missing (linesTouched lb f.length off) }
    feedBytes f.id lb (List.replicate (off - f.length) (s.get CLP_STREAM2.FILL st) ++ sliceOf p 12 (pktLen p - 4))
      (s.setFeed f2)

/-- A frame that its first PIXEL opens (R272, R274): `T_TRIG` is the time of the trigger that the stream waits for; with no
such trigger nothing gives it a time (log entry 32). -/
def openByPixel (g st : Nat) (p : List Nat) (s : State) : State :=
  match (if conBusy s st && streamClass s st != 0 then lastTrig s g st else none) with
  | some t => openClp g st { frame := pktAux p, tTrig := t.time, tExp := t.time, flags := latchFlags t.flags } s
  | none =>
    let (t, s1) := s.free 64
    openClp g st { frame := pktAux p, tTrig := t, tExp := t } s1

/-- A PIXEL packet (R272, R273, R290, R294). -/
def pixelReceived (g : Nat) (p : List Nat) (s : State) : State :=
  let key := g * 8 + pktSub p
  let seen := tget 0 s.src.pixCount key
  let gap := if seen == 0 then 0 else (2 ^ 16 - (seen - 1) + pktNum p) % 2 ^ 16
  let s1 : State := { s with src := { s.src with pixCount := tput 0 s.src.pixCount key ((pktNum p + 1) % 2 ^ 16 + 1) } }
  match streamFor s1 g (pktSub p) with
  | none => discardPkt s1
  | some st =>
    let fresh := fun t : State =>
      if tget 0 t.src.closed st == pktAux p + 1 || !mayOpen t st then discardPkt t
      else
        let t1 := openByPixel g st p t
        match openFrame t1 st with
        | some f => pixelInto st f gap p t1
        | none => t1
    match openFrame s1 st with
    | some f =>
      if f.frame % 2 ^ 16 == pktAux p then pixelInto st f gap p s1 else fresh (truncateClp st 1 s1)
    | none => fresh s1

/-- A FRAME_END accepted by the reliable class (R272, R273). -/
def frameEnd (g : Nat) (p : List Nat) (s : State) : State :=
  match streamFor s g (pktSub p) with
  | none => discardPkt s
  | some st =>
    match openFrame s st with
    | some f =>
      if f.src == 0 && f.frame % 2 ^ 16 == payNat p 0 4 % 2 ^ 16 then
        closeClpFrame st (min 0xFFFF (payNat p 4 4 - f.accepted)) 0 s
      else discardPkt s
    | none => discardPkt s

/-! ### Timers of a group and a stream -/

/-- ACKDLY after the first unacknowledged acceptance (R277). -/
def ackDelay (g : Nat) (s : State) : State :=
  let u := s.group g
  if u.unacked == 0 then s else s.setGroup g { u with unacked := 0, ackDue := some (u.ackDue.getD 0) }

/-- TRIGTO passes without a matching FRAME_START (R283). -/
def triggerTimeout (st : Nat) (s : State) : State :=
  if conBusy s st then
    let id := match lastTrig s (s.get CLP_STREAM0.GROUP st) st with | some t => t.id | none => 0
    countDropped 1 ((setBusy st false s).log 0x0609 [st, id])
  else s

/-- The PING interval passes (R286). -/
def duePing (s : State) : State :=
  if s.get CLP_TIMECFG.PINGINT == 0 then s
  else (List.range 16).foldl (fun t g =>
    if groupState t g == 3 then t.setGroup g { t.group g with pingDue := true } else t) s

/-! ### The mailbox (R287) -/

/-- The words that a request asks for (`CLP_CCCTL.COUNT`). -/
def mailCount (s : State) (g : Nat) : Nat :=
  min (if s.flag CLP_CCCTL.OP g then 60 else 64) (max 1 (s.get CLP_CCCTL.COUNT g))

/-- The CTRL_REQ that the mailbox of group `g` describes. -/
def ctrlReq (s : State) (g tag : Nat) : List Nat :=
  let n := mailCount s g
  let w := s.flag CLP_CCCTL.OP g
  mkPkt 6 (b2n w) 0 tag n (leBytes 4 (s.get CLP_CCADDR.ADDR g) ++
    (if w then (List.range n).flatMap (fun k => leBytes 4 (s.get CLP_CCDATA.DATA g k)) else []))

/-- A write of `CLP_CCCTL` (R287): GO sends one request, or completes at once with NOTLINKED. -/
def mailboxWrite (g v : Nat) (s : State) : State :=
  let s1 := (s.set CLP_CCCTL.OP (v / 2 ^ 7) g).set CLP_CCCTL.COUNT v g
  if !bitAt v 30 || s1.flag CLP_CCCTL.BUSY g then s1
  else if groupState s1 g != 3 then (s1.set CLP_CCCTL.STATUS 10 g).log 0x060A [g, 10]
  else
    let tag := (s1.get CLP_CCCTL.TAG g + 1) % 256
    let s2 := ((s1.set CLP_CCCTL.TAG tag g).set CLP_CCCTL.BUSY 1 g)
    s2.setGroup g { s2.group g with ctrlDue := some { seq := 0, bytes := ctrlReq s2 g tag } }

/-! ### Streams (R290) -/

/-- A parallel port sources stream `st`. -/
def parSources (s : State) (st : Nat) : Bool :=
  (List.range 2).any (fun p => s.flag PAR_STREAM.EN p && s.get PAR_STREAM.STREAM p == st)

/-- What a stream's becoming active or inactive means for its held state (R115, R124). -/
def streamToggled (st : Nat) (wasOn isOn : Bool) (s : State) : State :=
  if !wasOn && isOn then
    if captureMode (modeNow s) then
      recheckStream st { s with glb := { s.glb with firstAfter := st :: s.glb.firstAfter.filter (· != st) } }
    else s
  else if wasOn && !isOn then
    setHeld st false { s with glb := { s.glb with
      finishing := s.glb.finishing.filter (· != st)
      firstAfter := s.glb.firstAfter.filter (· != st) } }
  else s

/-- A write of word 0 of `CLP_STREAM[st]` (R290). -/
def streamWrite (st v : Nat) (s : State) : State :=
  let on := s.flag CLP_STREAM0.EN st
  let refuse := bitAt v 31 && !on && parSources s st
  let s1 := (s.set CLP_STREAM0.GROUP (v / 2 ^ 16) st).set CLP_STREAM0.VSID (v / 2 ^ 8) st
  let s2 := s1.set CLP_STREAM0.FTO v st
  if refuse then s2.log 0x060C [st]
  else streamToggled st on (bitAt v 31) (s2.set CLP_STREAM0.EN (v / 2 ^ 31) st)

/-! ### The commands -/


def execAlignReceived (g : Fin 16) (row : List AlignBlk) (s : State) : Out :=
  .next (onLane g.val (alignReceived g.val (row.map (fun b => (b.lane.val, b.skew, natBytes b.bytes)))) s)
def execGroupFormTimeout (g : Fin 16) (s : State) : Out := .next (onLane g.val (formTimeout g.val) s)
def execAckReceived (g : Fin 16) (p : List Byte) (s : State) : Out :=
  .next (onLane g.val (takePacket g.val 0 (natBytes p) (fun t => (acknowledge g.val (pktNum (natBytes p)) t).2)) s)
def execNakReceived (g : Fin 16) (p : List Byte) (s : State) : Out :=
  .next (onLane g.val (takePacket g.val 1 (natBytes p) (nakReceived g.val (natBytes p))) s)
def execBusyReplayWait (g : Fin 16) (s : State) : Out :=
  .next (onLane g.val (fun t => if (t.group g.val).busyWait then startReplay g.val false t else t) s)
def execReplayTimeout (g : Fin 16) (s : State) : Out :=
  .next (onLane g.val (fun t => if groupState t g.val == 3 then startReplay g.val true t else t) s)
def execDiscoveryTimeout (g : Fin 16) (s : State) : Out :=
  .next (onLane g.val (fun t => if groupState t g.val == 2 then linkFail g.val t else t) s)
def execAckDelayTimeout (g : Fin 16) (s : State) : Out := .next (onLane g.val (ackDelay g.val) s)
def execDiscReqReceived (g : Fin 16) (p : List Byte) (s : State) : Out :=
  .next (onLane g.val (takePacket g.val 4 (natBytes p) (discReceived g.val (natBytes p))) s)
def execEchoReceived (g : Fin 16) (p : List Byte) (s : State) : Out :=
  .next (onLane g.val (takePacket g.val 3 (natBytes p) (echoReceived g.val (natBytes p))) s)
def execCtrlRspReceived (g : Fin 16) (p : List Byte) (s : State) : Out :=
  .next (onLane g.val (takePacket g.val 7 (natBytes p) (relReceive g.val (natBytes p) (ctrlRsp g.val (natBytes p)))) s)
def execClpEventReceived (g : Fin 16) (p : List Byte) (s : State) : Out :=
  .next (onLane g.val (takePacket g.val 10 (natBytes p) (relReceive g.val (natBytes p) (clpEvent g.val (natBytes p)))) s)
def execFrameStartReceived (g : Fin 16) (p : List Byte) (s : State) : Out :=
  .next (onLane g.val (takePacket g.val 11 (natBytes p) (relReceive g.val (natBytes p) (frameStart g.val (natBytes p)))) s)
def execFrameEndReceived (g : Fin 16) (p : List Byte) (s : State) : Out :=
  .next (onLane g.val (takePacket g.val 12 (natBytes p) (relReceive g.val (natBytes p) (frameEnd g.val (natBytes p)))) s)
def execPixelReceived (g : Fin 16) (p : List Byte) (s : State) : Out :=
  .next (onLane g.val (takePacket g.val 13 (natBytes p) (pixelReceived g.val (natBytes p))) s)
def execDownlinkTxSelect (g : Fin 16) (s : State) : Out := .next (onLane g.val (txSelect g.val) s)
def execTriggerTimeout (st : Fin 64) (s : State) : Out := .next (triggerTimeout st.val s)
def execTimePeriod (s : State) : Out := .next (if s.get CLP_TIMECFG.PERIOD == 0 then s else dueTime false s)
def execPingPeriod (s : State) : Out := .next (duePing s)
def execMailboxTimeout (g : Fin 16) (s : State) : Out := .next (onLane g.val (endMailbox g.val 8) s)
def execFrameTimeout (st : Fin 64) (s : State) : Out := .next (truncateClp st.val 1 s)
def execAlignRowSend (g : Fin 16) (s : State) : Out := .next (onLane g.val (alignSend g.val) s)

end Sys2Proof.Machine
end

