-- ==== Sys2Proof/Machine/Pixels.lean ====
section
/-! DEFINITION. The stages of a pixel pipe as functions of pixels (chapter 10, R326-R336): a picture is a function from
integer coordinates, mirrored at its edges, and each stage makes a new one. `t` is a state whose registers hold the pipe's
latched parameter set, and `s` the present state, for the tables that are not latched (R340). -/

namespace Sys2Proof.Machine

/-- A picture of one channel. -/
abbrev Plane := Int → Int → Int

/-- The coordinate `i` mirrored into `0 .. n - 1` (R336). -/
def mirror (n : Nat) (i : Int) : Nat :=
  if i < 0 then min (-i).toNat (n - 1)
  else if (n : Int) ≤ i then (2 * ((n : Int) - 1) - i).toNat
  else i.toNat

/-- A picture of size `w` by `h` from its values inside (R336). -/
def mirrored (w h : Nat) (f : Nat → Nat → Int) : Plane := fun x y => f (mirror w x) (mirror h y)

/-- The magnitude of a number. -/
def mag (i : Int) : Int := i.natAbs

/-- A stage result is limited to a u16 (R328). -/
def clamp16 (i : Int) : Int := clampInt 0 65535 i

/-! ### Unpacking (R326, stage 1) -/

/-- The little-endian u16 at byte `k`. -/
def u16At (bs : List Nat) (k : Nat) : Nat := leNat (sliceOf bs k 2)

/-- Sample `k` of a packed line of `b`-bit samples (R326). -/
def packedAt (bs : List Nat) (b k : Nat) : Nat := leNat (sliceOf bs (b * k / 8) 4) / 2 ^ (b * k % 8) % 2 ^ b

/-- Samples as R326 lays them out, taken to 16 bits (stage 1): channel `ch` of pixel `x` of a line. In the YCbCr class
channel 0 is Y and channel 1 the C sample at `x`. -/
def unpackAt (code : Nat) (bs : List Nat) (ch x : Nat) : Nat :=
  match code with
  | 0x01 => byteAt bs x * 256
  | 0x02 => packedAt bs 10 x * 64
  | 0x03 => packedAt bs 12 x * 16
  | 0x04 => u16At bs (2 * x) % 1024 * 64
  | 0x05 => u16At bs (2 * x) % 4096 * 16
  | 0x06 => u16At bs (2 * x) % 16384 * 4
  | 0x07 => u16At bs (2 * x)
  | 0x10 => byteAt bs (2 * x + ch) * 256
  | 0x11 => u16At bs (4 * x + 2 * ch) / 64 * 64
  | 0x20 => byteAt bs (3 * x + ch) * 256
  | _ => 0

/-- The bytes of one input line of `w` pixels (R326); 0 for a code that is no input code. -/
def pitchOf (code w : Nat) : Nat :=
  match code with
  | 0x01 => w
  | 0x02 => w * 5 / 4
  | 0x03 => w * 3 / 2
  | 0x04 => 2 * w
  | 0x05 => 2 * w
  | 0x06 => 2 * w
  | 0x07 => 2 * w
  | 0x10 => 2 * w
  | 0x11 => 4 * w
  | 0x20 => 3 * w
  | _ => 0

/-- The input class of a code (R326): 0 RAW, 1 YCbCr, 2 RGB. -/
def inputClass (code : Nat) : Nat := if code == 0x10 || code == 0x11 then 1 else if code == 0x20 then 2 else 0

/-- What a pipe works on: the picture size, the input code, and the input lines taken, each with the pixel from which R344
discarded it. -/
structure Frame where
  w : Nat
  h : Nat
  code : Nat
  lines : List (Nat × List Nat)

/-- Channel `ch` of the input sample at (x, y). -/
def Frame.at (g : Frame) (ch x y : Nat) : Int :=
  let (cut, bs) := g.lines.getD y (0, [])
  if cut ≤ x then 0 else (unpackAt g.code bs ch x : Nat)

/-- The picture of channel `k` after stage 1. In the YCbCr class `k` is 0 Y, 1 Cb, 2 Cr, with C at odd x the mean of its
neighbours. -/
def stage1 (g : Frame) (k : Nat) : Plane :=
  if inputClass g.code == 1 && k != 0 then
    mirrored g.w g.h (fun x y =>
      let c := fun e : Nat => g.at 1 (if k == 2 then e + 1 else e) y
      if x % 2 == 0 then c x else (c (x - 1) + c (mirror g.w (x + 1)) + 1) / 2)
  else mirrored g.w g.h (fun x y => g.at k x y)

/-! ### RAW stages 2-7 -/

/-- The colour filter code in effect (`PIX_BASIC.CFA`): codes above 4 act as 0, MONO. -/
def cfaOf (t : State) (p : Nat) : Nat := if 4 < t.get PIX_BASIC.CFA p then 0 else t.get PIX_BASIC.CFA p

/-- The channel of a sample site (R328): 0 R, 1 Gr, 2 Gb, 3 B; R for MONO. -/
def siteOf (cfa x y : Nat) : Nat :=
  match cfa with
  | 1 => x % 2 + 2 * (y % 2)
  | 2 => (x + 1) % 2 + 2 * (y % 2)
  | 3 => x % 2 + 2 * ((y + 1) % 2)
  | 4 => (x + 1) % 2 + 2 * ((y + 1) % 2)
  | _ => 0

/-- A parameter of the four channels, in two words. -/
def fourOf (t : State) (p c : Nat) (r gr gb b : Fld) : Nat :=
  match c with
  | 0 => t.get r p | 1 => t.get gr p | 2 => t.get gb p | _ => t.get b p

/-- The distance to the next sample of the same channel. -/
def siteStep (cfa : Nat) : Nat := if cfa == 0 then 1 else 2

/-- Stage 2, black level. -/
def stage2 (t : State) (p : Nat) (g : Frame) (f : Plane) : Plane :=
  if t.flag PIX_STAGES.BLACK p then
    mirrored g.w g.h (fun x y =>
      let c := siteOf (cfaOf t p) x y
      let bl := fourOf t p c PIX_BLACK0.R PIX_BLACK0.GR PIX_BLACK1.GB PIX_BLACK1.B
      let gain := fourOf t p c PIX_BLGAIN0.R PIX_BLGAIN0.GR PIX_BLGAIN1.GB PIX_BLGAIN1.B
      clamp16 ((max 0 (f x y - bl) * gain + 2048) / 4096))
  else f

/-- The static defect list in order, up to its end or its first entry out of order, with the index where it is out of
order (R329). -/
def defectScan (s : State) (p : Nat) : Nat → Nat → Option Nat → List Nat × Option Nat
  | 0, _, _ => ([], none)
  | n + 1, k, prev =>
    let e := s.get PIX_TBL0.W p k
    if e == 0xFFFFFFFF then ([], none)
    else if (match prev with | some q => decide (e < q) | none => false) then ([], some k)
    else
      let (l, bad) := defectScan s p n (k + 1) (some e)
      (e :: l, bad)

/-- The static defect list of pipe `p`. -/
def defects (s : State) (p : Nat) : List Nat × Option Nat := defectScan s p 4096 0 none

/-- Stage 3, static defects (R329). -/
def stage3 (t s : State) (p : Nat) (g : Frame) (f : Plane) : Plane :=
  if t.flag PIX_STAGES.SDEF p then
    let ds := (defects s p).1
    let d := siteStep (cfaOf t p)
    mirrored g.w g.h (fun x y =>
      if ds.contains (y * 65536 + x) then
        if x < d then f (x + d : Nat) y
        else if g.w ≤ x + d then f (x - d : Nat) y
        else openDiv (f (x - d : Nat) y + f (x + d : Nat) y) 2
      else f x y)
  else f

/-- The middle two of four values, added. -/
def midSum (a b c d : Int) : Int := a + b + c + d - max (max a b) (max c d) - min (min a b) (min c d)

/-- Stage 4, dynamic defects (R330). -/
def stage4 (t : State) (p : Nat) (g : Frame) (f : Plane) : Plane :=
  if t.get PIX_BASIC.DDSTR p != 0 then
    let d : Int := siteStep (cfaOf t p)
    let th : Int := t.get PIX_DEFTH.DDTH p
    mirrored g.w g.h (fun x y =>
      let a := f (x - d) y
      let b := f (x + d) y
      let c := f x (y - d)
      let e := f x (y + d)
      let v := f x y
      if max (max a b) (max c e) + th < v || v < min (min a b) (min c e) - th then openDiv (midSum a b c e) 2 else v)
  else f

/-- Points along one side of the shading grid (`PIX_SHADECFG`): values outside 2-33 act as 2. -/
def gridPoints (n : Nat) : Nat := if n < 2 || 33 < n then 2 else n

/-- Stage 5, shading (R331): the gain is bilinear between the grid points, computed exactly. -/
def stage5 (t s : State) (p : Nat) (g : Frame) (f : Plane) : Plane :=
  if t.flag PIX_STAGES.SHADE p then
    let gx := gridPoints (t.get PIX_SHADECFG.GX p)
    let gy := gridPoints (t.get PIX_SHADECFG.GY p)
    let dx := max 1 (g.w - 1)
    let dy := max 1 (g.h - 1)
    mirrored g.w g.h (fun x y =>
      let c := siteOf (cfaOf t p) x y
      let i := min (x * (gx - 1) / dx) (gx - 2)
      let j := min (y * (gy - 1) / dy) (gy - 2)
      let a := x * (gx - 1) - i * dx
      let b := y * (gy - 1) - j * dy
      let pt := fun i j => s.get PIX_TBL1.G p ((c * 33 + j) * 33 + i)
      let num := (pt i j * (dx - a) + pt (i + 1) j * a) * (dy - b) +
        (pt i (j + 1) * (dx - a) + pt (i + 1) (j + 1) * a) * b
      clamp16 ((f x y * num + 2048 * (dx * dy : Nat)) / (4096 * (dx * dy) : Nat)))
  else f

/-- Stage 6, white balance. -/
def stage6 (t : State) (p : Nat) (g : Frame) (f : Plane) : Plane :=
  if t.flag PIX_STAGES.WB p then
    mirrored g.w g.h (fun x y =>
      let k := fourOf t p (siteOf (cfaOf t p) x y) PIX_WB0.R PIX_WB0.GR PIX_WB1.GB PIX_WB1.B
      clamp16 ((f x y * k + 2048) / 4096))
  else f

/-- A RAW picture after stage 6. -/
def rawPlane (t s : State) (p : Nat) (g : Frame) : Plane :=
  stage6 t p g (stage5 t s p g (stage4 t p g (stage3 t s p g (stage2 t p g (stage1 g 0)))))

/-- Green at every site (R332). -/
def greenPlane (t : State) (p : Nat) (g : Frame) (f : Plane) : Plane :=
  let cfa := cfaOf t p
  let th : Int := t.get PIX_DEFTH.EDGETH p
  mirrored g.w g.h (fun x y =>
    let c := siteOf cfa x y
    let v := f x y
    if c == 1 || c == 2 then v
    else
      let dh := mag (f (x - 1) y - f (x + 1) y) + mag (2 * v - f (x - 2) y - f (x + 2) y)
      let dv := mag (f x (y - 1) - f x (y + 1)) + mag (2 * v - f x (y - 2) - f x (y + 2))
      let eh := (f (x - 1) y + f (x + 1) y).tdiv 2 + (2 * v - f (x - 2) y - f (x + 2) y).tdiv 4
      let ev := (f x (y - 1) + f x (y + 1)).tdiv 2 + (2 * v - f x (y - 2) - f x (y + 2)).tdiv 4
      clamp16 (if dh + th < dv then eh else if dv + th < dh then ev else (eh + ev).tdiv 2))

/-- Red (`want` = 0) or blue (`want` = 3) at every site (R332). -/
def chromaPlane (t : State) (p : Nat) (g : Frame) (f green : Plane) (want : Nat) : Plane :=
  let cfa := cfaOf t p
  mirrored g.w g.h (fun x y =>
    let c := siteOf cfa x y
    let d := fun (i j : Int) => f i j - green i j
    let own := green x y
    if c == want then f x y
    else if c == 1 || c == 2 then
      if (want == 0 && c == 1) || (want == 3 && c == 2) then clamp16 (own + (d (x - 1) y + d (x + 1) y).tdiv 2)
      else clamp16 (own + (d x (y - 1) + d x (y + 1)).tdiv 2)
    else clamp16 (own + (d (x - 1) (y - 1) + d (x + 1) (y - 1) + d (x - 1) (y + 1) + d (x + 1) (y + 1)).tdiv 4))

/-! ### Colour stages 7-10 -/

/-- Channel `k` (0 R, 1 G, 2 B) after stage 7, or the input channel of RGB and YCbCr. -/
def stage7 (t s : State) (p : Nat) (g : Frame) (k : Nat) : Plane :=
  if inputClass g.code != 0 then stage1 g k
  else
    let f := rawPlane t s p g
    if cfaOf t p == 0 then f
    else
      let green := greenPlane t p g f
      match k with
      | 0 => chromaPlane t p g f green 0
      | 1 => green
      | _ => chromaPlane t p g f green 3

/-- Entry `e` of a 3 by 3 matrix held in pairs. -/
def matrixEntry (t : State) (p : Nat) (lo hi : Fld) (e : Nat) : Int :=
  signedOf 16 (if e % 2 == 0 then t.get lo p (e / 2) else t.get hi p (e / 2))

/-- Row `k` of a matrix times three channels, rounded, with an offset (stages 8 and 10). -/
def matrixRow (t : State) (p : Nat) (lo hi : Fld) (ofs : Int) (k : Nat) (f : Nat → Plane) : Plane := fun x y =>
  clamp16 ((matrixEntry t p lo hi (3 * k) * f 0 x y + matrixEntry t p lo hi (3 * k + 1) * f 1 x y +
    matrixEntry t p lo hi (3 * k + 2) * f 2 x y + 2048) / 4096 + ofs)

/-- Stage 8, colour matrix. -/
def stage8 (t : State) (p : Nat) (f : Nat → Plane) (k : Nat) : Plane :=
  if t.flag PIX_STAGES.CCM p then matrixRow t p PIX_CCM.LO PIX_CCM.HI 0 k f else f k

/-- Stage 9, tone LUT (R333). -/
def stage9 (t : State) (p : Nat) (f : Plane) : Plane :=
  if t.flag PIX_STAGES.LUT p then fun x y =>
    let v := (f x y).toNat
    let l := fun k : Nat => (t.get PIX_TBL3.L p k : Int)
    l (v / 64) + ((l (v / 64 + 1) - l (v / 64)) * (v % 64 : Nat) + 32) / 64
  else f

/-- The offset of channel `k` in stage 10. -/
def cscOffset (t : State) (p k : Nat) : Int :=
  match k with
  | 0 => t.get PIX_CSCOFS0.OY p | 1 => t.get PIX_CSCOFS0.OCB p | _ => t.get PIX_CSCOFS1.OCR p

/-- An output code that carries Y and chroma, or Y alone (R328). -/
def lumaOut (code : Nat) : Bool := [0x01, 0x07, 0x10, 0x11, 0x30, 0x31].contains code

/-- A RAW input with demosaic off (R338): stages 7-12 do not run. -/
def plainRaw (t : State) (p : Nat) (g : Frame) : Bool := inputClass g.code == 0 && !t.flag PIX_STAGES.DEMOSAIC p

/-- Channel `k` of the picture before the scaler: the sample itself with demosaic off, Y Cb Cr, or R G B. -/
def stage10 (t s : State) (p : Nat) (g : Frame) (k : Nat) : Plane :=
  if plainRaw t p g then rawPlane t s p g
  else if inputClass g.code == 1 then stage1 g k
  else
    let rgb := fun j => stage9 t p (stage8 t p (stage7 t s p g) j)
    if lumaOut (t.get PIX_BASIC.OUTFMT p) then
      matrixRow t p PIX_CSCM.LO PIX_CSCM.HI (cscOffset t p k) k (fun j => mirrored g.w g.h (fun x y => rgb j x y))
    else mirrored g.w g.h (fun x y => rgb k x y)

/-! ### The scaler and the output (R334, R335, stages 11-13) -/

/-- The output size (R334, R325): the input size where `PIX_OUTSIZE` is 0, with demosaic off, and down the page for a line
block. -/
def outWidth (t : State) (p : Nat) (g : Frame) : Nat :=
  if plainRaw t p g || t.get PIX_OUTSIZE.W p == 0 then g.w else t.get PIX_OUTSIZE.W p
def outHeight (t : State) (p : Nat) (g : Frame) (block : Bool) : Nat :=
  if plainRaw t p g || block || t.get PIX_OUTSIZE.H p == 0 then g.h else t.get PIX_OUTSIZE.H p

/-- The source position of output index `x` at increment `inc` (R334): the floor of p, and the phase. -/
def scalePos (inc x : Nat) : Nat × Nat :=
  let n := (2 * x + 1) * inc - 65536
  (n / 131072, n % 131072 * 64 / 131072)

/-- Tap `k` of phase `ph`. -/
def tapOf (t : State) (p ph k : Nat) : Int := signedOf 16 (t.get PIX_TBL4.C p (4 * ph + k))

/-- The picture after the scaler, of output size `ow` by `oh` (R334). -/
def scaled (t : State) (p : Nat) (g : Frame) (ow oh : Nat) (f : Plane) : Plane :=
  if ow == g.w && oh == g.h then f
  else
    let hinc := if ow == g.w then 65536 else t.get PIX_SCALE0.HINC p
    let vinc := if oh == g.h then 65536 else t.get PIX_SCALE1.VINC p
    let src := mirrored g.w g.h (fun x y => f x y)
    mirrored ow oh (fun x y =>
      let (cx, px) := scalePos hinc x
      let (cy, py) := scalePos vinc y
      let sum := (List.range 4).foldl (fun a j => (List.range 4).foldl (fun b i =>
        b + tapOf t p py j * tapOf t p px i * src ((cx : Int) + i - 1) ((cy : Int) + j - 1)) a) 0
      clamp16 (openDiv sum (2 ^ 20)))

/-- Chroma at even `x` for 4:2:2 (R335). -/
def halfChroma (f : Plane) (x y : Int) : Int := (f (x - 1) y + 2 * f x y + f (x + 1) y + 2) / 4

/-- Output conversion to 8, 10 and 16 bits (stage 13). -/
def to8 (v : Int) : Nat := (min 255 ((v + 128) / 256)).toNat
def to10 (v : Int) : Nat := (min 1023 ((v + 32) / 64)).toNat

/-- A 10-bit output sample: u16 with the value in bits 15:6 (R326). -/
def bytes10 (v : Int) : List Nat := leBytes 2 (to10 v * 64)

/-- The luma or packed bytes of pixel `x` of output row `y`, from the scaled channels. -/
def pixelOut (code : Nat) (f : Nat → Plane) (x y : Nat) : List Nat :=
  let c := halfChroma (f (1 + x % 2)) (x - x % 2 : Nat) y
  match code with
  | 0x01 => [to8 (f 0 x y)]
  | 0x07 => leBytes 2 (f 0 x y).toNat
  | 0x10 => [to8 (f 0 x y), to8 c]
  | 0x11 => bytes10 (f 0 x y) ++ bytes10 c
  | 0x20 => [to8 (f 0 x y), to8 (f 1 x y), to8 (f 2 x y)]
  | 0x22 => [to8 (f 0 x y), to8 (f 1 x y), to8 (f 2 x y), 255]
  | 0x23 => leBytes 2 (f 0 x y).toNat ++ leBytes 2 (f 1 x y).toNat ++ leBytes 2 (f 2 x y).toNat
  | 0x30 => [to8 (f 0 x y)]
  | 0x31 => bytes10 (f 0 x y)
  | _ => []

/-- The Cb and Cr bytes at even `x` of chroma row `k` for 4:2:0 (R335). -/
def chromaOut (code : Nat) (f : Nat → Plane) (x k : Nat) : List Nat :=
  let c := fun j => (halfChroma (f j) x (2 * k : Nat) + halfChroma (f j) x (2 * k + 1 : Nat) + 1) / 2
  if code == 0x30 then [to8 (c 1), to8 (c 2)] else bytes10 (c 1) ++ bytes10 (c 2)

/-- The scaled channels of a frame. -/
def outPlanes (t s : State) (p : Nat) (g : Frame) (block : Bool) : Nat → Plane := fun k =>
  scaled t p g (outWidth t p g) (outHeight t p g block) (stage10 t s p g k)

/-- The bytes of columns `x0` up to `x0 + w` of output row `y`. -/
def rowBytes (code : Nat) (f : Nat → Plane) (x0 w y : Nat) : List Nat :=
  (List.range w).flatMap (fun i => pixelOut code f (x0 + i) y)

/-- The bytes of the same columns of chroma row `k` for 4:2:0. -/
def chromaRow (code : Nat) (f : Nat → Plane) (x0 w k : Nat) : List Nat :=
  (List.range (w / 2)).flatMap (fun i => chromaOut code f (x0 + 2 * i) k)

/-! ### Which input lines an output line needs (R346) -/

/-- Input lines beyond the scaler taps: `reach` 2 is what R346 names, 3 what the formulas of R332 read. -/
def stageReach (t : State) (p : Nat) (g : Frame) (reach : Nat) : Nat :=
  if inputClass g.code != 0 then 0
  else (if t.get PIX_BASIC.DDSTR p == 0 then 0 else siteStep (cfaOf t p)) +
    (if plainRaw t p g || cfaOf t p == 0 then 0 else reach)

/-- The first and the last input line that output line `y` rests on. -/
def lineSupport (t : State) (p : Nat) (g : Frame) (block : Bool) (reach y : Nat) : Nat × Nat :=
  let e := stageReach t p g reach
  let oh := outHeight t p g block
  if oh == g.h then (y - e, min (g.h - 1) (y + e))
  else
    let c := (scalePos (t.get PIX_SCALE1.VINC p) y).1
    (c - 1 - e, min (g.h - 1) (c + 2 + e))

/-! ### Statistics (R349) -/

/-- The three statistic channels of pixel (x, y) as (channel, value): 0 R, 1 G, 2 B. -/
def statSamples (t s : State) (p : Nat) (g : Frame) (x y : Nat) : List (Nat × Int) :=
  match inputClass g.code with
  | 0 =>
    let c := siteOf (cfaOf t p) x y
    [(if c == 0 then 0 else if c == 3 then 2 else 1, rawPlane t s p g x y)]
  | 1 => [(0, stage1 g 2 x y), (1, stage1 g 0 x y), (2, stage1 g 1 x y)]
  | _ => [(0, stage1 g 0 x y), (1, stage1 g 1 x y), (2, stage1 g 2 x y)]

/-- The picture that FOCUS reads: the tap of the G samples. -/
def focusPlane (t s : State) (p : Nat) (g : Frame) : Plane :=
  match inputClass g.code with
  | 0 => rawPlane t s p g
  | 1 => stage1 g 0
  | _ => stage1 g 1

/-- A sum that stays at 0xFFFFFFFF. -/
def satSum (l : List Nat) : Nat := min (l.foldl (· + ·) 0) 0xFFFFFFFF

/-- The pixels of the first `rows` lines that lie in columns `x0 .. x1 - 1` and lines `y0 .. y1 - 1`. -/
def sitesIn (rows x0 x1 y0 y1 : Nat) : List (Nat × Nat) :=
  (List.range (min rows y1 - y0)).flatMap (fun j => (List.range (x1 - x0)).map (fun i => (x0 + i, y0 + j)))

/-- Histogram bin `b` (R349). -/
def histBin (t s : State) (p : Nat) (g : Frame) (rows b : Nat) : Nat :=
  let ch := t.get PIX_STATCFG.STATCH p
  satSum ((sitesIn rows 0 g.w 0 g.h).map (fun (x, y) =>
    ((statSamples t s p g x y).filter (fun (c, v) => (ch == 0 || c + 1 == ch) && v / 256 == b)).length))

/-- Words 0-3 of a zone (R349): SUMR, SUMG, SUMB, FOCUS. -/
def zoneWord (t s : State) (p : Nat) (g : Frame) (rows i j k : Nat) : Nat :=
  let gx := t.get PIX_STATCFG.GX p + 1
  let gy := t.get PIX_STATCFG.GY p + 1
  let sites := sitesIn rows (i * g.w / gx) ((i + 1) * g.w / gx) (j * g.h / gy) ((j + 1) * g.h / gy)
  if k < 3 then
    satSum (sites.map (fun (x, y) =>
      (((statSamples t s p g x y).filter (fun (c, _) => c == k)).map (fun (_, v) => (v / 256).toNat)).foldl (· + ·) 0))
  else
    let d : Int := if inputClass g.code == 0 && cfaOf t p != 0 then 2 else 1
    let f := focusPlane t s p g
    satSum ((sites.filter (fun (x, y) => (statSamples t s p g x y).any (fun (c, _) => c == 1))).map (fun (x, y) =>
      (mag (f x y - f (x + d) y) / 16).toNat))

end Sys2Proof.Machine
end

