-- ==== Sys2Proof/Machine/Pix.lean ====
section
/-! DEFINITION. Pixel pipes (chapter 10): derived fields, the parameter latch, frames through a pipe, its items and
statistics, tables and the self test. -/

namespace Sys2Proof.Machine

/-- The hidden state of pipe `p`. -/
def State.pipe (s : State) (p : Nat) : PipeSt := tget {} s.pipes p

/-- `s` with the hidden state of pipe `p` replaced. -/
def State.setPipe (s : State) (p : Nat) (u : PipeSt) : State := { s with pipes := tput {} s.pipes p u }

/-- The state of pipe `p` (R342): 0 OFF, 1 WAIT, 2 RUN, 3 FLUSH, 4 BIST. -/
def pipeState (s : State) (p : Nat) : Nat := s.get PIX_STAT.STATE p

/-! ### Derived fields (R354) -/

/-- Set the words of a 3 by 3 matrix held in pairs. -/
def setMatrix (f : Fld) (p : Nat) (e : Nat → Int) (s : State) : State :=
  (List.range 5).foldl (fun t k => t.set f (pairWord e k) p k) s

/-- Entry `e` of the derived colour matrix: Lm + s (I - Lm) times M. -/
def ccmEntry (s : State) (p e : Nat) : Int :=
  let i := e / 3
  let j := e % 3
  let sat : Int := min 200 (s.get PIX_BASIC.SAT p)
  let csc := s.get PIX_BASIC.CSC p
  let a := fun k : Nat => ((lumaK csc k : Int) * (100 - sat) + (if i == k then 10000 * sat else 0))
  let m := fun k : Nat => signedOf 16 (s.get PIX_TBL2.M p (3 * k + j))
  roundDiv (a 0 * m 0 + a 1 * m 1 + a 2 * m 2) 1000000

/-- The scaler increments for an input size (R354). -/
def deriveScale (p w h : Nat) (s : State) : State :=
  (s.set PIX_SCALE0.HINC (scaleInc w (s.get PIX_OUTSIZE.W p)) p).set PIX_SCALE1.VINC (scaleInc h (s.get PIX_OUTSIZE.H p)) p

/-- Tables 3 and 4 as derived (R354). -/
def deriveTables (p : Nat) (s : State) : State :=
  let gamma := s.get PIX_BASIC.GAMMA p
  let s1 := (List.range 1025).foldl (fun t k => t.set PIX_TBL3.L (lutEntry gamma k) p k) s
  (List.range 256).foldl (fun t k => t.set PIX_TBL4.C (code16 (scaleTap (k / 4) (k % 4))) p k) s1

/-- BLGAIN for a black level (R354). -/
def blGain (bl : Nat) : Nat := (roundDiv (4096 * 65535) (65535 - min bl 32767)).toNat

/-- Re-derive the RWX fields and tables of pipe `p` at the basic level (R354). -/
def derivePipe (p : Nat) (s : State) : State :=
  if expertOn s PIX_LEVEL.EXPERT then s
  else
    let csc := s.get PIX_BASIC.CSC p
    let narrow := s.flag PIX_BASIC.RANGE p
    let s1 := (s.set PIX_BLGAIN0.R (blGain (s.get PIX_BLACK0.R p)) p).set PIX_BLGAIN0.GR (blGain (s.get PIX_BLACK0.GR p)) p
    let s2 := (s1.set PIX_BLGAIN1.GB (blGain (s.get PIX_BLACK1.GB p)) p).set PIX_BLGAIN1.B (blGain (s.get PIX_BLACK1.B p)) p
    let s3 := s2.set PIX_DEFTH.DDTH ([65535, 8192, 4096, 2048].getD (s.get PIX_BASIC.DDSTR p) 0) p
    let s4 := s3.set PIX_DEFTH.EDGETH ([0, 256, 1024, 4096].getD (s.get PIX_BASIC.EDGE p) 0) p
    let s5 := setMatrix PIX_CCM.reg p (ccmEntry s p) s4
    let s6 := setMatrix PIX_CSCM.reg p (fun e => cscEntry csc narrow (e / 3) (e % 3)) s5
    let s7 := ((s6.set PIX_CSCOFS0.OY (cscLumaOfs narrow) p).set PIX_CSCOFS0.OCB 32768 p).set PIX_CSCOFS1.OCR 32768 p
    deriveTables p (deriveScale p (s.pipe p).lastW (s.pipe p).lastH s7)

/-! ### The latch (R339) -/

/-- The registers that the parameter set of pipe `p` comprises: basic and expert fields, regions and tables 2-4. -/
def inSet (p a : Nat) : Bool :=
  let o := a - (0x400000 + 0x40000 * p)
  0x400000 + 0x40000 * p ≤ a && ((0x100 ≤ o && o < 0x200) || (0x20000 ≤ o && o < 0x38000))

/-- Latch the parameter set of pipe `p` for a frame of size `w` by `h` (R339, R354). -/
def latchSet (p w h : Nat) (s : State) : State :=
  let u := s.pipe p
  if s.flag PIX_CTL.HOLD p && u.hasSet then s
  else
    let s1 := if (w == u.lastW && h == u.lastH) || expertOn s PIX_LEVEL.EXPERT then s else deriveScale p w h s
    s1.setPipe p { u with
      set := s1.regs.filter (fun e => inSet p e.1)
      hasSet := true
      lastW := w
      lastH := h }

/-- A state whose registers hold the set latched by pipe `p`. -/
def setView (s : State) (p : Nat) : State := { s with regs := (s.pipe p).set }

/-! ### Acceptance (R327, R338) -/

/-- The frame has a format and a size that a pipe accepts (R326, R327). -/
def formatOk (cfa code w h : Nat) : Bool :=
  pitchOf code 4 != 0 && 16 ≤ w && 8 ≤ h && (cfa == 0 || (w % 2 == 0 && h % 2 == 0)) &&
    (inputClass code != 1 || w % 2 == 0) && (code != 0x02 || w % 4 == 0) && (code != 0x03 || w % 2 == 0)

/-- The alignment that an output code asks of x and y positions and sizes (R338). -/
def outAlign (code : Nat) : Nat × Nat :=
  if code == 0x10 || code == 0x11 then (2, 1) else if code == 0x30 || code == 0x31 then (2, 2) else (1, 1)

/-- The scaler increments lie in R334. -/
def incOk (inc : Nat) : Bool := 65536 ≤ inc && inc ≤ 4 * 65536

/-- The register offset at which the latched set `t` is invalid for a frame (R338); none when it is valid. -/
def setInvalid (t : State) (p : Nat) (g : Frame) (block : Bool) : Option Nat :=
  let out := t.get PIX_BASIC.OUTFMT p
  let codes := if plainRaw t p g then [0x01, 0x07] else if inputClass g.code == 1 then [0x01, 0x07, 0x10, 0x11, 0x30, 0x31]
    else [0x01, 0x07, 0x10, 0x11, 0x20, 0x22, 0x23, 0x30, 0x31]
  let ow := outWidth t p g
  let oh := outHeight t p g block
  let (ax, ay) := outAlign out
  let badRoi := if block then none else (List.range 4).find? (fun r =>
    bitAt (t.get PIX_ROICTL.EN p) r && !(t.get PIX_ROIA.X p r % ax == 0 && t.get PIX_ROIB.W p r % ax == 0 &&
      t.get PIX_ROIA.Y p r % ay == 0 && t.get PIX_ROIB.H p r % ay == 0))
  if !codes.contains out then some 0x110
  else if g.w < ow || 4 * ow < g.w || g.h < oh || 4 * oh < g.h || ow % ax != 0 || oh % ay != 0 then some 0x128
  else if ow != g.w && !incOk (t.get PIX_SCALE0.HINC p) then some 0x1D0
  else if oh != g.h && !incOk (t.get PIX_SCALE1.VINC p) then some 0x1D4
  else badRoi.map (fun r => 0x140 + 8 * r)

/-! ### Frames -/

/-- The first frame that waits for pipe `p`. -/
def waitingFeed (s : State) (p : Nat) : Option Feed :=
  s.src.feeds.find? (fun f => f.path == p + 1 && f.id != (s.pipe p).feed)

/-- The picture that pipe `p` works on. -/
def pipeFrame (s : State) (p : Nat) : Frame :=
  let u := s.pipe p
  ⟨u.frame.width, u.frame.height, u.frame.format, u.lines⟩

/-- The pipe works on a line block (R325). -/
def pipeBlock (s : State) (p : Nat) : Bool := (s.pipe p).frame.kind == 3

/-- Put `x` into a list ordered by last line and then by region (R347). -/
def putRegion (x : Nat × Nat × Nat × Nat × Nat) (l : List (Nat × Nat × Nat × Nat × Nat)) : List (Nat × Nat × Nat × Nat × Nat) :=
  match l with
  | [] => [x]
  | y :: t =>
    if x.2.2.1 + x.2.2.2.2 < y.2.2.1 + y.2.2.2.2 then x :: y :: t else y :: putRegion x t

/-- The regions of a frame as (region, x, y, w, h), clipped, in the order of their tags (R347), and how many are empty. -/
def regionsOf (t : State) (p ow oh : Nat) : List (Nat × Nat × Nat × Nat × Nat) × Nat :=
  let all := ((List.range 4).filter (fun r => bitAt (t.get PIX_ROICTL.EN p) r)).map (fun r =>
    let x := t.get PIX_ROIA.X p r
    let y := t.get PIX_ROIA.Y p r
    (r, x, y, min (t.get PIX_ROIB.W p r) (ow - x), min (t.get PIX_ROIB.H p r) (oh - y)))
  let good := all.filter (fun e => e.2.2.2.1 != 0 && e.2.2.2.2 != 0)
  (good.foldl (fun l e => putRegion e l) [], all.length - good.length)

/-- Create the items of the frame that pipe `p` has accepted (R325, R345, R347, R500). -/
def openItems (p : Nat) (f : Feed) (s : State) : State :=
  let t := setView s p
  let g := pipeFrame s p
  let block := f.kind == 3
  let ow := outWidth t p g
  let oh := outHeight t p g block
  if block then
    let ((id, seq), s1) := openPicture f ow oh s
    s1.setPipe p { s1.pipe p with items := [(id, 4, 0, 0, ow, oh)], seq := seq }
  else
    let (regs, empty) := regionsOf t p ow oh
    let full := t.flag PIX_ROICTL.FULL p || t.get PIX_ROICTL.EN p == 0
    let plan := regs ++ (if full then [(4, 0, 0, ow, oh)] else [])
    let (seq, s1) := takeSeq f.stream (s.count PIX_ROIEMPTY.COUNT p 0 empty)
    let body := frameBody f.tTrig f.tExp f.expNs ow oh f.damage 0
    (plan.foldl (fun (acc : State × Nat) e =>
      let (a, k) := acc
      let cont := if k + 1 == plan.length then 0 else 0x20
      let (id, a1) := newItem 2 p f.stream (if e.1 == 4 then f.kind else 2) (if e.1 == 4 then 0 else e.1) e.1 seq
        (f.flags ||| cont) 0 body a
      (a1.setPipe p { a1.pipe p with items := (a1.pipe p).items ++ [(id, e)] }, k + 1))
      (s1.setPipe p { s1.pipe p with items := [], seq := seq }, 0)).1

/-- The frame `f` is not opened (R327, R338). -/
def refuseFrame (f : Feed) (s : State) : State :=
  if f.ended then settleStream f.stream (s.dropFeed f.id) else s.setFeed { f with path := 255, data := [] }

/-- A frame start reaches pipe `p` in WAIT (R327, R338, R339, R342): the set is latched, and the frame is opened or
refused. A frame whose FRAME_START has not come yet waits, since its size and format are not known. -/
def pipeFrameStart (p : Nat) (s : State) : State :=
  match waitingFeed s p with
  | none => s
  | some f =>
    if pipeState s p != 1 || !(f.started || f.ended) then s
    else
      let w := min 8192 f.width
      let s1 := latchSet p w f.height s
      let t := setView s1 p
      let block := f.kind == 3
      if !formatOk (cfaOf t p) f.format f.width f.height then
        refuseFrame f ((s1.count PIX_REFUSED.FMT p).log 0x0803 [p, f.format, f.width * 65536 + f.height])
      else
        match setInvalid t p ⟨w, f.height, f.format, []⟩ block with
        | some o => refuseFrame f ((s1.count PIX_REFUSED.CFG p).log 0x0805 [p, o])
        | none =>
          let s2 := if 8192 < f.width then s1.log 0x0804 [p, f.width] else s1
          let s3 := match (if t.flag PIX_STAGES.SDEF p then (defects s2 p).2 else none) with
            | some k => s2.log 0x0809 [p, k]
            | none => s2
          let s4 := s3.setPipe p { s3.pipe p with
            feed := f.id
            frame := { f with width := w, data := [] }
            lines := []
            bad := []
            items := []
            overrun := false
            rows := 0
            tblLogged := false }
          let s5 := ((s4.count PIX_FRAMES.COUNT p).set PIX_STAT.STATE 2 p).set PIX_STAT.LINE 0 p
          openItems p f s5

/-- The bytes of output row `y` go to every item that holds it. -/
def emitRow (p y : Nat) (s : State) : State :=
  let t := setView s p
  let f := outPlanes t s p (pipeFrame s p) (pipeBlock s p)
  let code := t.get PIX_BASIC.OUTFMT p
  (s.pipe p).items.foldl (fun a (id, _, x0, y0, w, h) =>
    if id != 0 && y0 ≤ y && y < y0 + h then itemData id (rowBytes code f x0 w y) a else a) s

/-- Emit output rows in order, at most `fuel`, while their input lines are in. -/
def emitRows (p : Nat) : Nat → State → State
  | 0, s => s
  | fuel + 1, s =>
    let u := s.pipe p
    let t := setView s p
    let g := pipeFrame s p
    let oh := outHeight t p g (pipeBlock s p)
    if oh ≤ u.rows || u.lines.length ≤ (lineSupport t p g (pipeBlock s p) 3 u.rows).2 then s
    else
      let s1 := emitRow p u.rows s
      emitRows p fuel (s1.setPipe p { s1.pipe p with rows := u.rows + 1 })

/-- `QUE` cannot accept the output of pipe `p` (R344, R502). -/
def pipeStopped (s : State) (p : Nat) : Bool := (s.pipe p).items.any (fun e => e.1 != 0 && 65536 ≤ stagedBytes s e.1)

/-- An input line enters pipe `p` (R343, R344); `cut` is the pixel at which its input buffer was full. -/
def pipeInputLine (p : Nat) (cut : Option Nat) (s : State) : State :=
  let u := s.pipe p
  match feedOf s u.feed with
  | none => s
  | some f =>
    let pitch := pitchOf f.format f.width
    if pipeState s p != 2 || f.data.length < pitch || f.height ≤ u.lines.length || pipeStopped s p then s
    else
      let k := cut.getD u.frame.width
      let isOver := k < u.frame.width
      let s1 := s.setFeed { f with data := f.data.drop pitch }
      let s2 := s1.setPipe p { u with
        lines := u.lines ++ [(k, f.data.take pitch)]
        bad := if isOver then u.bad ++ [u.lines.length] else u.bad
        overrun := u.overrun || isOver }
      let s3 := s2.set PIX_STAT.LINE (u.lines.length + 1) p
      let s4 := if isOver then s3.count PIX_OVFCNT.COUNT p else s3
      let s5 := if isOver && !u.overrun then (s4.fire (0x120 + p)).log 0x0801 [p, 1] else s4
      emitRows p (outHeight (setView s5 p) p (pipeFrame s5 p) (pipeBlock s5 p)) s5

/-- The input of pipe `p` ends (R342, R348). -/
def pipeInputEnd (p : Nat) (s : State) : State :=
  let u := s.pipe p
  match feedOf s u.feed with
  | none => s
  | some f =>
    if pipeState s p == 2 && (f.height ≤ u.lines.length || (f.ended && f.data.length < pitchOf f.format f.width))
    then s.set PIX_STAT.STATE 3 p else s

/-- The chroma rows of 4:2:0 follow the luma rows that were written (R326). -/
def emitChroma (p : Nat) (s : State) : State :=
  let t := setView s p
  let code := t.get PIX_BASIC.OUTFMT p
  if code != 0x30 && code != 0x31 then s
  else
    let f := outPlanes t s p (pipeFrame s p) (pipeBlock s p)
    (s.pipe p).items.foldl (fun a (id, _, x0, y0, w, h) =>
      if id == 0 then a
      else
        let ks := (List.range (h / 2)).filter (fun k => y0 + 2 * k + 1 < (s.pipe p).rows)
        itemData id (ks.flatMap (fun k => chromaRow code f x0 w (y0 / 2 + k))) a) s

/-- The lines of an item that are missing (R346). -/
def itemMissing (s : State) (p : Nat) (f : Feed) (y0 h : Nat) : Nat :=
  let u := s.pipe p
  let t := setView s p
  let g := pipeFrame s p
  ((List.range h).filter (fun k =>
    let (lo, hi) := lineSupport t p g (pipeBlock s p) 2 (y0 + k)
    u.rows ≤ y0 + k || u.lines.length ≤ hi || u.bad.any (fun b => lo ≤ b && b ≤ hi) ||
      f.missing.any (fun b => lo ≤ b && b ≤ hi))).length

/-- End the items of pipe `p` with the frame's final counts (R345, R346, R348). -/
def endItems (p : Nat) (f : Feed) (s : State) : State :=
  let u := s.pipe p
  let flags := f.flags ||| (if u.overrun then 0x80 else 0)
  u.items.foldl (fun a (id, r, _, y0, w, h) =>
    let missing := itemMissing s p f y0 h
    if id == 0 then a
    else if r == 4 then closePicture { f with flags := flags } id w h f.damage missing flags a
    else endItem id flags (frameBody f.tTrig f.tExp f.expNs w h f.damage missing) a) s

/-- The statistics of the frame go to the bank that does not hold the last completed set (R349, R350). -/
def writeStats (p : Nat) (f : Feed) (s : State) : State :=
  let t := setView s p
  if !t.flag PIX_STATCFG.EN p then s
  else
    let u := s.pipe p
    let g := pipeFrame s p
    let e := if inputClass g.code != 0 || t.get PIX_BASIC.DDSTR p == 0 then 0 else siteStep (cfaOf t p)
    let rows := if g.h ≤ u.lines.length then g.h else u.lines.length - e
    let bank := 1 - s.get PIX_STAT.BANK p
    let base := 0x438000 + 0x40000 * p + 0x2000 * bank
    let s1 := s.clearRegs base (base + 0x2000)
    let s2 := s1.wrWords base [u.seq, f.stream, u.frame.width * 65536 + u.frame.height, 1 + 2 * (f.flags % 2)]
    let s3 := (List.range 256).foldl (fun a b => a.wrA (base + 0x10 + 4 * b) (histBin t s p g rows b)) s2
    let gx := t.get PIX_STATCFG.GX p + 1
    let gy := t.get PIX_STATCFG.GY p + 1
    let s4 := (List.range gy).foldl (fun a j => (List.range gx).foldl (fun b i =>
      b.wrWords (base + 0x1000 + 16 * (j * 16 + i)) ((List.range 4).map (zoneWord t s p g rows i j))) a) s3
    (s4.set PIX_STAT.BANK bank p).fire (0x11C + p)

/-- Pipe `p` is between frames: WAIT, or OFF when it is disabled and nothing waits for it (R342). -/
def pipeRest (p : Nat) (s : State) : State :=
  s.set PIX_STAT.STATE (if s.flag PIX_SRC.EN p || (waitingFeed s p).isSome then 1 else 0) p

/-- The pictures that encoder contexts took from this frame are complete (R578, R595). -/
def completePictures (p : Nat) (f : Feed) (s : State) : State :=
  let flags := (f.flags ||| (if (s.pipe p).overrun then 0x80 else 0)) &&& 0x3DE
  let t := setView s p
  let missing := itemMissing s p f 0 (outHeight t p (pipeFrame s p) (pipeBlock s p))
  { s with ven := { s.ven with pics := s.ven.pics.map (fun q =>
      if q.feed == f.id then { q with
        complete := true
        flags := q.flags ||| flags
        body := q.body.take 40 ++ leBytes 2 (min f.damage 0xFFFF) ++ leBytes 2 (min missing 0xFFFF) } else q) } }

/-- FLUSH ends (R342): the remaining lines, the items, the statistics and `PIX_EOF`. -/
def pipeFlushDone (p : Nat) (s : State) : State :=
  let u := s.pipe p
  match feedOf s u.feed with
  | none => s
  | some f =>
    if pipeState s p != 3 || !f.ended then s
    else
      let s1 := emitChroma p (emitRows p u.frame.height s)
      let s2 := writeStats p f (endItems p f (completePictures p f s1))
      let s3 := (s2.dropFeed f.id).fire (0x118 + p)
      let s4 := s3.setPipe p { s3.pipe p with feed := 0, items := [], lines := [], bad := [] }
      settleStream f.stream (pipeRest p s4)

/-! ### Registers and the self test -/

/-- A write of `PIX_SRC` (R322, R323, R342). -/
def pixSrcWrite (p v : Nat) (s : State) : State :=
  let st := bitsOf v 5 0
  let taken := (List.range 4).any (fun q => q != p && s.flag PIX_SRC.EN q && s.get PIX_SRC.STREAM q == st)
  let s1 := s.set PIX_SRC.STREAM st p
  let s2 := if bitAt v 31 && taken then (s1.set PIX_SRC.EN 0 p).log 0x0802 [p, st] else s1.set PIX_SRC.EN (v / 2 ^ 31) p
  if pipeState s p ≤ 1 then pipeRest p s2 else s2

/-- A write to word `k` of table 0 or 1 (R340). -/
def pixTableWrite (p tbl k v : Nat) (s : State) : State :=
  if 2 ≤ pipeState s p then
    let u := s.pipe p
    let s1 := s.count PIX_REFUSED.TBL p
    if u.tblLogged then s1 else (s1.setPipe p { u with tblLogged := true }).log 0x0806 [p, tbl]
  else if tbl == 0 then s.set PIX_TBL0.W v p k else s.set PIX_TBL1.G v p k

/-- A write of `PIX_BIST.START` (R352). -/
def pixBistStart (p : Nat) (s : State) : State :=
  if inService s && pipeState s p ≤ 1 then
    ((s.set PIX_BIST.RUNNING 1 p).set PIX_BIST.RESULT 0 p).set PIX_STAT.STATE 4 p
  else s.log 0x0807 [p]

/-- The self test of pipe `p` ends (R352): the tables return to their reset contents, the banks read 0. -/
def pixBistEnd (p result : Nat) (s : State) : State :=
  if s.flag PIX_BIST.RUNNING p then
    let base := 0x400000 + 0x40000 * p
    let s1 := deriveTables p (s.clearRegs (base + 0x10000) (base + 0x3C000))
    let s2 := derivePipe p ((s1.set PIX_BIST.RUNNING 0 p).set PIX_BIST.RESULT result p)
    pipeRest p s2
  else s

def execPipeFrameStart (p : Fin 4) (s : State) : Out := .next (pipeFrameStart p.val s)
def execPipeInputLine (p : Fin 4) (cut : Option Nat) (s : State) : Out := .next (pipeInputLine p.val cut s)
def execPipeInputEnd (p : Fin 4) (s : State) : Out := .next (pipeInputEnd p.val s)
def execPipeFlushDone (p : Fin 4) (s : State) : Out := .next (pipeFlushDone p.val s)
def execPixBistDone (p : Fin 4) (fail : Option Nat) (s : State) : Out :=
  .next (match fail with
    | none => pixBistEnd p.val 1 s
    | some m => if s.flag PIX_BIST.RUNNING p.val then (pixBistEnd p.val 2 s).log 0x0808 [p.val, m] else s)

end Sys2Proof.Machine
end

