-- ==== Sys2Proof/Machine/Ven.lean ====
section
/-! DEFINITION. The video encoder (chapter 17): contexts, the pictures they take and lose, cores and their segments, rate
and motion parameters, and access units. The bytes that a core produces for a segment, and the quantiser values it chose,
come with the command (log entry 40). -/

namespace Sys2Proof.Machine

/-- The hidden state of context `x`. -/
def State.vctx (s : State) (x : Nat) : CtxSt := tget {} s.ven.ctxs x

/-- `s` with the hidden state of context `x` replaced. -/
def State.setVctx (s : State) (x : Nat) (u : CtxSt) : State :=
  { s with ven := { s.ven with ctxs := tput {} s.ven.ctxs x u } }

/-- The state of context `x` (R576): 0 OFF, 1 READY, 2 HALT, 3 CLOSING. -/
def ctxState (s : State) (x : Nat) : Nat := s.get VEN_CSTAT.STATE x

/-- The state of core `c` (R581): 0 OFF, 1 IDLE, 2 RUN, 3 PARKING, 4 PARKED. -/
def coreState (s : State) (c : Nat) : Nat := s.get VEN_CORESTAT.STATE c

/-- `VEN` exists on the LVG-16F only (R566). -/
def onVen (f : State → State) (s : State) : State := if s.fuses.variant == .f then f s else s

/-- The pictures of context `x`, oldest first. -/
def ctxPics (s : State) (x : Nat) : List Picture := s.ven.pics.filter (fun q => q.ctx == x)

/-- `VEN_CSTAT.SLOTS` follows the input slots occupied. -/
def setSlots (x : Nat) (s : State) : State := s.set VEN_CSTAT.SLOTS (min 3 (ctxPics s x).length) x

/-- `s` with the picture of the same order replaced. -/
def State.setPic (s : State) (q : Picture) : State :=
  { s with ven := { s.ven with pics := s.ven.pics.map (fun r => if r.order == q.order then q else r) } }

/-! ### Derived fields (R600) and the level (R573) -/

/-- NUM and DEN of the picture rate; a 0 in either acts as 60 fps (R600). -/
def ctxRate (s : State) (x : Nat) : Nat × Nat :=
  let n := s.get VEN_CFPS.NUM x
  let d := s.get VEN_CFPS.DEN x
  if n == 0 || d == 0 then (60, 1) else (n, d)

/-- The division of context `x`: 0 TILES, 1 WPP, 2 SLICES; 3 acts as 0. -/
def ctxDiv (s : State) (x : Nat) : Nat := if s.get VEN_CCFG.DIV x == 3 then 0 else s.get VEN_CCFG.DIV x

/-- References of context `x`: 0 acts as 1, 3 as 2. -/
def ctxRefs (s : State) (x : Nat) : Nat := max 1 (min 2 (s.get VEN_CCFG.NREF x))

/-- The derived `NSEG` (R600). -/
def derivedNseg (s : State) (x w h : Nat) : Nat :=
  let p := popCount8 (s.get VEN_CCFG.CORES x)
  max 1 (match ctxDiv s x with
    | 1 => 1
    | 2 => min p (ceilDiv h 64)
    | _ => min p (min (w / 256) 20))

/-- The derived `QPINIT` of CBR and VBR (R600): the rounded value as the largest n from 12 to 42 with
(10 b)^12 2^(2n) ≤ 2^61. -/
def derivedQp (kbps num den w h : Nat) : Nat :=
  let a := 10000 * kbps * den
  let c := w * h * num
  (List.range 31).foldl (fun best k => if a ^ 12 * 2 ^ (2 * (12 + k)) ≤ 2 ^ 61 * c ^ 12 then 12 + k else best) 12

/-- Re-derive the RWX fields of context `x` at the basic level (R600). -/
def deriveCtx (x : Nat) (s : State) : State :=
  if expertOn s VEN_LEVEL.EXPERT then s
  else
    let u := s.vctx x
    let (num, den) := ctxRate s x
    let mode := s.get VEN_CRC.MODE x
    let kbps := s.get VEN_CRC.KBPS x
    let top := match mode with | 0 => 0 | 1 => kbps | 2 => 2 * kbps | _ => 4 * kbps
    let qp := if mode == 0 || mode == 3 then 30 else derivedQp kbps num den u.latchW u.latchH
    let s1 := (s.set VEN_CDIV.NSEG (derivedNseg s x u.latchW u.latchH) x).set VEN_CQP.QPINIT qp x
    let s2 := ((s1.set VEN_CQP.QPMIN 10 x).set VEN_CQP.QPMAX 51 x).set VEN_CQP.QPSTEP 4 x
    let s3 := (s2.set VEN_CQP.DQPIDR 13 x).set VEN_CMAXR.MAXKBPS top x
    let s4 := s3.set VEN_CVBV.VBVKBIT (match mode with | 1 => kbps | 2 => top | _ => 0) x
    (s4.set VEN_CSRCH.SRCH2 32 x).set VEN_CSRCH.SRCH0 4 x

/-- Levels as (idc, samples per picture, tile rows, tile columns, samples per second, Main tier kb/s): Annex A of H.265
(PRESUMED, log entry 41). -/
def levelTable : List (Nat × Nat × Nat × Nat × Nat × Nat) := [
  (30, 36864, 1, 1, 552960, 128), (60, 122880, 1, 1, 3686400, 1500), (63, 245760, 1, 1, 7372800, 3000),
  (90, 552960, 2, 2, 16588800, 6000), (93, 983040, 3, 3, 33177600, 10000), (120, 2228224, 5, 5, 66846720, 12000),
  (123, 2228224, 5, 5, 133693440, 20000), (150, 8912896, 11, 10, 267386880, 25000),
  (153, 8912896, 11, 10, 534773760, 40000), (156, 8912896, 11, 10, 1069547520, 60000),
  (180, 35651584, 22, 20, 1069547520, 60000), (183, 35651584, 22, 20, 2139095040, 120000),
  (186, 35651584, 22, 20, 4278190080, 240000)]

/-- A size rounded up to a multiple of `n`. -/
def roundUpTo (n v : Nat) : Nat := ceilDiv v n * n

/-- The level and tier of context `x` for a picture of `w` by `h` (R573), and whether no level admits it. -/
def levelOf (s : State) (x w h : Nat) : Nat × Nat × Bool :=
  let cw := roundUpTo 8 w
  let ch := roundUpTo 8 h
  let (num, den) := ctxRate s x
  let cols := if ctxDiv s x == 0 then (s.vctx x).nseg else 1
  let fits := fun (e : Nat × Nat × Nat × Nat × Nat × Nat) =>
    cw * ch ≤ e.2.1 && cw * cw ≤ 8 * e.2.1 && ch * ch ≤ 8 * e.2.1 && cols ≤ e.2.2.2.1 && cw * ch * num ≤ e.2.2.2.2.1 * den
  let set := s.get VEN_CGOP.LEVEL x
  let row := if set == 0 then levelTable.find? fits else levelTable.find? (fun e => e.1 == set)
  let idc := if set == 0 then (match row with | some e => e.1 | none => 186) else set
  let main := match row with | some e => e.2.2.2.2.2 | none => if set == 0 then 240000 else 0
  let tier := if s.get VEN_CRC.MODE x == 0 || main < s.get VEN_CMAXR.MAXKBPS x then 1 else 0
  (idc, tier, set == 0 && row.isNone)

/-! ### Lost pictures (R579) -/

/-- `n` pictures are lost before the next one that context `x` delivers: they count on its oldest waiting picture, or on the
next it takes. -/
def addLost (x n : Nat) (s : State) : State :=
  match (ctxPics s x).head? with
  | some q => s.setPic { q with lost := q.lost + n }
  | none => s.setVctx x { s.vctx x with lostNow := (s.vctx x).lostNow + n }

/-- Context `x` loses one picture with a cause (R579); nothing fires while `CLK_VENC` is in reset (R598). -/
def countLost (x cause : Nat) (s : State) : State :=
  let s1 := s.count VEN_CLOST.COUNT x
  let s2 := if s1.clk.vencUp then s1.fire (0x280 + x) else s1
  s2.logSec 0x0F02 x [x, cause]

/-- An offered picture is lost with a cause. -/
def loseOffer (x cause : Nat) (s : State) : State :=
  countLost x cause (s.setVctx x { s.vctx x with lostNow := (s.vctx x).lostNow + 1 })

/-- A picture that a context holds is lost; when it was to be an IDR picture, the next one is (R593). -/
def losePic (cause : Nat) (q : Picture) (s : State) : State :=
  let s1 : State := { s with ven := { s.ven with pics := s.ven.pics.filter (fun r => r.order != q.order) } }
  let s2 := if q.idr then s1.set VEN_CSTAT.IDRPEND 1 q.ctx else s1
  setSlots q.ctx (countLost q.ctx cause (addLost q.ctx (q.lost + 1) s2))

/-- Every picture of context `x` that `f` selects is lost. -/
def losePics (x cause : Nat) (f : Picture → Bool) (s : State) : State :=
  ((ctxPics s x).filter f).foldl (fun t q => losePic cause q t) s

/-- Context `x` goes to HALT with a reason (R596). -/
def contextHalt (x reason : Nat) (s : State) : State :=
  if ctxState s x != 1 then s
  else
    let s1 := losePics x 7 (fun _ => true) s
    let s2 := ((s1.set VEN_CSTAT.STATE 2 x).set VEN_CSTAT.REASON reason x).set VEN_CSTAT.IDRPEND 1 x
    s2.log 0x0F03 [x, reason]

/-- Every context in READY halts (R531, R534, R536). -/
def haltContexts (reason : Nat) (s : State) : State := (List.range 32).foldl (fun t x => contextHalt x reason t) s

/-! ### Enabling and closing (R576, R577) -/

/-- The pool's base address. -/
def poolBase (s : State) (x : Nat) : Nat := s.get VEN_CRBASELO.BASE x + s.get VEN_CRBASEHI.BASE x * 2 ^ 32

/-- Log that a write to a register of context `x` was refused. -/
def refuseVen (x : Nat) (f : Fld) (s : State) : State := s.log 0x0F01 [x, f.adr x - 0xC00000]

/-- The fields of `VEN_CCFG` but EN take their values from `v`. -/
def storeCcfg (x v : Nat) (s : State) : State :=
  s.set VEN_CCFG.reg (putBits (v &&& 0xFEC0FF00) 31 31 (s.get VEN_CCFG.EN x)) x

/-- A fresh start of context `x`: IDR pending, the buffer 90 % full (R591, R593). -/
def startCtx (x : Nat) (s : State) : State :=
  let s1 := s.setVctx x { s.vctx x with
    last := none
    lastQp := none
    vbv := s.get VEN_CVBV.VBVKBIT x * 900 }
  ((s1.set VEN_CSTAT.STATE 1 x).set VEN_CSTAT.REASON 0 x).set VEN_CSTAT.IDRPEND 1 x

/-- A write of `VEN_CCFG` (R576, R577, *Basic control*). -/
def venEnableWrite (x v : Nat) (s : State) : State :=
  let on := s.flag VEN_CCFG.EN x
  let old := s.get VEN_CCFG.reg x
  let st := ctxState s x
  if on then
    if (v &&& 0x66C0FF00) != (old &&& 0x66C0FF00) then refuseVen x VEN_CCFG.reg s
    else
      let s1 := storeCcfg x v s
      if bitAt v 31 then deriveCtx x s1
      else
        let s2 := deriveCtx x (s1.set VEN_CCFG.EN 0 x)
        if st == 1 then losePics x 8 (fun q => !q.started) (s2.set VEN_CSTAT.STATE 3 x)
        else s2.set VEN_CSTAT.STATE 0 x
  else
    let s1 := deriveCtx x (storeCcfg x v s)
    if !bitAt v 31 then s1
    else if st != 0 || poolBase s x % 4096 != 0 || poolBase s x == 0 || s1.get VEN_CCFG.CORES x == 0 ||
        s.get VEN_CRSIZE.SIZE x == 0 then refuseVen x VEN_CCFG.reg s1
    else
      let s2 := s1.setVctx x { s1.vctx x with nseg := max 1 (s1.get VEN_CDIV.NSEG x), levelLogged := false }
      startCtx x (s2.set VEN_CCFG.EN 1 x)

/-- CLOSING has finished its picture (R576). -/
def closeDone (x : Nat) (s : State) : State :=
  if ctxState s x == 3 && ctxPics s x == [] then s.set VEN_CSTAT.STATE 0 x else s

/-- A write of `VEN_CCTL.RESTART` (R597). -/
def venRestart (x : Nat) (s : State) : State :=
  if ctxState s x == 2 && canMaster s then startCtx x s else refuseVen x VEN_CCTL.reg s

/-! ### Pictures (R568, R569, R574, R578) -/

/-- Sixteen times F of R574, for an output code. -/
def poolFactor (code : Nat) : Nat :=
  match code with | 0x30 => 24 | 0x31 => 48 | 0x10 => 32 | _ => 64

/-- The bytes of one pool slot (R574). -/
def slotBytes (code w h : Nat) : Nat :=
  roundUpTo 64 (roundUpTo 8 w) * roundUpTo 64 (roundUpTo 8 h) * (poolFactor code + 1) / 16

/-- The CTU columns of tile `i` of `n`, of `m` in all, uniformly spaced (R580). -/
def tileCols (m n i : Nat) : Nat := (i + 1) * m / n - i * m / n

/-- The cause for which context `x` cannot take a picture (R578), 0 when it can. -/
def offerCause (s : State) (x code w h : Nat) (isOver : Bool) : Nat :=
  let m := ceilDiv w 64
  let n := (s.vctx x).nseg
  let narrow := ctxDiv s x == 0 && 1 < n && (List.range n).any (fun i =>
    (if i + 1 == n then w - (i * m / n) * 64 else tileCols m n i * 64) < 256)
  if ctxState s x == 2 then 7
  else if ctxState s x == 3 then 8
  else if !s.clk.vencUp then 1
  else if 2 ≤ (ctxPics s x).length then 2
  else if !([0x10, 0x11, 0x30, 0x31].contains code) then 3
  else if w % 2 != 0 || h % 2 != 0 || w < 128 || 8192 < w || h < 64 || 4320 < h || narrow then 4
  else if s.get VEN_CRSIZE.SIZE x * 4096 < (ctxRefs s x + 3) * slotBytes code w h then 5
  else if isOver then 6
  else 0

/-- The registers of context `x` and its ROIs, as a picture latches them (R339, R590). -/
def ctxWindow (x a : Nat) : Bool :=
  (0xC81000 + 0x80 * x ≤ a && a < 0xC81080 + 0x80 * x) || (0xC90000 + 0x100 * x ≤ a && a < 0xC90100 + 0x100 * x)

/-- The segments of a picture of context `x` (R580). -/
def segCount (s : State) (x h : Nat) : Nat := if ctxDiv s x == 1 then ceilDiv h 64 else (s.vctx x).nseg

/-- The colour description of the pipe's latched set (R572). -/
def colourOf (s : State) (p : Nat) : Nat :=
  let t := setView s p
  t.get PIX_BASIC.CSC p * 16 + t.get PIX_BASIC.GAMMA p * 2 + t.get PIX_BASIC.RANGE p

/-- Context `x` takes the picture that pipe `p` has latched (R578, R587, R593, R600). -/
def takePicture (x p w h code : Nat) (s : State) : State :=
  let f := (s.pipe p).frame
  let u := s.vctx x
  let key := (w, h, code, colourOf s p)
  let changed := match u.last with | some k => decide (k ≠ key) | none => false
  let every := s.get VEN_CGOP.IDRINT x
  let idr := s.flag VEN_CSTAT.IDRPEND x || changed || (every != 0 && every ≤ u.sinceIdr)
  let s0 := if changed then
      let (why, t) := s.free 32
      t.log 0x0F08 [x, why]
    else s
  let seq := (s.pipe p).seq
  let ev := (s.ven.evals.find? (fun e => e.1 == f.stream && e.2.seq == seq)).map (·.2)
  let wait := (s.flag POS_TAGSEL.AEN f.stream || s.flag POS_TAGSEL.BEN f.stream) && ev.isNone
  let body := frameBody f.tTrig f.tExp f.expNs w h 0 0
  let q : Picture := {
    ctx := x
    order := s.ven.order
    feed := f.id
    stream := f.stream
    seq := seq
    width := w
    height := h
    code := code
    flags := (f.flags &&& 0x3DE) ||| (match ev with | some e => e.flags | none => 0)
    body := match ev with
      | some e => body.take 24 ++ leBytes 4 e.posA ++ leBytes 4 e.posB ++ body.drop 32
      | none => body
    set := s.regs.filter (fun e => ctxWindow x e.1)
    posWait := wait
    speed := ev.map (fun e => (e.sa, e.sb, e.valid))
    segs := List.replicate (segCount s x h) 0
    idr := idr
    lost := u.lostNow }
  let s1 : State := { s0 with ven := { s0.ven with pics := s0.ven.pics ++ [q], order := s0.ven.order + 1 } }
  let s2 := s1.setVctx x { s1.vctx x with
    last := some key
    lostNow := 0
    sinceIdr := if idr then 1 else u.sinceIdr + 1 }
  let (idc, tier, beyond) := levelOf s2 x w h
  let s3 := (s2.set VEN_CLEVEL.LEVEL idc x).set VEN_CLEVEL.TIER tier x
  let s4 := if beyond && !u.levelLogged then
      (s3.setVctx x { s3.vctx x with levelLogged := true }).log 0x0F09 [x]
    else s3
  setSlots x (if idr then s4.set VEN_CSTAT.IDRPEND 0 x else s4)

/-- A pipe offers its picture to context `x` (R351, R578, R579). The offer is made once for each frame. -/
def pictureOffer (x : Nat) (isOver : Bool) (s : State) : State :=
  let p := s.get VEN_CCFG.PIPE x
  let u := s.pipe p
  if ctxState s x == 0 || (pipeState s p != 2 && pipeState s p != 3) || (s.vctx x).offered == u.feed then s
  else
    let t := setView s p
    let g := pipeFrame s p
    let w := outWidth t p g
    let h := outHeight t p g (pipeBlock s p)
    let code := t.get PIX_BASIC.OUTFMT p
    let c0 := s.vctx x
    let s1 := s.setVctx x { c0 with offered := u.feed, latchW := w, latchH := h }
    let s2 := if w == c0.latchW && h == c0.latchH then s1 else deriveCtx x s1
    let cause := offerCause s2 x code w h isOver
    if cause == 0 then takePicture x p w h code s2 else loseOffer x cause s2

/-! ### Cores and segments (R580-R586) -/

/-- A state whose registers hold what picture `q` latched. -/
def picView (s : State) (q : Picture) : State := { s with regs := q.set }

/-- The first segment of picture `q` that core `c` can take: in bitstream order, in WPP only once the row above runs. -/
def nextSeg (s : State) (q : Picture) : Option Nat :=
  (List.range q.segs.length).find? (fun i => q.segs.getD i 2 == 0 &&
    (ctxDiv s q.ctx != 1 || i == 0 || q.segs.getD (i - 1) 0 != 0))

/-- Core `c` may take a segment of picture `q`: the oldest of its context, complete, with its position evaluated. -/
def coreMay (s : State) (c : Nat) (q : Picture) : Bool :=
  bitAt (s.get VEN_CCFG.CORES q.ctx) c && q.complete && !q.posWait && !q.barred.contains c &&
    (ctxPics s q.ctx).head?.map (·.order) == some q.order && (nextSeg s q).isSome

/-- Twice the exposure midpoint of a picture in ns (R587). -/
def midTwice (q : Picture) : Nat := 2 * shortNs (leNat (sliceOf q.body 8 8)) + leNat (sliceOf q.body 16 4)

/-- One component of the motion vector (R587): 4 (S / 16) Δt GAIN / 65,536, rounded and clamped; `dt` is twice Δt in ns. -/
def gmvPart (speed gain dt : Nat) : Int :=
  clampInt (-4096) 4096 (roundDiv (4 * signedOf 32 speed * dt * signedOf 32 gain) (16 * 65536 * 2 * 1000000000))

/-- The motion vector of a P picture (R587, R588) as (x, y, seeded). -/
def gmvOf (s : State) (q : Picture) : Int × Int × Bool :=
  let t := picView s q
  let dt := midTwice q - (s.vctx q.ctx).lastMid
  match q.speed with
  | some (sa, sb, valid) =>
    if t.flag VEN_CCFG.SEED q.ctx then
      (if bitAt valid 0 then gmvPart sa (t.get VEN_CGAINX.GAIN q.ctx) dt else 0,
       if bitAt valid 1 then gmvPart sb (t.get VEN_CGAINY.GAIN q.ctx) dt else 0, valid % 4 != 0)
    else (0, 0, false)
  | none => (0, 0, false)

/-- The QP of a picture (R591): fixed in CQP and CAPPED; else the rate control's choice `want` within its limits. -/
def pictureQp (s : State) (q : Picture) (want : Nat) : Nat :=
  let t := picView s q
  let x := q.ctx
  let lo := t.get VEN_CQP.QPMIN x
  let hi := t.get VEN_CQP.QPMAX x
  let mode := t.get VEN_CRC.MODE x
  let init : Int := t.get VEN_CQP.QPINIT x
  let base : Int := if mode == 0 || mode == 3 then
      if q.idr then init + signedOf 4 (t.get VEN_CQP.DQPIDR x) else init
    else match (s.vctx x).lastQp with
      | some l => if q.idr then want else clampInt ((l : Int) - t.get VEN_CQP.QPSTEP x) ((l : Int) + t.get VEN_CQP.QPSTEP x) want
      | none => want
  (clampInt lo hi base).toNat

/-- Encoding of a picture begins (R571, R583, R587, R591): its order count, vector and QP are fixed. -/
def startPicture (q : Picture) (want : Nat) (s : State) : Picture × State :=
  let u := s.vctx q.ctx
  let (gx, gy, seeded) := if q.idr then (0, 0, false) else gmvOf s q
  let q1 := { q with
    started := true
    poc := if q.idr then 0 else u.lastPoc + 1 + q.lost
    seeded := seeded
    gmvX := codeOf 16 gx
    gmvY := codeOf 16 gy
    qp := pictureQp s q want }
  let s1 := if q.idr then s else (s.set VEN_CGMV.X q1.gmvX q.ctx).set VEN_CGMV.Y q1.gmvY q.ctx
  (q1, s1)

/-- The reads of the pool outstanding (R575). -/
def poolReads (s : State) : Nat := (s.hbr.reads.filter (fun r => 16384 ≤ r.qid)).length

/-- An idle core takes the next segment of the oldest picture it may (R582); it reads the context's pool (R575; one request
stands for its reads, log entry 42). -/
def segmentStart (c want : Nat) (s : State) : State :=
  if coreState s c != 1 then s
  else match s.ven.pics.find? (coreMay s c) with
    | none => s
    | some q0 =>
      let (q, s1) := if q0.started then (q0, s) else startPicture q0 want s
      match nextSeg s q with
      | none => s
      | some i =>
        let s2 := s1.setPic { q with segs := q.segs.set i 1 }
        let s3 : State := { s2 with ven := { s2.ven with work := tput (0, 0) s2.ven.work c (q.order, i) } }
        let s4 := (s3.set VEN_CORESTAT.STATE 2 c).set VEN_CORESTAT.CTX q.ctx c
        if canMaster s4 && poolReads s4 < 384 then issueRead (16384 + q.ctx) 0 0 (poolBase s4 q.ctx) 64 s4 else s4

/-- The CTU rectangle (column, row, columns, rows) of segment `i` of picture `q` (R580). -/
def segRect (s : State) (q : Picture) (i : Nat) : Nat × Nat × Nat × Nat :=
  let m := ceilDiv q.width 64
  let n := ceilDiv q.height 64
  let k := max 1 q.segs.length
  match ctxDiv s q.ctx with
  | 1 => (0, i, m, 1)
  | 2 => (0, i * (n / k) + min i (n % k), m, n / k + (if i < n % k then 1 else 0))
  | _ => (i * m / k, 0, tileCols m k i, n)

/-- The rectangle of ROI `r` as it acts on picture `q`, and its DQP (R589, R590): a moving ROI grows and adds SPDDQP. -/
def roiOf (s : State) (q : Picture) (r : Nat) : Int × Int × Int × Int × Int :=
  let t := picView s q
  let x := q.ctx
  let gx := signedOf 16 q.gmvX
  let gy := signedOf 16 q.gmvY
  let moving := q.seeded && 4 * t.get VEN_ROI3.SPDTH x r ≤ max gx.natAbs gy.natAbs
  let dqp := signedOf 6 (t.get VEN_ROI2.DQP x r) + (if moving then signedOf 6 (t.get VEN_ROI2.SPDDQP x r) else 0)
  let grow := moving && t.flag VEN_ROI2.GROW x r
  let ex : Int := if grow then (ceilDiv gx.natAbs 4 : Nat) else 0
  let ey : Int := if grow then (ceilDiv gy.natAbs 4 : Nat) else 0
  let rx : Int := t.get VEN_ROI0.X x r
  let ry : Int := t.get VEN_ROI0.Y x r
  (rx - ex, ry - ey, rx + t.get VEN_ROI1.W x r + ex, ry + t.get VEN_ROI1.H x r + ey, dqp)

/-- The QP of the 16 by 16 group with its top left at (gx, gy), in a CTU row of QP `row` (R589). -/
def groupQp (s : State) (q : Picture) (gx gy row : Nat) : Nat :=
  let t := picView s q
  let cx : Int := gx + 8
  let cy : Int := gy + 8
  let hit := (List.range 16).find? (fun r =>
    let (x0, y0, x1, y1, _) := roiOf s q r
    t.flag VEN_ROI2.EN q.ctx r && t.get VEN_ROI1.W q.ctx r != 0 && t.get VEN_ROI1.H q.ctx r != 0 &&
      x0 ≤ cx && cx < x1 && y0 ≤ cy && cy < y1)
  match hit with
  | none => row
  | some r => (clampInt (t.get VEN_CQP.QPMIN q.ctx) (t.get VEN_CQP.QPMAX q.ctx) (row + (roiOf s q r).2.2.2.2)).toNat

/-- The QP of a CTU row as the core chose it (R591, R592): within 3 of the picture QP, or QPMAX. -/
def rowQp (s : State) (q : Picture) (want : Nat) : Nat :=
  let hi := (picView s q).get VEN_CQP.QPMAX q.ctx
  if want == hi then hi else (clampInt ((q.qp : Int) - 3) ((q.qp : Int) + 3) want).toNat

/-- The result of a segment: its bytes, and the QPs of its groups by the rows' choices. -/
def segPart (s : State) (q : Picture) (i : Nat) (bytes qps : List Nat) : SegPart :=
  let (c0, r0, cs, rs) := segRect s q i
  let qs := (List.range (4 * rs)).flatMap (fun j => (List.range (4 * cs)).filterMap (fun k =>
    let gx := 64 * c0 + 16 * k
    let gy := 64 * r0 + 16 * j
    if gx < roundUpTo 8 q.width && gy < roundUpTo 8 q.height
    then some (groupQp s q gx gy (rowQp s q (qps.getD (j / 4) q.qp))) else none))
  { bytes := bytes, qpSum := qs.foldl (· + ·) 0, groups := qs.length }

/-- The rate limits on a finished picture (R592): the fill of the buffer, or the cap; the state with the new fill. -/
def rateCheck (q : Picture) (bits : Nat) (s : State) : State :=
  let t := picView s q
  let x := q.ctx
  let (num, den) := ctxRate t x
  let mode := t.get VEN_CRC.MODE x
  let rate := (if mode == 1 then t.get VEN_CRC.KBPS x else t.get VEN_CMAXR.MAXKBPS x) * 1000 * den / num
  let u := s.vctx x
  match mode with
  | 0 => s
  | 3 => if rate < bits then s.log 0x0F06 [x, bits] else s
  | _ =>
    let s1 := s.setVctx x { u with vbv := min (t.get VEN_CVBV.VBVKBIT x * 1000) (u.vbv - bits + rate) }
    if u.vbv < bits then s1.log 0x0F06 [x, bits] else s1

/-- The access unit of a finished picture goes to its queue (R594, R595). -/
def deliverUnit (q : Picture) (s : State) : State :=
  let x := q.ctx
  let parts := (List.range q.segs.length).filterMap (fun i => (q.parts.find? (fun e => e.1 == i)).map (·.2))
  let bytes := parts.flatMap (·.bytes)
  let sum := (parts.map (·.qpSum)).foldl (· + ·) 0
  let n := max 1 ((parts.map (·.groups)).foldl (· + ·) 0)
  let qp := (2 * sum + n) / (2 * n)
  let word := (if q.idr then 2 ^ 31 else 0) + (if q.seeded then 2 ^ 30 else 0) + qp % 64 * 2 ^ 24 +
    min 255 q.lost * 2 ^ 16 + q.poc % 2 ^ 16
  let seq := tget 0 s.que.aseq x
  let s1 := createItem {
    source := 3
    src := x
    stream := q.stream
    kind := 5
    mapIx := x
    seq := seq
    flags := q.flags
    body := q.body.take 32 ++ leBytes 4 word ++ q.body.drop 36
    payload := bytes
    ended := true } { s with que := { s.que with aseq := tput 0 s.que.aseq x ((seq + 1) % 2 ^ 32) } }
  let s2 := s1.setVctx x { s1.vctx x with lastMid := midTwice q, lastPoc := q.poc, lastQp := some q.qp }
  let s3 : State := { s2 with ven := { s2.ven with pics := s2.ven.pics.filter (fun r => r.order != q.order) } }
  let s4 := ((s3.count VEN_CPICS.COUNT x).set VEN_CBITS.BITS (min (8 * bytes.length) 0xFFFFFFFF) x).set VEN_CSTAT.QP qp x
  setSlots x (rateCheck q (8 * bytes.length) (if s4.clk.vencUp then s4.fire (0x260 + x) else s4))

/-- Core `c` rejoins (R583): pictures already started are barred to it. -/
def rejoin (c : Nat) (s : State) : State :=
  let s1 : State := { s with ven := { s.ven with pics := s.ven.pics.map (fun q =>
    if q.started then { q with barred := c :: q.barred } else q) } }
  (s1.set VEN_CORESTAT.STATE 1 c).log 0x0F07 [c]

/-- Core `c` has finished its segment and goes to IDLE or PARKED (R581). -/
def coreRest (c : Nat) (s : State) : State :=
  let s1 : State := { s with ven := { s.ven with work := tdel s.ven.work c } }
  if s.flag VEN_CORECTL.PARK c then (s1.set VEN_CORESTAT.STATE 4 c).log 0x0F04 [c, 0]
  else if coreState s c == 3 then rejoin c s1
  else s1.set VEN_CORESTAT.STATE 1 c

/-- Core `c` finishes its segment (R581, R594): `bytes` it produced, `qps` its choice for each CTU row. A segment of a
picture that is lost meanwhile is dropped. -/
def segmentDone (c : Nat) (bytes qps : List Nat) (s : State) : State :=
  let st := coreState s c
  if st != 2 && st != 3 then s
  else
    let (order, i) := tget (0, 0) s.ven.work c
    match s.ven.pics.find? (fun q => q.order == order) with
    | none => coreRest c s
    | some q =>
      let part := segPart s q i bytes qps
      let (_, _, cs, rs) := segRect s q i
      let q1 := { q with segs := q.segs.set i 2, parts := q.parts ++ [(i, part)] }
      let s1 := (s.setPic q1).count VEN_CORECTU.COUNT c 0 (cs * rs)
      coreRest c (if q1.segs.all (· == 2) then deliverUnit q1 s1 else s1)

/-- A write of `VEN_CORECTL` (R581, R583). -/
def parkWrite (c v : Nat) (s : State) : State :=
  let s1 := s.set VEN_CORECTL.PARK v c
  let st := coreState s c
  if v % 2 == 1 then
    if st == 1 then (s1.set VEN_CORESTAT.STATE 4 c).log 0x0F04 [c, 0]
    else if st == 2 then s1.set VEN_CORESTAT.STATE 3 c
    else s1
  else if st == 4 then rejoin c s1
  else s1

/-- A parity error in core `c` (R586), in memory `mem`. -/
def coreFault (c mem : Nat) (s : State) : State :=
  let st := coreState s c
  if st == 0 then s
  else
    let (order, _) := tget (0, 0) s.ven.work c
    let held := if st == 2 || st == 3 then s.ven.pics.find? (fun q => q.order == order) else none
    let s1 := ((s.set VEN_CORECTL.PARK 1 c).set VEN_CORESTAT.STATE 4 c).count VEN_COREFAULT.COUNT c
    let s2 : State := { s1 with ven := { s1.ven with work := tdel s1.ven.work c } }
    let s3 := (s2.log 0x0F05 [c, mem]).log 0x0F04 [c, 1]
    match held with
    | none => s3
    | some q =>
      let (why, s4) := ((losePic 9 q s3).set VEN_CSTAT.IDRPEND 1 q.ctx).free 32
      s4.log 0x0F08 [q.ctx, why]

/-- The `CLK_VENC` reset is asserted (R598). -/
def venClockReset (s : State) : State :=
  let s0 : State := { s with clk := { s.clk with vencUp := false } }
  let s1 := (List.range 8).foldl (fun t c => t.set VEN_CORESTAT.STATE 0 c) s0
  let s2 : State := { s1 with ven := { s1.ven with work := [] } }
  (List.range 32).foldl (fun t x =>
    let t1 := losePics x 1 (fun _ => true) t
    if t1.flag VEN_CCFG.EN x then t1.set VEN_CSTAT.IDRPEND 1 x else t1) s2

/-- The `CLK_VENC` reset is released (R581). -/
def venClockRelease (s : State) : State :=
  let s0 : State := { s with clk := { s.clk with vencUp := true } }
  (List.range 8).foldl (fun t c => t.set VEN_CORESTAT.STATE (if t.flag VEN_CORECTL.PARK c then 4 else 1) c) s0

def execVenCloseDone (x : Fin 32) (s : State) : Out := .next (onVen (closeDone x.val) s)
def execVenPictureOffer (x : Fin 32) (isOver : Bool) (s : State) : Out := .next (onVen (pictureOffer x.val isOver) s)
def execCoreSegmentStart (c : Fin 8) (qp : BitVec 6) (s : State) : Out := .next (onVen (segmentStart c.val qp.toNat) s)
def execCoreSegmentDone (c : Fin 8) (bytes : List Byte) (qps : List Nat) (s : State) : Out :=
  .next (onVen (segmentDone c.val (natBytes bytes) qps) s)
def execCoreFault (c : Fin 8) (mem : Nat) (s : State) : Out := .next (onVen (coreFault c.val mem) s)
def execVenIdrRequest (x : Fin 32) (s : State) : Out := .next (onVen (fun t => t.set VEN_CSTAT.IDRPEND 1 x.val) s)

end Sys2Proof.Machine
end

