-- ==== Sys2Proof/Machine/PciSpace.lean ====
section
/-! DEFINITION. The host bridge's states (R529-R536), its configuration space (R519-R524), its read requests and its
interrupt messages as the host configures them (R526-R528, R543-R547). The layout of the capabilities is that of the PCI
Express base specification (log entry 50). -/

namespace Sys2Proof.Machine

/-! ### AER (R563) -/

/-- Record an uncorrectable error in AER. -/
def aerSet (k : Nat) (s : State) : State := { s with hbr := { s.hbr with aerUncor := s.hbr.aerUncor ||| 2 ^ k } }

/-- Record a Completer Abort as an advisory non-fatal error (R559). -/
def aerAbort (s : State) : State :=
  let s1 := aerSet 15 s
  { s1 with hbr := { s1.hbr with aerCor := s1.hbr.aerCor ||| 2 ^ 13 } }

/-! ### States (R529-R536) -/

/-- Every queue that R531 and R534 name pauses with `reason`. -/
def haltQueues (reason : Nat) (s : State) : State := (liveQueues s).foldl (fun t q => haltQueue q reason t) s

/-- `HBR_STAT.STATE` is 2, or 3 with Bus Master Enable set in D0 (R529). -/
def settleBridge (s : State) : State :=
  let st := s.get HBR_STAT.STATE
  if st == 2 || st == 3 then
    s.set HBR_STAT.STATE (if s.flag HBR_STAT.BME && !s.flag HBR_STAT.D3 then 3 else 2)
  else s

/-- What a clearing of Bus Master Enable does (R532-R534). -/
def busHalt (s : State) : State :=
  let s1 := (settleBridge s).fire 0x252
  haltContexts 1 (haltQueues 2 (s1.log 0x0E03))

/-- A configuration write clears Bus Master Enable. -/
def bmeClear (s : State) : State :=
  if s.flag HBR_STAT.BME then busHalt (s.set HBR_STAT.BME 0) else s

/-- A configuration write sets Bus Master Enable (R529, R535). -/
def bmeSet (s : State) : State := settleBridge (s.set HBR_STAT.BME 1)

/-- Entry to D3hot (R536). -/
def d3Enter (s : State) : State :=
  if s.flag HBR_STAT.D3 then s
  else
    let s1 := s.set HBR_STAT.D3 1
    if s.flag HBR_STAT.BME then busHalt s1 else settleBridge s1

/-- Return to D0 (R536). -/
def d0Return (s : State) : State := settleBridge (s.set HBR_STAT.D3 0)

/-- The host's far-side reads lose the host; buffered writes and polls go on (R531). -/
def abandonFar (s : State) : State :=
  { s with hbr := { s.hbr with
    far := s.hbr.far.map (fun r => if r.poll.isNone && !r.isWrite then { r with abandoned := true } else r) } }

/-- Entry to DOWN (R530, R531). -/
def bridgeDown (s : State) : State :=
  if s.get HBR_STAT.STATE == 0 && !s.hbr.linkUp then s
  else
    let s1 : State := { s with hbr := { s.hbr with linkUp := false } }
    let s2 := (setReads [] (s1.set HBR_STAT.STATE 0)).set HBR_STAT.L1 0
    let s3 := ((s2.set HBR_STAT.WIDTH 0).set HBR_STAT.GEN 0).fire 0x251
    haltContexts 2 (haltQueues 6 (abandonFar (s3.log 0x0E01)))

/-- The registers that `PERST_N`, Hot Reset and FLR clear (R530, R537), with every hidden state of the bridge but the
far-side accesses of FLR, which the caller keeps. `HBR_FLRSCOPE`, `HBR_BASIC`, `HBR_FARBASE` and `HBR_COREGEN` stay. -/
def bridgeReset (s : State) : State :=
  let keep : List (Nat × Nat) :=
    [0xA00010, 0xA00014, 0xA0001C, 0xA00024].map (fun a => (a, s.rdA a))
  let s1 := keep.foldl (fun t e => t.wrA e.1 e.2) (s.clearRegs 0xA00000 0xC00000)
  ({ s1 with hbr := {} }).set HBR_STAT.CORE (b2n s.clk.coreUp)

/-- What a rate code of `GEN` is in GT/s; 2.5 is rounded as the spec leaves open. -/
def rateGts (gen : Nat) : Nat :=
  match gen with
  | 1 => (openDiv 5 2).toNat
  | 2 => 5
  | 3 => 8
  | 4 => 16
  | _ => 32

/-- The link reaches DL_Active (R521, R529, R530): the rate and width trained, and the most that the partner offers. -/
def linkUp (gen width pgen pwidth : Nat) (s : State) : State :=
  if s.get HBR_STAT.STATE != 0 || !s.clk.hostUp || s.clk.testHold then s
  else
    let g := min (max 1 gen) (if s.fuses.variant == .e then 4 else 5)
    let w := min width (if s.fuses.variant == .e then 8 else 16)
    let s1 : State := { s with hbr := { s.hbr with linkUp := true } }
    let s2 := ((s1.set HBR_STAT.STATE 1).set HBR_STAT.GEN g).set HBR_STAT.WIDTH w
    let s3 := (s2.fire 0x250).log 0x0E02 [rateGts g, w]
    if g < (if s.fuses.variant == .e then 4 else 5) || w < (if s.fuses.variant == .e then 8 else 16) || g < pgen ||
        w < pwidth then s3.log 0x0E0D [rateGts g, w] else s3

/-- The retry period ends (R529). -/
def retryEnd (s : State) : State :=
  if s.get HBR_STAT.STATE == 1 then settleBridge (s.set HBR_STAT.STATE 2) else s

/-! ### Read requests (R524, R526-R528, R533, R539) -/

/-- The tag mode in `HBR_STAT`, and the limit of R565 while EXPERT = 0. -/
def tagMode (s : State) : State :=
  let s1 := s.set HBR_STAT.TAGMODE (if s.hbr.tenTag then 2 else if s.hbr.extTag then 1 else 0)
  if s1.flag HBR_LEVEL.EXPERT then s1 else s1.set HBR_RDMAX.COUNT (tagRange s1).2

/-- A read that a queue issued has failed (R512): the queue's slots are no longer awaited. -/
def readFailed (r : ReadReq) (s : State) : State :=
  if 16384 ≤ r.qid then (if canMaster s then contextHalt (r.qid - 16384) 3 s else s)
  else if r.count == 0 then s
  else
    let u := s.queue r.qid
    let s1 := s.setQueue r.qid { u with reading := u.reading - r.count }
    if canMaster s1 && queueState s1 r.qid == 1 then hostErr r.qid r.slot s1 else s1

/-- A completion arrives (R527, R528, R533, R539): its tag, status, whether it is poisoned or fails ECRC, and its data. -/
def completion (tag status : Nat) (bad : Bool) (ecrc : Bool) (data : List Nat) (s : State) : State :=
  match s.hbr.reads.find? (fun r => r.tag == tag) with
  | none =>
    if s.hbr.silent.contains tag then { s with hbr := { s.hbr with silent := s.hbr.silent.filter (· != tag) } }
    else (aerSet 16 (s.count HBR_CNT.UNEXP)).logSec 0x0E06 0 [tag]
  | some r =>
    let s1 := setReads (s.hbr.reads.filter (fun x => x.tag != tag)) s
    if bad || ecrc then readFailed r ((aerSet (if ecrc then 19 else 12) s1).log 0x0E0C [1])
    else if status != 0 then readFailed r s1
    else if 16384 ≤ r.qid || r.count == 0 then s1
    else if !canMaster s1 then
      let u := s1.queue r.qid
      s1.setQueue r.qid { u with reading := u.reading - r.count }
    else { s1 with que := { s1.que with arrived := s1.que.arrived ++ [(r.qid, r.slot, data.take (32 * r.count))] } }

/-- A read request times out (R526, R527). -/
def readTimeout (tag : Nat) (s : State) : State :=
  if s.hbr.ctoOff then s
  else
    match s.hbr.reads.find? (fun r => r.tag == tag) with
    | none => s
    | some r =>
      let s1 := setReads (s.hbr.reads.filter (fun x => x.tag != tag)) s
      let (q, s2) := if 16384 ≤ r.qid then s1.free 32 else (r.qid, s1)
      readFailed r (((aerSet 14 s2).count HBR_CNT.CTO).log 0x0E05 [tag, q])

/-! ### Messages (R544-R547) -/

/-- Send the messages whose vectors are pending and no longer masked (R544, R546). -/
def sendPending (s : State) : State :=
  if !canMaster s then s
  else if s.hbr.msixEn then
    if s.hbr.msixMask then s
    else
      s.hbr.pba.foldl (fun t e =>
        if (t.msixEntry e.1).masked then t
        else sendMessage e.1 { t with hbr := { t.hbr with pba := tput false t.hbr.pba e.1 false } }) s
  else if s.flag HBR_STAT.MSIEN then
    (List.range 32).foldl (fun t m =>
      if bitAt t.hbr.msiPend m && !bitAt t.hbr.msiMask m then
        sendMessage m { t with hbr := { t.hbr with msiPend := putBits t.hbr.msiPend m m 0 } }
      else t) s
  else s

/-- A write of dword `d` of MSI-X entry `e` (R545); clearing its mask sends one pending message (R544). -/
def msixWrite (e d v : Nat) (s : State) : State :=
  let x := s.msixEntry e
  let y : MsixEntry := match d with
    | 0 => { x with addr := x.addr / 2 ^ 32 * 2 ^ 32 + v / 4 * 4 }
    | 1 => { x with addr := x.addr % 2 ^ 32 + v * 2 ^ 32 }
    | 2 => { x with data := v }
    | _ => { x with masked := bitAt v 0 }
  sendPending { s with hbr := { s.hbr with msix := tput {} s.hbr.msix e y } }

/-- `HBR_STAT.MSIXEN` shows Enable with Function Mask clear. -/
def showMsix (s : State) : State := s.set HBR_STAT.MSIXEN (b2n (s.hbr.msixEn && !s.hbr.msixMask))

/-! ### Configuration space (R519, R520) -/

/-- The Device ID of the variant (R1, R8). -/
def deviceId (s : State) : Nat := match s.fuses.variant with | .f => 0x1600 | .s => 0x1601 | .e => 0x1602

/-- The fixed value and the plain RW bits of the configuration dword at `a`, reset values included; none where a
capability's body is the base specification's alone. -/
def spaceRow (s : State) (a : Nat) : Option (Nat × Nat) :=
  let e := s.fuses.variant == .e
  match a with
  | 0x00 => some (deviceId s * 65536 + 0x1F9E, 0)
  | 0x04 => some (2 ^ 20, 0x540)
  | 0x08 => some (0x04800010, 0)
  | 0x0C => some (0, 0xFF)
  | 0x10 => some (4, 0xFC000000)
  | 0x18 => some (4, 0xFF000000)
  | 0x20 => some (4, 0xF0000000)
  | 0x14 | 0x1C | 0x24 => some (0, 0xFFFFFFFF)
  | 0x28 | 0x30 | 0x38 => some (0, 0)
  | 0x2C => some (if s.cfg.subsys == 0 then deviceId s * 65536 + 0x1F9E else s.cfg.subsys, 0)
  | 0x34 => some (0x40, 0)
  | 0x3C => some (0, 0xFF)
  | 0x40 => some (0x00035001, 0)
  | 0x44 => some (8, 0)
  | 0x50 => some (0x018A7005, 0)
  | 0x54 | 0x58 | 0x5C | 0x60 | 0x64 => some (0, 0)
  | 0x70 => some (0x0002B010, 0)
  | 0x74 => some (0x10008022, 0)
  | 0x78 => some (0x00000810, 0x081F)
  | 0x7C => some ((if e then 4 else 5) + (if e then 8 else 16) * 16 + 2 * 2 ^ 10 + 3 * 2 ^ 15, 0)
  | 0x80 => some (0, 0x1C3)
  | 0x94 => some (0x00030013, 0)
  | 0x98 => some (0, 0x000F)
  | 0x9C => some (if e then 0x1E else 0x3E, 0)
  | 0xA0 => some (if e then 4 else 5, 0xFFFF)
  | 0xB0 => some (0x07FE0011, 0)
  | 0xB4 => some (0x00800002, 0)
  | 0xB8 => some (0x00900002, 0)
  | 0x100 => some (0x14820001, 0)
  | 0x104 | 0x110 => some (0, 0)
  | 0x108 => some (0, 0x00FFF030)
  | 0x10C => some (0x00462030, 0x00FFF030)
  | 0x114 => some (0x00002000, 0x0000F1C1)
  | 0x118 => some (0x000000A0, 0x00000140)
  | 0x148 => some (0x15810003, 0)
  | 0x14C => some (s.fuses.dsn % 2 ^ 32, 0)
  | 0x150 => some (s.fuses.dsn / 2 ^ 32, 0)
  | 0x158 => some (0x18810019, 0)
  | 0x188 => some (0x19810025, 0)
  | 0x198 => some (if e then 0x1F010026 else 0x1D010026, 0)
  | 0x1D0 => if e then none else some (0x1F01002A, 0)
  | 0x1F0 => some (0x23810027, 0)
  | 0x238 => some (0x0001001E, 0)
  | 0x23C => some (0x1F + 30 * 2 ^ 8 + 1 * 2 ^ 16 + 7 * 2 ^ 19, 0)
  | _ => none

/-- A configuration read (R519, R520). A dword whose content only the base specification gives reads as a free value. -/
def spaceRead (a : Nat) (s : State) : Nat × State :=
  let h := s.hbr
  let live : Nat := match a with
    | 0x04 => b2n h.mse * 2 + s.get HBR_STAT.BME * 4
    | 0x44 => s.get HBR_STAT.D3 * 3
    | 0x50 => s.get HBR_STAT.MSIEN * 2 ^ 16 + h.msiMme * 2 ^ 20
    | 0x54 => h.msiAddr % 2 ^ 32
    | 0x58 => h.msiAddr / 2 ^ 32
    | 0x5C => h.msiData
    | 0x60 => h.msiMask
    | 0x64 => h.msiPend
    | 0x78 => (if h.mps == 512 then 2 else if h.mps == 256 then 1 else 0) * 2 ^ 5 + b2n h.extTag * 2 ^ 8 +
        (h.mrrs.log2 - 7) * 2 ^ 12 + b2n (h.reads != []) * 2 ^ 21
    | 0x80 => s.get HBR_STAT.GEN * 2 ^ 16 + s.get HBR_STAT.WIDTH * 2 ^ 20
    | 0x98 => b2n h.ctoOff * 16 + b2n h.tenTag * 2 ^ 12
    | 0xB0 => b2n h.msixMask * 2 ^ 30 + b2n h.msixEn * 2 ^ 31
    | 0x104 => h.aerUncor
    | 0x110 => h.aerCor
    | _ => 0
  match spaceRow s a with
  | none => s.free 32
  | some (fixed, rw) =>
    let kept := (tget (BitVec.ofNat 32 (fixed &&& rw)) h.space a).toNat &&& rw
    ((fixed &&& (2 ^ 32 - 1 - rw)) ||| kept ||| live, s)

/-- The Max_Payload_Size or Max_Read_Request_Size that a code names, up to `top` bytes; the reserved codes act as the
largest. -/
def sizeCode (top k : Nat) : Nat := min top (128 * 2 ^ k)

/-- A configuration write of `v` to the dword at `a`, but for Initiate Function Level Reset (R524, R529, R544-R547). -/
def spaceWrite (a v : Nat) (s : State) : State :=
  let s0 := match spaceRow s a with
    | none => s
    | some (fixed, rw) =>
      if rw == 0 then s
      else { s with hbr := { s.hbr with
        space := tput (BitVec.ofNat 32 (fixed &&& rw)) s.hbr.space a (BitVec.ofNat 32 (v &&& rw)) } }
  let h := s0.hbr
  match a with
  | 0x04 =>
    let s1 : State := { s0 with hbr := { h with mse := bitAt v 1 } }
    if bitAt v 2 then bmeSet s1 else bmeClear s1
  | 0x44 => if v % 4 == 3 then d3Enter s0 else if v % 4 == 0 then d0Return s0 else s0
  | 0x50 =>
    let s1 : State := { s0 with hbr := { h with msiMme := min 5 (bitsOf v 22 20) } }
    sendPending (s1.set HBR_STAT.MSIEN (b2n (bitAt v 16)))
  | 0x54 => { s0 with hbr := { h with msiAddr := h.msiAddr / 2 ^ 32 * 2 ^ 32 + v / 4 * 4 } }
  | 0x58 => { s0 with hbr := { h with msiAddr := h.msiAddr % 2 ^ 32 + v * 2 ^ 32 } }
  | 0x5C => { s0 with hbr := { h with msiData := v % 65536 } }
  | 0x60 => sendPending { s0 with hbr := { h with msiMask := v } }
  | 0x78 => tagMode { s0 with hbr := {
      h with
      mps := sizeCode 512 (bitsOf v 7 5)
      mrrs := sizeCode 4096 (bitsOf v 14 12)
      extTag := bitAt v 8 } }
  | 0x98 => tagMode { s0 with hbr := { h with ctoOff := bitAt v 4, tenTag := bitAt v 12 } }
  | 0xB0 => sendPending (showMsix { s0 with hbr := { h with msixMask := bitAt v 30, msixEn := bitAt v 31 } })
  | 0x104 => { s0 with hbr := { h with aerUncor := h.aerUncor &&& (2 ^ 32 - 1 - v) } }
  | 0x110 => { s0 with hbr := { h with aerCor := h.aerCor &&& (2 ^ 32 - 1 - v) } }
  | _ => s0

/-! ### Unsupported and malformed requests (R549, R563) -/

/-- A request of a kind that the function does not support (R549): `mem` for a memory request, which is supported while
Memory Space Enable is set in D0; `posted` when no completion answers it. -/
def unsupported (tlp : Nat) (mem posted : Bool) (s : State) : State :=
  if s.get HBR_STAT.STATE < 2 || (mem && s.hbr.mse && !s.flag HBR_STAT.D3 && s.get HBR_STAT.STATE != 4) then s
  else
    let s1 := ((aerSet 20 s).count HBR_ACCCNT.UR).logSec 0x0E0B 0 [tlp]
    if posted then s1 else s1.emit (.completion 1 0)

/-- A malformed TLP, receiver overflow or protocol error of the AER bit `bit` (R563). -/
def malformed (bit : Nat) (s : State) : State := (aerSet bit s).log 0x0E0E [bit]

/-- A parity error in the bridge's buffers (R563): its queues act as in DOWN until FLR. -/
def internalError (s : State) : State :=
  let s1 := (aerSet 22 s).log 0x0E0E [22]
  let s2 := setReads [] { s1 with hbr := { s1.hbr with deadQueues := true } }
  haltContexts 2 (haltQueues 6 s2)

/-! ### Derivation (R565) -/

/-- The derived fields of `HBR`. -/
def deriveHbr (s : State) : State :=
  ((s.set HBR_FARTO.US (max 100 (750 * max 1 (s.get HBR_BASIC.HOSTCTO)))).set HBR_FARRD.COUNT 60).set HBR_RDMAX.COUNT
    (tagRange s).2

/-! ### Rows -/

def execLinkUp (gen : Fin 6) (width : Fin 17) (pgen : Fin 7) (pwidth : Fin 33) (s : State) : Out :=
  .next (linkUp gen.val width.val pgen.val pwidth.val s)
def execRetryEnd (s : State) : Out := .next (retryEnd s)
def execLinkDown (s : State) : Out := .next (bridgeDown s)
def execHotReset (s : State) : Out := .next (bridgeReset (bridgeDown s))
def execBmeClear (s : State) : Out := .next (bmeClear s)
def execBmeSet (s : State) : Out := .next (bmeSet s)
def execD3hotEntry (s : State) : Out := .next (d3Enter s)
def execD0Return (s : State) : Out := .next (d0Return s)
def execCompletionReceived (tag : Fin 1024) (status : Fin 8) (bad ecrc : Bool) (data : List Byte) (s : State) : Out :=
  .next (completion tag.val status.val bad ecrc (natBytes data) s)
def execCompletionTimeout (tag : Fin 1024) (s : State) : Out := .next (readTimeout tag.val s)
def execUnsupportedRequest (tlp : Byte) (mem posted : Bool) (s : State) : Out :=
  .next (unsupported tlp.toNat mem posted s)
def execMalformedTlp (bit : Fin 32) (s : State) : Out := .next (malformed bit.val s)
def execUncorrectableInternalError (s : State) : Out := .next (internalError s)

end Sys2Proof.Machine
end

