-- ==== Sys2Proof/Machine/Ring.lean ====
section
/-! DEFINITION. Ring ports as Drumline and PTP share them (chapters 6 and 18): Ethernet frames and their FCS, the node's
addresses, port states, and the sending of a frame. -/

namespace Sys2Proof.Machine

/-! ### Frames -/

/-- One byte of the IEEE 802.3 CRC-32, reflected polynomial 0xEDB88320. -/
def crcEthByte (c b : Nat) : Nat := applyN (crcBit 0xEDB88320) 8 (c ^^^ b % 256)

/-- The four FCS octets of a frame (R607). -/
def fcsOf (bs : List Nat) : List Nat := leBytes 4 (bs.foldl crcEthByte 0xFFFFFFFF ^^^ 0xFFFFFFFF)

/-- A frame padded to 60 octets, with its FCS (R607). -/
def sealFrame (bs : List Nat) : List Nat :=
  let p := bs ++ List.replicate (60 - bs.length) 0
  p ++ fcsOf p

/-- The octets of a received frame without its FCS. -/
def frameBodyOf (f : List Nat) : List Nat := f.take (f.length - 4)

/-- Whether a received frame's FCS checks good (R609). -/
def fcsGood (f : List Nat) : Bool := 4 ≤ f.length && f.drop (f.length - 4) == fcsOf (frameBodyOf f)

/-! ### The node and its ports -/

/-- The node ID that this node holds (R617). -/
def nodeId (s : State) : Option Nat := if s.flag DRL_NODE.VALID then some (s.get DRL_NODE.ID) else none

/-- The node's MAC address (R606). -/
def nodeMac (s : State) : List Nat :=
  match nodeId s with
  | some n => [0x02, 0x1F, 0x9E, 0x00, n / 256, n % 256]
  | none => [0x02, 0x1F, 0x9E, 0x01, 0x00, 0x00]

/-- The state of ring port `p`: 0 DOWN, 1 REPEAT, 2 BLOCKED, 3 FORWARD (R604). -/
def ringState (s : State) (p : Nat) : Nat := s.get DRL_PSTAT.STATE p

/-- The state of the node: 0 OFF, 1 LISTEN, 2 CLAIM, 3 ENUM, 4 RUN, 5 MEMBER (R615). -/
def nodeState (s : State) : Nat := s.get DRL_NODE.STATE

/-- Ring port `p` exists (R4): the LVG-16E has port 0 only. -/
def ringPort (s : State) (p : Nat) : Bool := p == 0 || s.fuses.variant != .e

/-- The node may originate Drumline and PTP messages (R100, R615): every node state but OFF and LISTEN. -/
def mayOriginate (s : State) : Bool := 2 ≤ nodeState s

/-- Send a frame on port `p`. -/
def sendOn (p : Nat) (bs : List Nat) (s : State) : State := s.emit (.ringFrame p (sealFrame bs))

/-- Send a frame on every FORWARD port (R610). -/
def sendForward (bs : List Nat) (s : State) : State :=
  [0, 1].foldl (fun t p => if ringState t p == 3 then sendOn p bs t else t) s

/-! ### Drumline messages (R606-R608) -/

/-- The octets of a Drumline message before padding and FCS. -/
def ringMsg (s : State) (ty : Nat) (bcast : Bool) (dst tag : Nat) (payload : List Nat) : List Nat :=
  let noid := (nodeId s).isNone
  [0x03, 0x1F, 0x9E, 0x44, 0x52, 0x4D] ++ nodeMac s ++ [0x88, 0xB5, 0x10, ty] ++
    beBytes 2 (b2n bcast * 0x8000 + b2n noid * 0x4000) ++ beBytes 2 ((nodeId s).getD 0) ++
    beBytes 2 (if bcast then 0 else dst) ++ beBytes 2 0 ++ beBytes 2 tag ++ beBytes 2 payload.length ++
    beBytes 2 (s.get DRL_EPOCH.EPOCH) ++ payload

/-- A time as 48-bit seconds and 32-bit nanoseconds (R608). -/
def ringTime (ns : Nat) : List Nat := beBytes 6 (ns / 1000000000) ++ beBytes 4 (ns % 1000000000)

/-- The nanoseconds of a time in a message (R608). -/
def ringNs (bs : List Nat) : Nat := beNat (sliceOf bs 0 6) * 1000000000 + beNat (sliceOf bs 6 4)

/-- Fields of a received Drumline frame (R607). -/
def msgType (f : List Nat) : Nat := byteAt f 15
def msgBcast (f : List Nat) : Bool := bitAt (byteAt f 16) 7
def msgNoid (f : List Nat) : Bool := bitAt (byteAt f 16) 6
def msgSrc (f : List Nat) : Nat := beNat (sliceOf f 18 2) % 4096
def msgDst (f : List Nat) : Nat := beNat (sliceOf f 20 2) % 4096
def msgHops (f : List Nat) : Nat := beNat (sliceOf f 22 2) % 4096
def msgTag (f : List Nat) : Nat := beNat (sliceOf f 24 2)
def msgEpoch (f : List Nat) : Nat := beNat (sliceOf f 28 2)
def msgPayload (f : List Nat) : List Nat := (frameBodyOf f).drop 30

/-- The EtherType of a frame. -/
def etherType (f : List Nat) : Nat := beNat (sliceOf f 12 2)

/-- A frame is a Drumline message of version 1 (R606, R609). -/
def isRingMsg (f : List Nat) : Bool := etherType f == 0x88B5 && byteAt f 14 / 16 == 1

/-- The node takes messages from port `p`: a FORWARD port takes every message, a BLOCKED one `HELLO` and `BEACON`
(R604). -/
def portTakes (s : State) (p : Nat) (f : List Nat) : Bool :=
  ringState s p == 3 || (ringState s p == 2 && (msgType f == 1 || msgType f == 2))

/-- A received message of type `ty` is for this node (R609, R610): good, taken by the port, broadcast or addressed to the
node, and not its own. -/
def msgForMe (s : State) (p ty : Nat) (f : List Nat) : Bool :=
  ringPort s p && fcsGood f && isRingMsg f && msgType f == ty && portTakes s p f && nodeState s != 0 &&
    (msgBcast f || ty == 2 || ty == 3 || nodeId s == some (msgDst f)) &&
    (msgNoid f || nodeId s != some (msgSrc f))

/-- The serial number as eight octets, most significant first (R184, R608). -/
def dsnBytes (s : State) : List Nat := beBytes 8 s.fuses.dsn

end Sys2Proof.Machine
end

