-- ==== Sys2Proof/Machine/Far.lean ====
section
/-! DEFINITION. Far-side accesses of this node (R554-R562, R627): their order and limits, their sending as Drumline
messages, and how they end. -/

namespace Sys2Proof.Machine

/-- `s` with these far-side accesses, and the number of host reads in flight shown. -/
def setFar (rs : List FarReq) (s : State) : State :=
  ({ s with hbr := { s.hbr with far := rs } }).set HBR_FARSTAT.INFLIGHT
    (rs.filter (fun (r : FarReq) => r.flying && !r.isWrite && r.poll.isNone)).length

/-- Whether the membership bit of node `n` is set (R617). -/
def isMember (s : State) (n : Nat) : Bool := bitAt (s.get DRL_MEMBER.MEMBER (n / 32)) (n % 32)

/-- Set or clear the membership bit of node `n`. -/
def setMember (n : Nat) (b : Bool) (s : State) : State :=
  s.set DRL_MEMBER.MEMBER (putBits (s.get DRL_MEMBER.MEMBER (n / 32)) (n % 32) (n % 32) (b2n b)) (n / 32)

/-- The Drumline tag of an access (R627). -/
def farTag (r : FarReq) : Nat := r.id % 65536

/-- Send an access as RREAD or RWRITE (R608, R627). -/
def farSend (r : FarReq) (s : State) : State :=
  let head := beBytes 4 r.addr ++ [r.count, 0, 0, 0]
  let body := if r.isWrite then head ++ (r.data.map (beBytes 4)).flatten else head
  sendForward (ringMsg s (if r.isWrite then 0x0E else 0x0C) false r.node (farTag r) body) s

/-- The record of a far-side failure (R558): BAR4 offset, node, cause, and whether it was a write. -/
def farRecord (isWrite : Bool) (offset node cause : Nat) (s : State) : State :=
  let s1 := (s.count HBR_FARSTAT.FAILS).fire 0x253
  let s2 := s1.log (if isWrite then 0x0E08 else 0x0E07) [offset, node, cause]
  if s2.flag HBR_FARLOG1.VALID then s2
  else
    let s3 := (s2.set HBR_FARLOG0.OFFSET offset).set HBR_FARLOG1.NODE node
    ((s3.set HBR_FARLOG1.CAUSE cause).set HBR_FARLOG1.WRITE (b2n isWrite)).set HBR_FARLOG1.VALID 1

/-- What a failure means for whoever asked (R554, R558, R559, R561). -/
def farReport (r : FarReq) (cause : Nat) (s : State) : State :=
  match r.poll with
  | some k =>
    let seen := tget false s.hbr.pollSeen k
    let s1 : State := { s with hbr := { s.hbr with pollSeen := tput false s.hbr.pollSeen k true } }
    if seen && !s1.flag HBR_POLL.FAIL k then ((s1.set HBR_POLL.FAIL 1 k).fire 0x253).log 0x0E09 [k, r.node] else s1
  | none =>
    if r.abandoned then s
    else
      let s1 := farRecord r.isWrite r.offset r.node cause s
      if r.isWrite then s1 else (aerAbort s1).emit (.completion 4 0)

/-- The accesses that may be sent now: in order for each node (R557), at most `HBR_FARRD` host reads and four polls in
flight (R554, R561). The counts are of those in flight, and `held` lists the nodes with an access that waits. -/
def farReady (reads polls limit : Nat) (held : List Nat) : List FarReq → List Nat
  | [] => []
  | r :: t =>
    if r.flying then farReady reads polls limit held t
    else if held.contains r.node then farReady reads polls limit held t
    else if r.poll.isSome then
      if polls < 4 then r.id :: farReady reads (polls + 1) limit held t else farReady reads polls limit (r.node :: held) t
    else if r.isWrite then r.id :: farReady reads polls limit held t
    else if reads < limit then r.id :: farReady (reads + 1) polls limit held t
    else farReady reads polls limit (r.node :: held) t

/-- Send one access, or end it at once: no ID (cause 5), or no such member (cause 3) (R627). -/
def farStart (id : Nat) (s : State) : State :=
  match s.hbr.far.find? (fun r => r.id == id) with
  | none => s
  | some r =>
    let gone := setFar (s.hbr.far.filter (fun x => x.id != id)) s
    if (nodeId s).isNone then farReport r 5 gone
    else if !isMember s r.node then farReport r 3 gone
    else farSend r (setFar (s.hbr.far.map (fun x => if x.id == id then { x with flying := true } else x)) s)

/-- Send every access that may be sent. -/
def farPump (s : State) : State :=
  let inflight := s.hbr.far.filter (·.flying)
  let reads := (inflight.filter (fun r => !r.isWrite && r.poll.isNone)).length
  let polls := (inflight.filter (fun r => r.poll.isSome)).length
  (farReady reads polls (max 1 (s.get HBR_FARRD.COUNT)) [] s.hbr.far).foldl (fun t id => farStart id t) s

/-- An access ends with a failure (R554, R556, R558). -/
def farFail (id cause : Nat) (s : State) : State :=
  match s.hbr.far.find? (fun r => r.id == id) with
  | none => s
  | some r => farPump (farReport r cause (setFar (s.hbr.far.filter (fun x => x.id != id)) s))

/-- What a successful poll of entry `k` stores (R561). -/
def pollStore (k v : Nat) (s : State) : State :=
  let seen := tget false s.hbr.pollSeen k
  let old := s.get HBR_POLLVAL.VAL k
  let s1 := ({ s with hbr := { s.hbr with pollSeen := tput false s.hbr.pollSeen k true } }).set HBR_POLLVAL.VAL v k
  if seen && ((v ^^^ old) &&& s1.get HBR_POLLMASK.MASK k) != 0 && !s1.flag HBR_POLL.CHG k then
    (s1.set HBR_POLL.CHG 1 k).fire 0x253
  else s1

/-- An access has succeeded, a read with its dwords (R554, R561). -/
def farDone (id : Nat) (ws : List Nat) (s : State) : State :=
  match s.hbr.far.find? (fun r => r.id == id) with
  | none => s
  | some r =>
    let s1 := setFar (s.hbr.far.filter (fun x => x.id != id)) s
    let s2 := match r.poll with
      | some k => pollStore k (ws.getD 0 0) s1
      | none => if r.isWrite || r.abandoned then s1
        else s1.emit (.completion 0 (ws.getD 0 0 + 2 ^ 32 * ws.getD 1 0))
    farPump s2

/-- Every access outstanding at node `n` ends with `cause` (R627). -/
def farNode (n cause : Nat) (s : State) : State :=
  (s.hbr.far.filter (fun r => r.flying && r.node == n)).foldl (fun t r => farFail r.id cause t) s

/-- A response from node `n` with tag `tag` (R627): `write` for RWACK; its status and dwords. -/
def farAnswer (write : Bool) (n tag status : Nat) (ws : List Nat) (s : State) : State :=
  match s.hbr.far.find? (fun r => r.flying && r.node == n && farTag r == tag && r.isWrite == write) with
  | none => s.count DRL_STALE.COUNT
  | some r =>
    if status == 1 then farFail r.id 4 s
    else if status == 2 then
      setFar (s.hbr.far.map (fun x => if x.id == r.id then { x with retry := true } else x)) s
    else farDone r.id ws s

/-- 10 µs after a BUSY answer the access is sent again (R627). -/
def farRetry (id : Nat) (s : State) : State :=
  match s.hbr.far.find? (fun r => r.id == id && r.retry) with
  | none => s
  | some r => farSend r (setFar (s.hbr.far.map (fun x => if x.id == id then { x with retry := false } else x)) s)

/-- Put an access behind those accepted before it, and send what may be sent. -/
def farQueue (r : FarReq) (s : State) : State :=
  farPump (setFar (s.hbr.far ++ [{ r with id := s.hbr.nextFar }])
    { s with hbr := { s.hbr with nextFar := s.hbr.nextFar + 1 } })

end Sys2Proof.Machine
end

