-- ==== Sys2Proof/Machine/Tim.lean ====
section
/-! DEFINITION. The time base (chapter 6): its state, rate and steps, compares, captures, PPS, the raw records, and the
on-chip servo. -/

namespace Sys2Proof.Machine

/-! ### State and trust (R165, R166) -/

/-- The state of the time base: 0 UNSET, 1 STEPPED, 2 TRACKING, 3 LOCKED, 4 HOLDOVER. -/
def timState (s : State) : Nat := s.get TIM_STAT.STATE

/-- The on-chip servo runs (R199). -/
def servoOn (s : State) : Bool := s.flag TIM_STAT.SERVO

/-- The node is the master (R186). -/
def isMaster (s : State) : Bool := s.flag TIM_STAT.MASTER

/-- A master's time comes from `PPS_IN` (R185), by the word in effect (R197). -/
def srcPps (s : State) : Bool := bitAt s.tim.role 2

/-- `TIM_STAT.UNSYNC` follows the state (R166); its rise fires `TIM_UNSYNC` and logs 0x0405. -/
def setUnsync (s : State) : State :=
  let u := timState s < 3 || (timState s == 4 && s.tim.trustOver)
  if u && !s.flag TIM_STAT.UNSYNC then ((s.set TIM_STAT.UNSYNC 1).fire 0x013).log 0x0405
  else s.set TIM_STAT.UNSYNC (b2n u)

/-- Entry to HOLDOVER (R165, R194): with the servo running, the target becomes the rate reached and a slew ends. -/
def enterHoldover (s : State) : State :=
  let s1 := if servoOn s then
      ({ s with tim := { s.tim with slew := none } }).set TIM_ADJ.RATE (s.get TIM_APPLIED.RATE)
    else s
  let s2 := (s1.set TIM_STAT.STATE 4).log 0x0404
  setUnsync { s2 with tim := { s2.tim with trustOver := false } }

/-- Enter state `st` (R165, R177). -/
def enterTim (st : Nat) (s : State) : State :=
  if timState s == st then s
  else if st == 4 then enterHoldover s
  else
    let s1 := ({ s with tim := { s.tim with lockRun := 0 } }).set TIM_STAT.STATE st
    setUnsync (if st == 3 then (s1.fire 0x012).log 0x0406 else s1)

/-! ### Rate (R159, R170, R171) -/

/-- The rate limit of R170 in 1/16 ppb. -/
def clampRate (i : Int) : Int := clampInt (-3200000) 3200000 i

/-- The target rate in use (R170). -/
def targetRate (s : State) : Int := clampRate (signedOf 32 (s.get TIM_ADJ.RATE))

/-- The applied rate in 1/16 ppb. -/
def appliedRate (s : State) : Int := signedOf 32 (s.get TIM_APPLIED.RATE)

/-- Write the target rate `v` and start a slew to it (R170). -/
def writeAdj (v : Int) (s : State) : State :=
  let s1 := s.set TIM_ADJ.RATE (codeOf 32 v)
  let s2 := if clampRate (signedOf 32 (codeOf 32 v)) != signedOf 32 (codeOf 32 v) then s1.log 0x0408 else s1
  { s2 with tim := { s2.tim with slew := some (appliedRate s2, 0) } }

/-- One step of 1 µs of the slew in progress (R170): at most `TIM_SLEW` ppb a ms from its start. -/
def slewStep (s : State) : State :=
  match s.tim.slew with
  | none => s
  | some (start, k) =>
    let t := targetRate s
    let reach : Nat := (k + 1) * max 1 (s.get TIM_SLEW.SLEW) * 16 / 1000
    if (t - start).natAbs ≤ reach then
      ({ s with tim := { s.tim with slew := none } }).set TIM_APPLIED.RATE (codeOf 32 t)
    else
      ({ s with tim := { s.tim with slew := some (start, k + 1) } }).set TIM_APPLIED.RATE
        (codeOf 32 (if start < t then start + (reach : Int) else start - (reach : Int)))

/-- The effective increment of a tick in 2^-32 ns (R159). -/
def tickIncrement (s : State) : Nat :=
  let inc : Nat := s.get TIM_INCI.INT * 2 ^ 32 + s.get TIM_INCF.FRAC
  (roundDiv ((inc : Int) * (16000000000 + appliedRate s)) 16000000000).toNat

/-- The time base counts modulo 2^64 s (R158). -/
def timeSpan : Nat := 2 ^ 64 * 1000000000 * subNs

/-- One `CLK_TIME` tick of the time base (R158). -/
def timeTick (s : State) : State :=
  if s.clk.timeUp then { s with now := (s.now + tickIncrement s) % timeSpan } else s

/-- `TIM_STEPCMD.BUSY` shows that a request waits (R171, R199). -/
def showBusy (s : State) : State := s.set TIM_STEPCMD.BUSY (b2n (s.tim.stepReq.isSome || s.tim.loadReq))

/-- A step or a load is refused (R168, R171): `kind` is 0 for a step, 1 for a load. -/
def refuseStep (kind : Nat) (s : State) : State := (s.count TIM_STAT.STEPREF).log 0x0401 [kind]

/-- The state with the servo stopped follows `HOSTLOCK` (R199). -/
def hostLockState (s : State) : Nat := if s.flag TIM_STAT.HOSTLOCK then 3 else 2

/-- A requested frequency load is applied or refused (R171). -/
def loadApply (s : State) : State :=
  if !s.tim.loadReq then s
  else
    let s1 := showBusy { s with tim := { s.tim with loadReq := false } }
    if !s1.flag TIM_STAT.FLOADARM then refuseStep 1 s1
    else
      let s2 := ({ s1 with tim := { s1.tim with slew := none } }).set TIM_APPLIED.RATE (codeOf 32 (targetRate s1))
      let s3 := s2.set TIM_STAT.FLOADARM 0
      if timState s3 == 1 then enterTim (if servoOn s3 then 2 else hostLockState s3) s3 else s3

/-! ### Compares and captures (R172-R174) -/

/-- Network time in ns: bits 47:0 of the seconds, with the nanoseconds (R164). -/
def netNs (s : State) : Nat := s.nowNs % (2 ^ 48 * 1000000000)

/-- The time programmed in compare `k`. -/
def compareTime (s : State) (k : Nat) : Nat :=
  (s.get TIM_CMPSECHI.SEC k * 2 ^ 32 + s.get TIM_CMPSECLO.SEC k) * 1000000000 + s.get TIM_CMPNS.NS k

/-- Store the time of compare `k`. -/
def setCompare (k ns : Nat) (s : State) : State :=
  ((s.set TIM_CMPNS.NS (ns % 1000000000) k).set TIM_CMPSECLO.SEC (ns / 1000000000) k).set TIM_CMPSECHI.SEC
    (ns / 1000000000 / 2 ^ 32) k

/-- Compare `k` fires if its time has been reached (R172, R173), and advances past the present or disables. -/
def compareFire (k : Nat) (s : State) : State :=
  let t := compareTime s k
  if bitAt (s.get TIM_CMPEN.EN) k && t ≤ netNs s then
    let s1 := s.fire (0x018 + k)
    let per := s.get TIM_CMPPER.PERIOD k
    if per == 0 then s1.set TIM_CMPEN.EN (putBits (s1.get TIM_CMPEN.EN) k k 0)
    else setCompare k (t + max 100 per * ((netNs s - t) / max 100 per + 1)) s1
  else s

/-- Capture `k` latches the time `t`, in 2^-32 ns (R174). -/
def timCapture (k t : Nat) (s : State) : State :=
  let ns := t / subNs
  let s1 := (s.set TIM_CAPTNS.NS (ns % 1000000000) k).set TIM_CAPTSECLO.SEC (ns / 1000000000) k
  let s2 := (s1.set TIM_CAPTSECHI.SECHI (ns / 1000000000 / 2 ^ 32) k).set TIM_CAPTSECHI.FRAC (t % subNs / 2 ^ 16) k
  (if s2.flag TIM_CAPTST.VALID k then s2.set TIM_CAPTST.OVER 1 k else s2).set TIM_CAPTST.VALID 1 k

/-- A read of the low word of `TIM_SEC` latches the others (R160). -/
def secRead (s : State) : State :=
  let s1 := (s.set TIM_SEC.SEC (s.nowNs / 1000000000 / 2 ^ 32) 1).set TIM_NS.NS (s.nowNs % 1000000000)
  (s1.set TIM_FRAC.FRAC (s.now % subNs)).emit (.readData (TIM_SEC.reg.adr 0) (s.nowNs / 1000000000 % 2 ^ 32))

/-- A read of `TIM_CAPT[k].SECLO` clears VALID (R174). -/
def captRead (k : Nat) (s : State) : State :=
  (s.emit (.readData (TIM_CAPTSECLO.reg.adr k) (s.get TIM_CAPTSECLO.SEC k))).set TIM_CAPTST.VALID 0 k

/-! ### Raw records (R195, R196) -/

/-- `s` with these raw records, the head shown in `TIM_RAW`. -/
def setRaw (rs : List (List Nat)) (s : State) : State :=
  let hd := match rs with | r :: _ => r | [] => List.replicate 12 0
  let s1 : State := { s with tim := { s.tim with raw := rs } }
  (s1.set TIM_RAWCFG.DEPTH rs.length).wrWords (TIM_RAW.reg.adr 0) hd

/-- Append a record, or count its loss. -/
def rawPush (ws : List Nat) (s : State) : State :=
  if !s.flag TIM_RAWCFG.EN then s
  else if 64 ≤ s.tim.raw.length then (s.count TIM_RAWCFG.LOST).logRun 0x040A 0
  else setRaw (s.tim.raw ++ [ws]) (s.endRun 0x040A 0)

/-- The 12 words of a record (R195): times in 2^-16 ns and ns, the correction field as its 64-bit code, the identity as
its ten octets. -/
def rawWords (dir port ty domain seq : Nat) (stamp : Int) (corr body : Nat) (ident : List Nat) : List Nat :=
  let t := stamp.toNat
  let ns := t / 2 ^ 16
  let sec := ns / 1000000000
  let bsec := body / 1000000000
  let id := beNat (ident.take 8)
  [2 ^ 31 + dir * 2 ^ 30 + port * 2 ^ 28 + ty * 2 ^ 24 + domain * 2 ^ 16 + seq, ns % 1000000000, sec % 2 ^ 32,
    t % 2 ^ 16 * 2 ^ 16 + sec / 2 ^ 32 % 2 ^ 16, corr % 2 ^ 32, corr / 2 ^ 32, body % 1000000000, bsec % 2 ^ 32,
    bsec / 2 ^ 32 % 2 ^ 16, id % 2 ^ 32, id / 2 ^ 32, beNat (ident.drop 8)]

/-! ### Arming, steps and the servo (R167-R171, R193-R200) -/

/-- A FREE master in UNSET requests its step to `TIM_EPOCH` (R185). -/
def requestEpoch (s : State) : State :=
  if isMaster s && !srcPps s && servoOn s && timState s == 0 && s.flag TIM_STAT.STEPARM then
    let sec := s.get TIM_EPOCHHI.HI * 2 ^ 32 + s.get TIM_EPOCHLO.LO
    showBusy { s with tim := { s.tim with stepReq := some (true, (sec * 1000000000 * subNs : Nat)) } }
  else s

/-- One step and one load are armed and the state is UNSET, without a change of the time (R169). -/
def rearm (s : State) : State :=
  let s1 := (s.set TIM_STAT.STEPARM 1).set TIM_STAT.FLOADARM 1
  let s2 : State := { s1 with tim := { s1.tim with fresh := false, prev := none, panicRun := 0 } }
  requestEpoch (enterTim 0 s2)

/-- A write of `TIM_CTRL.REARM` = 1 (R169): accepted in STANDBY, RELAY and SERVICE. -/
def rearmWrite (s : State) : State :=
  if [0, 6, 7].contains (modeNow s) then rearm s else s.log 0x0402 [modeNow s]

/-- The driver stops the servo (R199). -/
def stopServo (s : State) : State := s.set TIM_STAT.SERVO 0

/-- A write of `TIM_STEPCMD` (R171, R199): discarded and counted at the basic level, where a set bit differs from its
derived value 0. -/
def stepCmdWrite (v : Nat) (s : State) : State :=
  if !s.flag TIM_LEVEL.EXPERT then
    if v % 4 != 0 then countXdrop (TIM_STEPCMD.reg.adr 0) 4 s else s
  else
    let s1 := stopServo s
    let sec := signedOf 48 (s1.get TIM_STEPSECHI.SEC * 2 ^ 32 + s1.get TIM_STEPSECLO.SEC)
    let off : Int := (sec * 1000000000 + (s1.get TIM_STEPNS.NS : Nat)) * (subNs : Nat)
    let s2 := if bitAt v 0 then { s1 with tim := { s1.tim with stepReq := some (false, off) } } else s1
    let s3 := if bitAt v 1 then { s2 with tim := { s2.tim with loadReq := true } } else s2
    showBusy s3

/-- A driver's write of `TIM_ADJ` (R170, R199). -/
def adjWrite (v : Nat) (s : State) : State :=
  if !s.flag TIM_LEVEL.EXPERT then expertDrop (TIM_ADJ.reg.adr 0) v s
  else writeAdj (signedOf 32 v) (stopServo s)

/-- The exponent of the sample interval of R193: 0 on a PPS master, `LOGSYNC` otherwise. -/
def sampleLog (s : State) : Int := if isMaster s && srcPps s then 0 else signedOf 4 (s.tim.ptp / 2 ^ 20)

/-- The target of R193 in 1/16 ppb: f - (kp x + ki i) / t, with x and i in 2^-16 ns. -/
def servoTarget (s : State) (x i : Int) : Int :=
  let p := (s.get TIM_SVGAIN.KP : Nat) * x + (s.get TIM_SVGAIN.KI : Nat) * i
  let l := sampleLog s
  let up := if l < 0 then 2 ^ (-l).toNat else 1
  let dn := if l < 0 then 1 else 2 ^ l.toNat
  openDiv (16 * s.tim.fNum * (2 ^ 32 * dn : Nat) - 16 * p * (up : Nat) * (s.tim.fDen : Nat)) (s.tim.fDen * 2 ^ 32 * dn)

/-- The frequency of R193 from two samples, as a quotient of ppb; a free value where the local interval is not positive. -/
def learnFreq (dm dl : Int) (s : State) : State :=
  if 0 < dl then
    { s with tim := { s.tim with
      fNum := (dm - dl) * 16000000000 + appliedRate s * dl
      fDen := 16 * dl.toNat } }
  else
    let (v, s1) := s.free 32
    { s1 with tim := { s1.tim with fNum := signedOf 32 v, fDen := 1 } }

/-- One pass of the loop of R193 and the lock limits of R165. -/
def servoLoop (x : Int) (s : State) : State :=
  let i := s.tim.integ + x
  let s1 := writeAdj (servoTarget s x i) { s with tim := { s.tim with integ := i } }
  let ns := x.natAbs
  if s1.get TIM_SVLIM.UNLOCK * 65536 < ns then enterTim 2 { s1 with tim := { s1.tim with lockRun := 0 } }
  else if s1.get TIM_SVLIM.LOCK * 65536 < ns then { s1 with tim := { s1.tim with lockRun := 0 } }
  else
    let n := s1.tim.lockRun + 1
    let s2 : State := { s1 with tim := { s1.tim with lockRun := n } }
    if timState s2 == 2 && s2.get TIM_SVLIM.LOCKCNT + 1 ≤ n then enterTim 3 s2 else s2

/-- A sample in TRACKING or LOCKED, with the panic rule of R200. -/
def servoTrack (x : Int) (s : State) : State :=
  if s.get TIM_SVPANIC.PANIC * 65536 < x.natAbs then
    let n := s.tim.panicRun + 1
    let s1 : State := { s with tim := { s.tim with panicRun := n } }
    if s1.flag TIM_SVBASIC.AUTOREARM && (modeNow s1 == 0 || modeNow s1 == 6) then
      if 4 ≤ n then rearm s1 else servoLoop x s1
    else enterTim 2 (servoLoop x (s1.logRun 0x0407 0))
  else servoLoop x ({ s with tim := { s.tim with panicRun := 0 } }.endRun 0x0407 0)

/-- The second sample after a step (R193): the frequency and the load, or a target when the load has been used (R171). -/
def servoLoad (x m l : Int) (s : State) : State :=
  match s.tim.prev with
  | none => { s with tim := { s.tim with prev := some (m, l) } }
  | some (m0, l0) =>
    let s1 := learnFreq (m - m0) (l - l0) s
    let s2 : State := { s1 with tim := { s1.tim with integ := x, prev := some (m, l) } }
    let t := servoTarget s2 x x
    if s2.flag TIM_STAT.FLOADARM then
      let s3 := writeAdj t s2
      showBusy { s3 with tim := { s3.tim with loadReq := true, slew := none } }
    else enterTim 2 (writeAdj t s2)

/-- What `TIM_OFFSET` shows of an offset in 2^-16 ns: signed ns, saturating. -/
def offsetCode (x : Int) : Nat := codeOf 32 (clampInt (-2147483648) 2147483647 (openDiv x 65536))

/-- A completed sample (R165, R193): its offset x, and the master's and the local time at its receipt, all in 2^-16 ns. -/
def timSample (x m l : Int) (s : State) : State :=
  let s1 := s.set TIM_OFFSET.NS (offsetCode x)
  let loaded := !s1.flag TIM_STAT.FLOADARM
  if !servoOn s1 then
    if timState s1 == 4 then enterTim (if loaded then hostLockState s1 else 1) s1 else s1
  else if timState s1 == 0 then
    if s1.tim.stepReq.isSome then s1
    else showBusy { s1 with tim := { s1.tim with stepReq := some (false, -x * 65536), prev := some (m, l) } }
  else if timState s1 == 4 then
    if loaded then servoTrack x (enterTim 2 s1)
    else enterTim 1 { s1 with tim := { s1.tim with prev := some (m, l) } }
  else if timState s1 == 1 then servoLoad x m l s1
  else servoTrack x s1

/-- The time base's own part of an applied step (R167, R168, R175): the new time, or the refusal. True when it was
applied. -/
def stepTime (s : State) : Bool × State :=
  match s.tim.stepReq with
  | none => (false, s)
  | some (absolute, off) =>
    let s1 := showBusy { s with tim := { s.tim with stepReq := none } }
    let t : Int := if absolute then off else (s1.now : Nat) + off
    if !s1.flag TIM_STAT.STEPARM || t < 0 then (false, refuseStep 0 s1)
    else
      let d : Int := t - (s1.now : Nat)
      let ns := d / (subNs : Nat)
      let sec := codeOf 32 (ns / 1000000000)
      let s2 : State := { s1 with
        now := t.toNat % timeSpan
        tim := { s1.tim with prev := s1.tim.prev.map (fun p => (p.1, p.2 + d / 65536)) } }
      let s3 := ((s2.set TIM_STAT.STEPARM 0).fire 0x014).log 0x0403 [sec, (ns % 1000000000).toNat]
      let sec2 := s3.nowNs / 1000000000
      let passes := decide (0 < d) && s1.nowNs / 1000000000 != sec2
      let s4 := if passes then s3.fire 0x010 else s3
      (true, { s4 with tim := { s4.tim with second := sec2 } })

/-- The state after an applied step (R165): LOCKED on a FREE master, STEPPED otherwise. -/
def afterStep (s : State) : State :=
  if timState s != 0 then s else if isMaster s && !srcPps s && servoOn s then enterTim 3 s else enterTim 1 s

/-! ### PPS (R175, R176, R201) -/

/-- The nanoseconds pass 0 (R175). -/
def ppsSecond (s : State) : State :=
  let sec := s.nowNs / 1000000000
  if sec == s.tim.second then s
  else
    let s1 := ({ s with tim := { s.tim with second := sec } }).fire 0x010
    if s1.flag TIM_PPSCFG.OUTEN && (s1.flag TIM_PPSCFG.ALWAYS || timState s1 == 3 || timState s1 == 4) && !s1.tim.ppsHigh
    then ({ s1 with tim := { s1.tim with ppsHigh := true } }).emit (.ppsOut true)
    else s1

/-- The width of the `PPS_OUT` pulse expires (R175). -/
def ppsOutEnd (s : State) : State :=
  if s.tim.ppsHigh then ({ s with tim := { s.tim with ppsHigh := false } }).emit (.ppsOut false) else s

/-- The offset of a PPS edge from the nearest whole second, in 2^-16 ns (R193). -/
def ppsOffset (stamp : Int) : Int :=
  let sec : Int := 1000000000 * 65536
  let r := stamp % sec
  if 2 * r ≤ sec then r else r - sec

/-- An edge of `PPS_IN` of level `rising`, stamped in 2^-16 ns of the time base (R176, R185). -/
def ppsIn (rising : Bool) (stamp : Nat) (s : State) : State :=
  if rising == s.flag TIM_PPSCFG.INPOL then s
  else if (match s.tim.ppsAt with | some t => decide (s.elapsed < t + 500000000) | none => false) then s.count TIM_PPSCNT.NOISE
  else
    let s1 := { s with tim := { s.tim with ppsAt := some s.elapsed } }.count TIM_PPSCNT.EDGES
    let s2 := rawPush (rawWords 0 3 0 0 0 stamp 0 0 []) (s1.fire 0x011)
    if isMaster s2 && srcPps s2 then
      let x := ppsOffset stamp
      let s3 := s2.set TIM_STAT.SRCPORT 3
      if timState s3 == 0 && s3.tim.fresh && servoOn s3 then
        let sec := s3.get TIM_EPOCHHI.HI * 2 ^ 32 + s3.get TIM_EPOCHLO.LO
        let off : Int := ((sec * 1000000000 * 65536 : Nat) - (stamp : Int))
        (timSample (-off) (stamp + off) stamp s3).set TIM_OFFSET.NS (offsetCode x)
      else timSample x ((stamp : Int) - x) stamp s3
    else s2

/-- A PPS master has seen no edge for 2 s (R201). -/
def ppsTimeout (s : State) : State :=
  if isMaster s && srcPps s && (timState s == 1 || timState s == 2 || timState s == 3) then (enterTim 4 s).log 0x040C
  else s

/-- PLL holdover starts or ends on a FREE master (R165, R201). -/
def timHoldover (on : Bool) (s : State) : State :=
  if isMaster s && !srcPps s then
    if on then (if timState s == 0 then s else enterTim 4 s)
    else if timState s == 4 then enterTim 3 s else s
  else s

/-- HOLDOVER has lasted `HOLDS` seconds (R166). -/
def trustExpiry (s : State) : State :=
  if timState s == 4 then setUnsync { s with tim := { s.tim with trustOver := true } } else s

/-! ### Derivation (R198) -/

/-- The port latencies of R198 for the rate that port `p` trained last, in 2^-8 ns. -/
def deriveLat (p : Nat) (s : State) : State :=
  let slow := (tget {} s.tim.ports p).slow
  (s.set TIM_TXLAT.LAT (if slow then 24576 else 9830) p).set TIM_RXLAT.LAT (if slow then 33587 else 13517) p

/-- The gains of R198. -/
def deriveGain (s : State) : State :=
  let e : Int := 16 + 2 * (s.get TIM_SVBASIC.BW : Nat) - 2 + sampleLog s
  let kp := min 32768 (2 ^ e.toNat)
  (s.set TIM_SVGAIN.KP kp).set TIM_SVGAIN.KI ((roundDiv (kp * kp : Nat) 262144).toNat)

/-- Every derived field of `TIM` but `TIM_ADJ`, which the servo holds (R198). -/
def deriveTim (s : State) : State :=
  let s1 := ((s.set TIM_INCF.FRAC 0).set TIM_INCI.INT 2).set TIM_SLEW.SLEW 1000
  let lock := 10 * s.get TIM_SVBASIC.LOCKNS
  let s2 := ((deriveGain s1).set TIM_SVLIM.LOCK lock).set TIM_SVLIM.UNLOCK (4 * lock)
  let s3 := ((s2.set TIM_SVLIM.LOCKCNT 1).set TIM_SVLIM.SYNCTO 1).set TIM_SVPANIC.PANIC 1000000
  let s4 := ((s3.set TIM_STEPSECLO.SEC 0).set TIM_STEPSECHI.SEC 0).set TIM_STEPNS.NS 0
  let s5 := deriveLat 0 s4
  if ringPort s5 1 then deriveLat 1 s5 else s5

/-! ### Rows that are no register write -/

def execRateSlewStep (s : State) : Out := .next (slewStep s)
def execFreqLoadApply (s : State) : Out := .next (loadApply s)
def execCompareFire (k : Fin 8) (s : State) : Out := .next (compareFire k.val s)
def execPpsSecond (s : State) : Out := .next (ppsSecond s)
def execPpsOutEnd (s : State) : Out := .next (ppsOutEnd s)
def execPpsInEdge (rising : Bool) (stamp : Nat) (s : State) : Out := .next (ppsIn rising stamp s)
def execPpsInTimeout (s : State) : Out := .next (ppsTimeout s)
def execHoldoverTrustExpiry (s : State) : Out := .next (trustExpiry s)

end Sys2Proof.Machine
end

