-- ==== Sys2Proof/Machine/Ptp.lean ====
section
/-! DEFINITION. IEEE 1588 messages on the ring ports (R178-R192): their fields, the selection of the master, the samples of
a slave, the delays, and the transparent clock's edits. Times and corrections are in 2^-16 ns. -/

namespace Sys2Proof.Machine

/-! ### Messages (R180-R184) -/

/-- Where the PTP message starts in a frame (R180): none when the frame is not PTP. -/
def ptpOffset (f : List Nat) : Option Nat :=
  let v := if etherType f == 0x8100 then 4 else 0
  let ty := beNat (sliceOf f (12 + v) 2)
  let at_ : Option Nat :=
    if ty == 0x88F7 then some (14 + v)
    else if ty == 0x0800 && byteAt f (14 + v) == 0x45 && byteAt f (23 + v) == 17 &&
        [319, 320].contains (beNat (sliceOf f (36 + v) 2)) then some (42 + v)
    else none
  match at_ with
  | none => none
  | some k => if byteAt f (k + 1) % 16 == 2 then some k else none

/-- Fields of a PTP message (R183). -/
def ptpType (m : List Nat) : Nat := byteAt m 0 % 16
def ptpDomain (m : List Nat) : Nat := byteAt m 4
def ptpTwoStep (m : List Nat) : Bool := bitAt (byteAt m 6) 1
def ptpCorr (m : List Nat) : Int := signedOf 64 (beNat (sliceOf m 8 8))
def ptpIdent (m : List Nat) : List Nat := sliceOf m 20 10
def ptpSeq (m : List Nat) : Nat := beNat (sliceOf m 30 2)
def ptpTime (m : List Nat) : Nat := ringNs (sliceOf m 34 10)

/-- The delay mechanism in effect is P2P (R188). -/
def peerDelay (s : State) : Bool := bitAt s.tim.ptp 1

/-- Two-step origination is in effect (R189). -/
def twoStepOn (s : State) : Bool := bitAt s.tim.ptp 2

/-- The node's port identity on ring port `p` (R184). -/
def portIdent (s : State) (p : Nat) : List Nat := dsnBytes s ++ beBytes 2 (p + 1)

/-- A receive or a transmit stamp at the reference plane (R179). -/
def rxStamp (s : State) (p stamp : Nat) : Int := (stamp : Int) - (s.get TIM_RXLAT.LAT p * 256 : Nat)
def txStamp (s : State) (p stamp : Nat) : Int := (stamp : Int) + (s.get TIM_TXLAT.LAT p * 256 : Nat)

/-- A message received on port `p` as the ordinary clock takes it (R182): with a good FCS, the domain in effect, SDO 0 and
type `ty`, on a FORWARD port, or a BLOCKED one for the peer delay. A bad FCS is counted (R191). -/
def ptpTake (p ty : Nat) (f : List Nat) (act : List Nat → State → State) (s : State) : State :=
  match ptpOffset f with
  | none => s
  | some k =>
    let m := (frameBodyOf f).drop k
    let st := ringState s p
    if !ringPort s p || !(st == 3 || (st == 2 && [2, 3, 10].contains ty)) then s
    else if !fcsGood f then s.count TIM_PTPERR.COUNT
    else if ptpType m != ty || ptpDomain m != s.tim.ptp / 2 ^ 24 || byteAt m 0 / 16 != 0 || byteAt m 5 != 0 ||
        (ptpIdent m).take 8 == dsnBytes s then s
    else act m s

/-- The 34 octets of a header that this node originates on port `p` (R183). -/
def ptpHead (s : State) (p ty len : Nat) (flags : Nat) (corr : Int) (seq ctl : Nat) (log : Int) : List Nat :=
  [ty, 0x12] ++ beBytes 2 len ++ [s.tim.ptp / 2 ^ 24, 0] ++ beBytes 2 flags ++ beBytes 8 (codeOf 64 corr) ++
    beBytes 4 0 ++ portIdent s p ++ beBytes 2 seq ++ [ctl, codeOf 8 log]

/-- A time field of whole ns from a stamp. -/
def stampTime (t : Int) : List Nat := ringTime (t.toNat / 65536)

/-- The fraction of a stamp in 2^-16 ns. -/
def stampFrac (t : Int) : Int := (t.toNat % 65536 : Nat)

/-- The one's complement checksum of an IPv4 header. -/
def ipSum (bs : List Nat) : Nat :=
  let t := (List.range (bs.length / 2)).foldl (fun a k => a + beNat (sliceOf bs (2 * k) 2)) 0
  let u := t % 65536 + t / 65536
  65535 - (u % 65536 + u / 65536)

/-- The frame that carries a PTP message on the transport in effect (R181, R191): `peer` for the Pdelay addresses, `event`
for UDP port 319. None over UDP while the node has no ID (R606). -/
def ptpFrame (s : State) (peer event : Bool) (m : List Nat) : Option (List Nat) :=
  if !bitAt s.tim.ptp 0 then
    some ((if peer then [0x01, 0x80, 0xC2, 0x00, 0x00, 0x0E] else [0x01, 0x1B, 0x19, 0, 0, 0]) ++ nodeMac s ++
      [0x88, 0xF7] ++ m)
  else
    match nodeId s with
    | none => none
    | some id =>
      let dst := if peer then [224, 0, 0, 107] else [224, 0, 1, 129]
      let ip (sum : List Nat) := [0x45, 0] ++ beBytes 2 (28 + m.length) ++ [0, 0, 0, 0, 1, 17] ++ sum ++
        [169, 254, 16 + id / 256, id % 256] ++ dst
      let port := beBytes 2 (if event then 319 else 320)
      some ((if peer then [0x01, 0, 0x5E, 0, 0, 0x6B] else [0x01, 0, 0x5E, 0, 1, 0x81]) ++ nodeMac s ++ [0x08, 0x00] ++
        ip (beBytes 2 (ipSum (ip [0, 0]))) ++ port ++ port ++ beBytes 2 (8 + m.length) ++ [0, 0] ++ m)

/-- Send a PTP message on port `p`. -/
def ptpSend (p : Nat) (peer event : Bool) (m : List Nat) (s : State) : State :=
  match ptpFrame s peer event m with
  | none => s
  | some f => sendOn p f s

/-- The raw record of a message (R195): `dir` 1 when sent, its stamp and its body time in ns. -/
def rawMsg (dir p : Nat) (m : List Nat) (stamp : Int) (s : State) : State :=
  rawPush (rawWords dir p (ptpType m) (ptpDomain m) (ptpSeq m) stamp (beNat (sliceOf m 8 8)) (ptpTime m) (ptpIdent m)) s

/-- The mean of the measurements kept (R188); 0 before the first. -/
def meanDelay (ds : List Int) : Int := if ds = [] then 0 else openDiv (ds.foldl (· + ·) 0) ds.length

/-- The state of PTP on ring port `p`. -/
def State.ptpPort (s : State) (p : Nat) : PtpPort := tget {} s.tim.ports p

/-- `s` with the PTP state of port `p` replaced. -/
def State.setPtpPort (s : State) (p : Nat) (u : PtpPort) : State :=
  { s with tim := { s.tim with ports := tput {} s.tim.ports p u } }

/-! ### The master (R185-R187) -/

/-- The data set that this node announces (R183). -/
def ownSet (s : State) : Foreign := {
  ident := dsnBytes s ++ [0, 0]
  prio1 := s.get TIM_ANNCFG.PRIO1
  quality := [s.get TIM_ANNCFG.CLASS, s.get TIM_ANNCFG.ACCURACY] ++ beBytes 2 (s.get TIM_ANNCFG2.VARIANCE)
  prio2 := s.get TIM_ANNCFG.PRIO2
  gm := dsnBytes s
  utc := s.get TIM_ANNCFG2.UTCOFS
  utcValid := s.flag TIM_ANNCFG2.UTCVALID }

/-- Lexicographic comparison. -/
def lexLess (a b : List Nat) : Bool :=
  match a, b with
  | x :: t, y :: u => if x == y then lexLess t u else decide (x < y)
  | [], _ :: _ => true
  | _, [] => false

/-- The data set comparison of IEEE 1588-2019 clause 9.3.4: lower is better. -/
def betterSet (a b : Foreign) : Bool :=
  if a.gm == b.gm then lexLess (a.steps :: a.ident ++ [a.port]) (b.steps :: b.ident ++ [b.port])
  else lexLess (a.prio1 :: a.quality ++ [a.prio2] ++ a.gm) (b.prio1 :: b.quality ++ [b.prio2] ++ b.gm)

/-- The node is a candidate for master (R185). -/
def isCandidate (s : State) : Bool :=
  match s.tim.role % 4 with
  | 0 => s.flag DRL_NODE.ROOT
  | 1 => true
  | _ => false

/-- The best data set and whether it is the node's own (R186). -/
def bestSet (s : State) : Option Foreign :=
  let cands := s.tim.foreign ++ (if isCandidate s then [ownSet s] else [])
  cands.foldl (fun b c => match b with | none => some c | some x => if betterSet c x then some c else some x) none

/-- Make the selection of R186. -/
def reselect (s : State) : State :=
  match bestSet s with
  | none => { s.set TIM_STAT.MASTER 0 with tim := { s.tim with master := none } }
  | some b =>
    let own := b.ident == (ownSet s).ident
    let s1 := s.set TIM_STAT.MASTER (b2n own)
    let s2 := if own then s1 else s1.set TIM_STAT.SRCPORT b.port
    let s3 := (s2.set TIM_GMIDLO.ID (beNat b.gm)).set TIM_GMIDHI.ID (beNat b.gm / 2 ^ 32)
    let s4 := (s3.set TIM_UTCOFS.VALID (b2n b.utcValid)).set TIM_UTCOFS.UTCOFS b.utc
    let s5 := if s4.flag TIM_LEVEL.EXPERT then s4 else deriveGain s4
    if s5.tim.master == some b.ident then requestEpoch s5
    else
      let id := beNat (b.ident.take 8)
      let s6 := ({ s5 with tim := {
        s5.tim with
        master := some b.ident
        prev := none
        waitSync := none
        lastSync := none
        delays := [] } }).log 0x040B [id % 2 ^ 32, id / 2 ^ 32]
      let s7 := if timState s6 == 0 || !servoOn s6 then s6
        else enterTim (if s6.flag TIM_STAT.FLOADARM then 1 else 2) s6
      requestEpoch s7

/-- An Announce on port `p` (R186, R187). -/
def announce (p : Nat) (m : List Nat) (s : State) : State :=
  let u := s.ptpPort p
  let live := u.anns.filter (fun t => decide (s.elapsed < t + 1000000000))
  if 16 ≤ live.length then (s.count TIM_ANNDROP.COUNT).logSec 0x0409 p [p]
  else
    let s1 := s.setPtpPort p { u with anns := live ++ [s.elapsed] }
    let e : Foreign := {
      port := p
      ident := ptpIdent m
      prio1 := byteAt m 47
      quality := sliceOf m 48 4
      prio2 := byteAt m 52
      gm := sliceOf m 53 8
      steps := beNat (sliceOf m 61 2)
      utc := beNat (sliceOf m 44 2)
      utcValid := bitAt (byteAt m 7) 2 }
    let fs := s1.tim.foreign
    let fs2 := if fs.any (fun x => x.ident == e.ident) then fs.map (fun x => if x.ident == e.ident then e else x)
      else if fs.length < 4 then fs ++ [e] else fs
    reselect { s1 with tim := { s1.tim with foreign := fs2 } }

/-! ### Samples and delays (R182, R188, R193) -/

/-- The node is a slave of the sender of message `m`, received on port `p` (R186). -/
def fromMaster (s : State) (p : Nat) (m : List Nat) : Bool :=
  !isMaster s && s.tim.master == some (ptpIdent m) && s.get TIM_STAT.SRCPORT == p

/-- A completed sample of a slave: the master's time without the delay, and the receive stamp. -/
def slaveSample (p : Nat) (t1 rx : Int) (s : State) : State :=
  let d := if peerDelay s then meanDelay (s.ptpPort p).delays else meanDelay s.tim.delays
  timSample (rx - (t1 + d)) (t1 + d) rx { s with tim := { s.tim with lastSync := some (t1, rx) } }

/-- A Sync on port `p` (R182). -/
def syncIn (p stamp : Nat) (m : List Nat) (s : State) : State :=
  if !fromMaster s p m then s
  else
    let rx := rxStamp s p stamp
    let s1 := rawMsg 0 p m rx s
    if ptpTwoStep m then { s1 with tim := { s1.tim with waitSync := some (ptpSeq m, rx, ptpCorr m) } }
    else slaveSample p ((ptpTime m : Nat) * 65536 + ptpCorr m) rx s1

/-- A Follow_Up on port `p` (R182). -/
def followIn (p : Nat) (m : List Nat) (s : State) : State :=
  if !fromMaster s p m then s
  else
    let s1 := rawMsg 0 p m 0 s
    match s1.tim.waitSync with
    | some (seq, rx, corr) =>
      if seq == ptpSeq m then
        slaveSample p ((ptpTime m : Nat) * 65536 + corr + ptpCorr m) rx { s1 with tim := { s1.tim with waitSync := none } }
      else s1
    | none => s1

/-- A Delay_Req on port `p`: a master answers in E2E (R182). -/
def delayReqIn (p stamp : Nat) (m : List Nat) (s : State) : State :=
  if !isMaster s || peerDelay s || !mayOriginate s then s
  else
    let rx := rxStamp s p stamp
    let s1 := rawMsg 0 p m rx s
    let body := ptpHead s1 p 9 54 0 (ptpCorr m - stampFrac rx) (ptpSeq m) 3 (signedOf 4 (s1.tim.ptp / 2 ^ 12)) ++
      stampTime rx ++ ptpIdent m
    ptpSend p false false body s1

/-- A Delay_Resp on port `p` completes a path delay (R188). -/
def delayRespIn (p : Nat) (m : List Nat) (s : State) : State :=
  if !fromMaster s p m || peerDelay s then s
  else
    let s1 := rawMsg 0 p m 0 s
    match s1.tim.delAt, s1.tim.lastSync with
    | some t3, some (t1, t2) =>
      if (ptpSeq m + 1) % 65536 == s1.tim.delSeq && sliceOf m 44 10 == portIdent s1 p then
        let t4 : Int := (ptpTime m : Nat) * 65536
        let d := openDiv ((t2 - t1) + (t4 - t3) - ptpCorr m) 2
        let ds := (d :: s1.tim.delays).take 8
        let s2 : State := { s1 with tim := { s1.tim with delays := ds, delAt := none } }
        s2.set TIM_PATHDLY.DLY (codeOf 32 (meanDelay ds))
      else s1
    | _, _ => s1

/-- A Pdelay_Req on port `p` is answered in P2P (R182, R189); `tx` is the stamp of the response. -/
def pdelayReqIn (p stamp tx : Nat) (m : List Nat) (s : State) : State :=
  if !peerDelay s || !mayOriginate s then s
  else
    let t2 := rxStamp s p stamp
    let t3 := txStamp s p tx
    let s1 := rawMsg 0 p m t2 s
    let zero := ringTime 0
    if twoStepOn s1 then
      let resp := ptpHead s1 p 3 54 0x0200 (-(stampFrac t2)) (ptpSeq m) 5 127 ++ stampTime t2 ++ ptpIdent m
      let fu := ptpHead s1 p 10 54 0 (ptpCorr m + stampFrac t3) (ptpSeq m) 5 127 ++ stampTime t3 ++ ptpIdent m
      ptpSend p true false fu (rawMsg 1 p resp t3 (ptpSend p true true resp s1))
    else
      let resp := ptpHead s1 p 3 54 0 (ptpCorr m + (t3 - t2)) (ptpSeq m) 5 127 ++ zero ++ ptpIdent m
      rawMsg 1 p resp t3 (ptpSend p true true resp s1)

/-- A link delay of port `p` is complete: its request and receive stamps, and the turnaround with both corrections. -/
def linkDelay (p : Nat) (t1 t4 turn : Int) (s : State) : State :=
  let u := s.ptpPort p
  let ds := (openDiv (t4 - t1 - turn) 2 :: u.delays).take 8
  let s1 := s.setPtpPort p { u with delays := ds, reqAt := none, resp := none }
  if peerDelay s1 && s1.get TIM_STAT.SRCPORT == p then s1.set TIM_PATHDLY.DLY (codeOf 32 (meanDelay ds)) else s1

/-- A Pdelay_Resp or its follow-up on port `p` (R188). -/
def pdelayRespIn (p stamp : Nat) (m : List Nat) (s : State) : State :=
  let u := s.ptpPort p
  if !peerDelay s || (ptpSeq m + 1) % 65536 != u.pseq || sliceOf m 44 10 != portIdent s p then s
  else
    match u.reqAt with
    | none => s
    | some t1 =>
      if ptpType m == 3 then
        let t4 := rxStamp s p stamp
        let s1 := rawMsg 0 p m t4 s
        if ptpTwoStep m then s1.setPtpPort p { u with resp := some (t4, (ptpTime m : Nat) * 65536, ptpCorr m) }
        else linkDelay p t1 t4 (ptpCorr m) s1
      else
        let s1 := rawMsg 0 p m 0 s
        match u.resp with
        | none => s1
        | some (t4, t2, c) => linkDelay p t1 t4 ((ptpTime m : Nat) * 65536 - t2 + c + ptpCorr m) s1

/-! ### Origination (R182, R189) -/

/-- A master's Sync on port `p`, with its Follow_Up when two-step (R189). -/
def syncOut (p stamp : Nat) (s : State) : State :=
  if ringState s p != 3 then s
  else
    let t := txStamp s p stamp
    let seq := s.tim.syncSeq
    let log := signedOf 4 (s.tim.ptp / 2 ^ 20)
    if twoStepOn s then
      let m := ptpHead s p 0 44 0x0200 0 seq 0 log ++ ringTime 0
      let fu := ptpHead s p 8 44 0 (stampFrac t) seq 2 log ++ stampTime t
      ptpSend p false false fu (rawMsg 1 p m t (ptpSend p false true m s))
    else
      let m := ptpHead s p 0 44 0 (stampFrac t) seq 0 log ++ stampTime t
      rawMsg 1 p m t (ptpSend p false true m s)

/-- The Sync interval of a master expires (R182). -/
def syncInterval (t0 t1 : Nat) (s : State) : State :=
  if !isMaster s || !mayOriginate s then s
  else
    let s1 := syncOut 1 t1 (syncOut 0 t0 s)
    { s1 with tim := { s1.tim with syncSeq := (s1.tim.syncSeq + 1) % 65536 } }

/-- The Announce that the node sends on port `p` (R183). -/
def announceMsg (s : State) (p : Nat) : List Nat :=
  let o := ownSet s
  ptpHead s p 11 64 (8 + b2n o.utcValid * 4) 0 s.tim.annSeq 5 (signedOf 4 (s.tim.ptp / 2 ^ 16)) ++ ringTime s.nowNs ++
    beBytes 2 o.utc ++ [0, o.prio1] ++ o.quality ++ [o.prio2] ++ o.gm ++ [0, 0, if srcPps s then 0x90 else 0xA0]

/-- The Announce interval of a master expires (R182). -/
def announceInterval (s : State) : State :=
  if !isMaster s || !mayOriginate s then s
  else
    let s1 := [0, 1].foldl (fun t p => if ringState t p == 3 then ptpSend p false false (announceMsg t p) t else t) s
    { s1 with tim := { s1.tim with annSeq := (s1.tim.annSeq + 1) % 65536 } }

/-- The Delay_Req interval of a slave expires (R182). -/
def delayReqInterval (stamp : Nat) (s : State) : State :=
  let p := s.get TIM_STAT.SRCPORT
  if isMaster s || s.tim.master.isNone || peerDelay s || !mayOriginate s || 2 ≤ p || ringState s p != 3 then s
  else
    let t := txStamp s p stamp
    let m := ptpHead s p 1 44 0 0 s.tim.delSeq 1 127 ++ stampTime t
    let s1 := rawMsg 1 p m t (ptpSend p false true m s)
    { s1 with tim := { s1.tim with delSeq := (s1.tim.delSeq + 1) % 65536, delAt := some t } }

/-- The Pdelay_Req interval of port `p` expires (R188). -/
def pdelayInterval (p stamp : Nat) (s : State) : State :=
  if !ringPort s p || !peerDelay s || !mayOriginate s || ringState s p < 2 then s
  else
    let u := s.ptpPort p
    let t := txStamp s p stamp
    let m := ptpHead s p 2 54 0 0 u.pseq 5 127 ++ stampTime t ++ List.replicate 10 0
    let s1 := rawMsg 1 p m t (ptpSend p true true m s)
    s1.setPtpPort p { u with pseq := (u.pseq + 1) % 65536, reqAt := some t, resp := none }

/-- A slave has had no sample for `SYNCTO` intervals (R165). -/
def syncTimeout (s : State) : State :=
  if isMaster s || timState s == 0 || timState s == 4 then s
  else enterTim 4 { s with tim := { s.tim with prev := none, waitSync := none } }

/-- The words of `TIM_ROLE` and `TIM_PTPCFG` take effect (R197). -/
def timConfigApply (s : State) : State :=
  let r := s.rdA (TIM_ROLE.reg.adr 0)
  let s1 : State := { s with tim := { s.tim with role := r, ptp := s.rdA (TIM_PTPCFG.reg.adr 0) } }
  let s2 := if s1.flag TIM_LEVEL.EXPERT then s1 else deriveGain s1
  if r == s.tim.role then s2 else reselect s2

/-! ### The transparent clock (R190, R191) -/

/-- The frame that leaves port `q` for a frame `f` that came on port `p` and stayed `res` between its two internal stamps:
`correctionField` edited, the UDP checksum 0, the FCS recomputed, and inverted when it was bad. -/
def tcEdit (s : State) (p q res : Nat) (f : List Nat) : List Nat :=
  match ptpOffset f with
  | none => f
  | some k =>
    let m := f.drop k
    if !(ptpType m == 0 || (ptpType m == 1 && !peerDelay s)) then f
    else
      let stay : Int := (res : Int) + (s.get TIM_TXLAT.LAT q * 256 : Nat) + (s.get TIM_RXLAT.LAT p * 256 : Nat)
      let link := if peerDelay s && ptpType m == 0 then meanDelay (s.ptpPort p).delays else 0
      let b := frameBodyOf f
      let b1 := b.take (k + 8) ++ beBytes 8 (codeOf 64 (ptpCorr m + stay + link)) ++ b.drop (k + 16)
      let b2 := if etherType f == 0x88F7 || beNat (sliceOf f 16 2) == 0x88F7 then b1
        else b1.take (k - 2) ++ [0, 0] ++ b1.drop k
      let fcs := fcsOf b2
      b2 ++ (if fcsGood f then fcs else fcs.map (fun x => 255 - x))

/-! ### Rows -/

def execSyncReceived (p : Fin 2) (f : List Byte) (stamp : Nat) (s : State) : Out :=
  .next (ptpTake p.val 0 (natBytes f) (syncIn p.val stamp) s)
def execFollowUpReceived (p : Fin 2) (f : List Byte) (s : State) : Out :=
  .next (ptpTake p.val 8 (natBytes f) (followIn p.val) s)
def execDelayReqReceived (p : Fin 2) (f : List Byte) (stamp : Nat) (s : State) : Out :=
  .next (ptpTake p.val 1 (natBytes f) (delayReqIn p.val stamp) s)
def execDelayRespReceived (p : Fin 2) (f : List Byte) (s : State) : Out :=
  .next (ptpTake p.val 9 (natBytes f) (delayRespIn p.val) s)
def execPdelayReqReceived (p : Fin 2) (f : List Byte) (stamp tx : Nat) (s : State) : Out :=
  .next (ptpTake p.val 2 (natBytes f) (pdelayReqIn p.val stamp tx) s)
def execPdelayRespReceived (p : Fin 2) (f : List Byte) (stamp : Nat) (followUp : Bool) (s : State) : Out :=
  .next (ptpTake p.val (if followUp then 10 else 3) (natBytes f) (pdelayRespIn p.val stamp) s)
def execAnnounceReceived (p : Fin 2) (f : List Byte) (s : State) : Out :=
  .next (ptpTake p.val 11 (natBytes f) (announce p.val) s)
def execForeignMasterTimeout (k : Fin 4) (s : State) : Out :=
  .next (reselect { s with tim := { s.tim with foreign := s.tim.foreign.eraseIdx k.val } })
def execSyncInterval (t0 t1 : Nat) (s : State) : Out := .next (syncInterval t0 t1 s)
def execAnnounceInterval (s : State) : Out := .next (announceInterval s)
def execDelayReqInterval (stamp : Nat) (s : State) : Out := .next (delayReqInterval stamp s)
def execPdelayInterval (p : Fin 2) (stamp : Nat) (s : State) : Out := .next (pdelayInterval p.val stamp s)
def execSyncTimeout (s : State) : Out := .next (syncTimeout s)
def execTimConfigApply (s : State) : Out := .next (timConfigApply s)

end Sys2Proof.Machine
end

