-- ==== Sys2Proof/Machine/Drl.lean ====
section
/-! DEFINITION. Drumline (chapter 18): ports, forwarding, root and node IDs, the blocked segment, and events at presentation
time. -/

namespace Sys2Proof.Machine

/-! ### The node -/

/-- `DRL_CFG.MODE`: 0 MEMBER, 1 CANDIDATE, 2 ROOT; 3 acts as 0. -/
def ringMode (s : State) : Nat := if s.get DRL_CFG.MODE == 3 then 0 else s.get DRL_CFG.MODE

/-- Port `p` is up (R602). -/
def ringUp (s : State) (p : Nat) : Bool := s.flag DRL_PSTAT.LINK p

/-- A port of the node runs 10GBASE-R (R608). -/
def nodeSlow (s : State) : Bool := [0, 1].any (fun p => ringUp s p && s.flag DRL_PSTAT.RATE p)

/-- Put port `p` in state `st` (R604). -/
def setRing (p st : Nat) (s : State) : State := s.set DRL_PSTAT.STATE st p

/-- The derived fields of R629, from the last beacon. -/
def deriveDrl (s : State) : State :=
  let hop := if s.flag DRL_NET.SLOW then 1100 else 480
  let h := if s.drl.runHeard then s.get DRL_NET.NODES - 1 else 4095
  (s.set DRL_HOPNS.NS hop).set DRL_LEAD.NS (ceilDiv (500000 + h * hop) 100000 * 100000)

/-- `NODES` and `SLOW` of the last beacon; a change derives R629 again at the basic level. -/
def setNet (nodes slow : Nat) (s : State) : State :=
  let s1 := (s.set DRL_NET.NODES nodes).set DRL_NET.SLOW slow
  if s1.flag DRL_LEVEL.EXPERT then s1 else deriveDrl s1

/-- The node takes ID `n` (R617): it fires `DRL_NODEID` and logs 0x1005 when the ID is new, and owes a NODE_UP. -/
def takeId (n : Nat) (rejoin : Bool) (s : State) : State :=
  if nodeId s == some n then s
  else
    let s1 := (s.set DRL_NODE.ID n).set DRL_NODE.VALID 1
    let s2 : State := { s1 with drl := { s1.drl with nodeUpDue := true, rejoin := rejoin } }
    (setMember n true (s2.fire 0x2E2)).log 0x1005 [n, b2n rejoin]

/-- The root with serial number `dsn` is known; a change of root logs 0x1003 (R614), and makes a node with an ID announce
itself (R617). -/
def knowRoot (dsn : Nat) (s : State) : State :=
  if s.drl.knownRoot == some dsn then s
  else
    let s1 : State := { s with drl := { s.drl with
      knownRoot := some dsn
      nodeUpDue := s.drl.nodeUpDue || (nodeId s).isSome } }
    ((s1.set DRL_ROOTDSNLO.DSN dsn).set DRL_ROOTDSNHI.DSN (dsn / 2 ^ 32)).log 0x1003 [dsn % 2 ^ 32, dsn / 2 ^ 32]

/-- The node is, or is no longer, the root; an AUTO time role selects its master again (R185). -/
def setRoot (b : Bool) (s : State) : State :=
  let s1 := s.set DRL_NODE.ROOT (b2n b)
  if s1.flag DRL_NODE.ROOT == s.flag DRL_NODE.ROOT then s1 else reselect s1

/-- Put the node in state `st` (R615). -/
def setNode (st : Nat) (s : State) : State := s.set DRL_NODE.STATE st

/-- The root's ID of a serial number in its table (R617). -/
def tableId (s : State) (dsn : Nat) : Option Nat := (s.drl.table.find? (fun e => e.1 == dsn)).map (fun e => e.2.1)

/-- Record a node in the root's table. -/
def tablePut (dsn id : Nat) (slow : Bool) (s : State) : State :=
  { s with drl := { s.drl with table := (dsn, id, slow) :: s.drl.table.filter (fun e => e.1 != dsn) } }

/-- The lowest ID that the root's table does not hold. -/
def freeId (s : State) : Option Nat := (List.range 4096).find? (fun n => !(s.drl.table.any (fun e => e.2.1 == n)))

/-- The beacon STATE of the node: 0 HOLD, 1 ENUM, 2 RUN. -/
def beaconState (s : State) : Nat := nodeState s - 2

/-- The root's own view of the ring, as its beacons carry it (R614-R617). -/
def rootNet (s : State) : State :=
  let top := s.drl.table.foldl (fun m e => max m e.2.1) s.drl.topId
  let slow := s.drl.table.any (fun e => e.2.2) || nodeSlow s
  let s1 := ((s.set DRL_NET.PHASE (beaconState s)).set DRL_NET.ROOTID ((nodeId s).getD 0))
  let s2 : State := { s1 with drl := { s1.drl with
    topId := top
    runHeard := s1.drl.runHeard || nodeState s1 == 4
    heard := true } }
  setNet (if nodeState s2 == 4 then top + 1 else s2.get DRL_NET.NODES) (b2n slow) s2

/-- The node enters CLAIM as a root (R614, R615). -/
def enterClaim (s : State) : State :=
  let n := s.drl.roots + 1
  let s1 : State := { s with drl := { s.drl with roots := n, table := [], claimSeen := false, topId := 0, linkups := [], wait := 0 } }
  let s2 := (setRoot true (setNode 2 s1)).set DRL_EPOCH.EPOCH (s.fuses.dsn + n)
  rootNet (knowRoot s.fuses.dsn (s2.set DRL_NET.RINGCLOSED 0))

/-- A node in LISTEN may become a root once its hold has passed (R614, R615). -/
def tryClaim (s : State) : State :=
  if nodeState s == 1 && s.drl.holdDone && ringMode s != 0 then enterClaim s else s

/-- The node serves as a root: CLAIM, ENUM or RUN (R615). -/
def isRoot (s : State) : Bool := 2 ≤ nodeState s && nodeState s ≤ 4

/-- The node stops being a root (R614). -/
def leaveRoot (st : Nat) (s : State) : State := setRoot false (setNode st (s.set DRL_NET.RINGCLOSED 0))

/-! ### Opening and closing the ring (R619) -/

/-- The root has heard its own beacon: port 1 is blocked. -/
def closeRing (s : State) : State :=
  let s1 := if ringUp s 1 then setRing 1 2 s else s
  if s.flag DRL_NET.RINGCLOSED then s1 else (s1.set DRL_NET.RINGCLOSED 1).log 0x100B

/-- The root has learnt of a break: port 1 forwards again. -/
def openRing (s : State) : State :=
  if isRoot s && s.flag DRL_NET.RINGCLOSED then
    let s1 := if ringState s 1 == 2 then setRing 1 3 s else s
    (s1.set DRL_NET.RINGCLOSED 0).log 0x100A
  else s

/-! ### Ports (R601, R602, R604, R621) -/

/-- The ID and serial number of the partner last known on port `p`; 0xFFFF for no ID. -/
def partnerOf (s : State) (p : Nat) : Nat × Nat := tget (0xFFFF, 0) s.drl.partners p

/-- Port `p` has been free of fault for 1 ms (R602). -/
def portUp (p : Nat) (s : State) : State :=
  if !ringPort s p || bitAt (s.get CLK_RST.RING) p || ringUp s p then s
  else
    let slow := if s.get DRL_PCFG.RATE p == 0 then 0 else if s.get DRL_PCFG.RATE p == 1 then 1 else s.get DRL_PSTAT.RATE p
    let s1 := ((s.set DRL_PSTAT.LINK 1 p).set DRL_PSTAT.RATE slow p).setPtpPort p { s.ptpPort p with slow := slow == 1 }
    let s2 := if s1.flag TIM_LEVEL.EXPERT then s1 else deriveLat p s1
    let s3 := (s2.fire (0x2E0 + p)).log 0x1002 [p, slow]
    setRing p (if !s3.flag DRL_CFG.EN then 1 else if s3.drl.heard then 2 else 3) s3

/-- Port `p` goes down (R602, R619, R621). -/
def portDown (p : Nat) (s : State) : State :=
  if !ringUp s p then s
  else
    let (pid, pdsn) := partnerOf s p
    let s1 := ((s.set DRL_PSTAT.LINK 0 p).set DRL_PSTAT.PVALID 0 p).count DRL_PCNT.DOWNS p
    let s2 := setRing p 0 ((s1.fire (0x2E0 + p)).log 0x1001 [p, pid])
    let s3 := if mayOriginate s2 then
        sendForward (ringMsg s2 8 true 0 0 ([p, 0] ++ beBytes 2 pid ++ beBytes 8 pdsn)) s2
      else s2
    if p == 0 then openRing s3 else s3

/-- The 50 ms of AUTO expire without lock (R601). -/
def rateAlternate (p : Nat) (s : State) : State :=
  if ringPort s p && 2 ≤ s.get DRL_PCFG.RATE p && !ringUp s p && !bitAt (s.get CLK_RST.RING) p then
    s.set DRL_PSTAT.RATE (1 - s.get DRL_PSTAT.RATE p) p
  else s

/-- The reset of ring port `p` is asserted (R70): the port goes down. -/
def ringReset (p : Nat) (s : State) : State := setRing p 0 (portDown p s)

/-! ### Forwarding (R190, R191, R603-R611) -/

/-- The frame that leaves for a forwarded one: HOPS one higher on a Drumline message, the FCS recomputed, and inverted when
it was bad (R191, R610). -/
def hopEdit (f : List Nat) : List Nat :=
  let b := frameBodyOf f
  let b2 := b.take 22 ++ beBytes 2 (byteAt f 22 / 16 * 4096 + (msgHops f + 1) % 4096) ++ b.drop 24
  b2 ++ (if fcsGood f then fcsOf b2 else (fcsOf b2).map (fun x => 255 - x))

/-- A peer-delay message of PTP. -/
def isPeerMsg (f : List Nat) : Bool :=
  match ptpOffset f with
  | none => false
  | some k => [2, 3, 10].contains (ptpType (f.drop k))

/-- Frames leave port `q` for a frame received on port `p` that stayed `res` (2^-16 ns) between the stamps. -/
def passOn (p q res : Nat) (g : List Nat) (s : State) : State :=
  (s.emit (.ringFrame q (tcEdit s p q res g))).count DRL_PFWD.COUNT p

/-- A frame received on port `p` is forwarded or discarded (R603-R605, R609-R611). -/
def forwardFrame (p res : Nat) (f : List Nat) (s : State) : State :=
  let q := 1 - p
  let drop := s.count DRL_PDROP.OTHER p
  if !ringPort s p || !ringUp s p then s
  else if 128 < f.length then (s.count DRL_PDROP.OVERSIZE p).logSec 0x1009 p [p]
  else if etherType f == 0x8808 then drop
  else
    let s0 := if etherType f == 0x88B5 && !fcsGood f then s.count DRL_PCNT.FCSERR p else s
    if ringState s p == 1 then
      if ringPort s q && ringUp s q && ringState s q == 1 then
        if s.get DRL_PSTAT.RATE p == s.get DRL_PSTAT.RATE q then passOn p q res f s0 else s0.count DRL_PDROP.OTHER p
      else s0
    else
      let passes := ringPort s q && ((ringState s p == 3 && ringState s q == 3) ||
        (isRingMsg f && msgType f == 1 && 2 ≤ ringState s p && 2 ≤ ringState s q))
      if !passes then s0
      else if isRingMsg f && msgType f ≤ 15 && msgType f != 0 then
        if msgType f == 2 || msgType f == 3 then s0
        else if !msgBcast f && nodeId s == some (msgDst f) then s0
        else if !msgNoid f && nodeId s == some (msgSrc f) then s0
        else if msgHops f == 4095 then s0.count DRL_PDROP.OTHER p
        else passOn p q res (hopEdit f) s0
      else if isPeerMsg f && peerDelay s then s0
      else passOn p q res f s0

/-! ### Beacons, claims and enumeration (R614-R617) -/

/-- A root sends its beacon (R614), which is then the last one. -/
def beaconOut (s : State) : State :=
  if !isRoot s then s
  else
    let s1 := rootNet s
    let flags := b2n (s1.flag DRL_NET.RINGCLOSED) + 2 * b2n (s1.flag DRL_NET.SLOW)
    let body := dsnBytes s1 ++ [s1.get DRL_CFG.PRIO, beaconState s1] ++ beBytes 2 (s1.get DRL_NET.NODES) ++ [flags, 0] ++
      beBytes 2 (max 1 (s1.get DRL_BEACON.MS)) ++ [0, 0, 0, 0]
    let s2 := sendForward (ringMsg s1 1 true 0 0 body) s1
    if s2.drl.wait == 1 then { s2 with drl := { s2.drl with wait := 2 } } else s2

/-- The root enters RUN (R615, R616). -/
def enterRun (s : State) : State := rootNet (setNode 4 s)

/-- The root sends ENUM out of port `p` (R616). -/
def enumOut (p next : Nat) (s : State) : State :=
  if ringState s p == 3 then sendOn p (ringMsg s 3 true 0 0 (beBytes 2 next ++ [0, 0])) s else s

/-- The CLAIM window ends (R615, R616). -/
def claimEnd (s : State) : State :=
  if nodeState s != 2 then s
  else if s.drl.claimSeen then
    let id := if s.drl.table.any (fun e => e.2.1 == 0) then (freeId s).getD 0 else 0
    enterRun (takeId id false (tablePut s.fuses.dsn id (nodeSlow s) s))
  else
    let s1 := takeId 0 false (tablePut s.fuses.dsn 0 (nodeSlow s) (setNode 3 s))
    enumOut 0 1 (rootNet s1)

/-- A beacon of another root (R614, R615). -/
def beaconOther (dsn prio : Nat) (f : List Nat) (s : State) : State :=
  let pl := msgPayload f
  let better := prio < s.get DRL_CFG.PRIO || (prio == s.get DRL_CFG.PRIO && dsn < s.fuses.dsn)
  if isRoot s && !better then s
  else
    let s1 := if isRoot s then
        let t := leaveRoot 5 s
        if ringMode t == 2 then t.log 0x100E else t
      else setNode 5 s
    let s2 := knowRoot dsn s1
    let flags := byteAt pl 12
    let s3 := (((s2.set DRL_NET.PHASE (byteAt pl 9)).set DRL_NET.RINGCLOSED (flags % 2)).set DRL_NET.ROOTID (msgSrc f)).set
      DRL_EPOCH.EPOCH (msgEpoch f)
    let s4 : State := { s3 with drl := { s3.drl with
      heard := true
      runHeard := s3.drl.runHeard || byteAt pl 9 == 2 } }
    setNet (beNat (sliceOf pl 10 2)) (flags / 2 % 2) s4

/-- A BEACON on port `p` (R614, R619, R620). -/
def beaconIn (p : Nat) (f : List Nat) (s : State) : State :=
  if !ringPort s p || !fcsGood f || !isRingMsg f || msgType f != 1 || ringState s p < 2 || nodeState s == 0 then s
  else
    let pl := msgPayload f
    let dsn := beNat (sliceOf pl 0 8)
    if dsn == s.fuses.dsn then
      if !isRoot s then s
      else
        let s1 := closeRing s
        if s1.drl.wait == 2 then { s1 with drl := { s1.drl with wait := 3 } } else s1
    else beaconOther dsn (byteAt pl 8) f s

/-- A HELLO on port `p` (R608, R615). -/
def helloIn (p : Nat) (f : List Nat) (s : State) : State :=
  if !msgForMe s p 2 f then s
  else
    let pl := msgPayload f
    let dsn := beNat (sliceOf pl 0 8)
    let id := beNat (sliceOf pl 8 2)
    let known := id != 0xFFFF
    let s1 : State := { s with drl := { s.drl with
      partners := tput (0xFFFF, 0) s.drl.partners p (if known then id % 4096 else 0xFFFF, dsn) } }
    let s2 := ((s1.set DRL_PDSNLO.DSN dsn p).set DRL_PDSNHI.DSN (dsn / 2 ^ 32) p).set DRL_PSTAT.PVALID (b2n known) p
    if known then s2.set DRL_PSTAT.PARTNER id p else s2

/-- A node sends ENUM_END to the root on the port the walk came by (R616). The root port that the walk left by is not known
to the node: a free value. -/
def enumEndOut (p last : Nat) (s : State) : State :=
  let (k, s1) := s.free 1
  sendOn p (ringMsg s1 4 false (s1.get DRL_NET.ROOTID) 0 (beBytes 2 last ++ [k, 0])) s1

/-- An ENUM on port `p` (R616). -/
def enumIn (p : Nat) (f : List Nat) (s : State) : State :=
  if !msgForMe s p 3 f || isRoot s then s
  else
    let q := 1 - p
    let next := beNat (sliceOf (msgPayload f) 0 2) % 4096
    let root := s.get DRL_ROOTDSNHI.DSN * 2 ^ 32 + s.get DRL_ROOTDSNLO.DSN
    let ahead := ringPort s q && ringState s q == 3 && (partnerOf s q).2 != root
    match nodeId s with
    | some _ => if ahead then enumOut q next s else s
    | none =>
      let s1 := takeId next false s
      if ahead then enumOut q (next + 1) s1 else enumEndOut p next s1

/-- ENUM_END reaches the root (R616). -/
def enumEndIn (p : Nat) (f : List Nat) (s : State) : State :=
  if !msgForMe s p 4 f || nodeState s != 3 then s
  else
    let last := beNat (sliceOf (msgPayload f) 0 2) % 4096
    let s1 : State := { s with drl := { s.drl with topId := max s.drl.topId last } }
    if byteAt (msgPayload f) 2 == 0 && ringPort s1 1 && ringState s1 1 == 3 then enumOut 1 (last + 1) s1 else enterRun s1

/-- 10 ms after the last ENUM (R616). -/
def enumTimeout (s : State) : State := if nodeState s == 3 then enterRun s else s

/-- The payload of ASSIGN and NODE_UP (R608). -/
def assignBody (dsn id flags : Nat) : List Nat := beBytes 8 dsn ++ beBytes 2 id ++ [flags, 0]

/-- The root assigns ID `id` to `dsn` (R617). -/
def assignOut (dsn id : Nat) (rejoin : Bool) (s : State) : State :=
  let s1 := setMember id true (rootNet (tablePut dsn id false s))
  sendForward (ringMsg s1 6 true 0 0 (assignBody dsn id (b2n rejoin))) s1

/-- A JOIN reaches the root (R617). -/
def joinIn (p : Nat) (f : List Nat) (s : State) : State :=
  if !msgForMe s p 5 f || nodeState s != 4 then s
  else
    let dsn := beNat (sliceOf (msgPayload f) 0 8)
    match tableId s dsn, freeId s with
    | some id, _ => assignOut dsn id true s
    | none, some id => assignOut dsn id false s
    | none, none => s

/-- An ASSIGN (R617). -/
def assignIn (p : Nat) (f : List Nat) (s : State) : State :=
  if !msgForMe s p 6 f then s
  else
    let pl := msgPayload f
    let id := beNat (sliceOf pl 8 2) % 4096
    let s1 := farNode id 2 (setMember id true s)
    if beNat (sliceOf pl 0 8) == s1.fuses.dsn then takeId id (bitAt (byteAt pl 10) 0) s1 else s1

/-- The root finds ID `id` at two serial numbers (R617): the higher one gets a free ID. -/
def idConflict (dsn other id : Nat) (s : State) : State :=
  let high := max dsn other
  let s1 := tablePut (min dsn other) id false { s with drl := { s.drl with
    table := s.drl.table.filter (fun e => e.1 != high) } }
  match freeId s1 with
  | none => s1.log 0x1006 [id, high % 2 ^ 32, high / 2 ^ 32]
  | some n =>
    let s2 := assignOut high n false (s1.log 0x1006 [id, high % 2 ^ 32, high / 2 ^ 32])
    if high == s2.fuses.dsn then takeId n false s2 else s2

/-- A NODE_UP (R615, R617, R627). -/
def nodeUpIn (p : Nat) (f : List Nat) (s : State) : State :=
  if !msgForMe s p 7 f then s
  else
    let pl := msgPayload f
    let dsn := beNat (sliceOf pl 0 8)
    let id := beNat (sliceOf pl 8 2) % 4096
    let slow := bitAt (byteAt pl 10) 1
    let s1 := farNode id 2 (setMember id true s)
    if !isRoot s1 then s1
    else
      let s2 : State := { s1 with drl := { s1.drl with claimSeen := true } }
      match s2.drl.table.find? (fun e => e.2.1 == id && e.1 != dsn) with
      | some (other, _, _) => idConflict dsn other id s2
      | none => rootNet (tablePut dsn id slow s2)

/-- The payload of LINKLOSS and LINKUP for port `p` (R608). -/
def linkBody (s : State) (p : Nat) : List Nat :=
  [p, 0] ++ beBytes 2 (partnerOf s p).1 ++ beBytes 8 (partnerOf s p).2

/-- A LINKLOSS (R619, R621, R627). -/
def linkLossIn (p : Nat) (f : List Nat) (s : State) : State :=
  if !msgForMe s p 8 f then s
  else
    let id := beNat (sliceOf (msgPayload f) 2 2)
    let s1 := if id == 0xFFFF then s else farNode (id % 4096) 3 (setMember (id % 4096) false s)
    openRing s1

/-- The root notes a new link (R620): its node, port, and the port the report came by. -/
def noteLink (node port by_ : Nat) (s : State) : State :=
  let w := if s.drl.wait == 0 then 1 else s.drl.wait
  { s with drl := { s.drl with linkups := s.drl.linkups ++ [(node, port, by_)], wait := w } }

/-- A LINKUP (R620). -/
def linkUpIn (p : Nat) (f : List Nat) (s : State) : State :=
  if msgForMe s p 9 f && isRoot s then noteLink (msgSrc f) (byteAt (msgPayload f) 0 % 2) p s else s

/-- An OPEN (R620). -/
def openIn (p : Nat) (f : List Nat) (s : State) : State :=
  let q := byteAt (msgPayload f) 0
  if msgForMe s p 0x0A f && q < 2 && ringState s q == 2 then setRing q 3 s else s

/-- The root opens the links reported to it (R620): it blocks its port 1 first when its beacon has come back. -/
def openOut (s : State) : State :=
  if !isRoot s || s.drl.wait < 2 then s
  else
    let s1 := if s.drl.wait == 3 then closeRing s else s
    let s2 : State := { s1 with drl := { s1.drl with linkups := [], wait := 0 } }
    s.drl.linkups.foldl (fun t e =>
      if nodeId t == some e.1 then
        (if ringState t e.2.1 == 2 && !(e.2.1 == 1 && t.flag DRL_NET.RINGCLOSED) then setRing e.2.1 3 t else t)
      else
        let by_ := if ringState t e.2.2 == 3 then e.2.2 else 0
        if ringState t by_ == 3 then sendOn by_ (ringMsg t 0x0A false e.1 0 [e.2.1, 0, 0, 0]) t else t) s2

/-- 2 ms of HELLO on the blocked port `p` have passed (R620). -/
def linkUpOut (p : Nat) (s : State) : State :=
  if !ringPort s p || ringState s p != 2 || !mayOriginate s || (isRoot s && p == 1 && s.flag DRL_NET.RINGCLOSED) then s
  else if isRoot s then noteLink ((nodeId s).getD 0) p p s
  else sendForward (ringMsg s 9 true 0 0 (linkBody s p)) s

/-- A member hears no beacon for three intervals (R615). -/
def rootTimeout (s : State) : State := if nodeState s == 5 then tryClaim ((setNode 1 s).log 0x1004) else s

/-- HELLO on each up port (R604, R615). -/
def helloOut (s : State) : State :=
  if !mayOriginate s then s
  else
    [0, 1].foldl (fun t p =>
      if 2 ≤ ringState t p then
        sendOn p (ringMsg t 2 false 0 0 (dsnBytes t ++ beBytes 2 ((nodeId t).getD 0xFFFF) ++ [p, t.get DRL_PSTAT.RATE p])) t
      else t) s

/-- A member without an ID asks for one (R617). -/
def joinOut (s : State) : State :=
  if nodeState s == 5 && (nodeId s).isNone && s.get DRL_NET.PHASE == 2 then
    sendForward (ringMsg s 5 false (s.get DRL_NET.ROOTID) 0 (dsnBytes s)) s
  else s

/-- The node's NODE_UP (R617, R618). -/
def nodeUpOut (s : State) : State :=
  match nodeId s with
  | none => s
  | some id =>
    if s.drl.nodeUpDue && mayOriginate s then
      let s1 : State := { s with drl := { s.drl with nodeUpDue := false } }
      sendForward (ringMsg s1 7 true 0 0
        (assignBody s1.fuses.dsn id (b2n s1.drl.rejoin + 2 * b2n (nodeSlow s1)))) s1
    else s

/-- `DRL_ENUM_HOLD` has passed after DONE (R614). -/
def holdEnd (s : State) : State := tryClaim { s with drl := { s.drl with holdDone := true } }

/-- A write of `DRL_CFG` (R604, R615). -/
def drlCfgWrite (v : Nat) (s : State) : State :=
  let was := s.flag DRL_CFG.EN
  let s1 := codedWrite (DRL_CFG.reg.adr 0) v s
  if !was && s1.flag DRL_CFG.EN then
    let s2 := [0, 1].foldl (fun t p => if ringState t p == 1 then setRing p 3 t else t) s1
    tryClaim (setNode 1 s2)
  else if was && !s1.flag DRL_CFG.EN then
    let s2 := [0, 1].foldl (fun t p => if 2 ≤ ringState t p then setRing p 1 t else t) (leaveRoot 0 s1)
    { s2 with drl := { s2.drl with heard := false, linkups := [], wait := 0 } }
  else if ringMode s1 == 0 && isRoot s1 then leaveRoot 1 s1
  else tryClaim s1

/-! ### Events at presentation time (R622-R625) -/

/-- Fire `DRL_EVT[j]` once for every map entry that names one of these event numbers (R624, R625). -/
def presentNums (nums : List Nat) (flags : Nat) (s : State) : State :=
  (List.range 64).foldl (fun t j =>
    if t.flag DRL_EMAP.EN j && nums.contains (t.get DRL_EMAP.NUM j) then t.fireAt (0x2A0 + j) t.now flags else t) s

/-- An event that is late fires at once (R624). -/
def lateEvent (e : RingEvent) (s : State) : State :=
  let late := s.nowNs - e.pres
  let s1 := ((s.count DRL_LATECNT.COUNT).fire 0x2E3).logSec 0x1007 0 [e.num, e.src, late]
  presentNums [e.num] 1 (s1.set DRL_EVLAST0.LATE 1)

/-- Schedule an event (R624, R625): discarded when 256 are held, fired at once when less than 4 ns remain. -/
def scheduleEvent (e : RingEvent) (s : State) : State :=
  if 256 ≤ s.drl.sched.length then (s.count DRL_EVDROP.FULL).logRun 0x1008 0 [e.num]
  else
    let s1 := s.endRun 0x1008 0
    if s.now + 4 * subNs ≤ e.pres * subNs then { s1 with drl := { s1.drl with sched := s1.drl.sched ++ [e] } }
    else lateEvent e s1

/-- `DRL_EVLAST` shows a received event (R625). -/
def showEvent (e : RingEvent) (s : State) : State :=
  let o := shortForm e.occ
  let t := shortForm e.pres
  s.wrWords (DRL_EVLAST0.reg.adr 0)
    [2 ^ 31 + b2n e.unsync * 2 ^ 29 + e.num * 2 ^ 16 + e.src, o % 2 ^ 32, o / 2 ^ 32, t % 2 ^ 32, t / 2 ^ 32]

/-- An EVENT (R624, R625). -/
def eventIn (p : Nat) (f : List Nat) (s : State) : State :=
  if !msgForMe s p 0x0B f then s
  else
    let pl := msgPayload f
    let e : RingEvent := {
      num := beNat (sliceOf pl 0 2) % 1024
      src := msgSrc f
      occ := ringNs (sliceOf pl 4 10)
      pres := ringNs (sliceOf pl 14 10)
      unsync := bitAt (byteAt pl 2) 0 }
    scheduleEvent e (showEvent e (s.count DRL_EVRX.COUNT))

/-- The tick that holds T_PRES arrives (R624). -/
def eventPresent (s : State) : State :=
  let due (e : RingEvent) : Bool := decide (e.pres * subNs < s.now + 2 * subNs)
  let nums := (s.drl.sched.filter due).map (·.num)
  presentNums nums 0 { s with drl := { s.drl with sched := s.drl.sched.filter (fun e => !due e) } }

/-- Events that a forward step passes fire on the step tick with LATE (R625). -/
def stepEvents (s : State) : State :=
  let passed := s.drl.sched.filter (fun e => decide (e.pres * subNs < s.now))
  let s1 : State := { s with drl := { s.drl with sched := s.drl.sched.filter (fun e => !decide (e.pres * subNs < s.now)) } }
  presentNums (passed.map (·.num)) 1 s1

/-- Consumer `DRL_RAISE[k]` accepts an event whose tag latch holds the short-form time `t` (R622, R623). -/
def raiseEvent (k t : Nat) (s : State) : State :=
  if !s.flag DRL_RCFG0.EN k then s
  else
    let occ := fullNs s t
    let lead := if s.get DRL_RCFG1.LEAD k == 0 then s.get DRL_LEAD.NS else s.get DRL_RCFG1.LEAD k
    let e : RingEvent := {
      num := s.get DRL_RCFG0.NUM k
      src := (nodeId s).getD 0
      occ := occ
      pres := occ + lead
      unsync := s.unsync }
    match nodeId s with
    | none => scheduleEvent e ((s.count DRL_EVDROP.NOID).logRun 0x100D k [k])
    | some _ =>
      let s1 : State := { s with drl := { s.drl with events := (s.drl.events + 1) % 65536 } }
      let body := beBytes 2 e.num ++ [b2n e.unsync, 0] ++ ringTime e.occ ++ ringTime e.pres
      let s2 := if mayOriginate s1 then
          (sendForward (ringMsg s1 0x0B true 0 s1.drl.events body) s1).count DRL_EVTX.COUNT
        else s1
      scheduleEvent e (s2.endRun 0x100D k)

/-- A response of a remote node (R627). -/
def answerIn (p ty : Nat) (f : List Nat) (s : State) : State :=
  if !msgForMe s p ty f then s
  else
    let pl := msgPayload f
    let n := byteAt pl 4
    let ws := (List.range (min 2 n)).map (fun k => beNat (sliceOf pl (8 + 4 * k) 4))
    farAnswer (ty == 0x0F) (msgSrc f) (msgTag f) (byteAt pl 5) ws s

/-- The reset of `DRL` (R71, R618): the registers clear, the node loses its ID, and up ports repeat. `restart` also forgets
that the hold has passed and how often the node was root. -/
def drlReset (restart : Bool) (s : State) : State :=
  let had := (nodeId s).isSome
  let ups := [0, 1].map (fun p => (p, ringUp s p, s.get DRL_PSTAT.RATE p))
  let s1 := s.clearRegs 0xE00000 0xE80000
  let s2 : State := { s1 with drl :=
    if restart then {} else { holdDone := s.drl.holdDone, roots := s.drl.roots } }
  let s3 := if restart then s2
    else ups.foldl (fun t e =>
      if e.2.1 then setRing e.1 1 ((t.set DRL_PSTAT.LINK 1 e.1).set DRL_PSTAT.RATE e.2.2 e.1) else t) s2
  let s4 := if had then s3.fire 0x2E2 else s3
  if s.flag DRL_NODE.ROOT then reselect s4 else s4

/-! ### Rows -/

def execDrlPortUp (p : Fin 2) (s : State) : Out := .next (portUp p.val s)
def execDrlPortDown (p : Fin 2) (s : State) : Out := .next (portDown p.val s)
def execRateAlternate (p : Fin 2) (s : State) : Out := .next (rateAlternate p.val s)
def execDrlFrameForward (p : Fin 2) (f : List Byte) (res : Nat) (s : State) : Out :=
  .next (forwardFrame p.val res (natBytes f) s)
def execBeaconReceived (p : Fin 2) (f : List Byte) (s : State) : Out := .next (beaconIn p.val (natBytes f) s)
def execHelloReceived (p : Fin 2) (f : List Byte) (s : State) : Out := .next (helloIn p.val (natBytes f) s)
def execEnumReceived (p : Fin 2) (f : List Byte) (s : State) : Out := .next (enumIn p.val (natBytes f) s)
def execEnumEndReceived (p : Fin 2) (f : List Byte) (s : State) : Out := .next (enumEndIn p.val (natBytes f) s)
def execJoinReceived (p : Fin 2) (f : List Byte) (s : State) : Out := .next (joinIn p.val (natBytes f) s)
def execAssignReceived (p : Fin 2) (f : List Byte) (s : State) : Out := .next (assignIn p.val (natBytes f) s)
def execNodeUpReceived (p : Fin 2) (f : List Byte) (s : State) : Out := .next (nodeUpIn p.val (natBytes f) s)
def execLinklossReceived (p : Fin 2) (f : List Byte) (s : State) : Out := .next (linkLossIn p.val (natBytes f) s)
def execLinkupReceived (p : Fin 2) (f : List Byte) (s : State) : Out := .next (linkUpIn p.val (natBytes f) s)
def execOpenReceived (p : Fin 2) (f : List Byte) (s : State) : Out := .next (openIn p.val (natBytes f) s)
def execDrlEventReceived (p : Fin 2) (f : List Byte) (s : State) : Out := .next (eventIn p.val (natBytes f) s)
def execEventPresent (s : State) : Out := .next (eventPresent s)
def execRrspReceived (p : Fin 2) (f : List Byte) (s : State) : Out := .next (answerIn p.val 0x0D (natBytes f) s)
def execRwackReceived (p : Fin 2) (f : List Byte) (s : State) : Out := .next (answerIn p.val 0x0F (natBytes f) s)
def execRemoteRetry (id : Nat) (s : State) : Out := .next (farRetry id s)
def execBeaconInterval (s : State) : Out := .next (beaconOut s)
def execEnumHoldEnd (s : State) : Out := .next (holdEnd s)
def execClaimWindowEnd (s : State) : Out := .next (claimEnd s)
def execEnumTimeout (s : State) : Out := .next (enumTimeout s)
def execRootTimeout (s : State) : Out := .next (rootTimeout s)
def execHelloInterval (s : State) : Out := .next (helloOut s)
def execJoinInterval (s : State) : Out := .next (joinOut s)
def execNodeUpSend (s : State) : Out := .next (nodeUpOut s)
def execLinkupSend (p : Fin 2) (s : State) : Out := .next (linkUpOut p.val s)
def execOpenSend (s : State) : Out := .next (openOut s)
def execFarTimeout (id : Nat) (s : State) : Out := .next (farFail id 1 s)

end Sys2Proof.Machine
end

