-- ==== Sys2Proof/Machine/Chan.lean ====
section
/-! DEFINITION. What the position unit and the scheduler share of a channel: its hidden state, its counter and its
reference. -/

namespace Sys2Proof.Machine

/-- The hidden state of channel `n`. -/
def State.chan (s : State) (n : Nat) : PosCh := tget {} s.chans n

/-- `s` with the hidden state of channel `n` replaced. -/
def State.setChan (s : State) (n : Nat) (u : PosCh) : State := { s with chans := tput {} s.chans n u }

/-- The channels of the variant (R355). -/
def chanThere (s : State) (n : Nat) : Bool := n < 4 || (n < 8 && s.fuses.variant != .e)

/-- Channel `n` is enabled and its field die is reached (R388). -/
def chanOn (s : State) (n : Nat) : Bool := chanThere s n && s.flag POS_CFG.EN n && s.clk.fieldLink && s.clk.timeUp

/-- The counter wraps modulo 2^48 (R362). -/
def cntSpan : Nat := 2 ^ 48

/-- The counter of channel `n` as a signed number. -/
def chanCount (s : State) (n : Nat) : Int := signedOf 48 (s.chan n).cnt

/-- An instant in 1/8 ns of the time base. -/
def State.now8 (s : State) : Nat := s.now / 2 ^ 29

/-- Twice the exposure midpoint, in ns of network time, of a tag body (R375). -/
def midTwiceOf (s : State) (body : List Nat) : Nat :=
  2 * fullNs s (shortNs (leNat (sliceOf body 8 8))) + leNat (sliceOf body 16 4)

/-- `t` moved by `d`, not before 0. -/
def moveBy (d : Int) (t : Nat) : Nat := ((t : Int) + d).toNat

end Sys2Proof.Machine
end

