-- ==== Sys2Proof/Machine/Out.lean ====
section
/-! DEFINITION. Trigger, strobe and analog outputs (chapter 14). Edges are in 1/8 ns of `elapsed`, the clock that a step of
the time base does not move (R464). -/

namespace Sys2Proof.Machine

/-- The present in 1/8 ns of `elapsed`. -/
def State.phys8 (s : State) : Int := ((8 * s.elapsed : Nat) : Int)

/-- The hidden state of trigger output `n`. -/
def State.trigOut (s : State) (n : Nat) : TrigOut := tget {} s.out.trigs n
def State.setTrig (s : State) (n : Nat) (u : TrigOut) : State :=
  { s with out := { s.out with trigs := tput {} s.out.trigs n u } }

/-- The hidden state of strobe `k`. -/
def State.strobe (s : State) (k : Nat) : StrobeOut := tget {} s.out.strobes k
def State.setStrobe (s : State) (k : Nat) (u : StrobeOut) : State :=
  { s with out := { s.out with strobes := tput {} s.out.strobes k u } }

/-- The hidden state of analog output `a`. -/
def State.analog (s : State) (a : Nat) : AnalogOut := tget {} s.out.analog a
def State.setAnalog (s : State) (a : Nat) (u : AnalogOut) : State :=
  { s with out := { s.out with analog := tput {} s.out.analog a u } }

/-- The mode in effect holds the outputs safe (R110). -/
def outputsSafe (s : State) : Bool := modeNow s == 0 || modeNow s == 7

/-- The outputs that the variant has (R459). -/
def trigThere (s : State) (n : Nat) : Bool := n < 8 || s.fuses.variant != .e
def strobeThere (s : State) (k : Nat) : Bool := k < 4 || s.fuses.variant != .e
def analogThere (s : State) : Bool := s.fuses.variant != .e

/-! ### Trigger outputs (R460-R463) -/

/-- The moment at which an edge computed for `t` appears (R462): on the 2 ns grid while the loop is not locked. -/
def placeEdge (s : State) (t : Int) : Int := if s.flag OUT_CALSTAT.LOCK then t else t / 16 * 16

/-- Trigger output `n` accepts an event (R461, R463, R474). `held` says that the event was held. -/
def trigAccept (n : Nat) (lat : Latch) (held : Bool) (s : State) : State :=
  let u := s.trigOut n
  let due : Int := lat.inst + (s.get OUT_TDELAY.DELAY n : Nat)
  let late := held && decide (due < u.edge + 32)
  let lead := placeEdge s (if late then u.edge + 32 else due)
  let toggle := s.get OUT_TCFG.MODE n == 1
  let trail := if toggle then lead + 32 else lead + (max 32 (s.get OUT_TWIDTH.WIDTH n) : Nat)
  let s1 := if late then (s.count OUT_TCNT.LATE n).logSec 0x0C02 n [n] else s
  setBusy (0x48 + n) true (s1.setTrig n { u with pulse := some {
    lead := lead
    trail := trail
    toggle := toggle
    dead := outputsSafe s } })

/-- The trailing edge of trigger output `n` has passed the ball (R463). -/
def trigEnd (n : Nat) (s : State) : State :=
  let u := s.trigOut n
  match u.pulse with
  | none => s
  | some p =>
    if s.phys8 + 16 < p.trail then s
    else
      let last := if p.toggle then p.lead else p.trail
      let s1 := setBusy (0x48 + n) false (s.setTrig n {
        pulse := none
        edge := last
        level := if p.toggle && !p.dead then !u.level else u.level })
      if p.dead then s1 else s1.emit (.outPulse n p.lead last)

/-- A pulse that is on its pin at present. -/
def pulseOn (s : State) (p : OutPulse) : Bool := !p.dead && decide (p.lead ≤ s.phys8 ∧ s.phys8 < p.trail)

/-- The level of trigger output `n` before polarity, none for high impedance (R461, R474, R477). -/
def trigActive (s : State) (n : Nat) : Option Bool :=
  let u := s.trigOut n
  let on := match u.pulse with | some p => pulseOn s p | none => false
  let edge := match u.pulse with | some p => p.toggle | none => false
  if !s.flag OUT_TCFG.EN n then some false
  else if outputsSafe s && !(on && !edge) then
    match s.get OUT_TCFG.SAFE n with
    | 1 => some true
    | 2 => none
    | _ => some false
  else
    match asyncLevel s (0x48 + n) with
    | some b => some b
    | none => some (if s.get OUT_TCFG.MODE n == 1 then u.level != (on && edge) else on)

/-- The level at the pin of trigger output `n`; a pin at high impedance reads an open level (log entry 5). -/
def trigPin (s : State) (n : Nat) : Bool :=
  match trigActive s n with
  | some b => b != s.flag OUT_TCFG.POL n
  | none => Sys2Proof.Config.floatLevel n

/-! ### Strobes and their guard (R465-R467) -/

/-- Strobe `k` drives its active level (R465-R467, R474, R477). -/
def strobeActive (s : State) (k : Nat) : Bool :=
  let on := match (s.strobe k).pulse with | some p => pulseOn s p && p.cut.isNone | none => false
  s.flag OUT_SCFG.EN k && !s.flag OUT_SSTAT.TRIP k && s.clk.fieldLink &&
    (if outputsSafe s then on else match asyncLevel s (0x58 + k) with | some b => b | none => on)

/-- The level at the pin of strobe `k`. -/
def strobePin (s : State) (k : Nat) : Bool := strobeActive s k != s.flag OUT_SCFG.POL k

/-- The span of time, in ns since the guard was seen last, in which strobe `k` was active: its start and its end, both from
that moment on. -/
def activeSpan (s : State) (k : Nat) : Nat × Nat :=
  let u := s.strobe k
  let len := s.elapsed - u.seen
  if !s.flag OUT_SCFG.EN k || s.flag OUT_SSTAT.TRIP k || !s.clk.fieldLink then (0, 0)
  else match asyncLevel s (0x58 + k) with
    | some b => if b && !outputsSafe s then (0, len) else (0, 0)
    | none =>
      match u.pulse with
      | some p =>
        if p.dead || p.cut.isSome then (0, 0)
        else
          let cutAt := fun t : Int => min len ((t / 8 - (u.seen : Nat)).toNat)
          (cutAt p.lead, cutAt p.trail)
      | none => (0, 0)

/-- The guard level of strobe `k` in 1/65,536 ns (R466). -/
def guardLevel (s : State) (k : Nat) : Nat :=
  let u := s.strobe k
  let r := s.get OUT_SRATE.RATE k
  let (a, b) := activeSpan s k
  if s.get OUT_SCAP.CAP k == 0 then 0
  else (u.level - r * a) + (b - a) * (65536 - r) - r * (s.elapsed - u.seen - max a b)

/-- The guard of strobe `k` is seen at present. -/
def seeGuard (k : Nat) (s : State) : State :=
  s.setStrobe k { s.strobe k with level := guardLevel s k, seen := s.elapsed }

/-- See every guard, before anything changes what they depend on. -/
def seeGuards (s : State) : State := (List.range 8).foldl (fun t k => seeGuard k t) s

/-- Strobe `k` accepts an event (R465, R474). -/
def strobeAccept (k : Nat) (lat : Latch) (held : Bool) (s0 : State) : State :=
  let s := seeGuard k s0
  let u := s.strobe k
  let due : Int := lat.inst + (8 * s.get OUT_SDELAY.NS k : Nat)
  let lead := if held && decide (due < u.edge + 32) then u.edge + 32 else due
  let width := 8 * max 40 ((s.get OUT_SWIDTH.NS k + 1) / 2 * 2)
  setBusy (0x58 + k) true (s.setStrobe k { u with pulse := some {
    lead := lead
    trail := lead + (width : Nat)
    dead := outputsSafe s || !s.clk.fieldLink } })

/-- A pulse of strobe `k` whose leading edge fell due under TRIP is counted as suppressed (R467). -/
def judgeSuppressed (k : Nat) (s : State) : State :=
  let u := s.strobe k
  match u.pulse with
  | some p =>
    if s.flag OUT_SSTAT.TRIP k && !p.dead && p.cut.isNone && decide (p.lead ≤ s.phys8) then
      (s.setStrobe k { u with pulse := some { p with dead := true } }).count OUT_SCNT.SUPPRESSED k
    else s
  | none => s

/-- The trailing edge of strobe `k` (R465). -/
def strobeEnd (k : Nat) (s0 : State) : State :=
  match (s0.strobe k).pulse with
  | none => s0
  | some p0 =>
    if s0.phys8 + 16 < p0.trail then s0
    else
      let s := judgeSuppressed k (seeGuard k s0)
      let u := s.strobe k
      let p := u.pulse.getD p0
      let s1 := setBusy (0x58 + k) false (s.setStrobe k { u with pulse := none, edge := p.trail })
      if p.dead then s1 else s1.emit (.outPulse (16 + k) p.lead (p.cut.getD p.trail))

/-- The guard level of strobe `k` reaches CAP (R467). -/
def guardTrip (k : Nat) (s0 : State) : State :=
  let s := seeGuard k s0
  let u := s.strobe k
  let cap := s.get OUT_SCAP.CAP k
  if cap == 0 || s.flag OUT_SSTAT.TRIP k || u.level < cap * 65536 then s
  else
    let onNs := match u.pulse with
      | some p => if pulseOn s p && p.cut.isNone then ((s.phys8 - p.lead) / 8).toNat else 0
      | none => 0
    let cutPulse := u.pulse.map (fun p => if pulseOn s p && p.cut.isNone then { p with cut := some s.phys8 } else p)
    let s1 := ((s.setStrobe k { u with pulse := cutPulse }).set OUT_SSTAT.TRIP 1 k).count OUT_SCNT.TRIPS k
    (s1.fire (0x1E0 + k)).log 0x0C01 [k, onNs / 1000]

/-- The guard level of strobe `k` falls to CAP / 2 (R467). -/
def guardClear (k : Nat) (s0 : State) : State :=
  let s := seeGuard k s0
  if s.flag OUT_SSTAT.TRIP k && 2 * (s.strobe k).level ≤ s.get OUT_SCAP.CAP k * 65536 then
    (judgeSuppressed k s).set OUT_SSTAT.TRIP 0 k
  else s

/-! ### Analog outputs (R468-R475) -/

/-- The state of analog output `a`: 0 CLAMPED, 1 HOLDOFF, 2 CONNECT, 3 DRIVING. -/
def analogState (s : State) (a : Nat) : Nat := s.get OUT_ASTAT.STATE a

/-- The conditions for CLAMPED (R469, R470, R475). -/
def mustClamp (s : State) (a : Nat) : Bool :=
  s.flag OUT_AENA.CLAMPED || !bitAt (s.get OUT_AENA.EN) a || !s.clk.fieldLink ||
    (outputsSafe s && (s.get OUT_ACFG.SAFE a == 0 || s.get OUT_ACFG.SAFE a == 3))

/-- Analog output `a` enters CONNECT: the converter takes the value to drive (R469, R471). -/
def analogConnect (a : Nat) (s : State) : State :=
  (s.set OUT_ASTAT.STATE 2 a).set OUT_AOUT.CODE (s.get OUT_AVAL.CODE a) a

/-- The switch of analog output `a` opens; `st` is its new state (R469). -/
def analogOpen (a st : Nat) (s : State) : State :=
  let s1 := s.set OUT_ASTAT.STATE st a
  if analogState s a == 3 then s1.setAnalog a { s1.analog a with discharge := true } else s1

/-- Analog output `a` follows its conditions (R469). -/
def analogSettle (a : Nat) (s : State) : State :=
  if !analogThere s then s
  else if mustClamp s a then (if analogState s a == 0 then s else analogOpen a 0 s)
  else if analogState s a == 0 then analogConnect a s
  else s

/-- All analog outputs follow their conditions. -/
def analogAll (s : State) : State := (List.range 4).foldl (fun t a => analogSettle a t) s

/-- The clamp latch is set (R469, R470). -/
def clampAll (s : State) : State := analogAll (s.set OUT_AENA.CLAMPED 1)

/-- A write of `OUT_AENA` (R470). -/
def aenaWrite (v : Nat) (s : State) : State :=
  if analogThere s then analogAll ((s.set OUT_AENA.EN v).set OUT_AENA.CLAMPED 0) else s

/-- A written `OUT_AVAL` (R472). -/
def avalWrite (a v : Nat) (s : State) : State :=
  if !analogThere s then s
  else
    let s1 := s.set OUT_AVAL.CODE v a
    if s1.flag OUT_ACFG.UPD a || analogState s1 a == 1 then s1 else s1.set OUT_AOUT.CODE (s1.get OUT_AVAL.CODE a) a

/-- The factory trim of analog output `a` for range `r`: gain above offset (R479). -/
def factoryCal (s : State) (a r : Nat) : Nat := s.fuses.outCal.getD (5 * a + r) 0

/-- The derived `OUT_ACAL[a]` for the range in use (R479). -/
def deriveCal (a : Nat) (s : State) : State := s.set OUT_ACAL.reg (factoryCal s a (s.get OUT_ARNG.RANGE a)) a

/-- A write of `OUT_ARNG[a]` (R468, R469, R471). -/
def arngWrite (a v : Nat) (s : State) : State :=
  let r := bitsOf v 18 16
  if !analogThere s then s
  else if 5 ≤ r then s.log 0x0C04 [a, r]
  else if r == s.get OUT_ARNG.RANGE a then avalWrite a v s
  else
    let s1 := (s.set OUT_ARNG.RANGE r a).set OUT_AVAL.CODE v a
    let s2 := if s1.flag OUT_LEVEL.EXPERT then s1 else deriveCal a s1
    if analogState s2 a == 0 then s2 else analogOpen a 1 s2

/-- An event at `OUT_AUPD[a]` (R472). -/
def analogUpdate (a : Nat) (s : State) : State :=
  if analogState s a == 3 && s.flag OUT_ACFG.UPD a then s.set OUT_AOUT.CODE (s.get OUT_AVAL.CODE a) a else s

/-- HOLDOFF has lasted 40 µs (R469). -/
def holdoffEnd (a : Nat) (s : State) : State := if analogState s a == 1 then analogConnect a s else s

/-- CONNECT has lasted 10 µs (R469). -/
def connectEnd (a : Nat) (s : State) : State := if analogState s a == 2 then s.set OUT_ASTAT.STATE 3 a else s

/-- The discharge path of output `a` opens again (R469). -/
def dischargeEnd (a : Nat) (s : State) : State := s.setAnalog a { s.analog a with discharge := false }

/-- The field die reports a fault of output `a` (R473): overload, or loss of compliance in the current range. -/
def analogFault (a : Nat) (compliance : Bool) (s : State) : State :=
  if !analogThere s || (compliance && s.get OUT_ARNG.RANGE a != 4) then s
  else if compliance then (s.set OUT_ASTAT.COMPL 1 a).log 0x0C05 [a, 2]
  else (s.set OUT_ASTAT.OVLD 1 a).log 0x0C05 [a, 1]

/-- The fault of output `a` has been absent for 1 ms (R473). -/
def analogFaultClear (a : Nat) (compliance : Bool) (s : State) : State :=
  if compliance then s.set OUT_ASTAT.COMPL 0 a else s.set OUT_ASTAT.OVLD 0 a

/-- What analog output `a` puts on its pin (R468, R469, R475, R679): none while its switch is open or the chain owns the pins, else the range and the code
that the converter drives. -/
def analogPin (s : State) (a : Nat) : Option (Nat × Nat) :=
  if analogState s a != 3 || tapOwns s then none
  else
    let code := if !outputsSafe s then s.get OUT_AOUT.CODE a
      else if s.get OUT_ACFG.SAFE a == 1 then (s.analog a).held else s.get OUT_ASAFE.CODE a
    some (s.get OUT_ARNG.RANGE a, code)

/-! ### Safe and live (R474-R476) -/

/-- A pulse that has not reached the ball is cancelled. -/
def cancelPulse (s : State) (p : OutPulse) : Bool := !p.dead && decide (s.phys8 < p.lead)

/-- The outputs become safe (R474, R475): `s` has the mode before the change, `m` is the mode that takes effect. -/
def changeOutputs (m : Nat) (s0 : State) : State :=
  let s := seeGuards s0
  let was := outputsSafe s
  let safe := m == 0 || m == 7
  let s1 := if safe && !was then
      let a := (List.range 16).foldl (fun t n =>
        let u := t.trigOut n
        match u.pulse with
        | some p => if cancelPulse t p then
            (t.setTrig n { u with pulse := some { p with dead := true } }).count OUT_TCNT.CANCEL n else t
        | none => t) s
      let b := (List.range 8).foldl (fun t k =>
        let u := t.strobe k
        match u.pulse with
        | some p => if cancelPulse t p then
            (t.setStrobe k { u with pulse := some { p with dead := true } }).count OUT_SCNT.CANCEL k else t
        | none => t) a
      (List.range 4).foldl (fun t a => t.setAnalog a { t.analog a with held := t.get OUT_AOUT.CODE a }) b
    else s
  analogAll (s1.set GLB_MODESTAT.CUR m)

/-- The field link is lost (R28, R476): strobes go inactive and the analog outputs are clamped. -/
def outLinkLoss (s0 : State) : State :=
  let s := seeGuards s0
  let s1 := (List.range 8).foldl (fun t k =>
    let u := t.strobe k
    t.setStrobe k { u with pulse := u.pulse.map (fun p => { p with dead := true }) }) s
  (List.range 4).foldl (fun t a => t.set OUT_ASTAT.STATE 0 a) (s1.set OUT_AENA.CLAMPED 1)

/-- The derived guard of strobe `k` (R479). -/
def deriveStrobe (k : Nat) (s : State) : State :=
  let d := if s.get OUT_SCFG.DUTY k == 0 then 100 else min 100 (s.get OUT_SCFG.DUTY k)
  let cap := 1000 * s.get OUT_SMAXON.MAXON k * (100 - d) / 100
  (s.set OUT_SRATE.RATE ((65536 * d + 50) / 100) k).set OUT_SCAP.CAP
    (if cap < 2 ^ 32 then cap else (Sys2Proof.Config.outside32 cap).toNat) k

/-- Every derived field of `OUT` (R479). -/
def deriveOut (s : State) : State :=
  let s1 := (List.range 16).foldl (fun t n =>
    if trigThere t n then t.set OUT_TTRIM.TRIM (t.fuses.outTrim.getD n 0) n else t) (seeGuards s)
  let s2 := (List.range 8).foldl (fun t k => if strobeThere t k then deriveStrobe k t else t) s1
  if analogThere s2 then (List.range 4).foldl (fun t a => deriveCal a t) s2 else s2

/-! ### Rows that are no register write -/

def execTrigPulseEnd (n : Fin 16) (s : State) : Out := .next (trigEnd n.val s)
def execStrobePulseEnd (k : Fin 8) (s : State) : Out := .next (strobeEnd k.val s)
def execGuardTrip (k : Fin 8) (s : State) : Out := .next (guardTrip k.val s)
def execGuardClear (k : Fin 8) (s : State) : Out := .next (guardClear k.val s)
def execDllUnlock (s : State) : Out := .next ((s.set OUT_CALSTAT.LOCK 0).log 0x0C03)
def execDllLock (s : State) : Out := .next (if s.clk.timeUp then s.set OUT_CALSTAT.LOCK 1 else s)
def execHoldoffEnd (a : Fin 4) (s : State) : Out := .next (holdoffEnd a.val s)
def execConnectEnd (a : Fin 4) (s : State) : Out := .next (connectEnd a.val s)
def execDischargeEnd (a : Fin 4) (s : State) : Out := .next (dischargeEnd a.val s)
def execAoutFault (a : Fin 4) (compliance : Bool) (s : State) : Out := .next (analogFault a.val compliance s)
def execAoutFaultClear (a : Fin 4) (compliance : Bool) (s : State) : Out := .next (analogFaultClear a.val compliance s)

end Sys2Proof.Machine
end

