-- ==== Sys2Proof/Machine/Par.lean ====
section
/-! DEFINITION. Parallel sensor-head ports (chapter 9): the port state machine, lines and sync loss, exposure and trigger
fields. -/

namespace Sys2Proof.Machine

/-- The hidden state of port `n`. -/
def State.port (s : State) (n : Nat) : PortSt := tget {} s.ports n

/-- `s` with the hidden state of port `n` replaced. -/
def State.setPort (s : State) (n : Nat) (u : PortSt) : State := { s with ports := tput {} s.ports n u }

/-- Port 1 is absent on the LVG-16E (R297). -/
def portExists (s : State) (n : Nat) : Bool := n == 0 || s.fuses.variant != .e

/-- The state of port `n` (R305): 0 OFF, 1 SEEK, 2 FRAME, 3 GAP. -/
def portState (s : State) (n : Nat) : Nat := s.get PAR_STAT.STATE n

/-- The sync mode of port `n` (R300): 0 DE, 1 WINDOW, 2 EMBEDDED; 3 acts as 0. -/
def syncMode (s : State) (n : Nat) : Nat := if s.get PAR_CFG.SYNC n == 3 then 0 else s.get PAR_CFG.SYNC n

/-- The number of data bits of port `n` (R299); code 7 acts as 0. -/
def portBits (s : State) (n : Nat) : Nat :=
  match s.get PAR_CFG.BITS n with
  | 1 => 10 | 2 => 12 | 3 => 14 | 4 => 16 | 5 => 20 | 6 => 24 | _ => 8

/-- The configuration of port `n` is one that it accepts (R301). -/
def portValid (s : State) (n : Nat) : Bool := syncMode s n != 2 || portBits s n == 8 || portBits s n == 16

/-- The port reset of `CLK_RST.PAR` (R70, R305). -/
def portHeld (s : State) (n : Nat) : Bool := bitAt (s.get CLK_RST.PAR) n

/-! ### Pixels (R299, R304, R326) -/

/-- The container bytes of a pixel word `w` of `b` bits with format code `fmt` (R324, R326). Codes that R326 gives no form
from a port take the fewest whole bytes (log entry 33). -/
def container (fmt b w : Nat) : List Nat :=
  match fmt with
  | 0x01 => [w % 256]
  | 0x04 => leBytes 2 (w % 2 ^ 10)
  | 0x05 => leBytes 2 (w % 2 ^ 12)
  | 0x06 => leBytes 2 (w % 2 ^ 14)
  | 0x07 => leBytes 2 w
  | 0x10 => [w / 256 % 256, w % 256]
  | 0x11 => leBytes 2 (w / 1024 % 1024 * 64) ++ leBytes 2 (w % 1024 * 64)
  | 0x20 => [w / 65536 % 256, w / 256 % 256, w % 256]
  | _ => leBytes (ceilDiv b 8) w

/-- The bytes that one pixel of port `n` takes. -/
def pixelBytes (s : State) (n : Nat) : Nat := (container (s.get PAR_CFG.FORMAT n) (portBits s n) 0).length

/-- Pairs of samples Cb Y Cr Y as pixels with Y above C (R304). -/
def pairPixels (xs : List Nat) : List Nat :=
  match xs with
  | c :: y :: t => (y % 256 * 256 + c % 256) :: pairPixels t
  | _ => []

/-- The pixels of a line from its samples, with `total` lines before it in the frame (R299, R300, R304). -/
def linePixels (s : State) (n total : Nat) (samples : List Nat) : List Nat :=
  let b := portBits s n
  let xs := samples.map (fun w => w % 2 ^ b)
  match syncMode s n with
  | 1 => if total < s.get PAR_WIN.VSTART n then [] else (xs.drop (s.get PAR_WIN.HSTART n)).take (s.get PAR_SIZE.WIDTH n)
  | 2 =>
    if b == 8 then pairPixels xs
    else if s.flag PAR_CFG.SWAPYC n then xs.map (fun w => w % 256 * 256 + w / 256) else xs
  | _ => xs

/-- The line with `total` lines before it holds active pixels (R300). -/
def lineActive (s : State) (n total : Nat) (marked : Bool) : Bool :=
  if syncMode s n == 1 then
    s.get PAR_WIN.VSTART n ≤ total && total < s.get PAR_WIN.VSTART n + s.get PAR_SIZE.HEIGHT n
  else marked

/-- The XY bytes of BT.656 with right parity (R302, R303). -/
def xyCodes : List Nat := [0x80, 0x9D, 0xAB, 0xB6, 0xC7, 0xDA, 0xEC, 0xF1]

/-- A timing code that R303 corrects: one bit away from a right one. -/
def xyFixed (b : Nat) : Bool := !xyCodes.contains b && 128 ≤ b && xyCodes.any (fun c => bitDiff c b == 1)

/-- A timing code that R303 cannot correct. -/
def xyBad (b : Nat) : Bool := !xyCodes.contains b && !xyFixed b

/-! ### Derived fields (R320) -/

/-- Re-derive the RWX fields of port `n` at the basic level; `ns` is the line period of the last complete frame, 0 when
there has been none. -/
def derivePort (n ns : Nat) (s : State) : State :=
  if expertOn s PAR_LEVEL.EXPERT then s
  else
    let s1 := (s.set PAR_SYNCTH.LINETOL (if syncMode s n == 1 then 2 else 0) n).set PAR_SYNCTH.BADLINES 4 n
    let s2 := s1.set PAR_SYNCTH.LINETO (if ns == 0 then 1000 else min 0xFFFF (ceilDiv (2 * ns) 1000)) n
    s2.set PAR_IDLY.reg 0 n

/-! ### Frames -/

/-- The bytes of the woven frame of port `n`, in output order; a line not received is filled (R304). -/
def wovenBytes (s : State) (n : Nat) : List Nat :=
  let rows := (s.port n).rows
  let high := rows.foldl (fun m e => max m (e.1 + 1)) 0
  let blank := List.replicate (s.get PAR_SIZE.WIDTH n * pixelBytes s n) (s.get PAR_STREAM.FILL n)
  (List.range high).flatMap (fun y => match rows.find? (fun e => e.1 == y) with | some e => e.2 | none => blank)

/-- The port closes its item with the flag bits `extra` (R307-R309). -/
def closePortItem (n extra : Nat) (s : State) : State :=
  let u := s.port n
  let lb := s.get PAR_SIZE.WIDTH n * pixelBytes s n
  let s0 := if u.rows == [] then s else feedBytes u.feed lb (wovenBytes s n) s
  let s1 := s0.setPort n { u with feed := 0, rows := [] }
  match feedOf s1 u.feed with
  | none => s1
  | some f =>
    let short := s.get PAR_SIZE.HEIGHT n - s.get PAR_STAT.LINE n
    let damage := min f.damage 0xFFFF
    let missing := max short (countMissing f lb)
    let bad := damage != 0 || missing != 0
    let s2 := (closeFeed f.id damage missing (extra ||| (if bad then 2 else 0)) s1).fire (0x112 + n)
    if bad then s2.logSec 0x0703 n [n, damage, missing] else s2

/-- The port closes the frame in FRAME (R305, R308, R320): measurements, item and derived fields. -/
def closePortFrame (n : Nat) (s : State) : State :=
  let lines := s.get PAR_STAT.LINE n
  let whole := s.get PAR_SIZE.HEIGHT n ≤ lines
  let s1 := s.set PAR_MEAS1.VACT lines n
  let s2 := if (s1.port n).feed == 0 then s1 else closePortItem n 0 s1
  if whole then derivePort n (s2.port n).lineNs s2 else s2

/-- The frame in FRAME of port `n` is ended early (R317): cause 1 sync loss, 2 drain, 3 reset. -/
def truncatePar (n cause : Nat) (s : State) : State :=
  if (s.port n).feed == 0 then s else (closePortItem n 3 s).log 0x0702 [n, cause]

/-- Port `n` enters SEEK (R305). -/
def enterSeek (n : Nat) (s : State) : State :=
  (s.setPort n { s.port n with seekAt := s.elapsed + 1, badRun := 0, lineAt := none }).set PAR_STAT.STATE 1 n

/-- Port `n` declares sync loss (R306). -/
def syncLoss (n cause : Nat) (s : State) : State :=
  let s1 := ((truncatePar n 1 s).fire (0x114 + n)).count PAR_SYNCLOSS.COUNT n
  let s2 := s1.setPort n { s1.port n with recover := true }
  enterSeek n (s2.log 0x0701 [n, cause])

/-- Port `n` goes to OFF; a frame in FRAME ends with cause 3 (R305, R317). -/
def portOff (n : Nat) (s : State) : State :=
  let s1 := truncatePar n 3 s
  let u := s1.port n
  (s1.setPort n { u with startAt := none, total := 0, recover := false, lineAt := none }).set PAR_STAT.STATE 0 n

/-- Port `n` starts, or starts again, from its configuration (R301, R305): SEEK when it is released, enabled and valid. -/
def portStart (n : Nat) (s : State) : State :=
  let s1 := truncatePar n 3 s
  if portHeld s n || !s.flag PAR_STREAM.EN n then portOff n s1
  else if !portValid s n then (portOff n s1).log 0x0709 [n]
  else enterSeek n s1

/-- Whether port `n` may open an item (R311), as `mayOpen` for its own trigger consumer. -/
def portMayOpen (s : State) (n st : Nat) : Bool :=
  streamOpen s st ||
    ((s.get GLB_MODESTAT.PHASE == 1 || s.get GLB_MODESTAT.PHASE == 2) && streamActive s st && conBusy s (0x40 + n) &&
      classAllowed (modeNow s) (streamClass s st) && !streamHeld s st && !s.glb.closed.contains st)

/-- An instant of the time base less `d` ns, in short form. -/
def shortBefore (ns d : Nat) : Nat := shortForm (ns + 2 ^ 34 * 1000000000 - d)

/-- The exposure fields of a frame that starts now (R315, R316): `T_EXP`, `EXP_NS`, and the state once the pulse is taken. -/
def exposure (n : Nat) (s : State) : (Nat × Nat) × State :=
  let fixed := (shortBefore s.nowNs (s.get PAR_EXPOFS.NS n), s.get PAR_EXPDUR.NS n)
  if s.flag PAR_CFG.EXPSRC n then
    match (s.port n).pulse with
    | some (a, b) => ((shortForm a, b - a), s.setPort n { s.port n with pulse := none })
    | none => (fixed, s.count PAR_UNTRIG.EXPMISS n)
  else (fixed, s)

/-- The stored trigger of port `n` is matched by a frame start at or after its time (R313). -/
def matchTrigger (n : Nat) (s : State) : Option (Nat × Nat) × State :=
  match (s.port n).trig with
  | some (t, fl) =>
    if shortNs t ≤ shortNs (shortForm s.nowNs) then
      (some (t, fl), setBusy (0x40 + n) false (s.setPort n { s.port n with trig := none }))
    else (none, s)
  | none => (none, s)

/-- A frame start opens an item when the stream may deliver and its trigger rule is met (R311-R315). -/
def openPort (n : Nat) (s : State) : State :=
  let st := s.get PAR_STREAM.STREAM n
  let may := portMayOpen s n st
  let free := streamClass s st == 0
  let (hit, s1) := matchTrigger n s
  let ((tExp, expNs), s2) := exposure n s1
  if !may then s2
  else if !free && hit.isNone then (s2.count PAR_UNTRIG.UNTRIG n).logSec 0x0707 n [n]
  else
    let own := if free then none else hit
    let (id, s3) := openFeed {
      stream := st
      src := 1
      ix := n
      format := s.get PAR_CFG.FORMAT n
      width := s.get PAR_SIZE.WIDTH n
      height := s.get PAR_SIZE.HEIGHT n
      tTrig := match own with | some t => t.1 | none => tExp
      tExp := tExp
      expNs := expNs
      flags := match own with | some t => latchFlags t.2 | none => 0
      started := true } s2
    (s3.setPort n { s3.port n with feed := id }).fire (0x110 + n)

/-- A frame start on port `n` (R305, R308, R318). -/
def parFrameStart (n : Nat) (s : State) : State :=
  let st := portState s n
  let u := s.port n
  if st == 0 || (st == 1 && u.seekAt == s.elapsed + 1) then s
  else
    let s1 := if st == 2 then closePortFrame n s else s
    let s2 := match (s1.port n).startAt with
      | some t => (s1.set PAR_MEAS2.FRAMEPER (min (s.elapsed - t) 0xFFFFFFFF) n).set PAR_MEAS1.VTOTAL (min u.total 0xFFFF) n
      | none => s1
    let s3 := if u.recover then s2.log 0x0708 [n] else s2
    let s4 := s3.setPort n { s3.port n with
      startAt := some s.elapsed
      total := 0
      badRun := 0
      firstPeriod := none
      lineAt := none
      recover := false
      rows := [] }
    openPort n ((s4.set PAR_STAT.STATE 2 n).set PAR_STAT.LINE 0 n)

/-! ### Lines (R303, R306, R307) -/

/-- The difference of two numbers. -/
def absDiff (a b : Nat) : Nat := (a - b) + (b - a)

/-- The bytes of a line of `pix` at its full width: padded with the fill byte, or cut (R307). -/
def lineBytes (s : State) (n : Nat) (pix : List Nat) : List Nat :=
  let w := s.get PAR_SIZE.WIDTH n
  (pix.take w).flatMap (container (s.get PAR_CFG.FORMAT n) (portBits s n)) ++
    List.replicate ((w - pix.length) * pixelBytes s n) (s.get PAR_STREAM.FILL n)

/-- The bytes of a line join the item of port `n`, in place in a woven frame (R304), with its damage. -/
def storeLine (n : Nat) (field damaged : Bool) (bs : List Nat) (s : State) : State :=
  let u := s.port n
  match feedOf s u.feed with
  | none => s.count PAR_DISCARD.COUNT n
  | some f =>
    let s1 := s.setFeed { f with damage := f.damage + b2n damaged }
    if syncMode s n == 2 && s.flag PAR_CFG.WEAVE n then
      let k := (u.rows.filter (fun e => e.1 % 2 == b2n field)).length
      s1.setPort n { u with rows := u.rows ++ [(2 * k + b2n field, bs)] }
    else feedBytes f.id (s.get PAR_SIZE.WIDTH n * pixelBytes s n) bs s1

/-- An active line ends in FRAME. `pix` are its pixels, `bad` says that a code of it could not be corrected. -/
def frameLine (n clocks : Nat) (field bad : Bool) (pix : List Nat) (s : State) : State :=
  let u := s.port n
  let w := s.get PAR_SIZE.WIDTH n
  let off := if syncMode s n == 1 then absDiff clocks (u.firstPeriod.getD clocks) else absDiff pix.length w
  let tol := s.get PAR_SYNCTH.LINETOL n
  let damaged := bad || (if syncMode s n == 1 then tol < off else pix.length != w)
  let run := if tol < off then u.badRun + 1 else 0
  let line := s.get PAR_STAT.LINE n + 1
  let s1 := (s.set PAR_MEAS0.HACT (min pix.length 0xFFFF) n).set PAR_STAT.LINE line n
  let s2 := storeLine n field damaged (lineBytes s n pix) (s1.setPort n { u with badRun := run })
  if max 1 (s.get PAR_SYNCTH.BADLINES n) ≤ run then syncLoss n 3 s2
  else if s.get PAR_SIZE.HEIGHT n ≤ line then (closePortFrame n s2).set PAR_STAT.STATE 3 n
  else s2

/-- A line ends on port `n`. -/
def parLineEnd (n : Nat) (samples : List Nat) (clocks : Nat) (marked field : Bool) (codes : List Nat) (noEav : Bool)
    (s : State) : State :=
  let st := portState s n
  let u := s.port n
  if st == 0 then s
  else
    let emb := syncMode s n == 2
    let fixed := if emb then (codes.filter xyFixed).length else 0
    let wrong := if emb then (codes.filter xyBad).length else 0
    let s1 := (s.count PAR_CODE.FIXED n 0 fixed).count PAR_CODE.BAD n 0 wrong
    let active := lineActive s n u.total marked
    let s2 := (s1.set PAR_MEAS0.HTOTAL (min clocks 0xFFFF) n).setPort n { u with
      total := u.total + 1
      firstPeriod := some (u.firstPeriod.getD clocks)
      lineNs := match u.lineAt with | some t => s.elapsed - t | none => u.lineNs
      lineAt := some s.elapsed }
    let s3 := if !active then s2
      else match st with
        | 1 => s2.count PAR_DISCARD.COUNT n
        | 2 => frameLine n clocks field (wrong != 0) (linePixels s n u.total samples) s2
        | _ => s2.count PAR_XLINES.COUNT n
    if emb && portState s3 n == 2 && (wrong != 0 || noEav) then syncLoss n 4 s3 else s3

/-! ### The stream register (R310, R312) and basic writes -/

/-- `PAR_STREAM.EN` = 1 for stream `st` on port `n` conflicts with another source (R310). -/
def portConflict (s : State) (n st : Nat) : Bool :=
  s.flag CLP_STREAM0.EN st || (s.flag PAR_STREAM.EN (1 - n) && s.get PAR_STREAM.STREAM (1 - n) == st)

/-- A write of `PAR_STREAM` (R310, R312), which starts the port anew. -/
def parStreamWrite (n v : Nat) (s : State) : State :=
  let st := bitsOf v 29 24
  let refuse := bitAt v 31 && portConflict s n st
  let on := bitAt v 31 && !refuse
  let wasOn := s.flag PAR_STREAM.EN n
  let old := s.get PAR_STREAM.STREAM n
  let s0 := truncatePar n 3 s
  let s1 := ((s0.set PAR_STREAM.STREAM st n).set PAR_STREAM.FILL v n).set PAR_STREAM.EN (b2n on) n
  let s2 := if refuse then s1.log 0x0704 [st] else s1
  let s3 := if wasOn && (!on || old != st) then streamToggled old true false s2 else s2
  let s4 := if on && (!wasOn || old != st) then streamToggled st false true s3 else s3
  portStart n s4

/-- What a write of any other basic field of port `n` does while the port is not in OFF, or lets it start (R301, R305). -/
def portBasic (n : Nat) (s : State) : State := portStart n s

/-- An edge of `PARn_EXP` (R315, R316): `high` is the pin's new level. -/
def expEdge (n : Nat) (high : Bool) (s : State) : State :=
  let u := s.port n
  if high != s.flag PAR_CFG.EXPPOL n then s.setPort n { u with expLead := some s.nowNs }
  else match u.expLead with
    | some a => s.setPort n { u with expLead := none, pulse := some (a, s.nowNs) }
    | none => s

/-- TRIGTO passes at the trigger consumer of port `n` (R313). -/
def parTriggerTimeout (n : Nat) (s : State) : State :=
  if conBusy s (0x40 + n) then
    countDropped 1 (((setBusy (0x40 + n) false s).setPort n { s.port n with trig := none }).log 0x0705 [n])
  else s

/-- A port command acts on a port that the variant has (R297). -/
def onPort (n : Nat) (f : State → State) (s : State) : State := if portExists s n then f s else s

def execParFrameStart (n : Fin 2) (s : State) : Out := .next (onPort n.val (parFrameStart n.val) s)
def execParLineEnd (n : Fin 2) (line : ParLine) (s : State) : Out :=
  .next (onPort n.val (parLineEnd n.val line.samples line.clocks line.active line.field (natBytes line.codes) line.noEav) s)
def execParLineTimeout (n : Fin 2) (s : State) : Out :=
  .next (onPort n.val (fun t => if portState t n.val == 2 then syncLoss n.val 2 t else t) s)
def execParFrameTimeout (n : Fin 2) (s : State) : Out :=
  .next (onPort n.val (fun t =>
    if portState t n.val == 3 && t.get PAR_FRAMETO.MS n.val != 0 then syncLoss n.val 5 t else t) s)
def execParExpEdge (n : Fin 2) (high : Bool) (s : State) : Out := .next (onPort n.val (expEdge n.val high) s)
def execParTriggerTimeout (n : Fin 2) (s : State) : Out := .next (onPort n.val (parTriggerTimeout n.val) s)

end Sys2Proof.Machine
end

