-- ==== Sys2Proof/Machine/Tws.lean ====
section
/-! DEFINITION. Tooth wheels, scheduler entries and the line-scan divider (chapter 12). Fire instants are in 1/8 ns, tooth
times in 1/16 ns of the time base. -/

namespace Sys2Proof.Machine

/-- The hidden state of entry `e`. -/
def State.entry (s : State) (e : Nat) : EntrySt := tget {} s.tws.entries e

/-- `s` with the hidden state of entry `e` replaced. -/
def State.setEntry (s : State) (e : Nat) (u : EntrySt) : State :=
  { s with tws := { s.tws with entries := tput {} s.tws.entries e u } }

/-- The hidden state of wheel `w`. -/
def State.wheel (s : State) (w : Nat) : WheelSt := tget {} s.tws.wheels w

/-- `s` with the hidden state of wheel `w` replaced. -/
def State.setWheel (s : State) (w : Nat) (u : WheelSt) : State :=
  { s with tws := { s.tws with wheels := tput {} s.tws.wheels w u } }

/-! ### Entries (R404, R412) -/

/-- The applied word `k` of an entry: 0 is CTL. -/
def EntrySt.word (u : EntrySt) (k : Nat) : Nat := u.words.getD k 0

/-- SRC of an applied entry. -/
def EntrySt.src (u : EntrySt) : Nat := bitsOf (u.word 0) 18 16

/-- DELAY of an applied entry in 1/8 ns. -/
def EntrySt.delay (u : EntrySt) : Nat := bitsOf (u.word 6) 23 0

/-- PERIOD of an applied TIME entry in 1/8 ns; one below 100 ns acts as 100 ns (R406). -/
def EntrySt.period8 (u : EntrySt) : Nat :=
  let p := u.word 4 * 8 + u.word 5 % 8
  if p == 0 then 0 else max 800 p

/-- Mode `m` arms entries of this KIND (R110, R404). -/
def kindArmed (m kind : Nat) : Bool := (m == 6 && 1 ≤ kind && kind ≤ 3) || (kind == 1 && m == 2) || (kind == 2 && m == 3) ||
  (kind == 3 && m == 5)

/-- The first instant of a TIME entry in 1/8 ns, its seconds' bits 63:48 those of the present (R164, R406). -/
def EntrySt.start8 (u : EntrySt) (s : State) : Nat :=
  let sec := u.word 3 % 2 ^ 16 * 2 ^ 32 + u.word 2 + s.nowNs / 1000000000 / 2 ^ 48 * 2 ^ 48
  8 * (sec * 1000000000 + bitsOf (u.word 1) 29 0) + bitsOf (u.word 3) 18 16

/-- Entry `e` becomes armed (R406, R407, R409, R414). -/
def armEntry (e : Nat) (s : State) : State :=
  let u := s.entry e
  let v := { u with armed := true, pend := [], blocks := [], angle := none, next := none }
  if u.kind == 1 then
    let t := u.start8 s
    let p := u.period8
    if s.now8 < t then s.setEntry e { v with next := some t }
    else if p == 0 then s.setEntry e { v with pend := [{ inst := s.now8, flags := 1 }] }
    else s.setEntry e { v with next := some (t + p * ((s.now8 - t) / p + 1)) }
  else s.setEntry e v

/-- Entry `e` is no longer armed; what was pending is cancelled (R414). -/
def disarmEntry (e : Nat) (s : State) : State :=
  s.setEntry e { s.entry e with armed := false, pend := [], blocks := [], angle := none, next := none }

/-- Whether entry `e` may be armed in mode `m`. -/
def mayArm (s : State) (m e : Nat) : Bool :=
  let u := s.entry e
  bitAt (u.word 0) 31 && !s.flag TWS_ENTCTL.DONE e && kindArmed m u.kind && s.clk.timeUp

/-- The mode in effect for the scheduler: none from DISARM on (R117, R414). -/
def schedMode (s : State) : Nat :=
  if s.get GLB_MODESTAT.PHASE == 0 then modeNow s else 0

/-- Every stream whose class may have changed is checked again (R115). -/
def recheckAll (s : State) : State := (List.range 64).foldl (fun t st => recheckStream st t) s

/-- A write of the CTL word of entry `e` (R411, R412): the staged words act as one bundle. -/
def entryCtlWrite (e v : Nat) (s : State) : State :=
  let s1 := (codedWrite (TWS_ENTCTL.reg.adr e) v s).set TWS_ENTCTL.DONE 0 e
  let s2 := s1.set TWS_ENTFIRES.FIRES 0 e
  let ws := (List.range 7).map (fun k => s2.rdA (TWS_ENTCTL.reg.adr e + 4 * k))
  let old := (s.entry e).kind
  let s3 := s2.setEntry e { kind := bitsOf (ws.getD 0 0) 30 29, words := ws }
  let s4 := if mayArm s3 (schedMode s3) e then armEntry e s3 else s3
  if old == (s4.entry e).kind then s4 else recheckAll s4

/-- One fire of entry `e` (R404, R405, R411, R413). -/
def fireEntry (e : Nat) (p : FireAt) (s : State) : State :=
  let u := s.entry e
  let s1 := (s.fireAt (0x160 + e) (p.inst * 2 ^ 29) p.flags).count TWS_ENTFIRES.FIRES e
  let s2 := if bitAt p.flags 0 then (s1.count TWS_LATECNT.COUNT).logSec 0x0A06 e [e] else s1
  let cnt := bitsOf (u.word 0) 15 0
  let v := { u with
    pend := u.pend.erase p
    blocks := if u.kind == 2 then p.bound :: u.blocks.filter (· != p.bound) else u.blocks
    angle := if u.kind == 3 then some (p.angle + s.get TWS_WCFG.TEETH (u.src % 4) * 65536) else u.angle }
  let s3 := if u.kind == 3 then
      let w := u.src % 4
      s2.setWheel w { s2.wheel w with fires := (s2.wheel w).fires + 1 }
    else s2
  if cnt != 0 && cnt ≤ s3.get TWS_ENTFIRES.FIRES e then
    disarmEntry e ((s3.setEntry e v).set TWS_ENTCTL.DONE 1 e)
  else s3.setEntry e v

/-- The next instant of TIME entry `e` falls due on this tick (R406). -/
def timeEntryDue (e : Nat) (s : State) : State :=
  let u := s.entry e
  match u.next with
  | some t =>
    if u.armed && u.kind == 1 && t < s.now8 + 16 then
      let p := u.period8
      s.setEntry e { u with
        pend := u.pend ++ [{ inst := t }]
        next := if p == 0 then none else some (t + p) }
    else s
  | none => s

/-- The tick that holds the first due instant of entry `e` arrives (R405). -/
def schedFire (e : Nat) (s : State) : State :=
  let u := s.entry e
  match u.pend.find? (fun p => !p.sup && decide (p.inst < s.now8 + 16)) with
  | some p => if u.armed then fireEntry e p s else s
  | none => s

/-! ### POSITION entries (R407, R408) -/

/-- A boundary of a POSITION entry. -/
def EntrySt.isBound (u : EntrySt) (b : Int) : Bool :=
  let t := signedOf 48 (u.word 2 % 2 ^ 16 * 2 ^ 32 + u.word 1)
  let p := u.word 4
  if p == 0 then b == t else (b - t) % ((p : Nat) : Int) == 0

/-- The blocks that the counter value `c` leaves (R408). -/
def EntrySt.unblock (u : EntrySt) (c : Int) : EntrySt :=
  let h : Int := (max 1 (bitsOf (u.word 5) 15 0) : Nat)
  { u with blocks := u.blocks.filter (fun b => decide (b - h < c ∧ c < b - 1 + h)) }

/-- The earliest instant of a fire at an edge of time `t` in ns with this DELAY (R407, R417). -/
def edgeInst (t delay : Nat) : Nat := 8 * t + max delay 384

/-- A counted edge of channel `n` at time `t`, ns, to the counter value `c`, seen by POSITION entry `e` (R407). -/
def crossEntry (n t : Nat) (forward : Bool) (c : Int) (e : Nat) (s : State) : State :=
  let u := (s.entry e).unblock c
  if !(u.armed && u.kind == 2 && u.src == n) then s
  else
    let b := if forward then c else c + 1
    let dq := bitsOf (u.word 0) 28 27
    let allowed := dq == 0 || dq == 3 || (dq == 1) == forward
    if u.isBound b && allowed && !u.blocks.contains b && (!bitAt (u.word 0) 25 || s.flag POS_STAT.REFOK n) then
      s.setEntry e { u with pend := u.pend ++ [{ inst := edgeInst t u.delay, bound := b }] }
    else s.setEntry e u

/-- A set, a load or an SSI frame gave channel `n` a new counter value: no crossing (R407). -/
def crossNothing (n : Nat) (s : State) : State :=
  (List.range 64).foldl (fun t e =>
    let u := t.entry e
    if u.armed && u.kind == 2 && u.src == n then t.setEntry e (u.unblock (chanCount t n)) else t) s

/-! ### The line-scan divider (R415-R418) -/

/-- The ratio in use (R416). -/
def lineRatio (s : State) : Int := (max 0x10000 (s.get TWS_LSRATIO.RATIO) : Nat)

/-- ACC becomes `a` (R416): signed and saturating. -/
def setAcc (a : Int) (s : State) : State :=
  let b := clampInt (-2147483648) 2147483647 a
  ({ s with tws := { s.tws with acc := b } }).set TWS_LSACC.ACC (codeOf 32 b)

/-- The divider makes line `k` from an edge at `t` (R417). -/
def newLine (k t : Nat) (s : State) : State :=
  let s1 := s.set TWS_LSLINES.LINES k
  { s1 with tws := { s1.tws with lsRun := true, lines := s1.tws.lines ++ [(k, edgeInst t (s1.get TWS_LSDELAY.DELAY))] } }

/-- A counted edge of channel `n` at `t`, ns, to counter value `c` reaches the divider (R415, R416). -/
def lineEdge (n t : Nat) (forward : Bool) (c : Int) (s : State) : State :=
  if !(s.tws.lsArmed && s.get TWS_LSCFG.CH == n) then s
  else
    let along := forward != s.flag TWS_LSCFG.DIR
    if !s.tws.lsRun then
      let start := signedOf 48 (s.get TWS_LSSTARTHI.START * 2 ^ 32 + s.get TWS_LSSTARTLO.START)
      if along && (!s.flag TWS_LSCFG.GATE || start == (if forward then c else c + 1)) then newLine 0 t (setAcc 0 s) else s
    else if along then
      let a := s.tws.acc + 65536
      if lineRatio s ≤ a then newLine ((s.get TWS_LSLINES.LINES + 1) % 2 ^ 32) t (setAcc (a - lineRatio s) s) else setAcc a s
    else if s.flag TWS_LSCFG.TRACKBACK then setAcc (s.tws.acc - 65536) s
    else s

/-- Arm or disarm the divider for the mode `m` (R415, R414). -/
def armDivider (m : Nat) (s : State) : State :=
  let on := s.flag TWS_LSCFG.EN && (m == 4 || m == 6)
  if on && !s.tws.lsArmed then
    ({ s with tws := { s.tws with lsArmed := true, lsRun := false, lines := [], lineAt := none } }).set TWS_LSLINES.LINES 0
  else if !on && s.tws.lsArmed then { s with tws := { s.tws with lsArmed := false, lsRun := false, lines := [] } }
  else s

/-- `OVERRUN` on the blocks in progress (R418): the open frames of streams of class LINE with their items, the assembled
frame, or the next frame of such a stream that has none open. -/
def markOverrun (s : State) : State :=
  let line := (List.range 64).filter (fun st => streamClass s st == 3)
  let isOpen := fun (f : Feed) => line.contains f.stream && !f.ended
  let mark := fun (f : Feed) => if isOpen f then { f with flags := f.flags ||| 0x80 } else f
  let waiting := line.filter (fun st => !s.src.feeds.any (fun f => f.stream == st && !f.ended))
  { s with
    src := { s.src with
      feeds := s.src.feeds.map mark
      asm := s.src.asm.map (fun a => { a with flags := a.flags ||| 0x80 }) }
    tws := { s.tws with isOver := waiting } }

/-- The first line to come has its instant on this tick (R417, R418). -/
def lineFire (s : State) : State :=
  match s.tws.lines with
  | [] => s
  | (k, t) :: rest =>
    if s.now8 + 16 ≤ t then s
    else
      let early := match s.tws.lineAt with
        | some l => decide (t < l + 8 * s.get TWS_LSMINPER.NS)
        | none => false
      let s1 : State := { s with tws := { s.tws with lines := rest, lineAt := some t } }
      let s2 := if early then markOverrun ((s1.count TWS_LSDROP.COUNT).logSec 0x0A08 0 [k])
        else s1.fireAt 0x1A1 (t * 2 ^ 29) 0
      if k % max 1 (s2.get TWS_LSCFG.BLKLINES) == 0 then s2.fireAt 0x1A0 (t * 2 ^ 29) 0 else s2

/-! ### Tooth wheels (R393-R401) -/

/-- N and g of wheel `w` (R394). -/
def wheelTeeth (s : State) (w : Nat) : Nat := s.get TWS_WCFG.TEETH w
def wheelGap (s : State) (w : Nat) : Nat := max 1 (s.get TWS_WCFG.GAP w)

/-- The state of wheel `w`: 0 OFF, 1 NOSYNC, 2 GAPSEEN, 3 SYNCED. -/
def wheelState (s : State) (w : Nat) : Nat := s.get TWS_WSTAT.STATE w

/-- The time base in 1/16 ns. -/
def State.now16 (s : State) : Nat := s.now / 2 ^ 28

/-- P becomes `p` (R395). -/
def setPer (w p : Nat) (s : State) : State :=
  (s.setWheel w { s.wheel w with per := p }).set TWS_WPER.P (min p (2 ^ 32 - 1)) w

/-- P after an interval of `t`, normalised to one pitch (R395). -/
def takeInterval (w t : Nat) (s : State) : State :=
  let u := s.wheel w
  let p := match s.flag TWS_WCFG.PRED w, u.normal with
    | true, some q => t * t / max 1 (min (max q (t * 3 / 4)) (t * 5 / 4))
    | _, _ => t
  setPer w (max 1 p) (s.setWheel w { u with normal := some t })

/-- The rule of R397: `t` is a gap candidate after the intervals `ivs`. -/
def gapCandidate (s : State) (w t : Nat) (ivs : List Nat) : Bool :=
  match ivs with
  | t1 :: t2 :: _ => decide (t2 ≤ 2 * t1 ∧ 2 * t1 ≤ 3 * t2) && decide (s.get TWS_WTH.GAPLO w * t1 ≤ 16 * t) &&
      decide (16 * t ≤ s.get TWS_WTH.GAPHI w * t1)
  | _ => false

/-- The verified gap at `t` (R398). -/
def goodGap (w t : Nat) (s : State) : State :=
  let f := shortForm (t / 16)
  let s1 := (s.set TWS_WGOODLO.T f w).set TWS_WGOODHI.T (f / 2 ^ 32) w
  s1.setWheel w { s1.wheel w with good := some t, fires := 0 }

/-- The angle of an entry counted on from the sync, the first at or after `base`, in 16.16 units (R394, R409). -/
def angleTarget (s : State) (w base angle : Nat) : Nat :=
  let n := wheelTeeth s w * 65536
  if n == 0 then base else
    let th := (angle + n - (s.wheel w).zero % n) % n
    base + (th + n - base % n) % n

/-- The next instant of ANGLE entry `e` from the newest tooth of wheel `w` (R409). -/
def angleSchedule (w e : Nat) (s : State) : State :=
  let u := s.entry e
  let h := s.wheel w
  let a := h.pos * 65536
  let x := match u.angle with | some x => x | none => angleTarget s w a (u.word 1)
  let last := s.get TWS_WSTAT.TOOTH w + wheelGap s w + 1 == wheelTeeth s w
  let due := a + (if last then wheelGap s w + 1 else 1) * 65536
  let reach := if last then s.get TWS_WTH.GAPHI w else s.get TWS_WTH.MISSR w
  let v := { u with angle := some x }
  if x == due || a + reach * 4096 < x then s.setEntry e v
  else
    let pred := due < x || h.synth
    let ahead : Int := ((x : Int) - (a : Nat)) * (h.per : Nat) / 65536
    let at8 : Int := ((h.tk : Nat) + ahead) / 2 + (u.delay : Nat)
    let least : Nat := h.tk / 2 + 384
    let late := decide (at8 < (least : Nat))
    let p : FireAt := {
      inst := if late then least else at8.toNat
      flags := b2n late + 2 * b2n pred
      angle := x
      sup := pred && bitAt (u.word 0) 26 }
    s.setEntry e { v with pend := v.pend ++ [p] }

/-- A new tooth of wheel `w` reaches ANGLE entry `e` (R409). `synth` says that it is synthetic. -/
def angleTooth (w : Nat) (synth : Bool) (e : Nat) (s : State) : State :=
  let u := s.entry e
  if !(u.armed && u.kind == 3 && u.src % 4 == w) then s
  else
    let a := (s.wheel w).pos * 65536
    match u.pend with
    | p :: _ =>
      if p.sup then
        if synth && (decide (p.inst ≤ s.now8) || decide (p.angle < a)) then
          let s1 := (s.count TWS_SUPCNT.COUNT).log 0x0A07 [e]
          angleSchedule w e (s1.setEntry e { u with pend := [], angle := some (p.angle + wheelTeeth s w * 65536) })
        else angleSchedule w e (s.setEntry e { u with pend := [] })
      else if p.angle < a then s
      else angleSchedule w e (s.setEntry e { u with pend := [] })
    | [] => angleSchedule w e s

/-- Every ANGLE entry sees the newest tooth of wheel `w`. -/
def angleTeeth (w : Nat) (synth : Bool) (s : State) : State :=
  (List.range 64).foldl (fun t e => angleTooth w synth e t) s

/-- The pending angle fires of wheel `w` are cancelled (R399). -/
def cancelAngles (w : Nat) (s : State) : State :=
  (List.range 64).foldl (fun t e =>
    let u := t.entry e
    if u.kind == 3 && u.src % 4 == w then t.setEntry e { u with pend := [], angle := none } else t) s

/-- `ZERO` takes effect at a tooth (R422). -/
def takeZero (w : Nat) (s : State) : State :=
  let z := s.get TWS_WZERO.ZERO w
  if z == (s.wheel w).zero then s
  else
    let s1 := s.setWheel w { s.wheel w with zero := z }
    (List.range 64).foldl (fun t e =>
      let u := t.entry e
      if u.kind == 3 && u.src % 4 == w then t.setEntry e { u with angle := none } else t) s1

/-- A tooth joins the ring of wheel `w` (R402). -/
def ringTooth (w : Nat) (s : State) : State :=
  let u := s.wheel w
  s.setWheel w { u with ring := (Tooth.mk u.tk u.pos u.synth u.synced.length :: u.ring).take 4096 }

/-- Wheel `w` leaves SYNCED (R396). -/
def leaveSync (w : Nat) (s : State) : State :=
  let u := s.wheel w
  match u.since with
  | none => s
  | some b => cancelAngles w (s.setWheel w { u with since := none, synced := (b, s.now16) :: u.synced })

/-- Wheel `w` enters SYNCED at an edge of time `t` (R396, R398, R400). -/
def enterSync (w t : Nat) (s : State) : State :=
  let u := s.wheel w
  let s1 := s.setWheel w { u with pos := 0, tk := t, synth := false, misses := 0, since := some t }
  let s2 := ((s1.set TWS_WSTAT.STATE 3 w).set TWS_WSTAT.TOOTH 0 w).set TWS_WREV.REV 0 w
  let s3 := ((ringTooth w (goodGap w t (takeZero w s2))).fire (0x1A4 + w)).log 0x0A04 [w]
  angleTeeth w false s3

/-- The wheel leaves for `st` with a cause of R400. -/
def loseWheel (w st cause : Nat) (s : State) : State :=
  let old := wheelState s w
  if old == 0 then s
  else
    let s1 := if old == 3 then (leaveSync w s).fire (0x1A8 + w) else s
    let s2 := if 2 ≤ old then s1.log 0x0A05 [w, cause] else s1
    let s3 := s2.set TWS_WSTAT.STATE st w
    let s4 := if cause == 4 then s3 else s3.setWheel w { s3.wheel w with prev := none, ivs := [], normal := none }
    if cause == 2 then setPer w 0 s4 else s4

/-- Every wheel whose source is channel `n` loses it (R400). -/
def loseSource (n : Nat) (s : State) : State :=
  (List.range 4).foldl (fun t w => if t.get TWS_WCFG.CH w == n then loseWheel w 1 3 t else t) s

/-- A sync error (R399): `t` is the last accepted tooth. -/
def syncError (w cause t : Nat) (s : State) : State :=
  let u := s.wheel w
  let s1 := ((s.count TWS_WCNT2.SYNCERR w).fire (0x1A8 + w)).log 0x0A03 [w, cause, u.fires]
  let bad := match u.good with | some g => (g, s.now16) :: u.bad | none => u.bad
  let s2 := (leaveSync w (s1.setWheel w { u with bad := bad })).set TWS_WSTAT.STATE 1 w
  s2.setWheel w { s2.wheel w with
    prev := some t
    ivs := match u.normal with | some n => [n, n] | none => [] }

/-- A new tooth of position `k`, real or synthetic, at `t` in SYNCED (R398). -/
def newTooth (w k t : Nat) (synth : Bool) (s : State) : State :=
  let u := s.wheel w
  let step := if k == 0 then wheelGap s w + 1 else 1
  let s1 := if synth then s else takeInterval w ((t - u.tk) / step) s
  let s2 := s1.setWheel w { s1.wheel w with
    pos := u.pos + step
    tk := t
    synth := synth
    misses := if synth then u.misses + 1 else 0
    prev := if synth then u.prev else some t }
  let s3 := ringTooth w (takeZero w (s2.set TWS_WSTAT.TOOTH k w))
  let s4 := if k == 0 then (goodGap w t (s3.wrapAdd TWS_WREV.REV 1 w)).fire (0x1AC + w) else s3
  angleTeeth w synth s4

/-- An edge in SYNCED (R398). -/
def syncedEdge (w t : Nat) (s : State) : State :=
  let u := s.wheel w
  let k := s.get TWS_WSTAT.TOOTH w
  if t < u.tk + max 1600 (s.get TWS_WTH.EARLYR w * u.per / 16) then
    (s.count TWS_WCNT.EARLY w).logSec 0x0A02 w [w]
  else if k + wheelGap s w + 1 < wheelTeeth s w then newTooth w (k + 1) t false s
  else
    let iv := 16 * (t - u.tk)
    if iv < s.get TWS_WTH.GAPLO w * u.per then syncError w 1 t s
    else if s.get TWS_WTH.GAPHI w * u.per < iv then syncError w 3 t s
    else newTooth w 0 t false s

/-- An edge in NOSYNC or GAPSEEN (R395-R397). -/
def seekEdge (w t : Nat) (s : State) : State :=
  let u := s.wheel w
  let s0 := takeZero w (s.setWheel w { u with prev := some t })
  match u.prev with
  | none => s0
  | some p =>
    let iv := t - p
    if iv == 0 then s0
    else
      let cand := gapCandidate s w iv u.ivs
      let s1 := s0.setWheel w { s0.wheel w with ivs := iv :: u.ivs.take 1 }
      let s2 := takeInterval w (if cand then iv / (wheelGap s w + 1) else iv) s1
      let first := (s2.set TWS_WSTAT.STATE 2 w).set TWS_WSTAT.TOOTH 0 w
      let k := s.get TWS_WSTAT.TOOTH w
      if wheelState s w == 1 then
        if !cand then s2 else if s.flag TWS_WCFG.CONFIRM w then first else enterSync w t s2
      else
        let end_ := k + wheelGap s w + 1 == wheelTeeth s w
        if cand then if end_ then enterSync w t s2 else first.count TWS_WCNT2.SYNCFAIL w
        else if end_ then (s2.set TWS_WSTAT.STATE 1 w).count TWS_WCNT2.SYNCFAIL w
        else s2.set TWS_WSTAT.TOOTH (k + 1) w

/-- The first edge on its way to wheel `w` reaches it (R393, R396, R398). -/
def wheelTooth (w : Nat) (s : State) : State :=
  let u := s.wheel w
  match u.edges with
  | [] => s
  | t :: rest =>
    let s1 := s.setWheel w { u with edges := rest }
    if wheelState s w == 0 then s1 else if wheelState s w == 3 then syncedEdge w t s1 else seekEdge w t s1

/-- No edge has come by `MISSR` times P (R398). -/
def syntheticTooth (w : Nat) (s : State) : State :=
  let u := s.wheel w
  let k := s.get TWS_WSTAT.TOOTH w
  if wheelState s w != 3 || wheelTeeth s w ≤ k + wheelGap s w + 1 then s
  else if s.get TWS_WTH2.MISSMAX w ≤ u.misses then syncError w 2 (u.prev.getD u.tk) s
  else newTooth w (k + 1) (u.tk + u.per) true (((s.count TWS_WCNT.MISS w).fire (0x1B0 + w)).log 0x0A01 [w, k + 1])

/-- No edge has come by `GAPHI` times P in the gap (R398). -/
def gapTimeout (w : Nat) (s : State) : State :=
  if wheelState s w == 3 && s.get TWS_WSTAT.TOOTH w + wheelGap s w + 1 == wheelTeeth s w then
    syncError w 3 ((s.wheel w).prev.getD (s.wheel w).tk) s
  else s

/-- Input A of channel `n` changes to `level` at `t`, ns: the edges that wheels take as teeth (R393). -/
def toothEdge (n t : Nat) (level : Bool) (s : State) : State :=
  (List.range 4).foldl (fun x w =>
    if wheelState x w != 0 && x.get TWS_WCFG.CH w == n && level != x.flag TWS_WCFG.EDGE w then
      x.setWheel w { x.wheel w with edges := (x.wheel w).edges ++ [16 * t] }
    else x) s

/-- The internal angle θ of wheel `w` at present, in 16.16 units counted on from the sync (R401). -/
def thetaNow (s : State) (w : Nat) : Nat :=
  let u := s.wheel w
  u.pos * 65536 + (s.now16 - u.tk) * 65536 / max 1 u.per

/-- The reported angle of a θ counted on from the sync (R394). -/
def reportAngle (s : State) (w theta : Nat) : Nat :=
  let n := wheelTeeth s w * 65536
  if n == 0 then 0 else (theta + (s.wheel w).zero) % n

/-- `TWS_WANG` as it reads (R396, R401). -/
def wangNow (s : State) (w : Nat) : Nat :=
  if wheelState s w == 3 then reportAngle s w (thetaNow s w) else 0xFFFFFFFF

/-- `TWS_WSTAT.PREDICTED` as it reads (R401). -/
def predictedNow (s : State) (w : Nat) : Bool :=
  let u := s.wheel w
  let last := s.get TWS_WSTAT.TOOTH w + wheelGap s w + 1 == wheelTeeth s w
  wheelState s w == 3 &&
    (u.synth || decide ((u.pos + (if last then wheelGap s w + 1 else 1)) * 65536 < thetaNow s w))

/-! ### Angle in tags (R402) -/

/-- The answer of R402 for wheel `w` at twice the midpoint `m2` in ns: none while it waits for a tooth, or the angle and
whether it is predicted. `due` says that the tag falls due. -/
def angleAt (s : State) (w m2 : Nat) (due : Bool) : Option (Nat × Bool) :=
  let u := s.wheel w
  let m := 8 * m2
  let inSync := (match u.since with | some b => decide (b ≤ m) | none => false) ||
    u.synced.any (fun b => decide (b.1 ≤ m ∧ m < b.2))
  let older := match u.ring.getLast? with | some t => decide (m < t.time) | none => true
  if !inSync || older || u.bad.any (fun b => decide (b.1 < m ∧ m < b.2)) then some (0xFFFFFFFF, false)
  else
    let a := u.ring.find? (fun t => decide (t.time ≤ m))
    let run := (a.map (·.run)).getD 0
    match a, (u.ring.filter (fun t => decide (m < t.time ∧ t.run = run))).getLast? with
    | some a, some b =>
      let th := roundDiv ((65536 * (a.pos * (b.time - a.time) + (b.pos - a.pos) * (m - a.time)) : Nat) : Int)
        (b.time - a.time)
      some (reportAngle s w th.toNat, a.synth || b.synth)
    | some a, none =>
      if due then
        let p := max 1 u.per
        some (reportAngle s w (roundDiv ((65536 * (a.pos * p + (m - a.time)) : Nat) : Int) p).toNat, true)
      else none
    | _, _ => some (0xFFFFFFFF, false)

/-- The exposure times of item `it` are known (R274, R420). -/
def timesKnown (s : State) (it : Item) : Bool :=
  it.wait / 4 % 2 == 0 && (match s.src.asm with | some a => a.item != it.id | none => true)

/-- Every item that is created or on a queue. -/
def allItems (s : State) : List Item :=
  s.que.created ++ s.que.queues.flatMap (fun e =>
    (match e.2.item with | some it => [it] | none => []) ++ e.2.waiting)

/-- The items of stream `st` that wait for bit `k` of `tagWaits` and whose times are known. -/
def evalItems (s : State) (st k : Nat) : List Item :=
  (allItems s).filter (fun it => it.stream == st && bitAt it.wait k && timesKnown s it)

/-- The 4 bytes of `v` written at `ofs` of a tag body. -/
def putBody (ofs v : Nat) (body : List Nat) : List Nat := body.take ofs ++ leBytes 4 v ++ body.drop (ofs + 4)

/-- `ANGLE` is written to the tags of stream `st` that wait for it (R402). -/
def angleTagEval (st : Nat) (due : Bool) (s : State) : State :=
  (evalItems s st 1).foldl (fun t it =>
    let ans := if t.flag TWS_ANGSEL.EN st then angleAt t (t.get TWS_ANGSEL.WHEEL st) (midTwiceOf t it.body) due
      else some (0, false)
    match ans with
    | none => t
    | some (v, p) => mapItem it.id (fun x => { x with
        body := putBody 32 v x.body
        flags := x.flags ||| 8 * b2n p
        wait := x.wait - 2 }) t) s

/-! ### Configuration (R422, R423) -/

/-- The derived fields of wheel `w` (R423). -/
def deriveWheel (w : Nat) (s : State) : State :=
  let g := wheelGap s w
  let s1 := (s.set TWS_WTH.MISSR 24 w).set TWS_WTH.EARLYR (if s.flag TWS_WCFG.FILTER w then 8 else 0) w
  ((s1.set TWS_WTH.GAPLO (16 * g + 8) w).set TWS_WTH.GAPHI (16 * g + 24) w).set TWS_WTH2.MISSMAX 2 w

/-- Every derived field of `TWS`. -/
def deriveTws (s : State) : State := (List.range 4).foldl (fun t w => deriveWheel w t) s

/-- A refused write of `TWS` (R422, R423): detail 0 is the register offset. -/
def refuseTws (a : Nat) (s : State) : State := s.log 0x0A09 [a - 0x540000]

/-- A write of `TWS_WCFG[w]` (R396, R400, R422). -/
def wcfgWrite (w v : Nat) (s : State) : State :=
  let a := TWS_WCFG.reg.adr w
  let old := s.rdA a
  let on := bitAt v 31
  let keys := 0x0F031FFF
  if (on && bitAt old 31 && (v &&& keys) != (old &&& keys)) || (on && !(8 ≤ v % 2 ^ 13 && v % 2 ^ 13 ≤ 4096)) then refuseTws a s
  else
    let s1 := codedWrite a v s
    if on && !bitAt old 31 then
      (s1.set TWS_WSTAT.STATE 1 w).setWheel w { s1.wheel w with edges := [], prev := none, ivs := [], normal := none }
    else if !on && bitAt old 31 then loseWheel w 0 1 s1
    else s1

/-- A write of `TWS_WZERO[w]` (R422). -/
def wzeroWrite (w v : Nat) (s : State) : State :=
  let a := TWS_WZERO.reg.adr w
  if wheelTeeth s w * 65536 ≤ v then refuseTws a s else codedWrite a v s

/-- A write of `TWS_WTH[w]` (R423). -/
def wthWrite (w v : Nat) (s : State) : State :=
  let a := TWS_WTH.reg.adr w
  let e := bitsOf v 23 16
  let m := bitsOf v 31 24
  let lo := bitsOf v 15 8
  if s.flag TWS_LEVEL.EXPERT && !(e < 16 && 16 < m && m ≤ lo && lo ≤ bitsOf v 7 0) then refuseTws a s else codedWrite a v s

/-- A write of `TWS_WTH2[w]` (R423): MISSMAX is 1 to 255. -/
def wth2Write (w v : Nat) (s : State) : State :=
  let a := TWS_WTH2.reg.adr w
  if s.flag TWS_LEVEL.EXPERT && v % 256 == 0 then refuseTws a s else codedWrite a v s

/-- What an applied step of `d`, in 2^-32 ns, does to the wheels and entries (R403, R406). -/
def twsStep (d : Int) (s : State) : State :=
  let m16 := moveBy (d / 2 ^ 28)
  let m8 := moveBy (d / 2 ^ 29)
  let pair := fun (p : Nat × Nat) => (m16 p.1, m16 p.2)
  let moveWheel := fun (t : State) (w : Nat) =>
    let u := t.wheel w
    let v := { u with
      edges := u.edges.map m16
      prev := u.prev.map m16
      tk := m16 u.tk
      good := u.good.map m16
      ring := u.ring.map (fun x => { x with time := m16 x.time })
      since := u.since.map m16
      synced := u.synced.map pair
      bad := u.bad.map pair }
    if v == u then t
    else
      let t1 := t.setWheel w v
      match v.good with
      | some g =>
        let f := shortForm (g / 16)
        (t1.set TWS_WGOODLO.T f w).set TWS_WGOODHI.T (f / 2 ^ 32) w
      | none => t1
  let moveEntry := fun (t : State) (e : Nat) =>
    let u := t.entry e
    if u.kind == 3 then t.setEntry e { u with pend := u.pend.map (fun p => { p with inst := m8 p.inst }) }
    else
      match u.kind, u.next with
      | 1, some n =>
        if 0 < d && n ≤ t.now8 && u.armed then
          let p := u.period8
          t.setEntry e { u with
            pend := u.pend ++ [{ inst := t.now8 }]
            next := if p == 0 then none else some (n + p * ((t.now8 - n) / p + 1)) }
        else t
      | _, _ => t
  (List.range 64).foldl moveEntry ((List.range 4).foldl moveWheel s)

/-- Arm every entry that mode `m` arms, and the divider (R404, R415). -/
def armMode (m : Nat) (s : State) : State :=
  armDivider m ((List.range 64).foldl (fun t e => if mayArm t m e then armEntry e t else t) s)

/-- Disarm every entry and the divider (R414). -/
def disarmMode (s : State) : State :=
  armDivider 0 ((List.range 64).foldl (fun t e => if (t.entry e).armed then disarmEntry e t else t) s)

/-! ### Rows that are no register write -/

def execWheelTooth (w : Fin 4) (s : State) : Out := .next (wheelTooth w.val s)
def execSyntheticTooth (w : Fin 4) (s : State) : Out := .next (syntheticTooth w.val s)
def execWheelGapTimeout (w : Fin 4) (s : State) : Out := .next (gapTimeout w.val s)
def execWheelStall (w : Fin 4) (s : State) : Out := .next (loseWheel w.val 1 2 s)
def execAngleTagEval (st : Fin 64) (due : Bool) (s : State) : Out := .next (angleTagEval st.val due s)
def execTimeEntryDue (e : Fin 64) (s : State) : Out := .next (timeEntryDue e.val s)
def execSchedFire (e : Fin 64) (s : State) : Out := .next (schedFire e.val s)
def execLineFire (s : State) : Out := .next (lineFire s)

end Sys2Proof.Machine
end

