-- ==== Sys2Proof/Machine/Mode.lean ====
section
/-! DEFINITION. The mode controller (chapter 4): requests, refusals, DISARM and the drain, ENTER, and forced changes. -/

namespace Sys2Proof.Machine

/-! ### Boundaries (R119, R120) -/

/-- Whether stream `st` keeps the drain waiting: it is active, not held, and has an item in progress or a trigger whose
frame has not started (R119). -/
def beforeBoundary (s : State) (st : Nat) : Bool :=
  match streamConsumer s st with
  | some i => !streamHeld s st && (itemInProgress s st || conBusy s i)
  | none => false

/-- The streams that have not reached their boundary. -/
def lateStreams (s : State) : List Nat := (List.range 64).filter (beforeBoundary s)

/-- A line block of the stream whose blocks are assembled is in progress. -/
def blockOpen (s : State) (st : Nat) : Bool :=
  s.src.feeds.any (fun f => f.stream == st) || s.pipes.any (fun e => e.2.feed != 0 && e.2.frame.stream == st)

/-- The assembled frame ends with the block in progress, or at once when none is (R120): TRUNC, and the lines that were not
captured. A frame whose last block this is ends as any other. -/
def cutAssembly (s : State) : State :=
  match s.src.asm with
  | none => s
  | some a =>
    let busy := blockOpen s (s.get TWS_LSASM.STREAM)
    let left := max 1 (s.get TWS_LSASM.FRAMEBLK) - (a.blocks + b2n busy)
    let a2 := if left == 0 then a else { a with
      cut := true
      flags := a.flags ||| 1
      missing := min 0xFFFF (a.missing + left * s.get TWS_LSCFG.BLKLINES) }
    let s1 : State := { s with src := { s.src with asm := some a2 } }
    if busy then s1 else closeAssembly 0 s1

/-- The assembled frame of a stream that is no longer LINE closes once no block of it is in progress (R419). -/
def settleAssembly (s : State) : State :=
  let st := s.get TWS_LSASM.STREAM
  if s.src.asm.isSome && !assembling s st && !blockOpen s st then settleStream st (closeAssembly 0 s) else s

/-! ### Truncation (R121) -/

/-- The frames of stream `st` that are in a pipe or wait for one end at once: those that no pipe has taken open no item. -/
def truncatePipes (st : Nat) (s : State) : State :=
  (List.range 4).foldl (fun t p =>
    let u := t.pipe p
    if u.feed != 0 && u.frame.stream == st then
      match feedOf t u.feed with
      | some f =>
        pipeFlushDone p ((t.setFeed { f with ended := true, flags := f.flags ||| 1 }).set PIX_STAT.STATE 3 p)
      | none => t
    else t) s

/-- The sources and pipes end what they hold of stream `st` (R121, R317). -/
def truncateSources (st : Nat) (s : State) : State :=
  let s1 := match openFrame s st with
    | some f => if f.src == 0 then closeClpFrame st f.damage 1 s else truncatePar f.ix 2 s
    | none => s
  let s2 := truncatePipes st s1
  { s2 with src := { s2.src with feeds := s2.src.feeds.filter (fun f => f.stream != st) } }

/-- The items of stream `st` on queue `q` end with TRUNC, or are dropped when they hold no descriptor (R506). -/
def truncateOn (st q : Nat) (s : State) : State :=
  let u := s.queue q
  let gone := u.waiting.filter (itemOf st)
  let s1 := s.setQueue q { u with waiting := u.waiting.filter (fun it => !itemOf st it) }
  let s2 := match u.item with
    | some it => if itemOf st it then cutOpen q 1 6 s1 else s1
    | none => s1
  promote q (gone.foldl (fun t it => dropItem q 6 it t) s2)

/-- The number of items of stream `st` in progress on the queues. -/
def countItems (s : State) (st : Nat) : Nat :=
  (s.que.queues.map (fun e => (match e.2.item with | some it => b2n (itemOf st it) | none => 0) +
    (e.2.waiting.filter (itemOf st)).length)).foldl (· + ·) 0

/-- The items created for stream `st` start at once. -/
def startItems (st : Nat) (s : State) : State :=
  let mine := s.que.created.filter (itemOf st)
  mine.foldl (fun t it => startItem it t)
    { s with que := { s.que with created := s.que.created.filter (fun it => !itemOf st it) } }

/-- Everything of stream `st` in progress ends (R121). -/
def truncateStream (st : Nat) (s : State) : State :=
  let s1 := match streamConsumer s st with
    | some i => if conBusy s i then
        let t := countDropped 1 (setBusy i false s)
        if i == 0x40 || i == 0x41 then t.setPort (i - 0x40) { t.port (i - 0x40) with trig := none } else t
      else s
    | none => s
  let t1 := truncateSources st s1
  let s2 := startItems st (if st == t1.get TWS_LSASM.STREAM then closeAssembly 1 t1 else t1)
  let s3 := s2.count GLB_TRUNCCNT.TRUNCATED 0 0 (countItems s2 st)
  (s3.que.queues.map (·.1)).foldl (fun t q => truncateOn st q t) s3

/-- The drain timer expires or is forced to (R121, R132). -/
def drainExpire (s : State) : State :=
  if s.get GLB_MODESTAT.PHASE != 2 then s
  else
    let late := lateStreams s
    let before := s.get GLB_TRUNCCNT.TRUNCATED
    let s1 := late.foldl (fun t st => truncateStream st t) s
    let n := s1.get GLB_TRUNCCNT.TRUNCATED - before
    let s2 := if late == [] then s1 else (s1.fire 0x002).log 0x0121 [n]
    { s2.set GLB_MODESTAT.PHASE 3 with glb := { s2.glb with enterMode := 0 } }

/-- Every stream has reached its boundary (R117, R119). -/
def drainComplete (s : State) : State :=
  if s.get GLB_MODESTAT.PHASE == 2 && lateStreams s == [] then
    { s.set GLB_MODESTAT.PHASE 3 with glb := { s.glb with enterMode := 0 } }
  else s

/-! ### Requests (R116-R118, R126, R127) -/

/-- Whether R116 gives a path from mode `c` to another mode `m`. -/
def pathOk (c m : Nat) : Bool := c == 0 || m == 0 || (c ≤ 6 && m ≤ 6)

/-- A mode that needs `CLK_TIME` (R126, R133). -/
def timedMode (m : Nat) : Bool := 1 ≤ m && m ≤ 6

/-- An encoder context holds an unfinished picture (R126). -/
def encoderBusy (s : State) : Bool := s.ven.pics != []

/-- Why a request for mode `m` is refused (R126); none where it is accepted or has no effect. -/
def modeRefusal (s : State) (m : Nat) : Option Nat :=
  if s.flag GLB_MODE.BUSY then (if m == s.get GLB_MODE.MODE then none else some 2)
  else if m == modeNow s then none
  else if !pathOk (modeNow s) m then some 1
  else if timedMode m && !s.clk.timeUp then some 3
  else if m == 7 && encoderBusy s then some 4
  else if modeNow s == 7 && s.flag CFG_FCMD.BUSY then some 5
  else none

/-- The old mode's machinery is disarmed, and the pending trigger events of the streams are discarded (R117). -/
def modeDisarm (s : State) : State :=
  (List.range 66).foldl (fun t i =>
    if (t.con i).held.isSome then countDropped 1 (dropHeld i t) else t) (disarmMode s)

/-- A request for mode `m` is accepted (R117, R120). -/
def acceptMode (m : Nat) (s : State) : State :=
  let s1 := (s.set GLB_MODE.BUSY 1).set GLB_MODE.MODE m
  if timedMode (modeNow s) then cutAssembly (modeDisarm (s1.set GLB_MODESTAT.PHASE 2))
  else { s1.set GLB_MODESTAT.PHASE 3 with glb := { s1.glb with enterMode := m } }

/-- A request for mode `m` from `source`: 0 a register write, 1 `GLB_GOTO` (R116, R126). -/
def requestMode (m source : Nat) (s : State) : State :=
  match modeRefusal s m with
  | some r =>
    (((s.set GLB_MODESTAT.REASON r).count GLB_MODESTAT.REFUSALS).fire 0x003).log 0x0120 [m, r, source]
  | none => if s.flag GLB_MODE.BUSY || m == modeNow s then s else acceptMode m s

/-! ### ENTER (R110, R115, R117, R124, R130) -/

/-- What leaving SERVICE ends (R104, R130, R352, R517). -/
def serviceExit (s : State) : State :=
  let s1 := endLaneTests s
  let s2 := (List.range 4).foldl (fun t p => pixBistEnd p 3 t) (queBistEnd 3 s1)
  let s3 := (List.range 16).foldl (fun t n => t.setLane n { t.lane n with lowRun := 0 }) s2
  { s3 with cfg := { s3.cfg with unlocked := false } }

/-- The streams open or are held as mode `m` takes effect (R115, R124). -/
def enterStreams (m : Nat) (s : State) : State :=
  let s0 := ((s.set GLB_HELD.STREAMS 0 0).set GLB_HELD.STREAMS 0 1)
  let s1 : State := { s0 with glb := { s0.glb with finishing := [], closed := [], firstAfter := [] } }
  if !captureMode m then s1
  else (List.range 64).foldl (fun t st =>
    if !streamActive t st then t
    else if classAllowed m (streamClass t st) then { t with glb := { t.glb with firstAfter := st :: t.glb.firstAfter } }
    else (setHeld st true t).log 0x0122 [st, streamClass t st]) s1

/-- The mode being entered takes effect (R117). -/
def modeEnterDone (s : State) : State :=
  if s.get GLB_MODESTAT.PHASE != 3 then s
  else
    let m := s.glb.enterMode
    let was := modeNow s
    let s1 := changeOutputs m s
    let s2 := if was == 7 && m != 7 then serviceExit s1 else s1
    let target := s2.get GLB_MODE.MODE
    let s3 := if target == m then (s2.set GLB_MODESTAT.PHASE 0).set GLB_MODE.BUSY 0 else s2
    let s4 := armMode m (enterStreams m s3)
    { s4.fire 0x001 with glb := { s4.glb with enterMode := target } }

/-! ### Forced changes (R133, R134) -/

/-- The `CLK_TIME` reset forces STANDBY (R133). -/
def forceStandby (s : State) : State :=
  let cur := modeNow s
  let busy := s.flag GLB_MODE.BUSY
  let target := s.get GLB_MODE.MODE
  if !(timedMode cur || (busy && timedMode target)) then s
  else
    let s1 := s.log 0x0123 [cur, if busy then target else 0]
    if !busy then acceptMode 0 s1
    else
      let s2 := s1.set GLB_MODE.MODE 0
      { s2 with glb := { s2.glb with enterMode := 0 } }

/-- A reset of the capture units sets STANDBY without a drain (R134). -/
def dropToStandby (s : State) : State :=
  let cur := modeNow s
  if cur == 0 && !s.flag GLB_MODE.BUSY then s
  else
    let s1 := disarmMode (changeOutputs 0 s)
    let s2 := if cur == 7 then serviceExit s1 else s1
    let s3 := ((s2.set GLB_MODESTAT.PHASE 0).set GLB_MODE.BUSY 0).set GLB_MODE.MODE 0
    let s4 := enterStreams 0 s3
    ({ s4.fire 0x001 with glb := { s4.glb with enterMode := 0 } }).log 0x0123 [cur]

def execDrainComplete (s : State) : Out := .next (drainComplete s)
def execDrainTimeout (s : State) : Out := .next (drainExpire s)

end Sys2Proof.Machine
end

