-- ==== Sys2Proof/Machine/Pos.lean ====
section
/-! DEFINITION. Position channels (chapter 11): counting, index and reference, the history and what it answers for a tag,
speed, SSI, probes and the pass-through outputs. Times are ns of network time. -/

namespace Sys2Proof.Machine

/-! ### Faults, reference and history -/

/-- A fault bit of channel `n` is set (R389). -/
def posFault (n : Nat) (f : Fld) (s : State) : State := (if chanThere s n then s.set f 1 n else s).fire (0x140 + n)

/-- The newest time that the history of channel `n` shows (R372). -/
def newestTime (u : PosCh) : Nat :=
  max (match u.ring with | e :: _ => e.time | [] => 0) (match u.edge with | some (t, _, _) => t | none => 0)

/-- An entry of time `t` joins the ring of channel `n` (R372), while its history runs (R388). -/
def pushHist (n t : Nat) (mark : Bool) (s : State) : State :=
  if !chanOn s n then s
  else
    let u := s.chan n
    let e : HistEntry := {
      time := match u.ring with | x :: _ => max t x.time | [] => t
      cnt := u.cnt
      mark := mark
      ref := s.flag POS_STAT.REFOK n
      dir := s.get POS_STAT.DIR n }
    s.setChan n { u with ring := (e :: u.ring).take 16384 }

/-- The reference of channel `n` is cleared with a cause at time `t` (R369). -/
def clearRef (n cause t : Nat) (s : State) : State :=
  if s.flag POS_STAT.REFOK n then pushHist n t true ((s.set POS_STAT.REFOK 0 n).log 0x0906 [n, cause]) else s

/-- The reference of channel `n` is set (R369). -/
def setRef (n t : Nat) (s : State) : State :=
  if s.flag POS_STAT.REFOK n then s
  else pushHist n t true (((s.set POS_STAT.REFOK 1 n).fire (0x138 + n)).log 0x0907 [n])

/-- An SSI channel whose every valid frame is its own reference (R382). -/
def ownRef (s : State) (n : Nat) : Bool := s.get POS_CFG.KIND n == 3 && !s.flag POS_SSICFG.UNWRAP n

/-- The counter of channel `n` takes the value `v` by a set or a load (R362, R372, R407). -/
def setCount (n v t : Nat) (s : State) : State :=
  crossNothing n (pushHist n t true (s.setChan n { s.chan n with cnt := v % cntSpan }))

/-- `POS_IDXVAL` of channel `n`. -/
def idxValue (s : State) (n : Nat) : Nat := s.get POS_IDXVALHI.VAL n * 2 ^ 32 + s.get POS_IDXVALLO.VAL n

/-- A set of channel `n` to `POS_IDXVAL` (R362, R367, R370); `srcs` are the reference sources that it satisfies. -/
def setByIndex (n t : Nat) (srcs : List Nat) (s : State) : State :=
  let s1 := setCount n (idxValue s n) t (s.setChan n { s.chan n with dirRun := 0 })
  if srcs.contains (s1.get POS_CFG.REFSRC n) && !ownRef s1 n then setRef n t s1 else s1

/-- `POS_LATCH` of channel `n` takes the counter and the time `t` (R367, R385). -/
def posLatch (n t src : Nat) (s : State) : State :=
  let c := (s.chan n).cnt
  let f := shortForm t
  let isOver := s.flag POS_LATCHST.VALID n
  let s1 := (s.set POS_LATCHCLO.CNT c n).set POS_LATCHCHI.CNT (c / 2 ^ 32) n
  let s2 := ((s1.set POS_LATCHTLO.T f n).set POS_LATCHTHI.T (f / 2 ^ 32) n).set POS_LATCHST.SRC src n
  let s3 := if isOver then (s2.set POS_LATCHST.OVER 1 n).logRun 0x090A (0x100 + n) [0x100 + n]
    else s2.endRun 0x090A (0x100 + n)
  s3.set POS_LATCHST.VALID 1 n

/-! ### Counting (R358-R362, R370-R372) -/

/-- The live last edge of channel `n` becomes one of time `t` (R372). -/
def lastEdge (n t : Nat) (s : State) : State :=
  let u := s.chan n
  let t1 := max t (newestTime u)
  let f := shortForm t1
  let s1 := s.setChan n { u with edge := some (t1, u.cnt, s.get POS_STAT.DIR n) }
  let s2 := ((s1.set POS_LASTT.T f n 0).set POS_LASTT.T (f / 2 ^ 32) n 1).set POS_LASTC.CNT u.cnt n
  s2.set POS_STAT.STILL 0 n

/-- A counted edge against `POS_STAT.DIR` counts towards a change of it (R370). True when it changed. -/
def countDir (n : Nat) (rev : Bool) (s : State) : Bool × State :=
  let u := s.chan n
  if rev == s.flag POS_STAT.DIR n then (false, s.setChan n { u with dirRun := 0 })
  else if max 1 (s.get POS_CFG.DIRHYST n) ≤ u.dirRun + 1 then
    (true, ((s.setChan n { u with dirRun := 0 }).set POS_STAT.DIR (b2n rev) n).fire (0x128 + n))
  else (false, s.setChan n { u with dirRun := u.dirRun + 1 })

/-- Channel `n` counts one step at time `t` (R358, R370-R372, R377, R407, R415); `rev` is its direction after `DIRINV`. -/
def countEdge (n t : Nat) (rev : Bool) (s : State) : State :=
  let d : Int := if rev then -1 else 1
  let u := s.chan n
  let c := codeOf 48 ((u.cnt : Nat) + d)
  let s1 := s.setChan n { u with cnt := c, motion := u.motion + d }
  let (turned, s2) := countDir n rev s1
  let gap := match u.ring with | e :: _ => decide (e.time + s2.get POS_HISTGAP.NS n ≤ t) | [] => true
  let s3 := if gap || turned then pushHist n t false s2 else s2
  let s4 := lastEdge n t s3
  let s5 := (List.range 64).foldl (fun x e => crossEntry n t (!rev) (signedOf 48 c) e x) s4
  lineEdge n t (!rev) (signedOf 48 c) s5

/-- A count that a set on the same sample discards still moves the motion count (R362, R377). -/
def discardCount (n : Nat) (rev : Bool) (s : State) : State :=
  let u := s.chan n
  s.setChan n { u with motion := u.motion + (if rev then -1 else 1) }

/-- A phase error (R359, R360, R361). -/
def phaseError (n t : Nat) (s : State) : State :=
  let kind := s.get POS_CFG.KIND n
  let s1 := clearRef n 2 t ((posFault n POS_FAULT.PHASE s).count POS_PHCNT.COUNT n)
  (s1.setChan n { s1.chan n with dirRun := 0 }).logSec 0x0901 n [n, kind]

/-- An invalid Hall state (R360). -/
def hallInvalid (n t st : Nat) (s : State) : State :=
  (clearRef n 3 t ((posFault n POS_FAULT.HALLBAD s).count POS_HALLCNT.COUNT n)).logSec 0x0902 n [n, st]

/-- A transition on a count input (R365): too soon after the previous one it is flagged. -/
def checkInterval (n : Nat) (s : State) : State :=
  let u := s.chan n
  let cycles := (s.elapsed + 1 - u.last) / 4
  let s1 := s.setChan n { u with last := s.elapsed + 1 }
  if u.last != 0 && cycles < s.get POS_MININT.CYCLES n then
    ((posFault n POS_FAULT.FAST s1).count POS_FASTCNT.COUNT n).logSec 0x0903 n [n, cycles]
  else s1

/-- What a sample means for the counter: nothing, a step (the direction before `DIRINV`), a phase error, or an invalid
Hall state. -/
inductive Sample where
  | none
  | step (rev : Bool)
  | phase
  | hall (st : Nat)
  deriving DecidableEq, Repr

/-- The place of a Hall state in the forward order (R360). -/
def hallPlace (st : Nat) : Nat := [1, 3, 2, 6, 4, 5].findIdx (· == st)

/-- The quadrature meaning of a sample (R358, R359) with multiplier code `x`. -/
def quadStep (x : Nat) (a0 b0 a b : Bool) : Sample :=
  if a0 != a && b0 != b then .phase
  else if a0 != a then
    if x == 0 && b then .none else .step (a == b)
  else if b0 != b then
    if x ≤ 1 then .none else .step (a != b)
  else .none

/-- The Hall meaning of a sample (R360), from state `o` to state `w`. -/
def hallStep (o w : Nat) : Sample :=
  if o == w then .none
  else if w == 0 || w == 7 then .hall w
  else if o == 0 || o == 7 then .none
  else
    let d := (hallPlace w + 6 - hallPlace o) % 6
    if d == 1 then .step false else if d == 5 then .step true else .phase

/-- The meaning of a sample of a PULSEDIR channel (R361). -/
def pulseStep (a0 b0 a b : Bool) : Sample :=
  if a && !a0 then (if b != b0 then .phase else .step b) else .none

/-- The levels of channel `n` after inversion as `POS_STAT.LEVELS` holds them: 4 Z + 2 B + A. -/
def levelCode (a b z : Bool) : Nat := b2n a + 2 * b2n b + 4 * b2n z

/-- The filter delay in ns of the input whose level changed from `o` to `w` (R364): A before B before Z. -/
def filterNs (s : State) (n o w : Nat) : Nat :=
  if o % 2 != w % 2 then 4 * s.get POS_FILT.FILTA n
  else if bitAt o 1 != bitAt w 1 then 4 * s.get POS_FILT.FILTB n
  else 4 * s.get POS_FILT.FILTZ n

/-- Whether the index of channel `n` is qualified at the levels `w` (R368). -/
def qualified (s : State) (n w : Nat) : Bool :=
  bitAt w 2 && (!s.flag POS_IDXCFG.QUALEN n ||
    (w % 2 == s.get POS_IDXCFG.QUALA n && bitAt w 1 == s.flag POS_IDXCFG.QUALB n))

/-- The meaning of the change from levels `o` to `w` for channel `n` (R357). -/
def sampleStep (s : State) (n o w : Nat) : Sample :=
  match s.get POS_CFG.KIND n with
  | 0 => quadStep (s.get POS_CFG.X n) (bitAt o 0) (bitAt o 1) (bitAt w 0) (bitAt w 1)
  | 1 => hallStep o w
  | 2 => pulseStep (bitAt o 0) (bitAt o 1) (bitAt w 0) (bitAt w 1)
  | _ => .none

/-- Whether the change from `o` to `w` is a transition on a count input (R365). -/
def countInput (s : State) (n o w : Nat) : Bool :=
  match s.get POS_CFG.KIND n with
  | 0 => o % 4 != w % 4
  | 1 => o != w
  | 2 => o % 2 != w % 2
  | _ => false

/-- A qualified index becomes 1 on channel `n` at time `t` (R367); `step` is the count on the same sample. -/
def indexEvent (n t : Nat) (step : Sample) (s : State) : State :=
  let mode := s.get POS_IDXCFG.IDXMODE n
  let s1 := (s.count POS_IDXCNT.COUNT n).fire (0x130 + n)
  let sets := mode == 1 || (mode == 2 && s1.flag POS_STAT.ARMED n)
  let inv := s1.flag POS_CFG.DIRINV n
  let s2 := match step with
    | .step rev => if sets then discardCount n (rev != inv) s1 else countEdge n t (rev != inv) s1
    | _ => s1
  let s3 := if sets then setByIndex n t [0, 2] (if mode == 2 then s2.set POS_STAT.ARMED 0 n else s2) else s2
  if mode == 3 then posLatch n t 1 s3 else s3

/-- One sample of the inputs of channel `n` at the receivers (R356-R368, R393): `a`, `b` and `z` before inversion. An input
in disagree holds its level (R366). -/
def posSample (n : Nat) (a b z : Bool) (s : State) : State :=
  if !chanThere s n || !s.clk.fieldLink then s
  else
    let o := s.get POS_STAT.LEVELS n
    let w0 := levelCode (a != s.flag POS_CFG.INVA n) (b != s.flag POS_CFG.INVB n) (z != s.flag POS_CFG.INVZ n)
    let dis := (s.chan n).dis
    let w := (o &&& dis) ||| (w0 &&& (7 - dis))
    let s1 := s.set POS_STAT.LEVELS w n
    if !chanOn s1 n || o == w then s1
    else
      let t := s1.nowNs - filterNs s1 n o w
      let s2 := if o % 2 != w % 2 then toothEdge n (s1.nowNs - 4 * s1.get POS_FILT.FILTA n) (bitAt w 0) s1 else s1
      let s3 := if countInput s2 n o w then checkInterval n s2 else s2
      let step := sampleStep s3 n o w
      let s4 := match step with
        | .phase => phaseError n t s3
        | .hall st => hallInvalid n t st s3
        | _ => s3
      if s4.get POS_CFG.KIND n != 1 && s4.get POS_IDXCFG.IDXMODE n != 0 && qualified s4 n w && !qualified s4 n o then
        indexEvent n t step s4
      else
        match step with
        | .step rev => countEdge n t (rev != s4.flag POS_CFG.DIRINV n) s4
        | _ => s4

/-! ### Wire disagree (R366) -/

/-- Whether input `k` of channel `n` (0 A, 1 B, 2 Z) is checked for disagree. -/
def disChecked (s : State) (n k : Nat) : Bool :=
  chanOn s n && !s.flag POS_CFG.SE n && !(k == 1 && s.get POS_CFG.KIND n == 3)

/-- The pair of input `k` has been on one side for `POS_DISWIN` cycles (R366). -/
def wireDisagree (n k : Nat) (s : State) : State :=
  let u := s.chan n
  if !disChecked s n k || bitAt u.dis k then s
  else
    let s1 := s.setChan n { u with dis := putBits u.dis k k 1 }
    let f := if k == 0 then POS_FAULT.DISA else if k == 1 then POS_FAULT.DISB else POS_FAULT.DISZ
    (clearRef n 4 s.nowNs ((posFault n f s1).count POS_DISCNT.COUNT n)).log 0x0904 [n, k]

/-- The pair of input `k` has been complementary for `POS_DISWIN` cycles (R366). -/
def disagreeEnd (n k : Nat) (s : State) : State :=
  let u := s.chan n
  s.setChan n { u with dis := putBits u.dis k k 0 }

/-! ### POS_CTL (R362, R367, R369, R385) -/

/-- `POS_CTL.ARM`, or an event at `POS_ARM[n]` (R367). -/
def posArm (n : Nat) (s : State) : State := if s.flag POS_CFG.EN n then s.set POS_STAT.ARMED 1 n else s

/-- `POS_CTL.DISARM` (R367). -/
def posDisarm (n : Nat) (s : State) : State := s.set POS_STAT.ARMED 0 n

/-- The SOFT reference source (R369). -/
def softRef (n : Nat) (s : State) : State :=
  if s.get POS_CFG.REFSRC n == 3 && !ownRef s n then setRef n s.nowNs s else s

/-- `POS_CTL.LOAD` (R362, R369). -/
def posLoad (n : Nat) (s : State) : State :=
  softRef n (setCount n (s.get POS_CNTSETHI.VAL n * 2 ^ 32 + s.get POS_CNTSETLO.VAL n) s.nowNs s)

/-- A write of `POS_CTL` with all its bits: the load first, the latch last (R362); ARM and DISARM in one write leave ARMED
open (log entry 5). -/
def posCtlWrite (n v : Nat) (s : State) : State :=
  let s1 := if bitAt v 2 then posLoad n s else s
  let s2 := if bitAt v 3 then softRef n s1 else s1
  let s3 := match bitAt v 0, bitAt v 1 with
    | true, true =>
      let (b, t) := s2.free 1
      if t.flag POS_CFG.EN n then t.set POS_STAT.ARMED b n else posDisarm n t
    | true, false => posArm n s2
    | false, true => posDisarm n s2
    | false, false => s2
  if bitAt v 4 then posLatch n s3.nowNs 0 s3 else s3

/-- A read of `POS_CNTLO` (R363). -/
def cntRead (n : Nat) (s : State) : State :=
  let c := (s.chan n).cnt
  (s.set POS_CNTHI.CNT (codeOf 32 (signedOf 16 (c / 2 ^ 32))) n).emit (.readData (POS_CNTLO.reg.adr n) (c % 2 ^ 32))

/-- A read of the high word of a latched time clears VALID (R383, R385). -/
def latchTimeRead (probe : Bool) (k : Nat) (s : State) : State :=
  if probe then
    (s.emit (.readData (POS_PRBTHI.reg.adr k) (s.get POS_PRBTHI.T k))).set POS_PRBST.VALID 0 k
  else (s.emit (.readData (POS_LATCHTHI.reg.adr k) (s.get POS_LATCHTHI.T k))).set POS_LATCHST.VALID 0 k

/-! ### Enabling (R369, R378, R388) -/

/-- A speed slot is stored (R377). -/
def storeSlot (n : Nat) (s : State) : State :=
  let u := s.chan n
  s.setChan n { u with slots := ((match u.edge with | some (t, _, _) => t | none => 0, u.motion) :: u.slots).take 17 }

/-- Channel `n` starts to run, with a cause for its reference (R369, R378, R388). -/
def startChan (n cause : Nat) (s : State) : State :=
  let u := s.chan n
  let offs := match u.offAt with | some b => (b, s.nowNs) :: u.offs | none => u.offs
  let s1 := s.setChan n { u with last := 0, dis := 0, stored := 0, ssiNew := false, offAt := none, offs := offs }
  storeSlot n ((clearRef n cause s1.nowNs s1).set POS_STAT.SPDVALID 0 n)

/-- Channel `n` stops (R388): its SSI transaction ends and its wheels lose their source (R400). -/
def stopChan (n : Nat) (s : State) : State :=
  let u := s.chan n
  let s1 := s.setChan n { u with dis := 0, offAt := match u.offAt with | some b => some b | none => some s.nowNs }
  let s2 := (s1.set POS_STAT.ARMED 0 n).set POS_STAT.SSIBUSY 0 n
  loseSource n (setBusy (0x80 + n) false s2)

/-- A refused write of channel `n` (R390): details are the channel and the register offset. -/
def refusePos (n ofs : Nat) (s : State) : State := s.log 0x0909 [n, ofs]

/-- The inversion bits of the word `v` as they change `LEVELS`. -/
def invBits (v : Nat) : Nat := bitsOf v 19 19 + 2 * bitsOf v 20 20 + 4 * bitsOf v 21 21

/-- A write of `POS_CFG` of channel `n` (R388, R390). -/
def posCfgWrite (n v : Nat) (s : State) : State :=
  let a := POS_CFG.reg.adr n
  let old := s.rdA a
  let keys := 0x0FB80000
  let bits := s.get POS_SSICFG.BITS n
  let bad := bitAt v 31 && ((bitAt old 31 && (v &&& keys) != (old &&& keys)) ||
    (bitsOf v 27 26 == 3 && (bits < 8 || 48 < bits || 2 * s.get POS_SSITIM.HALF n ≤ s.get POS_SSITIM.SDLY n)))
  if bad then refusePos n 0x100 s
  else
    let s1 := codedWrite a v s
    let s2 := s1.set POS_STAT.LEVELS (s1.get POS_STAT.LEVELS n ^^^ (invBits old ^^^ invBits v)) n
    if bitAt v 31 && !bitAt old 31 then (if chanOn s2 n then startChan n 1 s2 else s2)
    else if !bitAt v 31 && bitAt old 31 then stopChan n s2
    else s2

/-- A write of `POS_IDXCFG` of channel `n` (R390). -/
def idxCfgWrite (n v : Nat) (s : State) : State :=
  if v % 4 != 0 && s.get POS_CFG.KIND n == 1 then refusePos n 0x104 s else codedWrite (POS_IDXCFG.reg.adr n) v s

/-- A write of `POS_SPDWIN` of channel `n` (chapter 11, registers): bits 5:0 are ignored. -/
def spdWinWrite (n v : Nat) (s : State) : State := codedWrite (POS_SPDWIN.reg.adr n) (v / 64 * 64) s

/-- The field link goes down or comes back for the position unit (R369, R388). -/
def posLinkDown (s : State) : State :=
  (List.range 8).foldl (fun t n => if t.flag POS_CFG.EN n && chanThere t n then stopChan n t else t)
    { s with pos := { s.pos with lossAt := some s.nowNs } }

def posLinkUp (s : State) : State :=
  let p := s.pos
  let s1 : State := { s with pos := { p with
    lossAt := none
    losses := match p.lossAt with | some b => (b, s.nowNs) :: p.losses | none => p.losses } }
  (List.range 8).foldl (fun t n => if chanOn t n then startChan n 5 t else t) s1

/-! ### Positions in tags (R374-R376) -/

/-- The entry E2 of R375: the oldest ring entry after twice the midpoint `m2`, or the live last edge. -/
def afterMid (u : PosCh) (m2 : Nat) : Option HistEntry :=
  match (u.ring.filter (fun e => decide (m2 < 2 * e.time))).getLast? with
  | some e => some e
  | none => match u.edge with
    | some (t, c, d) => if m2 < 2 * t then some { time := t, cnt := c, dir := d } else none
    | none => none

/-- The value of R375 between E1 and E2 at twice the midpoint, modulo 2^48. -/
def interpolate (e1 e2 : HistEntry) (m2 : Nat) : Nat :=
  let den := 2 * (e2.time - e1.time)
  let diff := signedOf 48 (cntSpan - e1.cnt + e2.cnt)
  codeOf 48 (roundDiv (signedOf 48 e1.cnt * (den : Nat) + diff * ((m2 - 2 * e1.time : Nat) : Int)) den)

/-- Whether twice the midpoint lies in one of the intervals, or in the open one. -/
def inSpans (m2 : Nat) (spans : List (Nat × Nat)) (openAt : Option Nat) : Bool :=
  spans.any (fun p => decide (2 * p.1 ≤ m2 ∧ m2 < 2 * p.2)) ||
    (match openAt with | some b => decide (2 * b ≤ m2) | none => false)

/-- The position of channel `n` at twice the midpoint `m2` for stream `st` (R375, R376): the value, whether it is
invalid, and the state with the fault of step 1. -/
def positionAt (n m2 st : Nat) (s : State) : (Nat × Bool) × State :=
  let u := s.chan n
  let bad := !chanThere s n || inSpans m2 u.offs u.offAt || inSpans m2 s.pos.losses s.pos.lossAt ||
    (match s.pos.stepAt with | some b => decide (m2 < 2 * b) | none => false)
  match u.ring.find? (fun e => decide (2 * e.time ≤ m2)) with
  | none =>
    let v := match u.ring.getLast? with | some e => e.cnt | none => u.cnt
    ((v, true), (posFault n POS_FAULT.HIST s).logSec 0x0908 n [n, st])
  | some e1 =>
    let v := match afterMid u m2 with
      | some e2 =>
        if !e1.mark && !e2.mark && e1.dir == e2.dir && e2.time - e1.time ≤ s.get POS_MAXSPAN.NS n then interpolate e1 e2 m2
        else e1.cnt
      | none => e1.cnt
    ((v, bad || !e1.ref), s)

/-! ### Speed (R377, R378) -/

/-- The speed of channel `n` in 1/16 count per second, as `POS_SPEED` reads it (R377). -/
def speedNow (s : State) (n : Nat) : Nat :=
  let u := s.chan n
  let (tn, mn) := u.slots.getD 0 (0, 0)
  let (tk, mk) := u.slots.getD 16 (0, 0)
  if s.flag POS_STAT.STILL n || tn ≤ tk then 0
  else
    let v := openDiv (16000000000 * (mn - mk)) (tn - tk)
    let quiet := match u.edge with | some (t, _, _) => s.nowNs - t | none => s.nowNs
    if s.get POS_SPDWIN.NS n < quiet then
      let lim := openDiv 16000000000 (max 1 (s.nowNs - tn))
      code32 (clampInt (-lim) lim v)
    else code32 v

/-- The slot period of channel `n` expires (R377, R378). -/
def speedSlot (n : Nat) (s : State) : State :=
  if !chanOn s n then s
  else
    let s1 := storeSlot n s
    let u := s1.chan n
    let k := min 16 (u.stored + 1)
    let s2 := s1.setChan n { u with stored := k }
    if k == 16 && (s2.get POS_CFG.KIND n != 3 || u.ssiNew) then s2.set POS_STAT.SPDVALID 1 n else s2

/-- What R375 and R376 give stream `st` at twice the midpoint `m2`, with the speeds that the encoder reads (R587). -/
def evalPosition (st seq m2 : Nat) (s : State) : PosEval × State :=
  let na := s.get POS_TAGSEL.ACH st
  let nb := s.get POS_TAGSEL.BCH st
  let ena := s.flag POS_TAGSEL.AEN st
  let enb := s.flag POS_TAGSEL.BEN st
  let ((va, ia), s1) := if ena then positionAt na m2 st s else ((0, false), s)
  let ((vb, ib), s2) := if enb then positionAt nb m2 st s1 else ((0, false), s1)
  let okA := ena && s2.flag POS_STAT.SPDVALID na
  let okB := enb && s2.flag POS_STAT.SPDVALID nb
  ({ seq := seq
     sa := speedNow s2 na
     sb := speedNow s2 nb
     valid := b2n okA + 2 * b2n okB
     posA := va % 2 ^ 32
     posB := vb % 2 ^ 32
     flags := 0x200 * b2n (ia || ib) }, s2)

/-- Positions are written to the items of stream `st` that wait for them, and to its pictures, once their midpoint has
passed by 100 ns (R375). -/
def posTagEval (st : Nat) (s : State) : State :=
  let ready := fun (t : State) (m2 : Nat) => decide (m2 + 200 < 2 * t.nowNs)
  let s1 := (evalItems s st 0).foldl (fun t it =>
    let m2 := midTwiceOf t it.body
    if !ready t m2 then t
    else
      let (e, t1) := evalPosition st it.seq m2 t
      let t2 := mapItem it.id (fun x => { x with
        body := putBody 28 e.posB (putBody 24 e.posA x.body)
        flags := x.flags ||| e.flags
        wait := x.wait - 1 }) t1
      { t2 with ven := { t2.ven with evals := (st, e) :: t2.ven.evals.filter (fun p => p.1 != st) } }) s
  s1.ven.pics.foldl (fun t q =>
    let m2 := midTwiceOf t q.body
    if !(q.stream == st && q.posWait) || !ready t m2 then t
    else
      let known := t.ven.evals.find? (fun p => p.1 == st && p.2.seq == q.seq)
      let (e, t1) := match known with
        | some p => (p.2, t)
        | none => evalPosition st q.seq m2 t
      let fill := fun x : Picture => if x.order == q.order then
          { x with
            body := putBody 28 e.posB (putBody 24 e.posA x.body)
            flags := x.flags ||| e.flags
            speed := some (e.sa, e.sb, e.valid)
            posWait := false }
        else x
      { t1 with ven := { t1.ven with pics := t1.ven.pics.map fill } }) s1

/-! ### SSI (R379-R382) -/

/-- An invalid frame or a transaction that could not start, with the cause of 0x0905 (R381). -/
def ssiBadFrame (n cause : Nat) (s : State) : State :=
  let u := s.chan n
  let s1 := (posFault n POS_FAULT.SSI (s.setChan n { u with ssiBad := u.ssiBad + 1 })).count POS_SSIERR.COUNT n
  let s2 := (s1.set POS_STAT.SSIOK 0 n).logSec 0x0905 n [n, cause]
  if max 1 (s2.get POS_SSICFG2.SSIBAD n) ≤ u.ssiBad + 1 then clearRef n 6 s2.nowNs s2 else s2

/-- A transaction of channel `n` starts, or fails with BUSY, when it is due (R380, R381). -/
def ssiPoll (n : Nat) (s : State) : State :=
  let u := s.chan n
  let poll := s.get POS_SSICFG.POLLUS n
  let due := conBusy s (0x80 + n) ||
    (poll != 0 && (match u.ssiAt with | some t => decide (t + 1000 * poll ≤ s.elapsed) | none => true))
  if !chanOn s n || s.get POS_CFG.KIND n != 3 || s.flag POS_STAT.SSIBUSY n || s.elapsed < u.pause || !due then s
  else
    let s1 := s.setChan n { u with ssiAt := some s.elapsed, ssiFall := s.nowNs }
    if bitAt (s1.get POS_STAT.LEVELS n) 0 then s1.set POS_STAT.SSIBUSY 1 n
    else ssiBadFrame n 1 (setBusy (0x80 + n) false s1)

/-- Binary from Gray code of `k` bits: each bit is the sum of the bits from it upwards. -/
def grayDecode (k v : Nat) : Nat :=
  ((List.range k).map (fun j => (v / 2 ^ j) |> fun r => 2 ^ j * (((List.range k).filter (bitAt r)).length % 2))).foldl (· + ·) 0

/-- The number of ones in the low `k` bits. -/
def onesIn (k v : Nat) : Nat := ((List.range k).filter (bitAt v)).length

/-- The invalidity cause of a frame of channel `n` (R381); 0 when it is valid. `code` is the decoded value. -/
def ssiCause (s : State) (n raw code status : Nat) (parity trail returned : Bool) : Nat :=
  let bits := s.get POS_SSICFG.BITS n
  let ns := s.get POS_SSICFG.STATUS n
  let par := s.get POS_SSICFG.PARITY n
  let odd := (onesIn bits raw + onesIn ns status + b2n parity) % 2 == 1
  let jump := s.get POS_SSIJUMP.MAXJUMP n
  let value := fun c => if s.flag POS_SSICFG.SIGNED n then signedOf bits c else ((c : Nat) : Int)
  let diff : Int := match (s.chan n).ssiLast with
    | none => 0
    | some p => if s.flag POS_SSICFG.UNWRAP n then signedOf bits (code + 2 ^ bits - p) else value code - value p
  if trail then 2
  else if !returned then 3
  else if (par == 1 && odd) || (par == 2 && !odd) then 4
  else if (status % 2 ^ ns &&& s.get POS_SSICFG2.ERRMASK n) != 0 then 5
  else if jump != 0 && jump < diff.natAbs then 6
  else 0

/-- A valid frame of channel `n` with the decoded value `code` (R380, R382). -/
def ssiValid (n code : Nat) (s : State) : State :=
  let u := s.chan n
  let bits := s.get POS_SSICFG.BITS n
  let unwrap := s.flag POS_SSICFG.UNWRAP n
  let value := fun c => if s.flag POS_SSICFG.SIGNED n then signedOf bits c else ((c : Nat) : Int)
  let diff : Int := match u.ssiLast with
    | none => 0
    | some p => if unwrap then signedOf bits (code + 2 ^ bits - p) else value code - value p
  let c := if unwrap && u.ssiLast.isSome then codeOf 48 ((u.cnt : Nat) + diff) else codeOf 48 (value code)
  let t := u.ssiFall + s.get POS_SSILAT.NS n
  let s1 := s.setChan n { u with
    cnt := c
    motion := u.motion + diff
    ssiLast := some code
    ssiNew := true
    ssiBad := 0 }
  let s2 := (pushHist n t false s1).count POS_SSICNT.COUNT n
  let s3 := crossNothing n ((lastEdge n t s2).fire (0x148 + n))
  let s4 := if !unwrap || u.ssiLast.isNone then setRef n t s3 else s3
  let s5 := s4.set POS_STAT.SSIOK 1 n
  if (s5.chan n).stored == 16 then s5.set POS_STAT.SPDVALID 1 n else s5

/-- A transaction of channel `n` ends (R379-R382): the data bits as read, the status bits (bit j is status bit j), the
parity bit, the trailing sample, and whether the line returned high within `TMMAX`. -/
def ssiDone (n raw0 status : Nat) (parity trail returned : Bool) (s : State) : State :=
  if !s.flag POS_STAT.SSIBUSY n then s
  else
    let raw := raw0 % 2 ^ s.get POS_SSICFG.BITS n
    let code := if s.flag POS_SSICFG.GRAY n then grayDecode (s.get POS_SSICFG.BITS n) raw else raw
    let cause := ssiCause s n raw code status parity trail returned
    let s1 := setBusy (0x80 + n) false (s.set POS_STAT.SSIBUSY 0 n)
    let s2 := s1.setChan n { s1.chan n with pause := s1.elapsed + 4 * s1.get POS_SSITIM2.TPAUSE n }
    if cause == 0 then ssiValid n code s2 else ssiBadFrame n cause s2

/-! ### Probes (R383, R384) -/

/-- A filtered edge of probe `k` (R383, R384). -/
def probeEdge (k : Nat) (rising : Bool) (s : State) : State :=
  let sel := s.get POS_PRBCFG.EDGE k
  if !chanThere s k || sel == 3 || (sel == 0 && !rising) || (sel == 1 && rising) || !s.clk.fieldLink || !s.clk.timeUp then s
  else
    let n := s.get POS_PRBCFG.CH k
    let t := s.nowNs - 4 * s.get POS_PRBCFG.FILT k
    let act := s.get POS_PRBCFG.ACTION k
    let home := chanOn s n && (act == 1 || (act == 2 && s.flag POS_STAT.ARMED n))
    let s1 := if home then
        setByIndex n t [1, 2] (if act == 2 then s.set POS_STAT.ARMED 0 n else s)
      else s
    let c := (s1.chan n).cnt
    let f := shortForm t
    let s2 := (s1.set POS_PRBCLO.CNT c k).set POS_PRBCHI.CNT (c / 2 ^ 32) k
    let s3 := ((s2.set POS_PRBTLO.T f k).set POS_PRBTHI.T (f / 2 ^ 32) k).fire (0x150 + k)
    let s4 := if s3.flag POS_PRBST.VALID k then (s3.set POS_PRBST.OVER 1 k).logRun 0x090A k [k] else s3.endRun 0x090A k
    s4.set POS_PRBST.VALID 1 k

/-! ### Pass-through (R386, R387) -/

/-- The level of the non-inverting line of pass-through output `k` of channel `n` (0 OA, 1 OB, 2 OZ), without the delay of
R386; the SSI clock of `OA` is shown at its idle level. -/
def passLevel (s : State) (n k : Nat) : Bool :=
  let mode := if k == 0 then s.get POS_PTCFG.OA n else if k == 1 then s.get POS_PTCFG.OB n else s.get POS_PTCFG.OZ n
  let src := s.get POS_PTCFG.SRCCH n
  if (k == 0 && s.get POS_CFG.KIND n == 3) || inService s || !s.clk.fieldLink || !(mode == 1 || mode == 2) ||
      !chanOn s src then true
  else bitAt (s.get POS_STAT.LEVELS src) k

/-! ### Steps and derivation (R373, R391) -/

/-- What an applied step of `d`, in 2^-32 ns, does to the channels (R373). -/
def posStep (d : Int) (s : State) : State :=
  let m := moveBy (d / (subNs : Nat))
  let moveChan := fun (t : State) (n : Nat) =>
    let u := t.chan n
    let t1 := t.setChan n { u with
      ring := (u.ring.take 1).map (fun e => { e with time := m e.time })
      edge := u.edge.map (fun e => (m e.1, e.2))
      slots := u.slots.map (fun e => (m e.1, e.2))
      offAt := u.offAt.map m
      offs := u.offs.map (fun e => (m e.1, m e.2)) }
    match u.edge with
    | some (x, _, _) =>
      let f := shortForm (m x)
      (t1.set POS_LASTT.T f n 0).set POS_LASTT.T (f / 2 ^ 32) n 1
    | none => t1
  let s1 := (List.range 8).foldl moveChan s
  { s1 with pos := { s1.pos with
    losses := s1.pos.losses.map (fun e => (m e.1, m e.2))
    lossAt := s1.pos.lossAt.map m
    stepAt := some s1.nowNs } }

/-- The SSI rate in Hz (chapter 11, registers). -/
def ssiRate (code : Nat) : Nat := [125000, 250000, 500000, 1000000, 2500000, 5000000].getD code 1000000

/-- The derived fields of channel `n` (R391). -/
def deriveChan (n : Nat) (s : State) : State :=
  let f := [0, 2, 4, 8].getD (s.get POS_CFG.NOISE n) 0
  let s1 := ((s.set POS_FILT.FILTA f n).set POS_FILT.FILTB f n).set POS_FILT.FILTZ f n
  let win := 131072 * 2 ^ s.get POS_MOTION.SPDWIN n
  let s2 := ((s1.set POS_MININT.CYCLES (5 + f) n).set POS_SPDWIN.NS win n).set POS_HISTGAP.NS
    (4 * ceilDiv (max 1 (s.get POS_MOTION.SPAN n) * 1000000) 65536) n
  let poll := s.get POS_SSICFG.POLLUS n
  let span := if s.get POS_CFG.KIND n == 3 && poll != 0 then 4000 * poll else win
  let half := 125000000 / ssiRate (s.get POS_SSICFG.RATE n)
  let s3 := (((s2.set POS_MAXSPAN.NS span n).set POS_DISWIN.CYCLES 250 n).set POS_SSITIM.HALF half n).set POS_SSITIM.SDLY
    (ceilDiv (10 * s.get POS_SSICFG2.CABLE n + 40) 4) n
  (s3.set POS_SSITIM2.TMMAX 40 n).set POS_SSITIM2.TPAUSE (2 * half) n

/-- Every derived field of `POS`, on the channels that are there. -/
def derivePos (s : State) : State := (List.range 8).foldl (fun t n => if chanThere t n then deriveChan n t else t) s

/-! ### Rows that are no register access -/

def execPosTransition (n : Fin 8) (a b z : Bool) (s : State) : Out := .next (posSample n.val a b z s)
def execPosIndex (n : Fin 8) (a b z : Bool) (s : State) : Out := .next (posSample n.val a b z s)
def execWireDisagree (n : Fin 8) (k : Fin 3) (s : State) : Out := .next (wireDisagree n.val k.val s)
def execWireDisagreeEnd (n : Fin 8) (k : Fin 3) (s : State) : Out := .next (disagreeEnd n.val k.val s)
def execPosTagEval (st : Fin 64) (s : State) : Out := .next (posTagEval st.val s)
def execSpeedSlot (n : Fin 8) (s : State) : Out := .next (speedSlot n.val s)
def execPosStillTimeout (n : Fin 8) (s : State) : Out :=
  .next (if chanOn s n.val then s.set POS_STAT.STILL 1 n.val else s)
def execSsiPoll (n : Fin 8) (s : State) : Out := .next (ssiPoll n.val s)
def execSsiFrameDone (n : Fin 8) (data : BitVec 48) (status : BitVec 7) (parity trail returned : Bool) (s : State) : Out :=
  .next (ssiDone n.val data.toNat status.toNat parity trail returned s)
def execProbeEdge (k : Fin 8) (rising : Bool) (s : State) : Out := .next (probeEdge k.val rising s)

end Sys2Proof.Machine
end

