-- ==== Sys2Proof/Machine/Btm.lean ====
section
/-! DEFINITION. The beat matrix at work (chapter 13): the events of one instant on their beats, the crossings of R49, busy
consumers, what every consumer does with an event, chime cells, and the registers that change selections. -/

namespace Sys2Proof.Machine

/-! ### Domains and crossings (R48, R49, R426, R429, R430) -/

/-- The clock domain of a producer (R426): 0 `CLK_CORE`, 1 `CLK_TIME`, 2 `CLK_ENC`, 3 `CLK_HOST`, 4 `CLK_VENC`, 5
`CLK_PARn`, 6 `CLK_CFG`, 7 a pin level. -/
def prodDomain (s : State) (p : Nat) : Nat :=
  if pinLevelProducer s p then 7
  else if p == 4 || p == 5 || (0x2F0 ≤ p && p ≤ 0x2FF) || 0x3E0 ≤ p then 6
  else if 0x110 ≤ p && p ≤ 0x115 then 5
  else if 0x128 ≤ p && p ≤ 0x157 then 2
  else if (0x10 ≤ p && p ≤ 0x1F) || (0x160 ≤ p && p ≤ 0x1B3) || (0x1E0 ≤ p && p ≤ 0x1E7) || (0x2A0 ≤ p && p ≤ 0x2E3) then 1
  else if 0x250 ≤ p && p ≤ 0x253 then 3
  else if 0x260 ≤ p && p ≤ 0x29F then 4
  else 0

/-- The clock period of a domain in 1/100 ns (R43); `CLK_PARn` at its highest frequency. -/
def domainPeriod (d : Nat) : Nat :=
  match d with
  | 1 => 200
  | 2 => 400
  | 3 => 100
  | 4 => 143
  | 5 => 400
  | 6 => 1000
  | _ => 250

/-- Consumer `i` runs in `CLK_TIME` (R429). -/
def timeConsumer (i : Nat) : Bool := (0x48 ≤ i && i ≤ 0x63) || (0x88 ≤ i && i ≤ 0x8C) || (0x90 ≤ i && i ≤ 0xCF)

/-- The unit that owns consumer `i`. -/
def consumerUnit (i : Nat) : Nat :=
  if i < 0x40 then 6 else if i < 0x48 then 7 else if i < 0x68 then 12 else if i < 0x70 then 4
  else if i < 0x88 then 9 else if i < 0x8D then 10 else if i == 0x8D then 1 else if i < 0xD0 then 16
  else if i < 0xE0 then 17 else if i < 0x100 then 15 else if i < 0x1A0 then 11 else if i < 0x1C0 then 13 else 11

/-- The bit of `CFG_URST` for unit `u` (R73); 31, which reads 0, for a unit without one. -/
def urstBit (u : Nat) : Nat := if u < 4 || u == 14 || 18 < u then 31 else if u < 14 then u - 4 else u - 5

/-- A unit reset of unit `u` runs (R73). -/
def unitHeld (s : State) (u : Nat) : Bool := bitAt (s.rdA CFG_URST.reg.base) (urstBit u)

/-- A pulse reaches crossing `k`, whose synchroniser is busy for `span` after each pulse that it takes: carried, held as
the one pending pulse, or merged and counted (R48, R49; log entry 61). -/
def crossing (k span : Nat) (s : State) : Bool × State :=
  let e := 100 * s.elapsed
  let u := tget 0 s.btm.busy k
  let put (v : Nat) : State := ({ s with btm := { s.btm with busy := tput 0 s.btm.busy k v } } : State).endRun 0x030B k
  if u ≤ e then (true, put (e + span))
  else if u - e ≤ span then (true, put (u + span))
  else (false, (s.count CLK_XOVR.COUNT).logRun 0x030B k [k])

/-! ### Busy consumers (R438-R440) -/

/-- What consumer `i` latches of event `f` (R440, R460): the instant of a `TWS_FIRE`, the tick of another `CLK_TIME` or
`CLK_ENC` producer, else the present. -/
def latchOf (s : State) (f : Fired) (soft : Bool) : Latch :=
  let d := prodDomain s f.prod
  let fire := !soft && 0x160 ≤ f.prod && f.prod ≤ 0x19F
  let own := !soft && (d == 1 || d == 2)
  {
    time := if own then shortForm (f.time / subNs) else shortForm s.nowNs
    flags := (if soft then 0 else f.flags % 4) + 16 * b2n s.unsync
    inst := if fire then s.phys8 + ((f.time / 2 ^ 29 : Nat) : Int) - (s.now8 : Int) else s.phys8 + 192 }

/-- Whether the owner of consumer `i` takes events now (R113-R117, R280, R313, R453, R461, R465, R484, R622); the events
of one that does not are discarded. -/
def consumerTakes (s : State) (i : Nat) : Bool :=
  if unitHeld s (consumerUnit i) then false
  else if timeConsumer i && !s.clk.timeUp then false
  else if i < 0x40 then s.flag CLP_STREAM0.EN i && streamOpen s i
  else if i < 0x42 then s.flag PAR_STREAM.EN (i - 0x40) && streamOpen s (s.get PAR_STREAM.STREAM (i - 0x40))
  else if 0x48 ≤ i && i < 0x58 then s.flag OUT_TCFG.EN (i - 0x48)
  else if 0x58 ≤ i && i < 0x60 then s.flag OUT_SCFG.EN (i - 0x58)
  else if 0x80 ≤ i && i < 0x88 then chanOn s (i - 0x80) && s.get POS_CFG.KIND (i - 0x80) == 3
  else if 0x90 ≤ i && i < 0xD0 then s.flag DRL_RCFG0.EN (i - 0x90)
  else if 0x1A0 ≤ i && i < 0x1B0 then s.flag QUE_EVCFG.EN (i - 0x1A0)
  else if 0x1C0 ≤ i then s.flag BTM_HN.EN (i - 0x1C0)
  else true

/-- Host-notify consumer `h` accepts an event (R453): the status bit, and the message when it is due. -/
def notifyAccept (h : Nat) (s : State) : State :=
  let was := bitAt (s.get BTM_HNSTAT.STAT (h / 32)) (h % 32)
  let s1 := s.set BTM_HNSTAT.STAT (s.get BTM_HNSTAT.STAT (h / 32) ||| 2 ^ (h % 32)) (h / 32)
  if was && !s1.flag BTM_HN.EVERY h then s1
  else
    let s2 := requestMessage 1 h (s1.get BTM_HN.VECTOR h) s1
    if s2.hbr.heldMsgs.any (fun m => m.source == 1 && m.index == h) then setBusy (0x1C0 + h) true s2 else s2

/-- An event at `TWS_LSCUT` (R419): the assembled frame closes after the block in progress. -/
def lineCut (s : State) : State :=
  match s.src.asm with
  | none => s
  | some a =>
    if blockOpen s (s.get TWS_LSASM.STREAM) then { s with src := { s.src with asm := some { a with cut := true } } }
    else settleStream (s.get TWS_LSASM.STREAM) (closeAssembly 0 s)

/-- Consumer `i` accepts an event with the latch `lat`, whose tick was at `t` (R438); `held` says that it was held before.
A stream trigger of `CLP` only becomes busy here: its TRIGGER follows with those of the same instant (R283). -/
def acceptEvent (i : Nat) (lat : Latch) (t : Nat) (held : Bool) (s0 : State) : State :=
  let s := s0.setCon i { s0.con i with latch := lat }
  if i < 0x40 then setBusy i true s
  else if i < 0x42 then
    setBusy i true (s.setPort (i - 0x40) { s.port (i - 0x40) with trig := some (lat.time, lat.flags) })
  else if i < 0x58 then trigAccept (i - 0x48) lat held s
  else if i < 0x60 then strobeAccept (i - 0x58) lat held s
  else if i < 0x64 then analogUpdate (i - 0x60) s
  else if i < 0x70 then timCapture (i - 0x68) t s
  else if i < 0x78 then posLatch (i - 0x70) (t / subNs) 0 s
  else if i < 0x80 then posArm (i - 0x78) s
  else if i < 0x88 then setBusy i true s
  else if i < 0x8C then loseWheel (i - 0x88) 1 4 s
  else if i == 0x8C then lineCut s
  else if i == 0x8D then
    if s.flag GLB_GOTOCFG.EN then requestMode (s.get GLB_GOTOCFG.MODE) 1 s else s
  else if i < 0xD0 then setBusy i true (raiseEvent (i - 0x90) lat.time s)
  else if i < 0xE0 then bwSend (i - 0xD0) (setBusy i true s)
  else if i < 0x100 then onVen (fun t => t.set VEN_CSTAT.IDRPEND 1 (i - 0xE0)) s
  else if i < 0x1B0 then
    let k := i - 0x1A0
    let src := s.get BTM_BEAT.SRC (s.get BTM_CSEL.BEAT i)
    eventItem 4 k (s.get QUE_EVCFG.STREAM k) lat.time (0x0B * 2 ^ 24 + k * 2 ^ 16 + src) (latchFlags lat.flags)
      (setBusy i true s)
  else notifyAccept (i - 0x1C0) s

/-- The record of a lost event at consumer `i` (R438, R439). -/
def loseEvent (i : Nat) (s : State) : State :=
  let s1 := (s.set BTM_CSEL.OVR 1 i).set BTM_OVR.OVR (s.get BTM_OVR.OVR (i / 32) ||| 2 ^ (i % 32)) (i / 32)
  if i < 0x40 then s1.logRun 0x0608 i [i]
  else if i < 0x42 then s1.logRun 0x0706 (i - 0x40) [i - 0x40]
  else s1.logRun 0x0B01 i [i, s1.get BTM_CSEL.BEAT i]

/-- The run of losses at consumer `i` ends (R439). -/
def endLossRun (i : Nat) (s : State) : State :=
  if i < 0x40 then s.endRun 0x0608 i else if i < 0x42 then s.endRun 0x0706 (i - 0x40) else s.endRun 0x0B01 i

/-- An event reaches consumer `i` (R438). The answer says whether a stream trigger of `CLP` accepted it. An event at a
host-notify consumer counts also while the consumer is busy (R455; log entry 62). -/
def offerEvent (i : Nat) (f : Fired) (soft : Bool) (s0 : State) : Bool × State :=
  if !consumerTakes s0 i then (false, s0)
  else
    let lat := latchOf s0 f soft
    let own := !soft && (prodDomain s0 f.prod == 1 || prodDomain s0 f.prod == 2)
    let h := i - 0x1C0
    let s := if 0x1C0 ≤ i then s0.count BTM_HNCNT.COUNT h else s0
    if !conBusy s i then (decide (i < 0x40), acceptEvent i lat (if own then f.time else s.now) false (endLossRun i s))
    else
      let s1 := if 0x1C0 ≤ i then
          s.set BTM_HNSTAT.STAT (s.get BTM_HNSTAT.STAT (h / 32) ||| 2 ^ (h % 32)) (h / 32) else s
      if s1.flag BTM_CSEL.PEND i && (s1.con i).held.isNone then
        let c := s1.con i
        (false, ((endLossRun i s1).setCon i { c with held := some lat, latch := lat }).set BTM_CSEL.PENDING 1 i)
      else (false, loseEvent i s1)

/-! ### Chime cells (R446-R452) -/

/-- The synchronous cells that are enabled, in rising order. -/
def syncCells (s : State) : List Nat :=
  ((s.regs.filter (fun e => within e.1 0x603000 0x603200 && e.1 % 16 == 0 && bitAt e.2.toNat 31 && !bitAt e.2.toNat 30)).map
    (fun e => (e.1 - 0x603000) / 16)).filter (cellThere s)

/-- The hidden state of cell `c`. -/
def State.cell (s : State) (c : Nat) : CellSt := tget {} s.btm.cells c
def State.setCell (s : State) (c : Nat) (u : CellSt) : State :=
  { s with btm := { s.btm with cells := tput {} s.btm.cells c u } }

/-- Input `j` of a cell with input mode `m` (R446): its value, from its state `x` and whether an event arrives. -/
def cellInput (m : Nat) (x hit fired : Bool) : Bool :=
  match m with
  | 1 => if hit then !x else x
  | 2 => hit || (x && !fired)
  | _ => hit

/-- The filtered level of cell `c` becomes `b`; a rise fires `CHIME[c]` (R450). -/
def setCellLevel (c : Nat) (b : Bool) (s : State) : State :=
  let rise := b && !s.flag BTM_CELL2.LEVEL c
  let s1 := (s.set BTM_CELL2.LEVEL (b2n b) c).setCell c { s.cell c with fired := rise }
  if rise then (s1.count BTM_CELL3.FIRES c).fire (0x1C0 + c) else s1

/-- One `CLK_CORE` cycle of cell `c` (R446-R450): `hits` are the consumer inputs that an event reaches. -/
def cellCycle (hits : List Nat) (c : Nat) (s : State) : State :=
  let u := s.cell c
  let modes := s.get BTM_CELL1.INMODE c
  let val := fun j => cellInput (bitsOf modes (2 * j + 1) (2 * j)) (bitAt u.x j) (hits.contains (0x100 + 4 * c + j)) u.fired
  let keep := fun j => val j && (bitsOf modes (2 * j + 1) (2 * j) == 1 || bitsOf modes (2 * j + 1) (2 * j) == 2)
  let l := bitAt (s.get BTM_CELL1.TRUTH c) (tableIndex val)
  let q := s.flag BTM_CELL2.Q c
  let ff := s.flag BTM_CELL0.FF c
  let pre := if ff then q else l
  let takes := ff && (!s.flag BTM_CELL0.CEEN c || hits.contains (0x180 + c))
  let s1 := if takes then s.set BTM_CELL2.Q (b2n l) c else s
  let level := s1.flag BTM_CELL2.LEVEL c
  let n := max 1 (s1.get BTM_CELL0.FILTN c)
  let v : CellSt := { u with x := tableIndex keep, pre := pre, fired := false }
  match s1.get BTM_CELL0.FILT c with
  | 1 =>
    if pre == level then s1.setCell c { v with counting := false }
    else if n == 1 && !s1.flag BTM_CELL0.FILTUS c then setCellLevel c pre (s1.setCell c { v with counting := false })
    else s1.setCell c { v with counting := true }
  | 2 =>
    if pre && !level then setCellLevel c true (s1.setCell c { v with counting := true })
    else if !pre && level && !u.counting then setCellLevel c false (s1.setCell c v)
    else s1.setCell c v
  | _ => setCellLevel c pre (s1.setCell c { v with counting := false })

/-- The cells over the cycle in which `hits` arrive, and over the quiet cycles that follow until they rest (log entry
63). -/
def runCells (hits : List Nat) (s : State) : State :=
  let cs := syncCells s
  let cycle := fun (h : List Nat) (t : State) => cs.foldl (fun u c => cellCycle h c u) t
  if cs == [] then s else applyN (cycle []) 4 (cycle hits s)

/-- The filter count of cell `c` ends (R449). -/
def chimeExpiry (c : Nat) (s : State) : State :=
  let u := s.cell c
  if !(syncCells s).contains c || !u.counting then s
  else
    let s1 := s.setCell c { u with counting := false }
    match s1.get BTM_CELL0.FILT c with
    | 1 => runCells [] (setCellLevel c u.pre s1)
    | 2 => if u.pre then s1 else runCells [] (setCellLevel c false s1)
    | _ => s1

/-! ### Delivery (R424, R430, R433, R444, R445) -/

/-- Beat `b` has an event on its `CLK_CORE` cycle: its flag and the watches on it (R444, R445). -/
def noteBeat (b : Nat) (s : State) : State :=
  let s1 := s.set BTM_FLAG.FLAG (s.get BTM_FLAG.FLAG (b / 32) ||| 2 ^ (b % 32)) (b / 32)
  let f := shortForm s.nowNs
  (List.range 4).foldl (fun t k =>
    if t.flag BTM_WATCHCFG.EN k && t.get BTM_WATCHCFG.BEAT k == b then
      ((t.count BTM_WATCHCNT.COUNT k).set BTM_WATCHLO.LAST f k).set BTM_WATCHHI.LAST (f / 2 ^ 32) k
    else t) s1

/-- One event on beat `b` (R430, R434, R437): the chime inputs it reaches, and the stream triggers that accepted it. -/
def beatEvent (b : Nat) (f : Fired) (soft : Bool) (a : State × List Nat × List Nat) : State × List Nat × List Nat :=
  let (s, hits, trigs) := a
  let d := if soft then 0 else prodDomain s f.prod
  let (core, s1) := if d == 0 || d == 7 then (true, s) else crossing b (750 + 3 * domainPeriod d) s
  let s2 := if core then noteBeat b s1 else s1
  let mine := (selecting s2).filter (fun i => s2.get BTM_CSEL.BEAT i == b && (soft || !eligiblePair s2 b i))
  let (time, s3) :=
    if d == 1 || d == 2 then (true, s2)
    else if core && mine.any timeConsumer then crossing (0x100 + b) 1350 s2
    else (core, s2)
  mine.foldl (fun acc i =>
    let (t, hs, ts) := acc
    if 0x100 ≤ i && i < 0x1A0 then (t, if core then hs ++ [i] else hs, ts)
    else if (if timeConsumer i then time else core) then
      let (clp, t1) := offerEvent i f soft t
      (t1, hs, if clp then ts ++ [i] else ts)
    else acc) (s3, hits, trigs)

/-- The triggers that streams accepted at one instant, one TRIGGER to each group (R283). -/
def sendTriggers (sts : List Nat) (s : State) : State :=
  (List.range 16).foldl (fun t g =>
    let mine := sts.filter (fun st => t.get CLP_STREAM0.GROUP st == g)
    match mine with
    | st :: _ => queueTrigger g mine (t.con st).latch t
    | [] => t) s

/-- Consumers that were busy for one frame only are idle again before a later instant (R438, R622; log entry 64). -/
def settleMomentary (s : State) : State :=
  let ks := (s.regs.filter (fun e => within e.1 (0x602000 + 4 * 0x90) (0x602000 + 4 * 0xD0) && bitAt e.2.toNat 28)).map
    (fun e => (e.1 - 0x602000) / 4)
  ks.foldl (fun t i =>
    let c := t.con i
    let t1 := setBusy i false t
    match c.held with
    | some lat => acceptEvent i lat t.now true (endLossRun i ((t1.setCon i { c with held := none }).set BTM_CSEL.PENDING 0 i))
    | none => t1) s

/-- The events `evs` of one instant, each on its beat. -/
def deliverBatch (evs : List (Nat × Fired)) (soft : Bool) (s : State) : State :=
  if !s.clk.coreUp || unitHeld s 11 then s
  else
    let s0 := settleMomentary s
    let (s1, hits, trigs) := evs.foldl (fun a e => beatEvent e.1 e.2 soft a) (s0, [], [])
    runCells hits (sendTriggers trigs s1)

/-- The first events of `fs` that share one instant and come from different producers (R433). -/
def sameInstant (seen : List Nat) (t : Nat) : List Fired → List Fired
  | [] => []
  | f :: rest => if f.time == t && !seen.contains f.prod then f :: sameInstant (f.prod :: seen) t rest else []

/-- The oldest producer events that have not been carried yet are carried (R424, R430; log entry 2). -/
def beatEvents (s : State) : State :=
  match s.fired with
  | [] => s
  | f :: _ =>
    let batch := sameInstant [] f.time s.fired
    let s1 : State := { s with fired := s.fired.drop batch.length }
    deliverBatch (batch.foldl (fun l g =>
      if pinLevelProducer s1 g.prod then l else l ++ (beatsFrom s1 g.prod).map (fun b => (b, g))) []) false s1

/-- A pin of the matrix changes to `level` (R432, R434): beats of pin-level producers fire on their edges. -/
def pinChange (k : Nat) (level : Bool) (s0 : State) : State :=
  let s := seeGuards s0
  let prods := (List.range 9).map (0x300 + ·) ++ ((List.range 32).filter (cellAsync s)).map (0x1C0 + ·)
  let old := prods.map (fun p => (p, prodLevel s p))
  let s1 : State := { s with btm := { s.btm with pins := putBits s.btm.pins k k (b2n level) } }
  let hit (b : Nat) (rise : Bool) : Bool :=
    match s1.get BTM_BEAT.EDGE b with
    | 1 => !rise
    | 2 => true
    | _ => rise
  let evs := old.foldl (fun l e =>
    let now := prodLevel s1 e.1
    if now == e.2 then l
    else l ++ ((beatsFrom s1 e.1).filter (fun b => hit b now)).map (fun b => (b, (⟨e.1, s1.now, 0⟩ : Fired)))) []
  deliverBatch evs false s1

/-- Consumer `i` has become idle and accepts the event it holds (R438). A consumer that no longer takes events discards
it. -/
def heldAccept (i : Nat) (s : State) : State :=
  let s0 := if 0x90 ≤ i && i < 0xD0 then setBusy i false s else s
  let c := s0.con i
  match c.held with
  | none => s0
  | some lat =>
    if conBusy s0 i then s0
    else
      let s1 := (s0.setCon i { c with held := none }).set BTM_CSEL.PENDING 0 i
      if !consumerTakes s1 i then s1
      else
        let s2 := acceptEvent i lat s1.now true (endLossRun i s1)
        if i < 0x40 then sendTriggers [i] s2 else s2

/-! ### Registers (R441-R443, R452, R455) -/

/-- A write of `BTM_FIRE[k]` (R443). -/
def softFire (k v : Nat) (s : State) : State :=
  let bs := ((List.range 32).filter (bitAt v)).map (32 * k + ·)
  deliverBatch (bs.map (fun b => (b, (⟨0, s.now, 0⟩ : Fired)))) true s

/-- The stream whose trigger consumer is `i` is checked again (R115). -/
def recheckConsumer (i : Nat) (s : State) : State :=
  if i < 0x40 then settleAssembly (recheckStream i s)
  else if i < 0x42 then settleAssembly (recheckStream (s.get PAR_STREAM.STREAM (i - 0x40)) s)
  else s

/-- A write of `BTM_CSEL[i]` (R429, R438, R441). -/
def cselWrite (i v : Nat) (s0 : State) : State :=
  if !consumerThere i then s0
  else
    let s := seeGuards s0
    let pend := if pendFree i then b2n (bitAt v 30) else s.get BTM_CSEL.PEND i
    let s1 := ((s.set BTM_CSEL.EN (v / 2 ^ 31) i).set BTM_CSEL.PEND pend i).set BTM_CSEL.BEAT v i
    let s2 := if bitAt v 29 then
        (s1.set BTM_CSEL.OVR 0 i).set BTM_OVR.OVR (putBits (s1.get BTM_OVR.OVR (i / 32)) (i % 32) (i % 32) 0) (i / 32)
      else s1
    let s3 := if !bitAt v 31 || pend == 0 then dropHeld i s2 else s2
    recheckConsumer i (refreshAsync s3)

/-- A write of `BTM_BEAT[b]` (R442, R115). -/
def beatSrcWrite (b v : Nat) (s0 : State) : State :=
  let s1 := refreshAsync (codedWrite (BTM_BEAT.reg.adr b) v (seeGuards s0))
  ((selecting s1).filter (fun i => i < 0x42 && s1.get BTM_CSEL.BEAT i == b)).foldl (fun t i => recheckConsumer i t) s1

/-- A write of word 0 of chime cell `c` (R452). -/
def cellWrite (c v : Nat) (s0 : State) : State :=
  let s := seeGuards s0
  let was := s.flag BTM_CELL0.EN c
  let s1 := codedWrite (BTM_CELL0.reg.adr c) v s
  let s2 := if bitAt v 31 && !was then
      ((s1.setCell c {}).set BTM_CELL2.LEVEL 0 c).set BTM_CELL2.Q (b2n (bitAt v 27)) c
    else if !bitAt v 31 then (s1.setCell c {}).set BTM_CELL2.LEVEL 0 c
    else s1
  runCells [] (refreshAsync s2)

/-- A write of `BTM_HNSTAT[k]` (R455): a cleared bit drops the message that its consumer holds. -/
def hnStatWrite (k v : Nat) (s : State) : State :=
  let s1 := codedWrite (BTM_HNSTAT.reg.adr k) v s
  ((List.range 32).filter (bitAt v)).foldl (fun t j =>
    let h := 32 * k + j
    if t.hbr.heldMsgs.any (fun m => m.source == 1 && m.index == h) then setBusy (0x1C0 + h) false (dropMessage 1 h t) else t) s1

/-- A write of `BTM_OVR[k]`, which mirrors `BTM_CSEL.OVR`. -/
def ovrWrite (k v : Nat) (s : State) : State :=
  ((List.range 32).filter (bitAt v)).foldl (fun t j =>
    if t.flag BTM_CSEL.OVR (32 * k + j) then t.set BTM_CSEL.OVR 0 (32 * k + j) else t) (codedWrite (BTM_OVR.reg.adr k) v s)

/-- The reset of `BTM` (R457): registers, held events, cell states and pending host-notify messages. -/
def resetBtm (s : State) : State :=
  let s1 := s.clearRegs 0x600000 0x680000
  let s2 : State := { s1 with btm := { s1.btm with cons := [], cells := [], busy := [] } }
  { s2 with hbr := { s2.hbr with heldMsgs := s2.hbr.heldMsgs.filter (fun m => m.source != 1) } }

def execBeatEvent (pin : Option (Fin 9 × Bool)) (s : State) : Out :=
  .next (match pin with
    | some (k, level) => pinChange k.val level s
    | none => beatEvents s)
def execHeldEventAccept (i : Fin 512) (s : State) : Out := .next (heldAccept i.val s)
def execChimeFilterExpiry (c : Fin 32) (s : State) : Out := .next (chimeExpiry c.val s)

end Sys2Proof.Machine
end

