-- ==== Sys2Proof/Machine/Clocks.lean ====
section
/-! DEFINITION. Clocks and resets (chapter 2, R28, R29, R71, R550, R684): what each reset clears, the release of the domains,
the measurement of `TREF`, lost clocks and locks, and the start of a loader run. -/

namespace Sys2Proof.Machine

/-! ### The flash as the loader finds it (R76, R102, R103) -/

/-- The derived `CFG_FTIM` (R103). The SAMPLE of 200 MHz, which R103 calls ignored, and the row of a reserved `FREQ` are
open. -/
def deriveFtim (s : State) : State :=
  let put (div sample high : Nat) (t : State) : State :=
    ((t.set CFG_FTIM.CLKDIV div).set CFG_FTIM.SAMPLE sample).set CFG_FTIM.CSHIGH high
  match s.get CFG_FSPEED.FREQ with
  | 0 => put 4 4 2 s
  | 1 => put 8 4 2 s
  | 2 => put 6 6 2 s
  | 3 => put 4 6 3 s
  | 4 => put 3 6 4 s
  | 5 =>
    let (x, t) := s.free 4
    put 2 x 6 t
  | _ =>
    let (x, t) := s.free 12
    put x (x / 16) (x / 256) t

/-- `CFG_FSPEED` takes `v`, and `CFG_FTIM` follows at the basic level. -/
def setFspeed (v : Nat) (s : State) : State :=
  let s1 := s.wrA (CFG_FSPEED.reg.adr 0) (v % 2 ^ 24)
  if s1.flag CFG_LEVEL.EXPERT then s1 else deriveFtim s1

/-- The flash reset sequence of R76, which returns `CFG_FSPEED` to its reset value (R102). -/
def flashReset (s : State) : State :=
  let e (op : Nat) (t : State) : State := t.emit (.flash op 0 [])
  setFspeed 0x130000 (e 0x99 (e 0x66 (e 0x99 (e 0x66 s))))

/-! ### A loader run (R71, R74, R75, R95) -/

/-- The loader sets DONE and fires `CFG_DONE`; `CFG_LOADTIME` counts from the reset (R74). -/
def loaderDone (s : State) : State :=
  let s1 := (s.set CFG_STATUS.DONE 1).set CFG_LOADTIME.US (min ((s.elapsed - s.cfg.startAt) / 1000) (2 ^ 32 - 1))
  s1.fire 0x004

/-- The loader enters SAFE (R95). -/
def enterSafe (s : State) : State :=
  let s1 := setFspeed 0x130000 ((s.set CFG_STATUS.PHASE 7).set CFG_STATUS.SLOT 2)
  loaderDone (s1.log 0x0202)

/-- The loader enters HEADER at slot `k` (R74, R76); after slot B it enters SAFE. -/
def enterHeader (k : Nat) (s : State) : State :=
  if 2 ≤ k then enterSafe s
  else
    let s1 : State := { s with cfg := { s.cfg with
      slot := k
      hdr := []
      recIdx := 0
      waiting := false
      poll := none
      modeRec := none } }
    flashReset ((s1.set CFG_STATUS.PHASE 1).set CFG_STATUS.SLOT k)

/-- A loader run starts, or an apply abort goes on with its slot (R71, R74). -/
def startLoader (s : State) : State :=
  if s.cfg.resume then enterHeader s.cfg.slot { s with cfg := { s.cfg with resume := false, slow := false } }
  else
    let s1 := ((s.count CFG_STATUS.RUNS).set CFG_FAIL.reg 0).set CFG_FAILREC.reg 0
    if s1.cfg.shadow then enterHeader 0 s1 else s1.set CFG_STATUS.PHASE 0

/-! ### What resets clear (R71, R550, R727) -/

/-- What R71 and the register notes keep of a word outside `HBR` through `RST_N`: `CLK_CAUSE`, `CFG_FAIL`, `CFG_FAILREC`,
`CFG_STATUS.RUNS`, `CFG_SLOTBOFS`, and the live bits of `CLK_STATUS` and `POS_STAT` that show pins. -/
def keptWord (s : State) (a : Nat) : Nat :=
  if a == CLK_CAUSE.reg.adr 0 || a == CFG_FAIL.reg.adr 0 || a == CFG_FAILREC.reg.adr 0 || a == CFG_SLOTBOFS.OFS.adr 0 then
    s.rdA a
  else if a == CFG_STATUS.reg.adr 0 then s.get CFG_STATUS.RUNS
  else if a == CLK_STATUS.reg.adr 0 then s.rdA a &&& 0xFE84
  else resetWord a

/-- The addresses that `keptWord` tells about. -/
def keptAddrs : List Nat :=
  [CLK_CAUSE.reg.adr 0, CFG_FAIL.reg.adr 0, CFG_FAILREC.reg.adr 0, CFG_SLOTBOFS.OFS.adr 0, CFG_STATUS.reg.adr 0,
    CLK_STATUS.reg.adr 0]

/-- The `HBR` registers that `RST_N` and the internal restart clear (chapter 16, registers). -/
def clearedHbr (a : Nat) : Bool := a == 0xA00010 || a == 0xA00014 || a == 0xA0001C

/-- The levels of the position inputs go on showing the pins. -/
def keepLevels (s t : State) : State :=
  (List.range 8).foldl (fun u n => u.set POS_STAT.LEVELS (s.get POS_STAT.LEVELS n) n) t

/-- Every far-side access that is outstanding ends, because the node has lost its ID (R554, cause 5). -/
def failFar (s : State) : State :=
  s.hbr.far.foldl (fun t r => farFail r.id 5 t) (s.set DRL_NODE.VALID 0)

/-- The reset of every domain but `CLK_HOST` and of every register outside `HBR` (R71: `RST_N`, `CFG_WARM`, the internal
restart, an apply abort). -/
def warmReset (s0 : State) : State :=
  let s := failFar s0
  let base : State := { State.reset with
    pending := s.pending
    elapsed := s.elapsed
    sent := s.sent
    freeCount := s.freeCount
    fuses := s.fuses
    jtag := s.jtag
    regs := s.regs.filter (fun e => within e.1 0xA00000 0xC00000 && !clearedHbr e.1)
    hbr := { s.hbr with heldMsgs := [], reads := s.hbr.reads.map (fun r => { r with count := 0 }) }
    btm := { pins := s.btm.pins }
    clk := { s.clk with
      cfgUp := false
      coreUp := false
      timeUp := false
      vencUp := false
      timeUnlock := false
      pllUse := [] }
    cfg := { shadow := s.cfg.shadow, startAt := s.elapsed, subsys := s.cfg.subsys, subLock := s.cfg.subLock } }
  let s1 := keptAddrs.foldl (fun t a => t.wrA a (keptWord s a)) base
  let s2 := (keepLevels s (resetBwr s1)).set HBR_STAT.CORE 0
  let s3 := if s2.flag HBR_LEVEL.EXPERT then s2 else deriveHbr s2
  if s3.cfg.shadow then deriveOut s3 else s3

/-- The reset of everything (R71: `POR_N`, a dip of a watched supply). -/
def porReset (s : State) : State :=
  keepLevels s { State.reset with
    pending := s.pending
    elapsed := s.elapsed
    sent := s.sent
    freeCount := s.freeCount
    fuses := s.fuses
    jtag := s.jtag
    btm := { pins := s.btm.pins }
    clk := {
      porLow := s.clk.porLow
      dip := s.clk.dip
      rstLow := s.clk.rstLow
      perstLow := s.clk.perstLow
      fieldLink := s.clk.fieldLink } }

/-! ### PLL lock bits and words in use -/

/-- `CLK_STATUS.LOCK` bit `p`. -/
def setLock (p : Nat) (b : Bool) (s : State) : State :=
  s.set CLK_STATUS.LOCK (putBits (s.get CLK_STATUS.LOCK) p p (b2n b))

/-- PLL `p` takes the word held, at the release of its domain (R61). -/
def usePll (p : Nat) (s : State) : State :=
  { s with clk := { s.clk with pllUse := tput 0 s.clk.pllUse p (s.rdA (CLK_PLL.reg.adr p)) } }

/-- `TREF` of 25 MHz for the derivation of R60: `FREQ` = 2, or AUTO (3 acts as AUTO) with 25 MHz found. -/
def ref25 (s : State) : Bool :=
  s.get CLK_TREF.FREQ == 2 || ((s.get CLK_TREF.FREQ == 0 || s.get CLK_TREF.FREQ == 3) && s.get CLK_TREF.FOUND == 2)

/-- The derived PLL words (R60); `CLK_PLL[3]` is absent without `VEN`. -/
def deriveClk (s : State) : State :=
  [0, 1, 2, 3].foldl (fun t p => if p == 3 && t.fuses.variant != .f then t
    else t.set CLK_PLL.reg (pllDerived (ref25 t) p) p) s

/-! ### The time domains (R54, R57, R58, R161, R732) -/

/-- The frequency that a count of edges in 100 µs shows: 0 none, 1 10 MHz, 2 25 MHz, within 1,000 ppm (R57). -/
def trefFreq (edges : Nat) : Nat :=
  if 999 ≤ edges && edges ≤ 1001 then 1 else if 2498 ≤ edges && edges ≤ 2502 then 2 else 0

/-- `CLK_TREF.FOUND` takes `f`, and PLL 1 is derived from it at the basic level (R57, R60). -/
def setFound (f : Nat) (s : State) : State :=
  let s1 := s.set CLK_TREF.FOUND f
  if s1.flag CLK_LEVEL.EXPERT then s1 else s1.set CLK_PLL.reg (pllDerived (ref25 s1) 1) 1

/-- A measurement of `TREF` (R57, R58): true when a frequency is accepted. At the expert level none is made, and `TREF` has
only to be present (R732). -/
def measureTref (edges : Nat) (s0 : State) : Bool × State :=
  let s := s0.set CLK_STATUS.TREF (b2n (edges != 0))
  if s.flag CLK_LEVEL.EXPERT then (edges != 0, s)
  else
    let f := trefFreq edges
    let want := s.get CLK_TREF.FREQ
    let ok := if want == 1 || want == 2 then f == want else f != 0
    if ok then (true, (setFound f s).endRun 0x0309 0) else (false, (setFound 0 s).logRun 0x0309 0)

/-- The `CLK_TIME` and `CLK_ENC` resets are released together (R44, R54). -/
def timeRelease (s : State) : State :=
  let s1 : State := { s with clk := { s.clk with timeUp := true, timeUnlock := false } }
  requestEpoch ((setLock 1 true (usePll 1 s1)).endRun 0x0309 0)

/-- The time domains may be released. -/
def timeReady (s : State) : Bool := s.clk.coreUp && !s.clk.timeUp && !s.flag CLK_RST.TIME

/-- An attempt to release the time domains with `edges` of `TREF` counted (R54, R58). -/
def tryTime (edges : Nat) (locked : Bool) (s : State) : State :=
  if !timeReady s then s
  else
    let (ok, s1) := measureTref edges s
    if ok && locked then timeRelease s1 else s1

/-- A pulse of an output and its consumer are lost with the domain (R56). -/
def dropOutputs (s0 : State) : State :=
  let s := seeGuards s0
  let s1 : State := { s with out := { s.out with
    trigs := s.out.trigs.map (fun e => (e.1, { e.2 with pulse := none }))
    strobes := s.out.strobes.map (fun e => (e.1, { e.2 with pulse := none })) } }
  (List.range 24).foldl (fun t k => if conBusy t (0x48 + k) then setBusy (0x48 + k) false t else t) s1

/-- The `CLK_TIME` and `CLK_ENC` resets are asserted (R56, R58, R69, R70, R133): events and pulses in flight are lost, and
STANDBY is forced. -/
def timeDown (s : State) : State :=
  if !s.clk.timeUp then s
  else
    let s1 := dropOutputs s
    let s2 : State := { s1 with
      fired := s1.fired.filter (fun f => prodDomain s1 f.prod != 1 && prodDomain s1 f.prod != 2)
      btm := { s1.btm with busy := s1.btm.busy.filter (fun e => !within e.1 0x100 0x200) }
      clk := { s1.clk with timeUp := false, timeUnlock := false } }
    forceStandby (((setLock 1 false s2).set CLK_STATUS.HOLDOVER 0).set OUT_CALSTAT.LOCK 0)

/-- What no longer fits a time base that starts again at 0: the histories of channels and wheels and the instants of
scheduler entries. Counters, references and registers stay (log entry 65). -/
def dropHistories (s : State) : State :=
  let s1 : State := { s with
    chans := s.chans.map (fun e => (e.1, { e.2 with
      ring := []
      edge := none
      motion := 0
      slots := []
      offs := []
      offAt := e.2.offAt.map (fun _ => 0) }))
    pos := { s.pos with losses := [], lossAt := s.pos.lossAt.map (fun _ => 0), stepAt := some 0 }
    tws := { s.tws with
      wheels := []
      lines := []
      lineAt := none
      entries := s.tws.entries.map (fun e => (e.1, { e.2 with pend := [], next := none, angle := none })) } }
  (List.range 4).foldl (fun t w => t.set TWS_WSTAT.STATE (min 1 (t.get TWS_WSTAT.STATE w)) w) s1

/-- The registers of `TIM` as a release of `CLK_RST.TIME` leaves them: RW and RWB fields stay (chapter 6, registers). -/
def timKept (s : State) : State :=
  { s with regs := s.regs.foldl (fun m e =>
      if within e.1 0x100000 0x200000 then
        let rw := match rowAt e.1 with | some (r, _, _) => r.rw | none => 0
        let v := (e.2.toNat &&& rw) ||| (resetWord e.1 &&& (2 ^ 32 - 1 - rw))
        tput (BitVec.ofNat 32 (resetWord e.1)) m e.1 (BitVec.ofNat 32 v)
      else m) s.regs }

/-- A time-base reset (R161): `all` clears every register of `TIM`; the words of role and profile held are in effect. -/
def timeBaseReset (all : Bool) (s : State) : State :=
  let s1 := if all then s.clearRegs 0x100000 0x200000 else timKept s
  let s2 : State := { s1 with now := 0, tim := {} }
  let s3 := if s2.flag TIM_LEVEL.EXPERT then s2 else deriveTim s2
  requestEpoch (timConfigApply (dropHistories s3))

/-! ### The release of the domains (R54, R59) -/

/-- `CLK_CFG` runs: straps are known, and the loader starts (R54, R109). -/
def cfgRelease (s : State) : State :=
  if s.clk.cfgUp || s.clk.porLow || s.clk.dip || s.clk.rstLow || s.clk.restartWait then s
  else
    let s1 : State := { s with clk := { s.clk with cfgUp := true } }
    if s1.clk.testHold then s1 else startLoader s1

/-- `CLK_CORE` is released (R54, R550). -/
def coreRelease (s : State) : State :=
  if s.clk.coreUp || !s.clk.cfgUp || s.clk.testHold then s
  else
    let s1 : State := { s with clk := { s.clk with coreUp := true } }
    ((setLock 0 true (usePll 0 s1)).set HBR_STAT.CORE 1).count HBR_COREGEN.COUNT

/-- `CLK_VENC` is released once it is enabled (R54, R59). -/
def vencRelease (s : State) : State :=
  if s.clk.vencUp || !s.clk.cfgUp || s.clk.testHold || s.fuses.variant != .f || !s.flag CLK_VENCEN.EN || s.flag CLK_RST.VENC
  then s
  else venClockRelease (setLock 3 true (usePll 3 s))

/-- The `CLK_VENC` reset is asserted. -/
def vencAssert (stop : Bool) (s : State) : State :=
  let s1 := if s.clk.vencUp then venClockReset s else s
  if stop then setLock 3 false s1 else s1

/-- A domain's condition is met (R54). -/
def domainRelease (d : Domain) (edges : Nat) (s : State) : State :=
  match d with
  | .cfg => cfgRelease s
  | .core => coreRelease s
  | .time => tryTime edges true s
  | .venc => vencRelease s

/-- `CLK_HOST` is released (R55). -/
def hostRelease (s : State) : State :=
  if s.clk.perstLow || s.clk.porLow || s.clk.dip || s.clk.testHold then s
  else setLock 2 true { s with clk := { s.clk with hostUp := true } }

/-- The internal power-on reset is released, with the straps as they stand (R54, R669, R670). -/
def porRelease (testMode : Bool) (slot : Nat) (s : State) : State :=
  if s.clk.porLow || s.clk.dip then s
  else
    let s1 : State := { s with
      clk := { s.clk with testHold := testMode, strapSlot := slot }
      cfg := { s.cfg with startAt := s.elapsed } }
    hostRelease (s1.set BWR_CFG.SLOT slot)

/-! ### Restarts (R65-R67, R109) -/

/-- `SYSREF` or PLL 0 fails: bit `k` of `CLK_CAUSE` (R65). -/
def coreFail (k : Nat) (s : State) : State :=
  let s1 := warmReset s
  { s1.wrA (CLK_CAUSE.reg.adr 0) (putBits (s1.rdA (CLK_CAUSE.reg.adr 0)) k k 1) with
    clk := { s1.clk with restartWait := true } }

/-- The write of the key to `CFG_WARM` (R71). -/
def warmWrite (key : Nat) (s : State) : State := if key == 0x7761726D then warmReset s else s

/-! ### Lost references (R62-R64, R68, R69) -/

/-- Bits of `CLK_LOSS` are set: every setting fires `CLK_ALARM` (R69). -/
def noteLoss (f : Fld) (bits : Nat) (s : State) : State := (s.set f (s.get f ||| bits)).fire 0x005

/-- PLL 1 enters holdover (R63). -/
def holdoverOn (s : State) : State := timHoldover true ((setLock 1 false s).set CLK_STATUS.HOLDOVER 1)

/-- No edge of `TREF` for 500 ns (R62). -/
def trefLost (s : State) : State :=
  if !s.flag CLK_STATUS.TREF then s
  else
    let s1 := s.set CLK_STATUS.TREF 0
    if s1.clk.timeUp then holdoverOn ((noteLoss CLK_LOSS.TREF 1 s1).log 0x0302)
    else (noteLoss CLK_LOSS.TREF 1 s1).log 0x0302

/-- `TREF` is accepted as restored (R64). -/
def trefRestored (s : State) : State :=
  if s.clk.timeUp && s.flag CLK_STATUS.HOLDOVER && !s.flag CLK_STATUS.TREF then (s.set CLK_STATUS.TREF 1).log 0x0303 else s

/-- The steering of R64, or the relock of R69, ends. -/
def steerDone (s : State) : State :=
  if s.clk.timeUp && s.flag CLK_STATUS.HOLDOVER && s.flag CLK_STATUS.TREF then
    timHoldover false ((setLock 1 true { s with clk := { s.clk with timeUnlock := false } }).set CLK_STATUS.HOLDOVER 0)
  else s

/-- PLL 1 loses lock while `TREF` is present (R69). -/
def timeUnlock (s : State) : State :=
  if !s.clk.timeUp || !s.flag CLK_STATUS.TREF || s.flag CLK_STATUS.HOLDOVER then s
  else
    let s1 : State := { s with clk := { s.clk with timeUnlock := true } }
    holdoverOn ((noteLoss CLK_LOSS.TIMELOCK 1 s1).log 0x0304)

/-- PLL 3 loses lock (R69). -/
def vencUnlock (s : State) : State :=
  if !s.clk.vencUp then s else (vencAssert true (noteLoss CLK_LOSS.VENCLOCK 1 s)).log 0x0305

/-- A watched reference shows no edge for 2 µs (R68). -/
def refLost (r : RefClk) (s : State) : State :=
  match r with
  | .lref q =>
    let n := q.val
    if !s.clk.coreUp || bitAt (s.get CLK_RST.QUAD) n || !bitAt (s.get CLK_STATUS.LREF) n then s
    else
      let s1 := s.set CLK_STATUS.LREF (putBits (s.get CLK_STATUS.LREF) n n 0)
      let s2 := (noteLoss CLK_LOSS.LREF (2 ^ n) s1).log 0x0307 [n]
      [0, 1, 2, 3].foldl (fun t k =>
        let i := 4 * n + k
        if laneExists t i && laneState t i != 0 then startDetect i (laneLost i t) else t) s2
  | .rref =>
    if !s.clk.coreUp || !s.flag CLK_STATUS.RREF || !([0, 1].any (fun p => ringPort s p && !bitAt (s.get CLK_RST.RING) p))
    then s
    else portDown 1 (portDown 0 ((noteLoss CLK_LOSS.RREF 1 (s.set CLK_STATUS.RREF 0)).log 0x0308))
  | .pclk n =>
    if !s.clk.coreUp || bitAt (s.get CLK_RST.PAR) n.val || !bitAt (s.get CLK_STATUS.PCLK) n.val then s
    else
      let s1 := s.set CLK_STATUS.PCLK (putBits (s.get CLK_STATUS.PCLK) n.val n.val 0)
      let s2 := (noteLoss CLK_LOSS.PCLK (2 ^ n.val) s1).log 0x030C [n.val]
      if portState s2 n.val == 0 then s2 else syncLoss n.val 1 s2

/-! ### Registers of `CLK` (R59, R61, R70) -/

/-- A write of `CLK_VENCEN` (R59). -/
def vencenWrite (v : Nat) (s : State) : State :=
  let s1 := codedWrite (CLK_VENCEN.reg.adr 0) v s
  if s1.flag CLK_VENCEN.EN then s1 else vencAssert true s1

/-- A word that PLL `p` may run with (R61): no zero divider, and a VCO from 2.5 GHz to 5.5 GHz; the reference is in MHz. -/
def pllOk (ref v : Nat) : Bool :=
  let d := v % 16
  let f := bitsOf v 23 12
  d != 0 && f != 0 && bitsOf v 29 26 != 0 && 2500 * d ≤ ref * f && ref * f ≤ 5500 * d

/-- The reference of PLL `p` in MHz for the VCO check of R61: `SYSREF` and `PCIE_REFCLK` 100, `TREF` as the derivation of
R60 takes it (log entry 66). -/
def pllRef (s : State) (p : Nat) : Nat := if p == 1 then (if ref25 s then 25 else 10) else 100

/-- A write of `CLK_PLL[p]` (R61); `CLK_PLL[2]` is RO at every level. -/
def pllWrite (p v : Nat) (s : State) : State :=
  let a := CLK_PLL.reg.adr p
  if p == 2 then s
  else if !s.flag CLK_LEVEL.EXPERT then expertDrop a v s
  else if pllOk (pllRef s p) v then codedWrite a v s
  else s.log 0x030A [a - 0x20000]

/-- The bits of `CLK_RST` from `lo` on, of `n` items, that change: each item that is now held or released (R56, R70). -/
def rstChange (old new lo n : Nat) (held released : Nat → State → State) (s : State) : State :=
  (List.range n).foldl (fun t k =>
    if bitAt old (lo + k) == bitAt new (lo + k) then t
    else if bitAt new (lo + k) then held k t else released k t) s

/-- A lane quad is held in reset, or released: its reference is watched from now on (R68, R70, R248). -/
def quadHold (q : Nat) (s : State) : State :=
  [0, 1, 2, 3].foldl (fun t k => let n := 4 * q + k
    if laneExists t n then quadResetLane n (laneLost n t) else t) s

def quadRelease (q : Nat) (s : State) : State :=
  let s0 := s.set CLK_STATUS.LREF (putBits (s.get CLK_STATUS.LREF) q q 1)
  [0, 1, 2, 3].foldl (fun t k => let n := 4 * q + k
    if laneExists t n then startDetect n (t.set LNP_STAT.BACKOFFK 0 n) else t) s0

/-- A write of `CLK_RST` (R56, R70). -/
def clkRstWrite (v : Nat) (s : State) : State :=
  let a := CLK_RST.reg.adr 0
  let old := s.rdA a
  let refused := bitAt v 9 && !bitAt old 9 && !(modeNow s == 0 || modeNow s == 7)
  let new := if refused then putBits (v % 1024) 9 9 0 else v % 1024
  let s0 := if refused then s.log 0x030A [0x30] else s
  let s1 := s0.wrA a new
  let s2 := rstChange old new 0 4 quadHold quadRelease s1
  let s3 := rstChange old new 4 2 (fun p t => if ringPort t p then ringReset p t else t)
    (fun p t => if ringPort t p then t.set CLK_STATUS.RREF 1 else t) s2
  let s4 := rstChange old new 6 2 (fun n t => if portExists t n then portOff n t else t)
    (fun n t => if portExists t n then
      portStart n (t.set CLK_STATUS.PCLK (putBits (t.get CLK_STATUS.PCLK) n n 1)) else t) s3
  let s5 := rstChange old new 8 1 (fun _ t => vencAssert false t) (fun _ t => t) s4
  rstChange old new 9 1 (fun _ t => timeDown t) (fun _ t => timeBaseReset false t) s5

/-- The loader releases the reset of every present ring port (R99). -/
def ringRelease (s : State) : State :=
  if !s.clk.cfgUp || s.clk.testHold then s
  else
    let v := s.get CLK_RST.RING
    clkRstWrite (putBits (s.rdA (CLK_RST.reg.adr 0)) 5 4 (if ringPort s 1 then 0 else v / 2 * 2)) s

/-! ### The field link (R28, R29) -/

/-- The die-to-die link fails: `ERR_ANY` fires; the record of R29 has no code (log entry 67). -/
def fieldLoss (s : State) : State :=
  if !s.clk.fieldLink then s
  else
    let s1 := outLinkLoss (posLinkDown s)
    { s1.fire 0x3E0 with clk := { s1.clk with fieldLink := false } }

/-- The die-to-die link returns (R29). -/
def fieldReturn (s : State) : State :=
  if s.clk.fieldLink then s else posLinkUp { s with clk := { s.clk with fieldLink := true } }

/-! ### The step (R167) -/

/-- A requested step is applied: every reader of time moves with it, or it is refused (R167, R168, R285, R373, R403,
R624). -/
def stepApply (s : State) : State :=
  let (done, s1) := stepTime s
  if !done then s1
  else
    let d : Int := (s1.now : Int) - (s.now : Int)
    let s2 := dueTime true (stepEvents (twsStep d (posStep d s1)))
    afterStep ((List.range 8).foldl (fun t k => compareFire k t) s2)

/-! ### Rows -/

def execPorAssert (s : State) : Out := .next (porReset { s with clk := { s.clk with porLow := true } })
def execPorRelease (testMode : Bool) (slot : BitVec 5) (s : State) : Out :=
  .next (if s.clk.porLow then porRelease testMode slot.toNat { s with clk := { s.clk with porLow := false } } else s)
def execDomainResetRelease (d : Domain) (trefEdges : Nat) (s : State) : Out := .next (domainRelease d trefEdges s)
def execSupplyDip (s : State) : Out := .next (porReset { s with clk := { s.clk with dip := true } })
def execSupplyReturn (testMode : Bool) (slot : BitVec 5) (s : State) : Out :=
  .next (if s.clk.dip then porRelease testMode slot.toNat { s with clk := { s.clk with dip := false } } else s)
def execRstAssert (s : State) : Out := .next (warmReset { s with clk := { s.clk with rstLow := true } })
def execRstRelease (s : State) : Out := .next { s with clk := { s.clk with rstLow := false } }
def execPerstAssert (s : State) : Out :=
  .next (setLock 2 false (bridgeReset (bridgeDown { s with clk := { s.clk with perstLow := true, hostUp := false } })))
def execPerstRelease (s : State) : Out := .next (hostRelease { s with clk := { s.clk with perstLow := false } })
def execFieldLinkLoss (s : State) : Out := .next (fieldLoss s)
def execFieldLinkReturn (s : State) : Out := .next (fieldReturn s)
def execTrefRetry (trefEdges : Nat) (locked : Bool) (s : State) : Out := .next (tryTime trefEdges locked s)
def execPll1LockTimeout (s : State) : Out :=
  .next (if timeReady s && s.flag CLK_LEVEL.EXPERT then s.logRun 0x0309 0 else s)
def execTrefLost (s : State) : Out := .next (trefLost s)
def execTrefRestored (s : State) : Out := .next (trefRestored s)
def execPll1SteerDone (s : State) : Out := .next (steerDone s)
def execSysrefLoss (s : State) : Out := .next (coreFail 0 s)
def execCorePllUnlock (s : State) : Out := .next (if s.clk.coreUp then coreFail 1 s else s)
def execInternalRestart (s : State) : Out := .next { s with clk := { s.clk with restartWait := false } }
def execRefClockLost (r : RefClk) (s : State) : Out := .next (refLost r s)
def execVencPllUnlock (s : State) : Out := .next (vencUnlock s)
def execTimePllUnlock (s : State) : Out := .next (timeUnlock s)
def execTimeLockTimeout (s : State) : Out := .next (if s.clk.timeUnlock then timeDown s else s)
def execRingPortRelease (s : State) : Out := .next (ringRelease s)
def execStepApply (s : State) : Out := .next (stepApply s)

end Sys2Proof.Machine
end

