-- ==== Sys2Proof/Machine/Access.lean ====
section
/-! DEFINITION. How accesses of the host reach the registers (R98, R548-R550): the checks before a BAR0 or BAR2 access acts.
Every row that is a BAR write of the host goes through `hostGate` or `bar2Gate`, every read with a side effect through
`hostRead`. -/

namespace Sys2Proof.Machine

/-- Memory requests of the host are served (R529, R536, R540, R549). -/
def hostOpen (s : State) : Bool :=
  (s.get HBR_STAT.STATE == 2 || s.get HBR_STAT.STATE == 3) && s.hbr.mse && !s.flag HBR_STAT.D3

/-- A BAR0 write of `v` to address `a` whose meaning is `op` (R98, R142, R148, R549, R550). -/
def hostGate (a v : Nat) (op : State → State) (s : State) : State :=
  if !hostOpen s then unsupported 0x40 true true s
  else if !s.clk.coreUp then countInReset s
  else if !s.flag CFG_STATUS.DONE && unitAt a != some 2 then countEarly s
  else coreGate a v op s

/-- A BAR2 write: doorbells (R98, R549, R550). -/
def bar2Gate (op : State → State) (s : State) : State :=
  if !hostOpen s then unsupported 0x40 true true s
  else if !s.clk.coreUp then countInReset s
  else if !s.flag CFG_STATUS.DONE then countEarly s
  else op s

/-- A BAR0 read at address `a` with a side effect `op` (R98, R142, R549, R550): while the core is in reset, before DONE and
in absent space it reads 0 and has no effect. -/
def hostRead (a : Nat) (op : State → State) (s : State) : State :=
  if !hostOpen s then unsupported 0x00 true false s
  else if !s.clk.coreUp || (!s.flag CFG_STATUS.DONE && unitAt a != some 1 && unitAt a != some 2) ||
      (absentAt s.fuses.variant a).isSome then s.emit (.readData a 0)
  else op s

end Sys2Proof.Machine
end

