-- ==== Sys2Proof/Machine/Crypto.lean ====
section
/-! DEFINITION. The cryptography that VERIFY rests on (R82, R83): SHA-512, and the verification of an Ed25519 signature as
RFC 8032 defines it. The spec names both by their standards; what they compute is the standards' (PRESUMED, log entry 6). -/

namespace Sys2Proof.Machine

/-! ### SHA-512 -/

/-- A rotation of a 64-bit word to the right. -/
def ror64 (w n : Nat) : Nat := w / 2 ^ n + w % 2 ^ n * 2 ^ (64 - n)

/-- The first eighty primes. -/
def shaPrimes : List Nat :=
  [2, 3, 5, 7, 11, 13, 17, 19, 23, 29, 31, 37, 41, 43, 47, 53, 59, 61, 67, 71] ++
  [73, 79, 83, 89, 97, 101, 103, 107, 109, 113, 127, 131, 137, 139, 149, 151, 157, 163, 167, 173] ++
  [179, 181, 191, 193, 197, 199, 211, 223, 227, 229, 233, 239, 241, 251, 257, 263, 269, 271, 277, 281] ++
  [283, 293, 307, 311, 313, 317, 331, 337, 347, 349, 353, 359, 367, 373, 379, 383, 389, 397, 401, 409]

/-- A round constant: 64 bits of the fraction of the cube root of a prime. -/
def shaRound (p : Nat) : Nat := searchTop (fun n => n ^ 3 ≤ p * 2 ^ 192) 67 0 % 2 ^ 64

/-- An initial word: 64 bits of the fraction of the square root of a prime. -/
def shaInit (p : Nat) : Nat := searchTop (fun n => n ^ 2 ≤ p * 2 ^ 128) 69 0 % 2 ^ 64

/-- One round on the eight working words and the next sixteen words of the message schedule. -/
def shaStep (st : List Nat × List Nat) (k : Nat) : List Nat × List Nat :=
  let v (i : Nat) : Nat := st.1.getD i 0
  let w (i : Nat) : Nat := st.2.getD i 0
  let big1 := ror64 (v 4) 14 ^^^ ror64 (v 4) 18 ^^^ ror64 (v 4) 41
  let pick := (v 4 &&& v 5) ^^^ ((2 ^ 64 - 1 - v 4) &&& v 6)
  let t1 := v 7 + big1 + pick + k + w 0
  let big0 := ror64 (v 0) 28 ^^^ ror64 (v 0) 34 ^^^ ror64 (v 0) 39
  let most := (v 0 &&& v 1) ^^^ (v 0 &&& v 2) ^^^ (v 1 &&& v 2)
  let small0 := ror64 (w 1) 1 ^^^ ror64 (w 1) 8 ^^^ w 1 / 2 ^ 7
  let small1 := ror64 (w 14) 19 ^^^ ror64 (w 14) 61 ^^^ w 14 / 2 ^ 6
  ([(t1 + big0 + most) % 2 ^ 64, v 0, v 1, v 2, (v 3 + t1) % 2 ^ 64, v 4, v 5, v 6],
    st.2.drop 1 ++ [(small1 + w 9 + small0 + w 0) % 2 ^ 64])

/-- One block of 128 bytes. -/
def shaBlock (h : List Nat) (bs : List Nat) : List Nat :=
  let ws := (List.range 16).map (fun k => beNat (sliceOf bs (8 * k) 8))
  let r := (shaPrimes.map shaRound).foldl shaStep (h, ws)
  List.zipWith (fun x y => (x + y) % 2 ^ 64) h r.1

/-- SHA-512 of a byte string. -/
def sha512 (bs : List Nat) : List Nat :=
  let padded := bs ++ [0x80] ++ List.replicate ((239 - bs.length % 128) % 128) 0 ++ beBytes 16 (8 * bs.length)
  let h := (List.range (padded.length / 128)).foldl (fun h k => shaBlock h (sliceOf padded (128 * k) 128))
    ((shaPrimes.take 8).map shaInit)
  (h.map (beBytes 8)).flatten

/-! ### Ed25519 -/

/-- The prime of the field. -/
def edP : Nat := 2 ^ 255 - 19

/-- The order of the base point. -/
def edL : Nat := 2 ^ 252 + 27742317777372353535851937790883648493

/-- `b` to the power of the low `n` bits of `e`, in the field. -/
def edPow (b : Nat) : Nat → Nat → Nat
  | 0, _ => 1
  | n + 1, e =>
    let h := edPow b n (e / 2)
    if e % 2 == 1 then h * h % edP * b % edP else h * h % edP

/-- The inverse in the field. -/
def edInv (a : Nat) : Nat := edPow a 255 (edP - 2)

/-- The constant d of the curve. -/
def edD : Nat := (edP - 121665) * edInv 121666 % edP

/-- A point in extended homogeneous coordinates. -/
structure EdPoint where
  x : Nat
  y : Nat
  z : Nat
  t : Nat
  deriving DecidableEq, Repr

/-- The point with these affine coordinates. -/
def edAffine (x y : Nat) : EdPoint := ⟨x, y, 1, x * y % edP⟩

/-- The sum of two points. -/
def edAdd (p q : EdPoint) : EdPoint :=
  let a := (p.y + (edP - p.x)) * (q.y + (edP - q.x)) % edP
  let b := (p.y + p.x) * (q.y + q.x) % edP
  let c := p.t * 2 % edP * edD % edP * q.t % edP
  let d := p.z * 2 * q.z % edP
  let e := b + (edP - a)
  let f := d + (edP - c)
  let g := d + c
  let h := b + a
  ⟨e * f % edP, g * h % edP, f * g % edP, e * h % edP⟩

/-- `p` times the low `n` bits of `k`. -/
def edMul (p : EdPoint) : Nat → Nat → EdPoint
  | 0, _ => edAffine 0 1
  | n + 1, k =>
    let h := edMul p n (k / 2)
    let d := edAdd h h
    if k % 2 == 1 then edAdd d p else d

/-- Two points are the same. -/
def edSame (p q : EdPoint) : Bool :=
  p.x * q.z % edP == q.x * p.z % edP && p.y * q.z % edP == q.y * p.z % edP

/-- The point whose encoding is `y` and the sign `s` of x; none where the encoding names no point. -/
def edDecode (y s : Nat) : Option EdPoint :=
  if edP ≤ y then none
  else
    let u := (y * y + edP - 1) % edP
    let v := (edD * (y * y % edP) + 1) % edP
    let v3 := v * v % edP * v % edP
    let r := u * v3 % edP * edPow (u * v3 % edP * v3 % edP * v % edP) 255 ((edP - 5) / 8) % edP
    let w := v * (r * r % edP) % edP
    let root := if w == u then some r
      else if w == (edP - u) % edP then some (r * edPow 2 255 ((edP - 1) / 4) % edP) else none
    match root with
    | none => none
    | some x =>
      if x == 0 && s == 1 then none
      else some (edAffine (if x % 2 == s then x else edP - x) y)

/-- The point that 32 bytes encode. -/
def edPoint (bs : List Nat) : Option EdPoint :=
  let n := leNat bs
  edDecode (n % 2 ^ 255) (n / 2 ^ 255)

/-- Whether `sig` is the signature of `msg` under the public key `key` (RFC 8032, section 5.1.7, the group equation with the
cofactor). -/
def ed25519Ok (key msg sig : List Nat) : Bool :=
  let s := leNat (sliceOf sig 32 32)
  match edPoint key, edPoint (sliceOf sig 0 32), edDecode (4 * edInv 5 % edP) 0 with
  | some a, some r, some b =>
    let k := leNat (sha512 (sliceOf sig 0 32 ++ key ++ msg)) % edL
    decide (s < edL) && edSame (edMul b 256 (8 * s)) (edMul (edAdd r (edMul a 253 k)) 4 8)
  | _, _, _ => false

end Sys2Proof.Machine
end

