-- ==== Sys2Proof/Machine/Image.lean ====
section
/-! DEFINITION. The Choja image (chapter 3): the checks of its header (R79, R85), of the whole image (R81-R84), and of its
records (R86-R89). Reasons are the codes of R85; 0 is a pass. -/

namespace Sys2Proof.Machine

/-! ### Header -/

/-- The little-endian field of `n` bytes at offset `k` of a header. -/
def hdrField (h : List Nat) (k n : Nat) : Nat := leNat (sliceOf h k n)

/-- `IMG_LEN` of a header. -/
def imgLen (h : List Nat) : Nat := hdrField h 8 4

/-- `IMG_LEN` is within its range and a multiple of 4 (R79). -/
def lenOk (h : List Nat) : Bool := 0x100 ≤ imgLen h && imgLen h ≤ 0x4000000 && imgLen h % 4 == 0

/-- The checks BLANK, MAGIC and VERSION of a header (R79, R80, R85). -/
def formCheck (h : List Nat) : Nat :=
  let m := hdrField h 0 4
  if m == 0 || m == 0xFFFFFFFF then 1
  else if m != 0x414A4843 then 2
  else if hdrField h 4 2 != 1 || hdrField h 6 2 / 2 != 0 || byteAt h 0x17 != 0 || byteAt h 0x27 / 4 != 0 ||
      byteAt h 0x2F / 4 != 0 || (sliceOf h 0x34 76).any (· != 0) || (sliceOf h 0xA0 28).any (· != 0) then 3
  else 0

/-- The flash offset of slot B that slot A's header selects (R78). -/
def slotBOffset (h : List Nat) : Nat :=
  let o := hdrField h 0x18 4
  if formCheck h == 0 && lenOk h && o != 0 && o % 0x10000 == 0 && ceilDiv (imgLen h) 0x10000 * 0x10000 ≤ o && o < 2 ^ 28
  then o else 0x1000000

/-- The header checks of slot `k`, with slot B at `ofs` (R85). -/
def headerCheck (k ofs : Nat) (h : List Nat) : Nat :=
  let r := formCheck h
  if r != 0 then r
  else if !lenOk h || 2 ^ 28 < (if k == 0 then 0 else ofs) + imgLen h || (k == 0 && ofs < imgLen h) then 4
  else 0

/-! ### Records -/

/-- Body word `k` of a record. -/
def recWord (body : List Nat) (k : Nat) : Nat := leNat (sliceOf body (4 * k) 4)

/-- The unit with code `u` is on the die of variant `v` (R3, R136). -/
def unitThere (v : Variant) (u : Nat) : Bool := 1 ≤ u && u ≤ 18 && (u != 15 || v == .f)

/-- How many unit copies stand in the window of unit `u`, and their stride (R136, R138). -/
def unitCopies (v : Variant) (u : Nat) : Nat × Nat :=
  let half (n : Nat) : Nat := if v == .e then n / 2 else n
  match u with
  | 5 => (half 16, 0x4000)
  | 6 => (half 16, 0x2000)
  | 7 => (half 2, 0x40000)
  | 8 => (4, 0x40000)
  | 9 => (half 8, 0x2000)
  | 15 => (8, 0x10000)
  | 16 => (half 2, 0x10000)
  | _ => (1, 0)

/-- The copies of unit `u` that `INST` names (R87). -/
def namedCopies (v : Variant) (u inst : Nat) : List Nat :=
  let n := (unitCopies v u).1
  if inst == 0xFF then List.range n else if inst < n then [inst] else []

/-- The highest address that offset `o` of a BASIC record reaches. -/
def basicTop (v : Variant) (u inst o : Nat) : Nat :=
  let c := unitCopies v u
  unitBase u + c.2 * (if inst == 0xFF then c.1 - 1 else inst) + o

/-- The number of words of table `t` of `PIX` (R340); `PIX` alone has tables. -/
def tableSize (u t : Nat) : Nat := if u == 8 then [4096, 4356, 9, 1025, 256].getD t 0 else 0

/-- The offset of table `t` in the window of a pipe. -/
def tableOffset (t : Nat) : Nat := 0x10000 + 0x8000 * t

/-- Address `a` may stand in a record (R87, R88). -/
def recAddrOk (a : Nat) : Bool := a % 4 == 0 && a < 0x4000000

/-- `LEN` and the fields of a record of a known type are in range (R87, R88). -/
def recOk (v : Variant) (ty len : Nat) (body : List Nat) : Bool :=
  match ty with
  | 1 => len == 3 && recAddrOk (recWord body 0)
  | 2 => 2 ≤ len && recAddrOk (recWord body 0) && recAddrOk (recWord body 0 + 4 * (len - 2))
  | 3 =>
    let u := byteAt body 0
    len == 1 + 2 * leNat (sliceOf body 2 2) && (List.range (len / 2)).all (fun k =>
      let o := recWord body (1 + 2 * k)
      o % 4 == 0 && (if unitThere v u then basicTop v u (byteAt body 1) o else o) < 0x4000000)
  | 4 =>
    let u := byteAt body 3
    let t := byteAt body 2
    2 ≤ len && (!unitThere v u || (t < 5 && u == 8 && recWord body 1 + (len - 2) ≤ tableSize u t))
  | 5 => len == 1 && 1 ≤ recWord body 0 && recWord body 0 ≤ 1000000
  | 6 => len == 4 && recAddrOk (recWord body 0) && 1 ≤ recWord body 3 && recWord body 3 ≤ 1000000
  | 7 => len == 1
  | _ => true

/-- Address `a` lies in an absent unit, in the window of an absent unit copy or in unallocated space (R89). -/
def addrGone (v : Variant) (a : Nat) : Bool :=
  match unitAt a with
  | none => true
  | some u => !unitThere v u || (v == .e && (within a 0x220000 0x240000 || within a 0x310000 0x320000 ||
      within a 0x3C0000 0x400000 || within a 0x508000 0x510000 || within a 0xE10000 0xE20000))

/-- Unit `u` or its copy `inst` is absent (R89). -/
def copyGone (v : Variant) (u inst : Nat) : Bool := !unitThere v u || namedCopies v u inst == []

/-- R89 skips a record of this type and body. -/
def recSkipped (v : Variant) (ty len : Nat) (body : List Nat) : Bool :=
  match ty with
  | 1 => addrGone v (recWord body 0)
  | 2 => (List.range (len - 1)).any (fun k => addrGone v (recWord body 0 + 4 * k))
  | 3 => copyGone v (byteAt body 0) (byteAt body 1)
  | 4 => copyGone v (byteAt body 3) (byteAt body 1)
  | 6 => addrGone v (recWord body 0)
  | _ => 7 < ty

/-- The walk over the records `bs`, the next of which has index `i`; `req` is the first that R89 refuses and `mode` the
mode that a MODE record names. Answers whether the structure holds, the index of the failure or the number of records,
`req` and `mode`. -/
def walkRecords (v : Variant) (n : Nat) (bs : List Nat) (i : Nat) (req mode : Option Nat) :
    Bool × Nat × Option Nat × Option Nat :=
  match n with
  | 0 => (bs == [], i, req, mode)
  | n + 1 =>
    if bs == [] then (true, i, req, mode)
    else
      let ty := byteAt bs 0
      let fl := byteAt bs 1
      let len := leNat (sliceOf bs 2 2)
      let body := sliceOf bs 4 (4 * len)
      let rest := bs.drop (4 + 4 * len)
      if bs.length < 4 + 4 * len || fl % 128 != 0 || !recOk v ty len body || (ty == 7 && rest != []) then
        (false, i, req, mode)
      else
        let req2 := if req.isNone && 128 ≤ fl && recSkipped v ty len body then some i else req
        walkRecords v n rest (i + 1) req2 (if ty == 7 then some (recWord body 0 % 8) else mode)

/-! ### The image as a whole -/

/-- The device is not open (R83). -/
def deviceFused (s : State) : Bool := s.fuses.keyHash.any (· != 0)

/-- The first `n` bytes that the flash gave. -/
def streamed (n : Nat) (img : List Nat) : List Nat := (img ++ List.replicate (n - img.length) 0).take n

/-- CRC-32C of an image as R81 takes it. -/
def imageCrc (img : List Nat) : Nat := crc32c (img.take 0xBC ++ img.drop 0x100)

/-- The verify checks of an image (R85): the reason and the record index. -/
def verifyCheck (s : State) (img : List Nat) : Nat × Nat :=
  let key := sliceOf img 0x80 32
  let signed := bitAt (byteAt img 6) 0
  let fused := deviceFused s
  let (ok, i, req, _) := walkRecords s.fuses.variant img.length (img.drop 0x100) 0 none none
  if imageCrc img != hdrField img 0xBC 4 then (5, 0)
  else if fused && sha512 key != s.fuses.keyHash then (6, 0)
  else if fused && !signed then (7, 0)
  else if signed && !ed25519Ok key (img.take 0xC0 ++ img.drop 0x100) (sliceOf img 0xC0 64) then (8, 0)
  else if hdrField img 0x10 4 < s.fuses.floor then (9, 0)
  else if !ok || i != hdrField img 0xC 4 then (10, i)
  else match req with
    | some k => (11, k)
    | none => (0, 0)

/-- The mode that the image's MODE record names (R87). -/
def imageMode (s : State) (img : List Nat) : Option Nat :=
  (walkRecords s.fuses.variant img.length (img.drop 0x100) 0 none none).2.2.2

end Sys2Proof.Machine
end

