-- ==== Sys2Proof/Machine/Derive.lean ====
section
/-! DEFINITION. Basic and expert level (R145-R157): the derivation of every unit, and how a re-derivation runs and ends. -/

namespace Sys2Proof.Machine

/-- The derived fields of lane `n` (R246); adapted and partner-requested values are live and stay. -/
def deriveLnp (n : Nat) (s : State) : State :=
  let s1 := applyPreset n (s.lane n).txPreset ((s.set LNP_TXFIR.FOLLOW 1 n).set LNP_RXEQ.ADAPT 1 n)
  let mask := if s1.flag LNP_EQBASIC.MODE n then 2 ^ s1.get LNP_EQBASIC.PRESET n else 0xFF
  let s2 := ((s1.set LNP_PRESETS.MASK mask n).set LNP_TMO.DETECT 20 n).set LNP_TMO.BOND 10 n
  let s3 := deriveEq n (s2.get LNP_STAT.RATE n) s2
  deriveMargin n (((s3.set LNP_TMO2.BACKMIN 100 n).set LNP_TMO2.BACKMAX 1000 n).set LNP_MONTH.DWELL 20 n)

/-- The largest power of two that is at most `n`, from 1 to 16 (R518). -/
def fetchSize (n : Nat) : Nat := if 16 ≤ n then 16 else if 8 ≤ n then 8 else if 4 ≤ n then 4 else if 2 ≤ n then 2 else 1

/-- The derived fields of `QUE` (R518). -/
def deriveQue (s : State) : State :=
  let t := s.get QUE_BASIC.STALLTO
  let s1 := (s.set QUE_TIMERS.STARTTO t).set QUE_TIMERS.MIDTO t
  (s1.set QUE_DMA.FETCH (fetchSize (s1.get QUE_BASIC.AHEAD))).set QUE_DMA.SLICE 64

/-- The derivation of unit `u` (R145), in every instance that is there. -/
def deriveUnit (u : Nat) (s : State) : State :=
  let all (n : Nat) (f : Nat → State → State) : State := (List.range n).foldl (fun t k => f k t) s
  match u with
  | 2 => deriveFtim s
  | 3 => deriveClk s
  | 4 => deriveTim s
  | 5 => all 16 (fun n t => if laneExists t n then deriveLnp n t else t)
  | 6 => all 16 (fun g t => if laneExists t g then deriveGroup g t else t)
  | 7 => all 2 (fun n t => if portExists t n then derivePort n (t.port n).lineNs t else t)
  | 8 => all 4 derivePipe
  | 9 => derivePos s
  | 10 => deriveTws s
  | 11 => deriveBtm s
  | 12 => deriveOut s
  | 13 => deriveQue s
  | 14 => deriveHbr s
  | 15 => all 32 deriveCtx
  | 16 => deriveDrl s
  | 17 => deriveBwr s
  | _ => s

/-- The RWX bits of the register at `a`. -/
def rwxBits (a : Nat) : Nat := match rowAt a with | some (r, _, _) => r.rwx | none => 0

/-- The RWX bits of unit `u` in which `t` differs from `s`: address, mask and value. -/
def derivedWords (u : Nat) (s t : State) : List (Nat × Nat × Nat) :=
  let mine (a : Nat) : Bool := within a (unitBase u) (unitEnd u)
  let ks := t.regs.map (·.1) ++ (s.regs.map (·.1)).filter (fun a => !t.regs.any (fun e => e.1 == a))
  (ks.filter mine).filterMap (fun a =>
    let m := (s.rdA a ^^^ t.rdA a) &&& rwxBits a
    if m == 0 then none else some (a, m, t.rdA a &&& m))

/-- The re-derivation of unit `u` that runs, if one does. -/
def running (s : State) (u : Nat) : Option Rederive := s.glb.rederive.find? (fun r => r.unit == u)

/-- A re-derivation of unit `u` starts from the present basic fields, in place of one that runs (R145, R149). -/
def restartRederive (u : Nat) (s : State) : State :=
  let t := deriveUnit u s
  let r : Rederive := { unit := u, words := derivedWords u s t, due := false }
  { s with
    freeCount := t.freeCount
    glb := { s.glb with rederive := s.glb.rederive.filter (fun x => x.unit != u) ++ [r] } }

/-- A basic field of unit `u` has been written at the basic level (R145, R157). -/
def basicWritten (u : Nat) (s : State) : State :=
  if (running s u).isSome then
    { s with glb := { s.glb with
      rederive := s.glb.rederive.map (fun x => if x.unit == u then { x with due := true } else x) } }
  else restartRederive u s

/-- One register takes derived bits. -/
def putDerived (e : Nat × Nat × Nat) (s : State) : State :=
  s.wrA e.1 ((s.rdA e.1 &&& (2 ^ 32 - 1 - e.2.1)) ||| e.2.2)

/-- The derived values of a re-derivation of unit `u` take effect (R147, R151). -/
def applyDerived (u : Nat) (ws : List (Nat × Nat × Nat)) (s0 : State) : State :=
  let s := if u == 12 then seeGuards s0 else s0
  let s1 := ws.foldl (fun t e => putDerived e t) s
  if u == 11 && ws != [] then runCells [] s1 else s1

/-- A re-derivation of unit `u` ends (R157); true when nothing of the unit runs any longer. -/
def rederiveEnd (u : Nat) (s : State) : Bool × State :=
  match running s u with
  | none => (false, s)
  | some r =>
    let s1 : State := { s with glb := { s.glb with rederive := s.glb.rederive.filter (fun x => x.unit != u) } }
    let s2 := applyDerived u r.words s1
    if r.due then (false, restartRederive u s2) else (true, s2)

/-- The RWX bits that a read of `a` returns while a re-derivation runs are those it will leave (R146). -/
def pendingWord (s : State) (a : Nat) : Nat :=
  match (unitAt a).bind (running s) with
  | none => s.rdA a
  | some r => (r.words.filter (fun e => e.1 == a)).foldl (fun w e => (w &&& (2 ^ 32 - 1 - e.2.1)) ||| e.2.2) (s.rdA a)

/-- Whether unit `u` has RWX fields to derive. -/
def derives (u : Nat) : Bool := 2 ≤ u && u ≤ 17

/-- Unit `u` changes to the expert level (R148). -/
def toExpert (u : Nat) (s : State) : State := s.wrA (unitBase u + 4) 1

/-- A write of `UNIT_LEVEL` of unit `u` (R148, R149, R199). -/
def levelWrite (u v : Nat) (s : State) : State :=
  if bitAt v 0 then
    if derives u && (running s u).isSome && !unitExpert s u then
      { s with glb := { s.glb with levelWait := s.glb.levelWait ++ [u] } }
    else toExpert u s
  else
    let was := unitExpert s u
    let s1 := s.wrA (unitBase u + 4) 0
    if !derives u then s1
    else
      let s2 := if u == 4 && was then s1.set TIM_STAT.SERVO 1 else s1
      if was || (running s2 u).isSome then restartRederive u s2 else s2

/-- A reset of unit `u` ends what its levels had under way. -/
def dropRederive (u : Nat) (s : State) : State :=
  { s with glb := { s.glb with
    rederive := s.glb.rederive.filter (fun x => x.unit != u)
    levelWait := s.glb.levelWait.filter (· != u)
    held := s.glb.held.filter (fun h => h.unit != u) } }

end Sys2Proof.Machine
end

