-- ==== Sys2Proof/Machine/Resets.lean ====
section
/-! DEFINITION. Unit resets (R71, R73) and Function Level Reset (R537-R542). -/

namespace Sys2Proof.Machine

/-! ### Unit resets -/

/-- Consumer `i` holds nothing and is idle. -/
def idleCon (i : Nat) (s : State) : State :=
  let s1 := if (s.con i).held.isSome then dropHeld i s else s
  if conBusy s1 i then setBusy i false s1 else s1

/-- The consumers from `lo` up to `hi` (exclusive) hold nothing and are idle. -/
def idleCons (lo hi : Nat) (s : State) : State := (List.range (hi - lo)).foldl (fun t k => idleCon (lo + k) t) s

/-- The registers of unit `u` at their reset words. -/
def clearUnit (u : Nat) (s : State) : State := s.clearRegs (unitBase u) (unitEnd u)

/-- The frames that a predicate picks leave their sources. -/
def dropFeeds (gone : Feed → Bool) (s : State) : State :=
  { s with src := { s.src with feeds := s.src.feeds.filter (fun f => !gone f) } }

/-- A reset of `LNP`: every lane leaves its group and is in OFF. -/
def resetLnp (s : State) : State :=
  let s1 := (List.range 16).foldl (fun t n => if laneExists t n then quadResetLane n (laneLost n t) else t) s
  { clearUnit 5 s1 with lanes := [] }

/-- A reset of `CLP`: groups, streams and the frames they assemble. -/
def resetClp (s : State) : State :=
  let s1 := idleCons 0 0x40 (dropFeeds (fun f => f.src == 0) s)
  { clearUnit 6 s1 with
    groups := []
    lanes := (s1.lanes.map (fun e => (e.1, { e.2 with member := false }))).filter (fun e => e.2 != {}) }

/-- A reset of `PAR`. -/
def resetPar (s : State) : State :=
  { clearUnit 7 (idleCons 0x40 0x42 (dropFeeds (fun f => f.src == 1) s)) with ports := [] }

/-- A reset of `PIX`: the frames in the pipes and those that wait for one are lost. -/
def resetPix (s : State) : State := { clearUnit 8 (dropFeeds (fun f => f.path != 0) s) with pipes := [] }

/-- A reset of `POS`: the levels go on showing the pins; the wheels lose their sources. -/
def resetPos (s : State) : State :=
  let s1 := keepLevels s (clearUnit 9 s)
  let s2 : State := { s1 with chans := [], pos := { s.pos with losses := [], stepAt := none } }
  idleCons 0x70 0x88 ((List.range 8).foldl (fun t n => loseSource n t) s2)

/-- A reset of `TWS`: the classes of streams may change. -/
def resetTws (s : State) : State :=
  let s1 := idleCons 0x88 0x8D (clearUnit 10 s)
  recheckAll { s1 with tws := {}, src := { s1.src with asm := none } }

/-- A reset of `OUT`: pulses end, and every output is at its reset setting. -/
def resetOut (s : State) : State := deriveOut { clearUnit 12 (idleCons 0x48 0x64 s) with out := {} }

/-- A reset of `QUE`: queues, maps, contexts and items; descriptor reads that return are dropped. -/
def resetQue (s : State) : State :=
  let s1 := idleCons 0x1A0 0x1B0 (clearUnit 13 s)
  { s1 with
    que := { nextId := s.que.nextId }
    hbr := { s1.hbr with
      reads := s1.hbr.reads.map (fun r => if r.qid < 16384 then { r with count := 0 } else r)
      heldMsgs := s1.hbr.heldMsgs.filter (fun m => m.source != 0) } }

/-- A reset of `VEN`: every context is in OFF and holds no picture. -/
def resetVen (s : State) : State := idleCons 0xE0 0x100 { clearUnit 15 s with ven := { order := s.ven.order } }

/-- A reset of `ERR`: ring, counters and every rate limit. -/
def resetErr (s : State) : State := { clearUnit 18 s with err := {}, runs := [], stamps := [] }

/-- The reset of unit `u` (R71, R73). -/
def unitReset (u : Nat) (s0 : State) : State :=
  let s := dropRederive u s0
  match u with
  | 4 => timeBaseReset true s
  | 5 => resetLnp s
  | 6 => resetClp s
  | 7 => resetPar s
  | 8 => resetPix s
  | 9 => resetPos s
  | 10 => resetTws s
  | 11 => resetBtm (seeGuards s)
  | 12 => resetOut s
  | 13 => resetQue s
  | 15 => if s.fuses.variant == .f then resetVen s else s
  | 16 => drlReset false (failFar s)
  | 17 => resetBwr s
  | 18 => resetErr s
  | _ => s

/-- The unit that bit `k` of `CFG_URST` resets. -/
def urstUnit (k : Nat) : Nat := if k < 10 then k + 4 else k + 5

/-- A write of `CFG_URST` (R73), judged by the mode in effect. -/
def urstWrite (v : Nat) (s : State) : State :=
  if modeNow s != 0 && modeNow s != 7 then s.log 0x020C
  else
    let ks := (List.range 14).filter (fun k => bitAt v k && (k != 10 || s.fuses.variant == .f))
    let s1 := ks.foldl (fun t k => unitReset (urstUnit k) t) s
    s1.set CFG_URST.UNIT (s1.get CFG_URST.UNIT ||| ks.foldl (fun m k => m ||| 2 ^ k) 0)

/-- The reset of bit `k` of `CFG_URST` ends (R73). -/
def urstDone (k : Nat) (s : State) : State := s.set CFG_URST.UNIT (putBits (s.get CFG_URST.UNIT) k k 0)

/-! ### Function Level Reset -/

/-- The queues whose context holds a value. -/
def namedQueues (s : State) : List Nat :=
  ((s.regs.map (·.1)).filter (fun a => within a 0x900000 0xA00000)).map (fun a => (a - 0x900000) / 64) |>.eraseDups

/-- Every queue as RESET leaves it, and the maps (R537). -/
def flrQueues (s : State) : State :=
  let s1 := (namedQueues s).foldl (fun t q => queueReset q t) s
  s1.clearRegs 0x801000 0x801880

/-- The host-notify consumers as FLR leaves them (R537). -/
def flrNotify (s : State) : State :=
  let s1 := s.hbr.heldMsgs.foldl (fun t m => if m.source == 1 then setBusy (0x1C0 + m.index) false t else t) s
  let s2 := (s1.clearRegs 0x600800 0x600A00).clearRegs 0x600400 0x600408
  { s2 with hbr := { s2.hbr with heldMsgs := s2.hbr.heldMsgs.filter (fun m => m.source != 1) } }

/-- The bridge as FLR leaves it (R537, R539, R541): the link, sticky AER bits and accesses of its own far side stay; polls
end with their list. -/
def flrBridge (s : State) : State :=
  let old := s.hbr
  let w := s.get HBR_STAT.WIDTH
  let g := s.get HBR_STAT.GEN
  let s1 := abandonFar s
  let far := s1.hbr.far.filter (fun r => r.poll.isNone)
  let s2 := bridgeReset s1
  let s3 : State := { s2 with hbr := { s2.hbr with
    linkUp := old.linkUp
    aerUncor := old.aerUncor
    aerCor := old.aerCor
    nextFar := old.nextFar
    silent := old.silent ++ old.reads.map (·.tag) } }
  (((setFar far s3).set HBR_STAT.WIDTH w).set HBR_STAT.GEN g).set HBR_STAT.STATE 4

/-- The units that `HBR_FLRSCOPE` names (R538). -/
def flrScope (scope : Nat) (s : State) : State :=
  let hit (k : Nat) (us : List Nat) (t : State) : State := if bitAt scope k then us.foldl (fun x u => unitReset u x) t else t
  let s0 := if bitAt scope 0 then dropToStandby s else haltContexts 1 s
  hit 6 [17] (hit 5 [16] (hit 4 [4] (hit 3 [11] (hit 2 [5] (hit 1 [9] (hit 0 [6, 7, 8, 10, 12, 15] s0))))))

/-- Initiate Function Level Reset (R539, R541, R542). -/
def flrStart (s : State) : State :=
  if s.get HBR_STAT.STATE != 2 && s.get HBR_STAT.STATE != 3 then s
  else
    let scope := s.get HBR_FLRSCOPE.SCOPE
    let s1 := flrNotify (flrQueues (flrBridge s))
    (flrScope scope s1).log 0x0E04 [scope]

/-- FLR completes (R540, R542): the queues are in IDLE and the bridge is in SLAVE. -/
def flrDone (s : State) : State :=
  if s.get HBR_STAT.STATE != 4 then s
  else
    let s1 := (namedQueues s).foldl (fun t q => if queueState t q == 3 then t.set QUE_CTX9.STATE 0 q else t) s
    settleBridge ((s1.set QUE_QCMDSTAT.BUSY 0).set HBR_STAT.STATE 2)

end Sys2Proof.Machine
end

