-- ==== Sys2Proof/Machine/Flash.lean ====
section
/-! DEFINITION. Rewriting the flash (R104-R109): `CFG_FSPEED`, the unlock, the commands of `CFG_FCMD` and their ends. -/

namespace Sys2Proof.Machine

/-- A write of `CFG_FSPEED` (R102); the re-derivation of `CFG_FTIM` follows from the basic write. -/
def fspeedWrite (v : Nat) (s : State) : State :=
  if inService s then codedWrite (CFG_FSPEED.reg.adr 0) v s else s.log 0x0207

/-- A write of `CFG_FUNLOCK` (R104): the first command after it resets the flash (R105). -/
def funlockWrite (key : Nat) (s : State) : State :=
  if key == 0x666C7368 && inService s then { s with cfg := { s.cfg with unlocked := true, flashReset := true } } else s

/-- A write of `CFG_FADDR`, `CFG_FARG` or `CFG_FBUF` (R105). -/
def flashArgWrite (a v : Nat) (s : State) : State :=
  if s.flag CFG_FCMD.BUSY then s.log 0x0208 else codedWrite a v s

/-- A flash command is refused (R104, R106, R107). -/
def refuseFlash (s : State) : State := (s.set CFG_FCMD.ERR 1).log 0x0207

/-- The bytes of `CFG_FBUF` from 0 up to `n`. -/
def flashBuf (s : State) (n : Nat) : List Nat :=
  ((List.range 64).flatMap (fun k => leBytes 4 (s.get CFG_FBUF.DATA k))).take n

/-- The range of READ and PROGRAM lies within one page (R106, registers). -/
def pageOk (s : State) : Bool :=
  let n := s.get CFG_FARG.ARG
  1 ≤ n && n ≤ 256 && s.get CFG_FADDR.ADDR % 256 + n ≤ 256

/-- What the grabber sends to the flash for command `op` (R77, R105, R106). -/
def flashSends (op : Nat) (s : State) : State :=
  let a := s.get CFG_FADDR.ADDR
  match op with
  | 1 => s.emit (.flash 0x13 a [])
  | 2 => (s.emit (.flash 0x06 0 [])).emit (.flash 0x12 a (flashBuf s (s.get CFG_FARG.ARG)))
  | 3 => (s.emit (.flash 0x06 0 [])).emit (.flash 0x21 a [])
  | 4 => (s.emit (.flash 0x06 0 [])).emit (.flash 0xDC a [])
  | 5 => s.emit (.flash 0x13 0 [])
  | 6 => s.emit (.flash 0x13 (s.get CFG_SLOTBOFS.OFS) [])
  | _ => s

/-- Whether command `op` may run with the fuse supply as `vpp` says (R105-R107). -/
def flashMay (op : Nat) (vpp : Bool) (s : State) : Bool :=
  let n := s.get CFG_FARG.ARG
  match op with
  | 1 => pageOk s
  | 2 => pageOk s
  | 8 => vpp && s.fuses.floor < n && n ≤ 128 && n ≤ s.get CFG_IMGROLL.ROLLBACK
  | 9 => vpp && !deviceFused s
  | _ => 1 ≤ op && op ≤ 9

/-- A command code written to `CFG_FCMD` while no command runs (R104, R105, R109); 0 is none. -/
def flashCommand (op : Nat) (vpp : Bool) (s : State) : State :=
  if op == 0 then s
  else if !(inService s && s.cfg.unlocked) || !flashMay op vpp s then refuseFlash s
  else if op == 7 then warmReset s
  else
    let s1 := if s.cfg.flashReset then flashReset { s with cfg := { s.cfg with flashReset := false } } else s
    flashSends op { s1.set CFG_FCMD.BUSY 1 with cfg := { s1.cfg with flashOp := op } }

/-- A write of `CFG_FCMD` (R104, R105). -/
def fcmdWrite (v : Nat) (vpp : Bool) (s : State) : State :=
  if s.flag CFG_FCMD.BUSY then s.log 0x0208
  else flashCommand (v % 16) vpp (if bitAt v 30 then s.set CFG_FCMD.ERR 0 else s)

/-- The header and verify checks on slot `k` without applying anything (R85). -/
def flashVerify (k : Nat) (img : List Nat) (s : State) : Nat :=
  let r := headerCheck k (s.get CFG_SLOTBOFS.OFS) (img.take 256)
  if r != 0 then r else (verifyCheck s (streamed (imgLen img) img)).1

/-- `CFG_FBUF` takes the bytes that a READ returned (R106); the rest of the buffer stays. -/
def fillBuf (data : List Nat) (s : State) : State :=
  let n := s.get CFG_FARG.ARG
  let bs := (streamed n data) ++ (flashBuf s 256).drop n
  (List.range 64).foldl (fun t k => t.set CFG_FBUF.DATA (leNat (sliceOf bs (4 * k) 4)) k) s

/-- What the end of command `op` does (R105-R107): the bytes read, and whether the flash reported a failure. -/
def flashEnd (op : Nat) (data : List Nat) (failed : Bool) (s : State) : State :=
  match op with
  | 1 => fillBuf data s
  | 2 => if failed then (s.set CFG_FCMD.ERR 1).log 0x0209 else s
  | 3 => if failed then (s.set CFG_FCMD.ERR 1).log 0x0209 else s
  | 4 => if failed then (s.set CFG_FCMD.ERR 1).log 0x0209 else s
  | 5 => s.set CFG_FRES.REASON (flashVerify 0 data s)
  | 6 => s.set CFG_FRES.REASON (flashVerify 1 data s)
  | 8 => { s with fuses := { s.fuses with floor := s.get CFG_FARG.ARG } }
  | 9 => { s with fuses := { s.fuses with keyHash := flashBuf s 64 } }
  | _ => s

/-- The running flash command ends, and BUSY clears (R105). -/
def flashDone (data : List Nat) (failed : Bool) (s : State) : State :=
  if !s.flag CFG_FCMD.BUSY then s
  else (flashEnd s.cfg.flashOp data failed { s with cfg := { s.cfg with flashOp := 0 } }).set CFG_FCMD.BUSY 0

end Sys2Proof.Machine
end

