-- ==== Sys2Proof/Machine/Regs.lean ====
section
/-! DEFINITION. What a write to a register does: one operation over the whole of BAR0 that the host, the loader and other
nodes share (R16, R140, R145-R157). Registers without behaviour of their own take the word by their access codes. -/

namespace Sys2Proof.Machine

/-! ### Unit by unit -/

/-- A write to a `GLB` register (R116, R132). -/
def glbReg (b a v : Nat) (s : State) : State :=
  match b with
  | 0x40 => requestMode (v % 8) 0 s
  | 0x48 => let t := codedWrite a v s; if bitAt v 31 then drainExpire t else t
  | _ => codedWrite a v s

/-- Whether the fuse supply stands when a flash command is written by a path that does not say so: open (log entry 5). -/
def fcmdAny (v : Nat) (s : State) : State :=
  let (b, t) := s.free 1
  fcmdWrite v (b == 1) t

/-- A write to a `CFG` register (R71, R73, R102-R107). -/
def cfgReg (b a v : Nat) (s : State) : State :=
  match b with
  | 0x10040 => fspeedWrite v s
  | 0x10050 => urstWrite v s
  | 0x10054 => warmWrite v s
  | 0x10080 => funlockWrite v s
  | 0x10084 => if v % 16 == 8 || v % 16 == 9 then fcmdAny v s else fcmdWrite v false s
  | 0x10088 => flashArgWrite a v s
  | 0x1008C => flashArgWrite a v s
  | 0x10100 => flashArgWrite a v s
  | _ => codedWrite a v s

/-- A write to a `CLK` register (R59, R61, R70). -/
def clkReg (b i a v : Nat) (s : State) : State :=
  match b with
  | 0x20014 => vencenWrite v s
  | 0x20030 => clkRstWrite v s
  | 0x20100 => pllWrite i v s
  | _ => codedWrite a v s

/-- A driver write of `TIM_STAT` (R199): with the servo stopped, HOSTLOCK chooses between TRACKING and LOCKED. -/
def timStatWrite (v : Nat) (s : State) : State :=
  let t := codedWrite (TIM_STAT.reg.adr 0) v s
  if !servoOn t && (timState t == 2 || timState t == 3) then enterTim (hostLockState t) t else t

/-- A write of `TIM_RAWPOP` removes the head raw record (R196). -/
def rawPop (s : State) : State := setRaw (s.tim.raw.drop 1) s

/-- A write to a `TIM` register (R169-R171, R196, R199). -/
def timReg (b a v : Nat) (s : State) : State :=
  match b with
  | 0x100040 => timStatWrite v s
  | 0x100044 => if bitAt v 0 then rearmWrite s else s
  | 0x100118 => adjWrite v s
  | 0x100130 => stepCmdWrite v s
  | 0x100404 => rawPop s
  | _ => codedWrite a v s

/-- `n` free words. -/
def freeWords : Nat → State → List Nat × State
  | 0, s => ([], s)
  | n + 1, s =>
    let (w, t) := s.free 32
    let (ws, u) := freeWords n t
    (w :: ws, u)

/-- ABORT written by a path that does not say what the sweep had counted: an open number of open words (R238). -/
def sweepAbortAny (n : Nat) (s : State) : State :=
  let (k, t) := s.free 13
  let (ws, u) := freeWords (min k (sweepPoints s n)) t
  sweepAbort n ws u

/-- A write of `LNP_INJ`: each bit injects its fault (R242). -/
def injWrite (n v : Nat) (s : State) : State :=
  (List.range 5).foldl (fun t k => if bitAt v k then injectFault n k t else t) s

/-- A write to an `LNP` register of lane `i` (R232, R233, R236, R238, R240, R242, R244, R245, R247). -/
def lnpReg (b i a v : Nat) (s : State) : State :=
  match b with
  | 0x200100 => rateMaxWrite i v s
  | 0x200104 =>
    let t := if bitAt v 1 then rebase i s else s
    if bitAt v 0 then retrainWrite i t else t
  | 0x200118 =>
    let t := if bitAt v 0 then deepRequest i s else s
    if bitAt v 1 then wakeLane i t else t
  | 0x200140 => txFirWrite i v (expertDrop a v s)
  | 0x200208 =>
    let t := if bitAt v 0 then sweepStart i s else s
    if bitAt v 1 then sweepAbortAny i t else t
  | 0x200240 => loopWrite i (v % 4) s
  | 0x200260 => injWrite i v s
  | _ => codedWrite a v s

/-- A write to a `CLP` register of lead lane or stream `i` (R287, R290). ALIGNINT counts four rows a unit, so that its
eight bits reach 1,020 rows and the refusal above 1,024 never applies. -/
def clpReg (b i a v : Nat) (s : State) : State :=
  match b with
  | 0x300300 => mailboxWrite i v s
  | 0x300304 => codedWrite a (v / 4 * 4) s
  | 0x321000 => streamWrite i v s
  | _ => codedWrite a v s

/-- A write to a `PAR` register of port `i` (R301, R305, R310). -/
def parReg (b i a v : Nat) (s : State) : State :=
  if b == 0x38010C then parStreamWrite i v s
  else if touchesBasic a then portBasic i (codedWrite a v s)
  else codedWrite a v s

/-- A write to a `PIX` register of pipe `i` (R322, R340, R352). -/
def pixReg (b i j a v : Nat) (s : State) : State :=
  match b with
  | 0x400100 => pixSrcWrite i v s
  | 0x410000 => pixTableWrite i 0 j v s
  | 0x418000 => pixTableWrite i 1 j v s
  | 0x400210 => if bitAt v 31 then pixBistStart i s else s
  | _ => codedWrite a v s

/-- A write to a `POS` register of channel `i` (R362, R367, R369, R385, R390). -/
def posReg (b i a v : Nat) (s : State) : State :=
  match b with
  | 0x500100 => posCfgWrite i v s
  | 0x500104 => idxCfgWrite i v s
  | 0x500128 => posCtlWrite i v s
  | 0x5001C8 => spdWinWrite i v s
  | _ => codedWrite a v s

/-- A write of `TWS_LSASM` (R419): a frame in assembly ends when its stream is no longer the assembled one. -/
def lsAsmWrite (v : Nat) (s : State) : State :=
  let a := TWS_LSASM.reg.adr 0
  if s.src.asm.isSome && (!bitAt v 31 || bitsOf v 29 24 != s.get TWS_LSASM.STREAM) then codedWrite a v (closeAssembly 0 s)
  else codedWrite a v s

/-- A write to a `TWS` register of wheel or entry `i` (R412, R415, R419, R422, R423). -/
def twsReg (b i a v : Nat) (s : State) : State :=
  match b with
  | 0x540100 => wcfgWrite i v s
  | 0x540104 => wzeroWrite i v s
  | 0x540130 => wthWrite i v s
  | 0x540134 => wth2Write i v s
  | 0x541000 => entryCtlWrite i v s
  | 0x540400 => let t := codedWrite a v s; armDivider (schedMode t) t
  | 0x540418 => lsAsmWrite v s
  | _ => codedWrite a v s

/-- A write to a `BTM` register with index `i` (R441-R443, R452, R455). -/
def btmReg (b i a v : Nat) (s : State) : State :=
  match b with
  | 0x600100 => softFire i v s
  | 0x600180 => ovrWrite i v s
  | 0x600400 => hnStatWrite i v s
  | 0x601000 => beatSrcWrite i v s
  | 0x602000 => cselWrite i v s
  | 0x603000 => cellWrite i v s
  | 0x603004 => runCells [] (codedWrite a v (seeGuards s))
  | _ => codedWrite a v s

/-- A write to an `OUT` register with index `i` (R466, R470-R475). -/
def outReg (b i a v : Nat) (s : State) : State :=
  match b with
  | 0x680300 => codedWrite a v (seeGuard i s)
  | 0x680318 => codedWrite a v (seeGuard i s)
  | 0x68031C => codedWrite a v (seeGuard i s)
  | 0x680500 => aenaWrite v s
  | 0x680600 => analogAll (codedWrite a v s)
  | 0x680604 => avalWrite i v s
  | 0x680608 => arngWrite i v s
  | _ => codedWrite a v s

/-- A write of `QUE_DMA` (R518): a SLICE outside 512 to 65,536 bytes, or not a power of two, is refused. -/
def queDmaWrite (v : Nat) (s : State) : State :=
  let a := QUE_DMA.reg.adr 0
  if s.flag QUE_LEVEL.EXPERT && !([8, 16, 32, 64, 128, 256, 512, 1024].contains (v % 65536)) then
    (codedWrite a (v / 65536 * 65536 + s.get QUE_DMA.SLICE) s).log 0x0D05
  else codedWrite a v s

/-- A write to a `QUE` register with index `i` (R486, R514, R515, R517, R518). -/
def queReg (b i a v : Nat) (s : State) : State :=
  match b with
  | 0x800020 => queueCommand (v / 2 ^ 28) (v % 16384) s
  | 0x800080 => if bitAt v 31 then queBistStart s else s
  | 0x800104 => queDmaWrite v s
  | 0x900000 => ctxWrite i 0 v s
  | 0x900004 => ctxWrite i 1 v s
  | 0x900008 => ctxWrite i 2 v s
  | 0x90000C => ctxWrite i 3 v s
  | 0x900010 => ctxWrite i 4 v s
  | 0x900014 => ctxWrite i 5 v s
  | _ => if within a 0x801000 0x801880 then mapWrite a v s else codedWrite a v s

/-- A write of `HBR_POLL[k]` (R561): EN set makes the next read the entry's first. -/
def pollWrite (k a v : Nat) (s : State) : State :=
  let t := codedWrite a v s
  if bitAt v 31 && !s.flag HBR_POLL.EN k then
    { t with hbr := { t.hbr with pollSeen := tput false t.hbr.pollSeen k false } }
  else t

/-- A write to an `HBR` register with index `i` (R554, R561). -/
def hbrReg (b i a v : Nat) (s : State) : State :=
  match b with
  | 0xA00064 => farPump (codedWrite a v s)
  | 0xA00100 => pollWrite i a v s
  | _ => codedWrite a v s

/-- A write of `VEN_CQP` (R600): QPMIN above QPMAX, or QPINIT outside them, keeps the fields that the refusal names. -/
def cqpWrite (x v : Nat) (s : State) : State :=
  let t := codedWrite (VEN_CQP.reg.adr x) v s
  let bad := t.get VEN_CQP.QPMAX x < t.get VEN_CQP.QPMIN x
  let t1 := if bad then (t.set VEN_CQP.QPMIN (s.get VEN_CQP.QPMIN x) x).set VEN_CQP.QPMAX (s.get VEN_CQP.QPMAX x) x else t
  let q := t1.get VEN_CQP.QPINIT x
  let out := q < t1.get VEN_CQP.QPMIN x || t1.get VEN_CQP.QPMAX x < q
  let t2 := if out then t1.set VEN_CQP.QPINIT (s.get VEN_CQP.QPINIT x) x else t1
  if bad || out then refuseVen x VEN_CQP.reg t2 else t2

/-- A write of `VEN_CSRCH` or `VEN_CDIV` (R600): a value out of range is refused and keeps its field. -/
def rangeWrite (x : Nat) (f g : Fld) (lo hi v : Nat) (s : State) : State :=
  let t := codedWrite (f.adr x) v s
  if t.get g x < lo || hi < t.get g x then refuseVen x f (t.set g (s.get g x) x) else t

/-- A write to a `VEN` register of core or context `i` (R577, R581, R591, R597, R600). -/
def venReg (b i a v : Nat) (s : State) : State :=
  match b with
  | 0xC00100 => parkWrite i v s
  | 0xC81000 => venEnableWrite i v s
  | 0xC81024 =>
    let t := if bitAt v 1 then venRestart i s else s
    if bitAt v 0 then t.set VEN_CSTAT.IDRPEND 1 i else t
  | 0xC81060 => cqpWrite i v s
  | 0xC8106C => rangeWrite i VEN_CSRCH.reg VEN_CSRCH.SRCH2 0 64 v s
  | 0xC81070 => rangeWrite i VEN_CDIV.reg VEN_CDIV.NSEG 1 8 v s
  | _ => codedWrite a v s

/-- A write to a `BWR` register (R645, R646, R651, R652). -/
def bwrReg (b a v : Nat) (s : State) : State :=
  match b with
  | 0xE80100 => bwrCfgWrite v s
  | 0xE80140 => bwrTimWrite a v s
  | 0xE80144 => bwrTimWrite a v s
  | 0xE80148 => bwrTimWrite a v s
  | 0xE80300 => txctlWrite v s
  | 0xE80320 => rxPop s
  | _ => codedWrite a v s

/-- A write of `ERR_RCNT` ends a run of overwrites (R722). -/
def rcntWrite (v : Nat) (s : State) : State :=
  let t := codedWrite (ERR_RCNT.COUNT.adr 0) v s
  { t with runs := tput false t.runs 0x12010000 false }

/-! ### The whole of BAR0 -/

/-- What the write of `v` to the register at `a` of unit `u`, with row base `b` and indices `i`, `j`, does. -/
def unitReg (u b i j a v : Nat) (s : State) : State :=
  match u with
  | 1 => glbReg b a v s
  | 2 => cfgReg b a v s
  | 3 => clkReg b i a v s
  | 4 => timReg b a v s
  | 5 => lnpReg b i a v s
  | 6 => clpReg b i a v s
  | 7 => parReg b i a v s
  | 8 => pixReg b i j a v s
  | 9 => posReg b i a v s
  | 10 => twsReg b i a v s
  | 11 => btmReg b i a v s
  | 12 => outReg b i a v s
  | 13 => queReg b i a v s
  | 14 => hbrReg b i a v s
  | 15 => venReg b i a v s
  | 16 => if b == 0xE20000 then drlCfgWrite v s else codedWrite a v s
  | 17 => bwrReg b a v s
  | 18 => if b == 0xF00108 then rcntWrite v s else codedWrite a v s
  | _ => s

/-- The RWB bits of the register at `a`. -/
def rwbBits (a : Nat) : Nat := match rowAt a with | some (r, _, _) => r.rwb | none => 0

/-- The write of `v` to `a`, where the register held `old`, has been taken: its RWB bits read as written, or it changed. -/
def basicTaken (a v old : Nat) (s : State) : Bool :=
  (s.rdA a &&& rwbBits a) == (v &&& rwbBits a) || s.rdA a != old

/-- A write to an RWB field at the basic level, unless it was refused, re-derives its unit (R145). -/
def afterBasic (u a v old : Nat) (s : State) : State :=
  if touchesBasic a && !unitExpert s u && basicTaken a v old s then basicWritten u s else s

/-- The write of `v` to the register at BAR0 address `a`, past every gate (R16, R141, R145, R148, R149). -/
def regOp (a v : Nat) (s : State) : State :=
  match rowAt a, unitAt a with
  | some (r, i, j), some u =>
    if a == unitBase u + 4 then levelWrite u v s else afterBasic u a v (s.rdA a) (unitReg u r.base i j a v s)
  | _, _ => s

/-- The write of `v` to address `a` as it reaches the core: absent space, a change of level under way, or `regOp`. -/
def coreWrite (a v : Nat) (s : State) : State := coreGate a v (regOp a v) s

/-! ### The end of a re-derivation (R148, R157) -/

/-- The writes that waited for the change of level of unit `u`, in order (R148, R153). -/
def replayHeld (u : Nat) (s : State) : State :=
  let mine := s.glb.held.filter (fun h => h.unit == u)
  mine.foldl (fun t h => coreWrite h.addr h.val t)
    { s with glb := { s.glb with held := s.glb.held.filter (fun h => h.unit != u) } }

/-- A re-derivation of unit `u` ends (R148, R157): a write of EXPERT = 1 that waited takes effect with the last of them. -/
def rederiveDone (u : Nat) (s : State) : State :=
  let (last, t) := rederiveEnd u s
  if last && levelWaits t u then
    replayHeld u (toExpert u { t with glb := { t.glb with levelWait := t.glb.levelWait.filter (· != u) } })
  else t

/-- Every re-derivation that runs ends, as the loader waits for before its next record (R90). -/
def settleDerived : Nat → State → State
  | 0, s => s
  | n + 1, s =>
    match s.glb.rederive with
    | [] => s
    | r :: _ => settleDerived n (rederiveDone r.unit s)

end Sys2Proof.Machine
end

