-- ==== Sys2Proof/Machine/Read.lean ====
section
/-! DEFINITION. What a read of a register returns and does (R98, R141, R142, R146): the registers that show live state, the
identity registers of the FUSE shadow (R155), and the reads with a side effect. -/

namespace Sys2Proof.Machine

/-- The bits k below `n` for which `f` holds. -/
def bitSet (n : Nat) (f : Nat → Bool) : Nat :=
  (List.range n).foldl (fun m k => m ||| (if f k then 2 ^ k else 0)) 0

/-- `GLB_INST[k]` of each variant (R156). -/
def instWord (v : Variant) (k : Nat) : Nat :=
  match v with
  | .f => [0x08040210, 0x04081008, 0x02082040, 0x40000100, 0x08002040].getD k 0
  | .s => [0x08040210, 0x04081008, 0x02002040, 0x40000100, 0x08000040].getD k 0
  | .e => [0x04040108, 0x00040804, 0x01001040, 0x40000100, 0x08000040].getD k 0

/-- `GLB_CAP` of each variant: generation, width and power. -/
def capWord (v : Variant) : Nat :=
  match v with
  | .f => 5 * 2 ^ 28 + 16 * 2 ^ 20 + 46
  | .s => 5 * 2 ^ 28 + 16 * 2 ^ 20 + 31
  | .e => 4 * 2 ^ 28 + 8 * 2 ^ 20 + 17

/-- What FUSE has read into a register marked fuse (R74, R155); none for any other register. -/
def fuseWord (s : State) (b j : Nat) : Option Nat :=
  match b with
  | 0x8 => some (deviceId s * 2 ^ 16 + 0x10)
  | 0x10 => some (if s.fuses.variant == .f then 0x7FFFE else 0x77FFE)
  | 0x14 => some (capWord s.fuses.variant)
  | 0x20 => some (instWord s.fuses.variant j)
  | 0x38 => some (s.fuses.dsn % 2 ^ 32)
  | 0x3C => some (s.fuses.dsn / 2 ^ 32 % 2 ^ 32)
  | 0x10010 => some (putBits (s.rdA 0x10010) 30 30 (b2n (!deviceFused s)))
  | 0x10020 => some s.fuses.floor
  | 0x10200 => some (leNat (sliceOf s.fuses.keyHash (4 * j) 4))
  | _ => none

/-- What a register that shows live state reads (chapters 2, 5, 6, 7, 11-14, 17); none for any other register. -/
def liveWord (s : State) (b i : Nat) : Option Nat :=
  match b with
  | 0x18 => some (bitSet 19 (fun u => 1 ≤ u && unitThere s.fuses.variant u && unitExpert s u))
  | 0x20010 => some (if s.flag CLK_LEVEL.EXPERT then putBits (s.rdA 0x20010) 5 4 3 else s.rdA 0x20010)
  | 0x100100 => if i == 0 then some (s.nowNs / 1000000000 % 2 ^ 32) else none
  | 0x240000 => some (bitSet 16 (fun n => laneUp (laneState s n)))
  | 0x240004 => some (bitSet 16 (fun n => s.get LNP_MARGIN2.LEVEL n == 2) * 2 ^ 16 +
      bitSet 16 (fun n => s.get LNP_MARGIN2.LEVEL n == 1))
  | 0x200214 => some (eyeWord s i)
  | 0x500148 => some ((s.chan i).cnt % 2 ^ 32)
  | 0x500150 => some (speedNow s i)
  | 0x540110 => some (putBits (s.rdA (TWS_WSTAT.reg.adr i)) 3 3 (b2n (predictedNow s i)))
  | 0x540114 => some (wangNow s i)
  | 0x603008 => some (if cellAsync s i then putBits (s.rdA (BTM_CELL2.reg.adr i)) 0 0 (b2n (prodLevel s (0x1C0 + i)))
      else s.rdA (BTM_CELL2.reg.adr i))
  | 0x680014 => some (bitSet 8 (fun k => strobeThere s k && strobePin s k) * 2 ^ 16 +
      bitSet 16 (fun n => trigThere s n && trigPin s n))
  | 0x680310 => some (putBits (s.rdA (OUT_SSTAT.reg.adr i)) 30 0 (guardLevel s i / 65536))
  | 0xC80000 => some (bitSet 32 (fun x => ctxState s x == 1))
  | _ => none

/-- The value that a read of `a` returns: open for the clock monitor, which counts edges outside the model. -/
def readVal (a : Nat) (s : State) : Nat × State :=
  match rowAt a with
  | none => (0, s)
  | some (r, i, j) =>
    if (absentAt s.fuses.variant a).isSome then (0, s)
    else if r.base == 0x20044 then s.free 32
    else
      let k := if r.s1 != 0 && r.s2 == 0 then i else j
      match (if s.cfg.shadow then fuseWord s r.base k else none), liveWord s r.base i with
      | some w, _ => (w, s)
      | none, some w => (w, s)
      | none, none => (pendingWord s a, s)

/-- A read of `DRL_EVLAST` at +0x10 clears VALID (R625). -/
def evlastRead (s : State) : State := s.set DRL_EVLAST0.VALID 0

/-- What a read of `a` does beside returning a value (R160, R174, R238, R363, R383, R625). -/
def readEffect (a : Nat) (s : State) : State :=
  match rowAt a with
  | none => s
  | some (r, i, _) =>
    if (absentAt s.fuses.variant a).isSome then s
    else
      let t := match r.base with
        | 0x100100 => if i == 0 then secRead s else s
        | 0x100304 => captRead i s
        | 0x200214 => eyeRead i s
        | 0x500148 => cntRead i s
        | 0x50016C => latchTimeRead false i s
        | 0x51010C => latchTimeRead true i s
        | 0xE20070 => evlastRead s
        | _ => s
      { t with sent := s.sent }

/-- A read of the register at `a`: its value, and the state after it. -/
def readOp (a : Nat) (s : State) : Nat × State :=
  let (v, t) := readVal a s
  (v, readEffect a t)

end Sys2Proof.Machine
end

