-- ==== Sys2Proof/Machine/Loader.lean ====
section
/-! DEFINITION. The loader (R74-R95, R108): its states, the records it applies, the failure of a slot and the apply abort. -/

namespace Sys2Proof.Machine

/-- The loader is in the state with code `p` of R74. -/
def loaderAt (s : State) (p : Nat) : Bool :=
  s.clk.cfgUp && !s.clk.testHold && !s.flag CFG_STATUS.DONE && s.get CFG_STATUS.PHASE == p

/-! ### Failures (R74, R93) -/

/-- `CFG_FAIL` and `CFG_FAILREC` take the reason and record index of the failure of slot `k`. -/
def noteFail (k reason idx : Nat) (s : State) : State :=
  let s1 := s.set (if k == 0 then CFG_FAIL.FAILA else CFG_FAIL.FAILB) reason
  (s1.set CFG_FAILREC.SLOT k).set CFG_FAILREC.INDEX idx

/-- The slot fails before any record is applied (R74, R85). -/
def slotFail (reason idx : Nat) (s : State) : State :=
  let k := s.cfg.slot
  let s1 := (noteFail k reason idx s).log 0x0201 [k, reason, idx]
  enterHeader (k + 1) { s1 with cfg := { s1.cfg with slow := false } }

/-- An apply abort (R71, R93): the restart, then the next slot. -/
def applyAbort (reason idx : Nat) (s : State) : State :=
  let k := s.cfg.slot
  let s1 := noteFail k reason idx (warmReset s)
  let s2 := (s1.log 0x0206 [reason]).log 0x0201 [k, reason, idx]
  { s2 with cfg := { s2.cfg with slot := k + 1, resume := true } }

/-! ### FUSE, HEADER, VERIFY, CLOCKS -/

/-- FUSE ends (R74): the shadow is complete, or a parity error leads to SAFE. -/
def fuseDone (s : State) : State :=
  if !loaderAt s 0 then s
  else if s.fuses.parityOk then enterHeader 0 (deriveOut { s with cfg := { s.cfg with shadow := true } })
  else enterSafe (s.log 0x020B)

/-- The enter command at offset `k` of the header (R80). -/
def sendEnter (h : List Nat) (k : Nat) (s : State) : State :=
  let fl := byteAt h (k + 3)
  if !bitAt fl 0 then s
  else
    let n := byteAt h (k + 2)
    let a := if n == 0 then 0 else if n == 3 then hdrField h (k + 4) 4 % 2 ^ 24 else hdrField h (k + 4) 4
    (if bitAt fl 1 then s.emit (.flash 0x06 0 []) else s).emit (.flash (byteAt h k) a [byteAt h (k + 1)])

/-- The flash is switched to the speed of `FLASH_REQ` (R80, R102), unless the slot is read at low speed (R108). -/
def switchFlash (h : List Nat) (s : State) : State :=
  let req := hdrField h 0x14 4
  if req == 0 || s.cfg.slow then s else setFspeed (req % 2 ^ 24) (sendEnter h 0x2C (sendEnter h 0x24 s))

/-- HEADER ends (R74, R78, R85). -/
def headerDone (h : List Nat) (s : State) : State :=
  if !loaderAt s 1 then s
  else
    let s1 := if s.cfg.slot == 0 then s.set CFG_SLOTBOFS.OFS (slotBOffset h) else s
    let r := headerCheck s1.cfg.slot (s1.get CFG_SLOTBOFS.OFS) h
    if r != 0 then slotFail r 0 s1
    else
      let s2 := (switchFlash h s1).set CFG_STATUS.PHASE 2
      { s2 with cfg := { s2.cfg with hdr := h } }

/-- The slot is read above 1-1-1 and 25 MHz (R108). -/
def readFast (s : State) : Bool := s.get CFG_FSPEED.PROTO != 0 || s.get CFG_FSPEED.FREQ != 0

/-- An image has passed VERIFY (R9, R74, R97, R108): what the grabber shows of it. -/
def imageGood (img : List Nat) (s : State) : State :=
  let s1 := if s.cfg.slow then (s.set CFG_STATUS.SLOWED 1).log 0x0205 else s
  let s2 := (s1.set CFG_STATUS.SIGNED (byteAt img 6)).set CFG_IMGROLL.ROLLBACK (hdrField img 0x10 4)
  let s3 := (s2.set CFG_BUILD.BUILD (hdrField img 0x20 4)).set CFG_STATUS.PHASE 3
  { s3 with cfg := { s3.cfg with
    recIdx := 0
    modeRec := imageMode s3 img
    subsys := if s3.cfg.subLock then s3.cfg.subsys else hdrField img 0x1C 4 } }

/-- VERIFY ends (R74, R81-R89, R108). -/
def verifyDone (img0 : List Nat) (s : State) : State :=
  if !loaderAt s 2 then s
  else
    let img := streamed (imgLen s.cfg.hdr) img0
    let (r, i) := verifyCheck s img
    if r == 5 && readFast s && !s.cfg.slow then enterHeader s.cfg.slot { s with cfg := { s.cfg with slow := true } }
    else if r != 0 then slotFail r i s
    else imageGood img s

/-- Every affected PLL has locked: APPLY starts (R74). -/
def clocksLocked (s : State) : State :=
  if loaderAt s 3 then { s.set CFG_STATUS.PHASE 4 with cfg := { s.cfg with recIdx := 0 } } else s

/-- A PLL has not locked within 2 ms (R74): reason CLOCKS. -/
def clocksTimeout (s : State) : State := if loaderAt s 3 then applyAbort 14 s.cfg.recIdx s else s

/-! ### Records (R87-R91) -/

/-- The loader may take a record in the state with code `p`. -/
def takesRecord (s : State) (p : Nat) : Bool :=
  loaderAt s p && s.clk.coreUp && !s.cfg.waiting && s.cfg.poll.isNone

/-- A record is skipped (R89): counted, and logged once for each run. -/
def skipRecord (s : State) : State :=
  let s1 := s.count CFG_SKIPPED.SKIPPED
  if s1.cfg.skipLogged then s1 else ({ s1 with cfg := { s1.cfg with skipLogged := true } }).log 0x0203

/-- The loader comes to a record (R89, R91): `skip` says that R89 skips it, `clk` that it is a write record aimed at the
`CLK` window, which CLOCKS applies; APPLY applies all the others. -/
def takeRecord (skip clk : Bool) (act : State → State) (s : State) : State :=
  let s1 : State := { s with cfg := { s.cfg with recIdx := s.cfg.recIdx + 1 } }
  if takesRecord s 3 then if clk && !skip then act s1 else s1
  else if takesRecord s 4 then
    if skip then skipRecord s1 else if clk then s1 else act s1
  else s

/-- One register write of the loader (R90): the next comes when it has taken effect, its re-derivation included. -/
def loadWrite (a v : Nat) (s : State) : State := settleDerived 64 (coreWrite a v s)

/-- Consecutive register writes from address `a` on. -/
def loadWords (a : Nat) (ws : List Nat) (s : State) : State :=
  match ws with
  | [] => s
  | w :: t => loadWords (a + 4) t (loadWrite a w s)

/-- Address `a` lies in the `CLK` window (R91). -/
def inClk (a : Nat) : Bool := within a 0x20000 0x30000

/-- NOP, or a record of an unknown type (R87, R89). -/
def recNop (ty : Nat) (s : State) : State := takeRecord (7 < ty) false id s

/-- REGWRITE (R87). -/
def recRegwrite (a v mask : Nat) (s : State) : State :=
  takeRecord (addrGone s.fuses.variant a) (inClk a) (fun t =>
    if mask == 2 ^ 32 - 1 then loadWrite a v t
    else
      let (old, t1) := readOp a t
      loadWrite a ((old &&& (2 ^ 32 - 1 - mask)) ||| (v &&& mask)) t1) s

/-- REGBLOCK (R87). -/
def recRegblock (a : Nat) (ws : List Nat) (s : State) : State :=
  let gone := (List.range ws.length).any (fun k => addrGone s.fuses.variant (a + 4 * k))
  takeRecord gone (inClk a) (loadWords a ws) s

/-- One pair of a BASIC record in every copy that it names. -/
def basicPair (u inst : Nat) (e : Nat × Nat) (s : State) : State :=
  (namedCopies s.fuses.variant u inst).foldl (fun t n =>
    loadWrite (unitBase u + (unitCopies t.fuses.variant u).2 * n + e.1) e.2 t) s

/-- BASIC (R87, R154): the unit goes to the basic level, then the values are written in order. -/
def recBasic (u inst : Nat) (ps : List (Nat × Nat)) (s : State) : State :=
  takeRecord (copyGone s.fuses.variant u inst) (u == 3) (fun t =>
    ps.foldl (fun x e => basicPair u inst e x) (loadWrite (unitBase u + 4) 0 t)) s

/-- TABLE (R87): data into table `tb` of each copy named, from word `start` on. -/
def recTable (u tb inst start : Nat) (ws : List Nat) (s : State) : State :=
  takeRecord (copyGone s.fuses.variant u inst) false (fun t =>
    (namedCopies t.fuses.variant u inst).foldl (fun x n =>
      loadWords (unitBase u + (unitCopies x.fuses.variant u).2 * n + tableOffset tb + 4 * start) ws x) t) s

/-- WAIT (R87). -/
def recWait (s : State) : State := takeRecord false false (fun t => { t with cfg := { t.cfg with waiting := true } }) s

/-- The WAIT time ends. -/
def waitExpiry (s : State) : State :=
  if loaderAt s 4 then { s with cfg := { s.cfg with waiting := false } } else s

/-- The register of the POLL in progress is read and compared. -/
def pollRead (p : PollSt) (s : State) : State :=
  let (w, t) := readOp p.addr s
  { t with cfg := { t.cfg with poll := if w &&& p.mask == p.value then none else some p } }

/-- POLL (R87): the first read comes at once. -/
def recPoll (req : Bool) (a mask value : Nat) (s : State) : State :=
  takeRecord (addrGone s.fuses.variant a) false (pollRead ⟨req, a, mask, value⟩) s

/-- The next read of the POLL in progress. -/
def pollRetry (s : State) : State :=
  match s.cfg.poll with
  | some p => if loaderAt s 4 then pollRead p s else s
  | none => s

/-- The POLL in progress times out (R92): reason POLL when it is REQUIRED. -/
def pollTimeout (s : State) : State :=
  match s.cfg.poll with
  | none => s
  | some p =>
    if !loaderAt s 4 then s
    else
      let i := s.cfg.recIdx - 1
      let s1 := (s.count CFG_SKIPPED.POLLTO).log 0x0204 [i]
      if p.required then applyAbort 12 i s1 else { s1 with cfg := { s1.cfg with poll := none } }

/-! ### The end of the run (R93, R94) -/

/-- The last record before MODE has been applied, and the image re-read as `img0` (R93): reason REREAD on a mismatch. -/
def applyDone (img0 : List Nat) (s : State) : State :=
  if !takesRecord s 4 then s
  else if imageCrc (streamed (imgLen s.cfg.hdr) img0) != hdrField s.cfg.hdr 0xBC 4 then applyAbort 13 s.cfg.recIdx s
  else { s.set CFG_STATUS.PHASE 5 with cfg := { s.cfg with subLock := true } }

/-- The loader is done (R74). -/
def loaderEnd (s : State) : State :=
  loaderDone { s.set CFG_STATUS.PHASE 6 with cfg := { s.cfg with waiting := false } }

/-- ENTER (R94): the mode that the MODE record names is requested through `GLB_MODE`. -/
def loaderEnter (s : State) : State :=
  if !loaderAt s 5 || s.cfg.waiting then s
  else match s.cfg.modeRec with
    | none => loaderEnd s
    | some m =>
      if m == 0 then loaderEnd s
      else
        let s1 := requestMode m 0 s
        if (modeRefusal s m).isSome then loaderEnd (s1.log 0x020D)
        else { s1 with cfg := { s1.cfg with waiting := true } }

/-- The mode that ENTER requested has been reached (R74). -/
def enterReached (s : State) : State :=
  if loaderAt s 5 && s.cfg.waiting && !s.flag GLB_MODE.BUSY then loaderEnd s else s

end Sys2Proof.Machine
end

