-- ==== Sys2Proof/Machine/Remote.lean ====
section
/-! DEFINITION. Accesses that are not one register write of the host: bursts and partial writes to BAR0 and BAR2 (R548,
R549), BAR4 accesses of the host (R140, R548, R550, R554-R560), polls (R561, R562), requests of other nodes (R626), held
interrupt messages (R543) and configuration requests (R97). -/

namespace Sys2Proof.Machine

/-! ### BAR0 and BAR2 (R548) -/

/-- One dword of a BAR0 write: performed when all four byte enables are set, otherwise discarded and counted. -/
def barDword (a v be : Nat) (s : State) : State :=
  if be == 15 then hostGate a v (regOp a v) s
  else (s.count HBR_ACCCNT.BAD).log 0x0E0A [a, be]

/-- The dwords of a BAR0 write in ascending address order. -/
def barBurst (a : Nat) (ws : List (Nat × Nat)) (s : State) : State :=
  match ws with
  | [] => s
  | w :: t => barBurst (a + 4) t (barDword a w.1 w.2 s)

/-- One dword of a BAR2 write (R139, R494, R545): a doorbell, the MSI-X table, or reserved space. The table answers while
the core is in reset too (R550). -/
def bar2Dword (a v be : Nat) (s : State) : State :=
  if be != 15 then s
  else if a < 0x100000 then (if a % 64 == 0 then bar2Gate (doorbell (a / 64) v) s else s)
  else if within a 0x800000 0x808000 then msixWrite ((a - 0x800000) / 16) (a / 4 % 4) v s
  else s

/-- The dwords of a BAR2 write: a doorbell slot and the table take one dword, the table also two. -/
def bar2Burst (a : Nat) (ws : List (Nat × Nat)) (s : State) : State :=
  match ws with
  | [w] => bar2Dword a w.1 w.2 s
  | [w, x] => if within a 0x800000 0x808000 && a % 8 == 0 then bar2Dword (a + 4) x.1 x.2 (bar2Dword a w.1 w.2 s) else s
  | _ => s

/-- A memory write of the host to BAR0 or BAR2: each dword with its byte enables, and whether it is poisoned. -/
def barWrite (bar2 : Bool) (a : Nat) (ws : List (Nat × Nat)) (poisoned : Bool) (s : State) : State :=
  if !hostOpen s then unsupported 0x40 true true s
  else if poisoned then (aerSet 12 s).log 0x0E0C [0]
  else if bar2 then bar2Burst (a / 4 * 4) ws s
  else barBurst (a / 4 * 4) ws s

/-! ### The node's own BAR0 as others reach it (R98, R140, R550, R562, R626) -/

/-- A read of the node's own BAR0 that does not come through it. -/
def localRead (a : Nat) (s : State) : Nat × State :=
  if !s.clk.coreUp then (0, s)
  else if !s.flag CFG_STATUS.DONE && unitAt a != some 1 && unitAt a != some 2 then (0, s)
  else readOp a s

/-- A write of the node's own BAR0 that does not come through it. -/
def localWrite (a v : Nat) (s : State) : State :=
  if !s.clk.coreUp then countInReset s
  else if !s.flag CFG_STATUS.DONE && unitAt a != some 2 then countEarly s
  else coreWrite a v s

/-- `n` consecutive words of the node's own BAR0, the lower address first. -/
def localReads : Nat → Nat → State → List Nat × State
  | 0, _, s => ([], s)
  | n + 1, a, s =>
    let (w, t) := localRead a s
    let (ws, u) := localReads n (a + 4) t
    (w :: ws, u)

/-- Consecutive writes of the node's own BAR0. -/
def localWrites (a : Nat) (ws : List Nat) (s : State) : State :=
  match ws with
  | [] => s
  | w :: t => localWrites (a + 4) t (localWrite a w s)

/-! ### BAR4 (R548, R554-R560) -/

/-- A far-side access that ends on arrival with `cause`. -/
def farRefuse (isWrite : Bool) (offset cause : Nat) (s : State) : State :=
  let s1 := farRecord isWrite offset (offset / 65536) cause s
  if isWrite then s1 else (aerAbort s1).emit (.completion 4 0)

/-- The BAR0 address that BAR4 offset `offset` reaches (R140). -/
def farAddr (offset : Nat) (s : State) : Nat := s.get HBR_FARBASE.BASE * 65536 + offset % 65536

/-- A BAR4 access of `n` bytes has a size and alignment that R548 performs. -/
def farSizeOk (offset n : Nat) : Bool := (n == 4 && offset % 4 == 0) || (n == 8 && offset % 8 == 0)

/-- A BAR4 read of `size` bytes (R140, R548, R550, R554). -/
def farRead (offset size : Nat) (s : State) : State :=
  if !hostOpen s then unsupported 0x00 true false s
  else if !s.clk.coreUp then farRefuse false offset 5 s
  else if !farSizeOk offset size then farRefuse false offset 7 s
  else if nodeId s == some (offset / 65536) then
    let (ws, t) := localReads (size / 4) (farAddr offset s) s
    t.emit (.completion 0 (ws.getD 0 0 + 2 ^ 32 * ws.getD 1 0))
  else farQueue { offset := offset, node := offset / 65536, addr := farAddr offset s, count := size / 4 } s

/-- Far-side writes that the bridge holds (R556). -/
def farWrites (s : State) : Nat := (s.hbr.far.filter (·.isWrite)).length

/-- A BAR4 write (R140, R548, R550, R556). -/
def farWrite (offset : Nat) (ws : List Nat) (s : State) : State :=
  if !hostOpen s then unsupported 0x40 true true s
  else if !s.clk.coreUp then farRefuse true offset 5 s
  else if !farSizeOk offset (4 * ws.length) then farRefuse true offset 7 s
  else if nodeId s == some (offset / 65536) then localWrites (farAddr offset s) ws s
  else if 256 ≤ farWrites s then farRefuse true offset 6 s
  else farQueue {
    offset := offset
    node := offset / 65536
    addr := farAddr offset s
    isWrite := true
    data := ws
    count := ws.length } s

/-! ### Polled remote status (R561, R562) -/

/-- One entry of the poll list is read. -/
def pollEntry (s : State) (k : Nat) : State :=
  if !s.flag HBR_POLL.EN k then s
  else
    let a := s.get HBR_POLLOFS.OFS * 4
    let n := s.get HBR_POLL.NODE k
    if nodeId s == some n then
      let (v, t) := localRead a s
      pollStore k v t
    else farQueue { offset := n * 65536, node := n, addr := a, poll := some k } s

/-- `POLLINT` has passed: a round starts, or is skipped while the last has not finished. -/
def pollRound (s : State) : State :=
  if s.get HBR_BASIC.POLLINT == 0 then s
  else if s.hbr.far.any (fun r => r.poll.isSome) then s.count HBR_FARSTAT.SKIP
  else (List.range 64).foldl pollEntry s

/-! ### Requests of other nodes (R626) -/

/-- The answer to a request from frame `f`: type `ty`, status and data words. -/
def remoteAnswer (f : List Nat) (ty status : Nat) (ws : List Nat) (s : State) : State :=
  let pl := msgPayload f
  let body := sliceOf pl 0 5 ++ [status, 0, 0] ++ (ws.map (beBytes 4)).flatten
  sendForward (ringMsg s ty false (msgSrc f) (msgTag f) body) s

/-- The checks that RREAD and RWRITE share, with `held` requests waiting: BUSY, REFUSED by `on`, or `act`. -/
def remoteServe (f : List Nat) (ty held : Nat) (on : Fld) (act : State → List Nat × State) (s : State) : State :=
  let a := beNat (sliceOf (msgPayload f) 0 4)
  if 128 ≤ held then remoteAnswer f ty 2 [] (s.count DRL_REMCNT.BUSY)
  else if !s.flag on then
    remoteAnswer f ty 1 [] ((s.count DRL_REMCNT.REFUSED).logSec 0x100C 0 [msgSrc f, a])
  else
    let (ws, t) := act s
    remoteAnswer f ty 0 ws (t.count DRL_REMSERVED.COUNT)

/-- RREAD on port `p`. -/
def remoteRead (p : Nat) (f : List Nat) (held : Nat) (s : State) : State :=
  if !msgForMe s p 0x0C f then s
  else
    let pl := msgPayload f
    remoteServe f 0x0D held DRL_CFG.REMRD (localReads (min 2 (byteAt pl 4)) (beNat (sliceOf pl 0 4) / 4 * 4)) s

/-- RWRITE on port `p`. -/
def remoteWrite (p : Nat) (f : List Nat) (held : Nat) (s : State) : State :=
  if !msgForMe s p 0x0E f then s
  else
    let pl := msgPayload f
    let ws := (List.range (min 2 (byteAt pl 4))).map (fun k => beNat (sliceOf pl (8 + 4 * k) 4))
    remoteServe f 0x0F held DRL_CFG.REMWR (fun t => ([], localWrites (beNat (sliceOf pl 0 4) / 4 * 4) ws t)) s

/-! ### Held interrupt messages (R543, R455) -/

/-- One held message is sent; a host-notify consumer becomes idle and accepts the event it holds. -/
def sendHeld (s : State) (m : HeldMsg) : State :=
  let s1 := sendMessage m.vector s
  if m.source == 1 then heldAccept (0x1C0 + m.index) (setBusy (0x1C0 + m.index) false s1) else s1

/-- Sending is possible: held messages go out in the order in which they were requested. -/
def sendHeldAll (s : State) : State :=
  if !canMessage s then s
  else s.hbr.heldMsgs.foldl sendHeld { s with hbr := { s.hbr with heldMsgs := [] } }

/-! ### Configuration requests (R97, R519, R520, R540) -/

/-- A configuration request: retry status in CRS and FLR, otherwise performed; a write of Initiate Function Level Reset
starts it. -/
def configRequest (a : Nat) (wr : Option Nat) (s : State) : State :=
  let st := s.get HBR_STAT.STATE
  if st == 1 || st == 4 then s.emit (.cfgReply none)
  else if st == 0 then s
  else match wr with
    | none =>
      let (v, t) := spaceRead (a / 4 * 4) s
      t.emit (.cfgReply (some v))
    | some v =>
      let t := (spaceWrite (a / 4 * 4) v s).emit (.cfgReply (some 0))
      if a / 4 * 4 == 0x78 && bitAt v 15 then enterReached (flrStart t) else t

end Sys2Proof.Machine
end

