-- ==== Sys2Proof/Machine/Tap.lean ====
section
/-! DEFINITION. Boundary scan (R675-R679): the TAP controller of IEEE 1149.1, its registers, and what an instruction does to
the grabber. -/

namespace Sys2Proof.Machine

/-- The state that the controller enters on a rising edge of `TCK` (IEEE 1149.1, R675). -/
def tapNext (t : TapState) (tms : Bool) : TapState :=
  match t, tms with
  | .testLogicReset, true => .testLogicReset
  | .testLogicReset, false => .runTestIdle
  | .runTestIdle, true => .selectDr
  | .runTestIdle, false => .runTestIdle
  | .selectDr, true => .selectIr
  | .selectDr, false => .captureDr
  | .captureDr, true => .exit1Dr
  | .captureDr, false => .shiftDr
  | .shiftDr, true => .exit1Dr
  | .shiftDr, false => .shiftDr
  | .exit1Dr, true => .updateDr
  | .exit1Dr, false => .pauseDr
  | .pauseDr, true => .exit2Dr
  | .pauseDr, false => .pauseDr
  | .exit2Dr, true => .updateDr
  | .exit2Dr, false => .shiftDr
  | .updateDr, true => .selectDr
  | .updateDr, false => .runTestIdle
  | .selectIr, true => .testLogicReset
  | .selectIr, false => .captureIr
  | .captureIr, true => .exit1Ir
  | .captureIr, false => .shiftIr
  | .shiftIr, true => .exit1Ir
  | .shiftIr, false => .shiftIr
  | .exit1Ir, true => .updateIr
  | .exit1Ir, false => .pauseIr
  | .pauseIr, true => .exit2Ir
  | .pauseIr, false => .pauseIr
  | .exit2Ir, true => .updateIr
  | .exit2Ir, false => .shiftIr
  | .updateIr, true => .selectDr
  | .updateIr, false => .runTestIdle

/-- `IDCODE` of each variant (R677). -/
def tapId (v : Variant) : Nat :=
  match v with
  | .f => 0x116006BB
  | .s => 0x116016BB
  | .e => 0x116026BB

/-- The length of the data register that instruction `ir` selects (R676). -/
def tapLength (ir : Nat) : Nat := if ir == 0 || ir == 2 then 180 else if ir == 1 then 32 else 1

/-- The boundary register as it is shifted, and back: cell 179 is next to `TDO` (R678). -/
def tapMirror (w : Nat) : Nat :=
  (List.range 180).foldl (fun m k => if bitAt w k then m ||| 2 ^ (179 - k) else m) 0

/-- Cell `k` belongs to a pin that the LVG-16E does not have (R4, R678). -/
def cellAbsentE (k : Nat) : Bool :=
  (42 ≤ k && k < 71) || (79 ≤ k && k < 87) || (119 ≤ k && k < 131) || (147 ≤ k && k < 163) || (167 ≤ k && k < 171) ||
    (175 ≤ k && k < 179)

/-- What the boundary cells capture from the pin levels `pins` (R678). -/
def tapCapture (v : Variant) (pins : Nat) : Nat :=
  if v == .e then (List.range 180).foldl (fun m k => if cellAbsentE k then putBits m k k 0 else m) pins else pins

/-- What the selected data register loads in Capture-DR (R676-R678). -/
def tapLoad (s : State) (pins : Nat) : Nat :=
  let ir := s.jtag.ir
  if ir == 0 || ir == 2 then tapMirror (tapCapture s.fuses.variant pins) else if ir == 1 then tapId s.fuses.variant else 0

/-- The instruction with code `c` becomes current (R676, R679): one that gives the pins back causes a warm reset. -/
def tapInstruction (c : Nat) (s : State) : State :=
  let s1 : State := { s with jtag := { s.jtag with ir := c } }
  if tapOwns s && !tapOwns s1 then warmReset s1 else s1

/-- Test-Logic-Reset, with IDCODE (R675). -/
def tapReset (s : State) : State :=
  let s1 := tapInstruction 1 s
  { s1 with jtag := { s1.jtag with tap := .testLogicReset, tdo := none } }

/-- One shift towards `TDO` in a register of `n` bits. -/
def tapShift (n : Nat) (tdi : Bool) (w : Nat) : Nat := w / 2 + b2n tdi * 2 ^ (n - 1)

/-- A rising edge of `TCK`: the action of the present state, then the next state (R675). -/
def tckRise (tms tdi : Bool) (pins : Nat) (s : State) : State :=
  let j := s.jtag
  let w := match j.tap with
    | .captureIr => 1
    | .shiftIr => tapShift 8 tdi j.shift
    | .captureDr => tapLoad s pins
    | .shiftDr => tapShift (tapLength j.ir) tdi j.shift
    | _ => j.shift
  let t := tapNext j.tap tms
  let s1 : State := { s with jtag := { j with shift := w, tap := t } }
  if t == .testLogicReset then tapReset s1 else s1

/-- A falling edge of `TCK`: the updates, and `TDO` (R675, R678). -/
def tckFall (s : State) : State :=
  let j := s.jtag
  let out := if j.tap == .shiftIr || j.tap == .shiftDr then some (bitAt j.shift 0) else none
  let s1 : State := { s with jtag := { j with tdo := out } }
  match j.tap with
  | .updateIr => tapInstruction (j.shift % 256) s1
  | .updateDr => if j.ir == 0 || j.ir == 2 then { s1 with jtag := { s1.jtag with cells := tapMirror j.shift } } else s1
  | _ => s1

/-! ### Rows -/

def execJtagInstructionUpdate (code : Byte) (s : State) : Out := .next (tapInstruction code.toNat s)
def execTapReset (s : State) : Out := .next (tapReset s)
def execTckEdge (rising tms tdi : Bool) (pins : BitVec 180) (s : State) : Out :=
  .next (if rising then tckRise tms tdi pins.toNat s else tckFall s)

end Sys2Proof.Machine
end

