-- ==== Sys2Proof/Machine/Rows.lean ====
section
/-! DEFINITION. The commands that are an access of the host to a register, and the others whose meaning needs every unit: one
definition for each row. A row that names the bit it sets writes its operand with that bit set. -/

namespace Sys2Proof.Machine

/-- A write of one dword to BAR0 by the host (R16, R98, R142, R548-R550). -/
def regWrite (a v : Nat) (s : State) : State := hostGate a v (regOp a v) s

/-- The words of a list as numbers. -/
def natWords (ws : List Word) : List Nat := ws.map (·.toNat)

/-! ### Clocks, resets and modes (chapters 2-4) -/
/-- R71. -/
def execCfgWarmWrite (key : Word) (s : State) : Out := .next (regWrite (CFG_WARM.reg.adr 0) key.toNat s)
/-- R59. -/
def execVencenWrite (v : Word) (s : State) : Out := .next (regWrite (CLK_VENCEN.reg.adr 0) v.toNat s)
/-- R61. -/
def execClkPllWrite (p : Fin 4) (v : Word) (s : State) : Out := .next (regWrite (CLK_PLL.reg.adr p.val) v.toNat s)
/-- R70. -/
def execClkRstWrite (v : Word) (s : State) : Out := .next (regWrite (CLK_RST.reg.adr 0) v.toNat s)
/-- R73. -/
def execUnitReset (v : Word) (s : State) : Out := .next (regWrite (CFG_URST.reg.adr 0) v.toNat s)
/-- R73. -/
def execUnitResetDone (u : Fin 14) (s : State) : Out := .next (urstDone u.val s)
/-- R116. -/
def execModeRequestWrite (v : Word) (s : State) : Out := .next (regWrite (GLB_MODE.reg.adr 0) v.toNat s)
/-- R117; the loader's ENTER ends with the mode that it asked for (R94). -/
def execModeEnterDone (s : State) : Out := .next (enterReached (modeEnterDone s))
/-- R132: a write with FORCE set. -/
def execDrainForce (v : Word) (s : State) : Out := .next (regWrite (GLB_DRAIN.reg.adr 0) (v.toNat ||| 2 ^ 31) s)

/-! ### Loader (chapter 3) -/
/-- R74. -/
def execLoaderFuseDone (s : State) : Out := .next (fuseDone s)
/-- R85: the 256 bytes of the header. -/
def execLoaderHeaderDone (hdr : List Byte) (s : State) : Out := .next (headerDone (natBytes hdr) s)
/-- R88: the bytes of the image. -/
def execLoaderVerifyDone (img : List Byte) (s : State) : Out := .next (verifyDone (natBytes img) s)
/-- R91. -/
def execLoaderClocksLocked (s : State) : Out := .next (clocksLocked s)
/-- R74. -/
def execLoaderClocksTimeout (s : State) : Out := .next (clocksTimeout s)
/-- R87; REQUIRED counts in VERIFY (R89). -/
def execRecordNop (ty : Byte) (_required : Bool) (s : State) : Out := .next (recNop ty.toNat s)
/-- R87. -/
def execRecordRegwrite (_required : Bool) (addr value mask : Word) (s : State) : Out :=
  .next (recRegwrite addr.toNat value.toNat mask.toNat s)
/-- R87. -/
def execRecordRegblock (_required : Bool) (addr : Word) (data : List Word) (s : State) : Out :=
  .next (recRegblock addr.toNat (natWords data) s)
/-- R87. -/
def execRecordBasic (_required : Bool) (unit inst : Byte) (pairs : List (Word × Word)) (s : State) : Out :=
  .next (recBasic unit.toNat inst.toNat (pairs.map (fun e => (e.1.toNat, e.2.toNat))) s)
/-- R87. -/
def execRecordTable (_required : Bool) (unit table inst : Byte) (start : Word) (data : List Word) (s : State) : Out :=
  .next (recTable unit.toNat table.toNat inst.toNat start.toNat (natWords data) s)
/-- R87: the end comes as a command. -/
def execRecordWait (_us : Nat) (s : State) : Out := .next (recWait s)
/-- R87. -/
def execWaitExpiry (s : State) : Out := .next (waitExpiry s)
/-- R87: the timeout comes as a command. -/
def execRecordPoll (required : Bool) (addr mask value : Word) (_timeout : Nat) (s : State) : Out :=
  .next (recPoll required addr.toNat mask.toNat value.toNat s)
/-- R87. -/
def execPollRetry (s : State) : Out := .next (pollRetry s)
/-- R92. -/
def execPollTimeout (s : State) : Out := .next (pollTimeout s)
/-- R93: the image as APPLY re-read it. -/
def execLoaderApplyDone (img : List Byte) (s : State) : Out := .next (applyDone (natBytes img) s)
/-- R94. -/
def execLoaderEnter (s : State) : Out := .next (loaderEnter s)

/-! ### Flash (chapter 3) -/
/-- R102. -/
def execCfgFspeedWrite (v : Word) (s : State) : Out := .next (regWrite (CFG_FSPEED.reg.adr 0) v.toNat s)
/-- R104. -/
def execFlashUnlock (key : Word) (s : State) : Out := .next (regWrite (CFG_FUNLOCK.reg.adr 0) key.toNat s)
/-- R106. -/
def execFlashRead (s : State) : Out := .next (regWrite (CFG_FCMD.reg.adr 0) 1 s)
/-- R105. -/
def execFlashProgram (s : State) : Out := .next (regWrite (CFG_FCMD.reg.adr 0) 2 s)
/-- R105. -/
def execFlashErase4k (s : State) : Out := .next (regWrite (CFG_FCMD.reg.adr 0) 3 s)
/-- R105. -/
def execFlashErase64k (s : State) : Out := .next (regWrite (CFG_FCMD.reg.adr 0) 4 s)
/-- R85. -/
def execFlashVerifya (s : State) : Out := .next (regWrite (CFG_FCMD.reg.adr 0) 5 s)
/-- R85. -/
def execFlashVerifyb (s : State) : Out := .next (regWrite (CFG_FCMD.reg.adr 0) 6 s)
/-- R109. -/
def execFlashReload (s : State) : Out := .next (regWrite (CFG_FCMD.reg.adr 0) 7 s)
/-- R107: `vpp` says that the fuse supply stands. -/
def execFlashFloor (vpp : Bool) (s : State) : Out := .next (hostGate (CFG_FCMD.reg.adr 0) 8 (fcmdWrite 8 vpp) s)
/-- R107. -/
def execFlashKeyhash (vpp : Bool) (s : State) : Out := .next (hostGate (CFG_FCMD.reg.adr 0) 9 (fcmdWrite 9 vpp) s)
/-- R105: the bytes read, and whether the flash reported a failure. -/
def execFlashCmdDone (data : List Byte) (failed : Bool) (s : State) : Out := .next (flashDone (natBytes data) failed s)

/-! ### Registers and levels (chapter 5) -/
/-- R16, R548, R549. -/
def execRegisterWrite (bar2 : Bool) (addr : BitVec 26) (data : List (Word × BitVec 4)) (poisoned : Bool) (s : State) : Out :=
  .next (barWrite bar2 addr.toNat (data.map (fun e => (e.1.toNat, e.2.toNat))) poisoned s)
/-- R145. -/
def execBasicWrite (addr : BitVec 26) (v : Word) (s : State) : Out := .next (regWrite (addr.toNat / 4 * 4) v.toNat s)
/-- R157: the unit with code `u` + 1. -/
def execRederiveDone (u : Fin 18) (s : State) : Out := .next (rederiveDone (u.val + 1) s)
/-- R148. -/
def execExpertSet (u : Fin 18) (s : State) : Out := .next (regWrite (unitBase (u.val + 1) + 4) 1 s)
/-- R149. -/
def execExpertClear (u : Fin 18) (s : State) : Out := .next (regWrite (unitBase (u.val + 1) + 4) 0 s)

/-! ### Time (chapter 6) -/
/-- R160. -/
def execTimSecRead (s : State) : Out := .next (hostRead (TIM_SEC.reg.adr 0) (secRead) s)
/-- R199: a write with GO set. -/
def execStepGo (v : Word) (s : State) : Out := .next (regWrite (TIM_STEPCMD.reg.adr 0) (v.toNat ||| 1) s)
/-- R171: a write with FLOAD set. -/
def execFreqLoadGo (v : Word) (s : State) : Out := .next (regWrite (TIM_STEPCMD.reg.adr 0) (v.toNat ||| 2) s)
/-- R169: a write with REARM set. -/
def execTimeRearm (v : Word) (s : State) : Out := .next (regWrite (TIM_CTRL.reg.adr 0) (v.toNat ||| 1) s)
/-- R170. -/
def execAdjWrite (v : Word) (s : State) : Out := .next (regWrite (TIM_ADJ.reg.adr 0) v.toNat s)
/-- R174. -/
def execCaptureSecRead (k : Fin 8) (s : State) : Out := .next (hostRead (TIM_CAPTSECLO.reg.adr k.val) (captRead k.val) s)
/-- R196. -/
def execRawPop (s : State) : Out := .next (regWrite (TIM_RAWPOP.reg.adr 0) 0 s)
/-- R199. -/
def execHostlockWrite (v : Word) (s : State) : Out := .next (regWrite (TIM_STAT.reg.adr 0) v.toNat s)

/-! ### Lanes (chapter 7) -/
/-- R232: a write with DEEP set. -/
def execDeepRequest (n : Fin 16) (v : Word) (s : State) : Out := .next (regWrite (LNP_LPCTL.reg.adr n.val) (v.toNat ||| 1) s)
/-- R233: a write with WAKE set. -/
def execWakeRequest (n : Fin 16) (v : Word) (s : State) : Out := .next (regWrite (LNP_LPCTL.reg.adr n.val) (v.toNat ||| 2) s)
/-- R236: a write with REBASE set. -/
def execMarginRebase (n : Fin 16) (v : Word) (s : State) : Out := .next (regWrite (LNP_CTL.reg.adr n.val) (v.toNat ||| 2) s)
/-- R238: a write with START set. -/
def execSweepStart (n : Fin 16) (v : Word) (s : State) : Out := .next (regWrite (LNP_ESCTL.reg.adr n.val) (v.toNat ||| 1) s)
/-- R238: a write of ABORT; the counts of the points swept so far. -/
def execSweepAbort (n : Fin 16) (counts : List Nat) (s : State) : Out :=
  .next (hostGate (LNP_ESCTL.reg.adr n.val) 2 (sweepAbort n.val counts) s)
/-- R238. -/
def execEsdataRead (n : Fin 16) (s : State) : Out := .next (hostRead (LNP_ESDATA.reg.adr n.val) (eyeRead n.val) s)
/-- R240. -/
def execLoopbackWrite (n : Fin 16) (v : Word) (s : State) : Out := .next (regWrite (LNP_LOOP.reg.adr n.val) v.toNat s)
/-- R242. -/
def execInjectHdr (n : Fin 16) (s : State) : Out := .next (regWrite (LNP_INJ.reg.adr n.val) 1 s)
/-- R242. -/
def execInjectBit (n : Fin 16) (s : State) : Out := .next (regWrite (LNP_INJ.reg.adr n.val) 2 s)
/-- R242. -/
def execInjectType2 (n : Fin 16) (s : State) : Out := .next (regWrite (LNP_INJ.reg.adr n.val) 4 s)
/-- R242. -/
def execInjectTraincrc (n : Fin 16) (s : State) : Out := .next (regWrite (LNP_INJ.reg.adr n.val) 8 s)
/-- R242. -/
def execInjectSkipgap (n : Fin 16) (s : State) : Out := .next (regWrite (LNP_INJ.reg.adr n.val) 16 s)
/-- R244. -/
def execRatemaxWrite (n : Fin 16) (v : Word) (s : State) : Out := .next (regWrite (LNP_CFG.reg.adr n.val) v.toNat s)
/-- R245: a write with RETRAIN set. -/
def execRetrain (n : Fin 16) (v : Word) (s : State) : Out := .next (regWrite (LNP_CTL.reg.adr n.val) (v.toNat ||| 1) s)
/-- R247. -/
def execTxfirWrite (n : Fin 16) (v : Word) (s : State) : Out := .next (regWrite (LNP_TXFIR.reg.adr n.val) v.toNat s)

/-! ### Cameras, ports and pipes (chapters 8-10) -/
/-- R287: a write with GO set. -/
def execMailboxGo (g : Fin 16) (v : Word) (s : State) : Out := .next (regWrite (CLP_CCCTL.reg.adr g.val) (v.toNat ||| 1073741824) s)
/-- R290. -/
def execClpStreamWrite (st : Fin 64) (v : Word) (s : State) : Out := .next (regWrite (CLP_STREAM0.reg.adr st.val) v.toNat s)
/-- R310. -/
def execParStreamWrite (n : Fin 2) (v : Word) (s : State) : Out := .next (regWrite (PAR_STREAM.reg.adr n.val) v.toNat s)
/-- R322. -/
def execPixSrcWrite (p : Fin 4) (v : Word) (s : State) : Out := .next (regWrite (PIX_SRC.reg.adr p.val) v.toNat s)
/-- R340: word `k` of table 0 or 1; past the last word of the table nothing stands (R141). -/
def execPixTableWrite (p : Fin 4) (tbl : Fin 2) (k : BitVec 16) (v : Word) (s : State) : Out :=
  .next (regWrite (if tbl.val == 0 then PIX_TBL0.reg.adr p.val (k.toNat % 8192) else PIX_TBL1.reg.adr p.val (k.toNat % 8192))
    v.toNat s)
/-- R352: a write with START set. -/
def execPixBistStart (p : Fin 4) (v : Word) (s : State) : Out := .next (regWrite (PIX_BIST.reg.adr p.val) (v.toNat ||| 2 ^ 31) s)

/-! ### Positions, wheels and entries (chapters 11 and 12) -/
/-- R367. -/
def execPosArm (n : Fin 8) (s : State) : Out := .next (regWrite (POS_CTL.reg.adr n.val) 1 s)
/-- R367. -/
def execPosDisarm (n : Fin 8) (s : State) : Out := .next (regWrite (POS_CTL.reg.adr n.val) 2 s)
/-- R362. -/
def execPosLoad (n : Fin 8) (s : State) : Out := .next (regWrite (POS_CTL.reg.adr n.val) 4 s)
/-- R369. -/
def execPosRefset (n : Fin 8) (s : State) : Out := .next (regWrite (POS_CTL.reg.adr n.val) 8 s)
/-- R385. -/
def execPosLatchCmd (n : Fin 8) (s : State) : Out := .next (regWrite (POS_CTL.reg.adr n.val) 16 s)
/-- R363. -/
def execPosCntRead (n : Fin 8) (s : State) : Out := .next (hostRead (POS_CNTLO.reg.adr n.val) (cntRead n.val) s)
/-- R383: the high word of the latched time of probe or channel `k`. -/
def execPosLatchTimeRead (probe : Bool) (k : Fin 8) (s : State) : Out :=
  .next (hostRead (if probe then POS_PRBTHI.reg.adr k.val else POS_LATCHTHI.reg.adr k.val) (latchTimeRead probe k.val) s)
/-- R390. -/
def execPosCfgWrite (n : Fin 8) (v : Word) (s : State) : Out := .next (regWrite (POS_CFG.reg.adr n.val) v.toNat s)
/-- R422. -/
def execTwsWcfgWrite (w : Fin 4) (v : Word) (s : State) : Out := .next (regWrite (TWS_WCFG.reg.adr w.val) v.toNat s)
/-- R412. -/
def execEntryCtlWrite (e : Fin 64) (v : Word) (s : State) : Out := .next (regWrite (TWS_ENTCTL.reg.adr e.val) v.toNat s)

/-! ### Beats and outputs (chapters 13 and 14) -/
/-- R443. -/
def execSoftFire (k : Fin 8) (v : Word) (s : State) : Out := .next (regWrite (BTM_FIRE.reg.adr k.val) v.toNat s)
/-- R441. -/
def execCselWrite (i : Fin 512) (v : Word) (s : State) : Out := .next (regWrite (BTM_CSEL.reg.adr i.val) v.toNat s)
/-- R442. -/
def execBeatSrcWrite (b : Fin 256) (v : Word) (s : State) : Out := .next (regWrite (BTM_BEAT.reg.adr b.val) v.toNat s)
/-- R452. -/
def execCellWrite (c : Fin 32) (v : Word) (s : State) : Out := .next (regWrite (BTM_CELL0.reg.adr c.val) v.toNat s)
/-- R470. -/
def execAenaWrite (v : Word) (s : State) : Out := .next (regWrite (OUT_AENA.reg.adr 0) v.toNat s)
/-- R471. -/
def execArngWrite (a : Fin 4) (v : Word) (s : State) : Out := .next (regWrite (OUT_ARNG.reg.adr a.val) v.toNat s)
/-- R472. -/
def execAvalWrite (a : Fin 4) (v : Word) (s : State) : Out := .next (regWrite (OUT_AVAL.reg.adr a.val) v.toNat s)

/-! ### Queues and the host bridge (chapters 15 and 16) -/
/-- R494. -/
def execDoorbellWrite (q : Fin 16384) (v : Word) (s : State) : Out := .next (barWrite true (64 * q.val) [(v.toNat, 15)] false s)
/-- R514: code 1 in `QUE_QCMD`. -/
def execQueueEnable (q : Fin 16384) (s : State) : Out := .next (regWrite (QUE_QCMD.reg.adr 0) (1 * 2 ^ 28 + q.val) s)
/-- R514: code 2 in `QUE_QCMD`. -/
def execQueuePause (q : Fin 16384) (s : State) : Out := .next (regWrite (QUE_QCMD.reg.adr 0) (2 * 2 ^ 28 + q.val) s)
/-- R514: code 3 in `QUE_QCMD`. -/
def execQueueResume (q : Fin 16384) (s : State) : Out := .next (regWrite (QUE_QCMD.reg.adr 0) (3 * 2 ^ 28 + q.val) s)
/-- R514: code 4 in `QUE_QCMD`. -/
def execQueueReset (q : Fin 16384) (s : State) : Out := .next (regWrite (QUE_QCMD.reg.adr 0) (4 * 2 ^ 28 + q.val) s)
/-- R514: code 5 in `QUE_QCMD`. -/
def execQueueMark (q : Fin 16384) (s : State) : Out := .next (regWrite (QUE_QCMD.reg.adr 0) (5 * 2 ^ 28 + q.val) s)
/-- R515, R517. -/
def execQueCtxWrite (q : Fin 16384) (w : Fin 6) (v : Word) (s : State) : Out :=
  .next (regWrite (QUE_CTX0.reg.adr q.val + 4 * w.val) v.toNat s)
/-- R486: an entry of `QUE_SMAP`, or of `QUE_VMAP` for context `st` mod 32. -/
def execQueMapWrite (venc : Bool) (st : Fin 64) (r : Fin 6) (v : Word) (s : State) : Out :=
  .next (regWrite (if venc then 0x801800 + 4 * (st.val % 32) else 0x801000 + 0x20 * st.val + 4 * r.val) v.toNat s)
/-- R518: a write with START set. -/
def execQueBistStart (s : State) : Out := .next (regWrite (QUE_BIST.reg.adr 0) (2 ^ 31) s)
/-- R544: the mask bit of entry `v` is cleared. -/
def execMsixUnmask (v : Fin 2048) (s : State) : Out := .next (barWrite true (0x80000C + 16 * v.val) [(0, 15)] false s)
/-- R97. -/
def execConfigRequest (addr : BitVec 12) (wr : Option Word) (s : State) : Out :=
  .next (configRequest addr.toNat (wr.map (·.toNat)) s)
/-- R537-R542. -/
def execFlrStart (s : State) : Out := .next (enterReached (flrStart s))
/-- R540. -/
def execFlrDone (s : State) : Out := .next (flrDone s)
/-- R543. -/
def execHeldMsgSend (s : State) : Out := .next (sendHeldAll s)
/-- R554. -/
def execFarRead (offset : BitVec 28) (size : Nat) (s : State) : Out := .next (farRead offset.toNat size s)
/-- R556. -/
def execFarWrite (offset : BitVec 28) (data : List Word) (s : State) : Out := .next (farWrite offset.toNat (natWords data) s)
/-- R561. -/
def execPollRound (s : State) : Out := .next (pollRound s)

/-! ### Encoder (chapter 17) -/
/-- R577. -/
def execVenEnableWrite (x : Fin 32) (v : Word) (s : State) : Out := .next (regWrite (VEN_CCFG.reg.adr x.val) v.toNat s)
/-- R581. -/
def execCoreParkWrite (c : Fin 8) (v : Word) (s : State) : Out := .next (regWrite (VEN_CORECTL.reg.adr c.val) v.toNat s)
/-- R597. -/
def execVenRestart (x : Fin 32) (s : State) : Out := .next (regWrite (VEN_CCTL.reg.adr x.val) 2 s)

/-! ### Drumline and Bellwire (chapters 18 and 19) -/
/-- R626: `held` requests wait before this one. -/
def execRreadReceived (p : Fin 2) (f : List Byte) (held : Nat) (s : State) : Out :=
  .next (remoteRead p.val (natBytes f) held s)
/-- R626. -/
def execRwriteReceived (p : Fin 2) (f : List Byte) (held : Nat) (s : State) : Out :=
  .next (remoteWrite p.val (natBytes f) held s)
/-- R604. -/
def execDrlCfgWrite (v : Word) (s : State) : Out := .next (regWrite (DRL_CFG.reg.adr 0) v.toNat s)
/-- R625. -/
def execEvlastRead (s : State) : Out :=
  .next (hostRead 0xE20070 (fun t => evlastRead (t.emit (.readData 0xE20070 (t.rdA 0xE20070)))) s)
/-- R645: a write with GO set. -/
def execTxctlGo (v : Word) (s : State) : Out := .next (regWrite (BWR_TXCTL.reg.adr 0) (v.toNat ||| 1073741824) s)
/-- R646. -/
def execRxPop (v : Word) (s : State) : Out := .next (regWrite (BWR_RXPOP.reg.adr 0) v.toNat s)
/-- R651. -/
def execBwrCfgWrite (v : Word) (s : State) : Out := .next (regWrite (BWR_CFG.reg.adr 0) v.toNat s)

/-! ### Errors (chapter 22) -/
/-- The catalogue of R730 has the code. -/
def catalogued (v : Variant) (code : Nat) : Bool :=
  let u := code / 256
  let k := code % 256
  let last := [0, 0, 0x0D, 0x0C, 0x0C, 0x08, 0x0E, 0x09, 0x09, 0x0A, 0x0A, 0x03, 0x05, 0x0C, 0x0E, 0x09, 0x0E, 0x09, 0x02].getD u 0
  if u == 1 then [0x01, 0x02, 0x20, 0x21, 0x22, 0x23].contains k
  else 1 ≤ k && k ≤ last && !(u == 3 && (k == 1 || k == 6)) && (u != 15 || v == .f)

/-- A unit raises an error of the catalogue (R721-R725): `full` says that the input FIFO has no space. -/
def raiseError (code : Nat) (ds : List Nat) (full : Bool) (s : State) : State :=
  if !catalogued s.fuses.variant code then s else if full then takeError s code ds true else s.log code ds

/-- R721. -/
def execErrorRaise (code : BitVec 16) (d0 d1 d2 d3 : Word) (full : Bool) (s : State) : Out :=
  .next (raiseError code.toNat [d0.toNat, d1.toNat, d2.toNat, d3.toNat] full s)
/-- R722. -/
def execErrRcntWrite (v : Word) (s : State) : Out := .next (regWrite (ERR_RCNT.reg.adr 0) v.toNat s)

end Sys2Proof.Machine
end

