-- ==== Sys2Proof/Machine/Dispatch.lean ====
section
/-! DEFINITION. What each command does: one arm a row of spec/opcode_table.json, one direct call of its meaning. -/

namespace Sys2Proof.Machine

def exec (i : Instr) (s : State) : Host.Outcome State Fault Refusal :=
  match i with
  | .porAssert => Sys2Proof.Machine.execPorAssert s
  | .porRelease testMode slot => Sys2Proof.Machine.execPorRelease testMode slot s
  | .domainResetRelease d trefEdges => Sys2Proof.Machine.execDomainResetRelease d trefEdges s
  | .supplyDip => Sys2Proof.Machine.execSupplyDip s
  | .supplyReturn testMode slot => Sys2Proof.Machine.execSupplyReturn testMode slot s
  | .rstAssert => Sys2Proof.Machine.execRstAssert s
  | .cfgWarmWrite key => Sys2Proof.Machine.execCfgWarmWrite key s
  | .perstAssert => Sys2Proof.Machine.execPerstAssert s
  | .perstRelease => Sys2Proof.Machine.execPerstRelease s
  | .configRequest addr wr => Sys2Proof.Machine.execConfigRequest addr wr s
  | .fieldLinkLoss => Sys2Proof.Machine.execFieldLinkLoss s
  | .fieldLinkReturn => Sys2Proof.Machine.execFieldLinkReturn s
  | .trefRetry trefEdges locked => Sys2Proof.Machine.execTrefRetry trefEdges locked s
  | .pll1LockTimeout => Sys2Proof.Machine.execPll1LockTimeout s
  | .vencenWrite v => Sys2Proof.Machine.execVencenWrite v s
  | .clkPllWrite p v => Sys2Proof.Machine.execClkPllWrite p v s
  | .trefLost => Sys2Proof.Machine.execTrefLost s
  | .trefRestored => Sys2Proof.Machine.execTrefRestored s
  | .pll1SteerDone => Sys2Proof.Machine.execPll1SteerDone s
  | .sysrefLoss => Sys2Proof.Machine.execSysrefLoss s
  | .corePllUnlock => Sys2Proof.Machine.execCorePllUnlock s
  | .internalRestart => Sys2Proof.Machine.execInternalRestart s
  | .refClockLost r => Sys2Proof.Machine.execRefClockLost r s
  | .vencPllUnlock => Sys2Proof.Machine.execVencPllUnlock s
  | .timePllUnlock => Sys2Proof.Machine.execTimePllUnlock s
  | .timeLockTimeout => Sys2Proof.Machine.execTimeLockTimeout s
  | .clkRstWrite v => Sys2Proof.Machine.execClkRstWrite v s
  | .unitReset v => Sys2Proof.Machine.execUnitReset v s
  | .unitResetDone u => Sys2Proof.Machine.execUnitResetDone u s
  | .loaderFuseDone => Sys2Proof.Machine.execLoaderFuseDone s
  | .loaderHeaderDone hdr => Sys2Proof.Machine.execLoaderHeaderDone hdr s
  | .loaderVerifyDone img => Sys2Proof.Machine.execLoaderVerifyDone img s
  | .loaderClocksLocked => Sys2Proof.Machine.execLoaderClocksLocked s
  | .loaderClocksTimeout => Sys2Proof.Machine.execLoaderClocksTimeout s
  | .recordNop ty required => Sys2Proof.Machine.execRecordNop ty required s
  | .recordRegwrite required addr value mask => Sys2Proof.Machine.execRecordRegwrite required addr value mask s
  | .recordRegblock required addr data => Sys2Proof.Machine.execRecordRegblock required addr data s
  | .recordBasic required unit inst pairs => Sys2Proof.Machine.execRecordBasic required unit inst pairs s
  | .recordTable required unit table inst start data => Sys2Proof.Machine.execRecordTable required unit table inst start data s
  | .recordWait us => Sys2Proof.Machine.execRecordWait us s
  | .waitExpiry => Sys2Proof.Machine.execWaitExpiry s
  | .recordPoll required addr mask value timeout => Sys2Proof.Machine.execRecordPoll required addr mask value timeout s
  | .pollRetry => Sys2Proof.Machine.execPollRetry s
  | .pollTimeout => Sys2Proof.Machine.execPollTimeout s
  | .loaderApplyDone img => Sys2Proof.Machine.execLoaderApplyDone img s
  | .ringPortRelease => Sys2Proof.Machine.execRingPortRelease s
  | .loaderEnter => Sys2Proof.Machine.execLoaderEnter s
  | .cfgFspeedWrite v => Sys2Proof.Machine.execCfgFspeedWrite v s
  | .flashUnlock key => Sys2Proof.Machine.execFlashUnlock key s
  | .flashRead => Sys2Proof.Machine.execFlashRead s
  | .flashProgram => Sys2Proof.Machine.execFlashProgram s
  | .flashErase4k => Sys2Proof.Machine.execFlashErase4k s
  | .flashErase64k => Sys2Proof.Machine.execFlashErase64k s
  | .flashVerifya => Sys2Proof.Machine.execFlashVerifya s
  | .flashVerifyb => Sys2Proof.Machine.execFlashVerifyb s
  | .flashReload => Sys2Proof.Machine.execFlashReload s
  | .flashFloor vpp => Sys2Proof.Machine.execFlashFloor vpp s
  | .flashKeyhash vpp => Sys2Proof.Machine.execFlashKeyhash vpp s
  | .flashCmdDone data failed => Sys2Proof.Machine.execFlashCmdDone data failed s
  | .modeRequestWrite v => Sys2Proof.Machine.execModeRequestWrite v s
  | .drainComplete => Sys2Proof.Machine.execDrainComplete s
  | .drainTimeout => Sys2Proof.Machine.execDrainTimeout s
  | .drainForce v => Sys2Proof.Machine.execDrainForce v s
  | .modeEnterDone => Sys2Proof.Machine.execModeEnterDone s
  | .registerWrite bar2 addr data poisoned => Sys2Proof.Machine.execRegisterWrite bar2 addr data poisoned s
  | .basicWrite addr v => Sys2Proof.Machine.execBasicWrite addr v s
  | .rederiveDone u => Sys2Proof.Machine.execRederiveDone u s
  | .expertSet u => Sys2Proof.Machine.execExpertSet u s
  | .expertClear u => Sys2Proof.Machine.execExpertClear u s
  | .timSecRead => Sys2Proof.Machine.execTimSecRead s
  | .stepGo v => Sys2Proof.Machine.execStepGo v s
  | .freqLoadGo v => Sys2Proof.Machine.execFreqLoadGo v s
  | .stepApply => Sys2Proof.Machine.execStepApply s
  | .freqLoadApply => Sys2Proof.Machine.execFreqLoadApply s
  | .timeRearm v => Sys2Proof.Machine.execTimeRearm v s
  | .adjWrite v => Sys2Proof.Machine.execAdjWrite v s
  | .rateSlewStep => Sys2Proof.Machine.execRateSlewStep s
  | .compareFire k => Sys2Proof.Machine.execCompareFire k s
  | .captureSecRead k => Sys2Proof.Machine.execCaptureSecRead k s
  | .ppsSecond => Sys2Proof.Machine.execPpsSecond s
  | .ppsOutEnd => Sys2Proof.Machine.execPpsOutEnd s
  | .ppsInEdge rising stamp => Sys2Proof.Machine.execPpsInEdge rising stamp s
  | .ppsInTimeout => Sys2Proof.Machine.execPpsInTimeout s
  | .syncReceived p f stamp => Sys2Proof.Machine.execSyncReceived p f stamp s
  | .followUpReceived p f => Sys2Proof.Machine.execFollowUpReceived p f s
  | .delayReqReceived p f stamp => Sys2Proof.Machine.execDelayReqReceived p f stamp s
  | .delayRespReceived p f => Sys2Proof.Machine.execDelayRespReceived p f s
  | .pdelayReqReceived p f stamp tx => Sys2Proof.Machine.execPdelayReqReceived p f stamp tx s
  | .pdelayRespReceived p f stamp followUp => Sys2Proof.Machine.execPdelayRespReceived p f stamp followUp s
  | .announceReceived p f => Sys2Proof.Machine.execAnnounceReceived p f s
  | .foreignMasterTimeout k => Sys2Proof.Machine.execForeignMasterTimeout k s
  | .syncInterval t0 t1 => Sys2Proof.Machine.execSyncInterval t0 t1 s
  | .announceInterval => Sys2Proof.Machine.execAnnounceInterval s
  | .delayReqInterval stamp => Sys2Proof.Machine.execDelayReqInterval stamp s
  | .pdelayInterval p stamp => Sys2Proof.Machine.execPdelayInterval p stamp s
  | .syncTimeout => Sys2Proof.Machine.execSyncTimeout s
  | .holdoverTrustExpiry => Sys2Proof.Machine.execHoldoverTrustExpiry s
  | .timConfigApply => Sys2Proof.Machine.execTimConfigApply s
  | .rawPop => Sys2Proof.Machine.execRawPop s
  | .trainReceived n b inverted note => Sys2Proof.Machine.execTrainReceived n b inverted note s
  | .blockLockLost n note => Sys2Proof.Machine.execBlockLockLost n note s
  | .ebSlip n isOver inPacket => Sys2Proof.Machine.execEbSlip n isOver inPacket s
  | .trainTimeout n lock => Sys2Proof.Machine.execTrainTimeout n lock s
  | .rateSwitchDone n => Sys2Proof.Machine.execRateSwitchDone n s
  | .presetTrialDone n opening ctle dfe1 dfe2 dfe3 => Sys2Proof.Machine.execPresetTrialDone n opening ctle dfe1 dfe2 dfe3 s
  | .backoffEnd n => Sys2Proof.Machine.execBackoffEnd n s
  | .backoffEarlyExit n => Sys2Proof.Machine.execBackoffEarlyExit n s
  | .lpiReceived n deepReq deepAck => Sys2Proof.Machine.execLpiReceived n deepReq deepAck s
  | .quietIdleTimeout n => Sys2Proof.Machine.execQuietIdleTimeout n s
  | .deepRequest n v => Sys2Proof.Machine.execDeepRequest n v s
  | .wakeRequest n v => Sys2Proof.Machine.execWakeRequest n v s
  | .wakeEnergy n => Sys2Proof.Machine.execWakeEnergy n s
  | .marginMeasure n ho vo => Sys2Proof.Machine.execMarginMeasure n ho vo s
  | .marginRebase n v => Sys2Proof.Machine.execMarginRebase n v s
  | .sweepStart n v => Sys2Proof.Machine.execSweepStart n v s
  | .sweepAbort n counts => Sys2Proof.Machine.execSweepAbort n counts s
  | .sweepDone n counts => Sys2Proof.Machine.execSweepDone n counts s
  | .esdataRead n => Sys2Proof.Machine.execEsdataRead n s
  | .loopbackWrite n v => Sys2Proof.Machine.execLoopbackWrite n v s
  | .injectHdr n => Sys2Proof.Machine.execInjectHdr n s
  | .injectBit n => Sys2Proof.Machine.execInjectBit n s
  | .injectType2 n => Sys2Proof.Machine.execInjectType2 n s
  | .injectTraincrc n => Sys2Proof.Machine.execInjectTraincrc n s
  | .injectSkipgap n => Sys2Proof.Machine.execInjectSkipgap n s
  | .ratemaxWrite n v => Sys2Proof.Machine.execRatemaxWrite n v s
  | .retrain n v => Sys2Proof.Machine.execRetrain n v s
  | .txfirWrite n v => Sys2Proof.Machine.execTxfirWrite n v s
  | .alignReceived g row => Sys2Proof.Machine.execAlignReceived g row s
  | .groupFormTimeout g => Sys2Proof.Machine.execGroupFormTimeout g s
  | .ackReceived g p => Sys2Proof.Machine.execAckReceived g p s
  | .nakReceived g p => Sys2Proof.Machine.execNakReceived g p s
  | .busyReplayWait g => Sys2Proof.Machine.execBusyReplayWait g s
  | .replayTimeout g => Sys2Proof.Machine.execReplayTimeout g s
  | .discoveryTimeout g => Sys2Proof.Machine.execDiscoveryTimeout g s
  | .ackDelayTimeout g => Sys2Proof.Machine.execAckDelayTimeout g s
  | .discReqReceived g p => Sys2Proof.Machine.execDiscReqReceived g p s
  | .echoReceived g p => Sys2Proof.Machine.execEchoReceived g p s
  | .ctrlRspReceived g p => Sys2Proof.Machine.execCtrlRspReceived g p s
  | .clpEventReceived g p => Sys2Proof.Machine.execClpEventReceived g p s
  | .frameStartReceived g p => Sys2Proof.Machine.execFrameStartReceived g p s
  | .pixelReceived g p => Sys2Proof.Machine.execPixelReceived g p s
  | .frameEndReceived g p => Sys2Proof.Machine.execFrameEndReceived g p s
  | .downlinkTxSelect g => Sys2Proof.Machine.execDownlinkTxSelect g s
  | .triggerTimeout st => Sys2Proof.Machine.execTriggerTimeout st s
  | .timePeriod => Sys2Proof.Machine.execTimePeriod s
  | .pingPeriod => Sys2Proof.Machine.execPingPeriod s
  | .mailboxGo g v => Sys2Proof.Machine.execMailboxGo g v s
  | .mailboxTimeout g => Sys2Proof.Machine.execMailboxTimeout g s
  | .frameTimeout st => Sys2Proof.Machine.execFrameTimeout st s
  | .clpStreamWrite st v => Sys2Proof.Machine.execClpStreamWrite st v s
  | .parFrameStart n => Sys2Proof.Machine.execParFrameStart n s
  | .parLineEnd n line => Sys2Proof.Machine.execParLineEnd n line s
  | .parLineTimeout n => Sys2Proof.Machine.execParLineTimeout n s
  | .parFrameTimeout n => Sys2Proof.Machine.execParFrameTimeout n s
  | .parExpEdge n high => Sys2Proof.Machine.execParExpEdge n high s
  | .parTriggerTimeout n => Sys2Proof.Machine.execParTriggerTimeout n s
  | .parStreamWrite n v => Sys2Proof.Machine.execParStreamWrite n v s
  | .pixSrcWrite p v => Sys2Proof.Machine.execPixSrcWrite p v s
  | .pipeFrameStart p => Sys2Proof.Machine.execPipeFrameStart p s
  | .pipeInputLine p cut => Sys2Proof.Machine.execPipeInputLine p cut s
  | .pipeInputEnd p => Sys2Proof.Machine.execPipeInputEnd p s
  | .pipeFlushDone p => Sys2Proof.Machine.execPipeFlushDone p s
  | .pixTableWrite p tbl k v => Sys2Proof.Machine.execPixTableWrite p tbl k v s
  | .pixBistStart p v => Sys2Proof.Machine.execPixBistStart p v s
  | .pixBistDone p fail => Sys2Proof.Machine.execPixBistDone p fail s
  | .posTransition n a b z => Sys2Proof.Machine.execPosTransition n a b z s
  | .posIndex n a b z => Sys2Proof.Machine.execPosIndex n a b z s
  | .wireDisagree n k => Sys2Proof.Machine.execWireDisagree n k s
  | .wireDisagreeEnd n k => Sys2Proof.Machine.execWireDisagreeEnd n k s
  | .posArm n => Sys2Proof.Machine.execPosArm n s
  | .posDisarm n => Sys2Proof.Machine.execPosDisarm n s
  | .posLoad n => Sys2Proof.Machine.execPosLoad n s
  | .posRefset n => Sys2Proof.Machine.execPosRefset n s
  | .posLatchCmd n => Sys2Proof.Machine.execPosLatchCmd n s
  | .posCntRead n => Sys2Proof.Machine.execPosCntRead n s
  | .posLatchTimeRead probe k => Sys2Proof.Machine.execPosLatchTimeRead probe k s
  | .posCfgWrite n v => Sys2Proof.Machine.execPosCfgWrite n v s
  | .posTagEval st => Sys2Proof.Machine.execPosTagEval st s
  | .speedSlot n => Sys2Proof.Machine.execSpeedSlot n s
  | .posStillTimeout n => Sys2Proof.Machine.execPosStillTimeout n s
  | .ssiPoll n => Sys2Proof.Machine.execSsiPoll n s
  | .ssiFrameDone n data status parity trail returned => Sys2Proof.Machine.execSsiFrameDone n data status parity trail returned s
  | .probeEdge k rising => Sys2Proof.Machine.execProbeEdge k rising s
  | .wheelTooth w => Sys2Proof.Machine.execWheelTooth w s
  | .syntheticTooth w => Sys2Proof.Machine.execSyntheticTooth w s
  | .wheelGapTimeout w => Sys2Proof.Machine.execWheelGapTimeout w s
  | .wheelStall w => Sys2Proof.Machine.execWheelStall w s
  | .twsWcfgWrite w v => Sys2Proof.Machine.execTwsWcfgWrite w v s
  | .angleTagEval st due => Sys2Proof.Machine.execAngleTagEval st due s
  | .timeEntryDue e => Sys2Proof.Machine.execTimeEntryDue e s
  | .schedFire e => Sys2Proof.Machine.execSchedFire e s
  | .entryCtlWrite e v => Sys2Proof.Machine.execEntryCtlWrite e v s
  | .lineFire => Sys2Proof.Machine.execLineFire s
  | .beatEvent pin => Sys2Proof.Machine.execBeatEvent pin s
  | .heldEventAccept k => Sys2Proof.Machine.execHeldEventAccept k s
  | .softFire k v => Sys2Proof.Machine.execSoftFire k v s
  | .cselWrite n v => Sys2Proof.Machine.execCselWrite n v s
  | .beatSrcWrite b v => Sys2Proof.Machine.execBeatSrcWrite b v s
  | .cellWrite c v => Sys2Proof.Machine.execCellWrite c v s
  | .chimeFilterExpiry c => Sys2Proof.Machine.execChimeFilterExpiry c s
  | .trigPulseEnd n => Sys2Proof.Machine.execTrigPulseEnd n s
  | .strobePulseEnd k => Sys2Proof.Machine.execStrobePulseEnd k s
  | .guardTrip k => Sys2Proof.Machine.execGuardTrip k s
  | .guardClear k => Sys2Proof.Machine.execGuardClear k s
  | .dllUnlock => Sys2Proof.Machine.execDllUnlock s
  | .dllLock => Sys2Proof.Machine.execDllLock s
  | .aenaWrite v => Sys2Proof.Machine.execAenaWrite v s
  | .arngWrite a v => Sys2Proof.Machine.execArngWrite a v s
  | .avalWrite a v => Sys2Proof.Machine.execAvalWrite a v s
  | .holdoffEnd a => Sys2Proof.Machine.execHoldoffEnd a s
  | .connectEnd a => Sys2Proof.Machine.execConnectEnd a s
  | .dischargeEnd a => Sys2Proof.Machine.execDischargeEnd a s
  | .aoutFault a compliance => Sys2Proof.Machine.execAoutFault a compliance s
  | .aoutFaultClear a compliance => Sys2Proof.Machine.execAoutFaultClear a compliance s
  | .doorbellWrite q v => Sys2Proof.Machine.execDoorbellWrite q v s
  | .queueEnable q => Sys2Proof.Machine.execQueueEnable q s
  | .queuePause q => Sys2Proof.Machine.execQueuePause q s
  | .queueResume q => Sys2Proof.Machine.execQueueResume q s
  | .queueReset q => Sys2Proof.Machine.execQueueReset q s
  | .queueResetDone q => Sys2Proof.Machine.execQueueResetDone q s
  | .queueMark q => Sys2Proof.Machine.execQueueMark q s
  | .queCtxWrite q w v => Sys2Proof.Machine.execQueCtxWrite q w v s
  | .queMapWrite venc st r v => Sys2Proof.Machine.execQueMapWrite venc st r v s
  | .itemStart => Sys2Proof.Machine.execItemStart s
  | .descReadComplete q => Sys2Proof.Machine.execDescReadComplete q s
  | .itemStartTimeout q => Sys2Proof.Machine.execItemStartTimeout q s
  | .itemMidTimeout q => Sys2Proof.Machine.execItemMidTimeout q s
  | .itemEnd q => Sys2Proof.Machine.execItemEnd q s
  | .errorTagWrite q => Sys2Proof.Machine.execErrorTagWrite q s
  | .moderationTimeout q => Sys2Proof.Machine.execModerationTimeout q s
  | .queBistStart => Sys2Proof.Machine.execQueBistStart s
  | .queBistDone pass => Sys2Proof.Machine.execQueBistDone pass s
  | .linkUp gen width pgen pwidth => Sys2Proof.Machine.execLinkUp gen width pgen pwidth s
  | .retryEnd => Sys2Proof.Machine.execRetryEnd s
  | .linkDown => Sys2Proof.Machine.execLinkDown s
  | .hotReset => Sys2Proof.Machine.execHotReset s
  | .bmeClear => Sys2Proof.Machine.execBmeClear s
  | .bmeSet => Sys2Proof.Machine.execBmeSet s
  | .d3hotEntry => Sys2Proof.Machine.execD3hotEntry s
  | .flrStart => Sys2Proof.Machine.execFlrStart s
  | .flrDone => Sys2Proof.Machine.execFlrDone s
  | .completionReceived tag status bad ecrc data => Sys2Proof.Machine.execCompletionReceived tag status bad ecrc data s
  | .completionTimeout tag => Sys2Proof.Machine.execCompletionTimeout tag s
  | .unsupportedRequest tlp mem posted => Sys2Proof.Machine.execUnsupportedRequest tlp mem posted s
  | .msixUnmask v => Sys2Proof.Machine.execMsixUnmask v s
  | .heldMsgSend => Sys2Proof.Machine.execHeldMsgSend s
  | .farRead offset size => Sys2Proof.Machine.execFarRead offset size s
  | .farWrite offset data => Sys2Proof.Machine.execFarWrite offset data s
  | .farTimeout id => Sys2Proof.Machine.execFarTimeout id s
  | .pollRound => Sys2Proof.Machine.execPollRound s
  | .venEnableWrite x v => Sys2Proof.Machine.execVenEnableWrite x v s
  | .venCloseDone x => Sys2Proof.Machine.execVenCloseDone x s
  | .venPictureOffer x isOver => Sys2Proof.Machine.execVenPictureOffer x isOver s
  | .coreSegmentStart c qp => Sys2Proof.Machine.execCoreSegmentStart c qp s
  | .coreSegmentDone c bytes qps => Sys2Proof.Machine.execCoreSegmentDone c bytes qps s
  | .coreParkWrite c v => Sys2Proof.Machine.execCoreParkWrite c v s
  | .coreFault c mem => Sys2Proof.Machine.execCoreFault c mem s
  | .venRestart x => Sys2Proof.Machine.execVenRestart x s
  | .venIdrRequest x => Sys2Proof.Machine.execVenIdrRequest x s
  | .drlPortUp p => Sys2Proof.Machine.execDrlPortUp p s
  | .drlPortDown p => Sys2Proof.Machine.execDrlPortDown p s
  | .rateAlternate p => Sys2Proof.Machine.execRateAlternate p s
  | .drlFrameForward p f res => Sys2Proof.Machine.execDrlFrameForward p f res s
  | .beaconReceived p f => Sys2Proof.Machine.execBeaconReceived p f s
  | .helloReceived p f => Sys2Proof.Machine.execHelloReceived p f s
  | .enumReceived p f => Sys2Proof.Machine.execEnumReceived p f s
  | .enumEndReceived p f => Sys2Proof.Machine.execEnumEndReceived p f s
  | .joinReceived p f => Sys2Proof.Machine.execJoinReceived p f s
  | .assignReceived p f => Sys2Proof.Machine.execAssignReceived p f s
  | .nodeUpReceived p f => Sys2Proof.Machine.execNodeUpReceived p f s
  | .linklossReceived p f => Sys2Proof.Machine.execLinklossReceived p f s
  | .linkupReceived p f => Sys2Proof.Machine.execLinkupReceived p f s
  | .openReceived p f => Sys2Proof.Machine.execOpenReceived p f s
  | .drlEventReceived p f => Sys2Proof.Machine.execDrlEventReceived p f s
  | .eventPresent => Sys2Proof.Machine.execEventPresent s
  | .rreadReceived p f held => Sys2Proof.Machine.execRreadReceived p f held s
  | .rwriteReceived p f held => Sys2Proof.Machine.execRwriteReceived p f held s
  | .rrspReceived p f => Sys2Proof.Machine.execRrspReceived p f s
  | .rwackReceived p f => Sys2Proof.Machine.execRwackReceived p f s
  | .remoteRetry id => Sys2Proof.Machine.execRemoteRetry id s
  | .beaconInterval => Sys2Proof.Machine.execBeaconInterval s
  | .enumHoldEnd => Sys2Proof.Machine.execEnumHoldEnd s
  | .claimWindowEnd => Sys2Proof.Machine.execClaimWindowEnd s
  | .enumTimeout => Sys2Proof.Machine.execEnumTimeout s
  | .rootTimeout => Sys2Proof.Machine.execRootTimeout s
  | .helloInterval => Sys2Proof.Machine.execHelloInterval s
  | .joinInterval => Sys2Proof.Machine.execJoinInterval s
  | .nodeUpSend => Sys2Proof.Machine.execNodeUpSend s
  | .linkupSend p => Sys2Proof.Machine.execLinkupSend p s
  | .openSend => Sys2Proof.Machine.execOpenSend s
  | .drlCfgWrite v => Sys2Proof.Machine.execDrlCfgWrite v s
  | .busIdle => Sys2Proof.Machine.execBusIdle s
  | .strikeSeen join rival => Sys2Proof.Machine.execStrikeSeen join rival s
  | .bwStrike rival => Sys2Proof.Machine.execBwStrike rival s
  | .frameMark f ack tail => Sys2Proof.Machine.execFrameMark f ack tail s
  | .framingError => Sys2Proof.Machine.execFramingError s
  | .clkLowTimeout => Sys2Proof.Machine.execClkLowTimeout s
  | .busStuckDetect => Sys2Proof.Machine.execBusStuckDetect s
  | .resetStrikeEnd => Sys2Proof.Machine.execResetStrikeEnd s
  | .recoveryCheck high => Sys2Proof.Machine.execRecoveryCheck high s
  | .recoveryRetry => Sys2Proof.Machine.execRecoveryRetry s
  | .txctlGo v => Sys2Proof.Machine.execTxctlGo v s
  | .txTimeout k => Sys2Proof.Machine.execTxTimeout k s
  | .rxPop v => Sys2Proof.Machine.execRxPop v s
  | .bwrCfgWrite v => Sys2Proof.Machine.execBwrCfgWrite v s
  | .jtagInstructionUpdate code => Sys2Proof.Machine.execJtagInstructionUpdate code s
  | .tapReset => Sys2Proof.Machine.execTapReset s
  | .errorRaise code d0 d1 d2 d3 full => Sys2Proof.Machine.execErrorRaise code d0 d1 d2 d3 full s
  | .errRcntWrite v => Sys2Proof.Machine.execErrRcntWrite v s
  | .evlastRead => Sys2Proof.Machine.execEvlastRead s
  | .rstRelease => Sys2Proof.Machine.execRstRelease s
  | .uplinkQuietExit n => Sys2Proof.Machine.execUplinkQuietExit n s
  | .hostlockWrite v => Sys2Proof.Machine.execHostlockWrite v s
  | .d0Return => Sys2Proof.Machine.execD0Return s
  | .malformedTlp bit => Sys2Proof.Machine.execMalformedTlp bit s
  | .uncorrectableInternalError => Sys2Proof.Machine.execUncorrectableInternalError s
  | .tckEdge rising tms tdi pins => Sys2Proof.Machine.execTckEdge rising tms tdi pins s
  | .alignRowSend g => Sys2Proof.Machine.execAlignRowSend g s

end Sys2Proof.Machine
end

