-- ==== Sys2Proof/Machine/Step.lean ====
section
/-! DEFINITION. One step of the block: the command at the front of the queue acts on the state with the rest of the queue. On
an empty queue 2 ns pass: the 500 MHz clock of the time base makes one tick (log entry 1). -/

namespace Sys2Proof.Machine

/-- One tick of `CLK_TIME` on an idle block (R159, log entry 1): elapsed time and the time base advance. -/
def idleTick (s : State) : State := { timeTick s with elapsed := s.elapsed + 2 }

/-- One step (see the head of the file). -/
def step (s : State) : Host.Outcome State Fault Refusal :=
  match s.pending with
  | [] => .next (idleTick s)
  | c :: rest => exec c { s with pending := rest }

/-- `s` with command `c` at the front of its queue. -/
def State.withFront (s : State) (c : Instr) : State := { s with pending := c :: s.pending }

/-- `s` with the command that a table word spells in front; the table gives no row bits, so no word spells one. -/
def State.withFetchWord (s : State) (nbits w : Nat) : State :=
  match Sys2Proof.decodeTableWord nbits w with
  | some c => s.withFront c
  | none => s

end Sys2Proof.Machine
end

