-- ==== Sys2Proof/Safety.lean ====
section
/-! DEFINITION. What claims about the block are stated in: when an access of the host is served, when the block runs, when a
step completes, and the form that the state keeps. -/

namespace Sys2Proof.Machine

/-- The host's accesses to BAR0 address `a` act: the function serves memory requests, the core is released, the loader is
done, something stands at `a`, and no change of level of its unit is under way (R98, R142, R148, R549, R550). -/
abbrev Served (s : State) (a : Nat) : Prop :=
  hostOpen s = true ∧ s.clk.coreUp = true ∧ s.flag CFG_STATUS.DONE = true ∧
    absentAt s.fuses.variant a = none ∧ levelWaits s ((unitAt a).getD 0) = false

/-- The host's doorbells act (R98, R549, R550). -/
abbrev DoorbellServed (s : State) : Prop :=
  hostOpen s = true ∧ s.clk.coreUp = true ∧ s.flag CFG_STATUS.DONE = true

/-- The loader is in the state with code `p` of R74 and takes records there. -/
abbrev LoaderIn (s : State) (p : Nat) : Prop := loaderAt s p = true

/-- Frame `f` on ring port `p` holds, from offset `k` on, a PTP message of type `ty` that the ordinary clock takes: the port
forwards, the FCS is good, the domain is that in effect, SDO is 0, and the sender is another clock (R182, R183). -/
abbrev PtpHeard (s : State) (p ty : Nat) (f : List Nat) (k : Nat) : Prop :=
  ringPort s p = true ∧ ringState s p = 3 ∧ ptpOffset f = some k ∧ fcsGood f = true ∧
    ptpType ((frameBodyOf f).drop k) = ty ∧ ptpDomain ((frameBodyOf f).drop k) = s.tim.ptp / 2 ^ 24 ∧
    byteAt ((frameBodyOf f).drop k) 0 / 16 = 0 ∧ byteAt ((frameBodyOf f).drop k) 5 = 0 ∧
    (ptpIdent ((frameBodyOf f).drop k)).take 8 ≠ dsnBytes s

/-- Packet `p` of TYPE `ty` passes every check of group `g`: its length, its CRC, its form, and a state of the group in which
it is taken (R265, R266, R267, R270, R296). -/
abbrev PacketTaken (s : State) (g ty : Nat) (p : List Nat) : Prop :=
  laneExists s g = true ∧ (∀ b ∈ p, b < 256) ∧ p.length = 12 + pktLen p ∧ crcOk p = true ∧ legalUp p = true ∧
    pktType p = ty ∧ (groupState s g = 3 ∨ (groupState s g = 2 ∧ ty = 4))

/-- Packet `p` carries the SEQ that group `g` expects next (R276). -/
abbrev InOrder (s : State) (g : Nat) (p : List Nat) : Prop := pktNum p % 4096 = s.get CLP_SEQ.RXNEXT g

/-- What group `g` does with a reliable packet that is in order before it reads it: RXNEXT advances, a NAK may be sent again,
and an acknowledgement is due after ACKCNT of them (R276, R277). -/
abbrev accepted (s : State) (g : Nat) : State :=
  let t := s.set CLP_SEQ.RXNEXT ((s.get CLP_SEQ.RXNEXT g + 1) % 4096) g
  noteAccepted g (t.setGroup g { t.group g with nakSent := false })

/-- A step completes: it answers a next state. -/
def Completes (s : State) : Prop := ∃ t, step s = .next t

/-- The register table has the canonical form: rising addresses, and no entry that holds its register's reset word. -/
def State.regsOk (s : State) : Bool := twf (fun a => BitVec.ofNat 32 (resetWord a)) s.regs

/-- What no command changes of the device itself: the variant and the serial number (R1, R155). -/
abbrev State.sameDevice (s t : State) : Prop := t.fuses.variant = s.fuses.variant ∧ t.fuses.dsn = s.fuses.dsn

end Sys2Proof.Machine
end

