-- ==== Sys2Proof/Certificates/Slice0/Obligations.lean ====
section
/-! DEFINITION. The statements about the model that the provers prove. -/

open Sys2Proof
open Sys2Proof.Machine

/-- For every state, POR_ASSERT and SUPPLY_DIP answer a next state in which the pin that went low is held low, every
clock domain is in reset, the time base is 0, every register but the live levels of POS_STAT reads its reset word, the
strap and loader state is that of reset, and the fuses, the queue and elapsed time are unchanged. The model's choices
that it rests on: log entry 28. (R71, R54, R18, 02_clock_domains_and_crossings.md.) -/
def Obligations.PowerOnResetClears : Prop :=
  (∀ s : State, ∃ t, exec .porAssert s = .next t ∧
    t.clk = {
      porLow := true
      dip := s.clk.dip
      rstLow := s.clk.rstLow
      perstLow := s.clk.perstLow
      fieldLink := s.clk.fieldLink } ∧
    t.now = 0 ∧ t.cfg = {} ∧ t.glb = {} ∧ t.que = {} ∧ t.hbr = {} ∧ t.fuses = s.fuses ∧ t.elapsed = s.elapsed ∧
    t.pending = s.pending ∧
    (∀ a, (∀ n, n < 8 → a ≠ POS_STAT.LEVELS.adr n) → t.rdA a = resetWord a % 2 ^ 32)) ∧
  (∀ s : State, ∃ t, exec .supplyDip s = .next t ∧
    t.clk = {
      porLow := s.clk.porLow
      dip := true
      rstLow := s.clk.rstLow
      perstLow := s.clk.perstLow
      fieldLink := s.clk.fieldLink } ∧
    t.now = 0 ∧ t.cfg = {} ∧ t.glb = {} ∧ t.que = {} ∧ t.hbr = {} ∧ t.fuses = s.fuses ∧ t.elapsed = s.elapsed ∧
    t.pending = s.pending ∧
    (∀ a, (∀ n, n < 8 → a ≠ POS_STAT.LEVELS.adr n) → t.rdA a = resetWord a % 2 ^ 32))

/-- When POR_N rises with no supply dip held, or a dip ends with POR_N high, the test-mode and slot straps are taken,
the slot goes to BWR_CFG.SLOT, and with PERST_N high outside test mode the host clock domain is released and PLL 2
shows lock; nothing else changes. PERST_RELEASE releases it too when the power-on reset is over. RST_RELEASE and
INTERNAL_RESTART only release their reset. The model's choices that it rests on: log entry 12. (R54, R55, R669, R670,
02_clock_domains_and_crossings.md.) -/
def Obligations.PowerOnResetReleaseTakesStraps : Prop :=
  (∀ (s : State) (tm : Bool) (slot : BitVec 5), s.clk.porLow = true → s.clk.dip = false →
    exec (.porRelease tm slot) s =
      let t := { s with
        clk := { s.clk with porLow := false, testHold := tm, strapSlot := slot.toNat }
        cfg := { s.cfg with startAt := s.elapsed } }.set BWR_CFG.SLOT slot.toNat
      .next (if s.clk.perstLow || tm then t else setLock 2 true { t with clk := { t.clk with hostUp := true } })) ∧
  (∀ (s : State) (tm : Bool) (slot : BitVec 5), s.clk.dip = true → s.clk.porLow = false →
    exec (.supplyReturn tm slot) s =
      let t := { s with
        clk := { s.clk with dip := false, testHold := tm, strapSlot := slot.toNat }
        cfg := { s.cfg with startAt := s.elapsed } }.set BWR_CFG.SLOT slot.toNat
      .next (if s.clk.perstLow || tm then t else setLock 2 true { t with clk := { t.clk with hostUp := true } })) ∧
  (∀ s : State, s.clk.porLow = false → s.clk.dip = false → s.clk.testHold = false →
    exec .perstRelease s = .next (setLock 2 true { s with clk := { s.clk with perstLow := false, hostUp := true } })) ∧
  (∀ s : State, exec .rstRelease s = .next { s with clk := { s.clk with rstLow := false } }) ∧
  (∀ s : State, exec .internalRestart s = .next { s with clk := { s.clk with restartWait := false } })

/-- RST_ASSERT, a served write of the key to CFG_WARM, SYSREF_LOSS, CORE_PLL_UNLOCK and FLASH_RELOAD (unlocked, in
SERVICE, idle) all perform the warm reset; RST_ASSERT holds RST_N low, and the clock failures set their bit of
CLK_CAUSE and wait for the internal restart. The warm reset puts CLK_CFG, CLK_CORE, CLK_TIME and CLK_VENC in reset,
leaves the host clock, the straps, the fuses and elapsed time, clears the time base and every fired event, and returns
every register below 0x500000 to its reset word but those that R71 keeps (CLK_CAUSE, CFG_FAIL, CFG_FAILREC,
CFG_STATUS.RUNS, CFG_SLOTBOFS, live bits of CLK_STATUS). The model's choices that it rests on: log entries 9, 28, 113.
(R65, R66, R67, R71, R109, 02_clock_domains_and_crossings.md.) -/
def Obligations.WarmResetKeepsTheBridge : Prop :=
  (∀ s : State, exec .rstAssert s = .next (warmReset { s with clk := { s.clk with rstLow := true } })) ∧
  (∀ (s : State) (key : Word), Served s (CFG_WARM.reg.adr 0) → key = 0x7761726D →
    exec (.cfgWarmWrite key) s = .next (warmReset s)) ∧
  (∀ s : State, ∃ t, exec .sysrefLoss s = .next t ∧ t.rdA 0x2004C = putBits ((warmReset s).rdA 0x2004C) 0 0 1 ∧
    t.clk = { (warmReset s).clk with restartWait := true } ∧ t.fuses = s.fuses ∧ t.pending = s.pending) ∧
  (∀ s : State, s.clk.coreUp = true → ∃ t, exec .corePllUnlock s = .next t ∧
    t.rdA 0x2004C = putBits ((warmReset s).rdA 0x2004C) 1 1 1 ∧
    t.clk = { (warmReset s).clk with restartWait := true } ∧ t.fuses = s.fuses ∧ t.pending = s.pending) ∧
  (∀ s : State, Served s (CFG_FCMD.reg.adr 0) → s.flag CFG_FCMD.BUSY = false → inService s = true →
    s.cfg.unlocked = true → exec .flashReload s = .next (warmReset s)) ∧
  (∀ s : State, (warmReset s).clk = { s.clk with
        cfgUp := false
        coreUp := false
        timeUp := false
        vencUp := false
        timeUnlock := false
        pllUse := [] } ∧ (warmReset s).now = 0 ∧ (warmReset s).elapsed = s.elapsed ∧
      (warmReset s).fuses = s.fuses ∧ (warmReset s).pending = s.pending) ∧
  (∀ (s : State) (a : Nat), a < 0x500000 → ¬ a ∈ keptAddrs → (warmReset s).rdA a = resetWord a % 2 ^ 32)

/-- DOMAIN_RESET_RELEASE releases CLK_CFG and starts the loader, releases CLK_CORE with PLL 0 locked, CORE set and the
core generation counted, and releases CLK_VENC once it is enabled on a device that has it. At the basic level an
attempt with TREF at 10 or 25 MHz (within 1,000 ppm of the count) sets FOUND, derives PLL 1 and releases CLK_TIME; a
count that fits no accepted frequency clears FOUND and logs 0x0309 once a run. At the expert level a lock that times
out logs it as well. TREF_RETRY makes the same attempt. The model's choices that it rests on: log entries 8, 12. (R54,
R57, R58, R59, R60, R61, R732, 02_clock_domains_and_crossings.md.) -/
def Obligations.DomainsAreReleased : Prop :=
  (∀ (s : State) (e : Nat), s.clk.cfgUp = false → s.clk.porLow = false → s.clk.dip = false → s.clk.rstLow = false →
    s.clk.restartWait = false → s.clk.testHold = false →
    exec (.domainResetRelease .cfg e) s = .next (startLoader { s with clk := { s.clk with cfgUp := true } })) ∧
  (∀ (s : State) (e : Nat), s.clk.coreUp = false → s.clk.cfgUp = true → s.clk.testHold = false →
    exec (.domainResetRelease .core e) s = .next
      (((setLock 0 true (usePll 0 { s with clk := { s.clk with coreUp := true } })).set HBR_STAT.CORE 1).count
        HBR_COREGEN.COUNT)) ∧
  (∀ (s : State) (e : Nat), s.clk.vencUp = false → s.clk.cfgUp = true → s.clk.testHold = false → s.fuses.variant = .f →
    s.flag CLK_VENCEN.EN = true → s.flag CLK_RST.VENC = false →
    exec (.domainResetRelease .venc e) s = .next (venClockRelease (setLock 3 true (usePll 3 s)))) ∧
  (∀ (s : State) (e f : Nat), timeReady s = true → s.flag CLK_LEVEL.EXPERT = false →
    ((999 ≤ e ∧ e ≤ 1001 ∧ f = 1) ∨ (2498 ≤ e ∧ e ≤ 2502 ∧ f = 2)) →
    (s.get CLK_TREF.FREQ = f ∨ s.get CLK_TREF.FREQ = 0 ∨ s.get CLK_TREF.FREQ = 3) →
    exec (.domainResetRelease .time e) s =
      .next (timeRelease ((setFound f (s.set CLK_STATUS.TREF 1)).endRun 0x0309 0)) ∧
    exec (.trefRetry e true) s = exec (.domainResetRelease .time e) s) ∧
  (∀ (s : State) (e : Nat) (l : Bool), timeReady s = true → s.flag CLK_LEVEL.EXPERT = false → trefFreq e = 0 →
    exec (.trefRetry e l) s = .next ((setFound 0 (s.set CLK_STATUS.TREF (b2n (e != 0)))).logRun 0x0309 0)) ∧
  (∀ s : State, timeReady s = true → s.flag CLK_LEVEL.EXPERT = true →
    exec .pll1LockTimeout s = .next (s.logRun 0x0309 0))

/-- TREF_LOST with TREF present clears its presence, sets CLK_LOSS.TREF, fires CLK_ALARM (0x005), logs 0x0302, and
while CLK_TIME runs PLL 1 enters holdover; TREF_RESTORED logs 0x0303; PLL1_STEER_DONE ends holdover with PLL 1 locked.
TIME_PLL_UNLOCK with TREF present sets TIMELOCK, logs 0x0304 and enters holdover, and the 100 ms timeout then resets
the time domains. VENC_PLL_UNLOCK resets CLK_VENC and logs 0x0305. REF_CLOCK_LOST of a watched PCLK clears its
presence, sets its bit and logs 0x030C with the port, which leaves LOCKED when it was in use. The model's choices that
it rests on: log entry 12. (R62, R63, R64, R68, R69, 02_clock_domains_and_crossings.md.) -/
def Obligations.LostReferencesAndLocks : Prop :=
  (∀ s : State, s.flag CLK_STATUS.TREF = true →
    exec .trefLost s =
      let t := (((s.set CLK_STATUS.TREF 0).set CLK_LOSS.TREF ((s.set CLK_STATUS.TREF 0).get CLK_LOSS.TREF ||| 1)).fire
        0x005).log 0x0302
      .next (if s.clk.timeUp then timHoldover true ((setLock 1 false t).set CLK_STATUS.HOLDOVER 1) else t)) ∧
  (∀ s : State, s.clk.timeUp = true → s.flag CLK_STATUS.HOLDOVER = true → s.flag CLK_STATUS.TREF = false →
    exec .trefRestored s = .next ((s.set CLK_STATUS.TREF 1).log 0x0303)) ∧
  (∀ s : State, s.clk.timeUp = true → s.flag CLK_STATUS.HOLDOVER = true → s.flag CLK_STATUS.TREF = true →
    exec .pll1SteerDone s = .next (timHoldover false
      ((setLock 1 true { s with clk := { s.clk with timeUnlock := false } }).set CLK_STATUS.HOLDOVER 0))) ∧
  (∀ s : State, s.clk.timeUp = true → s.flag CLK_STATUS.TREF = true → s.flag CLK_STATUS.HOLDOVER = false →
    exec .timePllUnlock s =
      let u : State := { s with clk := { s.clk with timeUnlock := true } }
      .next (timHoldover true ((setLock 1 false
        (((u.set CLK_LOSS.TIMELOCK (u.get CLK_LOSS.TIMELOCK ||| 1)).fire 0x005).log 0x0304)).set
          CLK_STATUS.HOLDOVER 1))) ∧
  (∀ s : State, s.clk.timeUnlock = true → s.clk.timeUp = true → ∃ t, exec .timeLockTimeout s = .next t ∧
    t.clk.timeUp = false ∧ t.clk.timeUnlock = false ∧ t.elapsed = s.elapsed ∧ t.pending = s.pending) ∧
  (∀ s : State, s.clk.vencUp = true →
    exec .vencPllUnlock s = .next ((setLock 3 false (venClockReset
      ((s.set CLK_LOSS.VENCLOCK (s.get CLK_LOSS.VENCLOCK ||| 1)).fire 0x005))).log 0x0305)) ∧
  (∀ (s : State) (n : Fin 2), s.clk.coreUp = true → bitAt (s.get CLK_RST.PAR) n.val = false →
    bitAt (s.get CLK_STATUS.PCLK) n.val = true →
    exec (.refClockLost (.pclk n)) s =
      let u := s.set CLK_STATUS.PCLK (putBits (s.get CLK_STATUS.PCLK) n.val n.val 0)
      let t := ((u.set CLK_LOSS.PCLK (u.get CLK_LOSS.PCLK ||| 2 ^ n.val)).fire 0x005).log 0x030C [n.val]
      .next (if portState t n.val = 0 then t else syncLoss n.val 1 t))

/-- A served write of CLK_VENCEN takes the word and, when EN reads 0 after it, resets CLK_VENC. At the expert level
CLK_PLL[p] (p not 2) takes a word whose dividers are not zero and whose VCO lies from 2.5 to 5.5 GHz, and refuses any
other with 0x030A and the register's offset. CLK_RST takes the word written; where only the VENC bit changes while
CLK_VENC is in reset, nothing else changes. RING_PORT_RELEASE clears the RING bits of the ports that are there. The
loss of the field link fires ERR_ANY once and stops the field die's outputs and inputs; its return resumes them.
CFG_URST outside STANDBY and SERVICE resets nothing and logs 0x020C; in them its bits reset their units and stay set
until each is done. The model's choices that it rests on: log entries 12, 48, 66, 81. (R59, R61, R70, R99, R28, R29,
R73, 02_clock_domains_and_crossings.md.) -/
def Obligations.ClockRegisterWrites : Prop :=
  (∀ (s : State) (v : Word), Served s 0x20014 → v.toNat % 2 = 0 → s.clk.vencUp = true →
    ∃ t, exec (.vencenWrite v) s = .next t ∧ t.clk = { s.clk with vencUp := false } ∧ t.flag CLK_VENCEN.EN = false) ∧
  (∀ (s : State) (p : Fin 4) (v : Word), Served s (CLK_PLL.reg.adr p.val) → p.val ≠ 2 → s.flag CLK_LEVEL.EXPERT = true →
    exec (.clkPllWrite p v) s =
      .next (if pllOk (pllRef s p.val) v.toNat then codedWrite (CLK_PLL.reg.adr p.val) v.toNat s
        else s.log 0x030A [0x100 + 16 * p.val])) ∧
  (∀ (s : State) (v : Word), Served s 0x20030 → v.toNat < 1024 → s.clk.vencUp = false →
    (∀ k, k ≠ 8 → bitAt v.toNat k = bitAt (s.rdA 0x20030) k) →
    exec (.clkRstWrite v) s = .next (s.wrA 0x20030 v.toNat)) ∧
  (∀ s : State, s.clk.cfgUp = true → s.clk.testHold = false → s.fuses.variant ≠ .e →
    exec .ringPortRelease s = .next (clkRstWrite (putBits (s.rdA 0x20030) 5 4 0) s)) ∧
  (∀ s : State, s.clk.fieldLink = true →
    exec .fieldLinkLoss s = .next { (outLinkLoss (posLinkDown s)).fire 0x3E0 with
      clk := { (outLinkLoss (posLinkDown s)).clk with fieldLink := false } }) ∧
  (∀ s : State, s.clk.fieldLink = false →
    exec .fieldLinkReturn s = .next (posLinkUp { s with clk := { s.clk with fieldLink := true } })) ∧
  (∀ (s : State) (v : Word), Served s 0x10050 → modeNow s ≠ 0 → modeNow s ≠ 7 →
    exec (.unitReset v) s = .next (s.log 0x020C)) ∧
  (∀ s : State, Served s 0x10050 → (modeNow s = 0 ∨ modeNow s = 7) → s.get CFG_URST.UNIT = 0 →
    exec (.unitReset 0x2000) s = .next ((resetErr (dropRederive 18 s)).set CFG_URST.UNIT 0x2000)) ∧
  (∀ (s : State) (u : Fin 14),
    exec (.unitResetDone u) s = .next (s.set CFG_URST.UNIT (putBits (s.get CFG_URST.UNIT) u.val u.val 0)))

/-- At the end of FUSE a good parity completes the shadow and enters HEADER at slot A; a parity error logs 0x020B and
enters SAFE. At the end of HEADER of slot B the header checks either fail the slot with their reason and record 0, or
switch the flash as the header asks and enter VERIFY. At the end of VERIFY a failed check fails the slot with reason
and record, but a CRC failure of a fast read retries the slot at low speed first; a good image enters CLOCKS and shows
its build, rollback and signed bits. When the PLLs have locked APPLY starts; a lock that takes too long aborts with
reason CLOCKS. The model's choices that it rests on: log entries 6, 13, 15, 19, 113. (R74, R78, R80, R81, R85, R88,
R102, R108, 03_startup_and_choja_image.md.) -/
def Obligations.LoaderFindsAnImage : Prop :=
  (∀ s : State, loaderAt s 0 = true → exec .loaderFuseDone s = .next (if s.fuses.parityOk
    then enterHeader 0 (deriveOut { s with cfg := { s.cfg with shadow := true } }) else enterSafe (s.log 0x020B))) ∧
  (∀ (s : State) (h : List Byte), loaderAt s 1 = true → s.cfg.slot = 1 →
    exec (.loaderHeaderDone h) s = .next (
      let r := headerCheck 1 (s.get CFG_SLOTBOFS.OFS) (natBytes h)
      if r = 0 then
        let t := (switchFlash (natBytes h) s).set CFG_STATUS.PHASE 2
        { t with cfg := { t.cfg with hdr := natBytes h } }
      else slotFail r 0 s)) ∧
  (∀ (s : State) (img : List Byte), loaderAt s 2 = true →
    exec (.loaderVerifyDone img) s = .next (
      let r := verifyCheck s (streamed (imgLen s.cfg.hdr) (natBytes img))
      if r.1 = 5 ∧ readFast s = true ∧ s.cfg.slow = false then
        enterHeader s.cfg.slot { s with cfg := { s.cfg with slow := true } }
      else if r.1 = 0 then imageGood (streamed (imgLen s.cfg.hdr) (natBytes img)) s
      else slotFail r.1 r.2 s)) ∧
  (∀ s : State, loaderAt s 3 = true → exec .loaderClocksLocked s =
    .next { s.set CFG_STATUS.PHASE 4 with cfg := { s.cfg with recIdx := 0 } }) ∧
  (∀ s : State, loaderAt s 3 = true → exec .loaderClocksTimeout s = .next (applyAbort 14 s.cfg.recIdx s))

/-- While APPLY takes records, a NOP only moves on; REGWRITE with a full mask outside the CLK window writes its word;
REGBLOCK writes consecutive words; BASIC puts the unit at the basic level and writes its pairs to the copies named;
TABLE writes its words to every copy named; WAIT holds the loader until its time ends; POLL reads at once and holds
the loader until the masked value matches; a POLL that times out is counted and logged with its index (0x0204), and
aborts with reason POLL when it is REQUIRED. A record whose target the variant does not have is skipped and counted.
The model's choices that it rests on: log entries 18, 19. (R87, R89, R90, R91, R92, R154,
03_startup_and_choja_image.md.) -/
def Obligations.LoaderAppliesRecords : Prop :=
  (∀ (s : State) (ty : Byte) (q : Bool), takesRecord s 4 = true → ty.toNat ≤ 7 → takesRecord s 3 = false →
    exec (.recordNop ty q) s = .next { s with cfg := { s.cfg with recIdx := s.cfg.recIdx + 1 } }) ∧
  (∀ (s : State) (q : Bool) (a v : Word), takesRecord s 4 = true → takesRecord s 3 = false →
    addrGone s.fuses.variant a.toNat = false → inClk a.toNat = false →
    exec (.recordRegwrite q a v 0xFFFFFFFF) s =
      .next (loadWrite a.toNat v.toNat { s with cfg := { s.cfg with recIdx := s.cfg.recIdx + 1 } })) ∧
  (∀ (s : State) (q : Bool) (a v m : Word), takesRecord s 4 = true → takesRecord s 3 = false →
    addrGone s.fuses.variant a.toNat = true →
    exec (.recordRegwrite q a v m) s =
      .next (skipRecord { s with cfg := { s.cfg with recIdx := s.cfg.recIdx + 1 } })) ∧
  (∀ (s : State) (q : Bool) (a : Word) (ws : List Word), takesRecord s 4 = true → takesRecord s 3 = false →
    (∀ k, k < ws.length → addrGone s.fuses.variant (a.toNat + 4 * k) = false) → inClk a.toNat = false →
    exec (.recordRegblock q a ws) s =
      .next (loadWords a.toNat (natWords ws) { s with cfg := { s.cfg with recIdx := s.cfg.recIdx + 1 } })) ∧
  (∀ (s : State) (q : Bool) (u i : Byte) (ps : List (Word × Word)), takesRecord s 4 = true → takesRecord s 3 = false →
    copyGone s.fuses.variant u.toNat i.toNat = false → u.toNat ≠ 3 →
    exec (.recordBasic q u i ps) s =
      .next ((ps.map (fun e => (e.1.toNat, e.2.toNat))).foldl (fun x e => basicPair u.toNat i.toNat e x)
        (loadWrite (unitBase u.toNat + 4) 0 { s with cfg := { s.cfg with recIdx := s.cfg.recIdx + 1 } }))) ∧
  (∀ (s : State) (q : Bool) (u tb i : Byte) (st : Word) (ws : List Word), takesRecord s 4 = true →
    takesRecord s 3 = false → copyGone s.fuses.variant u.toNat i.toNat = false →
    exec (.recordTable q u tb i st ws) s =
      .next ((namedCopies s.fuses.variant u.toNat i.toNat).foldl (fun x n =>
        loadWords (unitBase u.toNat + (unitCopies x.fuses.variant u.toNat).2 * n + tableOffset tb.toNat + 4 * st.toNat)
          (natWords ws) x) { s with cfg := { s.cfg with recIdx := s.cfg.recIdx + 1 } })) ∧
  (∀ (s : State) (us : Nat), takesRecord s 4 = true → takesRecord s 3 = false →
    exec (.recordWait us) s =
      .next { s with cfg := { s.cfg with recIdx := s.cfg.recIdx + 1, waiting := true } }) ∧
  (∀ s : State, loaderAt s 4 = true → exec .waitExpiry s = .next { s with cfg := { s.cfg with waiting := false } }) ∧
  (∀ (s : State) (q : Bool) (a m v : Word) (us : Nat), takesRecord s 4 = true → takesRecord s 3 = false →
    addrGone s.fuses.variant a.toNat = false →
    exec (.recordPoll q a m v us) s = .next (pollRead ⟨q, a.toNat, m.toNat, v.toNat⟩
      { s with cfg := { s.cfg with recIdx := s.cfg.recIdx + 1 } })) ∧
  (∀ (s : State) (p : PollSt), loaderAt s 4 = true → s.cfg.poll = some p →
    exec .pollRetry s = .next (pollRead p s) ∧
    exec .pollTimeout s =
      let t := (s.count CFG_SKIPPED.POLLTO).log 0x0204 [s.cfg.recIdx - 1]
      .next (if p.required then applyAbort 12 (s.cfg.recIdx - 1) t
        else { t with cfg := { t.cfg with poll := none } }))

/-- When the last record has been applied, the CRC of the image as re-read decides: equal, the loader enters ENTER;
different, it aborts with reason REREAD. ENTER with no MODE record, or one of STANDBY, ends the run: the phase is
DONE, DONE is set, CFG_LOADTIME holds the microseconds since the reset, and CFG_DONE fires. ENTER with another mode
requests it; when the request is refused 0x020D is logged and the run ends, otherwise the loader waits for the mode.
The model's choices that it rests on: log entries 19, 115. (R74, R93, R94, 03_startup_and_choja_image.md.) -/
def Obligations.LoaderEndsItsRun : Prop :=
  (∀ (s : State) (img : List Byte), takesRecord s 4 = true →
    exec (.loaderApplyDone img) s = .next (
      if imageCrc (streamed (imgLen s.cfg.hdr) (natBytes img)) = hdrField s.cfg.hdr 0xBC 4 then
        { s.set CFG_STATUS.PHASE 5 with cfg := { s.cfg with subLock := true } }
      else applyAbort 13 s.cfg.recIdx s)) ∧
  (∀ s : State, loaderAt s 5 = true → s.cfg.waiting = false → (s.cfg.modeRec = none ∨ s.cfg.modeRec = some 0) →
    ∃ t, exec .loaderEnter s = .next t ∧ t.get CFG_STATUS.PHASE = 6 ∧ t.flag CFG_STATUS.DONE = true ∧
      t.get CFG_LOADTIME.US = min ((s.elapsed - s.cfg.startAt) / 1000) (2 ^ 32 - 1) ∧
      t.fired = s.fired ++ [⟨0x004, s.now, 0⟩] ∧ t.clk = s.clk ∧ t.glb = s.glb ∧
      (∀ a, a ≠ CFG_STATUS.reg.adr 0 → a ≠ CFG_LOADTIME.US.adr 0 → t.rdA a = s.rdA a)) ∧
  (∀ (s : State) (m : Nat), loaderAt s 5 = true → s.cfg.waiting = false → s.cfg.modeRec = some m → m ≠ 0 →
    exec .loaderEnter s = .next (
      if (modeRefusal s m).isSome then loaderEnd ((requestMode m 0 s).log 0x020D)
      else { requestMode m 0 s with cfg := { (requestMode m 0 s).cfg with waiting := true } }))

/-- In SERVICE the key written to CFG_FUNLOCK unlocks the flash, and CFG_FSPEED takes its word; outside SERVICE
CFG_FSPEED is refused with 0x0207. An unlocked command that may run sets BUSY and sends its sequence to the flash; one
that may not sets ERR and logs 0x0207; any write of CFG_FCMD while one runs logs 0x0208. FLOOR and KEYHASH need the
fuse supply. The end of a command clears BUSY; a failed program or erase sets ERR and logs 0x0209; VERIFYA and VERIFYB
leave their reason in CFG_FRES; FLOOR and KEYHASH change the fuses. (R77, R85, R102, R104, R105, R106, R107,
03_startup_and_choja_image.md.) -/
def Obligations.FlashCommandsRun : Prop :=
  (∀ s : State, Served s 0x10080 → inService s = true → exec (.flashUnlock 0x666C7368) s =
    .next { s with cfg := { s.cfg with unlocked := true, flashReset := true } }) ∧
  (∀ (s : State) (v : Word), Served s 0x10040 → inService s = true → s.flag CFG_LEVEL.EXPERT = true →
    exec (.cfgFspeedWrite v) s = .next (codedWrite 0x10040 v.toNat s)) ∧
  (∀ (s : State) (v : Word), Served s 0x10040 → inService s = false → s.flag CFG_LEVEL.EXPERT = true →
    exec (.cfgFspeedWrite v) s = .next (s.log 0x0207)) ∧
  (∀ s : State, Served s 0x10084 → s.flag CFG_FCMD.BUSY = false → inService s = true → s.cfg.unlocked = true →
    s.cfg.flashReset = false →
    (flashMay 1 false s = true → exec .flashRead s =
      .next (flashSends 1 { s.set CFG_FCMD.BUSY 1 with cfg := { s.cfg with flashOp := 1 } })) ∧
    (flashMay 2 false s = true → exec .flashProgram s =
      .next (flashSends 2 { s.set CFG_FCMD.BUSY 1 with cfg := { s.cfg with flashOp := 2 } })) ∧
    (flashMay 1 false s = false → exec .flashRead s = .next ((s.set CFG_FCMD.ERR 1).log 0x0207)) ∧
    exec .flashErase4k s = .next (flashSends 3 { s.set CFG_FCMD.BUSY 1 with cfg := { s.cfg with flashOp := 3 } }) ∧
    exec .flashErase64k s = .next (flashSends 4 { s.set CFG_FCMD.BUSY 1 with cfg := { s.cfg with flashOp := 4 } }) ∧
    exec .flashVerifya s = .next (flashSends 5 { s.set CFG_FCMD.BUSY 1 with cfg := { s.cfg with flashOp := 5 } }) ∧
    exec .flashVerifyb s = .next (flashSends 6 { s.set CFG_FCMD.BUSY 1 with cfg := { s.cfg with flashOp := 6 } }) ∧
    (flashMay 8 true s = true → exec (.flashFloor true) s =
      .next { s.set CFG_FCMD.BUSY 1 with cfg := { s.cfg with flashOp := 8 } }) ∧
    exec (.flashFloor false) s = .next ((s.set CFG_FCMD.ERR 1).log 0x0207) ∧
    (flashMay 9 true s = true → exec (.flashKeyhash true) s =
      .next { s.set CFG_FCMD.BUSY 1 with cfg := { s.cfg with flashOp := 9 } })) ∧
  (∀ s : State, Served s 0x10084 → s.flag CFG_FCMD.BUSY = true →
    exec .flashErase4k s = .next (s.log 0x0208) ∧ exec (.flashFloor true) s = .next (s.log 0x0208)) ∧
  (∀ (s : State) (d : List Byte), s.flag CFG_FCMD.BUSY = true →
    (s.cfg.flashOp = 3 → exec (.flashCmdDone d true) s =
      .next ((({ s with cfg := { s.cfg with flashOp := 0 } }.set CFG_FCMD.ERR 1).log 0x0209).set CFG_FCMD.BUSY 0)) ∧
    (s.cfg.flashOp = 5 → exec (.flashCmdDone d false) s =
      .next (({ s with cfg := { s.cfg with flashOp := 0 } }.set CFG_FRES.REASON
        (flashVerify 0 (natBytes d) { s with cfg := { s.cfg with flashOp := 0 } })).set CFG_FCMD.BUSY 0)) ∧
    (s.cfg.flashOp = 8 → exec (.flashCmdDone d false) s =
      .next ({ s with
        cfg := { s.cfg with flashOp := 0 }
        fuses := { s.fuses with floor := s.get CFG_FARG.ARG } }.set CFG_FCMD.BUSY 0)))

/-- A served write of GLB_MODE with a mode that R126 refuses stores the reason, counts the refusal, fires GLB_REFUSED
(0x003), logs 0x0120 with the mode, the reason and the source, and changes nothing else. A request for the mode in
effect, or for the target of the change in progress, changes nothing. An accepted request sets BUSY and MODE; from
STANDBY, or from SERVICE, the change goes straight to ENTER with that mode. (R116, R117, R120, R126,
04_operating_modes.md.) -/
def Obligations.ModeRequests : Prop :=
  (∀ (s : State) (v : Word) (r : Nat), Served s 0x40 → modeRefusal s (v.toNat % 8) = some r →
    exec (.modeRequestWrite v) s =
      .next ((((s.set GLB_MODESTAT.REASON r).count GLB_MODESTAT.REFUSALS).fire 0x003).log 0x0120
        [v.toNat % 8, r, 0])) ∧
  (∀ (s : State) (v : Word), Served s 0x40 → modeRefusal s (v.toNat % 8) = none →
    (s.flag GLB_MODE.BUSY = true ∨ v.toNat % 8 = modeNow s) → exec (.modeRequestWrite v) s = .next s) ∧
  (∀ (s : State) (v : Word), Served s 0x40 → modeRefusal s (v.toNat % 8) = none → s.flag GLB_MODE.BUSY = false →
    v.toNat % 8 ≠ modeNow s → timedMode (modeNow s) = false →
    exec (.modeRequestWrite v) s =
      let t := ((s.set GLB_MODE.BUSY 1).set GLB_MODE.MODE (v.toNat % 8)).set GLB_MODESTAT.PHASE 3
      .next { t with glb := { t.glb with enterMode := v.toNat % 8 } })

/-- In DRAIN, when every stream has reached its boundary, the controller goes to ENTER for STANDBY. The drain timer,
and a write of GLB_DRAIN with FORCE set, truncate the streams that are late; when some were, GLB_TRUNC fires and
0x0121 is logged with the number of items truncated. At the end of ENTER the outputs change, SERVICE ends where it was
left, streams open, the mode's machinery is armed, GLB_MODECHG (0x001) fires, and the change is over when the mode
entered is the target. The model's choices that it rests on: log entries 44, 81, 115. (R117, R119, R121, R132,
04_operating_modes.md.) -/
def Obligations.ModeChangesRun : Prop :=
  (∀ s : State, s.get GLB_MODESTAT.PHASE = 2 → lateStreams s = [] →
    exec .drainComplete s = .next { s.set GLB_MODESTAT.PHASE 3 with glb := { s.glb with enterMode := 0 } } ∧
    exec .drainTimeout s = .next { s.set GLB_MODESTAT.PHASE 3 with glb := { s.glb with enterMode := 0 } }) ∧
  (∀ s : State, s.get GLB_MODESTAT.PHASE = 2 → lateStreams s ≠ [] →
    exec .drainTimeout s =
      let t := (lateStreams s).foldl (fun t st => truncateStream st t) s
      let u := (t.fire 0x002).log 0x0121 [t.get GLB_TRUNCCNT.TRUNCATED - s.get GLB_TRUNCCNT.TRUNCATED]
      .next { u.set GLB_MODESTAT.PHASE 3 with glb := { u.glb with enterMode := 0 } }) ∧
  (∀ (s : State) (v : Word), Served s 0x48 → touchesBasic 0x48 = false →
    exec (.drainForce v) s = .next (drainExpire (codedWrite 0x48 (v.toNat ||| 2 ^ 31) s))) ∧
  (∀ s : State, s.get GLB_MODESTAT.PHASE = 3 →
    exec .modeEnterDone s =
      let m := s.glb.enterMode
      let a := if modeNow s = 7 ∧ m ≠ 7 then serviceExit (changeOutputs m s) else changeOutputs m s
      let b := if a.get GLB_MODE.MODE = m then (a.set GLB_MODESTAT.PHASE 0).set GLB_MODE.BUSY 0 else a
      let c := armMode m (enterStreams m b)
      .next (enterReached { c.fire 0x001 with glb := { c.glb with enterMode := a.get GLB_MODE.MODE } }))

/-- A whole-dword write of the host to BAR0 that the function serves: while the core is in reset it only adds one to
HBR_RSTACC; before DONE, outside the CFG window, it only adds one to CFG_EARLYWR, and logs 0x020A the first time; to
absent space it only adds one to GLB_ABSENTWR, and the first since the count was zero stores the address and logs
0x0101 with the address and what is absent. While memory requests are not served the write is an unsupported request.
A dword with a byte enable clear is discarded, counted and logged as 0x0E0A. The model's choices that it rests on: log
entries 51, 119. (R98, R142, R549, R550, 05_register_conventions_and_address_map.md, 16_host_bridge.md.) -/
def Obligations.AbsentAndEarlyWrites : Prop :=
  (∀ (s : State) (a : BitVec 26) (v : Word), hostOpen s = true → a.toNat % 4 = 0 → s.clk.coreUp = false →
    exec (.registerWrite false a [(v, 15)] false) s = .next (s.count HBR_RSTACC.COUNT)) ∧
  (∀ (s : State) (a : BitVec 26) (v : Word), hostOpen s = true → a.toNat % 4 = 0 → s.clk.coreUp = true →
    s.flag CFG_STATUS.DONE = false → unitAt a.toNat ≠ some 2 →
    exec (.registerWrite false a [(v, 15)] false) s =
      let t := s.count CFG_EARLYWR.COUNT
      .next (if s.cfg.earlyLogged then t else ({ t with cfg := { t.cfg with earlyLogged := true } }).log 0x020A)) ∧
  (∀ (s : State) (a : BitVec 26) (v : Word) (k : Nat), hostOpen s = true → a.toNat % 4 = 0 → s.clk.coreUp = true →
    s.flag CFG_STATUS.DONE = true → absentAt s.fuses.variant a.toNat = some k →
    exec (.registerWrite false a [(v, 15)] false) s =
      let t := s.count GLB_ABSENTWR.COUNT
      .next (if s.get GLB_ABSENTWR.COUNT = 0 then (t.set GLB_ABSENTADR.ADDR a.toNat).log 0x0101 [a.toNat, k] else t)) ∧
  (∀ (s : State) (a : BitVec 26) (v : Word), hostOpen s = false →
    exec (.registerWrite false a [(v, 15)] false) s = .next (unsupported 0x40 true true s)) ∧
  (∀ (s : State) (a : BitVec 26) (v : Word) (be : BitVec 4), hostOpen s = true → a.toNat % 4 = 0 → be ≠ 15 →
    exec (.registerWrite false a [(v, be)] false) s =
      .next ((s.count HBR_ACCCNT.BAD).log 0x0E0A [a.toNat, be.toNat])) ∧
  (∀ (s : State) (b : Bool) (a : BitVec 26) (ws : List (Word × BitVec 4)), hostOpen s = true →
    exec (.registerWrite b a ws true) s = .next ((aerSet 12 s).log 0x0E0C [0]))

/-- For a register that has no behaviour of its own, a served write of the host leaves in it the written bits where it
is RW or RWB, where it is RWX at the expert level of its unit, and the old bits elsewhere, with the W1C bits written
as 1 cleared; every other register that the drop count does not use is unchanged. At the basic level an RWX bit
written with another value than it holds counts one in GLB_XDROP with the unit and address. BASIC_WRITE is such a
write, and a write that touches RWB fields at the basic level starts the re-derivation of its unit. The model's
choices that it rests on: log entries 25, 27, 29, 107. (R16, R141, R145, R152,
05_register_conventions_and_address_map.md.) -/
def Obligations.RegistersTakeTheirCodes : Prop :=
  (∀ (s : State) (a : BitVec 26) (v : Word) (r : RegRow) (i j u : Nat), Served s a.toNat → a.toNat % 4 = 0 →
    rowAt a.toNat = some (r, i, j) → unitAt a.toNat = some u → unitReg u r.base i j a.toNat v.toNat s =
      codedWrite a.toNat v.toNat s → a.toNat ≠ unitBase u + 4 → r.rwb = 0 →
    exec (.registerWrite false a [(v, 15)] false) s = .next (codedWrite a.toNat v.toNat s)) ∧
  (∀ (s : State) (a v u : Nat) (r : RegRow) (i j : Nat), rowAt a = some (r, i, j) → unitAt a = some u →
    a < 2 ^ 26 → s.get GLB_XDROP.COUNT ≠ 0 →
    (codedWrite a v s).rdA a = codedWord r (unitExpert s u) (s.rdA a) v % 2 ^ 32 ∧
    (∀ b, b ≠ a → b ≠ GLB_XDROP.COUNT.adr 0 → b ≠ GLB_XDROPADR.ADDR.adr 0 → (codedWrite a v s).rdA b = s.rdA b)) ∧
  (∀ (s : State) (a v u : Nat) (r : RegRow) (i j : Nat), rowAt a = some (r, i, j) → unitAt a = some u →
    expertDrop a v s = if unitExpert s u = false ∧ v &&& r.rwx ≠ s.rdA a &&& r.rwx then countXdrop a u s else s) ∧
  (∀ (s : State) (a : BitVec 26) (v : Word), Served s (a.toNat / 4 * 4) →
    exec (.basicWrite a v) s = .next (regOp (a.toNat / 4 * 4) v.toNat s)) ∧
  (∀ (s : State) (u a v old : Nat), touchesBasic a = true → unitExpert s u = false → basicTaken a v old s = true →
    running s u = none →
    afterBasic u a v old s = restartRederive u s)

/-- A served write of EXPERT = 1 to a unit that has no re-derivation under way sets its level to expert and changes
nothing else; while one runs at the basic level, the change waits. A write of EXPERT = 0 to a unit that was at the
basic level with nothing running leaves the level basic; to one that was expert it starts the re-derivation. When a
re-derivation with no later basic write ends, its derived bits take effect and it runs no longer. The model's choices
that it rests on: log entries 29, 117. (R137, R145, R148, R149, R151, R157,
05_register_conventions_and_address_map.md.) -/
def Obligations.LevelsAndDerivation : Prop :=
  (∀ (s : State) (u : Fin 18), Served s (unitBase (u.val + 1) + 4) →
    (derives (u.val + 1) = false ∨ running s (u.val + 1) = none ∨ unitExpert s (u.val + 1) = true) →
    exec (.expertSet u) s = .next (s.wrA (unitBase (u.val + 1) + 4) 1)) ∧
  (∀ (s : State) (u : Fin 18), Served s (unitBase (u.val + 1) + 4) → derives (u.val + 1) = true →
    (running s (u.val + 1)).isSome = true → unitExpert s (u.val + 1) = false →
    exec (.expertSet u) s = .next { s with glb := { s.glb with levelWait := s.glb.levelWait ++ [u.val + 1] } }) ∧
  (∀ (s : State) (u : Fin 18), Served s (unitBase (u.val + 1) + 4) → running s (u.val + 1) = none →
    unitExpert s (u.val + 1) = false → exec (.expertClear u) s = .next (s.wrA (unitBase (u.val + 1) + 4) 0)) ∧
  (∀ (s : State) (u : Fin 18), Served s (unitBase (u.val + 1) + 4) → unitExpert s (u.val + 1) = true →
    derives (u.val + 1) = true → u.val ≠ 3 →
    exec (.expertClear u) s = .next (restartRederive (u.val + 1) (s.wrA (unitBase (u.val + 1) + 4) 0))) ∧
  (∀ (s : State) (u : Fin 18) (r : Rederive), running s (u.val + 1) = some r → r.due = false →
    s.glb.levelWait = [] →
    exec (.rederiveDone u) s = .next
      (let t := applyDerived (u.val + 1) r.words { s with glb := { s.glb with
         rederive := s.glb.rederive.filter (fun x => x.unit != u.val + 1) } }
       if levelWaits t (u.val + 1) then replayHeld (u.val + 1) (toExpert (u.val + 1)
         { t with glb := { t.glb with levelWait := t.glb.levelWait.filter (· != u.val + 1) } }) else t))

/-- On an empty queue one step lets 2 ns elapse (the model's own tick, log entry 1): while CLK_TIME runs the time base
advances by the increment times (1 + applied rate), rounded, modulo 2^64 s; nothing else changes. RATE_SLEW_STEP moves
the applied rate toward the target by at most the slew limit and ends the slew at the target. COMPARE_FIRE at or after
the programmed time fires the compare; with PERIOD 0 it disables it, otherwise it advances past the present. A read of
TIM_SEC latches the other time words, and a read of a capture's seconds clears its VALID. The model's choices that it
rests on: log entries 8, 68. (R158, R159, R160, R170, R172, R173, R174, 06_time_base_and_ptp.md.) -/
def Obligations.TimeBaseTicks : Prop :=
  (∀ s : State, s.pending = [] → s.clk.timeUp = true →
    step s = .next { s with
      elapsed := s.elapsed + 2
      now := (s.now + (roundDiv (((s.get TIM_INCI.INT * 2 ^ 32 + s.get TIM_INCF.FRAC : Nat) : Int) *
        (16000000000 + signedOf 32 (s.get TIM_APPLIED.RATE))) 16000000000).toNat) % (2 ^ 64 * 1000000000 * 2 ^ 32) }) ∧
  (∀ s : State, s.pending = [] → s.clk.timeUp = false → step s = .next { s with elapsed := s.elapsed + 2 }) ∧
  (∀ (s : State) (st : Int) (k : Nat), s.tim.slew = some (st, k) →
    (targetRate s - st).natAbs ≤ (k + 1) * max 1 (s.get TIM_SLEW.SLEW) * 16 / 1000 →
    exec .rateSlewStep s = .next (({ s with tim := { s.tim with slew := none } }).set TIM_APPLIED.RATE
      (codeOf 32 (targetRate s)))) ∧
  (∀ (s : State) (st : Int) (k : Nat), s.tim.slew = some (st, k) →
    ((k + 1) * max 1 (s.get TIM_SLEW.SLEW) * 16 / 1000 : Nat) < (targetRate s - st).natAbs → st < targetRate s →
    exec .rateSlewStep s = .next (({ s with tim := { s.tim with slew := some (st, k + 1) } }).set TIM_APPLIED.RATE
      (codeOf 32 (st + ((k + 1) * max 1 (s.get TIM_SLEW.SLEW) * 16 / 1000 : Nat))))) ∧
  (∀ (s : State) (k : Fin 8), bitAt (s.get TIM_CMPEN.EN) k.val = true → compareTime s k.val ≤ netNs s →
    s.get TIM_CMPPER.PERIOD k.val = 0 →
    exec (.compareFire k) s = .next ((s.fire (0x018 + k.val)).set TIM_CMPEN.EN
      (putBits (s.get TIM_CMPEN.EN) k.val k.val 0))) ∧
  (∀ s : State, Served s 0x100100 → exec .timSecRead s = .next
    ((((s.set TIM_SEC.SEC (s.nowNs / 1000000000 / 2 ^ 32) 1).set TIM_NS.NS (s.nowNs % 1000000000)).set TIM_FRAC.FRAC
      (s.now % 2 ^ 32)).emit (.readData 0x100100 (s.nowNs / 1000000000 % 2 ^ 32)))) ∧
  (∀ (s : State) (k : Fin 8), Served s (TIM_CAPTSECLO.reg.adr k.val) →
    exec (.captureSecRead k) s = .next ((s.emit (.readData (TIM_CAPTSECLO.reg.adr k.val)
      (s.get TIM_CAPTSECLO.SEC k.val))).set TIM_CAPTST.VALID 0 k.val))

/-- At the expert level of TIM a served STEPCMD with GO, or with FLOAD, stops the servo and leaves the request waiting
with BUSY set; at the basic level it is an expert drop. STEP_APPLY without an armed step, or below time 0, refuses it:
one more in STEPREF, 0x0401, and the time stays; FREQ_LOAD_APPLY without an armed load likewise. An applied load puts
the clamped target in effect at once and disarms. REARM in STANDBY, RELAY or SERVICE arms one step and one load and
enters UNSET; in another mode it only logs 0x0402 with the mode. A write of TIM_ADJ at the expert level stops the
servo and starts a slew to its value, and HOSTLOCK with the servo stopped chooses between TRACKING and LOCKED. (R167,
R168, R169, R170, R171, R199, 06_time_base_and_ptp.md.) -/
def Obligations.TimeStepsAndLoads : Prop :=
  (∀ (s : State) (v : Word), Served s 0x100130 → s.flag TIM_LEVEL.EXPERT = true →
    exec (.stepGo v) s = .next (stepCmdWrite (v.toNat ||| 1) s) ∧
    exec (.freqLoadGo v) s = .next (stepCmdWrite (v.toNat ||| 2) s)) ∧
  (∀ s : State, s.flag TIM_LEVEL.EXPERT = true → ∃ t, stepCmdWrite 1 s = t ∧ t.flag TIM_STEPCMD.BUSY = true ∧
    t.flag TIM_STAT.SERVO = false ∧ t.now = s.now ∧ t.tim.loadReq = s.tim.loadReq ∧ t.tim.stepReq.isSome = true) ∧
  (∀ (s : State) (r : Bool × Int), s.tim.stepReq = some r → s.flag TIM_STAT.STEPARM = false →
    ∃ t, exec .stepApply s = .next t ∧ t.now = s.now ∧ t.tim.stepReq = none ∧
      t.get TIM_STAT.STEPREF = min (s.get TIM_STAT.STEPREF + 1) (2 ^ (TIM_STAT.STEPREF.hi + 1 - TIM_STAT.STEPREF.lo) - 1)) ∧
  (∀ s : State, s.tim.loadReq = true → s.flag TIM_STAT.FLOADARM = false →
    exec .freqLoadApply s = .next (((showBusy { s with tim := { s.tim with loadReq := false } }).count
      TIM_STAT.STEPREF).log 0x0401 [1])) ∧
  (∀ s : State, s.tim.loadReq = true → s.flag TIM_STAT.FLOADARM = true → timState s ≠ 1 →
    exec .freqLoadApply s =
      let t := showBusy { s with tim := { s.tim with loadReq := false } }
      .next ((({ t with tim := { t.tim with slew := none } }).set TIM_APPLIED.RATE (codeOf 32 (targetRate t))).set
        TIM_STAT.FLOADARM 0)) ∧
  (∀ (s : State) (v : Word), Served s 0x100044 → [0, 6, 7].contains (modeNow s) = true →
    exec (.timeRearm v) s =
      let t := (s.set TIM_STAT.STEPARM 1).set TIM_STAT.FLOADARM 1
      .next (requestEpoch (enterTim 0 { t with tim := { t.tim with fresh := false, prev := none, panicRun := 0 } }))) ∧
  (∀ (s : State) (v : Word), Served s 0x100044 → [0, 6, 7].contains (modeNow s) = false →
    exec (.timeRearm v) s = .next (s.log 0x0402 [modeNow s])) ∧
  (∀ (s : State) (v : Word), Served s 0x100118 → s.flag TIM_LEVEL.EXPERT = true →
    exec (.adjWrite v) s = .next (writeAdj (signedOf 32 v.toNat) (s.set TIM_STAT.SERVO 0))) ∧
  (∀ (s : State) (v : Word), Served s 0x100040 → (codedWrite 0x100040 v.toNat s).flag TIM_STAT.SERVO = true →
    exec (.hostlockWrite v) s = .next (codedWrite 0x100040 v.toNat s)) ∧
  (∀ s : State, Served s 0x100404 → exec .rawPop s = .next (setRaw (s.tim.raw.drop 1) s))

/-- When the seconds change TIM_PPS (0x010) fires once for the new second; with the output off nothing else changes.
The end of the pulse drops PPS_OUT. An edge of PPS_IN of the polarity chosen, at least 500 ms after the last, is
counted, fires TIM_PPSIN (0x011) and makes a raw record; one that comes sooner counts as noise; an edge of the other
polarity does nothing. A PPS master that sees no edge enters HOLDOVER and logs 0x040C. A slave without samples enters
HOLDOVER. When holdover outlasts its trust UNSYNC is set. TIM_CONFIG_APPLY puts the words of TIM_ROLE and TIM_PTPCFG
in effect. (R165, R166, R175, R176, R185, R195, R197, R201, 06_time_base_and_ptp.md.) -/
def Obligations.PulsesPerSecond : Prop :=
  (∀ s : State, s.nowNs / 1000000000 ≠ s.tim.second → s.flag TIM_PPSCFG.OUTEN = false →
    exec .ppsSecond s = .next (({ s with tim := { s.tim with second := s.nowNs / 1000000000 } }).fire 0x010)) ∧
  (∀ s : State, s.nowNs / 1000000000 = s.tim.second → exec .ppsSecond s = .next s) ∧
  (∀ s : State, s.tim.ppsHigh = true →
    exec .ppsOutEnd s = .next (({ s with tim := { s.tim with ppsHigh := false } }).emit (.ppsOut false))) ∧
  (∀ (s : State) (r : Bool) (stamp : Nat), r ≠ s.flag TIM_PPSCFG.INPOL → s.tim.ppsAt = none → isMaster s = false →
    ∃ t, exec (.ppsInEdge r stamp) s = .next t ∧
      t = rawPush (rawWords 0 3 0 0 0 stamp 0 0 [])
        (({ s with tim := { s.tim with ppsAt := some s.elapsed } }.count TIM_PPSCNT.EDGES).fire 0x011)) ∧
  (∀ (s : State) (r : Bool) (stamp t0 : Nat), r ≠ s.flag TIM_PPSCFG.INPOL → s.tim.ppsAt = some t0 →
    s.elapsed < t0 + 500000000 → exec (.ppsInEdge r stamp) s = .next (s.count TIM_PPSCNT.NOISE)) ∧
  (∀ (s : State) (r : Bool) (stamp : Nat), r = s.flag TIM_PPSCFG.INPOL → exec (.ppsInEdge r stamp) s = .next s) ∧
  (∀ s : State, isMaster s = true → srcPps s = true → (timState s = 1 ∨ timState s = 2 ∨ timState s = 3) →
    exec .ppsInTimeout s = .next ((enterTim 4 s).log 0x040C)) ∧
  (∀ s : State, isMaster s = false → timState s ≠ 0 → timState s ≠ 4 →
    exec .syncTimeout s = .next (enterTim 4 { s with tim := { s.tim with prev := none, waitSync := none } })) ∧
  (∀ s : State, timState s = 4 → exec .holdoverTrustExpiry s =
    .next (setUnsync { s with tim := { s.tim with trustOver := true } })) ∧
  (∀ s : State, s.flag TIM_LEVEL.EXPERT = true → s.rdA (TIM_ROLE.reg.adr 0) = s.tim.role →
    exec .timConfigApply s = .next { s with tim := { s.tim with
      role := s.rdA (TIM_ROLE.reg.adr 0)
      ptp := s.rdA (TIM_PTPCFG.reg.adr 0) } })

/-- A PTP message of the type named, taken on a forwarding ring port in the domain in effect from another clock, acts:
Sync and Follow_Up make a sample at a slave of their sender, Delay_Req is answered by an E2E master, Delay_Resp and
the Pdelay responses complete a delay, Pdelay_Req is answered in P2P, Announce feeds the selection of the master. A
frame with a bad FCS is only counted in TIM_PTPERR. A foreign master that times out leaves the table and the selection
is made again. The intervals of a master, a slave and a port send their message and step its sequence number. The
model's choices that it rests on: log entries 83, 85, 87, 88. (R182, R183, R186, R187, R188, R189, R191,
06_time_base_and_ptp.md.) -/
def Obligations.PtpMessages : Prop :=
  (∀ (s : State) (p : Fin 2) (f : List Byte) (k st tx : Nat) (fu : Bool),
    let m := (frameBodyOf (natBytes f)).drop k
    (PtpHeard s p.val 0 (natBytes f) k → exec (.syncReceived p f st) s = .next (syncIn p.val st m s)) ∧
    (PtpHeard s p.val 8 (natBytes f) k → exec (.followUpReceived p f) s = .next (followIn p.val m s)) ∧
    (PtpHeard s p.val 1 (natBytes f) k → exec (.delayReqReceived p f st) s = .next (delayReqIn p.val st m s)) ∧
    (PtpHeard s p.val 9 (natBytes f) k → exec (.delayRespReceived p f) s = .next (delayRespIn p.val m s)) ∧
    (PtpHeard s p.val 2 (natBytes f) k → exec (.pdelayReqReceived p f st tx) s = .next (pdelayReqIn p.val st tx m s)) ∧
    (PtpHeard s p.val (if fu then 10 else 3) (natBytes f) k →
      exec (.pdelayRespReceived p f st fu) s = .next (pdelayRespIn p.val st m s)) ∧
    (PtpHeard s p.val 11 (natBytes f) k → exec (.announceReceived p f) s = .next (announce p.val m s))) ∧
  (∀ (s : State) (p : Fin 2) (f : List Byte) (k st : Nat), ringPort s p.val = true → ringState s p.val = 3 →
    ptpOffset (natBytes f) = some k → fcsGood (natBytes f) = false →
    exec (.syncReceived p f st) s = .next (s.count TIM_PTPERR.COUNT)) ∧
  (∀ (s : State) (k : Fin 4), exec (.foreignMasterTimeout k) s =
    .next (reselect { s with tim := { s.tim with foreign := s.tim.foreign.eraseIdx k.val } })) ∧
  (∀ (s : State) (t0 t1 : Nat), isMaster s = true → mayOriginate s = true →
    ∃ t, exec (.syncInterval t0 t1) s = .next t ∧
      t = (let u := syncOut 1 t1 (syncOut 0 t0 s)
           { u with tim := { u.tim with syncSeq := (u.tim.syncSeq + 1) % 65536 } })) ∧
  (∀ s : State, isMaster s = true → mayOriginate s = true → ringState s 0 ≠ 3 → ringState s 1 ≠ 3 →
    exec .announceInterval s = .next { s with tim := { s.tim with annSeq := (s.tim.annSeq + 1) % 65536 } }) ∧
  (∀ (s : State) (st : Nat), isMaster s = false → s.tim.master.isSome = true → peerDelay s = false →
    mayOriginate s = true → s.get TIM_STAT.SRCPORT < 2 → ringState s (s.get TIM_STAT.SRCPORT) = 3 →
    exec (.delayReqInterval st) s =
      let p := s.get TIM_STAT.SRCPORT
      let m := ptpHead s p 1 44 0 0 s.tim.delSeq 1 127 ++ stampTime (txStamp s p st)
      let t := rawMsg 1 p m (txStamp s p st) (ptpSend p false true m s)
      .next { t with tim := { t.tim with delSeq := (t.tim.delSeq + 1) % 65536, delAt := some (txStamp s p st) } }) ∧
  (∀ (s : State) (p : Fin 2) (st : Nat), ringPort s p.val = true → peerDelay s = true → mayOriginate s = true →
    2 ≤ ringState s p.val →
    exec (.pdelayInterval p st) s =
      let u := s.ptpPort p.val
      let m := ptpHead s p.val 2 54 0 0 u.pseq 5 127 ++ stampTime (txStamp s p.val st) ++ List.replicate 10 0
      .next ((rawMsg 1 p.val m (txStamp s p.val st) (ptpSend p.val true true m s)).setPtpPort p.val
        { u with pseq := (u.pseq + 1) % 65536, reqAt := some (txStamp s p.val st), resp := none }))

/-- What a receiver noticed is counted first. A block on a lane that is OFF, DEEP or in BACKOFF does nothing more. A
TRAIN block whose CHECK fails adds one to TRAINBAD and breaks the runs of blocks; in BOND a good one stores the
partner's fields and sets LOCK. A timeout of SPEED or EQUALIZE fails the lane for reason 2, of DETECT for reason 1
before lock and 2 after it: TRNFAIL takes the state and the reason and counts, BACKOFFK grows to at most 15, the lane
is in BACKOFF, and the first failure of a run logs 0x0501. The end of the back-off starts DETECT; the early exit does
so only after a failure for want of a partner (reason 1). A switch of rate that ends puts the selected rate in effect
and starts EQUALIZE. A trial of EQUALIZE below the best leaves the best preset and requests the next. Loss of lock on
a lane that is not LINKED or QUIET only counts, clears LOCK and breaks the runs. The model's choices that it rests on:
log entry 98. (R215, R217, R218, R219, R223, R226, R227, 07_camera_lanes_physical.md.) -/
def Obligations.LaneTraining : Prop :=
  (∀ (s : State) (n : Fin 16) (b : List Byte) (inv : Bool) (nt : LinkNote), laneExists (noteLane nt s) n.val = true →
    [0, 8, 10].contains (laneState (noteLane nt s) n.val) = true →
    exec (.trainReceived n b inv nt) s = .next (noteLane nt s)) ∧
  (∀ (s : State) (n : Fin 16) (b : List Nat) (inv : Bool) (nt : LinkNote), laneExists (noteLane nt s) n.val = true →
    [1, 2, 3, 4, 5, 6, 7, 9].contains (laneState (noteLane nt s) n.val) = true → (∀ x ∈ b, x < 256) →
    byteAt b 0 = 0x55 → crc8 (sliceOf b 0 7) ≠ byteAt b 7 → 8 ≤ b.length →
    exec (.trainReceived n (b.map (BitVec.ofNat 8)) inv nt) s =
      .next (breakRuns n.val ((noteLane nt s).count LNP_TYPECNT.TRAINBAD n.val))) ∧
  (∀ (s : State) (n : Fin 16) (b : List Nat) (inv : Bool) (nt : LinkNote), laneExists (noteLane nt s) n.val = true →
    laneState (noteLane nt s) n.val = 4 → (∀ x ∈ b, x < 256) →
    byteAt b 0 = 0x55 → crc8 (sliceOf b 0 7) = byteAt b 7 → 8 ≤ b.length →
    exec (.trainReceived n (b.map (BitVec.ofNat 8)) inv nt) s =
      .next (storePartner n.val b ((noteLane nt s).set LNP_STAT.LOCK 1 n.val))) ∧
  (∀ (s : State) (n : Fin 16) (lock : Bool), laneExists s n.val = true →
    (laneState s n.val = 2 ∨ laneState s n.val = 3 ∨ (laneState s n.val = 1 ∧ lock = true)) →
    exec (.trainTimeout n lock) s = .next (trainFail n.val 2 s)) ∧
  (∀ (s : State) (n : Fin 16), laneExists s n.val = true → laneState s n.val = 1 → s.flag LNP_STAT.LOCK n.val = false →
    exec (.trainTimeout n false) s = .next (trainFail n.val 1 s)) ∧
  (∀ (s : State) (n : Fin 16) (r : Fin 8),
    let k := s.get LNP_STAT.BACKOFFK n.val
    let t := trainFail n.val r.val s
    laneState t n.val = 10 ∧ t.get LNP_TRNFAIL.REASON n.val = r.val ∧
      t.get LNP_TRNFAIL.STATE n.val = laneState s n.val ∧ t.get LNP_STAT.BACKOFFK n.val = min 15 (k + 1)) ∧
  (∀ (s : State) (n : Fin 16), laneExists s n.val = true → laneState s n.val = 10 →
    exec (.backoffEnd n) s = .next (startDetect n.val s) ∧
    (s.get LNP_TRNFAIL.REASON n.val = 1 → exec (.backoffEarlyExit n) s = .next (startDetect n.val s)) ∧
    (s.get LNP_TRNFAIL.REASON n.val ≠ 1 → exec (.backoffEarlyExit n) s = .next s)) ∧
  (∀ (s : State) (n : Fin 16), laneExists s n.val = true → quadHeld s n.val = false → s.get LNP_CFG.RATEMAX n.val ≠ 0 →
    laneState (startDetect n.val s) n.val = 1) ∧
  (∀ (s : State) (n : Fin 16), laneExists s n.val = true → laneState s n.val = 2 → (s.lane n.val).switching = true →
    (s.lane n.val).selOffer ≠ 1 →
    exec (.rateSwitchDone n) s = .next (enterTraining n.val 3 (deriveEq n.val (s.lane n.val).selOffer
      (s.set LNP_STAT.RATE (s.lane n.val).selOffer n.val)))) ∧
  (∀ (s : State) (n : Fin 16) (o : Nat) (c : BitVec 4) (d1 d2 d3 : BitVec 6) (bo bp p : Nat) (rest : List Nat),
    laneExists s n.val = true → laneState s n.val = 3 → (s.lane n.val).trying = true → s.flag LNP_LEVEL.EXPERT = true →
    (s.lane n.val).best = some (bo, bp) → o ≤ bo → (s.lane n.val).trials = p :: rest →
    exec (.presetTrialDone n o c d1 d2 d3) s =
      .next (s.setLane n.val { s.lane n.val with req := p, trials := rest, best := some (bo, bp) })) ∧
  (∀ (s : State) (n : Fin 16) (nt : LinkNote), laneExists (noteLane nt s) n.val = true →
    laneState (noteLane nt s) n.val ≠ 5 → laneState (noteLane nt s) n.val ≠ 7 →
    exec (.blockLockLost n nt) s =
      .next (breakRuns n.val (((noteLane nt s).count LNP_LOCKCNT.LOSS n.val).set LNP_STAT.LOCK 0 n.val)))

/-- LPI blocks on a LINKED lane take it to QUIET with the up-link quiet; with DEEPREQ where DEEPOK allows it, to DEEP,
which clears DESKEW; lanes in other states than LINKED and QUIET ignore them. QUIETIDLE 0, or something waiting for
the down-link, keeps the down-link from going quiet; otherwise it goes quiet and the lane is in QUIET. DEEP (LPCTL bit
0) asks the partner, and WAKE (bit 1) or energy takes a lane in DEEP to WAKE; energy elsewhere does nothing. A camera
that leaves quiet while the down-link is active makes the lane LINKED. A slip of the elastic buffer counts, and logs
0x0503 with 0 for an overflow and 1 for an underflow unless another came within 1 ms. (R213, R230, R231, R232, R233,
07_camera_lanes_physical.md.) -/
def Obligations.LanePower : Prop :=
  (∀ (s : State) (n : Fin 16) (req ack : Bool), laneExists s n.val = true → laneState s n.val ≠ 5 → laneState s n.val ≠ 7 →
    exec (.lpiReceived n req ack) s = .next s) ∧
  (∀ (s : State) (n : Fin 16), laneExists s n.val = true → laneState s n.val = 5 →
    exec (.lpiReceived n false false) s =
      let t := enterLane n.val 7 s
      .next (t.setLane n.val { t.lane n.val with rxQuiet := true })) ∧
  (∀ (s : State) (n : Fin 16), laneExists s n.val = true → laneState s n.val = 7 → s.flag LNP_LPCFG.DEEPOK n.val = true →
    ∃ t, exec (.lpiReceived n true false) s = .next t ∧ laneState t n.val = 8 ∧ t.get CLP_LSTAT.DESKEW n.val = 0 ∧
      t.get LNP_STAT.LOCK n.val = 0) ∧
  (∀ (s : State) (n : Fin 16), laneExists s n.val = true →
    (s.get LNP_LPCFG.QUIETIDLE n.val = 0 ∨ downlinkWaits s (s.get CLP_LSTAT.GROUP n.val) = true) →
    exec (.quietIdleTimeout n) s = .next s) ∧
  (∀ (s : State) (n : Fin 16), laneExists s n.val = true → s.get LNP_LPCFG.QUIETIDLE n.val ≠ 0 →
    downlinkWaits s (s.get CLP_LSTAT.GROUP n.val) = false → laneState s n.val = 7 →
    exec (.quietIdleTimeout n) s = .next (s.setLane n.val { s.lane n.val with txQuiet := true })) ∧
  (∀ (s : State) (n : Fin 16), Served s (LNP_LPCTL.reg.adr n.val) → laneState s n.val = 7 →
    exec (.deepRequest n 1) s =
      let t := s.setLane n.val { s.lane n.val with txQuiet := true }
      .next (t.setLane n.val { t.lane n.val with deepAsk := true })) ∧
  (∀ (s : State) (n : Fin 16), Served s (LNP_LPCTL.reg.adr n.val) → laneState s n.val = 8 →
    exec (.wakeRequest n 2) s = .next (enterTraining n.val 9 s)) ∧
  (∀ (s : State) (n : Fin 16), laneExists s n.val = true → laneState s n.val = 8 →
    exec (.wakeEnergy n) s = .next (enterTraining n.val 9 s)) ∧
  (∀ (s : State) (n : Fin 16), laneExists s n.val = true → laneState s n.val ≠ 8 → exec (.wakeEnergy n) s = .next s) ∧
  (∀ (s : State) (n : Fin 16), laneExists s n.val = true → laneState s n.val = 7 → (s.lane n.val).rxQuiet = true →
    (s.lane n.val).txQuiet = false → ∃ t, exec (.uplinkQuietExit n) s = .next t ∧ laneState t n.val = 5) ∧
  (∀ (s : State) (n : Fin 16) (up inP : Bool), laneExists s n.val = true → s.flag CLP_LSTAT.RXACT n.val = false →
    (s.lane n.val).slipAt = 0 →
    exec (.ebSlip n up inP) s =
      .next (((s.count LNP_EBSLIP.SLIP n.val).setLane n.val { s.lane n.val with slipAt := s.elapsed + 1 }).log 0x0503
        [n.val, if up then 0 else 1]))

/-- A measurement acts only in LINKED or QUIET with the monitor on and no sweep running, and stores the opening. The
first after REBASE becomes the baseline. One that calls for a higher level than LEVEL raises it at once, fires
LNP_MARGIN (0x040 + n) and logs 0x0505 for an alarm, 0x0504 for a warning. START outside SERVICE logs 0x0507 and does
nothing else; in SERVICE it sets RUNNING, clears DONE and POINT and the stored words, or waits until EQUALIZE is over.
ABORT keeps the words stored so far; the last point sets DONE. A read of ESDATA gives the word at the index and
advances it. The model's choices that it rests on: log entry 99. (R235, R236, R237, R238, R239,
07_camera_lanes_physical.md.) -/
def Obligations.LaneMonitorAndEyeScan : Prop :=
  (∀ (s : State) (n : Fin 16) (ho vo : Byte), laneExists s n.val = true →
    (s.flag LNP_MONCFG.EN n.val = false ∨ s.flag LNP_ESSTAT.RUNNING n.val = true ∨
      (laneState s n.val ≠ 5 ∧ laneState s n.val ≠ 7)) → exec (.marginMeasure n ho vo) s = .next s) ∧
  (∀ (s : State) (n : Fin 16) (ho vo : Byte), laneExists s n.val = true → laneState s n.val = 5 →
    s.flag LNP_MONCFG.EN n.val = true → s.flag LNP_ESSTAT.RUNNING n.val = false → (s.lane n.val).basePend = true →
    ∃ t, exec (.marginMeasure n ho vo) s = .next t ∧ t.get LNP_MARGIN.CURH n.val = ho.toNat ∧
      t.get LNP_MARGIN.CURV n.val = vo.toNat ∧ t.get LNP_MARGIN.BASEH n.val = ho.toNat ∧
      t.get LNP_MARGIN.BASEV n.val = vo.toNat ∧ t.flag LNP_MARGIN2.BASEVALID n.val = true ∧
      (t.lane n.val).basePend = false) ∧
  (∀ (s : State) (n : Fin 16) (ho vo : Byte), laneExists s n.val = true → laneState s n.val = 7 →
    s.flag LNP_MONCFG.EN n.val = true → s.flag LNP_ESSTAT.RUNNING n.val = false → (s.lane n.val).basePend = false →
    s.flag LNP_MARGIN2.BASEVALID n.val = true → s.get LNP_MARGIN2.LEVEL n.val < 2 →
    ho.toNat < s.get LNP_MONTH2.ALARMH n.val →
    exec (.marginMeasure n ho vo) s =
      let t := (s.set LNP_MARGIN.CURH ho.toNat n.val).set LNP_MARGIN.CURV vo.toNat n.val
      .next ((((t.setLane n.val { t.lane n.val with lowRun := 0 }).set LNP_MARGIN2.LEVEL 2 n.val).fire
        (0x040 + n.val)).log 0x0505 [n.val, ho.toNat, vo.toNat])) ∧
  (∀ (s : State) (n : Fin 16), Served s (LNP_CTL.reg.adr n.val) →
    exec (.marginRebase n 2) s = .next (s.setLane n.val { s.lane n.val with basePend := true })) ∧
  (∀ (s : State) (n : Fin 16), Served s (LNP_ESCTL.reg.adr n.val) → inService s = false →
    exec (.sweepStart n 1) s = .next (s.log 0x0507 [n.val, 0x208])) ∧
  (∀ (s : State) (n : Fin 16), Served s (LNP_ESCTL.reg.adr n.val) → inService s = true →
    exec (.sweepStart n 1) s = .next (if laneState s n.val = 3 then
      s.setLane n.val { s.lane n.val with sweepWait := true }
      else (((s.setLane n.val { s.lane n.val with eye := [], sweepWait := false }).set LNP_ESSTAT.RUNNING 1 n.val).set
        LNP_ESSTAT.DONE 0 n.val).set LNP_ESSTAT.POINT 0 n.val)) ∧
  (∀ (s : State) (n : Fin 16) (cs : List Nat), Served s (LNP_ESCTL.reg.adr n.val) → s.flag LNP_ESSTAT.RUNNING n.val = true →
    exec (.sweepAbort n cs) s =
      let e := (storedPoints s n.val cs).take (sweepPoints s n.val - 1)
      let t := s.setLane n.val { s.lane n.val with sweepWait := false }
      .next (((t.setLane n.val { t.lane n.val with eye := e }).set LNP_ESSTAT.RUNNING 0 n.val).set
        LNP_ESSTAT.POINT e.length n.val)) ∧
  (∀ (s : State) (n : Fin 16) (cs : List Nat), laneExists s n.val = true → s.flag LNP_ESSTAT.RUNNING n.val = true →
    exec (.sweepDone n cs) s =
      let e := storedPoints s n.val cs
      .next ((((s.setLane n.val { s.lane n.val with eye := e }).set LNP_ESSTAT.RUNNING 0 n.val).set
        LNP_ESSTAT.DONE 1 n.val).set LNP_ESSTAT.POINT e.length n.val)) ∧
  (∀ (s : State) (n : Fin 16), Served s (LNP_ESDATA.reg.adr n.val) →
    exec (.esdataRead n) s = .next ((s.emit (.readData (LNP_ESDATA.reg.adr n.val)
      ((s.lane n.val).eye.getD (s.get LNP_ESIDX.IDX n.val) 0))).wrapAdd LNP_ESIDX.IDX 1 n.val))

/-- A write of LOOP with a loopback outside SERVICE logs 0x0507 and does nothing; the remote loopback of a LINKED lane
whose partner has no capability fails it for reason 7; another mode takes effect. Each bit of INJ sends its fault
once. A write of CFG stores RATEMAX and TXINV and ends the back-off count; RATEMAX 0 turns the lane off, and one above
0 starts DETECT from OFF; the unit is re-derived as after any write of a basic field. RETRAIN takes a trained lane to
DETECT and its group loses it; a lane that is OFF stays so. At the basic level the taps are an expert drop; at the
expert level taps whose magnitudes do not sum to 64 are refused with 0x0506, and others are stored. The model's
choices that it rests on: log entry 29. (R226, R240, R242, R244, R245, R246, R247, 07_camera_lanes_physical.md.) -/
def Obligations.LaneConfiguration : Prop :=
  (∀ (s : State) (n : Fin 16) (v : Word), Served s (LNP_LOOP.reg.adr n.val) → v.toNat % 4 ≠ 0 → inService s = false →
    exec (.loopbackWrite n v) s = .next (s.log 0x0507 [n.val, 0x240])) ∧
  (∀ (s : State) (n : Fin 16), Served s (LNP_LOOP.reg.adr n.val) → inService s = true → laneState s n.val = 5 →
    s.flag LNP_PARTNER.LOOPCAP n.val = false →
    exec (.loopbackWrite n 2) s = .next (laneLost n.val (trainFail n.val 7 s))) ∧
  (∀ (s : State) (n : Fin 16), Served s (LNP_LOOP.reg.adr n.val) → inService s = true →
    exec (.loopbackWrite n 3) s = .next (s.set LNP_LOOP.MODE 3 n.val) ∧
    exec (.loopbackWrite n 1) s =
      .next ((s.set LNP_LOOP.MODE 1 n.val).set LNP_STAT.RATE (s.get LNP_CFG.RATEMAX n.val) n.val)) ∧
  (∀ (s : State) (n : Fin 16), Served s (LNP_INJ.reg.adr n.val) → laneExists s n.val = true →
    exec (.injectHdr n) s = .next (s.emit (.injected n.val 0)) ∧
    exec (.injectBit n) s = .next (s.emit (.injected n.val 1)) ∧
    exec (.injectType2 n) s = .next (s.emit (.injected n.val 2)) ∧
    exec (.injectTraincrc n) s = .next (s.emit (.injected n.val 3)) ∧
    exec (.injectSkipgap n) s = .next (s.emit (.injected n.val 4))) ∧
  (∀ (s : State) (n : Fin 16) (v : Word), Served s (LNP_CFG.reg.adr n.val) → v.toNat % 8 ≠ 0 → laneState s n.val = 0 →
    exec (.ratemaxWrite n v) s = .next (afterBasic 5 (LNP_CFG.reg.adr n.val) v.toNat (s.rdA (LNP_CFG.reg.adr n.val))
      (startDetect n.val (((s.set LNP_CFG.RATEMAX (v.toNat % 8) n.val).set LNP_CFG.TXINV (v.toNat / 16) n.val).set
        LNP_STAT.BACKOFFK 0 n.val)))) ∧
  (∀ (s : State) (n : Fin 16) (v : Word), Served s (LNP_CFG.reg.adr n.val) → v.toNat % 8 = 0 → laneState s n.val ≠ 0 →
    exec (.ratemaxWrite n v) s = .next (afterBasic 5 (LNP_CFG.reg.adr n.val) v.toNat (s.rdA (LNP_CFG.reg.adr n.val))
      (laneLost n.val (enterLane n.val 0 (((s.set LNP_CFG.RATEMAX 0 n.val).set LNP_CFG.TXINV (v.toNat / 16) n.val).set
        LNP_STAT.BACKOFFK 0 n.val))))) ∧
  (∀ (s : State) (n : Fin 16), Served s (LNP_CTL.reg.adr n.val) → laneState s n.val ≠ 0 → laneState s n.val ≠ 8 →
    exec (.retrain n 1) s = .next (laneLost n.val (startDetect n.val (s.set LNP_STAT.BACKOFFK 0 n.val)))) ∧
  (∀ (s : State) (n : Fin 16) (v : Word), Served s (LNP_TXFIR.reg.adr n.val) → s.flag LNP_LEVEL.EXPERT = true →
    bitsOf v.toNat 13 8 ≠ 0 →
    exec (.txfirWrite n v) s = .next (if bitsOf v.toNat 21 16 + bitsOf v.toNat 13 8 + bitsOf v.toNat 5 0 = 64 then
      s.wrA (LNP_TXFIR.reg.adr n.val) (v.toNat &&& 0x803F3F3F) else s.log 0x0506 [n.val]))

/-- A DOWN group ignores ALIGN rows and sends none; otherwise the grabber's row carries the next count, TXSET (empty
while FORMING) and RXOK. The end of FORMING links the group where a lane is deskewed and changes nothing otherwise. A
group that is LINKED when the discovery timeout comes has its link declared failed; one in DISCOVERED is not touched.
A good DISC_REQ of a LINKED group stores the camera's identity, makes a DISC_RSP due, enters DISCOVERED and fires
CLP_UP. An ECHO that no PING waits for, or that comes more than 1 ms after its PING, gives no measurement. PING and
TIME come due on every group in DISCOVERED, unless the period is 0. The model's choices that it rests on: log entry
96. (R256, R258, R259, R260, R261, R262, R263, R280, R285, R286, R293, 08_camera_lane_protocol.md.) -/
def Obligations.CameraGroups : Prop :=
  (∀ (s : State) (g : Fin 16) (row : List AlignBlk), groupState s g.val = 0 →
    exec (.alignReceived g row) s = .next s ∧ exec (.alignRowSend g) s = .next s) ∧
  (∀ (s : State) (g : Fin 16), laneExists s g.val = true → groupState s g.val ≠ 0 →
    exec (.alignRowSend g) s =
      let u := s.group g.val
      let tx := if groupState s g.val = 1 then 0 else txsetOf s g.val
      .next (syncLanes g.val (((s.setGroup g.val { u with alignTx := (u.alignTx + 1) % 256 }).set CLP_GSTAT.TXSET tx
        g.val).emit (.alignRow g.val u.alignTx tx (rxokOf s g.val))))) ∧
  (∀ (s : State) (g : Fin 16), laneExists s g.val = true → groupState s g.val = 1 →
    exec (.groupFormTimeout g) s = .next (if (blockLanes s g.val).any (fun n => s.flag CLP_LSTAT.DESKEW n) then
      groupLinked g.val s else s)) ∧
  (∀ (s : State) (g : Fin 16), laneExists s g.val = true → groupState s g.val = 2 →
    exec (.discoveryTimeout g) s = .next (linkFail g.val s)) ∧
  (∀ (s : State) (g : Fin 16), groupState s g.val ≠ 2 → exec (.discoveryTimeout g) s = .next s) ∧
  (∀ (s : State) (g : Fin 16) (p : List Byte), PacketTaken s g.val 4 (natBytes p) → groupState s g.val = 2 →
    ∃ t, exec (.discReqReceived g p) s = .next (t.fire (0x050 + g.val)) ∧ groupState t g.val = 3 ∧
      (t.group g.val).rspDue = true ∧ t.get CLP_PART0.VENDOR g.val = payNat (natBytes p) 0 2 ∧
      t.get CLP_PART0.MODEL g.val = payNat (natBytes p) 2 2 ∧ t.get CLP_SEQ.TXNEXT g.val = 0 ∧
      t.get CLP_SEQ2.OUT g.val = 0 ∧ bitAt (t.get CLP_GROUPMAP.DISC) g.val = true) ∧
  (∀ (s : State) (g : Fin 16) (p : List Byte), PacketTaken s g.val 3 (natBytes p) →
    (s.group g.val).pings.find? (fun e => e.1 == pktAux (natBytes p)) = none →
    exec (.echoReceived g p) s = .next s) ∧
  (∀ (s : State) (g : Fin 16) (p : List Byte) (k t0 : Nat), PacketTaken s g.val 3 (natBytes p) →
    (s.group g.val).pings.find? (fun e => e.1 == pktAux (natBytes p)) = some (k, t0) → 1000000 < s.elapsed - t0 →
    exec (.echoReceived g p) s = .next (s.setGroup g.val { s.group g.val with
      pings := (s.group g.val).pings.filter (fun e => e.1 != k) })) ∧
  (∀ s : State, s.get CLP_TIMECFG.PERIOD = 0 → exec .timePeriod s = .next s) ∧
  (∀ s : State, s.get CLP_TIMECFG.PERIOD ≠ 0 → exec .timePeriod s = .next (dueTime false s)) ∧
  (∀ s : State, s.get CLP_TIMECFG.PINGINT = 0 → exec .pingPeriod s = .next s) ∧
  (∀ s : State, s.get CLP_TIMECFG.PINGINT ≠ 0 → (∀ g, g < 16 → g ≠ 2 → groupState s g ≠ 3) → groupState s 2 = 3 →
    exec .pingPeriod s = .next (s.setGroup 2 { s.group 2 with pingDue := true }))

/-- A packet whose CRC fails counts in BADPKT.CRC, one of a wrong length in BADPKT.PROTO, and nothing else happens
where its TYPE is not reliable. An ACK inside the window frees the packets up to it; one outside counts as stale and
logs 0x060E. A NAK counts, and with BUSY after a good acknowledgement only waits; the end of that wait starts an
uncounted replay and the replay timeout a counted one, which queues every unacknowledged packet again; with nothing
unacknowledged neither does anything. ACKDELAY makes an acknowledgement due when one is pending. A mailbox request
completes at once with NOTLINKED outside DISCOVERED; otherwise it takes the next TAG, sets BUSY and is sent; a GO
while BUSY stores OP and COUNT only; after the timeout STATUS is 8, logged as 0x060A. A CTRL_RSP in order with another
tag is accepted and discarded. A due TRIGGER leaves the down-link before anything else, with the next SEQ; with
nothing waiting nothing is sent. The model's choices that it rests on: log entry 111. (R265, R267, R270, R276, R277,
R278, R279, R280, R281, R287, 08_camera_lane_protocol.md.) -/
def Obligations.CameraReliableClass : Prop :=
  (∀ (s : State) (g : Fin 16) (p : List Byte), laneExists s g.val = true →
    (natBytes p).length = 12 + pktLen (natBytes p) → crcOk (natBytes p) = false → relType (pktType (natBytes p)) = false →
    exec (.ackReceived g p) s = .next (s.count CLP_BADPKT.CRC g.val)) ∧
  (∀ (s : State) (g : Fin 16) (p : List Byte), laneExists s g.val = true →
    (natBytes p).length ≠ 12 + pktLen (natBytes p) → relType (pktType (natBytes p)) = false →
    exec (.ackReceived g p) s = .next (s.count CLP_BADPKT.PROTO g.val)) ∧
  (∀ (s : State) (g : Fin 16) (p : List Byte), PacketTaken s g.val 0 (natBytes p) →
    let e := (4096 - s.get CLP_SEQ2.ACKD g.val + pktNum (natBytes p) % 4096) % 4096
    1 ≤ e → e ≤ s.get CLP_SEQ2.OUT g.val →
    ∃ t, exec (.ackReceived g p) s = .next t ∧ t.get CLP_SEQ2.ACKD g.val = pktNum (natBytes p) % 4096 ∧
      t.get CLP_SEQ2.OUT g.val = s.get CLP_SEQ2.OUT g.val - e ∧ (t.group g.val).replays = 0 ∧
      (t.group g.val).buffer = (s.group g.val).buffer.drop e) ∧
  (∀ (s : State) (g : Fin 16) (p : List Byte), PacketTaken s g.val 0 (natBytes p) →
    let e := (4096 - s.get CLP_SEQ2.ACKD g.val + pktNum (natBytes p) % 4096) % 4096
    (e = 0 ∨ s.get CLP_SEQ2.OUT g.val < e) →
    exec (.ackReceived g p) s = .next ((s.count CLP_RELCNT.STALEACK g.val).logSec 0x060E g.val
      [g.val, pktNum (natBytes p) % 4096])) ∧
  (∀ (s : State) (g : Fin 16) (p : List Byte), PacketTaken s g.val 1 (natBytes p) → pktFlags (natBytes p) % 2 = 1 →
    (acknowledge g.val (pktNum (natBytes p)) (s.count CLP_RELCNT.NAKRX g.val)).1 = true →
    exec (.nakReceived g p) s =
      let t := (acknowledge g.val (pktNum (natBytes p)) (s.count CLP_RELCNT.NAKRX g.val)).2
      .next (t.setGroup g.val { t.group g.val with busyWait := true })) ∧
  (∀ (s : State) (g : Fin 16), laneExists s g.val = true → (s.group g.val).busyWait = true → (s.group g.val).buffer ≠ [] →
    exec (.busyReplayWait g) s = .next (s.setGroup g.val { s.group g.val with
      replayQ := (s.group g.val).buffer.map (fun p => p.seq), busyWait := false })) ∧
  (∀ (s : State) (g : Fin 16), laneExists s g.val = true → groupState s g.val = 3 → (s.group g.val).buffer ≠ [] →
    (s.group g.val).replays < max 1 (s.get CLP_ACKCFG.REPLAYMAX g.val) →
    exec (.replayTimeout g) s = .next (s.setGroup g.val { s.group g.val with
      replayQ := (s.group g.val).buffer.map (fun p => p.seq), replays := (s.group g.val).replays + 1, busyWait := false })) ∧
  (∀ (s : State) (g : Fin 16), laneExists s g.val = true → groupState s g.val = 3 → (s.group g.val).buffer ≠ [] →
    max 1 (s.get CLP_ACKCFG.REPLAYMAX g.val) ≤ (s.group g.val).replays →
    exec (.replayTimeout g) s = .next (linkFail g.val s)) ∧
  (∀ (s : State) (g : Fin 16), laneExists s g.val = true →
    exec (.ackDelayTimeout g) s = .next (if (s.group g.val).unacked = 0 then s else s.setGroup g.val
      { s.group g.val with unacked := 0, ackDue := some ((s.group g.val).ackDue.getD 0) })) ∧
  (∀ (s : State) (g : Fin 16) (p : List Byte), PacketTaken s g.val 7 (natBytes p) → InOrder s g.val (natBytes p) →
    ((accepted s g.val).flag CLP_CCCTL.BUSY g.val = false ∨
      pktSub (natBytes p) ≠ (accepted s g.val).get CLP_CCCTL.TAG g.val) →
    exec (.ctrlRspReceived g p) s = .next (accepted s g.val)) ∧
  (∀ (s : State) (g : Fin 16) (v : Word), Served s (CLP_CCCTL.reg.adr g.val) →
    let t := (s.set CLP_CCCTL.OP (v.toNat / 128) g.val).set CLP_CCCTL.COUNT v.toNat g.val
    exec (.mailboxGo g (v ||| 0x40000000)) s = exec (.mailboxGo g v) s ∧
    (t.flag CLP_CCCTL.BUSY g.val = true → bitAt v.toNat 30 = true → exec (.mailboxGo g v) s = .next t) ∧
    (t.flag CLP_CCCTL.BUSY g.val = false → bitAt v.toNat 30 = true → groupState t g.val ≠ 3 →
      exec (.mailboxGo g v) s = .next ((t.set CLP_CCCTL.STATUS 10 g.val).log 0x060A [g.val, 10]))) ∧
  (∀ (s : State) (g : Fin 16), laneExists s g.val = true → s.flag CLP_CCCTL.BUSY g.val = true →
    exec (.mailboxTimeout g) s = .next (((s.set CLP_CCCTL.BUSY 0 g.val).set CLP_CCCTL.STATUS 8 g.val).log 0x060A
      [g.val, 8])) ∧
  (∀ (s : State) (g : Fin 16), downlinkWaits s g.val = false → exec (.downlinkTxSelect g) s = .next s) ∧
  (∀ (s : State) (g : Fin 16) (q : RelPkt) (rest : List RelPkt), laneExists s g.val = true → downlinkUp s g.val = true →
    leaveTxQuiet g.val s = s → (s.group g.val).trigQ = q :: rest → (s.group g.val).replayQ = [] →
    (s.group g.val).busyWait = false → s.get CLP_SEQ2.OUT g.val < 128 →
    exec (.downlinkTxSelect g) s = .next (sendNew g.val q (s.setGroup g.val { s.group g.val with trigQ := rest })))

/-- An accepted FRAME_START, FRAME_END or PIXEL whose camera stream no enabled stream names is discarded and counted.
A FRAME_END that names another frame than the open one, or that comes with none open, is discarded; one that matches
closes the frame with the packets that are missing. A camera EVENT counts, stores its number, fires its producer when
it is below 4, and makes an item where EVEN is set. A trigger timeout makes the waiting consumer idle, logs 0x0609
with the trigger, and counts a dropped trigger; a stream that waits for nothing is not touched. A frame timeout ends
the open frame as truncated with cause 1. A write of CLP_STREAM word 0 stores GROUP, VSID and FTO; EN on a stream that
a parallel port sources is refused with 0x060C. The model's choices that it rests on: log entry 31. (R272, R273, R276,
R283, R289, R290, R294, 08_camera_lane_protocol.md.) -/
def Obligations.CameraFrames : Prop :=
  (∀ (s : State) (g : Fin 16) (p : List Byte), InOrder s g.val (natBytes p) →
    streamFor (accepted s g.val) g.val (pktSub (natBytes p)) = none →
    (PacketTaken s g.val 11 (natBytes p) →
      exec (.frameStartReceived g p) s = .next ((accepted s g.val).count CLP_DISCARD.COUNT)) ∧
    (PacketTaken s g.val 12 (natBytes p) →
      exec (.frameEndReceived g p) s = .next ((accepted s g.val).count CLP_DISCARD.COUNT))) ∧
  (∀ (s : State) (g : Fin 16) (p : List Byte) (st : Nat) (f : Feed), PacketTaken s g.val 12 (natBytes p) →
    InOrder s g.val (natBytes p) → streamFor (accepted s g.val) g.val (pktSub (natBytes p)) = some st →
    openFrame (accepted s g.val) st = some f → f.src = 0 → f.frame % 65536 = payNat (natBytes p) 0 4 % 65536 →
    exec (.frameEndReceived g p) s =
      .next (closeClpFrame st (min 0xFFFF (payNat (natBytes p) 4 4 - f.accepted)) 0 (accepted s g.val))) ∧
  (∀ (s : State) (g : Fin 16) (p : List Byte) (st : Nat), PacketTaken s g.val 11 (natBytes p) →
    InOrder s g.val (natBytes p) → streamFor (accepted s g.val) g.val (pktSub (natBytes p)) = some st →
    openFrame (accepted s g.val) st = none → pktFlags (natBytes p) = 0 → mayOpen (accepted s g.val) st = true →
    ∃ f, exec (.frameStartReceived g p) s = .next (openClp g.val st f (accepted s g.val)) ∧
      f.frame = payNat (natBytes p) 0 4 ∧ f.expNs = payNat (natBytes p) 4 4 ∧ f.tExp = payNat (natBytes p) 8 8 ∧
      f.width = payNat (natBytes p) 16 2 ∧ f.height = payNat (natBytes p) 18 2 ∧ f.format = payNat (natBytes p) 20 2 ∧
      f.tTrig = f.tExp ∧ f.started = true) ∧
  (∀ (s : State) (g : Fin 16) (p : List Byte), PacketTaken s g.val 13 (natBytes p) →
    let c := tput 0 s.src.pixCount (g.val * 8 + pktSub (natBytes p)) ((pktNum (natBytes p) + 1) % 65536 + 1)
    let t : State := { s with src := { s.src with pixCount := c } }
    streamFor t g.val (pktSub (natBytes p)) = none →
    exec (.pixelReceived g p) s = .next (t.count CLP_DISCARD.COUNT)) ∧
  (∀ (s : State) (g : Fin 16) (p : List Byte), PacketTaken s g.val 10 (natBytes p) → InOrder s g.val (natBytes p) →
    let t := ((accepted s g.val).count CLP_EVTCNT.COUNT g.val).set CLP_EVTCNT.LASTEVT (pktSub (natBytes p)) g.val
    let u := if pktSub (natBytes p) < 4 then t.fire (0x070 + 4 * (g.val / 2) + pktSub (natBytes p)) else t
    u.flag CLP_GCFG.EVEN g.val = false → exec (.clpEventReceived g p) s = .next u) ∧
  (∀ (s : State) (st : Fin 64), conBusy s st.val = false → exec (.triggerTimeout st) s = .next s) ∧
  (∀ (s : State) (st : Fin 64) (tr : TrigSt), conBusy s st.val = true →
    lastTrig s (s.get CLP_STREAM0.GROUP st.val) st.val = some tr →
    exec (.triggerTimeout st) s =
      .next (countDropped 1 ((setBusy st.val false s).log 0x0609 [st.val, tr.id]))) ∧
  (∀ (s : State) (st : Fin 64) (f : Feed), openFrame s st.val = some f → f.src = 0 →
    exec (.frameTimeout st) s =
      .next (((closeClpFrame st.val f.damage 1 s).count CLP_STREAM3.TRUNC st.val).log 0x0606 [st.val, 1])) ∧
  (∀ (s : State) (st : Fin 64), openFrame s st.val = none → exec (.frameTimeout st) s = .next s) ∧
  (∀ (s : State) (st : Fin 64) (v : Word), Served s (CLP_STREAM0.reg.adr st.val) →
    let t := ((s.set CLP_STREAM0.GROUP (v.toNat / 65536) st.val).set CLP_STREAM0.VSID (v.toNat / 256) st.val).set
      CLP_STREAM0.FTO v.toNat st.val
    (bitAt v.toNat 31 = true → s.flag CLP_STREAM0.EN st.val = false → parSources s st.val = true →
      exec (.clpStreamWrite st v) s = .next (t.log 0x060C [st.val])) ∧
    (parSources s st.val = false →
      exec (.clpStreamWrite st v) s = .next (streamToggled st.val (s.flag CLP_STREAM0.EN st.val) (bitAt v.toNat 31)
        (t.set CLP_STREAM0.EN (v.toNat / 2147483648) st.val))))

/-- A port that is OFF ignores frame starts and lines. A frame start in GAP or SEEK enters FRAME with LINE 0, keeps
the instant, and opens an item by the rules of openPort. An active line in SEEK is discarded, in GAP counted as extra;
HTOTAL follows every line. A line timeout in FRAME, and a frame timeout in GAP unless FRAMETO is 0, is a sync loss
with its cause, which leaves the port in SEEK; elsewhere they do nothing. The leading edge of the exposure pin keeps
its instant, and the trailing edge completes a pulse. A trigger timeout makes a busy consumer idle, drops the stored
trigger, logs 0x0705 and counts; an idle one is not touched. A write of PAR_STREAM stores STREAM and FILL and starts
the port anew; EN for a stream with another source is refused with 0x0704. The model's choices that it rests on: log
entries 29, 103. (R303, R305, R306, R307, R310, R312, R313, R315, R317, 09_parallel_sensor_ports.md.) -/
def Obligations.ParallelPorts : Prop :=
  (∀ (s : State) (n : Fin 2), portState s n.val = 0 → exec (.parFrameStart n) s = .next s) ∧
  (∀ (s : State) (n : Fin 2), portExists s n.val = true → portState s n.val = 3 → (s.port n.val).startAt = none →
    (s.port n.val).recover = false →
    exec (.parFrameStart n) s = .next (openPort n.val (((s.setPort n.val { s.port n.val with
      startAt := some s.elapsed
      total := 0
      badRun := 0
      firstPeriod := none
      lineAt := none
      recover := false
      rows := [] }).set PAR_STAT.STATE 2 n.val).set PAR_STAT.LINE 0 n.val))) ∧
  (∀ (s : State) (n : Fin 2) (l : ParLine), portState s n.val = 0 → exec (.parLineEnd n l) s = .next s) ∧
  (∀ (s : State) (n : Fin 2) (l : ParLine), portExists s n.val = true → syncMode s n.val = 0 → l.active = true →
    (portState s n.val = 1 ∨ portState s n.val = 3) →
    ∃ t, exec (.parLineEnd n l) s = .next (t.count (if portState s n.val = 1 then PAR_DISCARD.COUNT else PAR_XLINES.COUNT)
        n.val) ∧ t.get PAR_MEAS0.HTOTAL n.val = min l.clocks 0xFFFF ∧ portState t n.val = portState s n.val ∧
      (t.port n.val).total = (s.port n.val).total + 1 ∧ t.src = s.src ∧ t.que = s.que) ∧
  (∀ (s : State) (n : Fin 2), portExists s n.val = true →
    exec (.parLineTimeout n) s = .next (if portState s n.val = 2 then syncLoss n.val 2 s else s)) ∧
  (∀ (s : State) (n : Fin 2), portExists s n.val = true →
    exec (.parFrameTimeout n) s = .next (if portState s n.val = 3 ∧ s.get PAR_FRAMETO.MS n.val ≠ 0 then
      syncLoss n.val 5 s else s)) ∧
  (∀ (s : State) (n : Fin 2) (c : Nat), portState (syncLoss n.val c s) n.val = 1 ∧
    ((syncLoss n.val c s).port n.val).recover = true) ∧
  (∀ (s : State) (n : Fin 2) (high : Bool), portExists s n.val = true → high ≠ s.flag PAR_CFG.EXPPOL n.val →
    exec (.parExpEdge n high) s = .next (s.setPort n.val { s.port n.val with expLead := some s.nowNs })) ∧
  (∀ (s : State) (n : Fin 2) (a : Nat), portExists s n.val = true → (s.port n.val).expLead = some a →
    exec (.parExpEdge n (s.flag PAR_CFG.EXPPOL n.val)) s =
      .next (s.setPort n.val { s.port n.val with expLead := none, pulse := some (a, s.nowNs) })) ∧
  (∀ (s : State) (n : Fin 2), portExists s n.val = true → conBusy s (0x40 + n.val) = true →
    exec (.parTriggerTimeout n) s = .next (countDropped 1 (((setBusy (0x40 + n.val) false s).setPort n.val
      { s.port n.val with trig := none }).log 0x0705 [n.val]))) ∧
  (∀ (s : State) (n : Fin 2), conBusy s (0x40 + n.val) = false → exec (.parTriggerTimeout n) s = .next s) ∧
  (∀ (s : State) (n : Fin 2) (v : Word), Served s (PAR_STREAM.reg.adr n.val) → bitAt v.toNat 31 = true →
    portConflict s n.val (bitsOf v.toNat 29 24) = true → s.flag PAR_STREAM.EN n.val = false →
    exec (.parStreamWrite n v) s =
      let a := PAR_STREAM.reg.adr n.val
      .next (afterBasic 7 a v.toNat (s.rdA a) (portStart n.val (((((truncatePar n.val 3 s).set PAR_STREAM.STREAM
        (bitsOf v.toNat 29 24) n.val).set PAR_STREAM.FILL v.toNat n.val).set PAR_STREAM.EN 0 n.val).log 0x0704
        [bitsOf v.toNat 29 24])))) ∧
  (∀ (s : State) (n : Fin 2) (v : Word), Served s (PAR_STREAM.reg.adr n.val) → bitAt v.toNat 31 = false →
    s.flag PAR_STREAM.EN n.val = false →
    exec (.parStreamWrite n v) s =
      let a := PAR_STREAM.reg.adr n.val
      .next (afterBasic 7 a v.toNat (s.rdA a) (portStart n.val ((((truncatePar n.val 3 s).set PAR_STREAM.STREAM
        (bitsOf v.toNat 29 24) n.val).set PAR_STREAM.FILL v.toNat n.val).set PAR_STREAM.EN 0 n.val))))

/-- With no frame waiting a frame start does nothing; one whose size or format the pipe cannot take is refused,
counted in REFUSED.FMT and logged as 0x0803 with the set latched. An input line is taken only in FRAME with its bytes
there and room at the queues; LINE counts it, and a line cut by a full buffer counts an overflow. The end of the input
enters FLUSH once every line is in. A write of PIX_SRC stores STREAM and EN; a stream that another pipe holds is
refused with EN 0 and 0x0802, and an idle pipe goes to WAIT or OFF. The 4,096 words of table 0 and the 4,356 of table
1 are stored while no frame is in the pipe; otherwise the write is counted and refused, logged once a frame as 0x0806.
START of the self test runs only in SERVICE on an idle pipe (0x0807 otherwise); its end restores the tables and gives
RESULT 1, or 2 with 0x0808. The model's choices that it rests on: log entries 43, 100, 101. (R322, R327, R338, R340,
R342, R343, R344, R346, R348, R352, 10_pixel_pipeline.md.) -/
def Obligations.PixelPipes : Prop :=
  (∀ (s : State) (p : Fin 4), waitingFeed s p.val = none → exec (.pipeFrameStart p) s = .next s) ∧
  (∀ (s : State) (p : Fin 4) (f : Feed), waitingFeed s p.val = some f → pipeState s p.val = 1 → f.started = true →
    let t := latchSet p.val (min 8192 f.width) f.height s
    formatOk (cfaOf (setView t p.val) p.val) f.format f.width f.height = false →
    exec (.pipeFrameStart p) s = .next (refuseFrame f ((t.count PIX_REFUSED.FMT p.val).log 0x0803
      [p.val, f.format, f.width * 65536 + f.height]))) ∧
  (∀ (s : State) (p : Fin 4) (cut : Option Nat), pipeState s p.val ≠ 2 → exec (.pipeInputLine p cut) s = .next s) ∧
  (∀ (s : State) (p : Fin 4) (f : Feed), feedOf s (s.pipe p.val).feed = some f → pipeState s p.val = 2 →
    let u := s.pipe p.val
    pitchOf f.format f.width ≤ f.data.length → u.lines.length < f.height → pipeStopped s p.val = false →
    exec (.pipeInputLine p none) s =
      let t := ((s.setFeed { f with data := f.data.drop (pitchOf f.format f.width) }).setPipe p.val { u with
        lines := u.lines ++ [(u.frame.width, f.data.take (pitchOf f.format f.width))] }).set PIX_STAT.LINE
          (u.lines.length + 1) p.val
      .next (emitRows p.val (outHeight (setView t p.val) p.val (pipeFrame t p.val) (pipeBlock t p.val)) t)) ∧
  (∀ (s : State) (p : Fin 4) (f : Feed), feedOf s (s.pipe p.val).feed = some f → pipeState s p.val = 2 →
    f.height ≤ (s.pipe p.val).lines.length → exec (.pipeInputEnd p) s = .next (s.set PIX_STAT.STATE 3 p.val)) ∧
  (∀ (s : State) (p : Fin 4), pipeState s p.val ≠ 3 → exec (.pipeFlushDone p) s = .next s) ∧
  (∀ (s : State) (p : Fin 4) (f : Feed), feedOf s (s.pipe p.val).feed = some f → pipeState s p.val = 3 → f.ended = true →
    exec (.pipeFlushDone p) s =
      let r := emitChroma p.val (emitRows p.val (s.pipe p.val).frame.height s)
      let t := ((writeStats p.val f (endItems p.val f (completePictures p.val f r))).dropFeed f.id).fire (0x118 + p.val)
      .next (settleStream f.stream (pipeRest p.val (t.setPipe p.val { t.pipe p.val with
        feed := 0
        items := []
        lines := []
        bad := [] })))) ∧
  (∀ (s : State) (p : Fin 4) (v : Word), Served s (PIX_SRC.reg.adr p.val) →
    let st := bitsOf v.toNat 5 0
    let taken := (List.range 4).any (fun q => q != p.val && s.flag PIX_SRC.EN q && s.get PIX_SRC.STREAM q == st)
    let t := s.set PIX_SRC.STREAM st p.val
    let u := if bitAt v.toNat 31 = true ∧ taken = true then (t.set PIX_SRC.EN 0 p.val).log 0x0802 [p.val, st]
      else t.set PIX_SRC.EN (v.toNat / 2147483648) p.val
    exec (.pixSrcWrite p v) s = .next (if pipeState s p.val ≤ 1 then pipeRest p.val u else u)) ∧
  (∀ (s : State) (p : Fin 4) (t : Fin 2) (k : BitVec 16) (v : Word),
    k.toNat < (if t.val = 0 then 4096 else 4356) →
    Served s (if t.val = 0 then PIX_TBL0.reg.adr p.val k.toNat else PIX_TBL1.reg.adr p.val k.toNat) →
    exec (.pixTableWrite p t k v) s = .next (pixTableWrite p.val t.val k.toNat v.toNat s)) ∧
  (∀ (s : State) (p : Fin 4) (t k v : Nat), pipeState s p.val < 2 →
    pixTableWrite p.val t k v s = if t = 0 then s.set PIX_TBL0.W v p.val k else s.set PIX_TBL1.G v p.val k) ∧
  (∀ (s : State) (p : Fin 4) (t k v : Nat), 2 ≤ pipeState s p.val → (s.pipe p.val).tblLogged = true →
    pixTableWrite p.val t k v s = s.count PIX_REFUSED.TBL p.val) ∧
  (∀ (s : State) (p : Fin 4), Served s (PIX_BIST.reg.adr p.val) →
    exec (.pixBistStart p 0) s = .next (if inService s = true ∧ pipeState s p.val ≤ 1 then
      ((s.set PIX_BIST.RUNNING 1 p.val).set PIX_BIST.RESULT 0 p.val).set PIX_STAT.STATE 4 p.val
      else s.log 0x0807 [p.val])) ∧
  (∀ (s : State) (p : Fin 4) (m : Nat), s.flag PIX_BIST.RUNNING p.val = true →
    exec (.pixBistDone p none) s = .next (pixBistEnd p.val 1 s) ∧
    exec (.pixBistDone p (some m)) s = .next ((pixBistEnd p.val 2 s).log 0x0808 [p.val, m])) ∧
  (∀ (s : State) (p : Fin 4) (f : Option Nat), s.flag PIX_BIST.RUNNING p.val = false →
    exec (.pixBistDone p f) s = .next s)

/-- A sample of an absent channel, or with the field link lost, does nothing; one that leaves the levels as they were
stores them and nothing else. A change of B alone on an enabled quadrature channel counting four edges, without
inversion, counts one edge at the filter's delay, backward when A equals the new B's opposite by R358. A rise of Z
alone on such a channel with IDXMODE 1 and no qualification counts the index, fires POS_IDX and sets the counter to
IDXVAL; POS_INDEX and POS_TRANSITION are one meaning. A wire that disagrees is flagged once, counted, logged as 0x0904
and may clear the reference; its end only drops the mark. A speed slot stores the newest edge and the motion; a quiet
time sets STILL on a running channel. A probe's edge that EDGE does not select is ignored; one it selects latches the
counter and the time with VALID. The model's choices that it rests on: log entries 69, 70, 71, 73. (R356, R358, R362,
R366, R367, R370, R377, R378, R383, R384, 11_position_inputs.md.) -/
def Obligations.PositionSamples : Prop :=
  (∀ (s : State) (n : Fin 8) (a b z : Bool), (chanThere s n.val = false ∨ s.clk.fieldLink = false) →
    exec (.posTransition n a b z) s = .next s) ∧
  (∀ (s : State) (n : Fin 8) (a b z : Bool), exec (.posIndex n a b z) s = exec (.posTransition n a b z) s) ∧
  (∀ (s : State) (n : Fin 8) (a b z : Bool), chanThere s n.val = true → s.clk.fieldLink = true →
    (s.chan n.val).dis = 0 → s.flag POS_CFG.INVA n.val = false → s.flag POS_CFG.INVB n.val = false →
    s.flag POS_CFG.INVZ n.val = false → s.get POS_STAT.LEVELS n.val = levelCode a b z →
    exec (.posTransition n a b z) s = .next (s.set POS_STAT.LEVELS (levelCode a b z) n.val)) ∧
  (∀ (s : State) (n : Fin 8) (a b z : Bool),
    let t := s.set POS_STAT.LEVELS (levelCode a b z) n.val
    chanThere s n.val = true → s.clk.fieldLink = true → chanOn t n.val = true → (s.chan n.val).dis = 0 →
    s.flag POS_CFG.INVA n.val = false → s.flag POS_CFG.INVB n.val = false → s.flag POS_CFG.INVZ n.val = false →
    s.get POS_STAT.LEVELS n.val = levelCode a (!b) z → t.get POS_CFG.KIND n.val = 0 → t.get POS_CFG.X n.val = 2 →
    (checkInterval n.val t).get POS_IDXCFG.IDXMODE n.val = 0 → (checkInterval n.val t).get POS_CFG.KIND n.val = 0 →
    t.get POS_CFG.KIND n.val = (checkInterval n.val t).get POS_CFG.KIND n.val →
    (checkInterval n.val t).get POS_CFG.X n.val = 2 →
    exec (.posTransition n a b z) s = .next (countEdge n.val (t.nowNs - 4 * t.get POS_FILT.FILTB n.val)
      ((a != b) != (checkInterval n.val t).flag POS_CFG.DIRINV n.val) (checkInterval n.val t))) ∧
  (∀ (s : State) (n : Fin 8) (a b : Bool),
    let t := s.set POS_STAT.LEVELS (levelCode a b true) n.val
    chanThere s n.val = true → s.clk.fieldLink = true → chanOn t n.val = true → (s.chan n.val).dis = 0 →
    s.flag POS_CFG.INVA n.val = false → s.flag POS_CFG.INVB n.val = false → s.flag POS_CFG.INVZ n.val = false →
    s.get POS_STAT.LEVELS n.val = levelCode a b false → t.get POS_CFG.KIND n.val = 0 →
    t.get POS_IDXCFG.IDXMODE n.val = 1 → t.flag POS_IDXCFG.QUALEN n.val = false →
    exec (.posIndex n a b true) s =
      let u := (t.count POS_IDXCNT.COUNT n.val).fire (0x130 + n.val)
      .next (setByIndex n.val (t.nowNs - 4 * t.get POS_FILT.FILTZ n.val) [0, 2] u)) ∧
  (∀ (s : State) (n : Fin 8), disChecked s n.val 1 = true → bitAt (s.chan n.val).dis 1 = false →
    exec (.wireDisagree n 1) s =
      let t := s.setChan n.val { s.chan n.val with dis := putBits (s.chan n.val).dis 1 1 1 }
      .next ((clearRef n.val 4 s.nowNs ((posFault n.val POS_FAULT.DISB t).count POS_DISCNT.COUNT n.val)).log 0x0904
        [n.val, 1])) ∧
  (∀ (s : State) (n : Fin 8) (k : Fin 3), (disChecked s n.val k.val = false ∨ bitAt (s.chan n.val).dis k.val = true) →
    exec (.wireDisagree n k) s = .next s) ∧
  (∀ (s : State) (n : Fin 8) (k : Fin 3), exec (.wireDisagreeEnd n k) s =
    .next (s.setChan n.val { s.chan n.val with dis := putBits (s.chan n.val).dis k.val k.val 0 })) ∧
  (∀ (s : State) (n : Fin 8), chanOn s n.val = false →
    exec (.speedSlot n) s = .next s ∧ exec (.posStillTimeout n) s = .next s) ∧
  (∀ (s : State) (n : Fin 8), chanOn s n.val = true →
    exec (.posStillTimeout n) s = .next (s.set POS_STAT.STILL 1 n.val) ∧
    exec (.speedSlot n) s =
      let t := storeSlot n.val s
      let k := min 16 ((t.chan n.val).stored + 1)
      let u := t.setChan n.val { t.chan n.val with stored := k }
      .next (if k = 16 ∧ (u.get POS_CFG.KIND n.val ≠ 3 ∨ (t.chan n.val).ssiNew = true) then
        u.set POS_STAT.SPDVALID 1 n.val else u)) ∧
  (∀ (s : State) (k : Fin 8) (rising : Bool),
    (s.get POS_PRBCFG.EDGE k.val = 3 ∨ (s.get POS_PRBCFG.EDGE k.val = 0 ∧ rising = false) ∨
      (s.get POS_PRBCFG.EDGE k.val = 1 ∧ rising = true)) → exec (.probeEdge k rising) s = .next s) ∧
  (∀ (s : State) (k : Fin 8) (rising : Bool), chanThere s k.val = true → s.clk.fieldLink = true → s.clk.timeUp = true →
    s.get POS_PRBCFG.EDGE k.val = 2 → s.get POS_PRBCFG.ACTION k.val = 0 →
    ∃ t, exec (.probeEdge k rising) s = .next t ∧ t.flag POS_PRBST.VALID k.val = true ∧
      t.get POS_PRBCLO.CNT k.val = (s.chan (s.get POS_PRBCFG.CH k.val)).cnt % 2 ^ 32 ∧
      t.get POS_PRBTLO.T k.val = shortForm (s.nowNs - 4 * s.get POS_PRBCFG.FILT k.val) % 2 ^ 32 ∧ t.chans = s.chans)

/-- ARM sets ARMED on an enabled channel, DISARM clears it; LOAD gives the counter CNTSET and, with REFSRC 3, the
reference; REFSET sets the reference only with REFSRC 3; LATCH stores the counter and the time with VALID. A read of
CNTLO latches the upper word; a read of a latched time's upper word clears VALID. A write of POS_CFG that changes
locked fields of an enabled channel is refused with 0x0909 and changes nothing else. An SSI poll starts a due
transaction with the line high, fails with cause 1 when it is low, and does nothing when one is in progress. The end
of a transaction that is not in progress does nothing, and a bad trailing sample is an invalid frame of cause 2. The
evaluation of a tag that is not ready leaves it waiting; of one that is ready writes the positions. The model's
choices that it rests on: log entries 29, 46, 70, 73, 74. (R362, R363, R367, R369, R375, R380, R381, R385, R388, R390,
11_position_inputs.md.) -/
def Obligations.PositionCommands : Prop :=
  (∀ (s : State) (n : Fin 8), Served s (POS_CTL.reg.adr n.val) →
    exec (.posArm n) s = .next (if s.flag POS_CFG.EN n.val then s.set POS_STAT.ARMED 1 n.val else s) ∧
    exec (.posDisarm n) s = .next (s.set POS_STAT.ARMED 0 n.val) ∧
    exec (.posLoad n) s = .next (softRef n.val (setCount n.val
      (s.get POS_CNTSETHI.VAL n.val * 2 ^ 32 + s.get POS_CNTSETLO.VAL n.val) s.nowNs s)) ∧
    exec (.posRefset n) s = .next (softRef n.val s) ∧
    exec (.posLatchCmd n) s = .next (posLatch n.val s.nowNs 0 s)) ∧
  (∀ (s : State) (n : Fin 8), s.get POS_CFG.REFSRC n.val ≠ 3 → softRef n.val s = s) ∧
  (∀ (s : State) (n : Fin 8) (t k : Nat),
    (posLatch n.val t k s).flag POS_LATCHST.VALID n.val = true ∧
    (posLatch n.val t k s).get POS_LATCHCLO.CNT n.val = (s.chan n.val).cnt % 2 ^ 32 ∧
    (posLatch n.val t k s).get POS_LATCHTLO.T n.val = shortForm t % 2 ^ 32 ∧ (posLatch n.val t k s).chans = s.chans) ∧
  (∀ (s : State) (n : Fin 8), Served s (POS_CNTLO.reg.adr n.val) →
    exec (.posCntRead n) s = .next ((s.set POS_CNTHI.CNT (codeOf 32 (signedOf 16 ((s.chan n.val).cnt / 2 ^ 32))) n.val).emit
      (.readData (POS_CNTLO.reg.adr n.val) ((s.chan n.val).cnt % 2 ^ 32)))) ∧
  (∀ (s : State) (k : Fin 8), Served s (POS_PRBTHI.reg.adr k.val) →
    exec (.posLatchTimeRead true k) s = .next ((s.emit (.readData (POS_PRBTHI.reg.adr k.val)
      (s.get POS_PRBTHI.T k.val))).set POS_PRBST.VALID 0 k.val)) ∧
  (∀ (s : State) (k : Fin 8), Served s (POS_LATCHTHI.reg.adr k.val) →
    exec (.posLatchTimeRead false k) s = .next ((s.emit (.readData (POS_LATCHTHI.reg.adr k.val)
      (s.get POS_LATCHTHI.T k.val))).set POS_LATCHST.VALID 0 k.val)) ∧
  (∀ (s : State) (n : Fin 8) (v : Word),
    let a := POS_CFG.reg.adr n.val
    Served s a → bitAt v.toNat 31 = true → bitAt (s.rdA a) 31 = true →
    (v.toNat &&& 0x0FB80000) ≠ (s.rdA a &&& 0x0FB80000) →
    exec (.posCfgWrite n v) s = .next (afterBasic 9 a v.toNat (s.rdA a) (s.log 0x0909 [n.val, 0x100]))) ∧
  (∀ (s : State) (n : Fin 8) (v : Word),
    let a := POS_CFG.reg.adr n.val
    Served s a → bitAt v.toNat 31 = false → bitAt (s.rdA a) 31 = false →
    exec (.posCfgWrite n v) s =
      let t := codedWrite a v.toNat s
      .next (afterBasic 9 a v.toNat (s.rdA a) (t.set POS_STAT.LEVELS
        (t.get POS_STAT.LEVELS n.val ^^^ (invBits (s.rdA a) ^^^ invBits v.toNat)) n.val))) ∧
  (∀ (s : State) (n : Fin 8), (s.flag POS_STAT.SSIBUSY n.val = true ∨ s.get POS_CFG.KIND n.val ≠ 3) →
    exec (.ssiPoll n) s = .next s) ∧
  (∀ (s : State) (n : Fin 8), chanOn s n.val = true → s.get POS_CFG.KIND n.val = 3 →
    s.flag POS_STAT.SSIBUSY n.val = false → (s.chan n.val).pause ≤ s.elapsed → conBusy s (0x80 + n.val) = true →
    let t := s.setChan n.val { s.chan n.val with ssiAt := some s.elapsed, ssiFall := s.nowNs }
    exec (.ssiPoll n) s = .next (if bitAt (t.get POS_STAT.LEVELS n.val) 0 then t.set POS_STAT.SSIBUSY 1 n.val
      else ssiBadFrame n.val 1 (setBusy (0x80 + n.val) false t))) ∧
  (∀ (s : State) (n : Fin 8) (d : BitVec 48) (st : BitVec 7) (p tr r : Bool), s.flag POS_STAT.SSIBUSY n.val = false →
    exec (.ssiFrameDone n d st p tr r) s = .next s) ∧
  (∀ (s : State) (n : Fin 8) (d : BitVec 48) (st : BitVec 7) (p r : Bool), s.flag POS_STAT.SSIBUSY n.val = true →
    exec (.ssiFrameDone n d st p true r) s =
      let t := setBusy (0x80 + n.val) false (s.set POS_STAT.SSIBUSY 0 n.val)
      .next (ssiBadFrame n.val 2 (t.setChan n.val { t.chan n.val with
        pause := t.elapsed + 4 * t.get POS_SSITIM2.TPAUSE n.val }))) ∧
  (∀ (s : State) (st : Fin 64) (it : Item), evalItems s st.val 0 = [it] → s.ven.pics = [] →
    2 * s.nowNs ≤ midTwiceOf s it.body + 200 → exec (.posTagEval st) s = .next s) ∧
  (∀ (s : State) (st : Fin 64) (it : Item), evalItems s st.val 0 = [it] → midTwiceOf s it.body + 200 < 2 * s.nowNs →
    let e := evalPosition st.val it.seq (midTwiceOf s it.body) s
    let t := mapItem it.id (fun x => { x with
      body := putBody 28 e.1.posB (putBody 24 e.1.posA x.body)
      flags := x.flags ||| e.1.flags
      wait := x.wait - 1 }) e.2
    t.ven.pics = [] →
    exec (.posTagEval st) s = .next { t with ven := { t.ven with
      evals := (st.val, e.1) :: t.ven.evals.filter (fun p => p.1 != st.val) } })

/-- A wheel with no edge on its way does nothing at WHEEL_TOOTH; an OFF wheel drops the edge. A missing tooth does
nothing outside SYNCED and in the gap; in SYNCED with fewer misses than MISSMAX it counts a miss, fires TWS_MISS, logs
0x0A01 and makes a synthetic tooth one pitch after the last; at MISSMAX it is a sync error of cause 2. The end of the
gap without an edge is a sync error of cause 3 in the gap only. A stall of an OFF wheel does nothing; of another it
leaves NOSYNC with P = 0. A write of TWS_WCFG with EN and a TEETH outside 8 to 4,096 is refused with 0x0A09; EN from 0
enters NOSYNC. An item whose angle is not yet known keeps waiting; otherwise the angle and PREDICTED join its tag. The
model's choices that it rests on: log entries 29, 46, 76, 77. (R393, R396, R398, R399, R400, R402, R422, R423,
12_tooth_wheel_and_scheduler.md.) -/
def Obligations.ToothWheels : Prop :=
  (∀ (s : State) (w : Fin 4), (s.wheel w.val).edges = [] → exec (.wheelTooth w) s = .next s) ∧
  (∀ (s : State) (w : Fin 4) (t : Nat) (rest : List Nat), (s.wheel w.val).edges = t :: rest →
    let u := s.setWheel w.val { s.wheel w.val with edges := rest }
    exec (.wheelTooth w) s = .next (if wheelState u w.val = 0 then u
      else if wheelState u w.val = 3 then syncedEdge w.val t u else seekEdge w.val t u)) ∧
  (∀ (s : State) (w : Fin 4), (wheelState s w.val ≠ 3 ∨ wheelTeeth s w.val ≤ s.get TWS_WSTAT.TOOTH w.val +
    wheelGap s w.val + 1) → exec (.syntheticTooth w) s = .next s) ∧
  (∀ (s : State) (w : Fin 4), wheelState s w.val = 3 →
    s.get TWS_WSTAT.TOOTH w.val + wheelGap s w.val + 1 < wheelTeeth s w.val →
    let k := s.get TWS_WSTAT.TOOTH w.val + 1
    exec (.syntheticTooth w) s = .next (if s.get TWS_WTH2.MISSMAX w.val ≤ (s.wheel w.val).misses then
      syncError w.val 2 ((s.wheel w.val).prev.getD (s.wheel w.val).tk) s
      else newTooth w.val k ((s.wheel w.val).tk + (s.wheel w.val).per) true
        (((s.count TWS_WCNT.MISS w.val).fire (0x1B0 + w.val)).log 0x0A01 [w.val, k]))) ∧
  (∀ (s : State) (w : Fin 4), exec (.wheelGapTimeout w) s = .next (if wheelState s w.val = 3 ∧
    s.get TWS_WSTAT.TOOTH w.val + wheelGap s w.val + 1 = wheelTeeth s w.val then
    syncError w.val 3 ((s.wheel w.val).prev.getD (s.wheel w.val).tk) s else s)) ∧
  (∀ (s : State) (w : Fin 4) (c t : Nat),
    let u := syncError w.val c t s
    wheelState u w.val = 1 ∧ (u.wheel w.val).prev = some t ∧ (u.wheel w.val).since = none) ∧
  (∀ (s : State) (w : Fin 4), wheelState s w.val = 0 → exec (.wheelStall w) s = .next s) ∧
  (∀ (s : State) (w : Fin 4), wheelState s w.val ≠ 0 → ∃ t, exec (.wheelStall w) s = .next t ∧ wheelState t w.val = 1 ∧
    (t.wheel w.val).per = 0 ∧ (t.wheel w.val).ivs = [] ∧ t.get TWS_WPER.P w.val = 0) ∧
  (∀ (s : State) (w : Fin 4) (v : Word),
    let a := TWS_WCFG.reg.adr w.val
    Served s a → bitAt v.toNat 31 = true → (v.toNat % 8192 < 8 ∨ 4096 < v.toNat % 8192) →
    exec (.twsWcfgWrite w v) s = .next (afterBasic 10 a v.toNat (s.rdA a) (s.log 0x0A09 [a - 0x540000]))) ∧
  (∀ (s : State) (w : Fin 4) (v : Word),
    let a := TWS_WCFG.reg.adr w.val
    Served s a → bitAt v.toNat 31 = true → bitAt (s.rdA a) 31 = false → 8 ≤ v.toNat % 8192 → v.toNat % 8192 ≤ 4096 →
    exec (.twsWcfgWrite w v) s =
      let t := codedWrite a v.toNat s
      let u := t.set TWS_WSTAT.STATE 1 w.val
      .next (afterBasic 10 a v.toNat (s.rdA a) (u.setWheel w.val { t.wheel w.val with
        edges := []
        prev := none
        ivs := []
        normal := none }))) ∧
  (∀ (s : State) (st : Fin 64) (due : Bool), evalItems s st.val 1 = [] → exec (.angleTagEval st due) s = .next s) ∧
  (∀ (s : State) (st : Fin 64) (it : Item) (due : Bool), evalItems s st.val 1 = [it] → s.flag TWS_ANGSEL.EN st.val = true →
    exec (.angleTagEval st due) s =
      match angleAt s (s.get TWS_ANGSEL.WHEEL st.val) (midTwiceOf s it.body) due with
      | none => .next s
      | some (v, p) => .next (mapItem it.id (fun x => { x with
        body := putBody 32 v x.body
        flags := x.flags ||| 8 * b2n p
        wait := x.wait - 2 }) s))

/-- The next instant of an armed TIME entry joins its pending ones on its tick and the following one is a PERIOD
later, none for PERIOD 0; before that nothing happens. A pending instant that no SUPPRESS holds fires on its tick when
the entry is armed: the fire counts, its instant leaves, and an entry with COUNT reached is DONE and disarmed. A write
of CTL clears DONE and FIRES and puts the staged words in effect; where the mode does not arm it the entry stays
disarmed. A line fires on its tick as TWS_LTICK, and TWS_LINE for the first line of a block; a line nearer than MINPER
to the last is dropped, counted and logged as 0x0A08. The model's choices that it rests on: log entries 8, 78, 79,
111. (R404, R405, R406, R411, R412, R413, R414, R416, R417, R418, 12_tooth_wheel_and_scheduler.md.) -/
def Obligations.SchedulerAndLines : Prop :=
  (∀ (s : State) (e : Fin 64), (s.entry e.val).next = none → exec (.timeEntryDue e) s = .next s) ∧
  (∀ (s : State) (e : Fin 64) (t : Nat), (s.entry e.val).next = some t → s.now8 + 16 ≤ t →
    exec (.timeEntryDue e) s = .next s) ∧
  (∀ (s : State) (e : Fin 64) (t : Nat), (s.entry e.val).next = some t → (s.entry e.val).armed = true →
    (s.entry e.val).kind = 1 → t < s.now8 + 16 →
    exec (.timeEntryDue e) s = .next (s.setEntry e.val { s.entry e.val with
      pend := (s.entry e.val).pend ++ [{ inst := t }]
      next := if (s.entry e.val).period8 = 0 then none else some (t + (s.entry e.val).period8) })) ∧
  (∀ (s : State) (e : Fin 64), (s.entry e.val).pend = [] → exec (.schedFire e) s = .next s) ∧
  (∀ (s : State) (e : Fin 64) (p : FireAt) (rest : List FireAt), (s.entry e.val).pend = p :: rest → p.sup = false →
    p.inst < s.now8 + 16 → (s.entry e.val).armed = true → exec (.schedFire e) s = .next (fireEntry e.val p s)) ∧
  (∀ (s : State) (e : Fin 64) (p : FireAt) (rest : List FireAt), (s.entry e.val).pend = p :: rest →
    (s.entry e.val).kind = 1 → bitAt p.flags 0 = false → bitsOf ((s.entry e.val).word 0) 15 0 = 0 →
    fireEntry e.val p s = ((s.fireAt (0x160 + e.val) (p.inst * 2 ^ 29) p.flags).count TWS_ENTFIRES.FIRES e.val).setEntry
      e.val { s.entry e.val with pend := rest }) ∧
  (∀ (s : State) (e : Fin 64) (p : FireAt), (s.entry e.val).kind = 1 → bitAt p.flags 0 = false →
    bitsOf ((s.entry e.val).word 0) 15 0 = s.get TWS_ENTFIRES.FIRES e.val + 1 →
    (fireEntry e.val p s).flag TWS_ENTCTL.DONE e.val = true ∧ ((fireEntry e.val p s).entry e.val).armed = false ∧
      ((fireEntry e.val p s).entry e.val).pend = []) ∧
  (∀ (s : State) (e : Fin 64) (v : Word), Served s (TWS_ENTCTL.reg.adr e.val) →
    let t := ((codedWrite (TWS_ENTCTL.reg.adr e.val) v.toNat s).set TWS_ENTCTL.DONE 0 e.val).set TWS_ENTFIRES.FIRES 0 e.val
    let ws := (List.range 7).map (fun k => t.rdA (TWS_ENTCTL.reg.adr e.val + 4 * k))
    let u := t.setEntry e.val { kind := bitsOf (ws.getD 0 0) 30 29, words := ws }
    mayArm u (schedMode u) e.val = false → (u.entry e.val).kind = (s.entry e.val).kind →
    exec (.entryCtlWrite e v) s = .next u) ∧
  (∀ s : State, s.tws.lines = [] → exec .lineFire s = .next s) ∧
  (∀ (s : State) (k t : Nat) (rest : List (Nat × Nat)), s.tws.lines = (k, t) :: rest → s.now8 + 16 ≤ t →
    exec .lineFire s = .next s) ∧
  (∀ (s : State) (k t : Nat) (rest : List (Nat × Nat)), s.tws.lines = (k, t) :: rest → t < s.now8 + 16 →
    s.tws.lineAt = none →
    let u := ({ s with tws := { s.tws with lines := rest, lineAt := some t } }).fireAt 0x1A1 (t * 2 ^ 29) 0
    exec .lineFire s = .next (if k % max 1 (u.get TWS_LSCFG.BLKLINES) = 0 then u.fireAt 0x1A0 (t * 2 ^ 29) 0 else u)) ∧
  (∀ (s : State) (k t l : Nat) (rest : List (Nat × Nat)), s.tws.lines = (k, t) :: rest → t < s.now8 + 16 →
    s.tws.lineAt = some l → t < l + 8 * s.get TWS_LSMINPER.NS →
    let u := markOverrun ((({ s with tws := { s.tws with lines := rest, lineAt := some t } }).count
      TWS_LSDROP.COUNT).logSec 0x0A08 0 [k])
    exec .lineFire s = .next (if k % max 1 (u.get TWS_LSCFG.BLKLINES) = 0 then u.fireAt 0x1A0 (t * 2 ^ 29) 0 else u))

/-- With nothing fired BEAT_EVENT does nothing; otherwise the fired events of the oldest instant leave the list and
are carried, except while BTM is held in reset, when they are lost. An event at a busy consumer with PEND set and
nothing held is held with PENDING; with one held already it is lost, with OVR and BTM_OVR. A pin that keeps its level
carries no event. A consumer that does not take events discards them. A held event is accepted once the consumer is
idle, and clears PENDING; nothing held, or still busy, changes nothing. BTM_FIRE carries an event on each beat whose
bit is written. A write of BTM_CSEL for a number that R429 assigns stores EN, BEAT and a programmable PEND; others do
nothing. A written source or cell word takes effect with the asynchronous marks. A filter that does not count is not
touched by its expiry; the delay filter takes its input's level at it. The model's choices that it rests on: log
entries 29, 62, 63, 64, 95. (R429, R430, R438, R439, R441, R442, R443, R449, R450, R452,
13_beat_matrix_and_chime_cells.md.) -/
def Obligations.BeatMatrix : Prop :=
  (∀ s : State, s.fired = [] → exec (.beatEvent none) s = .next s) ∧
  (∀ (s : State) (f : Fired) (rest : List Fired), s.fired = f :: rest → (s.clk.coreUp = false ∨ unitHeld
      { s with fired := s.fired.drop (sameInstant [] f.time s.fired).length } 11 = true) →
    exec (.beatEvent none) s = .next { s with fired := s.fired.drop (sameInstant [] f.time s.fired).length }) ∧
  (∀ (s : State) (f : Fired), s.fired = [f] → s.clk.coreUp = true → unitHeld { s with fired := [] } 11 = false →
    pinLevelProducer { s with fired := [] } f.prod = false → beatsFrom { s with fired := [] } f.prod = [] →
    exec (.beatEvent none) s = .next (runCells [] (sendTriggers [] (settleMomentary { s with fired := [] })))) ∧
  (∀ (s : State) (k : Fin 9), exec (.beatEvent (some (k, bitAt s.btm.pins k.val))) s =
    .next (deliverBatch [] false (seeGuards s))) ∧
  (∀ (s : State) (i : Nat) (f : Fired) (soft : Bool), consumerTakes s i = false → offerEvent i f soft s = (false, s)) ∧
  (∀ (s : State) (i : Fin 448) (f : Fired) (soft : Bool), consumerTakes s i.val = true → conBusy s i.val = true →
    s.flag BTM_CSEL.PEND i.val = true → (s.con i.val).held = none →
    offerEvent i.val f soft s = (false, ((endLossRun i.val s).setCon i.val { s.con i.val with
      held := some (latchOf s f soft), latch := latchOf s f soft }).set BTM_CSEL.PENDING 1 i.val)) ∧
  (∀ (s : State) (i : Fin 448) (f : Fired) (soft : Bool), consumerTakes s i.val = true → conBusy s i.val = true →
    (s.flag BTM_CSEL.PEND i.val = false ∨ (s.con i.val).held.isSome = true) →
    offerEvent i.val f soft s = (false, loseEvent i.val s)) ∧
  (∀ (s : State) (i : Fin 512), (i.val < 0x90 ∨ 0xD0 ≤ i.val) → (s.con i.val).held = none →
    exec (.heldEventAccept i) s = .next s) ∧
  (∀ (s : State) (i : Fin 512) (lat : Latch), (0x40 ≤ i.val ∧ i.val < 0x90 ∨ 0xD0 ≤ i.val) →
    (s.con i.val).held = some lat → conBusy s i.val = false →
    let t := (s.setCon i.val { s.con i.val with held := none }).set BTM_CSEL.PENDING 0 i.val
    exec (.heldEventAccept i) s = .next (if consumerTakes t i.val then
      acceptEvent i.val lat t.now true (endLossRun i.val t) else t)) ∧
  (∀ (s : State) (k : Fin 8) (v : Word), Served s (BTM_FIRE.reg.adr k.val) →
    exec (.softFire k v) s = .next (deliverBatch ((((List.range 32).filter (bitAt v.toNat)).map (32 * k.val + ·)).map
      (fun b => (b, (⟨0, s.now, 0⟩ : Fired)))) true s)) ∧
  (∀ (s : State) (i : Fin 512) (v : Word), Served s (BTM_CSEL.reg.adr i.val) → consumerThere i.val = false →
    exec (.cselWrite i v) s = .next s) ∧
  (∀ (s : State) (i : Fin 512) (v : Word), Served s (BTM_CSEL.reg.adr i.val) → consumerThere i.val = true →
    pendFree i.val = true → 66 ≤ i.val → bitAt v.toNat 31 = true → bitAt v.toNat 30 = true → bitAt v.toNat 29 = false →
    exec (.cselWrite i v) s = .next (refreshAsync ((((seeGuards s).set BTM_CSEL.EN (v.toNat / 2147483648) i.val).set
      BTM_CSEL.PEND 1 i.val).set BTM_CSEL.BEAT v.toNat i.val))) ∧
  (∀ (s : State) (b : Fin 256) (v : Word), Served s (BTM_BEAT.reg.adr b.val) →
    exec (.beatSrcWrite b v) s =
      let t := refreshAsync (codedWrite (BTM_BEAT.reg.adr b.val) v.toNat (seeGuards s))
      .next (((selecting t).filter (fun i => i < 0x42 && t.get BTM_CSEL.BEAT i == b.val)).foldl
        (fun u i => recheckConsumer i u) t)) ∧
  (∀ (s : State) (c : Fin 32) (v : Word), Served s (BTM_CELL0.reg.adr c.val) → bitAt v.toNat 31 = false →
    exec (.cellWrite c v) s =
      let a := BTM_CELL0.reg.adr c.val
      .next (afterBasic 11 a v.toNat (s.rdA a) (runCells [] (refreshAsync (((codedWrite a v.toNat (seeGuards s)).setCell
        c.val {}).set BTM_CELL2.LEVEL 0 c.val))))) ∧
  (∀ (s : State) (c : Fin 32), (s.cell c.val).counting = false → exec (.chimeFilterExpiry c) s = .next s) ∧
  (∀ (s : State) (c : Fin 32), (syncCells s).contains c.val = true → (s.cell c.val).counting = true →
    (s.setCell c.val { s.cell c.val with counting := false }).get BTM_CELL0.FILT c.val = 1 →
    exec (.chimeFilterExpiry c) s = .next (runCells [] (setCellLevel c.val (s.cell c.val).pre
      (s.setCell c.val { s.cell c.val with counting := false }))))

/-- An output with no pulse, or whose trailing edge is still to come, is not touched by its end; at the end of a live
pulse the consumer is idle, the last edge is kept, a TOGGLE output changes its level, and the pulse has left the pin;
a pulse accepted while the outputs were safe leaves nothing. A strobe behaves alike, its guard seen first. The guard
trips when its level reaches a CAP above 0: TRIP is set, the trip counted, OUT_GUARD fired and 0x0C01 logged with the
pulse cut; below CAP, or already tripped, only the guard is seen. TRIP clears at half of CAP. Loss of the edge loop's
lock clears LOCK and logs 0x0C03; lock sets it while CLK_TIME runs. (R461, R462, R463, R465, R466, R467,
14_trigger_strobe_and_analog_outputs.md.) -/
def Obligations.TriggerAndStrobeOutputs : Prop :=
  (∀ (s : State) (n : Fin 16), (s.trigOut n.val).pulse = none → exec (.trigPulseEnd n) s = .next s) ∧
  (∀ (s : State) (n : Fin 16) (p : OutPulse), (s.trigOut n.val).pulse = some p → s.phys8 + 16 < p.trail →
    exec (.trigPulseEnd n) s = .next s) ∧
  (∀ (s : State) (n : Fin 16) (p : OutPulse), (s.trigOut n.val).pulse = some p → p.trail ≤ s.phys8 + 16 →
    exec (.trigPulseEnd n) s =
      let e := if p.toggle then p.lead else p.trail
      let t := setBusy (0x48 + n.val) false (s.setTrig n.val {
        pulse := none
        edge := e
        level := if p.toggle = true ∧ p.dead = false then !(s.trigOut n.val).level else (s.trigOut n.val).level })
      .next (if p.dead then t else t.emit (.outPulse n.val p.lead e))) ∧
  (∀ (s : State) (k : Fin 8), (s.strobe k.val).pulse = none → exec (.strobePulseEnd k) s = .next s) ∧
  (∀ (s : State) (k : Fin 8) (p : OutPulse), (s.strobe k.val).pulse = some p → s.phys8 + 16 < p.trail →
    exec (.strobePulseEnd k) s = .next s) ∧
  (∀ (s : State) (k : Fin 8) (p : OutPulse), (s.strobe k.val).pulse = some p → p.trail ≤ s.phys8 + 16 → p.dead = false →
    p.cut = none → (seeGuard k.val s).flag OUT_SSTAT.TRIP k.val = false → ((seeGuard k.val s).strobe k.val).pulse = some p →
    exec (.strobePulseEnd k) s =
      let t := seeGuard k.val s
      let u := setBusy (0x58 + k.val) false (t.setStrobe k.val { t.strobe k.val with pulse := none, edge := p.trail })
      .next (u.emit (.outPulse (16 + k.val) p.lead p.trail))) ∧
  (∀ (s : State) (k : Fin 8),
    let t := seeGuard k.val s
    (t.get OUT_SCAP.CAP k.val = 0 ∨ t.flag OUT_SSTAT.TRIP k.val = true ∨
      (t.strobe k.val).level < t.get OUT_SCAP.CAP k.val * 65536) → exec (.guardTrip k) s = .next t) ∧
  (∀ (s : State) (k : Fin 8),
    let t := seeGuard k.val s
    t.get OUT_SCAP.CAP k.val ≠ 0 → t.flag OUT_SSTAT.TRIP k.val = false →
    t.get OUT_SCAP.CAP k.val * 65536 ≤ (t.strobe k.val).level → (t.strobe k.val).pulse = none →
    exec (.guardTrip k) s = .next (((((t.setStrobe k.val { t.strobe k.val with pulse := none }).set OUT_SSTAT.TRIP 1
      k.val).count OUT_SCNT.TRIPS k.val).fire (0x1E0 + k.val)).log 0x0C01 [k.val, 0])) ∧
  (∀ (s : State) (k : Fin 8),
    let t := seeGuard k.val s
    exec (.guardClear k) s = .next (if t.flag OUT_SSTAT.TRIP k.val = true ∧
      2 * (t.strobe k.val).level ≤ t.get OUT_SCAP.CAP k.val * 65536 then
      (judgeSuppressed k.val t).set OUT_SSTAT.TRIP 0 k.val else t)) ∧
  (∀ s : State, exec .dllUnlock s = .next ((s.set OUT_CALSTAT.LOCK 0).log 0x0C03)) ∧
  (∀ s : State, exec .dllLock s = .next (if s.clk.timeUp then s.set OUT_CALSTAT.LOCK 1 else s))

/-- A write of AENA stores EN, clears CLAMPED and lets every output follow its conditions. A written AVAL goes to the
converter at once unless UPD is set or the output is in HOLDOFF. A write of ARNG with a range of 5 or more is refused
with 0x0C04; with the range in use it is a write of AVAL; with another it stores both, and an output that is not
CLAMPED enters HOLDOFF with its switch open. HOLDOFF ends in CONNECT with the value taken, CONNECT in DRIVING;
elsewhere those ends do nothing. The end of the discharge opens its path. An overload sets OVLD and logs 0x0C05; a
loss of compliance counts in the current range only; the end of either clears its bit. The model's choices that it
rests on: log entries 29, 82. (R468, R469, R470, R471, R472, R473, 14_trigger_strobe_and_analog_outputs.md.) -/
def Obligations.AnalogOutputs : Prop :=
  (∀ (s : State) (v : Word), Served s (OUT_AENA.reg.adr 0) → analogThere s = true →
    exec (.aenaWrite v) s = .next (analogAll ((s.set OUT_AENA.EN v.toNat).set OUT_AENA.CLAMPED 0))) ∧
  (∀ (s : State) (a : Fin 4) (v : Word), Served s (OUT_AVAL.reg.adr a.val) → analogThere s = true →
    exec (.avalWrite a v) s =
      let t := s.set OUT_AVAL.CODE v.toNat a.val
      .next (if t.flag OUT_ACFG.UPD a.val = true ∨ analogState t a.val = 1 then t
        else t.set OUT_AOUT.CODE (t.get OUT_AVAL.CODE a.val) a.val)) ∧
  (∀ (s : State) (a : Fin 4) (v : Word),
    let x := OUT_ARNG.reg.adr a.val
    Served s x → analogThere s = true → 5 ≤ bitsOf v.toNat 18 16 →
    exec (.arngWrite a v) s = .next (afterBasic 12 x v.toNat (s.rdA x) (s.log 0x0C04 [a.val, bitsOf v.toNat 18 16]))) ∧
  (∀ (s : State) (a : Fin 4) (v : Word),
    let x := OUT_ARNG.reg.adr a.val
    let r := bitsOf v.toNat 18 16
    let t := (s.set OUT_ARNG.RANGE r a.val).set OUT_AVAL.CODE v.toNat a.val
    let u := if t.flag OUT_LEVEL.EXPERT then t else deriveCal a.val t
    Served s x → analogThere s = true → r < 5 → r ≠ s.get OUT_ARNG.RANGE a.val →
    exec (.arngWrite a v) s = .next (afterBasic 12 x v.toNat (s.rdA x)
      (if analogState u a.val = 0 then u else analogOpen a.val 1 u))) ∧
  (∀ (s : State) (a : Fin 4) (v : Word),
    let x := OUT_ARNG.reg.adr a.val
    Served s x → analogThere s = true → bitsOf v.toNat 18 16 = s.get OUT_ARNG.RANGE a.val → bitsOf v.toNat 18 16 < 5 →
    exec (.arngWrite a v) s = .next (afterBasic 12 x v.toNat (s.rdA x) (avalWrite a.val v.toNat s))) ∧
  (∀ (s : State) (a : Fin 4), exec (.holdoffEnd a) s = .next (if analogState s a.val = 1 then
    (s.set OUT_ASTAT.STATE 2 a.val).set OUT_AOUT.CODE (s.get OUT_AVAL.CODE a.val) a.val else s)) ∧
  (∀ (s : State) (a : Fin 4), exec (.connectEnd a) s = .next (if analogState s a.val = 2 then
    s.set OUT_ASTAT.STATE 3 a.val else s)) ∧
  (∀ (s : State) (a : Fin 4), exec (.dischargeEnd a) s =
    .next (s.setAnalog a.val { s.analog a.val with discharge := false })) ∧
  (∀ (s : State) (a : Fin 4), analogThere s = true →
    exec (.aoutFault a false) s = .next ((s.set OUT_ASTAT.OVLD 1 a.val).log 0x0C05 [a.val, 1]) ∧
    (s.get OUT_ARNG.RANGE a.val = 4 →
      exec (.aoutFault a true) s = .next ((s.set OUT_ASTAT.COMPL 1 a.val).log 0x0C05 [a.val, 2])) ∧
    (s.get OUT_ARNG.RANGE a.val ≠ 4 → exec (.aoutFault a true) s = .next s)) ∧
  (∀ (s : State) (a : Fin 4), exec (.aoutFaultClear a true) s = .next (s.set OUT_ASTAT.COMPL 0 a.val) ∧
    exec (.aoutFaultClear a false) s = .next (s.set OUT_ASTAT.OVLD 0 a.val))

/-- While the host is served: a doorbell of an IDLE queue sets PI (log entry 21), of a RESETTING queue does nothing,
of another queue sets PI modulo 2 Nd and lets the queue go on, or, where it would make more than Nd descriptors
available on an ACTIVE queue, ends what is open and waiting and pauses it with reason DOORBELL and error 0x0D03. A
queue command is discarded while BUSY; ENABLE, PAUSE, RESUME and MARK act in the states of R514 and else set RESULT
and log 0x0D05; RESET leaves the queue RESETTING until its end, when it is IDLE. A context word is written only in
IDLE; a map entry is refused when its set passes queue 16383. The self test starts in SERVICE with every queue IDLE,
and clears every context. The model's choices that it rests on: log entry 52. (R486, R494, R511, R512, R513, R514,
R515, R517, R518, 15_queues_and_frame_tags.md.) -/
def Obligations.QueueCommands : Prop :=
  (∀ (s : State) (q : Fin 16384) (v : Word), DoorbellServed s → queueState s q.val = 0 →
    exec (.doorbellWrite q v) s = .next (s.set QUE_CTX6.PI (v.toNat % 2 ^ 17 % (2 * descSlots s q.val)) q.val)) ∧
  (∀ (s : State) (q : Fin 16384) (v : Word), DoorbellServed s → queueState s q.val = 3 →
    exec (.doorbellWrite q v) s = .next s) ∧
  (∀ (s : State) (q : Fin 16384) (v : Word), DoorbellServed s → queueState s q.val = 1 →
    descSlots s q.val < (v.toNat % 2 ^ 17 % (2 * descSlots s q.val) + 2 * descSlots s q.val -
      s.get QUE_CTX7.CI q.val % (2 * descSlots s q.val)) % (2 * descSlots s q.val) →
    exec (.doorbellWrite q v) s = .next
      ((pauseQueue q.val 4 (dropWaiting q.val 2 (cutOpen q.val 1 6 s))).log 0x0D03 [q.val, v.toNat])) ∧
  (∀ (s : State) (q : Fin 16384) (v : Word), DoorbellServed s → (queueState s q.val = 1 ∨ queueState s q.val = 2) →
    (v.toNat % 2 ^ 17 % (2 * descSlots s q.val) + 2 * descSlots s q.val -
      s.get QUE_CTX7.CI q.val % (2 * descSlots s q.val)) % (2 * descSlots s q.val) ≤ descSlots s q.val →
    exec (.doorbellWrite q v) s = .next (promote q.val (fillOpen q.val
      (s.set QUE_CTX6.PI (v.toNat % 2 ^ 17 % (2 * descSlots s q.val)) q.val)))) ∧
  (∀ (s : State) (q : Fin 16384), Served s 0x800020 → s.flag QUE_QCMDSTAT.BUSY = true →
    exec (.queueEnable q) s = .next s ∧ exec (.queuePause q) s = .next s ∧ exec (.queueResume q) s = .next s ∧
    exec (.queueReset q) s = .next s ∧ exec (.queueMark q) s = .next s) ∧
  (∀ (s : State) (q : Fin 16384), Served s 0x800020 → s.flag QUE_QCMDSTAT.BUSY = false → queueState s q.val = 0 →
    exec (.queueEnable q) s = .next (if contextValid s q.val = true then
        promote q.val ((s.set QUE_CTX9.STATE 1 q.val).set QUE_QCMDSTAT.RESULT 0)
      else (s.set QUE_QCMDSTAT.RESULT 2).log 0x0D05 [q.val, 1, 2]) ∧
    exec (.queuePause q) s = .next ((s.set QUE_QCMDSTAT.RESULT 1).log 0x0D05 [q.val, 2, 1]) ∧
    exec (.queueResume q) s = .next ((s.set QUE_QCMDSTAT.RESULT 1).log 0x0D05 [q.val, 3, 1]) ∧
    exec (.queueMark q) s = .next ((s.set QUE_QCMDSTAT.RESULT 1).log 0x0D05 [q.val, 5, 1])) ∧
  (∀ (s : State) (q : Fin 16384), Served s 0x800020 → s.flag QUE_QCMDSTAT.BUSY = false → queueState s q.val = 1 →
    exec (.queueEnable q) s = .next ((s.set QUE_QCMDSTAT.RESULT 1).log 0x0D05 [q.val, 1, 1]) ∧
    exec (.queuePause q) s = .next ((pauseQueue q.val 1 s).set QUE_QCMDSTAT.RESULT 0)) ∧
  (∀ (s : State) (q : Fin 16384), Served s 0x800020 → s.flag QUE_QCMDSTAT.BUSY = false → queueState s q.val = 2 →
    (s.get QUE_CTX9.REASON q.val = 2 ∨ s.get QUE_CTX9.REASON q.val = 6) → canMaster s = false →
    exec (.queueResume q) s = .next ((s.set QUE_QCMDSTAT.RESULT 3).log 0x0D05 [q.val, 3, 3])) ∧
  (∀ (s : State) (q : Fin 16384), Served s 0x800020 → s.flag QUE_QCMDSTAT.BUSY = false → queueState s q.val = 2 →
    canMaster s = true → ((clearPaused q.val s).set QUE_CTX9.STATE 1 q.val).queue q.val = {} →
    exec (.queueResume q) s = .next
      (promote q.val (((clearPaused q.val s).set QUE_CTX9.STATE 1 q.val).set QUE_QCMDSTAT.RESULT 0))) ∧
  (∀ (s : State) (q : Fin 16384), Served s 0x800020 → s.flag QUE_QCMDSTAT.BUSY = false →
    exec (.queueReset q) s = .next ((queueReset q.val (s.set QUE_QCMDSTAT.RESULT 0)).set QUE_QCMDSTAT.BUSY 1)) ∧
  (∀ (s : State) (q : Fin 16384), Served s 0x800020 → s.flag QUE_QCMDSTAT.BUSY = false →
    (queueState s q.val = 1 ∨ queueState s q.val = 2) → s.queue q.val = {} →
    let m : Item := {
      source := 5
      kind := 7
      seq := s.get QUE_QARG.ARG
      flags := if s.unsync then 16 else 0
      ended := true
      body := leBytes 8 (shortForm s.nowNs) ++ leBytes 8 (shortForm s.nowNs) }
    exec (.queueMark q) s =
      .next (promote q.val ((s.setQueue q.val { waiting := [m] }).set QUE_QCMDSTAT.RESULT 0))) ∧
  (∀ (s : State) (q : Fin 16384), exec (.queueResetDone q) s = .next (if queueState s q.val = 3 then
    (s.set QUE_CTX9.STATE 0 q.val).set QUE_QCMDSTAT.BUSY 0 else s)) ∧
  (∀ (s : State) (q : Fin 16384) (w : Fin 6) (v : Word), Served s (0x900000 + 0x40 * q.val + 4 * w.val) →
    exec (.queCtxWrite q w v) s = .next (if queueState s q.val = 0 then
        s.wrA (0x900000 + 64 * q.val + 4 * w.val)
          (v.toNat &&& (if w.val = 4 then 0xFFE007FF else if w.val = 5 then 0xFF00FFFF else 0xFFFFFFFF))
      else s.log 0x0D09 [q.val, w.val])) ∧
  (∀ (s : State) (st : Fin 64) (r : Fin 6) (v : Word), Served s (0x801000 + 0x20 * st.val + 4 * r.val) →
    exec (.queMapWrite false st r v) s = .next (
      if 16383 < v.toNat % 2 ^ 14 + 2 ^ min 6 (v.toNat / 2 ^ 24 % 8) - 1 then s.log 0x0D05 [v.toNat % 2 ^ 14, 0, 2]
      else s.wrA (0x801000 + 0x20 * st.val + 4 * r.val) (v.toNat &&& 0xC7003FFF))) ∧
  (∀ (s : State) (st : Fin 64) (r : Fin 6) (v : Word), Served s (0x801800 + 4 * (st.val % 32)) →
    exec (.queMapWrite true st r v) s = .next (
      if 16383 < v.toNat % 2 ^ 14 + 2 ^ min 6 (v.toNat / 2 ^ 24 % 8) - 1 then s.log 0x0D05 [v.toNat % 2 ^ 14, 0, 2]
      else s.wrA (0x801800 + 4 * (st.val % 32)) (v.toNat &&& 0xC7003FFF))) ∧
  (∀ s : State, Served s 0x800080 → (modeNow s ≠ 7 ∨ liveQueues s ≠ [] ∨ s.flag QUE_BIST.RUNNING = true) →
    exec .queBistStart s = .next (s.log 0x0D0B)) ∧
  (∀ s : State, Served s 0x800080 → modeNow s = 7 → s.get GLB_MODESTAT.PHASE = 0 → liveQueues s = [] →
    s.flag QUE_BIST.RUNNING = false →
    exec .queBistStart s = .next ((s.set QUE_BIST.RUNNING 1).set QUE_BIST.RESULT 0)) ∧
  (∀ (s : State) (ok : Bool), s.flag QUE_BIST.RUNNING = false → exec (.queBistDone ok) s = .next s) ∧
  (∀ (s : State) (ok : Bool), s.flag QUE_BIST.RUNNING = true →
    let z := s.clearRegs 0x900000 0xA00000
    let t := (({ z with que := { z.que with queues := [], created := [] } } : State).set QUE_BIST.RUNNING 0).set
      QUE_BIST.RESULT (if ok then 1 else 2)
    exec (.queBistDone ok) s = .next (if ok then t else t.log 0x0D0A))

/-- With no created item a start does nothing; the oldest is discarded and counted when its map entry is disabled,
dropped with PAUSED on a paused queue and with KIND when a payload item meets an EVENT queue, and otherwise waits
behind its queue. A completed descriptor read hands its descriptors over. STARTTO drops the first waiting item with
NODESC; MIDTO ends the open item with TRUNC and 0x0D06. The end of an event item takes one descriptor, of a payload
item writes what is left and its tag; an ERROR tag takes one descriptor when a run of drops is due; the moderation
time sends the message while tags are pending and else does nothing. Every tag has 64 bytes and goes to the completion
slot at CWI. The model's choices that it rests on: log entries 52, 111, 112. (R487, R496, R498, R502, R504, R505,
R506, R508, R509, R514, R516, 15_queues_and_frame_tags.md.) -/
def Obligations.ItemsAndTags : Prop :=
  (∀ s : State, s.que.created = [] → exec .itemStart s = .next s) ∧
  (∀ (s : State) (it : Item) (rest : List Item), s.que.created = it :: rest →
    let t : State := { s with que := { s.que with created := rest } }
    let w := mapWord t it
    let q := chooseQueue t w it.seq
    (bitAt w 31 = false → exec .itemStart s =
      .next (itemGone it ((t.count QUE_NOQ.COUNT).logSec 0x0D08 0 [it.stream, q]))) ∧
    (bitAt w 31 = true → queueState t q = 0 → exec .itemStart s =
      .next (itemGone it ((t.count QUE_NOQ.COUNT).logSec 0x0D08 0 [it.stream, q]))) ∧
    (bitAt w 31 = true → queueState t q = 2 → exec .itemStart s = .next (dropItem q 2 it t)) ∧
    (bitAt w 31 = true → queueState t q = 1 → t.get QUE_CTX4.TYPE q = 1 → hasPayload it.kind = true →
      exec .itemStart s = .next (dropItem q 5 it t)) ∧
    (bitAt w 31 = true → queueState t q = 1 → t.get QUE_CTX4.TYPE q = 0 → t.queue q = {} →
      (t.flag QUE_CTX4.POLICY q = false ∨ 0 < descAvail t q) →
      exec .itemStart s = .next (promote q (t.setQueue q {
        waiting := [it]
        lastFrame := if hasPayload it.kind = true ∧ it.kind ≠ 5 then some (it.stream, it.seq) else none })))) ∧
  (∀ (s : State) (q : Fin 16384), s.que.arrived.find? (fun a => a.1 == q.val) = none →
    exec (.descReadComplete q) s = .next s) ∧
  (∀ (s : State) (q : Fin 16384) (slot : Nat) (bs : List Nat),
    s.que.arrived.find? (fun a => a.1 == q.val) = some (q.val, slot, bs) →
    let t : State := { s with que := { s.que with arrived := s.que.arrived.erase (q.val, slot, bs) } }
    exec (.descReadComplete q) s = .next (promote q.val (fillOpen q.val (t.setQueue q.val { t.queue q.val with
      ready := (t.queue q.val).ready ++
        (List.range (bs.length / 32)).map (fun k => Desc.mk ((slot + k) % descSlots s q.val) (sliceOf bs (32 * k) 32))
      reading := (t.queue q.val).reading - bs.length / 32 })))) ∧
  (∀ (s : State) (q : Fin 16384), (s.queue q.val).item = none → (s.queue q.val).waiting = [] →
    exec (.itemStartTimeout q) s = .next s) ∧
  (∀ (s : State) (q : Fin 16384) (x : Item) (rest : List Item), (s.queue q.val).item = none →
    (s.queue q.val).waiting = x :: rest → x.kind ≠ 7 →
    exec (.itemStartTimeout q) s =
      .next (promote q.val (dropItem q.val 1 x (s.setQueue q.val { s.queue q.val with waiting := rest })))) ∧
  (∀ (s : State) (q : Fin 16384), (s.queue q.val).item = none → exec (.itemMidTimeout q) s = .next s) ∧
  (∀ (s : State) (q : Fin 16384) (it : Item), (s.queue q.val).item = some it → it.descs ≠ [] →
    capacity it < it.payload.length → exec (.itemMidTimeout q) s = .next (promote q.val
      ((itemGone it (deliver q.val it 1 (s.setQueue q.val { s.queue q.val with item := none }))).log 0x0D06
        [q.val, it.stream]))) ∧
  (∀ (s : State) (q : Fin 16384), (canMaster s = false ∨ queueState s q.val = 3) → exec (.itemEnd q) s = .next s) ∧
  (∀ (s : State) (q : Fin 16384) (it : Item) (d : Desc) (rest : List Desc), canMaster s = true → queueState s q.val ≠ 3 →
    (s.queue q.val).item = some it → hasPayload it.kind = false → it.payload = [] → (s.queue q.val).ready = d :: rest →
    exec (.itemEnd q) s = .next (promote q.val (itemGone it (deliverEvent q.val it d
      (s.setQueue q.val { s.queue q.val with item := none, ready := rest }))))) ∧
  (∀ (s : State) (q : Fin 16384) (it : Item), canMaster s = true → queueState s q.val ≠ 3 →
    ((fillOpen q.val s).queue q.val).item = some it → hasPayload it.kind = true → it.descs ≠ [] → it.wait = 0 →
    it.ended = true → it.payload.length ≤ capacity it →
    exec (.itemEnd q) s = .next (promote q.val (itemGone it (deliver q.val it 0
      ((fillOpen q.val s).setQueue q.val { (fillOpen q.val s).queue q.val with item := none }))))) ∧
  (∀ (s : State) (q : Fin 16384), (s.queue q.val).drop = none → exec (.errorTagWrite q) s = .next s) ∧
  (∀ (s : State) (q : Fin 16384) (d : DropRun) (e : Desc) (rest : List Desc), (s.queue q.val).item = none →
    (s.queue q.val).drop = some d → (s.queue q.val).ready = e :: rest → queueState s q.val = 1 → canMaster s = true →
    exec (.errorTagWrite q) s = .next (promote q.val (errorTag q.val d e
      (s.setQueue q.val { s.queue q.val with drop := none, ready := rest })))) ∧
  (∀ (s : State) (q : Fin 16384), exec (.moderationTimeout q) s =
    .next (if s.flag QUE_CTX4.IEN q.val = true ∧ 0 < s.get QUE_CTX9.PENDING q.val then
      (requestMessage 0 q.val (s.get QUE_CTX4.VECTOR q.val) s).set QUE_CTX9.PENDING 0 q.val else s)) ∧
  (∀ (s : State) (q : Nat) (it : Item) (n f : Nat), (tagBytes s q it n f).length = 64) ∧
  (∀ (s : State) (q : Fin 16384) (bs : List Nat) (irq : Bool), s.flag QUE_CTX4.IEN q.val = false →
    let n := compSlots s q.val
    let t := writeTag q.val bs irq s
    t.sent = s.sent ++ [.memWrite (s.get QUE_CTX2.CBASELO q.val + s.get QUE_CTX3.CBASEHI q.val * 2 ^ 32 +
      64 * (s.get QUE_CTX8.CWI q.val % n)) bs 0] ∧
    t.get QUE_CTX8.CWI q.val = (s.get QUE_CTX8.CWI q.val + 1) % (2 * n))

/-- From DOWN with CLK_HOST up the link brings RETRY, with rate and width and HBR_LINKUP and 0x0E02; the end of the
retry period brings SLAVE, or MASTER with Bus Master Enable set in D0; a lost link brings DOWN with HBR_LINKDOWN and
0x0E01, reads abandoned and queues paused with LINKDOWN; Hot Reset also clears the bridge; PERST_N also holds CLK_HOST
in reset. Bus Master Enable cleared, or D3hot with it set, halts the queues with BMEHALT; set again it brings MASTER
and resumes nothing. FLR from SLAVE or MASTER resets R537 and the scope's units and logs 0x0E04, with STATE 4 until
its end. A configuration request is answered with retry in RETRY and FLR, not at all in DOWN, and otherwise performed.
DEDUCED: an event that finds no state to leave does nothing. The model's choices that it rests on: log entries 45, 49,
50, 54, 115. (R97, R529, R530, R531, R532, R534, R536, R537, R540, R541, R542, 16_host_bridge.md.) -/
def Obligations.BridgeStates : Prop :=
  (∀ (s : State) (g : Fin 6) (w : Fin 17) (pg : Fin 7) (pw : Fin 33),
    (s.get HBR_STAT.STATE ≠ 0 ∨ s.clk.hostUp = false ∨ s.clk.testHold = true) → exec (.linkUp g w pg pw) s = .next s) ∧
  (∀ (s : State) (g : Fin 6) (w : Fin 17) (pg : Fin 7) (pw : Fin 33), s.get HBR_STAT.STATE = 0 → s.clk.hostUp = true →
    s.clk.testHold = false →
    let top := if s.fuses.variant = .e then 4 else 5
    let wide := if s.fuses.variant = .e then 8 else 16
    let rate := min (max 1 g.val) top
    let width := min w.val wide
    let u : State := { s with hbr := { s.hbr with linkUp := true } }
    let t := ((((u.set HBR_STAT.STATE 1).set HBR_STAT.GEN rate).set HBR_STAT.WIDTH width).fire 0x250).log 0x0E02
      [rateGts rate, width]
    exec (.linkUp g w pg pw) s = .next (if rate < top ∨ width < wide ∨ rate < pg.val ∨ width < pw.val then
      t.log 0x0E0D [rateGts rate, width] else t)) ∧
  (∀ s : State, s.get HBR_STAT.STATE ≠ 1 → exec .retryEnd s = .next s) ∧
  (∀ s : State, s.get HBR_STAT.STATE = 1 → ∃ t, exec .retryEnd s = .next t ∧ t.get HBR_STAT.STATE =
    if s.flag HBR_STAT.BME = true ∧ s.flag HBR_STAT.D3 = false then 3 else 2) ∧
  (∀ s : State, (s.get HBR_STAT.STATE ≠ 0 ∨ s.hbr.linkUp = true) → ∃ t, exec .linkDown s = .next t ∧
    t = haltContexts 2 (haltQueues 6 (abandonFar ((((((setReads [] (({ s with hbr := { s.hbr with
      linkUp := false } } : State).set HBR_STAT.STATE 0)).set HBR_STAT.L1 0).set HBR_STAT.WIDTH 0).set HBR_STAT.GEN 0).fire
      0x251).log 0x0E01)))) ∧
  (∀ s : State, s.get HBR_STAT.STATE = 0 → s.hbr.linkUp = false → exec .linkDown s = .next s ∧
    exec .hotReset s = .next (bridgeReset s)) ∧
  (∀ s : State, ∃ t, exec .hotReset s = .next t ∧ t.get HBR_STAT.STATE = 0 ∧ t.flag HBR_STAT.BME = false ∧
    t.hbr.msix = [] ∧ t.hbr.pba = [] ∧ t.hbr.heldMsgs = []) ∧
  (∀ s : State, ∃ t, exec .perstAssert s = .next t ∧ t.clk.hostUp = false ∧ t.clk.perstLow = true ∧
    t.get HBR_STAT.STATE = 0 ∧ t.hbr.msix = []) ∧
  (∀ s : State, s.flag HBR_STAT.BME = false → exec .bmeClear s = .next s) ∧
  (∀ s : State, s.flag HBR_STAT.BME = true → exec .bmeClear s = .next (haltContexts 1 (haltQueues 2
    (((settleBridge (s.set HBR_STAT.BME 0)).fire 0x252).log 0x0E03)))) ∧
  (∀ s : State, (s.get HBR_STAT.STATE = 2 ∨ s.get HBR_STAT.STATE = 3) → s.flag HBR_STAT.D3 = false →
    exec .bmeSet s = .next ((s.set HBR_STAT.BME 1).set HBR_STAT.STATE 3)) ∧
  (∀ s : State, s.flag HBR_STAT.D3 = true → exec .d3hotEntry s = .next s) ∧
  (∀ s : State, s.flag HBR_STAT.D3 = false → s.flag HBR_STAT.BME = true → exec .d3hotEntry s = .next
    (haltContexts 1 (haltQueues 2 (((settleBridge (s.set HBR_STAT.D3 1)).fire 0x252).log 0x0E03)))) ∧
  (∀ s : State, (s.get HBR_STAT.STATE = 2 ∨ s.get HBR_STAT.STATE = 3) → exec .d0Return s =
    .next ((s.set HBR_STAT.D3 0).set HBR_STAT.STATE (if s.flag HBR_STAT.BME = true then 3 else 2))) ∧
  (∀ s : State, s.get HBR_STAT.STATE ≠ 2 → s.get HBR_STAT.STATE ≠ 3 → exec .flrStart s = .next (enterReached s)) ∧
  (∀ s : State, (s.get HBR_STAT.STATE = 2 ∨ s.get HBR_STAT.STATE = 3) → exec .flrStart s =
    .next (enterReached ((flrScope (s.get HBR_FLRSCOPE.SCOPE) (flrNotify (flrQueues (flrBridge s)))).log 0x0E04
      [s.get HBR_FLRSCOPE.SCOPE]))) ∧
  (∀ s : State, s.get HBR_STAT.STATE ≠ 4 → exec .flrDone s = .next s) ∧
  (∀ s : State, s.get HBR_STAT.STATE = 4 → ∃ t, exec .flrDone s = .next t ∧ t.get HBR_STAT.STATE =
    if t.flag HBR_STAT.BME = true ∧ t.flag HBR_STAT.D3 = false then 3 else 2) ∧
  (∀ (s : State) (a : BitVec 12) (wr : Option Word), (s.get HBR_STAT.STATE = 1 ∨ s.get HBR_STAT.STATE = 4) →
    exec (.configRequest a wr) s = .next (s.emit (.cfgReply none))) ∧
  (∀ (s : State) (a : BitVec 12) (wr : Option Word), s.get HBR_STAT.STATE = 0 →
    exec (.configRequest a wr) s = .next s) ∧
  (∀ (s : State) (a : BitVec 12), (s.get HBR_STAT.STATE = 2 ∨ s.get HBR_STAT.STATE = 3) →
    exec (.configRequest a none) s = .next ((spaceRead (a.toNat / 4 * 4) s).2.emit
      (.cfgReply (some (spaceRead (a.toNat / 4 * 4) s).1)))) ∧
  (∀ (s : State) (a : BitVec 12) (v : Word), (s.get HBR_STAT.STATE = 2 ∨ s.get HBR_STAT.STATE = 3) →
    a.toNat / 4 * 4 ≠ 0x78 → exec (.configRequest a (some v)) s =
      .next ((spaceWrite (a.toNat / 4 * 4) v.toNat s).emit (.cfgReply (some 0))))

/-- A completion of no outstanding read is swallowed when FLR abandoned its read, and otherwise discarded, recorded
and counted with 0x0E06; one that is poisoned or fails ECRC ends its read as failed with AER and 0x0E0C, and one with
a bad status ends it as failed. In MASTER good descriptor data waits for its queue; outside MASTER it is dropped. With
Completion Timeout Disable, or with no such read, nothing times out; otherwise the tag is free, AER and CTO count,
0x0E05 names the queue and the read fails. An unsupported request is recorded and counted, and answered unless posted;
in DOWN, RETRY and for a memory request that is served nothing happens. An internal error stops the queues until FLR.
Clearing a vector's mask sends its one pending message; held messages go out in their order. The model's choices that
it rests on: log entries 20, 51, 52, 111. (R512, R526, R527, R528, R531, R533, R539, R543, R544, R545, R549,
16_host_bridge.md.) -/
def Obligations.BridgeRequestsAndMessages : Prop :=
  (∀ (s : State) (tag : Fin 1024) (st : Fin 8) (bad ec : Bool) (d : List Byte),
    s.hbr.reads.find? (fun r => r.tag == tag.val) = none →
    exec (.completionReceived tag st bad ec d) s = .next (if s.hbr.silent.contains tag.val = true then
        { s with hbr := { s.hbr with silent := s.hbr.silent.filter (· != tag.val) } }
      else (aerSet 16 (s.count HBR_CNT.UNEXP)).logSec 0x0E06 0 [tag.val])) ∧
  (∀ (s : State) (tag : Fin 1024) (st : Fin 8) (bad ec : Bool) (d : List Byte) (r : ReadReq),
    s.hbr.reads.find? (fun r => r.tag == tag.val) = some r →
    let t := setReads (s.hbr.reads.filter (fun x => x.tag != tag.val)) s
    (bad = true ∨ ec = true → exec (.completionReceived tag st bad ec d) s =
      .next (readFailed r ((aerSet (if ec then 19 else 12) t).log 0x0E0C [1]))) ∧
    (bad = false → ec = false → st.val ≠ 0 → exec (.completionReceived tag st bad ec d) s = .next (readFailed r t)) ∧
    (bad = false → ec = false → st.val = 0 → r.qid < 16384 → 0 < r.count → canMaster s = true →
      exec (.completionReceived tag st bad ec d) s = .next { t with que := { t.que with
        arrived := t.que.arrived ++ [(r.qid, r.slot, (natBytes d).take (32 * r.count))] } })) ∧
  (∀ (s : State) (r : ReadReq), r.qid < 16384 → 0 < r.count → canMaster s = true → queueState s r.qid = 1 →
    readFailed r s = (pauseQueue r.qid 5 (dropWaiting r.qid 2 (cutOpen r.qid 1 6 (s.setQueue r.qid { s.queue r.qid with
      reading := (s.queue r.qid).reading - r.count })))).log 0x0D04 [r.qid, r.slot]) ∧
  (∀ (s : State) (tag : Fin 1024), (s.hbr.ctoOff = true ∨ s.hbr.reads.find? (fun r => r.tag == tag.val) = none) →
    exec (.completionTimeout tag) s = .next s) ∧
  (∀ (s : State) (tag : Fin 1024) (r : ReadReq), s.hbr.ctoOff = false →
    s.hbr.reads.find? (fun r => r.tag == tag.val) = some r → r.qid < 16384 →
    exec (.completionTimeout tag) s = .next (readFailed r (((aerSet 14
      (setReads (s.hbr.reads.filter (fun x => x.tag != tag.val)) s)).count HBR_CNT.CTO).log 0x0E05 [tag.val, r.qid]))) ∧
  (∀ (s : State) (ty : Byte) (posted : Bool), hostOpen s = true →
    exec (.unsupportedRequest ty true posted) s = .next s) ∧
  (∀ (s : State) (ty : Byte) (mem posted : Bool), s.get HBR_STAT.STATE < 2 →
    exec (.unsupportedRequest ty mem posted) s = .next s) ∧
  (∀ (s : State) (ty : Byte) (mem posted : Bool), 2 ≤ s.get HBR_STAT.STATE →
    (mem = false ∨ s.hbr.mse = false ∨ s.flag HBR_STAT.D3 = true) →
    let t := ((aerSet 20 s).count HBR_ACCCNT.UR).logSec 0x0E0B 0 [ty.toNat]
    exec (.unsupportedRequest ty mem posted) s = .next (if posted then t else t.emit (.completion 1 0))) ∧
  (∀ (s : State) (b : Fin 32), exec (.malformedTlp b) s = .next ((aerSet b.val s).log 0x0E0E [b.val])) ∧
  (∀ s : State,
    let t := (aerSet 22 s).log 0x0E0E [22]
    exec .uncorrectableInternalError s = .next (haltContexts 2 (haltQueues 6
      (setReads [] { t with hbr := { t.hbr with deadQueues := true } })))) ∧
  (∀ (s : State) (v : Fin 2048), hostOpen s = true → (canMaster s = false ∨ s.hbr.msixMask = true ∨ s.hbr.pba = []) →
    s.hbr.msixEn = true →
    exec (.msixUnmask v) s = .next { s with hbr := { s.hbr with
      msix := tput {} s.hbr.msix v.val { s.msixEntry v.val with masked := false } } }) ∧
  (∀ (s : State) (v : Fin 2048), hostOpen s = true → canMaster s = true → s.hbr.msixEn = true → s.hbr.msixMask = false →
    s.hbr.pba = [(v.val, true)] →
    exec (.msixUnmask v) s = .next (({ s with hbr := { s.hbr with
      pba := []
      msix := tput {} s.hbr.msix v.val { s.msixEntry v.val with masked := false } } } : State).emit
        (.message (s.msixEntry v.val).addr (s.msixEntry v.val).data))) ∧
  (∀ s : State, canMessage s = false → exec .heldMsgSend s = .next s) ∧
  (∀ (s : State) (m : HeldMsg), canMessage s = true → s.hbr.heldMsgs = [m] → m.source = 0 →
    exec .heldMsgSend s = .next (sendMessage m.vector { s with hbr := { s.hbr with heldMsgs := [] } }))

/-- A BAR4 read that is not served ends as Unsupported Request; with the core in reset it ends with Completer Abort
and cause NONODE, with a wrong size or alignment with cause SIZE, recorded and logged; to the own node it reads BAR0
through HBR_FARBASE; otherwise it joins the far-side accesses with its base, address and count. A BAR4 write does the
same without a completion, and while 256 writes are held it is discarded with OVERFLOW. A time-out ends an outstanding
access with cause 1, aborting a host read that is still wanted. A poll round does nothing while POLLINT is 0, is
counted as skipped while one runs, and otherwise reads each enabled entry, its own node locally. DESIGN CHOICE: SIZE,
NONODE and OVERFLOW are judged on arrival. The model's choices that it rests on: log entries 26, 38, 39, 51, 54.
(R140, R548, R549, R550, R554, R556, R558, R559, R560, R561, R562, 16_host_bridge.md.) -/
def Obligations.FarAccesses : Prop :=
  (∀ (s : State) (o : BitVec 28) (n : Nat) (d : List Word), hostOpen s = false →
    exec (.farRead o n) s = .next (unsupported 0x00 true false s) ∧
    exec (.farWrite o d) s = .next (unsupported 0x40 true true s)) ∧
  (∀ (s : State) (o : BitVec 28) (n : Nat) (d : List Word), hostOpen s = true → s.clk.coreUp = false →
    exec (.farRead o n) s =
      .next ((aerAbort (farRecord false o.toNat (o.toNat / 65536) 5 s)).emit (.completion 4 0)) ∧
    exec (.farWrite o d) s = .next (farRecord true o.toNat (o.toNat / 65536) 5 s)) ∧
  (∀ (s : State) (o : BitVec 28) (n : Nat), hostOpen s = true → s.clk.coreUp = true →
    ¬ (n = 4 ∧ o.toNat % 4 = 0 ∨ n = 8 ∧ o.toNat % 8 = 0) → exec (.farRead o n) s =
      .next ((aerAbort (farRecord false o.toNat (o.toNat / 65536) 7 s)).emit (.completion 4 0))) ∧
  (∀ (s : State) (o : BitVec 28) (d : List Word), hostOpen s = true → s.clk.coreUp = true →
    ¬ (d.length = 1 ∧ o.toNat % 4 = 0 ∨ d.length = 2 ∧ o.toNat % 8 = 0) →
    exec (.farWrite o d) s = .next (farRecord true o.toNat (o.toNat / 65536) 7 s)) ∧
  (∀ (s : State) (o : BitVec 28), hostOpen s = true → s.clk.coreUp = true → o.toNat % 4 = 0 →
    nodeId s = some (o.toNat / 65536) →
    exec (.farRead o 4) s =
      let r := localRead (s.get HBR_FARBASE.BASE * 65536 + o.toNat % 65536) s
      .next (r.2.emit (.completion 0 r.1))) ∧
  (∀ (s : State) (o : BitVec 28) (w : Word), hostOpen s = true → s.clk.coreUp = true → o.toNat % 4 = 0 →
    nodeId s = some (o.toNat / 65536) → exec (.farWrite o [w]) s =
      .next (localWrite (s.get HBR_FARBASE.BASE * 65536 + o.toNat % 65536) w.toNat s)) ∧
  (∀ (s : State) (o : BitVec 28) (n : Nat), hostOpen s = true → s.clk.coreUp = true →
    (n = 4 ∧ o.toNat % 4 = 0 ∨ n = 8 ∧ o.toNat % 8 = 0) → nodeId s ≠ some (o.toNat / 65536) →
    exec (.farRead o n) s = .next (farQueue {
      offset := o.toNat
      node := o.toNat / 65536
      addr := s.get HBR_FARBASE.BASE * 65536 + o.toNat % 65536
      count := n / 4 } s)) ∧
  (∀ (s : State) (o : BitVec 28) (d : List Word), hostOpen s = true → s.clk.coreUp = true →
    (d.length = 1 ∧ o.toNat % 4 = 0 ∨ d.length = 2 ∧ o.toNat % 8 = 0) → nodeId s ≠ some (o.toNat / 65536) →
    exec (.farWrite o d) s = .next (if 256 ≤ (s.hbr.far.filter (·.isWrite)).length then
        farRecord true o.toNat (o.toNat / 65536) 6 s
      else farQueue {
        offset := o.toNat
        node := o.toNat / 65536
        addr := s.get HBR_FARBASE.BASE * 65536 + o.toNat % 65536
        isWrite := true
        data := natWords d
        count := d.length } s)) ∧
  (∀ (s : State) (id : Nat), s.hbr.far.find? (fun r => r.id == id) = none → exec (.farTimeout id) s = .next s) ∧
  (∀ (s : State) (id : Nat) (r : FarReq), s.hbr.far.find? (fun r => r.id == id) = some r → r.poll = none →
    let t := setFar (s.hbr.far.filter (fun x => x.id != id)) s
    exec (.farTimeout id) s = .next (farPump (if r.abandoned = true then t
      else if r.isWrite = true then farRecord true r.offset r.node 1 t
      else (aerAbort (farRecord false r.offset r.node 1 t)).emit (.completion 4 0)))) ∧
  (∀ (s : State) (w : Bool) (o n c : Nat), s.flag HBR_FARLOG1.VALID = false →
    ∃ t, farRecord w o n c s = (((((t.set HBR_FARLOG0.OFFSET o).set HBR_FARLOG1.NODE n).set HBR_FARLOG1.CAUSE c).set
      HBR_FARLOG1.WRITE (b2n w)).set HBR_FARLOG1.VALID 1) ∧
      t = ((s.count HBR_FARSTAT.FAILS).fire 0x253).log (if w then 0x0E08 else 0x0E07) [o, n, c]) ∧
  (∀ s : State, s.get HBR_BASIC.POLLINT = 0 → exec .pollRound s = .next s) ∧
  (∀ s : State, s.get HBR_BASIC.POLLINT ≠ 0 → s.hbr.far.any (fun r => r.poll.isSome) = true →
    exec .pollRound s = .next (s.count HBR_FARSTAT.SKIP)) ∧
  (∀ s : State, s.get HBR_BASIC.POLLINT ≠ 0 → s.hbr.far.any (fun r => r.poll.isSome) = false →
    (∀ k, k < 64 → s.flag HBR_POLL.EN k = false) → exec .pollRound s = .next s) ∧
  (∀ (s : State) (k : Nat), s.flag HBR_POLL.EN k = true → nodeId s ≠ some (s.get HBR_POLL.NODE k) →
    pollEntry s k = farQueue {
      offset := s.get HBR_POLL.NODE k * 65536
      node := s.get HBR_POLL.NODE k
      addr := s.get HBR_POLLOFS.OFS * 4
      poll := some k } s)

/-- Without VEN its commands do nothing. VEN_CCFG enables an OFF context whose pool and cores are in order and is
refused otherwise; EN = 0 takes READY to CLOSING, losing the pictures not started with CLOSED, and HALT to OFF; a
write that changes PIPE, CORES, DIV or NREF while enabled is refused. CLOSING ends when no picture is left. RESTART
needs HALT and MASTER. A picture is offered once; OFF takes none; the causes HALT, CLOSED, CLOCK, BUSY and FORMAT
follow R578, and a lost offer counts. An IDLE core takes the next segment of a picture that has begun; its end leaves
IDLE or PARKED. PARK parks an IDLE core, lets a running one finish, and its clearing rejoins; a fault parks the core,
counts and logs. DEDUCED: a core event in a state that does not allow it does nothing. The model's choices that it
rests on: log entries 29, 52, 100, 104. (R566, R576, R577, R578, R579, R581, R582, R583, R586, R593, R597,
17_video_encoder.md.) -/
def Obligations.EncoderContextsAndCores : Prop :=
  (∀ (s : State) (x : Fin 32) (c : Fin 8) (ov : Bool) (qp : BitVec 6) (d : List Byte) (qs : List Nat) (m : Nat),
    s.fuses.variant ≠ .f → exec (.venCloseDone x) s = .next s ∧ exec (.venPictureOffer x ov) s = .next s ∧
    exec (.coreSegmentStart c qp) s = .next s ∧ exec (.coreSegmentDone c d qs) s = .next s ∧
    exec (.coreFault c m) s = .next s ∧ exec (.venIdrRequest x) s = .next s) ∧
  (∀ (s : State) (x : Fin 32), s.fuses.variant = .f → exec (.venIdrRequest x) s =
    .next (s.set VEN_CSTAT.IDRPEND 1 x.val)) ∧
  (∀ (s : State) (x : Fin 32) (v : Word), Served s (VEN_CCFG.reg.adr x.val) → s.flag VEN_CCFG.EN x.val = false →
    bitAt v.toNat 31 = true → ctxState s x.val = 0 → poolBase s x.val % 4096 = 0 → poolBase s x.val ≠ 0 →
    s.get VEN_CRSIZE.SIZE x.val ≠ 0 →
    let t := deriveCtx x.val (storeCcfg x.val v.toNat s)
    let u := t.setVctx x.val { t.vctx x.val with nseg := max 1 (t.get VEN_CDIV.NSEG x.val), levelLogged := false }
    exec (.venEnableWrite x v) s = .next (afterBasic 15 (VEN_CCFG.reg.adr x.val) v.toNat (s.rdA (VEN_CCFG.reg.adr x.val))
      (if t.get VEN_CCFG.CORES x.val = 0 then t.log 0x0F01 [x.val, VEN_CCFG.reg.adr x.val - 0xC00000]
       else startCtx x.val (u.set VEN_CCFG.EN 1 x.val)))) ∧
  (∀ (s : State) (x : Fin 32) (v : Word), Served s (VEN_CCFG.reg.adr x.val) → s.flag VEN_CCFG.EN x.val = false →
    bitAt v.toNat 31 = true → (poolBase s x.val = 0 ∨ s.get VEN_CRSIZE.SIZE x.val = 0) →
    exec (.venEnableWrite x v) s = .next (afterBasic 15 (VEN_CCFG.reg.adr x.val) v.toNat (s.rdA (VEN_CCFG.reg.adr x.val))
      ((deriveCtx x.val (storeCcfg x.val v.toNat s)).log 0x0F01 [x.val, VEN_CCFG.reg.adr x.val - 0xC00000]))) ∧
  (∀ (s : State) (x : Fin 32) (v : Word), Served s (VEN_CCFG.reg.adr x.val) → s.flag VEN_CCFG.EN x.val = true →
    (v.toNat &&& 0x66C0FF00) ≠ (s.get VEN_CCFG.reg x.val &&& 0x66C0FF00) →
    exec (.venEnableWrite x v) s = .next (afterBasic 15 (VEN_CCFG.reg.adr x.val) v.toNat (s.rdA (VEN_CCFG.reg.adr x.val))
      (s.log 0x0F01 [x.val, VEN_CCFG.reg.adr x.val - 0xC00000]))) ∧
  (∀ (s : State) (x : Fin 32) (v : Word), Served s (VEN_CCFG.reg.adr x.val) → s.flag VEN_CCFG.EN x.val = true →
    (v.toNat &&& 0x66C0FF00) = (s.get VEN_CCFG.reg x.val &&& 0x66C0FF00) → bitAt v.toNat 31 = false →
    let t := deriveCtx x.val ((storeCcfg x.val v.toNat s).set VEN_CCFG.EN 0 x.val)
    exec (.venEnableWrite x v) s = .next (afterBasic 15 (VEN_CCFG.reg.adr x.val) v.toNat (s.rdA (VEN_CCFG.reg.adr x.val))
      (if ctxState s x.val = 1 then losePics x.val 8 (fun q => !q.started) (t.set VEN_CSTAT.STATE 3 x.val)
       else t.set VEN_CSTAT.STATE 0 x.val))) ∧
  (∀ (s : State) (x : Fin 32), s.fuses.variant = .f → exec (.venCloseDone x) s =
    .next (if ctxState s x.val = 3 ∧ ctxPics s x.val = [] then s.set VEN_CSTAT.STATE 0 x.val else s)) ∧
  (∀ (s : State) (x : Fin 32), Served s (VEN_CCTL.reg.adr x.val) → exec (.venRestart x) s =
    .next (if ctxState s x.val = 2 ∧ canMaster s = true then startCtx x.val s
      else s.log 0x0F01 [x.val, VEN_CCTL.reg.adr x.val - 0xC00000])) ∧
  (∀ (s : State) (x : Fin 32) (ov : Bool), (ctxState s x.val = 0 ∨
      (s.vctx x.val).offered = (s.pipe (s.get VEN_CCFG.PIPE x.val)).feed) →
    exec (.venPictureOffer x ov) s = .next s) ∧
  (∀ (s : State) (x : Fin 32) (ov : Bool), s.fuses.variant = .f → ctxState s x.val ≠ 0 →
    let p := s.get VEN_CCFG.PIPE x.val
    let w := outWidth (setView s p) p (pipeFrame s p)
    let h := outHeight (setView s p) p (pipeFrame s p) (pipeBlock s p)
    let code := (setView s p).get PIX_BASIC.OUTFMT p
    pipeState s p = 3 → (s.vctx x.val).offered ≠ (s.pipe p).feed → w = (s.vctx x.val).latchW → h = (s.vctx x.val).latchH →
    let t := s.setVctx x.val { s.vctx x.val with offered := (s.pipe p).feed, latchW := w, latchH := h }
    exec (.venPictureOffer x ov) s = .next (if offerCause t x.val code w h ov = 0 then takePicture x.val p w h code t
      else countLost x.val (offerCause t x.val code w h ov)
        (t.setVctx x.val { t.vctx x.val with lostNow := (t.vctx x.val).lostNow + 1 }))) ∧
  (∀ (s : State) (x code w h : Nat) (ov : Bool),
    (ctxState s x = 2 → offerCause s x code w h ov = 7) ∧ (ctxState s x = 3 → offerCause s x code w h ov = 8) ∧
    (ctxState s x = 1 → s.clk.vencUp = false → offerCause s x code w h ov = 1) ∧
    (ctxState s x = 1 → s.clk.vencUp = true → 2 ≤ (ctxPics s x).length → offerCause s x code w h ov = 2) ∧
    (ctxState s x = 1 → s.clk.vencUp = true → (ctxPics s x).length < 2 → code ≠ 0x10 → code ≠ 0x11 → code ≠ 0x30 →
      code ≠ 0x31 → offerCause s x code w h ov = 3)) ∧
  (∀ (s : State) (c : Fin 8) (qp : BitVec 6), (coreState s c.val ≠ 1 ∨ s.ven.pics.find? (coreMay s c.val) = none) →
    exec (.coreSegmentStart c qp) s = .next s) ∧
  (∀ (s : State) (c : Fin 8) (qp : BitVec 6) (q : Picture) (i : Nat), s.fuses.variant = .f → coreState s c.val = 1 →
    s.ven.pics.find? (coreMay s c.val) = some q → q.started = true → nextSeg s q = some i → canMaster s = false →
    let t := s.setPic { q with segs := q.segs.set i 1 }
    let u : State := { t with ven := { t.ven with work := tput (0, 0) t.ven.work c.val (q.order, i) } }
    exec (.coreSegmentStart c qp) s =
      .next ((u.set VEN_CORESTAT.STATE 2 c.val).set VEN_CORESTAT.CTX q.ctx c.val)) ∧
  (∀ (s : State) (c : Fin 8) (d : List Byte) (qs : List Nat), coreState s c.val ≠ 2 → coreState s c.val ≠ 3 →
    exec (.coreSegmentDone c d qs) s = .next s) ∧
  (∀ (s : State) (c : Fin 8) (d : List Byte) (qs : List Nat), s.fuses.variant = .f → coreState s c.val = 2 →
    s.flag VEN_CORECTL.PARK c.val = false → s.ven.pics = [] →
    exec (.coreSegmentDone c d qs) s =
      .next (({ s with ven := { s.ven with work := tdel s.ven.work c.val } } : State).set VEN_CORESTAT.STATE 1 c.val)) ∧
  (∀ (s : State) (c : Fin 8) (v : Word), Served s (VEN_CORECTL.reg.adr c.val) →
    let t := s.set VEN_CORECTL.PARK v.toNat c.val
    (v.toNat % 2 = 1 → coreState s c.val = 1 →
      exec (.coreParkWrite c v) s = .next ((t.set VEN_CORESTAT.STATE 4 c.val).log 0x0F04 [c.val, 0])) ∧
    (v.toNat % 2 = 1 → coreState s c.val = 2 → exec (.coreParkWrite c v) s = .next (t.set VEN_CORESTAT.STATE 3 c.val)) ∧
    (v.toNat % 2 = 0 → coreState s c.val = 4 → exec (.coreParkWrite c v) s = .next (rejoin c.val t)) ∧
    (v.toNat % 2 = 0 → coreState s c.val ≠ 4 → exec (.coreParkWrite c v) s = .next t)) ∧
  (∀ (s : State) (c : Fin 8) (m : Nat), coreState s c.val = 0 → exec (.coreFault c m) s = .next s) ∧
  (∀ (s : State) (c : Fin 8) (m : Nat), s.fuses.variant = .f → (coreState s c.val = 1 ∨ coreState s c.val = 4) →
    let t := ((s.set VEN_CORECTL.PARK 1 c.val).set VEN_CORESTAT.STATE 4 c.val).count VEN_COREFAULT.COUNT c.val
    exec (.coreFault c m) s = .next ((({ t with ven := { t.ven with work := tdel t.ven.work c.val } } : State).log 0x0F05
      [c.val, m]).log 0x0F04 [c.val, 1]))

/-- A port that exists, is out of reset and is down comes up in REPEAT, FORWARD or BLOCKED by EN and the beacon heard,
fires DRL_LINK and logs 0x1002; one that is up goes DOWN with 0x1001. AUTO alternates the rate of a port that is down.
A frame on a port that is down is not seen; one over 128 octets, a MAC control frame, and in REPEAT a frame between
unequal rates are counted and discarded; a message between FORWARD ports leaves with HOPS one higher unless it is
link-only, addressed to the node, its own, or at 4,095 hops. A LINKLOSS clears the partner's membership and opens a
closed ring at the root; LINKUP is noted by a root; OPEN frees a BLOCKED port; a node reports its blocked port; the
root opens the reported links after its beacon. The model's choices that it rests on: log entries 92, 111. (R601,
R602, R603, R604, R605, R609, R610, R611, R619, R620, R621, 18_drumline.md.) -/
def Obligations.RingPorts : Prop :=
  (∀ (s : State) (p : Fin 2), (ringPort s p.val = false ∨ bitAt (s.get CLK_RST.RING) p.val = true ∨
    ringUp s p.val = true) → exec (.drlPortUp p) s = .next s) ∧
  (∀ (s : State) (p : Fin 2), ringPort s p.val = true → bitAt (s.get CLK_RST.RING) p.val = false →
    ringUp s p.val = false → s.flag TIM_LEVEL.EXPERT = true → s.get DRL_PCFG.RATE p.val = 1 →
    let t := (((s.set DRL_PSTAT.LINK 1 p.val).set DRL_PSTAT.RATE 1 p.val).setPtpPort p.val { s.ptpPort p.val with
      slow := true })
    exec (.drlPortUp p) s = .next (
      let u := (t.fire (0x2E0 + p.val)).log 0x1002 [p.val, 1]
      u.set DRL_PSTAT.STATE (if u.flag DRL_CFG.EN = false then 1 else if u.drl.heard = true then 2 else 3) p.val)) ∧
  (∀ (s : State) (p : Fin 2), ringUp s p.val = false → exec (.drlPortDown p) s = .next s) ∧
  (∀ (s : State) (p : Fin 2), ringUp s p.val = true → nodeState s < 2 →
    exec (.drlPortDown p) s = .next (((((((s.set DRL_PSTAT.LINK 0 p.val).set DRL_PSTAT.PVALID 0 p.val).count
      DRL_PCNT.DOWNS p.val).fire (0x2E0 + p.val)).log 0x1001 [p.val, (partnerOf s p.val).1]).set DRL_PSTAT.STATE 0 p.val))) ∧
  (∀ (s : State) (p : Fin 2), exec (.rateAlternate p) s = .next (
    if ringPort s p.val = true ∧ 2 ≤ s.get DRL_PCFG.RATE p.val ∧ ringUp s p.val = false ∧
      bitAt (s.get CLK_RST.RING) p.val = false then s.set DRL_PSTAT.RATE (1 - s.get DRL_PSTAT.RATE p.val) p.val else s)) ∧
  (∀ (s : State) (p : Fin 2) (f : List Byte) (res : Nat), ringUp s p.val = false →
    exec (.drlFrameForward p f res) s = .next s) ∧
  (∀ (s : State) (p : Fin 2) (f : List Byte) (res : Nat), ringPort s p.val = true → ringUp s p.val = true →
    (128 < f.length → exec (.drlFrameForward p f res) s =
      .next ((s.count DRL_PDROP.OVERSIZE p.val).logSec 0x1009 p.val [p.val])) ∧
    (f.length ≤ 128 → etherType (natBytes f) = 0x8808 →
      exec (.drlFrameForward p f res) s = .next (s.count DRL_PDROP.OTHER p.val)) ∧
    (f.length ≤ 128 → fcsGood (natBytes f) = true → isRingMsg (natBytes f) = true → 4 ≤ msgType (natBytes f) →
      msgType (natBytes f) ≤ 15 → ringPort s (1 - p.val) = true → ringState s p.val = 3 → ringState s (1 - p.val) = 3 →
      (msgBcast (natBytes f) = true ∨ nodeId s ≠ some (msgDst (natBytes f))) →
      (msgNoid (natBytes f) = true ∨ nodeId s ≠ some (msgSrc (natBytes f))) →
      exec (.drlFrameForward p f res) s = .next (if msgHops (natBytes f) = 4095 then s.count DRL_PDROP.OTHER p.val
        else (s.emit (.ringFrame (1 - p.val) (tcEdit s p.val (1 - p.val) res (hopEdit (natBytes f))))).count
          DRL_PFWD.COUNT p.val)) ∧
    (f.length ≤ 128 → fcsGood (natBytes f) = true → etherType (natBytes f) ≠ 0x8808 → ringState s p.val = 1 →
      ringPort s (1 - p.val) = true → ringUp s (1 - p.val) = true → ringState s (1 - p.val) = 1 →
      exec (.drlFrameForward p f res) s = .next (if s.get DRL_PSTAT.RATE p.val = s.get DRL_PSTAT.RATE (1 - p.val) then
        (s.emit (.ringFrame (1 - p.val) (tcEdit s p.val (1 - p.val) res (natBytes f)))).count DRL_PFWD.COUNT p.val
        else s.count DRL_PDROP.OTHER p.val))) ∧
  (∀ (s : State) (p : Fin 2) (f : List Byte),
    (msgForMe s p.val 8 (natBytes f) = false → exec (.linklossReceived p f) s = .next s) ∧
    ((msgForMe s p.val 9 (natBytes f) = false ∨ isRoot s = false) → exec (.linkupReceived p f) s = .next s) ∧
    (msgForMe s p.val 10 (natBytes f) = false → exec (.openReceived p f) s = .next s)) ∧
  (∀ (s : State) (p : Fin 2) (f : List Byte), msgForMe s p.val 8 (natBytes f) = true →
    let id := beNat (sliceOf (msgPayload (natBytes f)) 2 2)
    exec (.linklossReceived p f) s = .next (openRing (if id = 0xFFFF then s
      else farNode (id % 4096) 3 (setMember (id % 4096) false s)))) ∧
  (∀ s : State, isRoot s = true → s.flag DRL_NET.RINGCLOSED = true → ringState s 1 = 2 →
    openRing s = ((s.set DRL_PSTAT.STATE 3 1).set DRL_NET.RINGCLOSED 0).log 0x100A) ∧
  (∀ (s : State) (p : Fin 2) (f : List Byte), msgForMe s p.val 9 (natBytes f) = true → isRoot s = true →
    exec (.linkupReceived p f) s = .next { s with drl := { s.drl with
      linkups := s.drl.linkups ++ [(msgSrc (natBytes f), byteAt (msgPayload (natBytes f)) 0 % 2, p.val)]
      wait := if s.drl.wait = 0 then 1 else s.drl.wait } }) ∧
  (∀ (s : State) (p : Fin 2) (f : List Byte), msgForMe s p.val 10 (natBytes f) = true →
    let q := byteAt (msgPayload (natBytes f)) 0
    exec (.openReceived p f) s =
      .next (if q < 2 ∧ ringState s q = 2 then s.set DRL_PSTAT.STATE 3 q else s)) ∧
  (∀ (s : State) (p : Fin 2), (ringState s p.val ≠ 2 ∨ nodeState s < 2) → exec (.linkupSend p) s = .next s) ∧
  (∀ (s : State) (p : Fin 2), ringPort s p.val = true → ringState s p.val = 2 → nodeState s = 5 →
    exec (.linkupSend p) s = .next (sendForward (ringMsg s 9 true 0 0 (linkBody s p.val)) s)) ∧
  (∀ s : State, (isRoot s = false ∨ s.drl.wait < 2) → exec .openSend s = .next s) ∧
  (∀ (s : State) (e : Nat × Nat × Nat), isRoot s = true → s.drl.wait = 2 → s.drl.linkups = [e] → nodeId s ≠ some e.1 →
    ringState s e.2.2 = 3 → exec .openSend s = .next (sendOn e.2.2 (ringMsg s 0x0A false e.1 0 [e.2.1, 0, 0, 0])
      { s with drl := { s.drl with linkups := [], wait := 0 } }))

/-- A message that is not for the node does nothing. EN = 1 takes REPEAT ports to FORWARD and the node to LISTEN; EN =
0 puts it OFF; the hold's end lets a ROOT or CANDIDATE claim. The CLAIM window's end leads to ENUM with ID 0 and a
walk from port 0, or to RUN. A better beacon makes a root a member; a worse one is ignored; the root's own beacon back
closes the ring. A member without beacons goes to LISTEN with 0x1004. ENUM gives a node without an ID its NEXT;
ENUM_END or its limit ends the walk in RUN. JOIN is answered in RUN with the table's ID and REJOIN, or the lowest free
ID; ASSIGN and NODE_UP set the membership bit and end accesses to that node with RESET. HELLO shows the partner;
HELLO, JOIN and NODE_UP are sent when they are due. The model's choices that it rests on: log entries 29, 90, 91.
(R604, R608, R609, R610, R614, R615, R616, R617, R618, R619, 18_drumline.md.) -/
def Obligations.RingRootsAndIds : Prop :=
  (∀ (s : State) (p : Fin 2) (f : List Byte),
    (msgForMe s p.val 2 (natBytes f) = false → exec (.helloReceived p f) s = .next s) ∧
    ((msgForMe s p.val 3 (natBytes f) = false ∨ isRoot s = true) → exec (.enumReceived p f) s = .next s) ∧
    ((msgForMe s p.val 4 (natBytes f) = false ∨ nodeState s ≠ 3) → exec (.enumEndReceived p f) s = .next s) ∧
    ((msgForMe s p.val 5 (natBytes f) = false ∨ nodeState s ≠ 4) → exec (.joinReceived p f) s = .next s) ∧
    (msgForMe s p.val 6 (natBytes f) = false → exec (.assignReceived p f) s = .next s) ∧
    (msgForMe s p.val 7 (natBytes f) = false → exec (.nodeUpReceived p f) s = .next s) ∧
    ((fcsGood (natBytes f) = false ∨ ringState s p.val < 2 ∨ nodeState s = 0) →
      exec (.beaconReceived p f) s = .next s)) ∧
  (∀ (s : State) (v : Word), Served s (DRL_CFG.reg.adr 0) → s.flag DRL_CFG.EN = false → bitAt v.toNat 31 = false →
    v.toNat % 4 = 0 → isRoot s = false → nodeState s = 0 →
    exec (.drlCfgWrite v) s = .next (afterBasic 16 (DRL_CFG.reg.adr 0) v.toNat (s.rdA (DRL_CFG.reg.adr 0))
      (codedWrite (DRL_CFG.reg.adr 0) v.toNat s))) ∧
  (∀ (s : State) (v : Word), Served s (DRL_CFG.reg.adr 0) → s.flag DRL_CFG.EN = false → bitAt v.toNat 31 = true →
    v.toNat % 4 = 0 → ringState s 0 = 1 → ringState s 1 = 0 →
    exec (.drlCfgWrite v) s = .next (afterBasic 16 (DRL_CFG.reg.adr 0) v.toNat (s.rdA (DRL_CFG.reg.adr 0))
      (((codedWrite (DRL_CFG.reg.adr 0) v.toNat s).set DRL_PSTAT.STATE 3 0).set DRL_NODE.STATE 1))) ∧
  (∀ s : State, nodeState s ≠ 1 → exec .enumHoldEnd s = .next { s with drl := { s.drl with holdDone := true } }) ∧
  (∀ s : State, nodeState s = 1 → s.get DRL_CFG.MODE = 2 →
    exec .enumHoldEnd s = .next (enterClaim { s with drl := { s.drl with holdDone := true } })) ∧
  (∀ s : State, nodeState s ≠ 2 → exec .claimWindowEnd s = .next s) ∧
  (∀ s : State, nodeState s = 2 → s.drl.claimSeen = false → exec .claimWindowEnd s = .next (enumOut 0 1 (rootNet
    (takeId 0 false (tablePut s.fuses.dsn 0 (nodeSlow s) (s.set DRL_NODE.STATE 3)))))) ∧
  (∀ s : State, nodeState s = 2 → s.drl.claimSeen = true → s.drl.table.any (fun e => e.2.1 == 0) = false →
    exec .claimWindowEnd s = .next (enterRun (takeId 0 false (tablePut s.fuses.dsn 0 (nodeSlow s) s)))) ∧
  (∀ (s : State) (p : Fin 2) (f : List Byte), ringPort s p.val = true → fcsGood (natBytes f) = true →
    isRingMsg (natBytes f) = true → msgType (natBytes f) = 1 → 2 ≤ ringState s p.val → nodeState s ≠ 0 →
    let dsn := beNat (sliceOf (msgPayload (natBytes f)) 0 8)
    let prio := byteAt (msgPayload (natBytes f)) 8
    (dsn = s.fuses.dsn → isRoot s = true → s.drl.wait = 0 → exec (.beaconReceived p f) s = .next (closeRing s)) ∧
    (dsn = s.fuses.dsn → isRoot s = false → exec (.beaconReceived p f) s = .next s) ∧
    (dsn ≠ s.fuses.dsn → isRoot s = true → (s.get DRL_CFG.PRIO < prio ∨ s.get DRL_CFG.PRIO = prio ∧ s.fuses.dsn < dsn) →
      exec (.beaconReceived p f) s = .next s) ∧
    (dsn ≠ s.fuses.dsn → (isRoot s = false ∨ prio < s.get DRL_CFG.PRIO) → ∃ t, exec (.beaconReceived p f) s = .next t ∧
      nodeState t = 5 ∧ t.get DRL_NET.PHASE = byteAt (msgPayload (natBytes f)) 9 % 4 ∧
      t.get DRL_EPOCH.EPOCH = msgEpoch (natBytes f) % 65536)) ∧
  (∀ s : State, ringUp s 1 = true → s.flag DRL_NET.RINGCLOSED = false →
    closeRing s = ((s.set DRL_PSTAT.STATE 2 1).set DRL_NET.RINGCLOSED 1).log 0x100B) ∧
  (∀ s : State, isRoot s = false → exec .beaconInterval s = .next s) ∧
  (∀ s : State, nodeState s ≠ 5 → exec .rootTimeout s = .next s) ∧
  (∀ s : State, nodeState s = 5 → s.get DRL_CFG.MODE = 0 →
    exec .rootTimeout s = .next ((s.set DRL_NODE.STATE 1).log 0x1004)) ∧
  (∀ s : State, exec .enumTimeout s = .next (if nodeState s = 3 then rootNet (s.set DRL_NODE.STATE 4) else s)) ∧
  (∀ (s : State) (p : Fin 2) (f : List Byte), msgForMe s p.val 3 (natBytes f) = true → isRoot s = false →
    nodeId s = none → ringPort s (1 - p.val) = false →
    let n := beNat (sliceOf (msgPayload (natBytes f)) 0 2) % 4096
    exec (.enumReceived p f) s = .next (enumEndOut p.val n (takeId n false s))) ∧
  (∀ (s : State) (p : Fin 2) (f : List Byte), msgForMe s p.val 4 (natBytes f) = true → nodeState s = 3 →
    byteAt (msgPayload (natBytes f)) 2 ≠ 0 →
    let t : State := { s with drl := { s.drl with
      topId := max s.drl.topId (beNat (sliceOf (msgPayload (natBytes f)) 0 2) % 4096) } }
    exec (.enumEndReceived p f) s = .next (rootNet (t.set DRL_NODE.STATE 4))) ∧
  (∀ (s : State) (p : Fin 2) (f : List Byte), msgForMe s p.val 5 (natBytes f) = true → nodeState s = 4 →
    let dsn := beNat (sliceOf (msgPayload (natBytes f)) 0 8)
    (∀ id, tableId s dsn = some id → exec (.joinReceived p f) s = .next (assignOut dsn id true s)) ∧
    (∀ id, tableId s dsn = none → freeId s = some id → exec (.joinReceived p f) s = .next (assignOut dsn id false s)) ∧
    (tableId s dsn = none → freeId s = none → exec (.joinReceived p f) s = .next s)) ∧
  (∀ (s : State) (p : Fin 2) (f : List Byte), msgForMe s p.val 6 (natBytes f) = true →
    beNat (sliceOf (msgPayload (natBytes f)) 0 8) ≠ s.fuses.dsn → s.hbr.far = [] →
    exec (.assignReceived p f) s =
      .next (setMember (beNat (sliceOf (msgPayload (natBytes f)) 8 2) % 4096) true s)) ∧
  (∀ (s : State) (p : Fin 2) (f : List Byte), msgForMe s p.val 7 (natBytes f) = true → isRoot s = false →
    s.hbr.far = [] → exec (.nodeUpReceived p f) s =
      .next (setMember (beNat (sliceOf (msgPayload (natBytes f)) 8 2) % 4096) true s)) ∧
  (∀ (s : State) (p : Fin 2) (f : List Byte), msgForMe s p.val 2 (natBytes f) = true →
    beNat (sliceOf (msgPayload (natBytes f)) 8 2) = 0xFFFF → ∃ t, exec (.helloReceived p f) s = .next t ∧
      t.flag DRL_PSTAT.PVALID p.val = false ∧
      t.get DRL_PDSNLO.DSN p.val = beNat (sliceOf (msgPayload (natBytes f)) 0 8) % 2 ^ 32) ∧
  (∀ s : State, nodeState s < 2 → exec .helloInterval s = .next s) ∧
  (∀ s : State, 2 ≤ nodeState s → ringState s 0 = 3 → ringState s 1 = 0 →
    exec .helloInterval s = .next (sendOn 0 (ringMsg s 2 false 0 0 (dsnBytes s ++ beBytes 2 ((nodeId s).getD 0xFFFF) ++
      [0, s.get DRL_PSTAT.RATE 0])) s)) ∧
  (∀ s : State, exec .joinInterval s = .next (if nodeState s = 5 ∧ nodeId s = none ∧ s.get DRL_NET.PHASE = 2 then
    sendForward (ringMsg s 5 false (s.get DRL_NET.ROOTID) 0 (dsnBytes s)) s else s)) ∧
  (∀ s : State, (nodeId s = none ∨ s.drl.nodeUpDue = false ∨ nodeState s < 2) → exec .nodeUpSend s = .next s) ∧
  (∀ (s : State) (n : Nat), nodeId s = some n → s.drl.nodeUpDue = true → 2 ≤ nodeState s →
    let t : State := { s with drl := { s.drl with nodeUpDue := false } }
    exec .nodeUpSend s = .next (sendForward (ringMsg t 7 true 0 0
      (assignBody s.fuses.dsn n (b2n s.drl.rejoin + 2 * b2n (nodeSlow t)))) t))

/-- An EVENT for the node counts, shows in EVLAST and is scheduled: dropped and counted while 256 are held, kept when
at least 4 ns remain, and otherwise fired at once as late, with LATECNT, DRL_LATE and LATE. At its tick each due event
leaves the list and fires the enabled map entries that name it. A served read of EVLAST's last word answers it and
clears VALID. An RREAD or RWRITE is answered BUSY while 128 wait, REFUSED while its enable is 0, and otherwise
performed on BAR0 and answered OK with a count. A response for no outstanding access counts as stale; REFUSED ends the
access with cause 4, BUSY marks it for a retry, which sends it again, and OK ends it. DESIGN CHOICE: BUSY is judged
before REFUSED. The model's choices that it rests on: log entries 8, 26, 54, 111. (R558, R609, R610, R623, R624, R625,
R626, R627, 18_drumline.md.) -/
def Obligations.RingEventsAndRemoteAccesses : Prop :=
  (∀ (s : State) (p : Fin 2) (f : List Byte) (held : Nat),
    (msgForMe s p.val 11 (natBytes f) = false → exec (.drlEventReceived p f) s = .next s) ∧
    (msgForMe s p.val 12 (natBytes f) = false → exec (.rreadReceived p f held) s = .next s) ∧
    (msgForMe s p.val 13 (natBytes f) = false → exec (.rrspReceived p f) s = .next s) ∧
    (msgForMe s p.val 14 (natBytes f) = false → exec (.rwriteReceived p f held) s = .next s) ∧
    (msgForMe s p.val 15 (natBytes f) = false → exec (.rwackReceived p f) s = .next s)) ∧
  (∀ (s : State) (p : Fin 2) (f : List Byte), msgForMe s p.val 11 (natBytes f) = true →
    let pl := msgPayload (natBytes f)
    let e : RingEvent := {
      num := beNat (sliceOf pl 0 2) % 1024
      src := msgSrc (natBytes f)
      occ := ringNs (sliceOf pl 4 10)
      pres := ringNs (sliceOf pl 14 10)
      unsync := bitAt (byteAt pl 2) 0 }
    let t := showEvent e (s.count DRL_EVRX.COUNT)
    (256 ≤ s.drl.sched.length → exec (.drlEventReceived p f) s =
      .next ((t.count DRL_EVDROP.FULL).logRun 0x1008 0 [e.num])) ∧
    (s.drl.sched.length < 256 → s.now + 4 * 4294967296 ≤ e.pres * 4294967296 →
      exec (.drlEventReceived p f) s = .next { t.endRun 0x1008 0 with drl := { (t.endRun 0x1008 0).drl with
        sched := s.drl.sched ++ [e] } }) ∧
    (s.drl.sched.length < 256 → e.pres * 4294967296 < s.now + 4 * 4294967296 →
      exec (.drlEventReceived p f) s = .next (lateEvent e (t.endRun 0x1008 0)))) ∧
  (∀ (s : State) (e : RingEvent), lateEvent e s = presentNums [e.num] 1 ((((s.count DRL_LATECNT.COUNT).fire 0x2E3).logSec
    0x1007 0 [e.num, e.src, s.nowNs - e.pres]).set DRL_EVLAST0.LATE 1)) ∧
  (∀ s : State, (∀ e ∈ s.drl.sched, s.now + 2 * 4294967296 ≤ e.pres * 4294967296) →
    exec .eventPresent s = .next s) ∧
  (∀ (s : State) (e : RingEvent) (j : Nat), s.drl.sched = [e] → e.pres * 4294967296 < s.now + 2 * 4294967296 → j < 64 →
    (∀ i, i < 64 → (s.flag DRL_EMAP.EN i = true ∧ s.get DRL_EMAP.NUM i = e.num ↔ i = j)) →
    exec .eventPresent s = .next (({ s with drl := { s.drl with sched := [] } } : State).fireAt (0x2A0 + j) s.now 0)) ∧
  (∀ s : State, Served s 0xE20070 → exec .evlastRead s =
    .next ((s.emit (.readData 0xE20070 (s.rdA 0xE20070))).set DRL_EVLAST0.VALID 0)) ∧
  (∀ (s : State) (p : Fin 2) (f : List Byte) (held : Nat), 128 ≤ held →
    (msgForMe s p.val 12 (natBytes f) = true → exec (.rreadReceived p f held) s =
      .next (remoteAnswer (natBytes f) 13 2 [] (s.count DRL_REMCNT.BUSY))) ∧
    (msgForMe s p.val 14 (natBytes f) = true → exec (.rwriteReceived p f held) s =
      .next (remoteAnswer (natBytes f) 15 2 [] (s.count DRL_REMCNT.BUSY)))) ∧
  (∀ (s : State) (p : Fin 2) (f : List Byte) (held : Nat), held < 128 →
    let a := beNat (sliceOf (msgPayload (natBytes f)) 0 4)
    (msgForMe s p.val 12 (natBytes f) = true → s.flag DRL_CFG.REMRD = false → exec (.rreadReceived p f held) s =
      .next (remoteAnswer (natBytes f) 13 1 []
        ((s.count DRL_REMCNT.REFUSED).logSec 0x100C 0 [msgSrc (natBytes f), a]))) ∧
    (msgForMe s p.val 14 (natBytes f) = true → s.flag DRL_CFG.REMWR = false → exec (.rwriteReceived p f held) s =
      .next (remoteAnswer (natBytes f) 15 1 []
        ((s.count DRL_REMCNT.REFUSED).logSec 0x100C 0 [msgSrc (natBytes f), a]))) ∧
    (msgForMe s p.val 12 (natBytes f) = true → s.flag DRL_CFG.REMRD = true →
      byteAt (msgPayload (natBytes f)) 4 = 1 → a % 4 = 0 → exec (.rreadReceived p f held) s =
        .next (remoteAnswer (natBytes f) 13 0 [(localRead a s).1] ((localRead a s).2.count DRL_REMSERVED.COUNT))) ∧
    (msgForMe s p.val 14 (natBytes f) = true → s.flag DRL_CFG.REMWR = true →
      byteAt (msgPayload (natBytes f)) 4 = 1 → a % 4 = 0 → exec (.rwriteReceived p f held) s =
        .next (remoteAnswer (natBytes f) 15 0 []
          ((localWrite a (beNat (sliceOf (msgPayload (natBytes f)) 8 4)) s).count DRL_REMSERVED.COUNT)))) ∧
  (∀ (s : State) (p : Fin 2) (f : List Byte), s.hbr.far = [] →
    (msgForMe s p.val 13 (natBytes f) = true → exec (.rrspReceived p f) s = .next (s.count DRL_STALE.COUNT)) ∧
    (msgForMe s p.val 15 (natBytes f) = true → exec (.rwackReceived p f) s = .next (s.count DRL_STALE.COUNT))) ∧
  (∀ (s : State) (p : Fin 2) (f : List Byte) (r : FarReq), msgForMe s p.val 13 (natBytes f) = true →
    s.hbr.far = [r] → r.flying = true → r.isWrite = false → r.node = msgSrc (natBytes f) →
    r.id % 65536 = msgTag (natBytes f) →
    (byteAt (msgPayload (natBytes f)) 5 = 1 → exec (.rrspReceived p f) s = .next (farFail r.id 4 s)) ∧
    (byteAt (msgPayload (natBytes f)) 5 = 2 →
      exec (.rrspReceived p f) s = .next (setFar [{ r with retry := true }] s))) ∧
  (∀ (s : State) (id : Nat), s.hbr.far.find? (fun r => r.id == id && r.retry) = none →
    exec (.remoteRetry id) s = .next s) ∧
  (∀ (s : State) (r : FarReq), s.hbr.far = [r] → r.retry = true →
    exec (.remoteRetry r.id) s = .next (farSend r (setFar [{ r with retry := false }] s)))

/-- Both lines high for IDLE cycles take WAITIDLE to IDLE with one slot check, and abandon a frame in RECV. A fall of
the clock from idle makes the node receive, or send when it has a request and joins; its own strike from IDLE sends
the next request, lowest PRIO, then lowest source; it loses and receives where its frame has the first 1 against a 0.
A MARK with its tail low does nothing but abandon; a good one ends the frame: the sender of an acknowledged or
broadcast frame has succeeded, else it retries; a receiver checks, counts and acts on an accepted frame, a MSG joining
the FIFO. A framing error in a frame abandons it. GO is refused for a bad CMD or LEN, and TXTO fails a waiting request
with cause 2; RXPOP removes the head; BWR_CFG with EN = 0 is OFF, otherwise WAITIDLE. The model's choices that it
rests on: log entries 29, 60, 94, 111. (R635, R636, R640, R642, R643, R644, R645, R646, R647, R648, R650,
19_bellwire.md.) -/
def Obligations.BellwireFrames : Prop :=
  (∀ s : State, bwState s = 1 → s.bwr.reqs.any (fun r => r.src == 17) = false →
    let t := ((s.set BWR_STAT.CLK 1).set BWR_STAT.DAT 1).set BWR_STAT.STATE 2
    exec .busIdle s = .next { t with bwr := { t.bwr with reqs := t.bwr.reqs ++
      [{ src := 17, bytes := bwHeader 7 0 (s.get BWR_CFG.SLOT) 2 0 }] } }) ∧
  (∀ s : State, bwState s = 4 →
    exec .busIdle s = .next (bwAbandon false ((s.set BWR_STAT.CLK 1).set BWR_STAT.DAT 1))) ∧
  (∀ s : State, bwState s ≠ 1 → bwState s ≠ 4 →
    exec .busIdle s = .next ((s.set BWR_STAT.CLK 1).set BWR_STAT.DAT 1)) ∧
  (∀ (s : State) (j : Bool) (rival : List Byte), bwState s ≠ 2 →
    exec (.strikeSeen j rival) s = .next (s.set BWR_STAT.CLK 0) ∧ exec (.bwStrike rival) s = .next s) ∧
  (∀ (s : State) (rival : List Byte), bwState s = 2 →
    exec (.strikeSeen false rival) s = .next ((s.set BWR_STAT.CLK 0).set BWR_STAT.STATE 4)) ∧
  (∀ (s : State) (rival : List Byte) (r : BwReq), bwState s = 2 → bwNext s = some r →
    exec (.strikeSeen true rival) s = .next (bwStart r (natBytes rival) (s.set BWR_STAT.CLK 0)) ∧
    exec (.bwStrike rival) s =
      .next (bwStart r (natBytes rival) ((s.set BWR_STAT.CLK 0).set BWR_STAT.DAT 1))) ∧
  (∀ (s : State) (r : BwReq) (rival : List Nat), bwStart r rival s =
    let t := s.emit (.bellwire 0 (r.bytes ++ [crc8 r.bytes]))
    if bwLoses (r.bytes ++ [crc8 r.bytes]) rival = true then (t.count BWR_TXCNT.ARBLOST).set BWR_STAT.STATE 4
    else ({ t with bwr := { t.bwr with cur := some r } } : State).set BWR_STAT.STATE 3) ∧
  (∀ (c x y : List Nat) (a b : Nat), a ≠ b → bwLoses (c ++ a :: x) (c ++ b :: y) = decide (b < a)) ∧
  (∀ (s : State) (r q : BwReq), s.bwr.reqs = [r, q] → r.src < q.src → q.src < 17 →
    bwNext s = some (if bwPrio q.bytes < bwPrio r.bytes then q else r)) ∧
  (∀ (s : State) (f : List Byte) (a t : Bool), bwState s ≠ 3 → bwState s ≠ 4 →
    exec (.frameMark f a t) s = .next s ∧ exec .framingError s = .next s) ∧
  (∀ (s : State) (f : List Byte) (a : Bool), bwState s = 3 →
    exec (.frameMark f a false) s = .next (bwAbandon false s) ∧ exec .framingError s = .next (bwAbandon false s)) ∧
  (∀ (s : State) (f : List Byte) (a : Bool) (r : BwReq), bwState s = 3 → s.bwr.cur = some r →
    let t := ((({ s with bwr := { s.bwr with cur := none } } : State).set BWR_STAT.STATE 2).set BWR_STAT.CLK 1).set
      BWR_STAT.DAT 1
    exec (.frameMark f a true) s = .next (bwSettle r a t)) ∧
  (∀ (s : State) (r : BwReq) (a : Bool), r.src < 17 → bwBcast r.bytes = false →
    s.bwr.reqs.any (fun q => q.src == r.src) = true →
    bwSettle r a s = if a then (bwFree r.src 0 (bwRemove r.src s)).count BWR_TXCNT.SENT
      else if s.get BWR_TIM3.RETRY ≤ r.tries then
        ((bwFree r.src 1 (bwRemove r.src s)).count BWR_ERRCNT.NACK).log 0x1101 [r.src, 1]
      else { s with bwr := { s.bwr with reqs := s.bwr.reqs.map (fun q =>
        if q.src == r.src then { q with tries := q.tries + 1 } else q) } }) ∧
  (∀ (s : State) (f : List Byte) (a : Bool), bwState s = 4 → crc8 ((natBytes f).take (bwLen (natBytes f) + 2)) ≠
      byteAt (natBytes f) (bwLen (natBytes f) + 2) →
    exec (.frameMark f a true) s = .next (((((s.count BWR_ERRCNT.CRC).logSec 0x1105 0).set BWR_STAT.STATE 2).set
      BWR_STAT.CLK 1).set BWR_STAT.DAT 1)) ∧
  (∀ (s : State) (f : List Byte) (a : Bool), bwState s = 4 → (natBytes f).length = bwLen (natBytes f) + 3 →
    crc8 ((natBytes f).take (bwLen (natBytes f) + 2)) = byteAt (natBytes f) (bwLen (natBytes f) + 2) →
    bwBcast (natBytes f) = false → bwDst (natBytes f) = s.get BWR_CFG.SLOT → bwCmd (natBytes f) = 2 →
    bwLen (natBytes f) = 0 →
    exec (.frameMark f a true) s = .next (((((s.emit (.bellwire 1 [])).set BWR_STAT.STATE 2).set BWR_STAT.CLK 1).set
      BWR_STAT.DAT 1).count BWR_RXCNT.COUNT)) ∧
  (∀ (s : State) (v : Word), Served s 0xE80300 → s.flag BWR_TXCTL.BUSY = true →
    exec (.txctlGo v) s = .next (codedWrite 0xE80300 (v.toNat ||| 2 ^ 30) s)) ∧
  (∀ (s : State) (v : Word), Served s 0xE80300 → s.flag BWR_TXCTL.BUSY = false →
    let t := codedWrite 0xE80300 (v.toNat ||| 2 ^ 30) s
    let d := leBytes 4 (t.get BWR_TXDATA0.DATA) ++ leBytes 4 (t.get BWR_TXDATA1.DATA)
    exec (.txctlGo v) s = .next (if bwCmdOk (t.get BWR_TXCTL.CMD) (t.get BWR_TXCTL.LEN) = true then
        bwAdd {
          src := 16
          bytes := bwHeader (t.get BWR_TXCTL.PRIO) (t.get BWR_TXCTL.BCAST) (t.get BWR_TXCTL.DST) (t.get BWR_TXCTL.CMD)
            (t.get BWR_TXCTL.LEN) ++ d.take (t.get BWR_TXCTL.LEN) }
          ((t.set BWR_TXCTL.BUSY 1).set BWR_TXCTL.RESULT 0)
      else t.set BWR_TXCTL.RESULT 3)) ∧
  (∀ (s : State) (k : Fin 17), exec (.txTimeout k) s =
    .next (if s.bwr.reqs.any (fun r => r.src == k.val) = true then
      ((bwFree k.val 2 (bwRemove k.val s)).count BWR_ERRCNT.NACK).log 0x1101 [k.val, 2] else s)) ∧
  (∀ (s : State) (v : Word), Served s 0xE80320 →
    exec (.rxPop v) s = .next (showRx { s with bwr := { s.bwr with fifo := s.bwr.fifo.drop 1 } })) ∧
  (∀ (s : State) (v : Word), Served s 0xE80100 →
    let c := codedWrite 0xE80100 v.toNat s
    let t : State := { c with bwr := { c.bwr with cur := none, striking := false, retry := false } }
    exec (.bwrCfgWrite v) s = .next (afterBasic 17 0xE80100 v.toNat (s.rdA 0xE80100) (if bitAt v.toNat 31 = false then
        ({ t with bwr := { t.bwr with reqs := t.bwr.reqs.filter (fun r => r.src != 17) } } : State).set BWR_STAT.STATE 0
      else if s.flag BWR_CFG.EN = true then t.set BWR_STAT.STATE 1
      else (t.set BWR_STAT.DUPSLOT 0).set BWR_STAT.STATE 1)))

/-- A clock low for CLKTO cycles abandons the frame, enters WAITIDLE, counts and logs 0x1102, except in OFF and while
the grabber drives its own reset strike. A data line stuck low outside a frame starts the first reset strike and
RECOVER, elsewhere only the lines show. The end of a reset strike releases the clock. The check after it ends recovery
in IDLE with RECOVER counted and 0x1104 when the line is high, repeats the strike up to three, and then logs 0x1103
and waits in IDLE for the retry, which starts over. An abandoned frame leaves no current frame and puts its sender's
request back for another try. The model's choices that it rests on: log entries 94, 111. (R634, R647, R649, R653,
19_bellwire.md.) -/
def Obligations.BellwireRecovery : Prop :=
  (∀ s : State, (bwState s = 0 ∨ (bwState s = 5 ∧ s.bwr.striking = true)) →
    exec .clkLowTimeout s = .next (s.set BWR_STAT.CLK 0)) ∧
  (∀ s : State, bwState s ≠ 0 → (bwState s ≠ 5 ∨ s.bwr.striking = false) →
    let t := s.set BWR_STAT.CLK 0
    exec .clkLowTimeout s = .next (((bwAbandon true { t with bwr := { t.bwr with striking := false } }).count
      BWR_ERRCNT.CLKTO).log 0x1102)) ∧
  (∀ s : State, s.bwr.cur = none → bwAbandon true s = s.set BWR_STAT.STATE 1 ∧
    bwAbandon false s = (s.set BWR_STAT.STATE 1).logSec 0x1108 0) ∧
  (∀ (s : State) (r : BwReq), s.bwr.cur = some r →
    bwAbandon true s = bwAgain r (({ s with bwr := { s.bwr with cur := none } } : State).set BWR_STAT.STATE 1)) ∧
  (∀ s : State, bwState s ≠ 1 → bwState s ≠ 2 →
    exec .busStuckDetect s = .next ((s.set BWR_STAT.CLK 1).set BWR_STAT.DAT 0)) ∧
  (∀ s : State, (bwState s = 1 ∨ bwState s = 2) → ∃ t, exec .busStuckDetect s = .next t ∧ bwState t = 5 ∧
    t.bwr = { s.bwr with strikes := 1, striking := true, retry := false } ∧
    t.sent = (s.emit (.bellwire 2 [])).sent ∧ t.get BWR_STAT.CLK = 0 ∧ t.get BWR_STAT.DAT = 0) ∧
  (∀ s : State, exec .resetStrikeEnd s = .next (if bwState s = 5 ∧ s.bwr.striking = true then
    ({ s with bwr := { s.bwr with striking := false } } : State).set BWR_STAT.CLK 1 else s)) ∧
  (∀ (s : State) (h : Bool), (bwState s ≠ 5 ∨ s.bwr.striking = true) → exec (.recoveryCheck h) s = .next s) ∧
  (∀ s : State, bwState s = 5 → s.bwr.striking = false → exec (.recoveryCheck true) s =
    .next ((((s.set BWR_STAT.DAT 1).set BWR_STAT.STATE 2).count BWR_ERRCNT.RECOVER).log 0x1104 [s.bwr.strikes])) ∧
  (∀ s : State, bwState s = 5 → s.bwr.striking = false → s.bwr.strikes < 3 → ∃ t,
    exec (.recoveryCheck false) s = .next t ∧ bwState t = 5 ∧ t.bwr.strikes = s.bwr.strikes + 1 ∧
    t.bwr.striking = true ∧ t.sent = (s.emit (.bellwire 2 [])).sent) ∧
  (∀ s : State, bwState s = 5 → s.bwr.striking = false → 3 ≤ s.bwr.strikes →
    let t := ((s.set BWR_STAT.DAT 0).set BWR_STAT.STATE 2).log 0x1103
    exec (.recoveryCheck false) s = .next { t with bwr := { t.bwr with retry := true } }) ∧
  (∀ s : State, (s.bwr.retry = false ∨ (bwState s ≠ 1 ∧ bwState s ≠ 2)) → exec .recoveryRetry s = .next s) ∧
  (∀ s : State, s.bwr.retry = true → (bwState s = 1 ∨ bwState s = 2) → ∃ t, exec .recoveryRetry s = .next t ∧
    bwState t = 5 ∧ t.bwr.strikes = 1 ∧ t.bwr.striking = true ∧ t.bwr.retry = false)

/-- Five rising edges with TMS high reach Test-Logic-Reset from every TAP state. A rising edge in Capture-DR loads the
register that the instruction selects, in Shift-DR it shifts towards TDO, elsewhere it only steps; a falling edge
shows bit 0 at TDO while shifting and nothing otherwise, and makes the instruction or the boundary cells current in
the update states. An instruction that gives the pins back causes a warm reset; any other only becomes current, and
Test-Logic-Reset selects IDCODE. A code outside the catalogue raises nothing (DESIGN CHOICE); an error found with the
FIFO full counts, fires, and is dropped unless filtered; any other is logged. The second TDO level and the update of
an instruction follow IEEE 1149.1 (PRESUMED). A served write of ERR_RCNT ends the run of overwrites. The model's
choices that it rests on: log entries 9, 109, 110, 113. (R675, R676, R677, R678, R679, R721, R722, R723, R724, R725,
R730, 20_pins_and_package.md.) -/
def Obligations.BoundaryScanAndErrors : Prop :=
  (∀ t : TapState, tapNext (tapNext (tapNext (tapNext (tapNext t true) true) true) true) true = .testLogicReset) ∧
  (∀ (s : State) (c : Byte), (tapOwns s = false ∨ c.toNat = s.jtag.ir) →
    exec (.jtagInstructionUpdate c) s = .next { s with jtag := { s.jtag with ir := c.toNat } }) ∧
  (∀ (s : State) (c : Byte), tapOwns s = true → tapOwns { s with jtag := { s.jtag with ir := c.toNat } } = false →
    exec (.jtagInstructionUpdate c) s = .next (warmReset { s with jtag := { s.jtag with ir := c.toNat } })) ∧
  (∀ s : State, tapOwns s = false → exec .tapReset s =
    .next { s with jtag := { s.jtag with ir := 1, tap := .testLogicReset, tdo := none } }) ∧
  (∀ (s : State) (tms tdi : Bool) (pins : BitVec 180), s.jtag.tap = .captureDr → s.jtag.ir = 1 →
    exec (.tckEdge true tms tdi pins) s = .next { s with jtag := { s.jtag with
      shift := tapId s.fuses.variant
      tap := if tms then .exit1Dr else .shiftDr } }) ∧
  (∀ (s : State) (tms tdi : Bool) (pins : BitVec 180), s.jtag.tap = .captureDr → (s.jtag.ir = 0 ∨ s.jtag.ir = 2) →
    s.fuses.variant ≠ .e → exec (.tckEdge true tms tdi pins) s = .next { s with jtag := { s.jtag with
      shift := tapMirror pins.toNat
      tap := if tms then .exit1Dr else .shiftDr } }) ∧
  (∀ (s : State) (tms tdi : Bool) (pins : BitVec 180), s.jtag.tap = .shiftDr → s.jtag.ir = 1 →
    exec (.tckEdge true tms tdi pins) s = .next { s with jtag := { s.jtag with
      shift := s.jtag.shift / 2 + (if tdi then 1 else 0) * 2 ^ 31
      tap := if tms then .exit1Dr else .shiftDr } }) ∧
  (∀ (s : State) (tms tdi : Bool) (pins : BitVec 180), s.jtag.tap = .shiftIr →
    exec (.tckEdge true tms tdi pins) s = .next { s with jtag := { s.jtag with
      shift := s.jtag.shift / 2 + (if tdi then 1 else 0) * 2 ^ 7
      tap := if tms then .exit1Ir else .shiftIr } }) ∧
  (∀ (s : State) (tms tdi : Bool) (pins : BitVec 180), s.jtag.tap = .updateDr →
    exec (.tckEdge true tms tdi pins) s = .next { s with jtag := { s.jtag with
      tap := if tms then .selectDr else .runTestIdle } }) ∧
  (∀ (s : State) (tms tdi : Bool) (pins : BitVec 180), (s.jtag.tap = .shiftDr ∨ s.jtag.tap = .shiftIr) →
    exec (.tckEdge false tms tdi pins) s = .next { s with jtag := { s.jtag with
      tdo := some (bitAt s.jtag.shift 0) } }) ∧
  (∀ (s : State) (tms tdi : Bool) (pins : BitVec 180), s.jtag.tap = .updateIr →
    exec (.tckEdge false tms tdi pins) s =
      exec (.jtagInstructionUpdate (BitVec.ofNat 8 s.jtag.shift)) { s with jtag := { s.jtag with tdo := none } }) ∧
  (∀ (s : State) (tms tdi : Bool) (pins : BitVec 180), s.jtag.tap = .updateDr → s.jtag.ir = 0 →
    exec (.tckEdge false tms tdi pins) s = .next { s with jtag := { s.jtag with
      tdo := none
      cells := tapMirror s.jtag.shift } }) ∧
  (∀ (s : State) (c : BitVec 16) (d0 d1 d2 d3 : Word) (full : Bool), catalogued s.fuses.variant c.toNat = false →
    exec (.errorRaise c d0 d1 d2 d3 full) s = .next s) ∧
  (∀ (s : State) (c : BitVec 16) (d0 d1 d2 d3 : Word), catalogued s.fuses.variant c.toNat = true →
    exec (.errorRaise c d0 d1 d2 d3 false) s =
      .next (s.log c.toNat [d0.toNat, d1.toNat, d2.toNat, d3.toNat])) ∧
  (∀ (s : State) (c : BitVec 16) (d0 d1 d2 d3 : Word), catalogued s.fuses.variant c.toNat = true →
    let t := ((s.count ERR_UNITCNT.COUNT (c.toNat / 256 - 1)).fire 0x3E0).fire (0x3E0 + c.toNat / 256)
    exec (.errorRaise c d0 d1 d2 d3 true) s = .next (if sevOf c.toNat < t.get ERR_CTL.MINSEV then t.count ERR_FILT.COUNT
      else { t.count ERR_DROP.COUNT with err := { t.err with dropRun := t.err.dropRun + 1 } })) ∧
  (∀ (s : State) (v : Word), Served s (ERR_RCNT.COUNT.adr 0) → exec (.errRcntWrite v) s =
    .next { codedWrite (ERR_RCNT.COUNT.adr 0) v.toNat s with
      runs := tput false (codedWrite (ERR_RCNT.COUNT.adr 0) v.toNat s).runs 0x12010000 false })

/-- For every command c and state s, the step of s with c at the front of its queue is exec of c on s with the queue's
rest. With an empty queue the step is one tick of CLK_TIME: elapsed time grows by 2 ns, and with CLK_TIME out of reset
the time base advances by its increment; no register, no queue and nothing sent changes. That the block ticks in place
of idling is the model's choice (DESIGN CHOICE, log entry 1). The opcode table gives its rows no bits, so no word
spells a command. The model's choices that it rests on: log entry 7. (R142, R158, R159,
05_register_conventions_and_address_map.md, 06_time_base_and_ptp.md.) -/
def Obligations.StepServesTheFront : Prop :=
  (∀ (c : Instr) (rest : List Instr) (s : State),
    step { s with pending := c :: rest } = exec c { s with pending := rest }) ∧
  (∀ (c : Instr) (s : State), step (s.withFront c) = exec c s) ∧
  (∀ s : State, s.pending = [] → step s = .next { s with
    elapsed := s.elapsed + 2
    now := if s.clk.timeUp then (s.now + tickIncrement s) % timeSpan else s.now }) ∧
  (∀ (s : State) (nbits w : Nat), Sys2Proof.decodeTableWord nbits w = none ∧ s.withFetchWord nbits w = s)

/-- State.reset is the state while POR_N is low: every register of the address map reads its reset word, and the
register table has its canonical form. No command waits, nothing has been fired or sent, no time has passed. POR_N and
PERST_N are low and every clock domain is in reset. The loader is in FUSE and not done, STANDBY is in effect, the host
bridge is DOWN, no node ID is valid, and the test access port is in Test-Logic-Reset with IDCODE. The fuses of the
device are the model's choice (DESIGN CHOICE, log entry 3). The model's choices that it rests on: log entry 28. (R18,
R54, R71, R74, R530, R612, R675, 02_clock_domains_and_crossings.md, 05_register_conventions_and_address_map.md.) -/
def Obligations.ResetState : Prop :=
  State.reset.regsOk = true ∧
  (∀ a : Nat, resetWord a < 2 ^ 32 → State.reset.rdA a = resetWord a) ∧
  State.reset.pending = [] ∧ State.reset.fired = [] ∧ State.reset.sent = [] ∧ State.reset.now = 0 ∧
  State.reset.elapsed = 0 ∧ State.reset.clk.porLow = true ∧ State.reset.clk.perstLow = true ∧
  State.reset.clk.cfgUp = false ∧ State.reset.clk.coreUp = false ∧ State.reset.clk.timeUp = false ∧
  State.reset.clk.hostUp = false ∧ State.reset.clk.vencUp = false ∧
  State.reset.get CFG_STATUS.PHASE = 0 ∧ State.reset.flag CFG_STATUS.DONE = false ∧
  State.reset.get GLB_MODESTAT.CUR = 0 ∧ State.reset.get HBR_STAT.STATE = 0 ∧ State.reset.flag DRL_NODE.VALID = false ∧
  State.reset.jtag.tap = .testLogicReset ∧ State.reset.jtag.ir = 1

/-- For every command, with every operand that its constructor admits, and for every state, exec answers a next state:
no command of the table ends in a fault or a refusal, and a request that the spec refuses is refused by the block, in
a next state. The commands that wait and the time that has passed are unchanged, so a command acts on everything but
the queue. (R14, R16, R142, 05_register_conventions_and_address_map.md, 95_what_each_step_holds.md.) -/
def Obligations.EveryCommandCompletes : Prop :=
  (∀ (c : Instr) (s : State), ∃ t, exec c s = .next t ∧ t.pending = s.pending ∧ t.elapsed = s.elapsed) ∧
  (∀ s : State, Completes s)

/-- For every state whose register table is in canonical form, its addresses strictly rising and no entry equal to its
register's reset word, and for the next state that the step answers, the table is in that form again. Equal register
contents are therefore equal data, whatever commands wrote them. That the form holds after reset is part of
ResetState. (R15, R18, R71, 05_register_conventions_and_address_map.md.) -/
def Obligations.EveryStepKeepsTheRegisterForm : Prop :=
  ∀ s t : State, s.regsOk = true → step s = .next t → t.regsOk = true

/-- For every state and the next state that its step answers: the variant and the serial number are those before, so
the Device ID of configuration space and the code of the IDCODE register are too; what had been sent is a prefix of
what has been sent; elapsed time has not gone back; the counter of the free values has not gone back, so no free value
is given out a second time; and one command at most has left the queue, from its front. (R1, R8, R155, R677,
00_scope.md, 05_register_conventions_and_address_map.md.) -/
def Obligations.EveryStepKeepsTheDevice : Prop :=
  ∀ s t : State, step s = .next t →
    s.sameDevice t ∧ deviceId t = deviceId s ∧ tapId t.fuses.variant = tapId s.fuses.variant ∧ s.sent <+: t.sent ∧
      s.elapsed ≤ t.elapsed ∧ s.freeCount ≤ t.freeCount ∧ t.pending = s.pending.tail

/-- For every state and every code of the variant's catalogue of severity error or fatal that the filter passes: while
ERR_FIRSTV is clear, logging it, by ERROR_RAISE or by any command, stores a record whose eight words stand in
ERR_FIRST as they stand in the error log, with the code and the four detail words, and sets ERR_FIRSTV. While
ERR_FIRSTV is set, logging any code of the catalogue leaves all eight words of ERR_FIRST and ERR_FIRSTV unchanged,
whether the input FIFO is full or not. (R725.) -/
def Obligations.FirstErrorIsKept : Prop :=
  (∀ (s : State) (code : Nat) (ds : List Nat), catalogued s.fuses.variant code = true → 2 ≤ sevOf code →
    s.get ERR_CTL.MINSEV ≤ sevOf code → s.flag ERR_FIRSTV.VALID = false →
    (s.log code ds).flag ERR_FIRSTV.VALID = true ∧
      (∃ n < 256, ∀ k < 8, (s.log code ds).rdA (0xF00200 + 4 * k) = (s.log code ds).rdA (0xF01000 + 32 * n + 4 * k)) ∧
      (s.log code ds).rdA 0xF00208 % 2 ^ 16 = code ∧
      ∀ k < 4, (s.log code ds).rdA (0xF00210 + 4 * k) = ds.getD k 0 % 2 ^ 32) ∧
  (∀ (s : State) (c : BitVec 16) (d0 d1 d2 d3 : Word), catalogued s.fuses.variant c.toNat = true →
    exec (.errorRaise c d0 d1 d2 d3 false) s = .next (s.log c.toNat [d0.toNat, d1.toNat, d2.toNat, d3.toNat])) ∧
  (∀ (s : State) (code : Nat) (ds : List Nat), catalogued s.fuses.variant code = true →
    s.flag ERR_FIRSTV.VALID = true → (s.log code ds).flag ERR_FIRSTV.VALID = true ∧
      ∀ k < 8, (s.log code ds).rdA (0xF00200 + 4 * k) = s.rdA (0xF00200 + 4 * k)) ∧
  (∀ (s : State) (c : BitVec 16) (d0 d1 d2 d3 : Word) (full : Bool), s.flag ERR_FIRSTV.VALID = true →
    ∃ t, exec (.errorRaise c d0 d1 d2 d3 full) s = .next t ∧ t.flag ERR_FIRSTV.VALID = true ∧
      ∀ k < 8, t.rdA (0xF00200 + 4 * k) = s.rdA (0xF00200 + 4 * k))

/-- For every state and every EVENT message for the node that finds a place in the list of scheduled events and whose
presentation time has come or passed: DRL_EVENT_RECEIVED answers a next state in which every DRL_EVT producer whose
enabled map entry names the event has fired on the present tick with the flag LATE, DRL_LATE has fired, LATECNT is one
higher, saturating, and the list of scheduled events is as it was. The message is not dropped for lateness;
DRL_EVDROP.FULL is unchanged. (R33.) -/
def Obligations.LateEventsFireAtOnce : Prop :=
  ∀ (s : State) (p : Fin 2) (f : List Byte), msgForMe s p.val 11 (natBytes f) = true → s.drl.sched.length < 256 →
    ringNs (sliceOf (msgPayload (natBytes f)) 14 10) * 2 ^ 32 ≤ s.now →
    ∃ t, exec (.drlEventReceived p f) s = .next t ∧ t.drl.sched = s.drl.sched ∧
      t.get DRL_LATECNT.COUNT = min (2 ^ 32 - 1) (s.get DRL_LATECNT.COUNT + 1) ∧
      t.get DRL_EVDROP.FULL = s.get DRL_EVDROP.FULL ∧ (∃ x ∈ t.fired, x.prod = 0x2E3 ∧ x.time = s.now) ∧
      ∀ j < 64, s.flag DRL_EMAP.EN j = true →
        s.get DRL_EMAP.NUM j = beNat (sliceOf (msgPayload (natBytes f)) 0 2) % 1024 →
        (⟨0x2A0 + j, s.now, 1⟩ : Fired) ∈ t.fired

/-- Setting Bus Master Enable changes the state word of no queue and nothing that a queue holds. For every queue
PAUSED with reason BMEHALT or LINKDOWN, a served RESUME is refused with result CAUSE and logged while the bridge
cannot master, and the queue stays PAUSED; while it can, RESUME is accepted: the queue becomes ACTIVE and then goes
on, its held tag first. That a bridge whose queue functions have stopped after an internal error counts as one that
cannot master is the model's reading of R545. (R535.) -/
def Obligations.QueuesStayPausedWithoutTheMaster : Prop :=
  (∀ s : State, ∃ t, exec .bmeSet s = .next t ∧ t.que = s.que ∧
    ∀ q < 16384, queueState t q = queueState s q ∧ t.get QUE_CTX9.REASON q = s.get QUE_CTX9.REASON q) ∧
  (∀ (s : State) (q : Fin 16384), Served s 0x800020 → s.flag QUE_QCMDSTAT.BUSY = false → queueState s q.val = 2 →
    (s.get QUE_CTX9.REASON q.val = 2 ∨ s.get QUE_CTX9.REASON q.val = 6) → canMaster s = false →
    ∃ t, exec (.queueResume q) s = .next t ∧ queueState t q.val = 2 ∧ t.get QUE_QCMDSTAT.RESULT = 3 ∧
      t = (s.set QUE_QCMDSTAT.RESULT 3).log 0x0D05 [q.val, 3, 3]) ∧
  (∀ (s : State) (q : Fin 16384), Served s 0x800020 → s.flag QUE_QCMDSTAT.BUSY = false → queueState s q.val = 2 →
    (s.get QUE_CTX9.REASON q.val = 2 ∨ s.get QUE_CTX9.REASON q.val = 6) → canMaster s = true →
    ∃ t, queueState t q.val = 1 ∧ t.get QUE_QCMDSTAT.RESULT = 0 ∧ (t.queue q.val).heldTag = none ∧
      exec (.queueResume q) s = .next (promote q.val t))

/-- For every state in which the function answers configuration requests, a read of the first doubleword answers
0x1F9E in bits 15:0 and in bits 31:16 0x1600 on the LVG-16F, 0x1601 on the LVG-16S and 0x1602 on the LVG-16E, and
changes nothing but what has been sent. A read of the third doubleword answers Revision ID 0x10. Once FUSE has read
the fuses, GLB_REV reads the same Device ID and the same stepping. (R8.) -/
def Obligations.ConfigurationSpaceNamesTheDevice : Prop :=
  (∀ (s : State) (a : BitVec 12), (s.get HBR_STAT.STATE = 2 ∨ s.get HBR_STAT.STATE = 3) → a.toNat < 4 →
    exec (.configRequest a none) s = .next (s.emit (.cfgReply (some
      ((match s.fuses.variant with | .f => 0x1600 | .s => 0x1601 | .e => 0x1602) * 2 ^ 16 + 0x1F9E))))) ∧
  (∀ (s : State) (a : BitVec 12), (s.get HBR_STAT.STATE = 2 ∨ s.get HBR_STAT.STATE = 3) → 8 ≤ a.toNat → a.toNat < 12 →
    exec (.configRequest a none) s = .next (s.emit (.cfgReply (some 0x04800010)))) ∧
  (∀ s : State, s.cfg.shadow = true → readVal 0x8 s =
    ((match s.fuses.variant with | .f => 0x1600 | .s => 0x1601 | .e => 0x1602) * 2 ^ 16 + 0x10, s))

/-- For every state with the controller in Capture-DR and IDCODE current, a rising edge of TCK loads a word with 1 in
bits 31:28, the PCIe Device ID in bits 27:12, 0x35D in bits 11:1 and 1 in bit 0, and moves the controller; nothing
else changes. The words are 0x116006BB on the LVG-16F, 0x116016BB on the LVG-16S and 0x116026BB on the LVG-16E.
Version 1 is the high nibble of Revision ID 0x10, and the part number is the upper half of the first doubleword of
configuration space. (R677.) -/
def Obligations.IdcodeNamesTheDevice : Prop :=
  (∀ (s : State) (tms tdi : Bool) (pins : BitVec 180), s.jtag.tap = .captureDr → s.jtag.ir = 1 →
    exec (.tckEdge true tms tdi pins) s = .next { s with jtag := { s.jtag with
      shift := 1 * 2 ^ 28 + deviceId s * 2 ^ 12 + 0x35D * 2 + 1
      tap := if tms then .exit1Dr else .shiftDr } }) ∧
  tapId .f = 0x116006BB ∧ tapId .s = 0x116016BB ∧ tapId .e = 0x116026BB ∧
  (∀ s : State, tapId s.fuses.variant = 1 * 2 ^ 28 + deviceId s * 2 ^ 12 + 0x35D * 2 + 1 ∧
    (spaceRead 0 s).1 / 2 ^ 16 = deviceId s ∧ (spaceRead 8 s).1 % 256 / 16 = 1)
end

