-- ==== Sys2Proof/Laws/State.lean ====
section
/-! SUPPORT. One lemma for each field of the state and each of the plain updates: what a register write, a count or a fire
leaves as it was. -/

namespace Sys2Proof.Machine

@[simp] theorem wrA_pending (s : State) (a v : Nat) : (s.wrA a v).pending = s.pending := (rfl)
@[simp] theorem wrA_now (s : State) (a v : Nat) : (s.wrA a v).now = s.now := (rfl)
@[simp] theorem wrA_elapsed (s : State) (a v : Nat) : (s.wrA a v).elapsed = s.elapsed := (rfl)
@[simp] theorem wrA_fired (s : State) (a v : Nat) : (s.wrA a v).fired = s.fired := (rfl)
@[simp] theorem wrA_sent (s : State) (a v : Nat) : (s.wrA a v).sent = s.sent := (rfl)
@[simp] theorem wrA_stamps (s : State) (a v : Nat) : (s.wrA a v).stamps = s.stamps := (rfl)
@[simp] theorem wrA_runs (s : State) (a v : Nat) : (s.wrA a v).runs = s.runs := (rfl)
@[simp] theorem wrA_freeCount (s : State) (a v : Nat) : (s.wrA a v).freeCount = s.freeCount := (rfl)
@[simp] theorem wrA_fuses (s : State) (a v : Nat) : (s.wrA a v).fuses = s.fuses := (rfl)
@[simp] theorem wrA_clk (s : State) (a v : Nat) : (s.wrA a v).clk = s.clk := (rfl)
@[simp] theorem wrA_cfg (s : State) (a v : Nat) : (s.wrA a v).cfg = s.cfg := (rfl)
@[simp] theorem wrA_glb (s : State) (a v : Nat) : (s.wrA a v).glb = s.glb := (rfl)
@[simp] theorem wrA_err (s : State) (a v : Nat) : (s.wrA a v).err = s.err := (rfl)
@[simp] theorem wrA_que (s : State) (a v : Nat) : (s.wrA a v).que = s.que := (rfl)
@[simp] theorem wrA_hbr (s : State) (a v : Nat) : (s.wrA a v).hbr = s.hbr := (rfl)
@[simp] theorem wrA_tim (s : State) (a v : Nat) : (s.wrA a v).tim = s.tim := (rfl)
@[simp] theorem wrA_drl (s : State) (a v : Nat) : (s.wrA a v).drl = s.drl := (rfl)
@[simp] theorem wrA_pos (s : State) (a v : Nat) : (s.wrA a v).pos = s.pos := (rfl)
@[simp] theorem wrA_chans (s : State) (a v : Nat) : (s.wrA a v).chans = s.chans := (rfl)
@[simp] theorem wrA_tws (s : State) (a v : Nat) : (s.wrA a v).tws = s.tws := (rfl)
@[simp] theorem wrA_out (s : State) (a v : Nat) : (s.wrA a v).out = s.out := (rfl)
@[simp] theorem wrA_lanes (s : State) (a v : Nat) : (s.wrA a v).lanes = s.lanes := (rfl)
@[simp] theorem wrA_groups (s : State) (a v : Nat) : (s.wrA a v).groups = s.groups := (rfl)
@[simp] theorem wrA_src (s : State) (a v : Nat) : (s.wrA a v).src = s.src := (rfl)
@[simp] theorem wrA_ports (s : State) (a v : Nat) : (s.wrA a v).ports = s.ports := (rfl)
@[simp] theorem wrA_pipes (s : State) (a v : Nat) : (s.wrA a v).pipes = s.pipes := (rfl)
@[simp] theorem wrA_ven (s : State) (a v : Nat) : (s.wrA a v).ven = s.ven := (rfl)
@[simp] theorem wrA_btm (s : State) (a v : Nat) : (s.wrA a v).btm = s.btm := (rfl)
@[simp] theorem wrA_bwr (s : State) (a v : Nat) : (s.wrA a v).bwr = s.bwr := (rfl)
@[simp] theorem wrA_jtag (s : State) (a v : Nat) : (s.wrA a v).jtag = s.jtag := (rfl)

@[simp] theorem set_pending (s : State) (f : Fld) (v i j : Nat) : (s.set f v i j).pending = s.pending := (rfl)
@[simp] theorem set_now (s : State) (f : Fld) (v i j : Nat) : (s.set f v i j).now = s.now := (rfl)
@[simp] theorem set_elapsed (s : State) (f : Fld) (v i j : Nat) : (s.set f v i j).elapsed = s.elapsed := (rfl)
@[simp] theorem set_fired (s : State) (f : Fld) (v i j : Nat) : (s.set f v i j).fired = s.fired := (rfl)
@[simp] theorem set_sent (s : State) (f : Fld) (v i j : Nat) : (s.set f v i j).sent = s.sent := (rfl)
@[simp] theorem set_stamps (s : State) (f : Fld) (v i j : Nat) : (s.set f v i j).stamps = s.stamps := (rfl)
@[simp] theorem set_runs (s : State) (f : Fld) (v i j : Nat) : (s.set f v i j).runs = s.runs := (rfl)
@[simp] theorem set_freeCount (s : State) (f : Fld) (v i j : Nat) : (s.set f v i j).freeCount = s.freeCount := (rfl)
@[simp] theorem set_fuses (s : State) (f : Fld) (v i j : Nat) : (s.set f v i j).fuses = s.fuses := (rfl)
@[simp] theorem set_clk (s : State) (f : Fld) (v i j : Nat) : (s.set f v i j).clk = s.clk := (rfl)
@[simp] theorem set_cfg (s : State) (f : Fld) (v i j : Nat) : (s.set f v i j).cfg = s.cfg := (rfl)
@[simp] theorem set_glb (s : State) (f : Fld) (v i j : Nat) : (s.set f v i j).glb = s.glb := (rfl)
@[simp] theorem set_err (s : State) (f : Fld) (v i j : Nat) : (s.set f v i j).err = s.err := (rfl)
@[simp] theorem set_que (s : State) (f : Fld) (v i j : Nat) : (s.set f v i j).que = s.que := (rfl)
@[simp] theorem set_hbr (s : State) (f : Fld) (v i j : Nat) : (s.set f v i j).hbr = s.hbr := (rfl)
@[simp] theorem set_tim (s : State) (f : Fld) (v i j : Nat) : (s.set f v i j).tim = s.tim := (rfl)
@[simp] theorem set_drl (s : State) (f : Fld) (v i j : Nat) : (s.set f v i j).drl = s.drl := (rfl)
@[simp] theorem set_pos (s : State) (f : Fld) (v i j : Nat) : (s.set f v i j).pos = s.pos := (rfl)
@[simp] theorem set_chans (s : State) (f : Fld) (v i j : Nat) : (s.set f v i j).chans = s.chans := (rfl)
@[simp] theorem set_tws (s : State) (f : Fld) (v i j : Nat) : (s.set f v i j).tws = s.tws := (rfl)
@[simp] theorem set_out (s : State) (f : Fld) (v i j : Nat) : (s.set f v i j).out = s.out := (rfl)
@[simp] theorem set_lanes (s : State) (f : Fld) (v i j : Nat) : (s.set f v i j).lanes = s.lanes := (rfl)
@[simp] theorem set_groups (s : State) (f : Fld) (v i j : Nat) : (s.set f v i j).groups = s.groups := (rfl)
@[simp] theorem set_src (s : State) (f : Fld) (v i j : Nat) : (s.set f v i j).src = s.src := (rfl)
@[simp] theorem set_ports (s : State) (f : Fld) (v i j : Nat) : (s.set f v i j).ports = s.ports := (rfl)
@[simp] theorem set_pipes (s : State) (f : Fld) (v i j : Nat) : (s.set f v i j).pipes = s.pipes := (rfl)
@[simp] theorem set_ven (s : State) (f : Fld) (v i j : Nat) : (s.set f v i j).ven = s.ven := (rfl)
@[simp] theorem set_btm (s : State) (f : Fld) (v i j : Nat) : (s.set f v i j).btm = s.btm := (rfl)
@[simp] theorem set_bwr (s : State) (f : Fld) (v i j : Nat) : (s.set f v i j).bwr = s.bwr := (rfl)
@[simp] theorem set_jtag (s : State) (f : Fld) (v i j : Nat) : (s.set f v i j).jtag = s.jtag := (rfl)

@[simp] theorem count_pending (s : State) (f : Fld) (i j n : Nat) : (s.count f i j n).pending = s.pending := (rfl)
@[simp] theorem count_now (s : State) (f : Fld) (i j n : Nat) : (s.count f i j n).now = s.now := (rfl)
@[simp] theorem count_elapsed (s : State) (f : Fld) (i j n : Nat) : (s.count f i j n).elapsed = s.elapsed := (rfl)
@[simp] theorem count_fired (s : State) (f : Fld) (i j n : Nat) : (s.count f i j n).fired = s.fired := (rfl)
@[simp] theorem count_sent (s : State) (f : Fld) (i j n : Nat) : (s.count f i j n).sent = s.sent := (rfl)
@[simp] theorem count_stamps (s : State) (f : Fld) (i j n : Nat) : (s.count f i j n).stamps = s.stamps := (rfl)
@[simp] theorem count_runs (s : State) (f : Fld) (i j n : Nat) : (s.count f i j n).runs = s.runs := (rfl)
@[simp] theorem count_freeCount (s : State) (f : Fld) (i j n : Nat) : (s.count f i j n).freeCount = s.freeCount := (rfl)
@[simp] theorem count_fuses (s : State) (f : Fld) (i j n : Nat) : (s.count f i j n).fuses = s.fuses := (rfl)
@[simp] theorem count_clk (s : State) (f : Fld) (i j n : Nat) : (s.count f i j n).clk = s.clk := (rfl)
@[simp] theorem count_cfg (s : State) (f : Fld) (i j n : Nat) : (s.count f i j n).cfg = s.cfg := (rfl)
@[simp] theorem count_glb (s : State) (f : Fld) (i j n : Nat) : (s.count f i j n).glb = s.glb := (rfl)
@[simp] theorem count_err (s : State) (f : Fld) (i j n : Nat) : (s.count f i j n).err = s.err := (rfl)
@[simp] theorem count_que (s : State) (f : Fld) (i j n : Nat) : (s.count f i j n).que = s.que := (rfl)
@[simp] theorem count_hbr (s : State) (f : Fld) (i j n : Nat) : (s.count f i j n).hbr = s.hbr := (rfl)
@[simp] theorem count_tim (s : State) (f : Fld) (i j n : Nat) : (s.count f i j n).tim = s.tim := (rfl)
@[simp] theorem count_drl (s : State) (f : Fld) (i j n : Nat) : (s.count f i j n).drl = s.drl := (rfl)
@[simp] theorem count_pos (s : State) (f : Fld) (i j n : Nat) : (s.count f i j n).pos = s.pos := (rfl)
@[simp] theorem count_chans (s : State) (f : Fld) (i j n : Nat) : (s.count f i j n).chans = s.chans := (rfl)
@[simp] theorem count_tws (s : State) (f : Fld) (i j n : Nat) : (s.count f i j n).tws = s.tws := (rfl)
@[simp] theorem count_out (s : State) (f : Fld) (i j n : Nat) : (s.count f i j n).out = s.out := (rfl)
@[simp] theorem count_lanes (s : State) (f : Fld) (i j n : Nat) : (s.count f i j n).lanes = s.lanes := (rfl)
@[simp] theorem count_groups (s : State) (f : Fld) (i j n : Nat) : (s.count f i j n).groups = s.groups := (rfl)
@[simp] theorem count_src (s : State) (f : Fld) (i j n : Nat) : (s.count f i j n).src = s.src := (rfl)
@[simp] theorem count_ports (s : State) (f : Fld) (i j n : Nat) : (s.count f i j n).ports = s.ports := (rfl)
@[simp] theorem count_pipes (s : State) (f : Fld) (i j n : Nat) : (s.count f i j n).pipes = s.pipes := (rfl)
@[simp] theorem count_ven (s : State) (f : Fld) (i j n : Nat) : (s.count f i j n).ven = s.ven := (rfl)
@[simp] theorem count_btm (s : State) (f : Fld) (i j n : Nat) : (s.count f i j n).btm = s.btm := (rfl)
@[simp] theorem count_bwr (s : State) (f : Fld) (i j n : Nat) : (s.count f i j n).bwr = s.bwr := (rfl)
@[simp] theorem count_jtag (s : State) (f : Fld) (i j n : Nat) : (s.count f i j n).jtag = s.jtag := (rfl)

@[simp] theorem wrapAdd_pending (s : State) (f : Fld) (n i j : Nat) : (s.wrapAdd f n i j).pending = s.pending := (rfl)
@[simp] theorem wrapAdd_now (s : State) (f : Fld) (n i j : Nat) : (s.wrapAdd f n i j).now = s.now := (rfl)
@[simp] theorem wrapAdd_elapsed (s : State) (f : Fld) (n i j : Nat) : (s.wrapAdd f n i j).elapsed = s.elapsed := (rfl)
@[simp] theorem wrapAdd_fired (s : State) (f : Fld) (n i j : Nat) : (s.wrapAdd f n i j).fired = s.fired := (rfl)
@[simp] theorem wrapAdd_sent (s : State) (f : Fld) (n i j : Nat) : (s.wrapAdd f n i j).sent = s.sent := (rfl)
@[simp] theorem wrapAdd_stamps (s : State) (f : Fld) (n i j : Nat) : (s.wrapAdd f n i j).stamps = s.stamps := (rfl)
@[simp] theorem wrapAdd_runs (s : State) (f : Fld) (n i j : Nat) : (s.wrapAdd f n i j).runs = s.runs := (rfl)
@[simp] theorem wrapAdd_freeCount (s : State) (f : Fld) (n i j : Nat) : (s.wrapAdd f n i j).freeCount = s.freeCount := (rfl)
@[simp] theorem wrapAdd_fuses (s : State) (f : Fld) (n i j : Nat) : (s.wrapAdd f n i j).fuses = s.fuses := (rfl)
@[simp] theorem wrapAdd_clk (s : State) (f : Fld) (n i j : Nat) : (s.wrapAdd f n i j).clk = s.clk := (rfl)
@[simp] theorem wrapAdd_cfg (s : State) (f : Fld) (n i j : Nat) : (s.wrapAdd f n i j).cfg = s.cfg := (rfl)
@[simp] theorem wrapAdd_glb (s : State) (f : Fld) (n i j : Nat) : (s.wrapAdd f n i j).glb = s.glb := (rfl)
@[simp] theorem wrapAdd_err (s : State) (f : Fld) (n i j : Nat) : (s.wrapAdd f n i j).err = s.err := (rfl)
@[simp] theorem wrapAdd_que (s : State) (f : Fld) (n i j : Nat) : (s.wrapAdd f n i j).que = s.que := (rfl)
@[simp] theorem wrapAdd_hbr (s : State) (f : Fld) (n i j : Nat) : (s.wrapAdd f n i j).hbr = s.hbr := (rfl)
@[simp] theorem wrapAdd_tim (s : State) (f : Fld) (n i j : Nat) : (s.wrapAdd f n i j).tim = s.tim := (rfl)
@[simp] theorem wrapAdd_drl (s : State) (f : Fld) (n i j : Nat) : (s.wrapAdd f n i j).drl = s.drl := (rfl)
@[simp] theorem wrapAdd_pos (s : State) (f : Fld) (n i j : Nat) : (s.wrapAdd f n i j).pos = s.pos := (rfl)
@[simp] theorem wrapAdd_chans (s : State) (f : Fld) (n i j : Nat) : (s.wrapAdd f n i j).chans = s.chans := (rfl)
@[simp] theorem wrapAdd_tws (s : State) (f : Fld) (n i j : Nat) : (s.wrapAdd f n i j).tws = s.tws := (rfl)
@[simp] theorem wrapAdd_out (s : State) (f : Fld) (n i j : Nat) : (s.wrapAdd f n i j).out = s.out := (rfl)
@[simp] theorem wrapAdd_lanes (s : State) (f : Fld) (n i j : Nat) : (s.wrapAdd f n i j).lanes = s.lanes := (rfl)
@[simp] theorem wrapAdd_groups (s : State) (f : Fld) (n i j : Nat) : (s.wrapAdd f n i j).groups = s.groups := (rfl)
@[simp] theorem wrapAdd_src (s : State) (f : Fld) (n i j : Nat) : (s.wrapAdd f n i j).src = s.src := (rfl)
@[simp] theorem wrapAdd_ports (s : State) (f : Fld) (n i j : Nat) : (s.wrapAdd f n i j).ports = s.ports := (rfl)
@[simp] theorem wrapAdd_pipes (s : State) (f : Fld) (n i j : Nat) : (s.wrapAdd f n i j).pipes = s.pipes := (rfl)
@[simp] theorem wrapAdd_ven (s : State) (f : Fld) (n i j : Nat) : (s.wrapAdd f n i j).ven = s.ven := (rfl)
@[simp] theorem wrapAdd_btm (s : State) (f : Fld) (n i j : Nat) : (s.wrapAdd f n i j).btm = s.btm := (rfl)
@[simp] theorem wrapAdd_bwr (s : State) (f : Fld) (n i j : Nat) : (s.wrapAdd f n i j).bwr = s.bwr := (rfl)
@[simp] theorem wrapAdd_jtag (s : State) (f : Fld) (n i j : Nat) : (s.wrapAdd f n i j).jtag = s.jtag := (rfl)

@[simp] theorem clearRegs_pending (s : State) (lo hi : Nat) : (s.clearRegs lo hi).pending = s.pending := (rfl)
@[simp] theorem clearRegs_now (s : State) (lo hi : Nat) : (s.clearRegs lo hi).now = s.now := (rfl)
@[simp] theorem clearRegs_elapsed (s : State) (lo hi : Nat) : (s.clearRegs lo hi).elapsed = s.elapsed := (rfl)
@[simp] theorem clearRegs_fired (s : State) (lo hi : Nat) : (s.clearRegs lo hi).fired = s.fired := (rfl)
@[simp] theorem clearRegs_sent (s : State) (lo hi : Nat) : (s.clearRegs lo hi).sent = s.sent := (rfl)
@[simp] theorem clearRegs_stamps (s : State) (lo hi : Nat) : (s.clearRegs lo hi).stamps = s.stamps := (rfl)
@[simp] theorem clearRegs_runs (s : State) (lo hi : Nat) : (s.clearRegs lo hi).runs = s.runs := (rfl)
@[simp] theorem clearRegs_freeCount (s : State) (lo hi : Nat) : (s.clearRegs lo hi).freeCount = s.freeCount := (rfl)
@[simp] theorem clearRegs_fuses (s : State) (lo hi : Nat) : (s.clearRegs lo hi).fuses = s.fuses := (rfl)
@[simp] theorem clearRegs_clk (s : State) (lo hi : Nat) : (s.clearRegs lo hi).clk = s.clk := (rfl)
@[simp] theorem clearRegs_cfg (s : State) (lo hi : Nat) : (s.clearRegs lo hi).cfg = s.cfg := (rfl)
@[simp] theorem clearRegs_glb (s : State) (lo hi : Nat) : (s.clearRegs lo hi).glb = s.glb := (rfl)
@[simp] theorem clearRegs_err (s : State) (lo hi : Nat) : (s.clearRegs lo hi).err = s.err := (rfl)
@[simp] theorem clearRegs_que (s : State) (lo hi : Nat) : (s.clearRegs lo hi).que = s.que := (rfl)
@[simp] theorem clearRegs_hbr (s : State) (lo hi : Nat) : (s.clearRegs lo hi).hbr = s.hbr := (rfl)
@[simp] theorem clearRegs_tim (s : State) (lo hi : Nat) : (s.clearRegs lo hi).tim = s.tim := (rfl)
@[simp] theorem clearRegs_drl (s : State) (lo hi : Nat) : (s.clearRegs lo hi).drl = s.drl := (rfl)
@[simp] theorem clearRegs_pos (s : State) (lo hi : Nat) : (s.clearRegs lo hi).pos = s.pos := (rfl)
@[simp] theorem clearRegs_chans (s : State) (lo hi : Nat) : (s.clearRegs lo hi).chans = s.chans := (rfl)
@[simp] theorem clearRegs_tws (s : State) (lo hi : Nat) : (s.clearRegs lo hi).tws = s.tws := (rfl)
@[simp] theorem clearRegs_out (s : State) (lo hi : Nat) : (s.clearRegs lo hi).out = s.out := (rfl)
@[simp] theorem clearRegs_lanes (s : State) (lo hi : Nat) : (s.clearRegs lo hi).lanes = s.lanes := (rfl)
@[simp] theorem clearRegs_groups (s : State) (lo hi : Nat) : (s.clearRegs lo hi).groups = s.groups := (rfl)
@[simp] theorem clearRegs_src (s : State) (lo hi : Nat) : (s.clearRegs lo hi).src = s.src := (rfl)
@[simp] theorem clearRegs_ports (s : State) (lo hi : Nat) : (s.clearRegs lo hi).ports = s.ports := (rfl)
@[simp] theorem clearRegs_pipes (s : State) (lo hi : Nat) : (s.clearRegs lo hi).pipes = s.pipes := (rfl)
@[simp] theorem clearRegs_ven (s : State) (lo hi : Nat) : (s.clearRegs lo hi).ven = s.ven := (rfl)
@[simp] theorem clearRegs_btm (s : State) (lo hi : Nat) : (s.clearRegs lo hi).btm = s.btm := (rfl)
@[simp] theorem clearRegs_bwr (s : State) (lo hi : Nat) : (s.clearRegs lo hi).bwr = s.bwr := (rfl)
@[simp] theorem clearRegs_jtag (s : State) (lo hi : Nat) : (s.clearRegs lo hi).jtag = s.jtag := (rfl)

@[simp] theorem fireAt_pending (s : State) (p t fl : Nat) : (s.fireAt p t fl).pending = s.pending := (rfl)
@[simp] theorem fireAt_regs (s : State) (p t fl : Nat) : (s.fireAt p t fl).regs = s.regs := (rfl)
@[simp] theorem fireAt_now (s : State) (p t fl : Nat) : (s.fireAt p t fl).now = s.now := (rfl)
@[simp] theorem fireAt_elapsed (s : State) (p t fl : Nat) : (s.fireAt p t fl).elapsed = s.elapsed := (rfl)
@[simp] theorem fireAt_sent (s : State) (p t fl : Nat) : (s.fireAt p t fl).sent = s.sent := (rfl)
@[simp] theorem fireAt_stamps (s : State) (p t fl : Nat) : (s.fireAt p t fl).stamps = s.stamps := (rfl)
@[simp] theorem fireAt_runs (s : State) (p t fl : Nat) : (s.fireAt p t fl).runs = s.runs := (rfl)
@[simp] theorem fireAt_freeCount (s : State) (p t fl : Nat) : (s.fireAt p t fl).freeCount = s.freeCount := (rfl)
@[simp] theorem fireAt_fuses (s : State) (p t fl : Nat) : (s.fireAt p t fl).fuses = s.fuses := (rfl)
@[simp] theorem fireAt_clk (s : State) (p t fl : Nat) : (s.fireAt p t fl).clk = s.clk := (rfl)
@[simp] theorem fireAt_cfg (s : State) (p t fl : Nat) : (s.fireAt p t fl).cfg = s.cfg := (rfl)
@[simp] theorem fireAt_glb (s : State) (p t fl : Nat) : (s.fireAt p t fl).glb = s.glb := (rfl)
@[simp] theorem fireAt_err (s : State) (p t fl : Nat) : (s.fireAt p t fl).err = s.err := (rfl)
@[simp] theorem fireAt_que (s : State) (p t fl : Nat) : (s.fireAt p t fl).que = s.que := (rfl)
@[simp] theorem fireAt_hbr (s : State) (p t fl : Nat) : (s.fireAt p t fl).hbr = s.hbr := (rfl)
@[simp] theorem fireAt_tim (s : State) (p t fl : Nat) : (s.fireAt p t fl).tim = s.tim := (rfl)
@[simp] theorem fireAt_drl (s : State) (p t fl : Nat) : (s.fireAt p t fl).drl = s.drl := (rfl)
@[simp] theorem fireAt_pos (s : State) (p t fl : Nat) : (s.fireAt p t fl).pos = s.pos := (rfl)
@[simp] theorem fireAt_chans (s : State) (p t fl : Nat) : (s.fireAt p t fl).chans = s.chans := (rfl)
@[simp] theorem fireAt_tws (s : State) (p t fl : Nat) : (s.fireAt p t fl).tws = s.tws := (rfl)
@[simp] theorem fireAt_out (s : State) (p t fl : Nat) : (s.fireAt p t fl).out = s.out := (rfl)
@[simp] theorem fireAt_lanes (s : State) (p t fl : Nat) : (s.fireAt p t fl).lanes = s.lanes := (rfl)
@[simp] theorem fireAt_groups (s : State) (p t fl : Nat) : (s.fireAt p t fl).groups = s.groups := (rfl)
@[simp] theorem fireAt_src (s : State) (p t fl : Nat) : (s.fireAt p t fl).src = s.src := (rfl)
@[simp] theorem fireAt_ports (s : State) (p t fl : Nat) : (s.fireAt p t fl).ports = s.ports := (rfl)
@[simp] theorem fireAt_pipes (s : State) (p t fl : Nat) : (s.fireAt p t fl).pipes = s.pipes := (rfl)
@[simp] theorem fireAt_ven (s : State) (p t fl : Nat) : (s.fireAt p t fl).ven = s.ven := (rfl)
@[simp] theorem fireAt_btm (s : State) (p t fl : Nat) : (s.fireAt p t fl).btm = s.btm := (rfl)
@[simp] theorem fireAt_bwr (s : State) (p t fl : Nat) : (s.fireAt p t fl).bwr = s.bwr := (rfl)
@[simp] theorem fireAt_jtag (s : State) (p t fl : Nat) : (s.fireAt p t fl).jtag = s.jtag := (rfl)

@[simp] theorem fire_pending (s : State) (p : Nat) : (s.fire p).pending = s.pending := (rfl)
@[simp] theorem fire_regs (s : State) (p : Nat) : (s.fire p).regs = s.regs := (rfl)
@[simp] theorem fire_now (s : State) (p : Nat) : (s.fire p).now = s.now := (rfl)
@[simp] theorem fire_elapsed (s : State) (p : Nat) : (s.fire p).elapsed = s.elapsed := (rfl)
@[simp] theorem fire_sent (s : State) (p : Nat) : (s.fire p).sent = s.sent := (rfl)
@[simp] theorem fire_stamps (s : State) (p : Nat) : (s.fire p).stamps = s.stamps := (rfl)
@[simp] theorem fire_runs (s : State) (p : Nat) : (s.fire p).runs = s.runs := (rfl)
@[simp] theorem fire_freeCount (s : State) (p : Nat) : (s.fire p).freeCount = s.freeCount := (rfl)
@[simp] theorem fire_fuses (s : State) (p : Nat) : (s.fire p).fuses = s.fuses := (rfl)
@[simp] theorem fire_clk (s : State) (p : Nat) : (s.fire p).clk = s.clk := (rfl)
@[simp] theorem fire_cfg (s : State) (p : Nat) : (s.fire p).cfg = s.cfg := (rfl)
@[simp] theorem fire_glb (s : State) (p : Nat) : (s.fire p).glb = s.glb := (rfl)
@[simp] theorem fire_err (s : State) (p : Nat) : (s.fire p).err = s.err := (rfl)
@[simp] theorem fire_que (s : State) (p : Nat) : (s.fire p).que = s.que := (rfl)
@[simp] theorem fire_hbr (s : State) (p : Nat) : (s.fire p).hbr = s.hbr := (rfl)
@[simp] theorem fire_tim (s : State) (p : Nat) : (s.fire p).tim = s.tim := (rfl)
@[simp] theorem fire_drl (s : State) (p : Nat) : (s.fire p).drl = s.drl := (rfl)
@[simp] theorem fire_pos (s : State) (p : Nat) : (s.fire p).pos = s.pos := (rfl)
@[simp] theorem fire_chans (s : State) (p : Nat) : (s.fire p).chans = s.chans := (rfl)
@[simp] theorem fire_tws (s : State) (p : Nat) : (s.fire p).tws = s.tws := (rfl)
@[simp] theorem fire_out (s : State) (p : Nat) : (s.fire p).out = s.out := (rfl)
@[simp] theorem fire_lanes (s : State) (p : Nat) : (s.fire p).lanes = s.lanes := (rfl)
@[simp] theorem fire_groups (s : State) (p : Nat) : (s.fire p).groups = s.groups := (rfl)
@[simp] theorem fire_src (s : State) (p : Nat) : (s.fire p).src = s.src := (rfl)
@[simp] theorem fire_ports (s : State) (p : Nat) : (s.fire p).ports = s.ports := (rfl)
@[simp] theorem fire_pipes (s : State) (p : Nat) : (s.fire p).pipes = s.pipes := (rfl)
@[simp] theorem fire_ven (s : State) (p : Nat) : (s.fire p).ven = s.ven := (rfl)
@[simp] theorem fire_btm (s : State) (p : Nat) : (s.fire p).btm = s.btm := (rfl)
@[simp] theorem fire_bwr (s : State) (p : Nat) : (s.fire p).bwr = s.bwr := (rfl)
@[simp] theorem fire_jtag (s : State) (p : Nat) : (s.fire p).jtag = s.jtag := (rfl)

end Sys2Proof.Machine
end

