-- ==== Sys2Proof/Laws/Tables.lean ====
section
/-! SUPPORT. The laws of the sparse tables (reading after writing, the canonical form) and of bit fields. -/

namespace Sys2Proof.Machine

variable {α : Type}

theorem tget_tins_same (d : α) (m : List (Nat × α)) (k : Nat) (v : α) (h : ∀ e ∈ m, e.1 ≠ k) :
    tget d (tins m k v) k = v := by
  induction m with
  | nil => simp [tins, tget]
  | cons e t ih =>
    obtain ⟨j, w⟩ := e
    have hj : j ≠ k := h (j, w) (by simp)
    by_cases hlt : k < j
    · simp [tins, tget, hlt]
    · simp [tins, tget, hlt, hj, ih (fun e he => h e (by simp [he]))]

theorem tget_tins_other (d : α) (m : List (Nat × α)) (k j : Nat) (v : α) (h : j ≠ k) :
    tget d (tins m k v) j = tget d m j := by
  induction m with
  | nil => simp [tins, tget, Ne.symm h]
  | cons e t ih =>
    obtain ⟨i, w⟩ := e
    by_cases hlt : k < i
    · simp [tins, tget, hlt, Ne.symm h]
    · simp [tins, tget, hlt, ih]

theorem tget_tdel_same (d : α) (m : List (Nat × α)) (k : Nat) : tget d (tdel m k) k = d := by
  induction m with
  | nil => rfl
  | cons e t ih =>
    obtain ⟨j, w⟩ := e
    by_cases hj : j = k
    · simpa [tdel, hj] using ih
    · simpa [tdel, hj, tget] using ih

theorem tget_tdel_other (d : α) (m : List (Nat × α)) (k j : Nat) (h : j ≠ k) : tget d (tdel m k) j = tget d m j := by
  induction m with
  | nil => rfl
  | cons e t ih =>
    obtain ⟨i, w⟩ := e
    by_cases hi : i = k
    · have hij : i ≠ j := by omega
      simpa [tdel, hi, tget, Ne.symm h] using ih
    · by_cases hij : i = j
      · simp [tdel, tget, hij, h]
      · simpa [tdel, hi, tget, hij] using ih

/-- A table reads at a key what was last put there. -/
@[simp] theorem tget_tput_same [DecidableEq α] (d : α) (m : List (Nat × α)) (k : Nat) (v : α) :
    tget d (tput d m k v) k = v := by
  unfold tput
  split
  · rename_i hv; rw [tget_tdel_same, hv]
  · exact tget_tins_same d _ k v (by simp [tdel])

/-- A table reads elsewhere what it read before, whatever default the write and the read use. -/
theorem tget_tput_other [DecidableEq α] (d e : α) (m : List (Nat × α)) (k j : Nat) (v : α) (h : j ≠ k) :
    tget e (tput d m k v) j = tget e m j := by
  unfold tput
  split
  · exact tget_tdel_other e m k j h
  · rw [tget_tins_other e _ k j v h, tget_tdel_other e m k j h]

/-! ### The canonical form -/

theorem tsortedFrom_mono {m : List (Nat × α)} {a b : Nat} (h : tsortedFrom b m = true) (hab : a ≤ b) :
    tsortedFrom a m = true := by
  cases m with
  | nil => rfl
  | cons e t =>
    obtain ⟨j, w⟩ := e
    simp only [tsortedFrom, Bool.and_eq_true, decide_eq_true_eq] at h ⊢
    exact ⟨by omega, h.2⟩

theorem tsortedFrom_filter (p : Nat × α → Bool) (m : List (Nat × α)) (k : Nat) (h : tsortedFrom k m = true) :
    tsortedFrom k (m.filter p) = true := by
  induction m generalizing k with
  | nil => rfl
  | cons e t ih =>
    obtain ⟨j, w⟩ := e
    simp only [tsortedFrom, Bool.and_eq_true, decide_eq_true_eq] at h
    by_cases hp : p (j, w)
    · simp only [List.filter_cons, hp, if_true, tsortedFrom, Bool.and_eq_true, decide_eq_true_eq]
      exact ⟨h.1, ih (j + 1) h.2⟩
    · simp only [List.filter_cons, hp]
      exact tsortedFrom_mono (ih (j + 1) h.2) (by omega)

theorem tsortedFrom_tins (m : List (Nat × α)) (k b : Nat) (v : α) (hb : b ≤ k) (hk : ∀ e ∈ m, e.1 ≠ k)
    (h : tsortedFrom b m = true) : tsortedFrom b (tins m k v) = true := by
  induction m generalizing b with
  | nil => simp [tins, tsortedFrom, hb]
  | cons e t ih =>
    obtain ⟨j, w⟩ := e
    simp only [tsortedFrom, Bool.and_eq_true, decide_eq_true_eq] at h
    have hj : j ≠ k := hk (j, w) (by simp)
    by_cases hlt : k < j
    · simp only [tins, hlt, if_true, tsortedFrom, Bool.and_eq_true, decide_eq_true_eq]
      exact ⟨hb, by omega, h.2⟩
    · simp only [tins, hlt, if_false, tsortedFrom, Bool.and_eq_true, decide_eq_true_eq]
      exact ⟨h.1, ih (j + 1) (by omega) (fun e he => hk e (by simp [he])) h.2⟩

theorem mem_tins {m : List (Nat × α)} {k : Nat} {v : α} {e : Nat × α} (h : e ∈ tins m k v) : e = (k, v) ∨ e ∈ m := by
  induction m with
  | nil => simpa [tins] using h
  | cons x t ih =>
    obtain ⟨j, w⟩ := x
    by_cases hlt : k < j
    · simpa [tins, hlt] using h
    · simp only [tins, hlt, if_false, List.mem_cons] at h ⊢
      rcases h with h | h
      · exact .inr (.inl h)
      · exact (ih h).imp id .inr

/-- A filtered table keeps the canonical form. -/
theorem twf_filter [DecidableEq α] (d : Nat → α) (p : Nat × α → Bool) (m : List (Nat × α)) (h : twf d m = true) :
    twf d (m.filter p) = true := by
  simp only [twf, Bool.and_eq_true, List.all_eq_true, List.mem_filter, decide_eq_true_eq] at h ⊢
  exact ⟨tsortedFrom_filter p m 0 h.1, fun e he => h.2 e he.1⟩

/-- A write keeps the canonical form. -/
theorem twf_tput [DecidableEq α] (d : Nat → α) (m : List (Nat × α)) (k : Nat) (v : α) (h : twf d m = true) :
    twf d (tput (d k) m k v) = true := by
  have hf := twf_filter d (fun e => e.1 != k) m h
  unfold tput
  split
  · exact hf
  · rename_i hv
    simp only [twf, Bool.and_eq_true, List.all_eq_true, decide_eq_true_eq] at hf ⊢
    refine ⟨tsortedFrom_tins _ k 0 v (by omega) (by simp [tdel]) hf.1, fun e he => ?_⟩
    rcases mem_tins he with rfl | he
    · exact hv
    · exact hf.2 e he

/-! ### Bit fields -/

theorem bitsOf_lt (w hi lo : Nat) : bitsOf w hi lo < 2 ^ (hi + 1 - lo) := Nat.mod_lt _ (Nat.two_pow_pos _)

/-- A field reads what was put into it. -/
theorem bitsOf_putBits_same (w hi lo v : Nat) (h : lo ≤ hi) :
    bitsOf (putBits w hi lo v) hi lo = v % 2 ^ (hi + 1 - lo) := by
  unfold bitsOf putBits
  have hp : 2 ^ (hi + 1) = 2 ^ lo * 2 ^ (hi + 1 - lo) := by rw [← Nat.pow_add]; congr 1; omega
  have hlo : 0 < 2 ^ lo := Nat.two_pow_pos _
  have e : 2 ^ (hi + 1) * (w / 2 ^ (hi + 1)) + 2 ^ lo * (v % 2 ^ (hi + 1 - lo)) + w % 2 ^ lo =
      w % 2 ^ lo + 2 ^ lo * (w / 2 ^ (hi + 1) * 2 ^ (hi + 1 - lo) + v % 2 ^ (hi + 1 - lo)) := by
    rw [hp]; ring
  rw [e, Nat.add_mul_div_left _ _ hlo, Nat.div_eq_of_lt (Nat.mod_lt _ hlo), Nat.zero_add, Nat.mul_comm,
    Nat.mul_add_mod, Nat.mod_mod]

/-- Putting a field leaves what stands above it. -/
theorem putBits_div (w hi lo v : Nat) (h : lo ≤ hi) : putBits w hi lo v / 2 ^ (hi + 1) = w / 2 ^ (hi + 1) := by
  unfold putBits
  have hp : 2 ^ (hi + 1) = 2 ^ lo * 2 ^ (hi + 1 - lo) := by rw [← Nat.pow_add]; congr 1; omega
  have hlo : 0 < 2 ^ lo := Nat.two_pow_pos _
  have h2 : v % 2 ^ (hi + 1 - lo) + 1 ≤ 2 ^ (hi + 1 - lo) := Nat.mod_lt _ (Nat.two_pow_pos _)
  have h3 : w % 2 ^ lo < 2 ^ lo := Nat.mod_lt _ hlo
  have h4 : 2 ^ lo * (v % 2 ^ (hi + 1 - lo)) + w % 2 ^ lo < 2 ^ (hi + 1) := by
    have := Nat.mul_le_mul_left (2 ^ lo) h2
    rw [Nat.mul_add, ← hp] at this
    omega
  rw [Nat.add_assoc, Nat.mul_add_div (Nat.two_pow_pos _), Nat.div_eq_of_lt h4, Nat.add_zero]

/-- Putting a field leaves what stands below it. -/
theorem putBits_mod (w hi lo v : Nat) (h : lo ≤ hi) : putBits w hi lo v % 2 ^ lo = w % 2 ^ lo := by
  unfold putBits
  have hp : 2 ^ (hi + 1) = 2 ^ lo * 2 ^ (hi + 1 - lo) := by rw [← Nat.pow_add]; congr 1; omega
  rw [hp, Nat.mul_assoc, ← Nat.mul_add, Nat.mul_add_mod, Nat.mod_mod]

/-- A field above the one that is put reads what it read before. -/
theorem bitsOf_putBits_above (w hi lo v h l : Nat) (a : lo ≤ hi) (b : hi < l) :
    bitsOf (putBits w hi lo v) h l = bitsOf w h l := by
  unfold bitsOf
  have e : 2 ^ l = 2 ^ (hi + 1) * 2 ^ (l - (hi + 1)) := by rw [← Nat.pow_add]; congr 1; omega
  rw [e, ← Nat.div_div_eq_div_mul, putBits_div _ _ _ _ a, Nat.div_div_eq_div_mul]

/-- A field below the one that is put reads what it read before. -/
theorem bitsOf_putBits_below (w hi lo v h l : Nat) (a : lo ≤ hi) (b : h < lo) (c : l ≤ h) :
    bitsOf (putBits w hi lo v) h l = bitsOf w h l := by
  unfold bitsOf
  have e : 2 ^ lo = 2 ^ (h + 1) * 2 ^ (lo - (h + 1)) := by rw [← Nat.pow_add]; congr 1; omega
  have f : 2 ^ l * 2 ^ (h + 1 - l) = 2 ^ (h + 1) := by rw [← Nat.pow_add]; congr 1; omega
  have g : putBits w hi lo v % 2 ^ (h + 1) = w % 2 ^ (h + 1) := by
    have := congrArg (· % 2 ^ (h + 1)) (putBits_mod w hi lo v a)
    simp only [e, Nat.mod_mul_right_mod] at this
    exact this
  rw [← Nat.mod_mul_right_div_self, ← Nat.mod_mul_right_div_self, f, g]

end Sys2Proof.Machine
end

