-- ==== Sys2Proof/Laws/Regs.lean ====
section
/-! SUPPORT. The laws of register reads and writes: a word, a field, and the gates of host accesses. -/

namespace Sys2Proof.Machine

/-! ### Words -/

/-- A register reads the word stored in it. -/
@[simp] theorem rdA_wrA_same (s : State) (a v : Nat) : (s.wrA a v).rdA a = v % 2 ^ 32 := by
  simp [State.rdA, State.wrA]

/-- Another register reads what it read before. -/
theorem rdA_wrA_other (s : State) (a b v : Nat) (h : b ≠ a) : (s.wrA a v).rdA b = s.rdA b := by
  simp only [State.rdA, State.wrA]
  rw [tget_tput_other _ _ _ _ _ _ h]

theorem rdA_lt (s : State) (a : Nat) : s.rdA a < 2 ^ 32 := BitVec.isLt _

/-- What does not touch the register table changes no register. -/
theorem rdA_congr {s t : State} (h : t.regs = s.regs) (a : Nat) : t.rdA a = s.rdA a := by simp [State.rdA, h]

theorem get_congr {s t : State} (h : t.regs = s.regs) (f : Fld) (i j : Nat) : t.get f i j = s.get f i j := by
  simp [State.get, rdA_congr h]

/-! ### Fields -/

theorem mul_add_lt (a b m n : Nat) (ha : a < m) (hb : b < n) : a * n + b < m * n := by
  have h : (a + 1) * n ≤ m * n := Nat.mul_le_mul_right n ha
  rw [Nat.add_mul] at h
  omega

theorem putBits_lt (w hi lo v : Nat) (hw : w < 2 ^ 32) (hlo : lo ≤ hi) (hhi : hi ≤ 31) : putBits w hi lo v < 2 ^ 32 := by
  unfold putBits
  have hp : 2 ^ (hi + 1) = 2 ^ lo * 2 ^ (hi + 1 - lo) := by rw [← Nat.pow_add]; congr 1; omega
  have h32 : 2 ^ 32 = 2 ^ (hi + 1) * 2 ^ (31 - hi) := by rw [← Nat.pow_add]; congr 1; omega
  have h1 : w / 2 ^ (hi + 1) < 2 ^ (31 - hi) := by
    rw [Nat.div_lt_iff_lt_mul (Nat.two_pow_pos _), Nat.mul_comm, ← h32]; exact hw
  have h2 : v % 2 ^ (hi + 1 - lo) < 2 ^ (hi + 1 - lo) := Nat.mod_lt _ (Nat.two_pow_pos _)
  have h3 : w % 2 ^ lo < 2 ^ lo := Nat.mod_lt _ (Nat.two_pow_pos _)
  have h4 : 2 ^ lo * (v % 2 ^ (hi + 1 - lo)) + w % 2 ^ lo < 2 ^ (hi + 1) := by
    rw [hp, Nat.mul_comm (2 ^ lo), Nat.mul_comm (2 ^ lo)]; exact mul_add_lt _ _ _ _ h2 h3
  rw [h32, Nat.mul_comm (2 ^ (hi + 1)), Nat.mul_comm (2 ^ (hi + 1)), Nat.add_assoc]
  exact mul_add_lt _ _ _ _ h1 h4

/-- A field reads the value written to it. -/
theorem get_set_same (s : State) (f : Fld) (v i j : Nat) (hlo : f.lo ≤ f.hi) (hhi : f.hi ≤ 31) :
    (s.set f v i j).get f i j = v % 2 ^ (f.hi + 1 - f.lo) := by
  unfold State.get State.set
  rw [rdA_wrA_same, Nat.mod_eq_of_lt (putBits_lt _ _ _ _ (rdA_lt _ _) hlo hhi), bitsOf_putBits_same _ _ _ _ hlo]

/-- A field of another register reads what it read before. -/
theorem get_set_other (s : State) (f g : Fld) (v i j k l : Nat) (h : g.adr k l ≠ f.adr i j) :
    (s.set f v i j).get g k l = s.get g k l := by
  unfold State.get State.set
  rw [rdA_wrA_other _ _ _ _ h]

/-- A field beside the one written, in the same register, reads what it read before. -/
theorem get_set_beside (s : State) (f g : Fld) (v i j k l : Nat) (e : g.adr k l = f.adr i j) (hlo : f.lo ≤ f.hi)
    (hhi : f.hi ≤ 31) (d : f.hi < g.lo ∨ (g.hi < f.lo ∧ g.lo ≤ g.hi)) : (s.set f v i j).get g k l = s.get g k l := by
  unfold State.get State.set
  rw [e, rdA_wrA_same, Nat.mod_eq_of_lt (putBits_lt _ _ _ _ (rdA_lt _ _) hlo hhi)]
  rcases d with d | d
  · exact bitsOf_putBits_above _ _ _ _ _ _ hlo d
  · exact bitsOf_putBits_below _ _ _ _ _ _ hlo d.1 d.2

/-- The register table keeps its canonical form when a word is written. -/
theorem regsOk_wrA (s : State) (a v : Nat) (h : s.regsOk = true) : (s.wrA a v).regsOk = true :=
  twf_tput (fun a => BitVec.ofNat 32 (resetWord a)) s.regs a _ h

theorem regsOk_set (s : State) (f : Fld) (v i j : Nat) (h : s.regsOk = true) : (s.set f v i j).regsOk = true :=
  regsOk_wrA s _ _ h

theorem regsOk_clearRegs (s : State) (lo hi : Nat) (h : s.regsOk = true) : (s.clearRegs lo hi).regsOk = true :=
  twf_filter _ _ s.regs h

/-! ### The gates -/

/-- A served write does what the register does. -/
theorem hostGate_served (s : State) (a v : Nat) (op : State → State) (h : Served s a) : hostGate a v op s = op s := by
  obtain ⟨h1, h2, h3, h4, h5⟩ := h
  simp [hostGate, h1, h2, h3, coreGate, h4, h5]

/-- A served read has its side effect. -/
theorem hostRead_served (s : State) (a : Nat) (op : State → State) (h : Served s a) : hostRead a op s = op s := by
  obtain ⟨h1, h2, h3, h4, _⟩ := h
  simp [hostRead, h1, h2, h3, h4]

/-- A served doorbell acts. -/
theorem bar2Gate_served (s : State) (op : State → State) (h : DoorbellServed s) : bar2Gate op s = op s := by
  obtain ⟨h1, h2, h3⟩ := h
  simp [bar2Gate, h1, h2, h3]

/-- The write to a register that is no level register and has no basic field is its unit's operation. -/
theorem regOp_unit (s : State) (a v u i j : Nat) (r : RegRow) (hr : rowAt a = some (r, i, j)) (hu : unitAt a = some u)
    (hl : (a == unitBase u + 4) = false) (hb : touchesBasic a = false) :
    regOp a v s = unitReg u r.base i j a v s := by
  simp [regOp, hr, hu, hl, afterBasic, hb]

/-- A command of the host that writes a register without basic fields, when it is served. -/
theorem regWrite_served (s : State) (a v u i j : Nat) (r : RegRow) (h : Served s a) (hr : rowAt a = some (r, i, j))
    (hu : unitAt a = some u) (hl : (a == unitBase u + 4) = false) (hb : touchesBasic a = false) :
    regWrite a v s = unitReg u r.base i j a v s := by
  unfold regWrite
  rw [hostGate_served s a v _ h, regOp_unit s a v u i j r hr hu hl hb]

end Sys2Proof.Machine
end

