-- ==== Sys2Proof/Laws/Errors.lean ====
section
/-! SUPPORT. What logging an error does to the registers and the record of fires (chapter 22): it changes no register below
the window of `ERR`, what fired before stays, and `ERR_FIRST` is written once. -/

namespace Sys2Proof.Machine

/-- A register beside the one whose field is written reads what it read before. -/
theorem rdA_set_other (s : State) (f : Fld) (v i j a : Nat) (h : a ≠ f.adr i j) : (s.set f v i j).rdA a = s.rdA a :=
  rdA_wrA_other _ _ _ _ h

/-- A register beside the one whose counter field counts reads what it read before. -/
theorem rdA_count_other (s : State) (f : Fld) (n i j a : Nat) (h : a ≠ f.adr i j) :
    (s.count f i j n).rdA a = s.rdA a := rdA_set_other _ _ _ _ _ _ h

/-- What keeping the levels of the position inputs leaves alone. -/
theorem rdA_keepLevels (s t : State) (a : Nat) (h : ∀ n, n < 8 → a ≠ POS_STAT.LEVELS.adr n) :
    (keepLevels s t).rdA a = t.rdA a := by
  simp only [keepLevels, List.range, List.range.loop, List.foldl]
  rw [rdA_set_other _ _ _ _ _ _ (h 7 (by decide)), rdA_set_other _ _ _ _ _ _ (h 6 (by decide)),
    rdA_set_other _ _ _ _ _ _ (h 5 (by decide)), rdA_set_other _ _ _ _ _ _ (h 4 (by decide)),
    rdA_set_other _ _ _ _ _ _ (h 3 (by decide)), rdA_set_other _ _ _ _ _ _ (h 2 (by decide)),
    rdA_set_other _ _ _ _ _ _ (h 1 (by decide)), rdA_set_other _ _ _ _ _ _ (h 0 (by decide))]

/-- Words written from `a` on leave the registers below `a` alone. -/
theorem rdA_wrWords_below (ws : List Nat) (s : State) (a b : Nat) (h : b < a) : (s.wrWords a ws).rdA b = s.rdA b := by
  induction ws generalizing s a with
  | nil => rfl
  | cons w ws ih => rw [State.wrWords, ih _ _ (by omega), rdA_wrA_other _ _ _ _ (by omega)]

/-- Words written from `a` on leave the registers behind the last of them alone. -/
theorem rdA_wrWords_above (ws : List Nat) (s : State) (a b : Nat) (h : a + 4 * ws.length ≤ b) :
    (s.wrWords a ws).rdA b = s.rdA b := by
  induction ws generalizing s a with
  | nil => rfl
  | cons w ws ih =>
    simp only [List.length_cons] at h
    rw [State.wrWords, ih _ _ (by omega), rdA_wrA_other _ _ _ _ (by omega)]

/-- A word among those written from `a` on reads what was written there. -/
theorem rdA_wrWords_at (ws : List Nat) (s : State) (a k : Nat) (h : k < ws.length) :
    (s.wrWords a ws).rdA (a + 4 * k) = ws.getD k 0 % 2 ^ 32 := by
  induction ws generalizing s a k with
  | nil => simp at h
  | cons w ws ih =>
    cases k with
    | zero => rw [State.wrWords, rdA_wrWords_below _ _ _ _ (by omega)]; simp
    | succ k =>
      simp only [List.length_cons] at h
      have := ih (s.wrA a w) (a + 4) k (by omega)
      rw [State.wrWords, show a + 4 * (k + 1) = a + 4 + 4 * k by omega, this]
      rfl

theorem rdA_withErr (s : State) (e : ErrSt) (a : Nat) : State.rdA { s with err := e } a = s.rdA a := rfl

theorem rdA_withRuns (s : State) (n : List (Nat × Bool)) (a : Nat) : State.rdA { s with runs := n } a = s.rdA a := rfl

theorem rdA_withStamps (s : State) (m : List (Nat × Nat)) (a : Nat) : State.rdA { s with stamps := m } a = s.rdA a := rfl

@[simp] theorem errWords_length (s : State) (code seq : Nat) (ds : List Nat) : (errWords s code seq ds).length = 8 := rfl

/-- Storing a record changes no register below the window of `ERR`. -/
theorem rdA_storeRec_other (s : State) (code : Nat) (ds : List Nat) (a : Nat) (h : a < 0xF00000) :
    (storeRec s code ds).rdA a = s.rdA a := by
  have h1 : a ≠ ERR_WCNT.COUNT.adr 0 := by simp only [Fld.adr, ERR_WCNT.COUNT]; omega
  have h2 : a ≠ ERR_FIRSTV.VALID.adr 0 := by simp only [Fld.adr, ERR_FIRSTV.VALID]; omega
  unfold storeRec
  dsimp only
  split
  · rw [rdA_set_other _ _ _ _ _ _ h2, rdA_wrWords_below _ _ _ _ (by omega), rdA_withErr, rdA_set_other _ _ _ _ _ _ h1,
      rdA_wrWords_below _ _ _ _ (by omega)]
  · rw [rdA_withErr, rdA_set_other _ _ _ _ _ _ h1, rdA_wrWords_below _ _ _ _ (by omega)]

theorem rdA_fire (s : State) (p a : Nat) : (s.fire p).rdA a = s.rdA a := rfl

/-- Taking an error changes no register below the window of `ERR`. -/
theorem rdA_takeError_other (s : State) (code : Nat) (ds : List Nat) (full : Bool) (a : Nat) (h : a < 0xF00000) :
    (takeError s code ds full).rdA a = s.rdA a := by
  have h1 : ∀ i, a ≠ ERR_UNITCNT.COUNT.adr i := by intro i; simp only [Fld.adr, ERR_UNITCNT.COUNT]; omega
  have h2 : a ≠ ERR_FILT.COUNT.adr 0 := by simp only [Fld.adr, ERR_FILT.COUNT]; omega
  have h3 : a ≠ ERR_DROP.COUNT.adr 0 := by simp only [Fld.adr, ERR_DROP.COUNT]; omega
  have base : ∀ u p q, (((s.count ERR_UNITCNT.COUNT u).fire p).fire q).rdA a = s.rdA a := by
    intro u p q
    rw [rdA_fire, rdA_fire, rdA_count_other _ _ _ _ _ _ (h1 u)]
  unfold takeError
  dsimp only
  split
  · rw [rdA_count_other _ _ _ _ _ _ h2, base]
  · split
    · rw [rdA_withErr, rdA_count_other _ _ _ _ _ _ h3, base]
    · rw [rdA_storeRec_other _ _ _ _ h, base]

theorem rdA_logOne_other (s : State) (code : Nat) (ds : List Nat) (a : Nat) (h : a < 0xF00000) :
    (logOne s code ds).rdA a = s.rdA a := by
  have h1 : a ≠ ERR_LOST.COUNT.adr 0 := by simp only [Fld.adr, ERR_LOST.COUNT]; omega
  unfold logOne
  dsimp only
  split
  · split
    · rw [rdA_count_other _ _ _ _ _ _ h1, rdA_takeError_other _ _ _ _ _ h]
    · split
      · rw [rdA_count_other _ _ _ _ _ _ h1, rdA_takeError_other _ _ _ _ _ h, rdA_withRuns,
          rdA_count_other _ _ _ _ _ _ h1, rdA_takeError_other _ _ _ _ _ h]
      · rw [rdA_takeError_other _ _ _ _ _ h, rdA_withRuns, rdA_count_other _ _ _ _ _ _ h1,
          rdA_takeError_other _ _ _ _ _ h]
  · rw [rdA_takeError_other _ _ _ _ _ h]

/-- Logging an error changes no register below the window of `ERR`. -/
theorem rdA_log_other (s : State) (code : Nat) (ds : List Nat) (a : Nat) (h : a < 0xF00000) :
    (s.log code ds).rdA a = s.rdA a := by
  unfold State.log
  split
  · rw [rdA_logOne_other _ _ _ _ h]
  · rw [rdA_logOne_other _ _ _ _ h, rdA_logOne_other _ _ _ _ h, rdA_withErr]

theorem rdA_logRun_other (s : State) (code scope : Nat) (ds : List Nat) (a : Nat) (h : a < 0xF00000) :
    (s.logRun code scope ds).rdA a = s.rdA a := by
  unfold State.logRun
  split
  · rfl
  · rw [rdA_log_other _ _ _ _ h, rdA_withRuns]

theorem rdA_logSec_other (s : State) (code scope : Nat) (ds : List Nat) (a : Nat) (h : a < 0xF00000) :
    (s.logSec code scope ds).rdA a = s.rdA a := by
  unfold State.logSec
  dsimp only
  split
  · rfl
  · rw [rdA_log_other _ _ _ _ h, rdA_withStamps]

/-- A field below the window of `ERR` reads what it read before the error was logged. -/
theorem get_log_other (s : State) (code : Nat) (ds : List Nat) (f : Fld) (i j : Nat) (h : f.adr i j < 0xF00000) :
    (s.log code ds).get f i j = s.get f i j := by
  unfold State.get
  rw [rdA_log_other _ _ _ _ h]

theorem get_logSec_other (s : State) (code scope : Nat) (ds : List Nat) (f : Fld) (i j : Nat)
    (h : f.adr i j < 0xF00000) : (s.logSec code scope ds).get f i j = s.get f i j := by
  unfold State.get
  rw [rdA_logSec_other _ _ _ _ _ h]

/-! ### What logging an error leaves alone -/

/-- Two states that agree in everything but the registers, what has fired, and what the error log remembers. -/
def LogFrame (s t : State) : Prop :=
  ∃ r f e n m, s.fired <+: f ∧ t = { s with
    regs := r
    fired := f
    err := e
    runs := n
    stamps := m }

theorem logFrame_refl (s : State) : LogFrame s s := ⟨_, _, _, _, _, List.prefix_refl _, rfl⟩

theorem logFrame_trans {s t u : State} (h : LogFrame s t) (k : LogFrame t u) : LogFrame s u := by
  obtain ⟨r, f, e, n, m, hf, rfl⟩ := h
  obtain ⟨r', f', e', n', m', hf', rfl⟩ := k
  exact ⟨r', f', e', n', m', hf.trans hf', rfl⟩

theorem wrA_logFrame (s : State) (a v : Nat) : LogFrame s (s.wrA a v) := ⟨_, _, _, _, _, List.prefix_refl _, rfl⟩

theorem set_logFrame (s : State) (f : Fld) (v i j : Nat) : LogFrame s (s.set f v i j) := wrA_logFrame s _ _

theorem count_logFrame (s : State) (f : Fld) (i j n : Nat) : LogFrame s (s.count f i j n) := set_logFrame s _ _ _ _

theorem wrWords_logFrame (ws : List Nat) (s : State) (a : Nat) : LogFrame s (s.wrWords a ws) := by
  induction ws generalizing s a with
  | nil => exact logFrame_refl s
  | cons w ws ih => exact logFrame_trans (wrA_logFrame s a w) (ih _ _)

theorem fire_logFrame (s : State) (p : Nat) : LogFrame s (s.fire p) := ⟨_, _, _, _, _, List.prefix_append _ _, rfl⟩

theorem withErr_logFrame (s : State) (e : ErrSt) : LogFrame s { s with err := e } :=
  ⟨_, _, _, _, _, List.prefix_refl _, rfl⟩

theorem storeRec_logFrame (s : State) (code : Nat) (ds : List Nat) : LogFrame s (storeRec s code ds) := by
  have base : LogFrame s ((s.wrWords (0xF01000 + 32 * (s.get ERR_WCNT.COUNT % 256))
      (errWords s code (s.get ERR_WCNT.COUNT) ds)).set ERR_WCNT.COUNT (s.get ERR_WCNT.COUNT + 1)) :=
    logFrame_trans (wrWords_logFrame _ s _) (set_logFrame _ _ _ _ _)
  unfold storeRec
  dsimp only
  split
  · exact logFrame_trans (logFrame_trans base (withErr_logFrame _ _)) (logFrame_trans (wrWords_logFrame _ _ _) (set_logFrame _ _ _ _ _))
  · exact logFrame_trans base (withErr_logFrame _ _)

theorem takeError_logFrame (s : State) (code : Nat) (ds : List Nat) (full : Bool) :
    LogFrame s (takeError s code ds full) := by
  have base : ∀ u p q, LogFrame s (((s.count ERR_UNITCNT.COUNT u).fire p).fire q) := fun u p q =>
    logFrame_trans (count_logFrame _ _ _ _ _) (logFrame_trans (fire_logFrame _ _) (fire_logFrame _ _))
  unfold takeError
  dsimp only
  split
  · exact logFrame_trans (base _ _ _) (count_logFrame _ _ _ _ _)
  · split
    · exact logFrame_trans (logFrame_trans (base _ _ _) (count_logFrame _ _ _ _ _)) (withErr_logFrame _ _)
    · exact logFrame_trans (base _ _ _) (storeRec_logFrame _ _ _)

theorem logOne_logFrame (s : State) (code : Nat) (ds : List Nat) : LogFrame s (logOne s code ds) := by
  have mark : ∀ (t : State) n, LogFrame t { t with runs := n } := fun t n => ⟨_, _, _, _, _, List.prefix_refl _, rfl⟩
  unfold logOne
  dsimp only
  split
  · split
    · exact logFrame_trans (takeError_logFrame _ _ _ _) (count_logFrame _ _ _ _ _)
    · split
      · refine logFrame_trans (logFrame_trans (logFrame_trans ?_ (mark _ _)) (takeError_logFrame _ _ _ _))
          (count_logFrame _ _ _ _ _)
        exact logFrame_trans (takeError_logFrame _ _ _ _) (count_logFrame _ _ _ _ _)
      · refine logFrame_trans (logFrame_trans ?_ (mark _ _)) (takeError_logFrame _ _ _ _)
        exact logFrame_trans (takeError_logFrame _ _ _ _) (count_logFrame _ _ _ _ _)
  · exact takeError_logFrame _ _ _ _

/-- Logging an error changes registers, the error log's own memory, and adds to what has fired; nothing else. -/
theorem log_logFrame (s : State) (code : Nat) (ds : List Nat) : LogFrame s (s.log code ds) := by
  unfold State.log
  split
  · exact logOne_logFrame _ _ _
  · exact logFrame_trans (logFrame_trans ⟨_, _, _, _, _, List.prefix_refl _, rfl⟩ (logOne_logFrame _ _ _))
      (logOne_logFrame _ _ _)

theorem logRun_logFrame (s : State) (code scope : Nat) (ds : List Nat) : LogFrame s (s.logRun code scope ds) := by
  unfold State.logRun
  split
  · exact logFrame_refl s
  · exact logFrame_trans ⟨_, _, _, _, _, List.prefix_refl _, rfl⟩ (log_logFrame _ _ _)

theorem logSec_logFrame (s : State) (code scope : Nat) (ds : List Nat) : LogFrame s (s.logSec code scope ds) := by
  unfold State.logSec
  dsimp only
  split
  · exact logFrame_refl s
  · exact logFrame_trans ⟨_, _, _, _, _, List.prefix_refl _, rfl⟩ (log_logFrame _ _ _)

end Sys2Proof.Machine
end

