-- ==== Sys2Proof/Laws/Keeps.lean ====
section
/-! SUPPORT. What every operation of the machine keeps: the canonical form of the register table, the queue, elapsed time,
the variant and the serial number, and what has been sent. -/

namespace Sys2Proof.Machine

/-- What holds between the state before an operation and the state after it, whatever the operation. -/
structure Keeps (s t : State) : Prop where
  regs : s.regsOk = true → t.regsOk = true
  pending : t.pending = s.pending
  elapsed : t.elapsed = s.elapsed
  variant : t.fuses.variant = s.fuses.variant
  dsn : t.fuses.dsn = s.fuses.dsn
  sent : s.sent <+: t.sent
  free : s.freeCount ≤ t.freeCount

/-- The outcome of a command is a next state that keeps what `Keeps` names. -/
def KeepsOut (s : State) (o : Out) : Prop := ∃ t, o = .next t ∧ Keeps s t

theorem Keeps.refl (s : State) : Keeps s s := ⟨id, rfl, rfl, rfl, rfl, List.prefix_refl _, Nat.le_refl _⟩

theorem Keeps.trans {a b c : State} (h : Keeps a b) (k : Keeps b c) : Keeps a c :=
  ⟨fun r => k.regs (h.regs r), k.pending.trans h.pending, k.elapsed.trans h.elapsed, k.variant.trans h.variant,
    k.dsn.trans h.dsn, h.sent.trans k.sent, Nat.le_trans h.free k.free⟩

theorem keepsOut_next {s0 t : State} (h : Keeps s0 t) : KeepsOut s0 (.next t) := ⟨t, rfl, h⟩

/-- What agrees with `s` in the fields that `Keeps` names. -/
theorem keeps_same {s0 s t : State} (h : Keeps s0 s) (h1 : t.regs = s.regs) (h2 : t.pending = s.pending)
    (h3 : t.elapsed = s.elapsed) (h4 : t.fuses = s.fuses) (h5 : t.sent = s.sent) (h6 : t.freeCount = s.freeCount) :
    Keeps s0 t := by
  refine h.trans ⟨?_, h2, h3, by rw [h4], by rw [h4], h5 ▸ List.prefix_refl _, by omega⟩
  intro r
  unfold State.regsOk at *
  rw [h1]
  exact r

theorem foldl_keeps {α : Type} {s0 s : State} {f : State → α → State} {l : List α} (h : Keeps s0 s)
    (hf : ∀ t x, Keeps s0 t → Keeps s0 (f t x)) : Keeps s0 (l.foldl f s) := by
  induction l generalizing s with
  | nil => exact h
  | cons x l ih => exact ih (hf s x h)

theorem ite_keeps {s0 a b : State} {c : Prop} [Decidable c] (ha : Keeps s0 a) (hb : Keeps s0 b) :
    Keeps s0 (if c then a else b) := by
  split
  · exact ha
  · exact hb

theorem iteFst_keeps {β : Type} {s0 : State} {a b : State × β} {c : Prop} [Decidable c] (ha : Keeps s0 a.1)
    (hb : Keeps s0 b.1) : Keeps s0 (if c then a else b).1 := by
  split
  · exact ha
  · exact hb

theorem wrA_keeps {s0 s : State} {a v : Nat} (h : Keeps s0 s) : Keeps s0 (s.wrA a v) :=
  h.trans ⟨regsOk_wrA s a v, rfl, rfl, rfl, rfl, List.prefix_refl _, Nat.le_refl _⟩

theorem clearRegs_keeps {s0 s : State} {a b : Nat} (h : Keeps s0 s) : Keeps s0 (s.clearRegs a b) :=
  h.trans ⟨regsOk_clearRegs s a b, rfl, rfl, rfl, rfl, List.prefix_refl _, Nat.le_refl _⟩

theorem emit_keeps {s0 s : State} {e : Emission} (h : Keeps s0 s) : Keeps s0 (s.emit e) := by
  unfold State.emit
  split
  · exact h
  · exact h.trans ⟨id, rfl, rfl, rfl, rfl, List.prefix_append _ _, Nat.le_refl _⟩

theorem free_keeps {s0 s : State} {w : Nat} (h : Keeps s0 s) : Keeps s0 (s.free w).2 :=
  h.trans ⟨id, rfl, rfl, rfl, rfl, List.prefix_refl _, Nat.le_succ _⟩

/-- More has been sent. -/
theorem append_keeps {s0 s : State} {l : List Emission} (h : Keeps s0 s) : Keeps s0 { s with sent := s.sent ++ l } :=
  h.trans ⟨id, rfl, rfl, rfl, rfl, List.prefix_append _ _, Nat.le_refl _⟩

theorem foldl_fst_keeps {α β : Type} {s0 : State} {f : State × β → α → State × β} {l : List α} {a : State × β}
    (h : Keeps s0 a.1) (hf : ∀ t x, Keeps s0 t.1 → Keeps s0 (f t x).1) : Keeps s0 (l.foldl f a).1 := by
  induction l generalizing a with
  | nil => exact h
  | cons x l ih => exact ih (hf a x h)

theorem mk_keeps {zz s : State} {x_now x_fired x_stamps x_runs x_clk x_cfg x_glb x_err x_que x_hbr x_tim x_drl x_pos x_chans x_tws x_out x_lanes x_groups x_src x_ports x_pipes x_ven x_btm x_bwr x_jtag} :
    Keeps zz (State.mk s.pending s.regs x_now s.elapsed x_fired s.sent x_stamps x_runs s.freeCount s.fuses x_clk x_cfg x_glb x_err x_que x_hbr x_tim x_drl x_pos x_chans x_tws x_out x_lanes x_groups x_src x_ports x_pipes x_ven x_btm x_bwr x_jtag) = Keeps zz s := by
  refine propext ⟨fun h => keeps_same h rfl rfl rfl rfl rfl rfl, fun h => keeps_same h rfl rfl rfl rfl rfl rfl⟩

theorem free_keeps' {zz t s : State} {w q : Nat} (h : Keeps zz s) (e : s.free w = (q, t)) : Keeps zz t := by
  have := free_keeps (w := w) h
  rw [e] at this
  exact this

end Sys2Proof.Machine
end

