-- ==== Sys2Proof/Laws/Keeps1.lean ====
section
/-! SUPPORT. One lemma per operation, in the order in which the operations call each other: the operation keeps what `Keeps`
names (part 1 of 5). A lemma about a command says that it answers a next state that keeps it. -/

namespace Sys2Proof.Machine
set_option maxRecDepth 4000
set_option linter.all false

theorem set_keeps {zz : State} {s : State} {f : Fld} {v : Nat} {i : Nat} {j : Nat}
    (hs : Keeps zz s) :
    Keeps zz (State.set s f v i j) := by
  unfold State.set
  repeat' first
    | with_reducible assumption | with_reducible apply wrA_keeps | (simp only [mk_keeps])
    | with_reducible apply foldl_keeps | split | intro _ _ _ | intro _ _ | extract_lets
    | (dsimp +zetaDelta only)

theorem count_keeps {zz : State} {s : State} {f : Fld} {i : Nat} {j : Nat} {n : Nat}
    (hs : Keeps zz s) :
    Keeps zz (State.count s f i j n) := by
  unfold State.count
  repeat' first
    | with_reducible assumption | with_reducible apply set_keeps | (simp only [mk_keeps])
    | with_reducible apply foldl_keeps | split | intro _ _ _ | intro _ _ | extract_lets
    | (dsimp +zetaDelta only)

theorem dropFeed_keeps {zz : State} {s : State} {id : Nat}
    (hs : Keeps zz s) :
    Keeps zz (State.dropFeed s id) := by
  unfold State.dropFeed
  extract_lets l0
  repeat' first
    | with_reducible assumption | (simp only [mk_keeps]) | with_reducible apply foldl_keeps | split
    | intro _ _ _ | intro _ _ | extract_lets | (dsimp +zetaDelta only)

theorem endRun_keeps {zz : State} {s : State} {code : Nat} {scope : Nat}
    (hs : Keeps zz s) :
    Keeps zz (State.endRun s code scope) := by
  unfold State.endRun
  repeat' first
    | with_reducible assumption | (simp only [mk_keeps]) | with_reducible apply foldl_keeps | split
    | intro _ _ _ | intro _ _ | extract_lets | (dsimp +zetaDelta only)

theorem fire_keeps {zz : State} {s : State} {p : Nat}
    (hs : Keeps zz s) :
    Keeps zz (State.fire s p) := by
  unfold State.fire
  repeat' first
    | with_reducible assumption | (simp only [mk_keeps]) | with_reducible apply foldl_keeps | split
    | intro _ _ _ | intro _ _ | extract_lets | (dsimp +zetaDelta only)

theorem fireAt_keeps {zz : State} {s : State} {p : Nat} {t : Nat} {fl : Nat}
    (hs : Keeps zz s) :
    Keeps zz (State.fireAt s p t fl) := by
  unfold State.fireAt
  repeat' first
    | with_reducible assumption | (simp only [mk_keeps]) | with_reducible apply foldl_keeps | split
    | intro _ _ _ | intro _ _ | extract_lets | (dsimp +zetaDelta only)

theorem wrWords_keeps {z : State} {s : State} {a : Nat} {ws : List Nat} (hs : Keeps z s) :
    Keeps z (State.wrWords s a ws) := by
  induction ws generalizing s a with
  | nil => exact hs
  | cons w t ih => exact ih (wrA_keeps hs)

theorem storeRec_keeps {zz : State} {s : State} {code : Nat} {ds : List Nat}
    (hs : Keeps zz s) :
    Keeps zz (storeRec s code ds) := by
  unfold storeRec
  extract_lets l0 l1 l2 l3 l4
  have kl2 : Keeps zz l2 := by
    unfold l2
    repeat' first
      | with_reducible assumption | with_reducible apply set_keeps | with_reducible apply wrWords_keeps
      | (simp only [mk_keeps]) | with_reducible apply foldl_keeps | split | intro _ _ _ | intro _ _
      | extract_lets | (dsimp +zetaDelta only)
  clear_value l2
  have kl4 : Keeps zz l4 := by
    unfold l4
    repeat' first
      | with_reducible assumption | (simp only [mk_keeps]) | with_reducible apply foldl_keeps | split
      | intro _ _ _ | intro _ _ | extract_lets | (dsimp +zetaDelta only)
  clear_value l4
  repeat' first
    | with_reducible assumption | with_reducible apply set_keeps | with_reducible apply wrWords_keeps
    | (simp only [mk_keeps]) | with_reducible apply foldl_keeps | split | intro _ _ _ | intro _ _
    | extract_lets | (dsimp +zetaDelta only)

theorem takeError_keeps {zz : State} {s : State} {code : Nat} {ds : List Nat} {full : Bool}
    (hs : Keeps zz s) :
    Keeps zz (takeError s code ds full) := by
  unfold takeError
  extract_lets l0 l1 l2 l3
  have kl1 : Keeps zz l1 := by
    unfold l1
    repeat' first
      | with_reducible assumption | with_reducible apply fire_keeps | with_reducible apply count_keeps
      | (simp only [mk_keeps]) | with_reducible apply foldl_keeps | split | intro _ _ _ | intro _ _
      | extract_lets | (dsimp +zetaDelta only)
  clear_value l1
  have kl2 : Keeps zz l2 := by
    unfold l2
    repeat' first
      | with_reducible assumption | with_reducible apply count_keeps | (simp only [mk_keeps])
      | with_reducible apply foldl_keeps | split | intro _ _ _ | intro _ _ | extract_lets
      | (dsimp +zetaDelta only)
  clear_value l2
  repeat' first
    | with_reducible assumption | with_reducible apply count_keeps | with_reducible apply storeRec_keeps
    | (simp only [mk_keeps]) | with_reducible apply foldl_keeps | split | intro _ _ _ | intro _ _
    | extract_lets | (dsimp +zetaDelta only)

theorem logOne_keeps {zz : State} {s : State} {code : Nat} {ds : List Nat}
    (hs : Keeps zz s) :
    Keeps zz (logOne s code ds) := by
  unfold logOne
  extract_lets l0 l1 l2 l3 l4 l5 l6
  have kl2 : Keeps zz l2 := by
    unfold l2
    repeat' first
      | with_reducible assumption | with_reducible apply takeError_keeps | (simp only [mk_keeps])
      | with_reducible apply foldl_keeps | split | intro _ _ _ | intro _ _ | extract_lets
      | (dsimp +zetaDelta only)
  clear_value l2
  have kl3 : Keeps zz l3 := by
    unfold l3
    repeat' first
      | with_reducible assumption | with_reducible apply count_keeps | (simp only [mk_keeps])
      | with_reducible apply foldl_keeps | split | intro _ _ _ | intro _ _ | extract_lets
      | (dsimp +zetaDelta only)
  clear_value l3
  have kl4 : Keeps zz l4 := by
    unfold l4
    repeat' first
      | with_reducible assumption | (simp only [mk_keeps]) | with_reducible apply foldl_keeps | split
      | intro _ _ _ | intro _ _ | extract_lets | (dsimp +zetaDelta only)
  clear_value l4
  have kl6 : Keeps zz l6 := by
    unfold l6
    repeat' first
      | with_reducible assumption | with_reducible apply takeError_keeps | (simp only [mk_keeps])
      | with_reducible apply foldl_keeps | split | intro _ _ _ | intro _ _ | extract_lets
      | (dsimp +zetaDelta only)
  clear_value l6
  repeat' first
    | with_reducible assumption | with_reducible apply count_keeps | (simp only [mk_keeps])
    | with_reducible apply foldl_keeps | split | intro _ _ _ | intro _ _ | extract_lets
    | (dsimp +zetaDelta only)

theorem log_keeps {zz : State} {s : State} {code : Nat} {ds : (List Nat)}
    (hs : Keeps zz s) :
    Keeps zz (State.log s code ds) := by
  unfold State.log
  extract_lets l0
  repeat' first
    | with_reducible assumption | with_reducible apply logOne_keeps | (simp only [mk_keeps])
    | with_reducible apply foldl_keeps | split | intro _ _ _ | intro _ _ | extract_lets
    | (dsimp +zetaDelta only)

theorem logRun_keeps {zz : State} {s : State} {code : Nat} {scope : Nat} {ds : (List Nat)}
    (hs : Keeps zz s) :
    Keeps zz (State.logRun s code scope ds) := by
  unfold State.logRun
  repeat' first
    | with_reducible assumption | with_reducible apply log_keeps | (simp only [mk_keeps])
    | with_reducible apply foldl_keeps | split | intro _ _ _ | intro _ _ | extract_lets
    | (dsimp +zetaDelta only)

theorem logSec_keeps {zz : State} {s : State} {code : Nat} {scope : Nat} {ds : (List Nat)}
    (hs : Keeps zz s) :
    Keeps zz (State.logSec s code scope ds) := by
  unfold State.logSec
  extract_lets l0
  repeat' first
    | with_reducible assumption | with_reducible apply log_keeps | (simp only [mk_keeps])
    | with_reducible apply foldl_keeps | split | intro _ _ _ | intro _ _ | extract_lets
    | (dsimp +zetaDelta only)

theorem setAnalog_keeps {zz : State} {s : State} {a : Nat} {u : AnalogOut}
    (hs : Keeps zz s) :
    Keeps zz (State.setAnalog s a u) := by
  unfold State.setAnalog
  extract_lets l0
  repeat' first
    | with_reducible assumption | (simp only [mk_keeps]) | with_reducible apply foldl_keeps | split
    | intro _ _ _ | intro _ _ | extract_lets | (dsimp +zetaDelta only)

theorem setCell_keeps {zz : State} {s : State} {c : Nat} {u : CellSt}
    (hs : Keeps zz s) :
    Keeps zz (State.setCell s c u) := by
  unfold State.setCell
  extract_lets l0
  repeat' first
    | with_reducible assumption | (simp only [mk_keeps]) | with_reducible apply foldl_keeps | split
    | intro _ _ _ | intro _ _ | extract_lets | (dsimp +zetaDelta only)

theorem setChan_keeps {zz : State} {s : State} {n : Nat} {u : PosCh}
    (hs : Keeps zz s) :
    Keeps zz (State.setChan s n u) := by
  unfold State.setChan
  repeat' first
    | with_reducible assumption | (simp only [mk_keeps]) | with_reducible apply foldl_keeps | split
    | intro _ _ _ | intro _ _ | extract_lets | (dsimp +zetaDelta only)

theorem setCon_keeps {zz : State} {s : State} {i : Nat} {u : ConSt}
    (hs : Keeps zz s) :
    Keeps zz (State.setCon s i u) := by
  unfold State.setCon
  extract_lets l0
  repeat' first
    | with_reducible assumption | (simp only [mk_keeps]) | with_reducible apply foldl_keeps | split
    | intro _ _ _ | intro _ _ | extract_lets | (dsimp +zetaDelta only)

theorem setEntry_keeps {zz : State} {s : State} {e : Nat} {u : EntrySt}
    (hs : Keeps zz s) :
    Keeps zz (State.setEntry s e u) := by
  unfold State.setEntry
  extract_lets l0
  repeat' first
    | with_reducible assumption | (simp only [mk_keeps]) | with_reducible apply foldl_keeps | split
    | intro _ _ _ | intro _ _ | extract_lets | (dsimp +zetaDelta only)

theorem setFeed_keeps {zz : State} {s : State} {f : Feed}
    (hs : Keeps zz s) :
    Keeps zz (State.setFeed s f) := by
  unfold State.setFeed
  extract_lets l0
  repeat' first
    | with_reducible assumption | (simp only [mk_keeps]) | with_reducible apply foldl_keeps | split
    | intro _ _ _ | intro _ _ | extract_lets | (dsimp +zetaDelta only)

theorem setGroup_keeps {zz : State} {s : State} {g : Nat} {u : GroupSt}
    (hs : Keeps zz s) :
    Keeps zz (State.setGroup s g u) := by
  unfold State.setGroup
  repeat' first
    | with_reducible assumption | (simp only [mk_keeps]) | with_reducible apply foldl_keeps | split
    | intro _ _ _ | intro _ _ | extract_lets | (dsimp +zetaDelta only)

theorem setLane_keeps {zz : State} {s : State} {n : Nat} {u : LaneSt}
    (hs : Keeps zz s) :
    Keeps zz (State.setLane s n u) := by
  unfold State.setLane
  repeat' first
    | with_reducible assumption | (simp only [mk_keeps]) | with_reducible apply foldl_keeps | split
    | intro _ _ _ | intro _ _ | extract_lets | (dsimp +zetaDelta only)

theorem setPic_keeps {zz : State} {s : State} {q : Picture}
    (hs : Keeps zz s) :
    Keeps zz (State.setPic s q) := by
  unfold State.setPic
  extract_lets l0
  repeat' first
    | with_reducible assumption | (simp only [mk_keeps]) | with_reducible apply foldl_keeps | split
    | intro _ _ _ | intro _ _ | extract_lets | (dsimp +zetaDelta only)

theorem setPipe_keeps {zz : State} {s : State} {p : Nat} {u : PipeSt}
    (hs : Keeps zz s) :
    Keeps zz (State.setPipe s p u) := by
  unfold State.setPipe
  repeat' first
    | with_reducible assumption | (simp only [mk_keeps]) | with_reducible apply foldl_keeps | split
    | intro _ _ _ | intro _ _ | extract_lets | (dsimp +zetaDelta only)

theorem setPort_keeps {zz : State} {s : State} {n : Nat} {u : PortSt}
    (hs : Keeps zz s) :
    Keeps zz (State.setPort s n u) := by
  unfold State.setPort
  repeat' first
    | with_reducible assumption | (simp only [mk_keeps]) | with_reducible apply foldl_keeps | split
    | intro _ _ _ | intro _ _ | extract_lets | (dsimp +zetaDelta only)

theorem setPtpPort_keeps {zz : State} {s : State} {p : Nat} {u : PtpPort}
    (hs : Keeps zz s) :
    Keeps zz (State.setPtpPort s p u) := by
  unfold State.setPtpPort
  extract_lets l0
  repeat' first
    | with_reducible assumption | (simp only [mk_keeps]) | with_reducible apply foldl_keeps | split
    | intro _ _ _ | intro _ _ | extract_lets | (dsimp +zetaDelta only)

theorem setQueue_keeps {zz : State} {s : State} {q : Nat} {u : QueueSt}
    (hs : Keeps zz s) :
    Keeps zz (State.setQueue s q u) := by
  unfold State.setQueue
  extract_lets l0
  repeat' first
    | with_reducible assumption | (simp only [mk_keeps]) | with_reducible apply foldl_keeps | split
    | intro _ _ _ | intro _ _ | extract_lets | (dsimp +zetaDelta only)

theorem setStrobe_keeps {zz : State} {s : State} {k : Nat} {u : StrobeOut}
    (hs : Keeps zz s) :
    Keeps zz (State.setStrobe s k u) := by
  unfold State.setStrobe
  extract_lets l0
  repeat' first
    | with_reducible assumption | (simp only [mk_keeps]) | with_reducible apply foldl_keeps | split
    | intro _ _ _ | intro _ _ | extract_lets | (dsimp +zetaDelta only)

theorem setTrig_keeps {zz : State} {s : State} {n : Nat} {u : TrigOut}
    (hs : Keeps zz s) :
    Keeps zz (State.setTrig s n u) := by
  unfold State.setTrig
  extract_lets l0
  repeat' first
    | with_reducible assumption | (simp only [mk_keeps]) | with_reducible apply foldl_keeps | split
    | intro _ _ _ | intro _ _ | extract_lets | (dsimp +zetaDelta only)

theorem setVctx_keeps {zz : State} {s : State} {x : Nat} {u : CtxSt}
    (hs : Keeps zz s) :
    Keeps zz (State.setVctx s x u) := by
  unfold State.setVctx
  extract_lets l0
  repeat' first
    | with_reducible assumption | (simp only [mk_keeps]) | with_reducible apply foldl_keeps | split
    | intro _ _ _ | intro _ _ | extract_lets | (dsimp +zetaDelta only)

theorem setWheel_keeps {zz : State} {s : State} {w : Nat} {u : WheelSt}
    (hs : Keeps zz s) :
    Keeps zz (State.setWheel s w u) := by
  unfold State.setWheel
  extract_lets l0
  repeat' first
    | with_reducible assumption | (simp only [mk_keeps]) | with_reducible apply foldl_keeps | split
    | intro _ _ _ | intro _ _ | extract_lets | (dsimp +zetaDelta only)

theorem wrapAdd_keeps {zz : State} {s : State} {f : Fld} {n : Nat} {i : Nat} {j : Nat}
    (hs : Keeps zz s) :
    Keeps zz (State.wrapAdd s f n i j) := by
  unfold State.wrapAdd
  repeat' first
    | with_reducible assumption | with_reducible apply set_keeps | (simp only [mk_keeps])
    | with_reducible apply foldl_keeps | split | intro _ _ _ | intro _ _ | extract_lets
    | (dsimp +zetaDelta only)

theorem abandonFar_keeps {zz : State} {s : State}
    (hs : Keeps zz s) :
    Keeps zz (abandonFar s) := by
  unfold abandonFar
  extract_lets l0
  repeat' first
    | with_reducible assumption | (simp only [mk_keeps]) | with_reducible apply foldl_keeps | split
    | intro _ _ _ | intro _ _ | extract_lets | (dsimp +zetaDelta only)

theorem setBusy_keeps {zz : State} {i : Nat} {b : Bool} {s : State}
    (hs : Keeps zz s) :
    Keeps zz (setBusy i b s) := by
  unfold setBusy
  repeat' first
    | with_reducible assumption | with_reducible apply set_keeps | (simp only [mk_keeps])
    | with_reducible apply foldl_keeps | split | intro _ _ _ | intro _ _ | extract_lets
    | (dsimp +zetaDelta only)

theorem trigAccept_keeps {zz : State} {n : Nat} {lat : Latch} {held : Bool} {s : State}
    (hs : Keeps zz s) :
    Keeps zz (trigAccept n lat held s) := by
  unfold trigAccept
  extract_lets l0 l1 l2 l3 l4 l5 l6
  have kl6 : Keeps zz l6 := by
    unfold l6
    repeat' first
      | with_reducible assumption | with_reducible apply logSec_keeps | with_reducible apply count_keeps
      | (simp only [mk_keeps]) | with_reducible apply foldl_keeps | split | intro _ _ _ | intro _ _
      | extract_lets | (dsimp +zetaDelta only)
  clear_value l6
  repeat' first
    | with_reducible assumption | with_reducible apply setBusy_keeps | with_reducible apply setTrig_keeps
    | (simp only [mk_keeps]) | with_reducible apply foldl_keeps | split | intro _ _ _ | intro _ _
    | extract_lets | (dsimp +zetaDelta only)

theorem seeGuard_keeps {zz : State} {k : Nat} {s : State}
    (hs : Keeps zz s) :
    Keeps zz (seeGuard k s) := by
  unfold seeGuard
  extract_lets l0
  repeat' first
    | with_reducible assumption | with_reducible apply setStrobe_keeps | (simp only [mk_keeps])
    | with_reducible apply foldl_keeps | split | intro _ _ _ | intro _ _ | extract_lets
    | (dsimp +zetaDelta only)

theorem strobeAccept_keeps {zz : State} {k : Nat} {lat : Latch} {held : Bool} {x3 : State}
    (hx3 : Keeps zz x3) :
    Keeps zz (strobeAccept k lat held x3) := by
  unfold strobeAccept
  extract_lets l0 l1 l2 l3 l4
  have kl0 : Keeps zz l0 := by
    unfold l0
    repeat' first
      | with_reducible assumption | with_reducible apply seeGuard_keeps | (simp only [mk_keeps])
      | with_reducible apply foldl_keeps | split | intro _ _ _ | intro _ _ | extract_lets
      | (dsimp +zetaDelta only)
  clear_value l0
  repeat' first
    | with_reducible assumption | with_reducible apply setBusy_keeps | with_reducible apply setStrobe_keeps
    | (simp only [mk_keeps]) | with_reducible apply foldl_keeps | split | intro _ _ _ | intro _ _
    | extract_lets | (dsimp +zetaDelta only)

theorem analogUpdate_keeps {zz : State} {a : Nat} {s : State}
    (hs : Keeps zz s) :
    Keeps zz (analogUpdate a s) := by
  unfold analogUpdate
  repeat' first
    | with_reducible assumption | with_reducible apply set_keeps | (simp only [mk_keeps])
    | with_reducible apply foldl_keeps | split | intro _ _ _ | intro _ _ | extract_lets
    | (dsimp +zetaDelta only)

theorem timCapture_keeps {zz : State} {k : Nat} {t : Nat} {s : State}
    (hs : Keeps zz s) :
    Keeps zz (timCapture k t s) := by
  unfold timCapture
  extract_lets l0 l1 l2
  have kl1 : Keeps zz l1 := by
    unfold l1
    repeat' first
      | with_reducible assumption | with_reducible apply set_keeps | (simp only [mk_keeps])
      | with_reducible apply foldl_keeps | split | intro _ _ _ | intro _ _ | extract_lets
      | (dsimp +zetaDelta only)
  clear_value l1
  have kl2 : Keeps zz l2 := by
    unfold l2
    repeat' first
      | with_reducible assumption | with_reducible apply set_keeps | (simp only [mk_keeps])
      | with_reducible apply foldl_keeps | split | intro _ _ _ | intro _ _ | extract_lets
      | (dsimp +zetaDelta only)
  clear_value l2
  repeat' first
    | with_reducible assumption | with_reducible apply set_keeps | (simp only [mk_keeps])
    | with_reducible apply foldl_keeps | split | intro _ _ _ | intro _ _ | extract_lets
    | (dsimp +zetaDelta only)

theorem posLatch_keeps {zz : State} {n : Nat} {t : Nat} {src : Nat} {s : State}
    (hs : Keeps zz s) :
    Keeps zz (posLatch n t src s) := by
  unfold posLatch
  extract_lets l0 l1 l2 l3 l4 l5
  have kl3 : Keeps zz l3 := by
    unfold l3
    repeat' first
      | with_reducible assumption | with_reducible apply set_keeps | (simp only [mk_keeps])
      | with_reducible apply foldl_keeps | split | intro _ _ _ | intro _ _ | extract_lets
      | (dsimp +zetaDelta only)
  clear_value l3
  have kl4 : Keeps zz l4 := by
    unfold l4
    repeat' first
      | with_reducible assumption | with_reducible apply set_keeps | (simp only [mk_keeps])
      | with_reducible apply foldl_keeps | split | intro _ _ _ | intro _ _ | extract_lets
      | (dsimp +zetaDelta only)
  clear_value l4
  have kl5 : Keeps zz l5 := by
    unfold l5
    repeat' first
      | with_reducible assumption | with_reducible apply set_keeps | with_reducible apply logRun_keeps
      | with_reducible apply endRun_keeps | (simp only [mk_keeps]) | with_reducible apply foldl_keeps | split
      | intro _ _ _ | intro _ _ | extract_lets | (dsimp +zetaDelta only)
  clear_value l5
  repeat' first
    | with_reducible assumption | with_reducible apply set_keeps | (simp only [mk_keeps])
    | with_reducible apply foldl_keeps | split | intro _ _ _ | intro _ _ | extract_lets
    | (dsimp +zetaDelta only)

theorem posArm_keeps {zz : State} {n : Nat} {s : State}
    (hs : Keeps zz s) :
    Keeps zz (posArm n s) := by
  unfold posArm
  repeat' first
    | with_reducible assumption | with_reducible apply set_keeps | (simp only [mk_keeps])
    | with_reducible apply foldl_keeps | split | intro _ _ _ | intro _ _ | extract_lets
    | (dsimp +zetaDelta only)

theorem cancelAngles_keeps {zz : State} {w : Nat} {s : State}
    (hs : Keeps zz s) :
    Keeps zz (cancelAngles w s) := by
  unfold cancelAngles
  repeat' first
    | with_reducible assumption | with_reducible apply setEntry_keeps | (simp only [mk_keeps])
    | with_reducible apply foldl_keeps | split | intro _ _ _ | intro _ _ | extract_lets
    | (dsimp +zetaDelta only)

theorem leaveSync_keeps {zz : State} {w : Nat} {s : State}
    (hs : Keeps zz s) :
    Keeps zz (leaveSync w s) := by
  unfold leaveSync
  extract_lets l0
  repeat' first
    | with_reducible assumption | with_reducible apply cancelAngles_keeps
    | with_reducible apply setWheel_keeps | (simp only [mk_keeps]) | with_reducible apply foldl_keeps | split
    | intro _ _ _ | intro _ _ | extract_lets | (dsimp +zetaDelta only)

theorem setPer_keeps {zz : State} {w : Nat} {p : Nat} {s : State}
    (hs : Keeps zz s) :
    Keeps zz (setPer w p s) := by
  unfold setPer
  extract_lets l0
  repeat' first
    | with_reducible assumption | with_reducible apply set_keeps | with_reducible apply setWheel_keeps
    | (simp only [mk_keeps]) | with_reducible apply foldl_keeps | split | intro _ _ _ | intro _ _
    | extract_lets | (dsimp +zetaDelta only)

theorem loseWheel_keeps {zz : State} {w : Nat} {st : Nat} {cause : Nat} {s : State}
    (hs : Keeps zz s) :
    Keeps zz (loseWheel w st cause s) := by
  unfold loseWheel
  extract_lets l0 l1 l2 l3 l4 l5
  have kl1 : Keeps zz l1 := by
    unfold l1
    repeat' first
      | with_reducible assumption | with_reducible apply fire_keeps | with_reducible apply leaveSync_keeps
      | (simp only [mk_keeps]) | with_reducible apply foldl_keeps | split | intro _ _ _ | intro _ _
      | extract_lets | (dsimp +zetaDelta only)
  clear_value l1
  have kl2 : Keeps zz l2 := by
    unfold l2
    repeat' first
      | with_reducible assumption | with_reducible apply log_keeps | (simp only [mk_keeps])
      | with_reducible apply foldl_keeps | split | intro _ _ _ | intro _ _ | extract_lets
      | (dsimp +zetaDelta only)
  clear_value l2
  have kl3 : Keeps zz l3 := by
    unfold l3
    repeat' first
      | with_reducible assumption | with_reducible apply set_keeps | (simp only [mk_keeps])
      | with_reducible apply foldl_keeps | split | intro _ _ _ | intro _ _ | extract_lets
      | (dsimp +zetaDelta only)
  clear_value l3
  have kl5 : Keeps zz l5 := by
    unfold l5
    repeat' first
      | with_reducible assumption | with_reducible apply setWheel_keeps | (simp only [mk_keeps])
      | with_reducible apply foldl_keeps | split | intro _ _ _ | intro _ _ | extract_lets
      | (dsimp +zetaDelta only)
  clear_value l5
  repeat' first
    | with_reducible assumption | with_reducible apply setPer_keeps | (simp only [mk_keeps])
    | with_reducible apply foldl_keeps | split | intro _ _ _ | intro _ _ | extract_lets
    | (dsimp +zetaDelta only)

theorem setHeld_keeps {zz : State} {st : Nat} {b : Bool} {s : State}
    (hs : Keeps zz s) :
    Keeps zz (setHeld st b s) := by
  unfold setHeld
  repeat' first
    | with_reducible assumption | with_reducible apply set_keeps | (simp only [mk_keeps])
    | with_reducible apply foldl_keeps | split | intro _ _ _ | intro _ _ | extract_lets
    | (dsimp +zetaDelta only)

theorem recheckStream_keeps {zz : State} {st : Nat} {s : State}
    (hs : Keeps zz s) :
    Keeps zz (recheckStream st s) := by
  unfold recheckStream
  extract_lets l0 l1 l2 l3 l4
  have kl1 : Keeps zz l1 := by
    unfold l1
    repeat' first
      | with_reducible assumption | with_reducible apply setHeld_keeps | (simp only [mk_keeps])
      | with_reducible apply foldl_keeps | split | intro _ _ _ | intro _ _ | extract_lets
      | (dsimp +zetaDelta only)
  clear_value l1
  have kl4 : Keeps zz l4 := by
    unfold l4
    repeat' first
      | with_reducible assumption | with_reducible apply setHeld_keeps | (simp only [mk_keeps])
      | with_reducible apply foldl_keeps | split | intro _ _ _ | intro _ _ | extract_lets
      | (dsimp +zetaDelta only)
  clear_value l4
  repeat' first
    | with_reducible assumption | with_reducible apply log_keeps | (simp only [mk_keeps])
    | with_reducible apply foldl_keeps | split | intro _ _ _ | intro _ _ | extract_lets
    | (dsimp +zetaDelta only)

theorem settleStream_keeps {zz : State} {st : Nat} {s : State}
    (hs : Keeps zz s) :
    Keeps zz (settleStream st s) := by
  unfold settleStream
  extract_lets l0
  repeat' first
    | with_reducible assumption | with_reducible apply recheckStream_keeps | (simp only [mk_keeps])
    | with_reducible apply foldl_keeps | split | intro _ _ _ | intro _ _ | extract_lets
    | (dsimp +zetaDelta only)

theorem mapItem_keeps {zz : State} {id : Nat} {f : Item → Item} {s : State}
    (hs : Keeps zz s) :
    Keeps zz (mapItem id f s) := by
  unfold mapItem
  extract_lets l0 l1
  repeat' first
    | with_reducible assumption | (simp only [mk_keeps]) | with_reducible apply foldl_keeps | split
    | intro _ _ _ | intro _ _ | extract_lets | (dsimp +zetaDelta only)

theorem endItem_keeps {zz : State} {id : Nat} {flags : Nat} {body : List Nat} {s : State}
    (hs : Keeps zz s) :
    Keeps zz (endItem id flags body s) := by
  unfold endItem
  repeat' first
    | with_reducible assumption | with_reducible apply mapItem_keeps | (simp only [mk_keeps])
    | with_reducible apply foldl_keeps | split | intro _ _ _ | intro _ _ | extract_lets
    | (dsimp +zetaDelta only)

theorem closeAssembly_keeps {zz : State} {extra : Nat} {s : State}
    (hs : Keeps zz s) :
    Keeps zz (closeAssembly extra s) := by
  unfold closeAssembly
  extract_lets l0 l1
  have kl1 : Keeps zz l1 := by
    unfold l1
    repeat' first
      | with_reducible assumption | (simp only [mk_keeps]) | with_reducible apply foldl_keeps | split
      | intro _ _ _ | intro _ _ | extract_lets | (dsimp +zetaDelta only)
  clear_value l1
  repeat' first
    | with_reducible assumption | with_reducible apply endItem_keeps | (simp only [mk_keeps])
    | with_reducible apply foldl_keeps | split | intro _ _ _ | intro _ _ | extract_lets
    | (dsimp +zetaDelta only)

theorem lineCut_keeps {zz : State} {s : State}
    (hs : Keeps zz s) :
    Keeps zz (lineCut s) := by
  unfold lineCut
  extract_lets l0
  repeat' first
    | with_reducible assumption | with_reducible apply settleStream_keeps
    | with_reducible apply closeAssembly_keeps | (simp only [mk_keeps]) | with_reducible apply foldl_keeps
    | split | intro _ _ _ | intro _ _ | extract_lets | (dsimp +zetaDelta only)

theorem cutAssembly_keeps {zz : State} {s : State}
    (hs : Keeps zz s) :
    Keeps zz (cutAssembly s) := by
  unfold cutAssembly
  extract_lets l0 l1
  repeat' first
    | with_reducible assumption | with_reducible apply closeAssembly_keeps | (simp only [mk_keeps])
    | with_reducible apply foldl_keeps | split | intro _ _ _ | intro _ _ | extract_lets
    | (dsimp +zetaDelta only)

theorem countDropped_keeps {zz : State} {n : Nat} {s : State}
    (hs : Keeps zz s) :
    Keeps zz (countDropped n s) := by
  unfold countDropped
  repeat' first
    | with_reducible assumption | with_reducible apply count_keeps | (simp only [mk_keeps])
    | with_reducible apply foldl_keeps | split | intro _ _ _ | intro _ _ | extract_lets
    | (dsimp +zetaDelta only)

theorem dropHeld_keeps {zz : State} {i : Nat} {s : State}
    (hs : Keeps zz s) :
    Keeps zz (dropHeld i s) := by
  unfold dropHeld
  extract_lets l0
  repeat' first
    | with_reducible assumption | with_reducible apply set_keeps | with_reducible apply setCon_keeps
    | (simp only [mk_keeps]) | with_reducible apply foldl_keeps | split | intro _ _ _ | intro _ _
    | extract_lets | (dsimp +zetaDelta only)

theorem armDivider_keeps {zz : State} {m : Nat} {s : State}
    (hs : Keeps zz s) :
    Keeps zz (armDivider m s) := by
  unfold armDivider
  extract_lets l0 l1
  repeat' first
    | with_reducible assumption | with_reducible apply set_keeps | (simp only [mk_keeps])
    | with_reducible apply foldl_keeps | split | intro _ _ _ | intro _ _ | extract_lets
    | (dsimp +zetaDelta only)

theorem disarmEntry_keeps {zz : State} {e : Nat} {s : State}
    (hs : Keeps zz s) :
    Keeps zz (disarmEntry e s) := by
  unfold disarmEntry
  extract_lets l0
  repeat' first
    | with_reducible assumption | with_reducible apply setEntry_keeps | (simp only [mk_keeps])
    | with_reducible apply foldl_keeps | split | intro _ _ _ | intro _ _ | extract_lets
    | (dsimp +zetaDelta only)

theorem disarmMode_keeps {zz : State} {s : State}
    (hs : Keeps zz s) :
    Keeps zz (disarmMode s) := by
  unfold disarmMode
  repeat' first
    | with_reducible assumption | with_reducible apply armDivider_keeps
    | with_reducible apply disarmEntry_keeps | (simp only [mk_keeps]) | with_reducible apply foldl_keeps
    | split | intro _ _ _ | intro _ _ | extract_lets | (dsimp +zetaDelta only)

theorem modeDisarm_keeps {zz : State} {s : State}
    (hs : Keeps zz s) :
    Keeps zz (modeDisarm s) := by
  unfold modeDisarm
  repeat' first
    | with_reducible assumption | with_reducible apply countDropped_keeps
    | with_reducible apply dropHeld_keeps | with_reducible apply disarmMode_keeps | (simp only [mk_keeps])
    | with_reducible apply foldl_keeps | split | intro _ _ _ | intro _ _ | extract_lets
    | (dsimp +zetaDelta only)

theorem acceptMode_keeps {zz : State} {m : Nat} {s : State}
    (hs : Keeps zz s) :
    Keeps zz (acceptMode m s) := by
  unfold acceptMode
  extract_lets l0 l1 l2
  have kl0 : Keeps zz l0 := by
    unfold l0
    repeat' first
      | with_reducible assumption | with_reducible apply set_keeps | (simp only [mk_keeps])
      | with_reducible apply foldl_keeps | split | intro _ _ _ | intro _ _ | extract_lets
      | (dsimp +zetaDelta only)
  clear_value l0
  have kl1 : Keeps zz l1 := by
    unfold l1
    repeat' first
      | with_reducible assumption | with_reducible apply set_keeps | (simp only [mk_keeps])
      | with_reducible apply foldl_keeps | split | intro _ _ _ | intro _ _ | extract_lets
      | (dsimp +zetaDelta only)
  clear_value l1
  repeat' first
    | with_reducible assumption | with_reducible apply set_keeps | with_reducible apply cutAssembly_keeps
    | with_reducible apply modeDisarm_keeps | (simp only [mk_keeps]) | with_reducible apply foldl_keeps
    | split | intro _ _ _ | intro _ _ | extract_lets | (dsimp +zetaDelta only)

theorem requestMode_keeps {zz : State} {m : Nat} {source : Nat} {s : State}
    (hs : Keeps zz s) :
    Keeps zz (requestMode m source s) := by
  unfold requestMode
  repeat' first
    | with_reducible assumption | with_reducible apply log_keeps | with_reducible apply fire_keeps
    | with_reducible apply count_keeps | with_reducible apply set_keeps
    | with_reducible apply acceptMode_keeps | (simp only [mk_keeps]) | with_reducible apply foldl_keeps
    | split | intro _ _ _ | intro _ _ | extract_lets | (dsimp +zetaDelta only)

theorem presentNums_keeps {zz : State} {nums : List Nat} {flags : Nat} {s : State}
    (hs : Keeps zz s) :
    Keeps zz (presentNums nums flags s) := by
  unfold presentNums
  repeat' first
    | with_reducible assumption | with_reducible apply fireAt_keeps | (simp only [mk_keeps])
    | with_reducible apply foldl_keeps | split | intro _ _ _ | intro _ _ | extract_lets
    | (dsimp +zetaDelta only)

theorem lateEvent_keeps {zz : State} {e : RingEvent} {s : State}
    (hs : Keeps zz s) :
    Keeps zz (lateEvent e s) := by
  unfold lateEvent
  extract_lets l0 l1
  have kl1 : Keeps zz l1 := by
    unfold l1
    repeat' first
      | with_reducible assumption | with_reducible apply logSec_keeps | with_reducible apply fire_keeps
      | with_reducible apply count_keeps | (simp only [mk_keeps]) | with_reducible apply foldl_keeps | split
      | intro _ _ _ | intro _ _ | extract_lets | (dsimp +zetaDelta only)
  clear_value l1
  repeat' first
    | with_reducible assumption | with_reducible apply presentNums_keeps | with_reducible apply set_keeps
    | (simp only [mk_keeps]) | with_reducible apply foldl_keeps | split | intro _ _ _ | intro _ _
    | extract_lets | (dsimp +zetaDelta only)

theorem scheduleEvent_keeps {zz : State} {e : RingEvent} {s : State}
    (hs : Keeps zz s) :
    Keeps zz (scheduleEvent e s) := by
  unfold scheduleEvent
  extract_lets l0 l1
  have kl0 : Keeps zz l0 := by
    unfold l0
    repeat' first
      | with_reducible assumption | with_reducible apply endRun_keeps | (simp only [mk_keeps])
      | with_reducible apply foldl_keeps | split | intro _ _ _ | intro _ _ | extract_lets
      | (dsimp +zetaDelta only)
  clear_value l0
  repeat' first
    | with_reducible assumption | with_reducible apply logRun_keeps | with_reducible apply count_keeps
    | with_reducible apply lateEvent_keeps | (simp only [mk_keeps]) | with_reducible apply foldl_keeps | split
    | intro _ _ _ | intro _ _ | extract_lets | (dsimp +zetaDelta only)

theorem sendOn_keeps {zz : State} {p : Nat} {bs : List Nat} {s : State}
    (hs : Keeps zz s) :
    Keeps zz (sendOn p bs s) := by
  unfold sendOn
  repeat' first
    | with_reducible assumption | with_reducible apply emit_keeps | (simp only [mk_keeps])
    | with_reducible apply foldl_keeps | split | intro _ _ _ | intro _ _ | extract_lets
    | (dsimp +zetaDelta only)

theorem sendForward_keeps {zz : State} {bs : List Nat} {s : State}
    (hs : Keeps zz s) :
    Keeps zz (sendForward bs s) := by
  unfold sendForward
  repeat' first
    | with_reducible assumption | with_reducible apply sendOn_keeps | (simp only [mk_keeps])
    | with_reducible apply foldl_keeps | split | intro _ _ _ | intro _ _ | extract_lets
    | (dsimp +zetaDelta only)

theorem raiseEvent_keeps {zz : State} {k : Nat} {t : Nat} {s : State}
    (hs : Keeps zz s) :
    Keeps zz (raiseEvent k t s) := by
  unfold raiseEvent
  extract_lets l0 l1 l2 l3 l4 l5 l6
  have kl4 : Keeps zz l4 := by
    unfold l4
    repeat' first
      | with_reducible assumption | (simp only [mk_keeps]) | with_reducible apply foldl_keeps | split
      | intro _ _ _ | intro _ _ | extract_lets | (dsimp +zetaDelta only)
  clear_value l4
  have kl6 : Keeps zz l6 := by
    unfold l6
    repeat' first
      | with_reducible assumption | with_reducible apply count_keeps | with_reducible apply sendForward_keeps
      | (simp only [mk_keeps]) | with_reducible apply foldl_keeps | split | intro _ _ _ | intro _ _
      | extract_lets | (dsimp +zetaDelta only)
  clear_value l6
  repeat' first
    | with_reducible assumption | with_reducible apply scheduleEvent_keeps | with_reducible apply logRun_keeps
    | with_reducible apply count_keeps | with_reducible apply endRun_keeps | (simp only [mk_keeps])
    | with_reducible apply foldl_keeps | split | intro _ _ _ | intro _ _ | extract_lets
    | (dsimp +zetaDelta only)

theorem bwAdd_keeps {zz : State} {r : BwReq} {s : State}
    (hs : Keeps zz s) :
    Keeps zz (bwAdd r s) := by
  unfold bwAdd
  extract_lets l0
  repeat' first
    | with_reducible assumption | (simp only [mk_keeps]) | with_reducible apply foldl_keeps | split
    | intro _ _ _ | intro _ _ | extract_lets | (dsimp +zetaDelta only)

theorem bwSend_keeps {zz : State} {k : Nat} {s : State}
    (hs : Keeps zz s) :
    Keeps zz (bwSend k s) := by
  unfold bwSend
  repeat' first
    | with_reducible assumption | with_reducible apply bwAdd_keeps | (simp only [mk_keeps])
    | with_reducible apply foldl_keeps | split | intro _ _ _ | intro _ _ | extract_lets
    | (dsimp +zetaDelta only)

theorem onVen_keeps {zz : State} {f : State → State} {s : State}
    (hf : ∀ a0, Keeps zz a0 → Keeps zz (f a0)) (hs : Keeps zz s) :
    Keeps zz (onVen f s) := by
  unfold onVen
  repeat' first
    | with_reducible assumption | (simp only [mk_keeps]) | with_reducible apply foldl_keeps | split
    | with_reducible apply hf | intro _ _ _ | intro _ _ | extract_lets | (dsimp +zetaDelta only)

theorem createItem_keeps {zz : State} {it : Item} {s : State}
    (hs : Keeps zz s) :
    Keeps zz (createItem it s) := by
  unfold createItem
  extract_lets l0
  repeat' first
    | with_reducible assumption | (simp only [mk_keeps]) | with_reducible apply foldl_keeps | split
    | intro _ _ _ | intro _ _ | extract_lets | (dsimp +zetaDelta only)

theorem eventItem_keeps {zz : State} {source : Nat} {src : Nat} {st : Nat} {t : Nat} {word : Nat} {flags : Nat} {s : State}
    (hs : Keeps zz s) :
    Keeps zz (eventItem source src st t word flags s) := by
  unfold eventItem
  repeat' first
    | with_reducible assumption | with_reducible apply createItem_keeps | with_reducible apply wrapAdd_keeps
    | (simp only [mk_keeps]) | with_reducible apply foldl_keeps | split | intro _ _ _ | intro _ _
    | extract_lets | (dsimp +zetaDelta only)

theorem sendMessage_keeps {zz : State} {v : Nat} {s : State}
    (hs : Keeps zz s) :
    Keeps zz (sendMessage v s) := by
  unfold sendMessage
  extract_lets l0 l1 l2
  repeat' first
    | with_reducible assumption | with_reducible apply emit_keeps | (simp only [mk_keeps])
    | with_reducible apply foldl_keeps | split | intro _ _ _ | intro _ _ | extract_lets
    | (dsimp +zetaDelta only)

theorem requestMessage_keeps {zz : State} {src : Nat} {ix : Nat} {v : Nat} {s : State}
    (hs : Keeps zz s) :
    Keeps zz (requestMessage src ix v s) := by
  unfold requestMessage
  extract_lets l0
  repeat' first
    | with_reducible assumption | with_reducible apply sendMessage_keeps | (simp only [mk_keeps])
    | with_reducible apply foldl_keeps | split | intro _ _ _ | intro _ _ | extract_lets
    | (dsimp +zetaDelta only)

theorem notifyAccept_keeps {zz : State} {h : Nat} {s : State}
    (hs : Keeps zz s) :
    Keeps zz (notifyAccept h s) := by
  unfold notifyAccept
  extract_lets l0 l1 l2
  have kl1 : Keeps zz l1 := by
    unfold l1
    repeat' first
      | with_reducible assumption | with_reducible apply set_keeps | (simp only [mk_keeps])
      | with_reducible apply foldl_keeps | split | intro _ _ _ | intro _ _ | extract_lets
      | (dsimp +zetaDelta only)
  clear_value l1
  have kl2 : Keeps zz l2 := by
    unfold l2
    repeat' first
      | with_reducible assumption | with_reducible apply requestMessage_keeps | (simp only [mk_keeps])
      | with_reducible apply foldl_keeps | split | intro _ _ _ | intro _ _ | extract_lets
      | (dsimp +zetaDelta only)
  clear_value l2
  repeat' first
    | with_reducible assumption | with_reducible apply setBusy_keeps | (simp only [mk_keeps])
    | with_reducible apply foldl_keeps | split | intro _ _ _ | intro _ _ | extract_lets
    | (dsimp +zetaDelta only)

theorem acceptEvent_keeps {zz : State} {i : Nat} {lat : Latch} {t : Nat} {held : Bool} {s0 : State}
    (hs : Keeps zz s0) : Keeps zz (acceptEvent i lat t held s0) := by
  unfold acceptEvent
  extract_lets c s k src
  have h : Keeps zz s := setCon_keeps hs
  clear_value s k src
  refine ite_keeps (setBusy_keeps h) ?_
  refine ite_keeps (setBusy_keeps (setPort_keeps h)) ?_
  refine ite_keeps (trigAccept_keeps h) ?_
  refine ite_keeps (strobeAccept_keeps h) ?_
  refine ite_keeps (analogUpdate_keeps h) ?_
  refine ite_keeps (timCapture_keeps h) ?_
  refine ite_keeps (posLatch_keeps h) ?_
  refine ite_keeps (posArm_keeps h) ?_
  refine ite_keeps (setBusy_keeps h) ?_
  refine ite_keeps (loseWheel_keeps h) ?_
  refine ite_keeps (lineCut_keeps h) ?_
  refine ite_keeps (ite_keeps (requestMode_keeps h) h) ?_
  refine ite_keeps (setBusy_keeps (raiseEvent_keeps h)) ?_
  refine ite_keeps (bwSend_keeps (setBusy_keeps h)) ?_
  refine ite_keeps (onVen_keeps (fun t ht => set_keeps ht) h) ?_
  exact ite_keeps (eventItem_keeps (setBusy_keeps h)) (notifyAccept_keeps h)

theorem ackDelay_keeps {zz : State} {g : Nat} {s : State}
    (hs : Keeps zz s) :
    Keeps zz (ackDelay g s) := by
  unfold ackDelay
  extract_lets l0
  repeat' first
    | with_reducible assumption | with_reducible apply setGroup_keeps | (simp only [mk_keeps])
    | with_reducible apply foldl_keeps | split | intro _ _ _ | intro _ _ | extract_lets
    | (dsimp +zetaDelta only)

theorem acknowledge_keeps {zz : State} {g : Nat} {n : Nat} {s : State}
    (hs : Keeps zz s) :
    Keeps zz (acknowledge g n s).2 := by
  unfold acknowledge
  extract_lets l0 l1 l2 l3 l4 l5
  have kl5 : Keeps zz l5 := by
    unfold l5
    repeat' first
      | with_reducible assumption | with_reducible apply setGroup_keeps | (simp only [mk_keeps])
      | with_reducible apply foldl_keeps | split | intro _ _ _ | intro _ _ | extract_lets
      | (dsimp +zetaDelta only)
  clear_value l5
  repeat' first
    | with_reducible assumption | with_reducible apply set_keeps | with_reducible apply logSec_keeps
    | with_reducible apply count_keeps | (simp only [mk_keeps]) | with_reducible apply foldl_keeps | split
    | intro _ _ _ | intro _ _ | extract_lets | (dsimp +zetaDelta only)

theorem acknowledge_keeps' {zz t : State} {g : Nat} {n : Nat} {s : State} {q}
    (hs : Keeps zz s) (e : (acknowledge g n s) = (q, t)) :
    Keeps zz t := by
  have := acknowledge_keeps (g := g) (n := n) (s := s) hs
  rw [e] at this
  exact this

theorem addLost_keeps {zz : State} {x : Nat} {n : Nat} {s : State}
    (hs : Keeps zz s) :
    Keeps zz (addLost x n s) := by
  unfold addLost
  extract_lets l0
  repeat' first
    | with_reducible assumption | with_reducible apply setPic_keeps | with_reducible apply setVctx_keeps
    | (simp only [mk_keeps]) | with_reducible apply foldl_keeps | split | intro _ _ _ | intro _ _
    | extract_lets | (dsimp +zetaDelta only)

theorem countXdrop_keeps {zz : State} {a : Nat} {u : Nat} {s : State}
    (hs : Keeps zz s) :
    Keeps zz (countXdrop a u s) := by
  unfold countXdrop
  extract_lets l0
  have kl0 : Keeps zz l0 := by
    unfold l0
    repeat' first
      | with_reducible assumption | with_reducible apply set_keeps | with_reducible apply count_keeps
      | (simp only [mk_keeps]) | with_reducible apply foldl_keeps | split | intro _ _ _ | intro _ _
      | extract_lets | (dsimp +zetaDelta only)
  clear_value l0
  repeat' first
    | with_reducible assumption | with_reducible apply log_keeps | (simp only [mk_keeps])
    | with_reducible apply foldl_keeps | split | intro _ _ _ | intro _ _ | extract_lets
    | (dsimp +zetaDelta only)

theorem expertDrop_keeps {zz : State} {a : Nat} {v : Nat} {s : State}
    (hs : Keeps zz s) :
    Keeps zz (expertDrop a v s) := by
  unfold expertDrop
  repeat' first
    | with_reducible assumption | with_reducible apply countXdrop_keeps | (simp only [mk_keeps])
    | with_reducible apply foldl_keeps | split | intro _ _ _ | intro _ _ | extract_lets
    | (dsimp +zetaDelta only)

theorem writeAdj_keeps {zz : State} {v : Int} {s : State}
    (hs : Keeps zz s) :
    Keeps zz (writeAdj v s) := by
  unfold writeAdj
  extract_lets l0 l1 l2
  have kl0 : Keeps zz l0 := by
    unfold l0
    repeat' first
      | with_reducible assumption | with_reducible apply set_keeps | (simp only [mk_keeps])
      | with_reducible apply foldl_keeps | split | intro _ _ _ | intro _ _ | extract_lets
      | (dsimp +zetaDelta only)
  clear_value l0
  have kl1 : Keeps zz l1 := by
    unfold l1
    repeat' first
      | with_reducible assumption | with_reducible apply log_keeps | (simp only [mk_keeps])
      | with_reducible apply foldl_keeps | split | intro _ _ _ | intro _ _ | extract_lets
      | (dsimp +zetaDelta only)
  clear_value l1
  repeat' first
    | with_reducible assumption | (simp only [mk_keeps]) | with_reducible apply foldl_keeps | split
    | intro _ _ _ | intro _ _ | extract_lets | (dsimp +zetaDelta only)

theorem stopServo_keeps {zz : State} {s : State}
    (hs : Keeps zz s) :
    Keeps zz (stopServo s) := by
  unfold stopServo
  repeat' first
    | with_reducible assumption | with_reducible apply set_keeps | (simp only [mk_keeps])
    | with_reducible apply foldl_keeps | split | intro _ _ _ | intro _ _ | extract_lets
    | (dsimp +zetaDelta only)

theorem adjWrite_keeps {zz : State} {v : Nat} {s : State}
    (hs : Keeps zz s) :
    Keeps zz (adjWrite v s) := by
  unfold adjWrite
  repeat' first
    | with_reducible assumption | with_reducible apply expertDrop_keeps | with_reducible apply writeAdj_keeps
    | with_reducible apply stopServo_keeps | (simp only [mk_keeps]) | with_reducible apply foldl_keeps | split
    | intro _ _ _ | intro _ _ | extract_lets | (dsimp +zetaDelta only)

theorem beginSweep_keeps {zz : State} {n : Nat} {s : State}
    (hs : Keeps zz s) :
    Keeps zz (beginSweep n s) := by
  unfold beginSweep
  extract_lets l0 l1
  have kl1 : Keeps zz l1 := by
    unfold l1
    repeat' first
      | with_reducible assumption | with_reducible apply setLane_keeps | (simp only [mk_keeps])
      | with_reducible apply foldl_keeps | split | intro _ _ _ | intro _ _ | extract_lets
      | (dsimp +zetaDelta only)
  clear_value l1
  repeat' first
    | with_reducible assumption | with_reducible apply set_keeps | (simp only [mk_keeps])
    | with_reducible apply foldl_keeps | split | intro _ _ _ | intro _ _ | extract_lets
    | (dsimp +zetaDelta only)

theorem applyPreset_keeps {zz : State} {n : Nat} {p : Nat} {s : State}
    (hs : Keeps zz s) :
    Keeps zz (applyPreset n p s) := by
  unfold applyPreset
  extract_lets l0 l1 l2
  have kl1 : Keeps zz l1 := by
    unfold l1
    repeat' first
      | with_reducible assumption | with_reducible apply setLane_keeps | (simp only [mk_keeps])
      | with_reducible apply foldl_keeps | split | intro _ _ _ | intro _ _ | extract_lets
      | (dsimp +zetaDelta only)
  clear_value l1
  repeat' first
    | with_reducible assumption | with_reducible apply set_keeps | (simp only [mk_keeps])
    | with_reducible apply foldl_keeps | split | intro _ _ _ | intro _ _ | extract_lets
    | (dsimp +zetaDelta only)

theorem deriveEq_keeps {zz : State} {n : Nat} {r : Nat} {s : State}
    (hs : Keeps zz s) :
    Keeps zz (deriveEq n r s) := by
  unfold deriveEq
  repeat' first
    | with_reducible assumption | with_reducible apply set_keeps | (simp only [mk_keeps])
    | with_reducible apply foldl_keeps | split | intro _ _ _ | intro _ _ | extract_lets
    | (dsimp +zetaDelta only)

theorem enterLane_keeps {zz : State} {n : Nat} {st : Nat} {s : State}
    (hs : Keeps zz s) :
    Keeps zz (enterLane n st s) := by
  unfold enterLane
  extract_lets l0 l1 l2 l3 l4 l5 l6 l7 l8 l9
  have kl1 : Keeps zz l1 := by
    unfold l1
    repeat' first
      | with_reducible assumption | with_reducible apply fire_keeps | (simp only [mk_keeps])
      | with_reducible apply foldl_keeps | split | intro _ _ _ | intro _ _ | extract_lets
      | (dsimp +zetaDelta only)
  clear_value l1
  have kl6 : Keeps zz l6 := by
    unfold l6
    repeat' first
      | with_reducible assumption | with_reducible apply setLane_keeps | (simp only [mk_keeps])
      | with_reducible apply foldl_keeps | split | intro _ _ _ | intro _ _ | extract_lets
      | (dsimp +zetaDelta only)
  clear_value l6
  have kl7 : Keeps zz l7 := by
    unfold l7
    repeat' first
      | with_reducible assumption | with_reducible apply set_keeps | with_reducible apply beginSweep_keeps
      | (simp only [mk_keeps]) | with_reducible apply foldl_keeps | split | intro _ _ _ | intro _ _
      | extract_lets | (dsimp +zetaDelta only)
  clear_value l7
  have kl8 : Keeps zz l8 := by
    unfold l8
    repeat' first
      | with_reducible assumption | with_reducible apply fire_keeps | with_reducible apply set_keeps
      | (simp only [mk_keeps]) | with_reducible apply foldl_keeps | split | intro _ _ _ | intro _ _
      | extract_lets | (dsimp +zetaDelta only)
  clear_value l8
  repeat' first
    | with_reducible assumption | with_reducible apply setLane_keeps | with_reducible apply set_keeps
    | with_reducible apply applyPreset_keeps | with_reducible apply log_keeps
    | with_reducible apply deriveEq_keeps | (simp only [mk_keeps]) | with_reducible apply foldl_keeps | split
    | intro _ _ _ | intro _ _ | extract_lets | (dsimp +zetaDelta only)

theorem admitLanes_keeps {zz : State} {g : Nat} {s : State}
    (hs : Keeps zz s) :
    Keeps zz (admitLanes g s) := by
  unfold admitLanes
  repeat' first
    | with_reducible assumption | with_reducible apply enterLane_keeps | (simp only [mk_keeps])
    | with_reducible apply foldl_keeps | split | intro _ _ _ | intro _ _ | extract_lets
    | (dsimp +zetaDelta only)

theorem advanceCi_keeps {zz : State} {q : Nat} {s : State}
    (hs : Keeps zz s) :
    Keeps zz (advanceCi q s) := by
  unfold advanceCi
  repeat' first
    | with_reducible assumption | with_reducible apply set_keeps | (simp only [mk_keeps])
    | with_reducible apply foldl_keeps | split | intro _ _ _ | intro _ _ | extract_lets
    | (dsimp +zetaDelta only)

theorem analogOpen_keeps {zz : State} {a : Nat} {st : Nat} {s : State}
    (hs : Keeps zz s) :
    Keeps zz (analogOpen a st s) := by
  unfold analogOpen
  extract_lets l0 l1
  have kl0 : Keeps zz l0 := by
    unfold l0
    repeat' first
      | with_reducible assumption | with_reducible apply set_keeps | (simp only [mk_keeps])
      | with_reducible apply foldl_keeps | split | intro _ _ _ | intro _ _ | extract_lets
      | (dsimp +zetaDelta only)
  clear_value l0
  repeat' first
    | with_reducible assumption | with_reducible apply setAnalog_keeps | (simp only [mk_keeps])
    | with_reducible apply foldl_keeps | split | intro _ _ _ | intro _ _ | extract_lets
    | (dsimp +zetaDelta only)

theorem analogConnect_keeps {zz : State} {a : Nat} {s : State}
    (hs : Keeps zz s) :
    Keeps zz (analogConnect a s) := by
  unfold analogConnect
  repeat' first
    | with_reducible assumption | with_reducible apply set_keeps | (simp only [mk_keeps])
    | with_reducible apply foldl_keeps | split | intro _ _ _ | intro _ _ | extract_lets
    | (dsimp +zetaDelta only)

theorem analogSettle_keeps {zz : State} {a : Nat} {s : State}
    (hs : Keeps zz s) :
    Keeps zz (analogSettle a s) := by
  unfold analogSettle
  repeat' first
    | with_reducible assumption | with_reducible apply analogOpen_keeps
    | with_reducible apply analogConnect_keeps | (simp only [mk_keeps]) | with_reducible apply foldl_keeps
    | split | intro _ _ _ | intro _ _ | extract_lets | (dsimp +zetaDelta only)

theorem analogAll_keeps {zz : State} {s : State}
    (hs : Keeps zz s) :
    Keeps zz (analogAll s) := by
  unfold analogAll
  repeat' first
    | with_reducible assumption | with_reducible apply analogSettle_keeps | (simp only [mk_keeps])
    | with_reducible apply foldl_keeps | split | intro _ _ _ | intro _ _ | extract_lets
    | (dsimp +zetaDelta only)

theorem aenaWrite_keeps {zz : State} {v : Nat} {s : State}
    (hs : Keeps zz s) :
    Keeps zz (aenaWrite v s) := by
  unfold aenaWrite
  repeat' first
    | with_reducible assumption | with_reducible apply analogAll_keeps | with_reducible apply set_keeps
    | (simp only [mk_keeps]) | with_reducible apply foldl_keeps | split | intro _ _ _ | intro _ _
    | extract_lets | (dsimp +zetaDelta only)

theorem aerSet_keeps {zz : State} {k : Nat} {s : State}
    (hs : Keeps zz s) :
    Keeps zz (aerSet k s) := by
  unfold aerSet
  extract_lets l0
  repeat' first
    | with_reducible assumption | (simp only [mk_keeps]) | with_reducible apply foldl_keeps | split
    | intro _ _ _ | intro _ _ | extract_lets | (dsimp +zetaDelta only)

theorem aerAbort_keeps {zz : State} {s : State}
    (hs : Keeps zz s) :
    Keeps zz (aerAbort s) := by
  unfold aerAbort
  extract_lets l0 l1
  have kl0 : Keeps zz l0 := by
    unfold l0
    repeat' first
      | with_reducible assumption | with_reducible apply aerSet_keeps | (simp only [mk_keeps])
      | with_reducible apply foldl_keeps | split | intro _ _ _ | intro _ _ | extract_lets
      | (dsimp +zetaDelta only)
  clear_value l0
  repeat' first
    | with_reducible assumption | (simp only [mk_keeps]) | with_reducible apply foldl_keeps | split
    | intro _ _ _ | intro _ _ | extract_lets | (dsimp +zetaDelta only)

theorem deriveFtim_keeps {zz : State} {s : State}
    (hs : Keeps zz s) :
    Keeps zz (deriveFtim s) := by
  unfold deriveFtim
  extract_lets l0
  repeat' first
    | with_reducible assumption | with_reducible apply set_keeps | with_reducible apply free_keeps
    | with_reducible refine free_keeps' ?_ (by with_reducible assumption) | (simp only [mk_keeps])
    | with_reducible apply foldl_keeps | split | intro _ _ _ | intro _ _ | extract_lets
    | (dsimp +zetaDelta only)

theorem deriveClk_keeps {zz : State} {s : State}
    (hs : Keeps zz s) :
    Keeps zz (deriveClk s) := by
  unfold deriveClk
  repeat' first
    | with_reducible assumption | with_reducible apply set_keeps | (simp only [mk_keeps])
    | with_reducible apply foldl_keeps | split | intro _ _ _ | intro _ _ | extract_lets
    | (dsimp +zetaDelta only)

theorem deriveGain_keeps {zz : State} {s : State}
    (hs : Keeps zz s) :
    Keeps zz (deriveGain s) := by
  unfold deriveGain
  extract_lets l0 l1
  repeat' first
    | with_reducible assumption | with_reducible apply set_keeps | (simp only [mk_keeps])
    | with_reducible apply foldl_keeps | split | intro _ _ _ | intro _ _ | extract_lets
    | (dsimp +zetaDelta only)

theorem deriveLat_keeps {zz : State} {p : Nat} {s : State}
    (hs : Keeps zz s) :
    Keeps zz (deriveLat p s) := by
  unfold deriveLat
  extract_lets l0
  repeat' first
    | with_reducible assumption | with_reducible apply set_keeps | (simp only [mk_keeps])
    | with_reducible apply foldl_keeps | split | intro _ _ _ | intro _ _ | extract_lets
    | (dsimp +zetaDelta only)

theorem deriveTim_keeps {zz : State} {s : State}
    (hs : Keeps zz s) :
    Keeps zz (deriveTim s) := by
  unfold deriveTim
  extract_lets l0 l1 l2 l3 l4 l5
  have kl0 : Keeps zz l0 := by
    unfold l0
    repeat' first
      | with_reducible assumption | with_reducible apply set_keeps | (simp only [mk_keeps])
      | with_reducible apply foldl_keeps | split | intro _ _ _ | intro _ _ | extract_lets
      | (dsimp +zetaDelta only)
  clear_value l0
  have kl2 : Keeps zz l2 := by
    unfold l2
    repeat' first
      | with_reducible assumption | with_reducible apply set_keeps | with_reducible apply deriveGain_keeps
      | (simp only [mk_keeps]) | with_reducible apply foldl_keeps | split | intro _ _ _ | intro _ _
      | extract_lets | (dsimp +zetaDelta only)
  clear_value l2
  have kl3 : Keeps zz l3 := by
    unfold l3
    repeat' first
      | with_reducible assumption | with_reducible apply set_keeps | (simp only [mk_keeps])
      | with_reducible apply foldl_keeps | split | intro _ _ _ | intro _ _ | extract_lets
      | (dsimp +zetaDelta only)
  clear_value l3
  have kl4 : Keeps zz l4 := by
    unfold l4
    repeat' first
      | with_reducible assumption | with_reducible apply set_keeps | (simp only [mk_keeps])
      | with_reducible apply foldl_keeps | split | intro _ _ _ | intro _ _ | extract_lets
      | (dsimp +zetaDelta only)
  clear_value l4
  have kl5 : Keeps zz l5 := by
    unfold l5
    repeat' first
      | with_reducible assumption | with_reducible apply deriveLat_keeps | (simp only [mk_keeps])
      | with_reducible apply foldl_keeps | split | intro _ _ _ | intro _ _ | extract_lets
      | (dsimp +zetaDelta only)
  clear_value l5
  repeat' first
    | with_reducible assumption | with_reducible apply deriveLat_keeps | (simp only [mk_keeps])
    | with_reducible apply foldl_keeps | split | intro _ _ _ | intro _ _ | extract_lets
    | (dsimp +zetaDelta only)

theorem deriveMargin_keeps {zz : State} {n : Nat} {s : State}
    (hs : Keeps zz s) :
    Keeps zz (deriveMargin n s) := by
  unfold deriveMargin
  extract_lets l0 l1 l2 l3 l4 l5
  have kl5 : Keeps zz l5 := by
    unfold l5
    repeat' first
      | with_reducible assumption | with_reducible apply set_keeps | (simp only [mk_keeps])
      | with_reducible apply foldl_keeps | split | intro _ _ _ | intro _ _ | extract_lets
      | (dsimp +zetaDelta only)
  clear_value l5
  repeat' first
    | with_reducible assumption | with_reducible apply set_keeps | (simp only [mk_keeps])
    | with_reducible apply foldl_keeps | split | intro _ _ _ | intro _ _ | extract_lets
    | (dsimp +zetaDelta only)

theorem deriveLnp_keeps {zz : State} {n : Nat} {s : State}
    (hs : Keeps zz s) :
    Keeps zz (deriveLnp n s) := by
  unfold deriveLnp
  extract_lets l0 l1 l2 l3
  have kl0 : Keeps zz l0 := by
    unfold l0
    repeat' first
      | with_reducible assumption | with_reducible apply applyPreset_keeps | with_reducible apply set_keeps
      | (simp only [mk_keeps]) | with_reducible apply foldl_keeps | split | intro _ _ _ | intro _ _
      | extract_lets | (dsimp +zetaDelta only)
  clear_value l0
  have kl2 : Keeps zz l2 := by
    unfold l2
    repeat' first
      | with_reducible assumption | with_reducible apply set_keeps | (simp only [mk_keeps])
      | with_reducible apply foldl_keeps | split | intro _ _ _ | intro _ _ | extract_lets
      | (dsimp +zetaDelta only)
  clear_value l2
  have kl3 : Keeps zz l3 := by
    unfold l3
    repeat' first
      | with_reducible assumption | with_reducible apply deriveEq_keeps | (simp only [mk_keeps])
      | with_reducible apply foldl_keeps | split | intro _ _ _ | intro _ _ | extract_lets
      | (dsimp +zetaDelta only)
  clear_value l3
  repeat' first
    | with_reducible assumption | with_reducible apply set_keeps | with_reducible apply deriveMargin_keeps
    | (simp only [mk_keeps]) | with_reducible apply foldl_keeps | split | intro _ _ _ | intro _ _
    | extract_lets | (dsimp +zetaDelta only)

theorem deriveGroup_keeps {zz : State} {g : Nat} {s : State}
    (hs : Keeps zz s) :
    Keeps zz (deriveGroup g s) := by
  unfold deriveGroup
  extract_lets l0 l1 l2 l3
  have kl2 : Keeps zz l2 := by
    unfold l2
    repeat' first
      | with_reducible assumption | with_reducible apply set_keeps | (simp only [mk_keeps])
      | with_reducible apply foldl_keeps | split | intro _ _ _ | intro _ _ | extract_lets
      | (dsimp +zetaDelta only)
  clear_value l2
  have kl3 : Keeps zz l3 := by
    unfold l3
    repeat' first
      | with_reducible assumption | with_reducible apply set_keeps | (simp only [mk_keeps])
      | with_reducible apply foldl_keeps | split | intro _ _ _ | intro _ _ | extract_lets
      | (dsimp +zetaDelta only)
  clear_value l3
  repeat' first
    | with_reducible assumption | with_reducible apply set_keeps | (simp only [mk_keeps])
    | with_reducible apply foldl_keeps | split | intro _ _ _ | intro _ _ | extract_lets
    | (dsimp +zetaDelta only)

theorem derivePort_keeps {zz : State} {n : Nat} {ns : Nat} {s : State}
    (hs : Keeps zz s) :
    Keeps zz (derivePort n ns s) := by
  unfold derivePort
  extract_lets l0 l1
  have kl0 : Keeps zz l0 := by
    unfold l0
    repeat' first
      | with_reducible assumption | with_reducible apply set_keeps | (simp only [mk_keeps])
      | with_reducible apply foldl_keeps | split | intro _ _ _ | intro _ _ | extract_lets
      | (dsimp +zetaDelta only)
  clear_value l0
  have kl1 : Keeps zz l1 := by
    unfold l1
    repeat' first
      | with_reducible assumption | with_reducible apply set_keeps | (simp only [mk_keeps])
      | with_reducible apply foldl_keeps | split | intro _ _ _ | intro _ _ | extract_lets
      | (dsimp +zetaDelta only)
  clear_value l1
  repeat' first
    | with_reducible assumption | with_reducible apply set_keeps | (simp only [mk_keeps])
    | with_reducible apply foldl_keeps | split | intro _ _ _ | intro _ _ | extract_lets
    | (dsimp +zetaDelta only)

theorem setMatrix_keeps {zz : State} {f : Fld} {p : Nat} {e : Nat → Int} {s : State}
    (hs : Keeps zz s) :
    Keeps zz (setMatrix f p e s) := by
  unfold setMatrix
  repeat' first
    | with_reducible assumption | with_reducible apply set_keeps | (simp only [mk_keeps])
    | with_reducible apply foldl_keeps | split | intro _ _ _ | intro _ _ | extract_lets
    | (dsimp +zetaDelta only)

theorem deriveTables_keeps {zz : State} {p : Nat} {s : State}
    (hs : Keeps zz s) :
    Keeps zz (deriveTables p s) := by
  unfold deriveTables
  extract_lets l0 l1
  have kl1 : Keeps zz l1 := by
    unfold l1
    repeat' first
      | with_reducible assumption | with_reducible apply set_keeps | (simp only [mk_keeps])
      | with_reducible apply foldl_keeps | split | intro _ _ _ | intro _ _ | extract_lets
      | (dsimp +zetaDelta only)
  clear_value l1
  repeat' first
    | with_reducible assumption | with_reducible apply set_keeps | (simp only [mk_keeps])
    | with_reducible apply foldl_keeps | split | intro _ _ _ | intro _ _ | extract_lets
    | (dsimp +zetaDelta only)

theorem deriveScale_keeps {zz : State} {p : Nat} {w : Nat} {h : Nat} {s : State}
    (hs : Keeps zz s) :
    Keeps zz (deriveScale p w h s) := by
  unfold deriveScale
  repeat' first
    | with_reducible assumption | with_reducible apply set_keeps | (simp only [mk_keeps])
    | with_reducible apply foldl_keeps | split | intro _ _ _ | intro _ _ | extract_lets
    | (dsimp +zetaDelta only)

theorem derivePipe_keeps {zz : State} {p : Nat} {s : State}
    (hs : Keeps zz s) :
    Keeps zz (derivePipe p s) := by
  unfold derivePipe
  extract_lets l0 l1 l2 l3 l4 l5 l6 l7 l8
  have kl2 : Keeps zz l2 := by
    unfold l2
    repeat' first
      | with_reducible assumption | with_reducible apply set_keeps | (simp only [mk_keeps])
      | with_reducible apply foldl_keeps | split | intro _ _ _ | intro _ _ | extract_lets
      | (dsimp +zetaDelta only)
  clear_value l2
  have kl3 : Keeps zz l3 := by
    unfold l3
    repeat' first
      | with_reducible assumption | with_reducible apply set_keeps | (simp only [mk_keeps])
      | with_reducible apply foldl_keeps | split | intro _ _ _ | intro _ _ | extract_lets
      | (dsimp +zetaDelta only)
  clear_value l3
  have kl4 : Keeps zz l4 := by
    unfold l4
    repeat' first
      | with_reducible assumption | with_reducible apply set_keeps | (simp only [mk_keeps])
      | with_reducible apply foldl_keeps | split | intro _ _ _ | intro _ _ | extract_lets
      | (dsimp +zetaDelta only)
  clear_value l4
  have kl5 : Keeps zz l5 := by
    unfold l5
    repeat' first
      | with_reducible assumption | with_reducible apply set_keeps | (simp only [mk_keeps])
      | with_reducible apply foldl_keeps | split | intro _ _ _ | intro _ _ | extract_lets
      | (dsimp +zetaDelta only)
  clear_value l5
  have kl6 : Keeps zz l6 := by
    unfold l6
    repeat' first
      | with_reducible assumption | with_reducible apply setMatrix_keeps | (simp only [mk_keeps])
      | with_reducible apply foldl_keeps | split | intro _ _ _ | intro _ _ | extract_lets
      | (dsimp +zetaDelta only)
  clear_value l6
  have kl7 : Keeps zz l7 := by
    unfold l7
    repeat' first
      | with_reducible assumption | with_reducible apply setMatrix_keeps | (simp only [mk_keeps])
      | with_reducible apply foldl_keeps | split | intro _ _ _ | intro _ _ | extract_lets
      | (dsimp +zetaDelta only)
  clear_value l7
  have kl8 : Keeps zz l8 := by
    unfold l8
    repeat' first
      | with_reducible assumption | with_reducible apply set_keeps | (simp only [mk_keeps])
      | with_reducible apply foldl_keeps | split | intro _ _ _ | intro _ _ | extract_lets
      | (dsimp +zetaDelta only)
  clear_value l8
  repeat' first
    | with_reducible assumption | with_reducible apply deriveTables_keeps
    | with_reducible apply deriveScale_keeps | (simp only [mk_keeps]) | with_reducible apply foldl_keeps
    | split | intro _ _ _ | intro _ _ | extract_lets | (dsimp +zetaDelta only)

theorem deriveChan_keeps {zz : State} {n : Nat} {s : State}
    (hs : Keeps zz s) :
    Keeps zz (deriveChan n s) := by
  unfold deriveChan
  extract_lets l0 l1 l2 l3 l4 l5 l6 l7
  have kl1 : Keeps zz l1 := by
    unfold l1
    repeat' first
      | with_reducible assumption | with_reducible apply set_keeps | (simp only [mk_keeps])
      | with_reducible apply foldl_keeps | split | intro _ _ _ | intro _ _ | extract_lets
      | (dsimp +zetaDelta only)
  clear_value l1
  have kl3 : Keeps zz l3 := by
    unfold l3
    repeat' first
      | with_reducible assumption | with_reducible apply set_keeps | (simp only [mk_keeps])
      | with_reducible apply foldl_keeps | split | intro _ _ _ | intro _ _ | extract_lets
      | (dsimp +zetaDelta only)
  clear_value l3
  have kl7 : Keeps zz l7 := by
    unfold l7
    repeat' first
      | with_reducible assumption | with_reducible apply set_keeps | (simp only [mk_keeps])
      | with_reducible apply foldl_keeps | split | intro _ _ _ | intro _ _ | extract_lets
      | (dsimp +zetaDelta only)
  clear_value l7
  repeat' first
    | with_reducible assumption | with_reducible apply set_keeps | (simp only [mk_keeps])
    | with_reducible apply foldl_keeps | split | intro _ _ _ | intro _ _ | extract_lets
    | (dsimp +zetaDelta only)

theorem derivePos_keeps {zz : State} {s : State}
    (hs : Keeps zz s) :
    Keeps zz (derivePos s) := by
  unfold derivePos
  repeat' first
    | with_reducible assumption | with_reducible apply deriveChan_keeps | (simp only [mk_keeps])
    | with_reducible apply foldl_keeps | split | intro _ _ _ | intro _ _ | extract_lets
    | (dsimp +zetaDelta only)

theorem deriveWheel_keeps {zz : State} {w : Nat} {s : State}
    (hs : Keeps zz s) :
    Keeps zz (deriveWheel w s) := by
  unfold deriveWheel
  extract_lets l0 l1
  have kl1 : Keeps zz l1 := by
    unfold l1
    repeat' first
      | with_reducible assumption | with_reducible apply set_keeps | (simp only [mk_keeps])
      | with_reducible apply foldl_keeps | split | intro _ _ _ | intro _ _ | extract_lets
      | (dsimp +zetaDelta only)
  clear_value l1
  repeat' first
    | with_reducible assumption | with_reducible apply set_keeps | (simp only [mk_keeps])
    | with_reducible apply foldl_keeps | split | intro _ _ _ | intro _ _ | extract_lets
    | (dsimp +zetaDelta only)

theorem deriveTws_keeps {zz : State} {s : State}
    (hs : Keeps zz s) :
    Keeps zz (deriveTws s) := by
  unfold deriveTws
  repeat' first
    | with_reducible assumption | with_reducible apply deriveWheel_keeps | (simp only [mk_keeps])
    | with_reducible apply foldl_keeps | split | intro _ _ _ | intro _ _ | extract_lets
    | (dsimp +zetaDelta only)

theorem deriveCell_keeps {zz : State} {c : Nat} {s : State}
    (hs : Keeps zz s) :
    Keeps zz (deriveCell c s) := by
  unfold deriveCell
  extract_lets l0 l1
  repeat' first
    | with_reducible assumption | with_reducible apply set_keeps | (simp only [mk_keeps])
    | with_reducible apply foldl_keeps | split | intro _ _ _ | intro _ _ | extract_lets
    | (dsimp +zetaDelta only)

theorem deriveBtm_keeps {zz : State} {s : State}
    (hs : Keeps zz s) :
    Keeps zz (deriveBtm s) := by
  unfold deriveBtm
  repeat' first
    | with_reducible assumption | with_reducible apply deriveCell_keeps | (simp only [mk_keeps])
    | with_reducible apply foldl_keeps | split | intro _ _ _ | intro _ _ | extract_lets
    | (dsimp +zetaDelta only)

theorem seeGuards_keeps {zz : State} {s : State}
    (hs : Keeps zz s) :
    Keeps zz (seeGuards s) := by
  unfold seeGuards
  repeat' first
    | with_reducible assumption | with_reducible apply seeGuard_keeps | (simp only [mk_keeps])
    | with_reducible apply foldl_keeps | split | intro _ _ _ | intro _ _ | extract_lets
    | (dsimp +zetaDelta only)

theorem deriveStrobe_keeps {zz : State} {k : Nat} {s : State}
    (hs : Keeps zz s) :
    Keeps zz (deriveStrobe k s) := by
  unfold deriveStrobe
  extract_lets l0 l1
  repeat' first
    | with_reducible assumption | with_reducible apply set_keeps | (simp only [mk_keeps])
    | with_reducible apply foldl_keeps | split | intro _ _ _ | intro _ _ | extract_lets
    | (dsimp +zetaDelta only)

theorem deriveCal_keeps {zz : State} {a : Nat} {s : State}
    (hs : Keeps zz s) :
    Keeps zz (deriveCal a s) := by
  unfold deriveCal
  repeat' first
    | with_reducible assumption | with_reducible apply set_keeps | (simp only [mk_keeps])
    | with_reducible apply foldl_keeps | split | intro _ _ _ | intro _ _ | extract_lets
    | (dsimp +zetaDelta only)

theorem deriveOut_keeps {zz : State} {s : State}
    (hs : Keeps zz s) :
    Keeps zz (deriveOut s) := by
  unfold deriveOut
  extract_lets l0 l1
  have kl0 : Keeps zz l0 := by
    unfold l0
    repeat' first
      | with_reducible assumption | with_reducible apply set_keeps | with_reducible apply seeGuards_keeps
      | (simp only [mk_keeps]) | with_reducible apply foldl_keeps | split | intro _ _ _ | intro _ _
      | extract_lets | (dsimp +zetaDelta only)
  clear_value l0
  have kl1 : Keeps zz l1 := by
    unfold l1
    repeat' first
      | with_reducible assumption | with_reducible apply deriveStrobe_keeps | (simp only [mk_keeps])
      | with_reducible apply foldl_keeps | split | intro _ _ _ | intro _ _ | extract_lets
      | (dsimp +zetaDelta only)
  clear_value l1
  repeat' first
    | with_reducible assumption | with_reducible apply deriveCal_keeps | (simp only [mk_keeps])
    | with_reducible apply foldl_keeps | split | intro _ _ _ | intro _ _ | extract_lets
    | (dsimp +zetaDelta only)

theorem deriveQue_keeps {zz : State} {s : State}
    (hs : Keeps zz s) :
    Keeps zz (deriveQue s) := by
  unfold deriveQue
  extract_lets l0 l1
  have kl1 : Keeps zz l1 := by
    unfold l1
    repeat' first
      | with_reducible assumption | with_reducible apply set_keeps | (simp only [mk_keeps])
      | with_reducible apply foldl_keeps | split | intro _ _ _ | intro _ _ | extract_lets
      | (dsimp +zetaDelta only)
  clear_value l1
  repeat' first
    | with_reducible assumption | with_reducible apply set_keeps | (simp only [mk_keeps])
    | with_reducible apply foldl_keeps | split | intro _ _ _ | intro _ _ | extract_lets
    | (dsimp +zetaDelta only)

theorem deriveHbr_keeps {zz : State} {s : State}
    (hs : Keeps zz s) :
    Keeps zz (deriveHbr s) := by
  unfold deriveHbr
  repeat' first
    | with_reducible assumption | with_reducible apply set_keeps | (simp only [mk_keeps])
    | with_reducible apply foldl_keeps | split | intro _ _ _ | intro _ _ | extract_lets
    | (dsimp +zetaDelta only)

theorem deriveCtx_keeps {zz : State} {x : Nat} {s : State}
    (hs : Keeps zz s) :
    Keeps zz (deriveCtx x s) := by
  unfold deriveCtx
  extract_lets l0 l1 l2 l3
  repeat' first
    | with_reducible assumption | with_reducible apply set_keeps | (simp only [mk_keeps])
    | with_reducible apply foldl_keeps | split | intro _ _ _ | intro _ _ | extract_lets
    | (dsimp +zetaDelta only)

theorem deriveDrl_keeps {zz : State} {s : State}
    (hs : Keeps zz s) :
    Keeps zz (deriveDrl s) := by
  unfold deriveDrl
  extract_lets l0 l1
  repeat' first
    | with_reducible assumption | with_reducible apply set_keeps | (simp only [mk_keeps])
    | with_reducible apply foldl_keeps | split | intro _ _ _ | intro _ _ | extract_lets
    | (dsimp +zetaDelta only)

theorem deriveBwr_keeps {zz : State} {s : State}
    (hs : Keeps zz s) :
    Keeps zz (deriveBwr s) := by
  unfold deriveBwr
  extract_lets l0 l1 l2
  repeat' first
    | with_reducible assumption | with_reducible apply wrA_keeps | (simp only [mk_keeps])
    | with_reducible apply foldl_keeps | split | intro _ _ _ | intro _ _ | extract_lets
    | (dsimp +zetaDelta only)

theorem deriveUnit_keeps {zz : State} {u : Nat} {s : State}
    (hs : Keeps zz s) :
    Keeps zz (deriveUnit u s) := by
  unfold deriveUnit
  extract_lets l0
  repeat' first
    | with_reducible assumption | with_reducible apply deriveFtim_keeps | with_reducible apply deriveClk_keeps
    | with_reducible apply deriveTim_keeps | with_reducible apply deriveLnp_keeps
    | with_reducible apply deriveGroup_keeps | with_reducible apply derivePort_keeps
    | with_reducible apply derivePipe_keeps | with_reducible apply derivePos_keeps
    | with_reducible apply deriveTws_keeps | with_reducible apply deriveBtm_keeps
    | with_reducible apply deriveOut_keeps | with_reducible apply deriveQue_keeps
    | with_reducible apply deriveHbr_keeps | with_reducible apply deriveCtx_keeps
    | with_reducible apply deriveDrl_keeps | with_reducible apply deriveBwr_keeps | (simp only [mk_keeps])
    | with_reducible apply foldl_keeps | split | intro _ _ _ | intro _ _ | extract_lets
    | (dsimp +zetaDelta only)

theorem restartRederive_keeps {zz : State} {u : Nat} {s : State} (hs : Keeps zz s) :
    Keeps zz (restartRederive u s) := by
  have h := deriveUnit_keeps (u := u) (Keeps.refl s)
  exact hs.trans ⟨id, rfl, rfl, rfl, rfl, List.prefix_refl _, h.free⟩

theorem basicWritten_keeps {zz : State} {u : Nat} {s : State}
    (hs : Keeps zz s) :
    Keeps zz (basicWritten u s) := by
  unfold basicWritten
  extract_lets l0
  repeat' first
    | with_reducible assumption | with_reducible apply restartRederive_keeps | (simp only [mk_keeps])
    | with_reducible apply foldl_keeps | split | intro _ _ _ | intro _ _ | extract_lets
    | (dsimp +zetaDelta only)

theorem afterBasic_keeps {zz : State} {u : Nat} {a : Nat} {v : Nat} {old : Nat} {s : State}
    (hs : Keeps zz s) :
    Keeps zz (afterBasic u a v old s) := by
  unfold afterBasic
  repeat' first
    | with_reducible assumption | with_reducible apply basicWritten_keeps | (simp only [mk_keeps])
    | with_reducible apply foldl_keeps | split | intro _ _ _ | intro _ _ | extract_lets
    | (dsimp +zetaDelta only)

theorem setUnsync_keeps {zz : State} {s : State}
    (hs : Keeps zz s) :
    Keeps zz (setUnsync s) := by
  unfold setUnsync
  extract_lets l0
  repeat' first
    | with_reducible assumption | with_reducible apply log_keeps | with_reducible apply fire_keeps
    | with_reducible apply set_keeps | (simp only [mk_keeps]) | with_reducible apply foldl_keeps | split
    | intro _ _ _ | intro _ _ | extract_lets | (dsimp +zetaDelta only)

theorem enterHoldover_keeps {zz : State} {s : State}
    (hs : Keeps zz s) :
    Keeps zz (enterHoldover s) := by
  unfold enterHoldover
  extract_lets l0 l1 l2 l3
  have kl1 : Keeps zz l1 := by
    unfold l1
    repeat' first
      | with_reducible assumption | with_reducible apply set_keeps | (simp only [mk_keeps])
      | with_reducible apply foldl_keeps | split | intro _ _ _ | intro _ _ | extract_lets
      | (dsimp +zetaDelta only)
  clear_value l1
  have kl2 : Keeps zz l2 := by
    unfold l2
    repeat' first
      | with_reducible assumption | with_reducible apply set_keeps | with_reducible apply log_keeps
      | (simp only [mk_keeps]) | with_reducible apply foldl_keeps | split | intro _ _ _ | intro _ _
      | extract_lets | (dsimp +zetaDelta only)
  clear_value l2
  repeat' first
    | with_reducible assumption | with_reducible apply setUnsync_keeps | (simp only [mk_keeps])
    | with_reducible apply foldl_keeps | split | intro _ _ _ | intro _ _ | extract_lets
    | (dsimp +zetaDelta only)

theorem enterTim_keeps {zz : State} {st : Nat} {s : State}
    (hs : Keeps zz s) :
    Keeps zz (enterTim st s) := by
  unfold enterTim
  extract_lets l0 l1
  have kl1 : Keeps zz l1 := by
    unfold l1
    repeat' first
      | with_reducible assumption | with_reducible apply set_keeps | (simp only [mk_keeps])
      | with_reducible apply foldl_keeps | split | intro _ _ _ | intro _ _ | extract_lets
      | (dsimp +zetaDelta only)
  clear_value l1
  repeat' first
    | with_reducible assumption | with_reducible apply enterHoldover_keeps
    | with_reducible apply setUnsync_keeps | with_reducible apply log_keeps | with_reducible apply fire_keeps
    | (simp only [mk_keeps]) | with_reducible apply foldl_keeps | split | intro _ _ _ | intro _ _
    | extract_lets | (dsimp +zetaDelta only)

theorem afterStep_keeps {zz : State} {s : State}
    (hs : Keeps zz s) :
    Keeps zz (afterStep s) := by
  unfold afterStep
  repeat' first
    | with_reducible assumption | with_reducible apply enterTim_keeps | (simp only [mk_keeps])
    | with_reducible apply foldl_keeps | split | intro _ _ _ | intro _ _ | extract_lets
    | (dsimp +zetaDelta only)

theorem alignBlock_keeps {zz : State} {g : Nat} {ref : Option (List Nat)} {e : Nat × Nat × List Nat} {s : State}
    (hs : Keeps zz s) :
    Keeps zz (alignBlock g ref e s) := by
  unfold alignBlock
  extract_lets l0 l1 l2 l3 l4 l5 l6
  have kl4 : Keeps zz l4 := by
    unfold l4
    repeat' first
      | with_reducible assumption | with_reducible apply set_keeps | (simp only [mk_keeps])
      | with_reducible apply foldl_keeps | split | intro _ _ _ | intro _ _ | extract_lets
      | (dsimp +zetaDelta only)
  clear_value l4
  have kl5 : Keeps zz l5 := by
    unfold l5
    repeat' first
      | with_reducible assumption | with_reducible apply setLane_keeps | (simp only [mk_keeps])
      | with_reducible apply foldl_keeps | split | intro _ _ _ | intro _ _ | extract_lets
      | (dsimp +zetaDelta only)
  clear_value l5
  have kl6 : Keeps zz l6 := by
    unfold l6
    repeat' first
      | with_reducible assumption | with_reducible apply setLane_keeps | with_reducible apply count_keeps
      | (simp only [mk_keeps]) | with_reducible apply foldl_keeps | split | intro _ _ _ | intro _ _
      | extract_lets | (dsimp +zetaDelta only)
  clear_value l6
  repeat' first
    | with_reducible assumption | with_reducible apply set_keeps | (simp only [mk_keeps])
    | with_reducible apply foldl_keeps | split | intro _ _ _ | intro _ _ | extract_lets
    | (dsimp +zetaDelta only)

theorem logIndices_keeps {zz : State} {g : Nat} {code : Nat} {m : Nat} {s : State}
    (hs : Keeps zz s) :
    Keeps zz (logIndices g code m s) := by
  unfold logIndices
  repeat' first
    | with_reducible assumption | with_reducible apply log_keeps | (simp only [mk_keeps])
    | with_reducible apply foldl_keeps | split | intro _ _ _ | intro _ _ | extract_lets
    | (dsimp +zetaDelta only)

theorem takeRxset_keeps {zz : State} {g : Nat} {v : Nat} {s : State}
    (hs : Keeps zz s) :
    Keeps zz (takeRxset g v s) := by
  unfold takeRxset
  extract_lets l0 l1 l2 l3
  have kl1 : Keeps zz l1 := by
    unfold l1
    repeat' first
      | with_reducible assumption | with_reducible apply fire_keeps | with_reducible apply set_keeps
      | (simp only [mk_keeps]) | with_reducible apply foldl_keeps | split | intro _ _ _ | intro _ _
      | extract_lets | (dsimp +zetaDelta only)
  clear_value l1
  have kl2 : Keeps zz l2 := by
    unfold l2
    repeat' first
      | with_reducible assumption | with_reducible apply logIndices_keeps | (simp only [mk_keeps])
      | with_reducible apply foldl_keeps | split | intro _ _ _ | intro _ _ | extract_lets
      | (dsimp +zetaDelta only)
  clear_value l2
  have kl3 : Keeps zz l3 := by
    unfold l3
    repeat' first
      | with_reducible assumption | with_reducible apply logIndices_keeps | (simp only [mk_keeps])
      | with_reducible apply foldl_keeps | split | intro _ _ _ | intro _ _ | extract_lets
      | (dsimp +zetaDelta only)
  clear_value l3
  repeat' first
    | with_reducible assumption | with_reducible apply deriveGroup_keeps | (simp only [mk_keeps])
    | with_reducible apply foldl_keeps | split | intro _ _ _ | intro _ _ | extract_lets
    | (dsimp +zetaDelta only)

theorem syncLanes_keeps {zz : State} {g : Nat} {s : State}
    (hs : Keeps zz s) :
    Keeps zz (syncLanes g s) := by
  unfold syncLanes
  extract_lets l0 l1
  repeat' first
    | with_reducible assumption | with_reducible apply set_keeps | (simp only [mk_keeps])
    | with_reducible apply foldl_keeps | split | intro _ _ _ | intro _ _ | extract_lets
    | (dsimp +zetaDelta only)

theorem groupLinked_keeps {zz : State} {g : Nat} {s : State}
    (hs : Keeps zz s) :
    Keeps zz (groupLinked g s) := by
  unfold groupLinked
  extract_lets l0
  have kl0 : Keeps zz l0 := by
    unfold l0
    repeat' first
      | with_reducible assumption | with_reducible apply admitLanes_keeps | with_reducible apply set_keeps
      | (simp only [mk_keeps]) | with_reducible apply foldl_keeps | split | intro _ _ _ | intro _ _
      | extract_lets | (dsimp +zetaDelta only)
  clear_value l0
  repeat' first
    | with_reducible assumption | with_reducible apply set_keeps | with_reducible apply syncLanes_keeps
    | (simp only [mk_keeps]) | with_reducible apply foldl_keeps | split | intro _ _ _ | intro _ _
    | extract_lets | (dsimp +zetaDelta only)

theorem readmit_keeps {zz : State} {g : Nat} {s : State}
    (hs : Keeps zz s) :
    Keeps zz (readmit g s) := by
  unfold readmit
  repeat' first
    | with_reducible assumption | with_reducible apply enterLane_keeps | (simp only [mk_keeps])
    | with_reducible apply foldl_keeps | split | intro _ _ _ | intro _ _ | extract_lets
    | (dsimp +zetaDelta only)

theorem alignReceived_keeps {zz : State} {g : Nat} {row : List (Nat × Nat × List Nat)} {s : State}
    (hs : Keeps zz s) :
    Keeps zz (alignReceived g row s) := by
  unfold alignReceived
  extract_lets l0 l1 l2
  have kl1 : Keeps zz l1 := by
    unfold l1
    repeat' first
      | with_reducible assumption | with_reducible apply alignBlock_keeps | (simp only [mk_keeps])
      | with_reducible apply foldl_keeps | split | intro _ _ _ | intro _ _ | extract_lets
      | (dsimp +zetaDelta only)
  clear_value l1
  have kl2 : Keeps zz l2 := by
    unfold l2
    repeat' first
      | with_reducible assumption | with_reducible apply takeRxset_keeps | with_reducible apply set_keeps
      | (simp only [mk_keeps]) | with_reducible apply foldl_keeps | split | intro _ _ _ | intro _ _
      | extract_lets | (dsimp +zetaDelta only)
  clear_value l2
  repeat' first
    | with_reducible assumption | with_reducible apply groupLinked_keeps
    | with_reducible apply syncLanes_keeps | with_reducible apply readmit_keeps
    | with_reducible apply admitLanes_keeps | (simp only [mk_keeps]) | with_reducible apply foldl_keeps
    | split | intro _ _ _ | intro _ _ | extract_lets | (dsimp +zetaDelta only)

theorem alignSend_keeps {zz : State} {g : Nat} {s : State}
    (hs : Keeps zz s) :
    Keeps zz (alignSend g s) := by
  unfold alignSend
  extract_lets l0 l1 l2
  have kl2 : Keeps zz l2 := by
    unfold l2
    repeat' first
      | with_reducible assumption | with_reducible apply set_keeps | with_reducible apply setGroup_keeps
      | (simp only [mk_keeps]) | with_reducible apply foldl_keeps | split | intro _ _ _ | intro _ _
      | extract_lets | (dsimp +zetaDelta only)
  clear_value l2
  repeat' first
    | with_reducible assumption | with_reducible apply syncLanes_keeps | with_reducible apply emit_keeps
    | (simp only [mk_keeps]) | with_reducible apply foldl_keeps | split | intro _ _ _ | intro _ _
    | extract_lets | (dsimp +zetaDelta only)

theorem analogFault_keeps {zz : State} {a : Nat} {compliance : Bool} {s : State}
    (hs : Keeps zz s) :
    Keeps zz (analogFault a compliance s) := by
  unfold analogFault
  repeat' first
    | with_reducible assumption | with_reducible apply log_keeps | with_reducible apply set_keeps
    | (simp only [mk_keeps]) | with_reducible apply foldl_keeps | split | intro _ _ _ | intro _ _
    | extract_lets | (dsimp +zetaDelta only)

theorem analogFaultClear_keeps {zz : State} {a : Nat} {compliance : Bool} {s : State}
    (hs : Keeps zz s) :
    Keeps zz (analogFaultClear a compliance s) := by
  unfold analogFaultClear
  repeat' first
    | with_reducible assumption | with_reducible apply set_keeps | (simp only [mk_keeps])
    | with_reducible apply foldl_keeps | split | intro _ _ _ | intro _ _ | extract_lets
    | (dsimp +zetaDelta only)

theorem angleSchedule_keeps {zz : State} {w : Nat} {e : Nat} {s : State}
    (hs : Keeps zz s) :
    Keeps zz (angleSchedule w e s) := by
  unfold angleSchedule
  extract_lets l0 l1 l2 l3 l4 l5 l6 l7 l8 l9 l10 l11 l12 l13
  repeat' first
    | with_reducible assumption | with_reducible apply setEntry_keeps | (simp only [mk_keeps])
    | with_reducible apply foldl_keeps | split | intro _ _ _ | intro _ _ | extract_lets
    | (dsimp +zetaDelta only)

theorem angleTagEval_keeps {zz : State} {st : Nat} {due : Bool} {s : State}
    (hs : Keeps zz s) :
    Keeps zz (angleTagEval st due s) := by
  unfold angleTagEval
  repeat' first
    | with_reducible assumption | with_reducible apply mapItem_keeps | (simp only [mk_keeps])
    | with_reducible apply foldl_keeps | split | intro _ _ _ | intro _ _ | extract_lets
    | (dsimp +zetaDelta only)

theorem angleTooth_keeps {zz : State} {w : Nat} {synth : Bool} {e : Nat} {s : State}
    (hs : Keeps zz s) :
    Keeps zz (angleTooth w synth e s) := by
  unfold angleTooth
  extract_lets l0 l1 l2
  have kl2 : Keeps zz l2 := by
    unfold l2
    repeat' first
      | with_reducible assumption | with_reducible apply log_keeps | with_reducible apply count_keeps
      | (simp only [mk_keeps]) | with_reducible apply foldl_keeps | split | intro _ _ _ | intro _ _
      | extract_lets | (dsimp +zetaDelta only)
  clear_value l2
  repeat' first
    | with_reducible assumption | with_reducible apply angleSchedule_keeps
    | with_reducible apply setEntry_keeps | (simp only [mk_keeps]) | with_reducible apply foldl_keeps | split
    | intro _ _ _ | intro _ _ | extract_lets | (dsimp +zetaDelta only)

theorem angleTeeth_keeps {zz : State} {w : Nat} {synth : Bool} {s : State}
    (hs : Keeps zz s) :
    Keeps zz (angleTeeth w synth s) := by
  unfold angleTeeth
  repeat' first
    | with_reducible assumption | with_reducible apply angleTooth_keeps | (simp only [mk_keeps])
    | with_reducible apply foldl_keeps | split | intro _ _ _ | intro _ _ | extract_lets
    | (dsimp +zetaDelta only)

theorem showBusy_keeps {zz : State} {s : State}
    (hs : Keeps zz s) :
    Keeps zz (showBusy s) := by
  unfold showBusy
  repeat' first
    | with_reducible assumption | with_reducible apply set_keeps | (simp only [mk_keeps])
    | with_reducible apply foldl_keeps | split | intro _ _ _ | intro _ _ | extract_lets
    | (dsimp +zetaDelta only)

theorem requestEpoch_keeps {zz : State} {s : State}
    (hs : Keeps zz s) :
    Keeps zz (requestEpoch s) := by
  unfold requestEpoch
  extract_lets l0 l1
  repeat' first
    | with_reducible assumption | with_reducible apply showBusy_keeps | (simp only [mk_keeps])
    | with_reducible apply foldl_keeps | split | intro _ _ _ | intro _ _ | extract_lets
    | (dsimp +zetaDelta only)

theorem reselect_keeps {zz : State} {s : State}
    (hs : Keeps zz s) :
    Keeps zz (reselect s) := by
  unfold reselect
  extract_lets l0 l1
  have kl0 : Keeps zz l0 := by
    unfold l0
    repeat' first
      | with_reducible assumption | with_reducible apply set_keeps | (simp only [mk_keeps])
      | with_reducible apply foldl_keeps | split | intro _ _ _ | intro _ _ | extract_lets
      | (dsimp +zetaDelta only)
  clear_value l0
  repeat' first
    | with_reducible assumption | with_reducible apply set_keeps | with_reducible apply deriveGain_keeps
    | with_reducible apply requestEpoch_keeps | with_reducible apply log_keeps
    | with_reducible apply enterTim_keeps | (simp only [mk_keeps]) | with_reducible apply foldl_keeps | split
    | intro _ _ _ | intro _ _ | extract_lets | (dsimp +zetaDelta only)

theorem announce_keeps {zz : State} {p : Nat} {m : List Nat} {s : State}
    (hs : Keeps zz s) :
    Keeps zz (announce p m s) := by
  unfold announce
  extract_lets l0 l1 l2 l3 l4 l5 l6
  have kl2 : Keeps zz l2 := by
    unfold l2
    repeat' first
      | with_reducible assumption | with_reducible apply setPtpPort_keeps | (simp only [mk_keeps])
      | with_reducible apply foldl_keeps | split | intro _ _ _ | intro _ _ | extract_lets
      | (dsimp +zetaDelta only)
  clear_value l2
  repeat' first
    | with_reducible assumption | with_reducible apply logSec_keeps | with_reducible apply count_keeps
    | with_reducible apply reselect_keeps | (simp only [mk_keeps]) | with_reducible apply foldl_keeps | split
    | intro _ _ _ | intro _ _ | extract_lets | (dsimp +zetaDelta only)

theorem ptpSend_keeps {zz : State} {p : Nat} {peer : Bool} {event : Bool} {m : List Nat} {s : State}
    (hs : Keeps zz s) :
    Keeps zz (ptpSend p peer event m s) := by
  unfold ptpSend
  repeat' first
    | with_reducible assumption | with_reducible apply sendOn_keeps | (simp only [mk_keeps])
    | with_reducible apply foldl_keeps | split | intro _ _ _ | intro _ _ | extract_lets
    | (dsimp +zetaDelta only)

theorem announceInterval_keeps {zz : State} {s : State}
    (hs : Keeps zz s) :
    Keeps zz (announceInterval s) := by
  unfold announceInterval
  extract_lets l0 l1
  have kl0 : Keeps zz l0 := by
    unfold l0
    repeat' first
      | with_reducible assumption | with_reducible apply ptpSend_keeps | (simp only [mk_keeps])
      | with_reducible apply foldl_keeps | split | intro _ _ _ | intro _ _ | extract_lets
      | (dsimp +zetaDelta only)
  clear_value l0
  repeat' first
    | with_reducible assumption | (simp only [mk_keeps]) | with_reducible apply foldl_keeps | split
    | intro _ _ _ | intro _ _ | extract_lets | (dsimp +zetaDelta only)

theorem setFar_keeps {zz : State} {rs : List FarReq} {s : State}
    (hs : Keeps zz s) :
    Keeps zz (setFar rs s) := by
  unfold setFar
  extract_lets l0
  repeat' first
    | with_reducible assumption | with_reducible apply set_keeps | (simp only [mk_keeps])
    | with_reducible apply foldl_keeps | split | intro _ _ _ | intro _ _ | extract_lets
    | (dsimp +zetaDelta only)

theorem farRecord_keeps {zz : State} {isWrite : Bool} {offset : Nat} {node : Nat} {cause : Nat} {s : State}
    (hs : Keeps zz s) :
    Keeps zz (farRecord isWrite offset node cause s) := by
  unfold farRecord
  extract_lets l0 l1 l2
  have kl0 : Keeps zz l0 := by
    unfold l0
    repeat' first
      | with_reducible assumption | with_reducible apply fire_keeps | with_reducible apply count_keeps
      | (simp only [mk_keeps]) | with_reducible apply foldl_keeps | split | intro _ _ _ | intro _ _
      | extract_lets | (dsimp +zetaDelta only)
  clear_value l0
  have kl1 : Keeps zz l1 := by
    unfold l1
    repeat' first
      | with_reducible assumption | with_reducible apply log_keeps | (simp only [mk_keeps])
      | with_reducible apply foldl_keeps | split | intro _ _ _ | intro _ _ | extract_lets
      | (dsimp +zetaDelta only)
  clear_value l1
  have kl2 : Keeps zz l2 := by
    unfold l2
    repeat' first
      | with_reducible assumption | with_reducible apply set_keeps | (simp only [mk_keeps])
      | with_reducible apply foldl_keeps | split | intro _ _ _ | intro _ _ | extract_lets
      | (dsimp +zetaDelta only)
  clear_value l2
  repeat' first
    | with_reducible assumption | with_reducible apply set_keeps | (simp only [mk_keeps])
    | with_reducible apply foldl_keeps | split | intro _ _ _ | intro _ _ | extract_lets
    | (dsimp +zetaDelta only)

theorem farReport_keeps {zz : State} {r : FarReq} {cause : Nat} {s : State}
    (hs : Keeps zz s) :
    Keeps zz (farReport r cause s) := by
  unfold farReport
  extract_lets l0 l1
  have kl1 : Keeps zz l1 := by
    unfold l1
    repeat' first
      | with_reducible assumption | with_reducible apply farRecord_keeps | (simp only [mk_keeps])
      | with_reducible apply foldl_keeps | split | intro _ _ _ | intro _ _ | extract_lets
      | (dsimp +zetaDelta only)
  clear_value l1
  repeat' first
    | with_reducible assumption | with_reducible apply log_keeps | with_reducible apply fire_keeps
    | with_reducible apply set_keeps | with_reducible apply emit_keeps | with_reducible apply aerAbort_keeps
    | (simp only [mk_keeps]) | with_reducible apply foldl_keeps | split | intro _ _ _ | intro _ _
    | extract_lets | (dsimp +zetaDelta only)

theorem farSend_keeps {zz : State} {r : FarReq} {s : State}
    (hs : Keeps zz s) :
    Keeps zz (farSend r s) := by
  unfold farSend
  extract_lets l0 l1
  repeat' first
    | with_reducible assumption | with_reducible apply sendForward_keeps | (simp only [mk_keeps])
    | with_reducible apply foldl_keeps | split | intro _ _ _ | intro _ _ | extract_lets
    | (dsimp +zetaDelta only)

theorem farStart_keeps {zz : State} {id : Nat} {s : State}
    (hs : Keeps zz s) :
    Keeps zz (farStart id s) := by
  unfold farStart
  extract_lets l0
  have kl0 : Keeps zz l0 := by
    unfold l0
    repeat' first
      | with_reducible assumption | with_reducible apply setFar_keeps | (simp only [mk_keeps])
      | with_reducible apply foldl_keeps | split | intro _ _ _ | intro _ _ | extract_lets
      | (dsimp +zetaDelta only)
  clear_value l0
  repeat' first
    | with_reducible assumption | with_reducible apply setFar_keeps | with_reducible apply farReport_keeps
    | with_reducible apply farSend_keeps | (simp only [mk_keeps]) | with_reducible apply foldl_keeps | split
    | intro _ _ _ | intro _ _ | extract_lets | (dsimp +zetaDelta only)

theorem farPump_keeps {zz : State} {s : State}
    (hs : Keeps zz s) :
    Keeps zz (farPump s) := by
  unfold farPump
  extract_lets l0 l1 l2
  repeat' first
    | with_reducible assumption | with_reducible apply farStart_keeps | (simp only [mk_keeps])
    | with_reducible apply foldl_keeps | split | intro _ _ _ | intro _ _ | extract_lets
    | (dsimp +zetaDelta only)

theorem farFail_keeps {zz : State} {id : Nat} {cause : Nat} {s : State}
    (hs : Keeps zz s) :
    Keeps zz (farFail id cause s) := by
  unfold farFail
  repeat' first
    | with_reducible assumption | with_reducible apply farPump_keeps | with_reducible apply farReport_keeps
    | with_reducible apply setFar_keeps | (simp only [mk_keeps]) | with_reducible apply foldl_keeps | split
    | intro _ _ _ | intro _ _ | extract_lets | (dsimp +zetaDelta only)

theorem pollStore_keeps {zz : State} {k : Nat} {v : Nat} {s : State}
    (hs : Keeps zz s) :
    Keeps zz (pollStore k v s) := by
  unfold pollStore
  extract_lets l0 l1 l2 l3
  have kl3 : Keeps zz l3 := by
    unfold l3
    repeat' first
      | with_reducible assumption | with_reducible apply set_keeps | (simp only [mk_keeps])
      | with_reducible apply foldl_keeps | split | intro _ _ _ | intro _ _ | extract_lets
      | (dsimp +zetaDelta only)
  clear_value l3
  repeat' first
    | with_reducible assumption | with_reducible apply set_keeps | with_reducible apply fire_keeps
    | (simp only [mk_keeps]) | with_reducible apply foldl_keeps | split | intro _ _ _ | intro _ _
    | extract_lets | (dsimp +zetaDelta only)

theorem farDone_keeps {zz : State} {id : Nat} {ws : List Nat} {s : State}
    (hs : Keeps zz s) :
    Keeps zz (farDone id ws s) := by
  unfold farDone
  extract_lets l0
  have kl0 : Keeps zz l0 := by
    unfold l0
    repeat' first
      | with_reducible assumption | with_reducible apply setFar_keeps | (simp only [mk_keeps])
      | with_reducible apply foldl_keeps | split | intro _ _ _ | intro _ _ | extract_lets
      | (dsimp +zetaDelta only)
  clear_value l0
  repeat' first
    | with_reducible assumption | with_reducible apply pollStore_keeps | with_reducible apply emit_keeps
    | with_reducible apply farPump_keeps | (simp only [mk_keeps]) | with_reducible apply foldl_keeps | split
    | intro _ _ _ | intro _ _ | extract_lets | (dsimp +zetaDelta only)

theorem farAnswer_keeps {zz : State} {write : Bool} {n : Nat} {tag : Nat} {status : Nat} {ws : List Nat} {s : State}
    (hs : Keeps zz s) :
    Keeps zz (farAnswer write n tag status ws s) := by
  unfold farAnswer
  repeat' first
    | with_reducible assumption | with_reducible apply count_keeps | with_reducible apply farFail_keeps
    | with_reducible apply setFar_keeps | with_reducible apply farDone_keeps | (simp only [mk_keeps])
    | with_reducible apply foldl_keeps | split | intro _ _ _ | intro _ _ | extract_lets
    | (dsimp +zetaDelta only)

theorem answerIn_keeps {zz : State} {p : Nat} {ty : Nat} {f : List Nat} {s : State}
    (hs : Keeps zz s) :
    Keeps zz (answerIn p ty f s) := by
  unfold answerIn
  extract_lets l0 l1 l2
  repeat' first
    | with_reducible assumption | with_reducible apply farAnswer_keeps | (simp only [mk_keeps])
    | with_reducible apply foldl_keeps | split | intro _ _ _ | intro _ _ | extract_lets
    | (dsimp +zetaDelta only)

theorem noteFail_keeps {zz : State} {k : Nat} {reason : Nat} {idx : Nat} {s : State}
    (hs : Keeps zz s) :
    Keeps zz (noteFail k reason idx s) := by
  unfold noteFail
  extract_lets l0
  have kl0 : Keeps zz l0 := by
    unfold l0
    repeat' first
      | with_reducible assumption | with_reducible apply set_keeps | (simp only [mk_keeps])
      | with_reducible apply foldl_keeps | split | intro _ _ _ | intro _ _ | extract_lets
      | (dsimp +zetaDelta only)
  clear_value l0
  repeat' first
    | with_reducible assumption | with_reducible apply set_keeps | (simp only [mk_keeps])
    | with_reducible apply foldl_keeps | split | intro _ _ _ | intro _ _ | extract_lets
    | (dsimp +zetaDelta only)

theorem failFar_keeps {zz : State} {s : State}
    (hs : Keeps zz s) :
    Keeps zz (failFar s) := by
  unfold failFar
  repeat' first
    | with_reducible assumption | with_reducible apply farFail_keeps | with_reducible apply set_keeps
    | (simp only [mk_keeps]) | with_reducible apply foldl_keeps | split | intro _ _ _ | intro _ _
    | extract_lets | (dsimp +zetaDelta only)

theorem keepLevels_keeps0 {zz s t : State} (ht : Keeps zz t) : Keeps zz (keepLevels s t) := by
  unfold keepLevels
  exact foldl_keeps ht (fun u n hu => set_keeps hu)

theorem keepLevels_keeps {zz s t : State} (_ : Keeps zz s) (ht : Keeps zz t) : Keeps zz (keepLevels s t) :=
  keepLevels_keeps0 ht

theorem resetBwr_keeps {zz : State} {s : State}
    (hs : Keeps zz s) :
    Keeps zz (resetBwr s) := by
  unfold resetBwr
  extract_lets l0
  have kl0 : Keeps zz l0 := by
    unfold l0
    repeat' first
      | with_reducible assumption | with_reducible apply set_keeps | with_reducible apply clearRegs_keeps
      | (simp only [mk_keeps]) | with_reducible apply foldl_keeps | split | intro _ _ _ | intro _ _
      | extract_lets | (dsimp +zetaDelta only)
  clear_value l0
  repeat' first
    | with_reducible assumption | (simp only [mk_keeps]) | with_reducible apply foldl_keeps | split
    | intro _ _ _ | intro _ _ | extract_lets | (dsimp +zetaDelta only)

theorem warmReset_keeps {zz : State} {s0 : State} (hs : Keeps zz s0) : Keeps zz (warmReset s0) := by
  have h1 := failFar_keeps hs
  unfold warmReset
  extract_lets s r0 clk0 hbr0 base s1 s2 s3
  have hb : Keeps zz base := by
    refine h1.trans ⟨?_, rfl, rfl, rfl, rfl, List.prefix_refl _, Nat.le_refl _⟩
    intro r
    exact twf_filter (fun a => BitVec.ofNat 32 (resetWord a)) _ _ r
  clear_value base s
  have h2 : Keeps zz s1 := foldl_keeps hb (fun t a ht => wrA_keeps ht)
  clear_value s1
  have h3 : Keeps zz s2 := set_keeps (keepLevels_keeps0 (resetBwr_keeps h2))
  clear_value s2
  have h4 : Keeps zz s3 := by
    unfold s3
    split
    · exact h3
    · exact deriveHbr_keeps h3
  clear_value s3
  split
  · exact deriveOut_keeps h4
  · exact h4

theorem applyAbort_keeps {zz : State} {reason : Nat} {idx : Nat} {s : State}
    (hs : Keeps zz s) :
    Keeps zz (applyAbort reason idx s) := by
  unfold applyAbort
  extract_lets l0 l1 l2 l3
  have kl1 : Keeps zz l1 := by
    unfold l1
    repeat' first
      | with_reducible assumption | with_reducible apply noteFail_keeps | with_reducible apply warmReset_keeps
      | (simp only [mk_keeps]) | with_reducible apply foldl_keeps | split | intro _ _ _ | intro _ _
      | extract_lets | (dsimp +zetaDelta only)
  clear_value l1
  have kl2 : Keeps zz l2 := by
    unfold l2
    repeat' first
      | with_reducible assumption | with_reducible apply log_keeps | (simp only [mk_keeps])
      | with_reducible apply foldl_keeps | split | intro _ _ _ | intro _ _ | extract_lets
      | (dsimp +zetaDelta only)
  clear_value l2
  repeat' first
    | with_reducible assumption | (simp only [mk_keeps]) | with_reducible apply foldl_keeps | split
    | intro _ _ _ | intro _ _ | extract_lets | (dsimp +zetaDelta only)

theorem putDerived_keeps {zz : State} {e : Nat × Nat × Nat} {s : State}
    (hs : Keeps zz s) :
    Keeps zz (putDerived e s) := by
  unfold putDerived
  repeat' first
    | with_reducible assumption | with_reducible apply wrA_keeps | (simp only [mk_keeps])
    | with_reducible apply foldl_keeps | split | intro _ _ _ | intro _ _ | extract_lets
    | (dsimp +zetaDelta only)

theorem setCellLevel_keeps {zz : State} {c : Nat} {b : Bool} {s : State}
    (hs : Keeps zz s) :
    Keeps zz (setCellLevel c b s) := by
  unfold setCellLevel
  extract_lets l0 l1 l2
  have kl2 : Keeps zz l2 := by
    unfold l2
    repeat' first
      | with_reducible assumption | with_reducible apply setCell_keeps | with_reducible apply set_keeps
      | (simp only [mk_keeps]) | with_reducible apply foldl_keeps | split | intro _ _ _ | intro _ _
      | extract_lets | (dsimp +zetaDelta only)
  clear_value l2
  repeat' first
    | with_reducible assumption | with_reducible apply fire_keeps | with_reducible apply count_keeps
    | (simp only [mk_keeps]) | with_reducible apply foldl_keeps | split | intro _ _ _ | intro _ _
    | extract_lets | (dsimp +zetaDelta only)

theorem cellCycle_keeps {zz : State} {hits : List Nat} {c : Nat} {s : State}
    (hs : Keeps zz s) :
    Keeps zz (cellCycle hits c s) := by
  unfold cellCycle
  extract_lets l0 l1 l2 l3 l4 l5 l6 l7 l8 l9 l10 l11 l12
  have kl9 : Keeps zz l9 := by
    unfold l9
    repeat' first
      | with_reducible assumption | with_reducible apply set_keeps | (simp only [mk_keeps])
      | with_reducible apply foldl_keeps | split | intro _ _ _ | intro _ _ | extract_lets
      | (dsimp +zetaDelta only)
  clear_value l9
  repeat' first
    | with_reducible assumption | with_reducible apply setCell_keeps | with_reducible apply setCellLevel_keeps
    | (simp only [mk_keeps]) | with_reducible apply foldl_keeps | split | intro _ _ _ | intro _ _
    | extract_lets | (dsimp +zetaDelta only)

theorem runCells_keeps {zz : State} {hits : List Nat} {s : State} (hs : Keeps zz s) : Keeps zz (runCells hits s) := by
  have hc : ∀ (h : List Nat) (t : State), Keeps zz t →
      Keeps zz ((syncCells s).foldl (fun u c => cellCycle h c u) t) := fun h t ht =>
    foldl_keeps ht (fun u c hu => cellCycle_keeps hu)
  have hn : ∀ (n : Nat) (t : State), Keeps zz t →
      Keeps zz (applyN (fun t => (syncCells s).foldl (fun u c => cellCycle [] c u) t) n t) := by
    intro n
    induction n with
    | zero => exact fun t ht => ht
    | succ n ih => exact fun t ht => ih _ (hc [] t ht)
  simp only [runCells]
  split
  · exact hs
  · exact hn 4 _ (hc hits s hs)

theorem applyDerived_keeps {zz : State} {u : Nat} {ws : List (Nat × Nat × Nat)} {x2 : State}
    (hx2 : Keeps zz x2) :
    Keeps zz (applyDerived u ws x2) := by
  unfold applyDerived
  extract_lets l0 l1
  have kl0 : Keeps zz l0 := by
    unfold l0
    repeat' first
      | with_reducible assumption | with_reducible apply seeGuards_keeps | (simp only [mk_keeps])
      | with_reducible apply foldl_keeps | split | intro _ _ _ | intro _ _ | extract_lets
      | (dsimp +zetaDelta only)
  clear_value l0
  have kl1 : Keeps zz l1 := by
    unfold l1
    repeat' first
      | with_reducible assumption | with_reducible apply putDerived_keeps | (simp only [mk_keeps])
      | with_reducible apply foldl_keeps | split | intro _ _ _ | intro _ _ | extract_lets
      | (dsimp +zetaDelta only)
  clear_value l1
  repeat' first
    | with_reducible assumption | with_reducible apply runCells_keeps | (simp only [mk_keeps])
    | with_reducible apply foldl_keeps | split | intro _ _ _ | intro _ _ | extract_lets
    | (dsimp +zetaDelta only)

theorem applyDone_keeps {zz : State} {img0 : List Nat} {s : State}
    (hs : Keeps zz s) :
    Keeps zz (applyDone img0 s) := by
  unfold applyDone
  extract_lets l0 l1
  have kl0 : Keeps zz l0 := by
    unfold l0
    repeat' first
      | with_reducible assumption | with_reducible apply set_keeps | (simp only [mk_keeps])
      | with_reducible apply foldl_keeps | split | intro _ _ _ | intro _ _ | extract_lets
      | (dsimp +zetaDelta only)
  clear_value l0
  repeat' first
    | with_reducible assumption | with_reducible apply applyAbort_keeps | (simp only [mk_keeps])
    | with_reducible apply foldl_keeps | split | intro _ _ _ | intro _ _ | extract_lets
    | (dsimp +zetaDelta only)

theorem armEntry_keeps {zz : State} {e : Nat} {s : State}
    (hs : Keeps zz s) :
    Keeps zz (armEntry e s) := by
  unfold armEntry
  extract_lets l0 l1 l2 l3
  repeat' first
    | with_reducible assumption | with_reducible apply setEntry_keeps | (simp only [mk_keeps])
    | with_reducible apply foldl_keeps | split | intro _ _ _ | intro _ _ | extract_lets
    | (dsimp +zetaDelta only)

theorem armMode_keeps {zz : State} {m : Nat} {s : State}
    (hs : Keeps zz s) :
    Keeps zz (armMode m s) := by
  unfold armMode
  repeat' first
    | with_reducible assumption | with_reducible apply armDivider_keeps | with_reducible apply armEntry_keeps
    | (simp only [mk_keeps]) | with_reducible apply foldl_keeps | split | intro _ _ _ | intro _ _
    | extract_lets | (dsimp +zetaDelta only)

theorem avalWrite_keeps {zz : State} {a : Nat} {v : Nat} {s : State}
    (hs : Keeps zz s) :
    Keeps zz (avalWrite a v s) := by
  unfold avalWrite
  extract_lets l0
  have kl0 : Keeps zz l0 := by
    unfold l0
    repeat' first
      | with_reducible assumption | with_reducible apply set_keeps | (simp only [mk_keeps])
      | with_reducible apply foldl_keeps | split | intro _ _ _ | intro _ _ | extract_lets
      | (dsimp +zetaDelta only)
  clear_value l0
  repeat' first
    | with_reducible assumption | with_reducible apply set_keeps | (simp only [mk_keeps])
    | with_reducible apply foldl_keeps | split | intro _ _ _ | intro _ _ | extract_lets
    | (dsimp +zetaDelta only)

theorem arngWrite_keeps {zz : State} {a : Nat} {v : Nat} {s : State}
    (hs : Keeps zz s) :
    Keeps zz (arngWrite a v s) := by
  unfold arngWrite
  extract_lets l0 l1 l2
  have kl1 : Keeps zz l1 := by
    unfold l1
    repeat' first
      | with_reducible assumption | with_reducible apply set_keeps | (simp only [mk_keeps])
      | with_reducible apply foldl_keeps | split | intro _ _ _ | intro _ _ | extract_lets
      | (dsimp +zetaDelta only)
  clear_value l1
  have kl2 : Keeps zz l2 := by
    unfold l2
    repeat' first
      | with_reducible assumption | with_reducible apply deriveCal_keeps | (simp only [mk_keeps])
      | with_reducible apply foldl_keeps | split | intro _ _ _ | intro _ _ | extract_lets
      | (dsimp +zetaDelta only)
  clear_value l2
  repeat' first
    | with_reducible assumption | with_reducible apply log_keeps | with_reducible apply avalWrite_keeps
    | with_reducible apply analogOpen_keeps | (simp only [mk_keeps]) | with_reducible apply foldl_keeps
    | split | intro _ _ _ | intro _ _ | extract_lets | (dsimp +zetaDelta only)

theorem askReplay_keeps {zz : State} {g : Nat} {s : State}
    (hs : Keeps zz s) :
    Keeps zz (askReplay g s) := by
  unfold askReplay
  extract_lets l0
  repeat' first
    | with_reducible assumption | with_reducible apply setGroup_keeps | (simp only [mk_keeps])
    | with_reducible apply foldl_keeps | split | intro _ _ _ | intro _ _ | extract_lets
    | (dsimp +zetaDelta only)

theorem farNode_keeps {zz : State} {n : Nat} {cause : Nat} {s : State}
    (hs : Keeps zz s) :
    Keeps zz (farNode n cause s) := by
  unfold farNode
  repeat' first
    | with_reducible assumption | with_reducible apply farFail_keeps | (simp only [mk_keeps])
    | with_reducible apply foldl_keeps | split | intro _ _ _ | intro _ _ | extract_lets
    | (dsimp +zetaDelta only)

theorem setMember_keeps {zz : State} {n : Nat} {b : Bool} {s : State}
    (hs : Keeps zz s) :
    Keeps zz (setMember n b s) := by
  unfold setMember
  repeat' first
    | with_reducible assumption | with_reducible apply set_keeps | (simp only [mk_keeps])
    | with_reducible apply foldl_keeps | split | intro _ _ _ | intro _ _ | extract_lets
    | (dsimp +zetaDelta only)

theorem takeId_keeps {zz : State} {n : Nat} {rejoin : Bool} {s : State}
    (hs : Keeps zz s) :
    Keeps zz (takeId n rejoin s) := by
  unfold takeId
  extract_lets l0 l1 l2
  have kl0 : Keeps zz l0 := by
    unfold l0
    repeat' first
      | with_reducible assumption | with_reducible apply set_keeps | (simp only [mk_keeps])
      | with_reducible apply foldl_keeps | split | intro _ _ _ | intro _ _ | extract_lets
      | (dsimp +zetaDelta only)
  clear_value l0
  have kl2 : Keeps zz l2 := by
    unfold l2
    repeat' first
      | with_reducible assumption | (simp only [mk_keeps]) | with_reducible apply foldl_keeps | split
      | intro _ _ _ | intro _ _ | extract_lets | (dsimp +zetaDelta only)
  clear_value l2
  repeat' first
    | with_reducible assumption | with_reducible apply log_keeps | with_reducible apply setMember_keeps
    | with_reducible apply fire_keeps | (simp only [mk_keeps]) | with_reducible apply foldl_keeps | split
    | intro _ _ _ | intro _ _ | extract_lets | (dsimp +zetaDelta only)

theorem assignIn_keeps {zz : State} {p : Nat} {f : List Nat} {s : State}
    (hs : Keeps zz s) :
    Keeps zz (assignIn p f s) := by
  unfold assignIn
  extract_lets l0 l1 l2
  have kl2 : Keeps zz l2 := by
    unfold l2
    repeat' first
      | with_reducible assumption | with_reducible apply farNode_keeps | with_reducible apply setMember_keeps
      | (simp only [mk_keeps]) | with_reducible apply foldl_keeps | split | intro _ _ _ | intro _ _
      | extract_lets | (dsimp +zetaDelta only)
  clear_value l2
  repeat' first
    | with_reducible assumption | with_reducible apply takeId_keeps | (simp only [mk_keeps])
    | with_reducible apply foldl_keeps | split | intro _ _ _ | intro _ _ | extract_lets
    | (dsimp +zetaDelta only)

theorem setNet_keeps {zz : State} {nodes : Nat} {slow : Nat} {s : State}
    (hs : Keeps zz s) :
    Keeps zz (setNet nodes slow s) := by
  unfold setNet
  extract_lets l0
  have kl0 : Keeps zz l0 := by
    unfold l0
    repeat' first
      | with_reducible assumption | with_reducible apply set_keeps | (simp only [mk_keeps])
      | with_reducible apply foldl_keeps | split | intro _ _ _ | intro _ _ | extract_lets
      | (dsimp +zetaDelta only)
  clear_value l0
  repeat' first
    | with_reducible assumption | with_reducible apply deriveDrl_keeps | (simp only [mk_keeps])
    | with_reducible apply foldl_keeps | split | intro _ _ _ | intro _ _ | extract_lets
    | (dsimp +zetaDelta only)

theorem rootNet_keeps {zz : State} {s : State}
    (hs : Keeps zz s) :
    Keeps zz (rootNet s) := by
  unfold rootNet
  extract_lets l0 l1 l2 l3 l4
  have kl2 : Keeps zz l2 := by
    unfold l2
    repeat' first
      | with_reducible assumption | with_reducible apply set_keeps | (simp only [mk_keeps])
      | with_reducible apply foldl_keeps | split | intro _ _ _ | intro _ _ | extract_lets
      | (dsimp +zetaDelta only)
  clear_value l2
  have kl4 : Keeps zz l4 := by
    unfold l4
    repeat' first
      | with_reducible assumption | (simp only [mk_keeps]) | with_reducible apply foldl_keeps | split
      | intro _ _ _ | intro _ _ | extract_lets | (dsimp +zetaDelta only)
  clear_value l4
  repeat' first
    | with_reducible assumption | with_reducible apply setNet_keeps | (simp only [mk_keeps])
    | with_reducible apply foldl_keeps | split | intro _ _ _ | intro _ _ | extract_lets
    | (dsimp +zetaDelta only)

theorem tablePut_keeps {zz : State} {dsn : Nat} {id : Nat} {slow : Bool} {s : State}
    (hs : Keeps zz s) :
    Keeps zz (tablePut dsn id slow s) := by
  unfold tablePut
  extract_lets l0
  repeat' first
    | with_reducible assumption | (simp only [mk_keeps]) | with_reducible apply foldl_keeps | split
    | intro _ _ _ | intro _ _ | extract_lets | (dsimp +zetaDelta only)

theorem assignOut_keeps {zz : State} {dsn : Nat} {id : Nat} {rejoin : Bool} {s : State}
    (hs : Keeps zz s) :
    Keeps zz (assignOut dsn id rejoin s) := by
  unfold assignOut
  extract_lets l0
  have kl0 : Keeps zz l0 := by
    unfold l0
    repeat' first
      | with_reducible assumption | with_reducible apply setMember_keeps | with_reducible apply rootNet_keeps
      | with_reducible apply tablePut_keeps | (simp only [mk_keeps]) | with_reducible apply foldl_keeps
      | split | intro _ _ _ | intro _ _ | extract_lets | (dsimp +zetaDelta only)
  clear_value l0
  repeat' first
    | with_reducible assumption | with_reducible apply sendForward_keeps | (simp only [mk_keeps])
    | with_reducible apply foldl_keeps | split | intro _ _ _ | intro _ _ | extract_lets
    | (dsimp +zetaDelta only)

theorem noteDrop_keeps {zz : State} {q : Nat} {cause : Nat} {it : Item} {s : State}
    (hs : Keeps zz s) :
    Keeps zz (noteDrop q cause it s) := by
  unfold noteDrop
  extract_lets l0 l1
  repeat' first
    | with_reducible assumption | with_reducible apply logSec_keeps | with_reducible apply count_keeps
    | with_reducible apply setQueue_keeps | (simp only [mk_keeps]) | with_reducible apply foldl_keeps | split
    | intro _ _ _ | intro _ _ | extract_lets | (dsimp +zetaDelta only)

theorem fireQueDone_keeps {zz : State} {q : Nat} {s : State}
    (hs : Keeps zz s) :
    Keeps zz (fireQueDone q s) := by
  unfold fireQueDone
  repeat' first
    | with_reducible assumption | with_reducible apply fire_keeps | (simp only [mk_keeps])
    | with_reducible apply foldl_keeps | split | intro _ _ _ | intro _ _ | extract_lets
    | (dsimp +zetaDelta only)

theorem queueMessage_keeps {zz : State} {q : Nat} {s : State}
    (hs : Keeps zz s) :
    Keeps zz (queueMessage q s) := by
  unfold queueMessage
  repeat' first
    | with_reducible assumption | with_reducible apply set_keeps | with_reducible apply requestMessage_keeps
    | (simp only [mk_keeps]) | with_reducible apply foldl_keeps | split | intro _ _ _ | intro _ _
    | extract_lets | (dsimp +zetaDelta only)

theorem queueInterrupt_keeps {zz : State} {q : Nat} {irq : Bool} {s : State}
    (hs : Keeps zz s) :
    Keeps zz (queueInterrupt q irq s) := by
  unfold queueInterrupt
  extract_lets l0
  have kl0 : Keeps zz l0 := by
    unfold l0
    repeat' first
      | with_reducible assumption | with_reducible apply count_keeps | (simp only [mk_keeps])
      | with_reducible apply foldl_keeps | split | intro _ _ _ | intro _ _ | extract_lets
      | (dsimp +zetaDelta only)
  clear_value l0
  repeat' first
    | with_reducible assumption | with_reducible apply queueMessage_keeps | (simp only [mk_keeps])
    | with_reducible apply foldl_keeps | split | intro _ _ _ | intro _ _ | extract_lets
    | (dsimp +zetaDelta only)

theorem writeTag_keeps {zz : State} {q : Nat} {bs : List Nat} {irq : Bool} {s : State}
    (hs : Keeps zz s) :
    Keeps zz (writeTag q bs irq s) := by
  unfold writeTag
  extract_lets l0 l1 l2 l3 l4
  have kl3 : Keeps zz l3 := by
    unfold l3
    repeat' first
      | with_reducible assumption | with_reducible apply set_keeps | with_reducible apply emit_keeps
      | (simp only [mk_keeps]) | with_reducible apply foldl_keeps | split | intro _ _ _ | intro _ _
      | extract_lets | (dsimp +zetaDelta only)
  clear_value l3
  have kl4 : Keeps zz l4 := by
    unfold l4
    repeat' first
      | with_reducible assumption | with_reducible apply fireQueDone_keeps
      | with_reducible apply wrapAdd_keeps | (simp only [mk_keeps]) | with_reducible apply foldl_keeps | split
      | intro _ _ _ | intro _ _ | extract_lets | (dsimp +zetaDelta only)
  clear_value l4
  repeat' first
    | with_reducible assumption | with_reducible apply queueInterrupt_keeps | (simp only [mk_keeps])
    | with_reducible apply foldl_keeps | split | intro _ _ _ | intro _ _ | extract_lets
    | (dsimp +zetaDelta only)

theorem deliver_keeps {zz : State} {q : Nat} {it : Item} {extra : Nat} {s : State} (hs : Keeps zz s) :
    Keeps zz (deliver q it extra s) :=
  writeTag_keeps (append_keeps hs)

theorem deliverEvent_keeps {zz : State} {q : Nat} {it : Item} {d : Desc} {s : State}
    (hs : Keeps zz s) :
    Keeps zz (deliverEvent q it d s) := by
  unfold deliverEvent
  extract_lets l0 l1 l2
  repeat' first
    | with_reducible assumption | with_reducible apply writeTag_keeps | with_reducible apply advanceCi_keeps
    | (simp only [mk_keeps]) | with_reducible apply foldl_keeps | split | intro _ _ _ | intro _ _
    | extract_lets | (dsimp +zetaDelta only)

theorem errorTag_keeps {zz : State} {q : Nat} {d : DropRun} {de : Desc} {s : State}
    (hs : Keeps zz s) :
    Keeps zz (errorTag q d de s) := by
  unfold errorTag
  repeat' first
    | with_reducible assumption | with_reducible apply deliverEvent_keeps | (simp only [mk_keeps])
    | with_reducible apply foldl_keeps | split | intro _ _ _ | intro _ _ | extract_lets
    | (dsimp +zetaDelta only)

theorem itemGone_keeps {zz : State} {it : Item} {s : State}
    (hs : Keeps zz s) :
    Keeps zz (itemGone it s) := by
  unfold itemGone
  extract_lets l0
  have kl0 : Keeps zz l0 := by
    unfold l0
    repeat' first
      | with_reducible assumption | with_reducible apply set_keeps | (simp only [mk_keeps])
      | with_reducible apply foldl_keeps | split | intro _ _ _ | intro _ _ | extract_lets
      | (dsimp +zetaDelta only)
  clear_value l0
  repeat' first
    | with_reducible assumption | with_reducible apply settleStream_keeps | (simp only [mk_keeps])
    | with_reducible apply foldl_keeps | split | intro _ _ _ | intro _ _ | extract_lets
    | (dsimp +zetaDelta only)

theorem pauseQueue_keeps {zz : State} {q : Nat} {reason : Nat} {s : State}
    (hs : Keeps zz s) :
    Keeps zz (pauseQueue q reason s) := by
  unfold pauseQueue
  extract_lets l0 l1
  have kl0 : Keeps zz l0 := by
    unfold l0
    repeat' first
      | with_reducible assumption | with_reducible apply fire_keeps | with_reducible apply set_keeps
      | (simp only [mk_keeps]) | with_reducible apply foldl_keeps | split | intro _ _ _ | intro _ _
      | extract_lets | (dsimp +zetaDelta only)
  clear_value l0
  have kl1 : Keeps zz l1 := by
    unfold l1
    repeat' first
      | with_reducible assumption | with_reducible apply set_keeps | (simp only [mk_keeps])
      | with_reducible apply foldl_keeps | split | intro _ _ _ | intro _ _ | extract_lets
      | (dsimp +zetaDelta only)
  clear_value l1
  repeat' first
    | with_reducible assumption | with_reducible apply queueMessage_keeps | (simp only [mk_keeps])
    | with_reducible apply foldl_keeps | split | intro _ _ _ | intro _ _ | extract_lets
    | (dsimp +zetaDelta only)

theorem badDesc_keeps {zz : State} {q : Nat} {it : Item} {d : Desc} {s : State}
    (hs : Keeps zz s) :
    Keeps zz (badDesc q it d s) := by
  unfold badDesc
  extract_lets l0 l1 l2 l3 l4 l5
  have kl1 : Keeps zz l1 := by
    unfold l1
    repeat' first
      | with_reducible assumption | with_reducible apply setQueue_keeps | (simp only [mk_keeps])
      | with_reducible apply foldl_keeps | split | intro _ _ _ | intro _ _ | extract_lets
      | (dsimp +zetaDelta only)
  clear_value l1
  have kl2 : Keeps zz l2 := by
    unfold l2
    repeat' first
      | with_reducible assumption | with_reducible apply noteDrop_keeps | with_reducible apply deliver_keeps
      | (simp only [mk_keeps]) | with_reducible apply foldl_keeps | split | intro _ _ _ | intro _ _
      | extract_lets | (dsimp +zetaDelta only)
  clear_value l2
  have kl5 : Keeps zz l5 := by
    unfold l5
    repeat' first
      | with_reducible assumption | with_reducible apply setQueue_keeps | with_reducible apply errorTag_keeps
      | (simp only [mk_keeps]) | with_reducible apply foldl_keeps | split | intro _ _ _ | intro _ _
      | extract_lets | (dsimp +zetaDelta only)
  clear_value l5
  repeat' first
    | with_reducible assumption | with_reducible apply itemGone_keeps | with_reducible apply log_keeps
    | with_reducible apply pauseQueue_keeps | (simp only [mk_keeps]) | with_reducible apply foldl_keeps
    | split | intro _ _ _ | intro _ _ | extract_lets | (dsimp +zetaDelta only)

theorem unsupported_keeps {zz : State} {tlp : Nat} {mem : Bool} {posted : Bool} {s : State}
    (hs : Keeps zz s) :
    Keeps zz (unsupported tlp mem posted s) := by
  unfold unsupported
  extract_lets l0
  have kl0 : Keeps zz l0 := by
    unfold l0
    repeat' first
      | with_reducible assumption | with_reducible apply logSec_keeps | with_reducible apply count_keeps
      | with_reducible apply aerSet_keeps | (simp only [mk_keeps]) | with_reducible apply foldl_keeps | split
      | intro _ _ _ | intro _ _ | extract_lets | (dsimp +zetaDelta only)
  clear_value l0
  repeat' first
    | with_reducible assumption | with_reducible apply emit_keeps | (simp only [mk_keeps])
    | with_reducible apply foldl_keeps | split | intro _ _ _ | intro _ _ | extract_lets
    | (dsimp +zetaDelta only)

theorem countInReset_keeps {zz : State} {s : State}
    (hs : Keeps zz s) :
    Keeps zz (countInReset s) := by
  unfold countInReset
  repeat' first
    | with_reducible assumption | with_reducible apply count_keeps | (simp only [mk_keeps])
    | with_reducible apply foldl_keeps | split | intro _ _ _ | intro _ _ | extract_lets
    | (dsimp +zetaDelta only)

theorem countEarly_keeps {zz : State} {s : State}
    (hs : Keeps zz s) :
    Keeps zz (countEarly s) := by
  unfold countEarly
  extract_lets l0 l1
  have kl0 : Keeps zz l0 := by
    unfold l0
    repeat' first
      | with_reducible assumption | with_reducible apply count_keeps | (simp only [mk_keeps])
      | with_reducible apply foldl_keeps | split | intro _ _ _ | intro _ _ | extract_lets
      | (dsimp +zetaDelta only)
  clear_value l0
  repeat' first
    | with_reducible assumption | with_reducible apply log_keeps | (simp only [mk_keeps])
    | with_reducible apply foldl_keeps | split | intro _ _ _ | intro _ _ | extract_lets
    | (dsimp +zetaDelta only)

theorem bar2Gate_keeps {zz : State} {op : State → State} {s : State}
    (hop : ∀ a0, Keeps zz a0 → Keeps zz (op a0)) (hs : Keeps zz s) :
    Keeps zz (bar2Gate op s) := by
  unfold bar2Gate
  repeat' first
    | with_reducible assumption | with_reducible apply unsupported_keeps
    | with_reducible apply countInReset_keeps | with_reducible apply countEarly_keeps | (simp only [mk_keeps])
    | with_reducible apply foldl_keeps | split | with_reducible apply hop | intro _ _ _ | intro _ _
    | extract_lets | (dsimp +zetaDelta only)

theorem dropItem_keeps {zz : State} {q : Nat} {cause : Nat} {it : Item} {s : State}
    (hs : Keeps zz s) :
    Keeps zz (dropItem q cause it s) := by
  unfold dropItem
  repeat' first
    | with_reducible assumption | with_reducible apply itemGone_keeps | with_reducible apply noteDrop_keeps
    | (simp only [mk_keeps]) | with_reducible apply foldl_keeps | split | intro _ _ _ | intro _ _
    | extract_lets | (dsimp +zetaDelta only)

theorem dropWaiting_keeps {zz : State} {q : Nat} {cause : Nat} {s : State}
    (hs : Keeps zz s) :
    Keeps zz (dropWaiting q cause s) := by
  unfold dropWaiting
  extract_lets l0
  repeat' first
    | with_reducible assumption | with_reducible apply dropItem_keeps | with_reducible apply setQueue_keeps
    | (simp only [mk_keeps]) | with_reducible apply foldl_keeps | split | intro _ _ _ | intro _ _
    | extract_lets | (dsimp +zetaDelta only)

theorem cutOpen_keeps {zz : State} {q : Nat} {extra : Nat} {cause : Nat} {s : State}
    (hs : Keeps zz s) :
    Keeps zz (cutOpen q extra cause s) := by
  unfold cutOpen
  extract_lets l0 l1
  have kl1 : Keeps zz l1 := by
    unfold l1
    repeat' first
      | with_reducible assumption | with_reducible apply setQueue_keeps | (simp only [mk_keeps])
      | with_reducible apply foldl_keeps | split | intro _ _ _ | intro _ _ | extract_lets
      | (dsimp +zetaDelta only)
  clear_value l1
  repeat' first
    | with_reducible assumption | with_reducible apply dropItem_keeps | with_reducible apply itemGone_keeps
    | with_reducible apply deliver_keeps | (simp only [mk_keeps]) | with_reducible apply foldl_keeps | split
    | intro _ _ _ | intro _ _ | extract_lets | (dsimp +zetaDelta only)

theorem setReads_keeps {zz : State} {rs : List ReadReq} {s : State}
    (hs : Keeps zz s) :
    Keeps zz (setReads rs s) := by
  unfold setReads
  extract_lets l0 l1 l2
  have kl1 : Keeps zz l1 := by
    unfold l1
    repeat' first
      | with_reducible assumption | (simp only [mk_keeps]) | with_reducible apply foldl_keeps | split
      | intro _ _ _ | intro _ _ | extract_lets | (dsimp +zetaDelta only)
  clear_value l1
  have kl2 : Keeps zz l2 := by
    unfold l2
    repeat' first
      | with_reducible assumption | with_reducible apply set_keeps | (simp only [mk_keeps])
      | with_reducible apply foldl_keeps | split | intro _ _ _ | intro _ _ | extract_lets
      | (dsimp +zetaDelta only)
  clear_value l2
  repeat' first
    | with_reducible assumption | with_reducible apply set_keeps | (simp only [mk_keeps])
    | with_reducible apply foldl_keeps | split | intro _ _ _ | intro _ _ | extract_lets
    | (dsimp +zetaDelta only)

theorem issueRead_keeps {zz : State} {q : Nat} {slot : Nat} {count : Nat} {a : Nat} {len : Nat} {s : State}
    (hs : Keeps zz s) :
    Keeps zz (issueRead q slot count a len s) := by
  unfold issueRead
  repeat' first
    | with_reducible assumption | with_reducible apply setReads_keeps | with_reducible apply emit_keeps
    | (simp only [mk_keeps]) | with_reducible apply foldl_keeps | split | intro _ _ _ | intro _ _
    | extract_lets | (dsimp +zetaDelta only)

theorem fetchDescs_keeps {zz : State} {q : Nat} {s : State}
    (hs : Keeps zz s) :
    Keeps zz (fetchDescs q s) := by
  unfold fetchDescs
  extract_lets l0 l1 l2 l3 l4 l5 l6 l7
  repeat' first
    | with_reducible assumption | with_reducible apply setQueue_keeps | with_reducible apply issueRead_keeps
    | (simp only [mk_keeps]) | with_reducible apply foldl_keeps | split | intro _ _ _ | intro _ _
    | extract_lets | (dsimp +zetaDelta only)

theorem writeOpen_keeps {zz : State} {q : Nat} {s : State} (hs : Keeps zz s) : Keeps zz (writeOpen q s) := by
  unfold writeOpen
  dsimp only
  split
  · exact hs
  · split
    · exact setQueue_keeps (append_keeps hs)
    · exact hs

theorem fillItem_keeps {zz : State} {q : Nat} {ready : List Desc} {s : State} (hs : Keeps zz s) :
    Keeps zz (fillItem q ready s) := by
  induction ready generalizing s with
  | nil => exact hs
  | cons d rest ih =>
    unfold fillItem
    dsimp only
    split
    · exact hs
    · split
      · exact hs
      · split
        · exact hs
        · split
          · exact badDesc_keeps (setQueue_keeps hs)
          · exact ih (advanceCi_keeps (setQueue_keeps (setQueue_keeps hs)))

theorem fillOpen_keeps {zz : State} {q : Nat} {s : State}
    (hs : Keeps zz s) :
    Keeps zz (fillOpen q s) := by
  unfold fillOpen
  repeat' first
    | with_reducible assumption | with_reducible apply writeOpen_keeps | with_reducible apply fillItem_keeps
    | (simp only [mk_keeps]) | with_reducible apply foldl_keeps | split | intro _ _ _ | intro _ _
    | extract_lets | (dsimp +zetaDelta only)

theorem promote_keeps {zz : State} {q : Nat} {s : State}
    (hs : Keeps zz s) :
    Keeps zz (promote q s) := by
  unfold promote
  extract_lets l0
  repeat' first
    | with_reducible assumption | with_reducible apply fetchDescs_keeps | with_reducible apply fillOpen_keeps
    | with_reducible apply setQueue_keeps | with_reducible apply dropItem_keeps | (simp only [mk_keeps])
    | with_reducible apply foldl_keeps | split | intro _ _ _ | intro _ _ | extract_lets
    | (dsimp +zetaDelta only)

theorem doorbell_keeps {zz : State} {q : Nat} {v : Nat} {s : State}
    (hs : Keeps zz s) :
    Keeps zz (doorbell q v s) := by
  unfold doorbell
  extract_lets l0 l1 l2 l3
  have kl3 : Keeps zz l3 := by
    unfold l3
    repeat' first
      | with_reducible assumption | with_reducible apply pauseQueue_keeps
      | with_reducible apply dropWaiting_keeps | with_reducible apply cutOpen_keeps | (simp only [mk_keeps])
      | with_reducible apply foldl_keeps | split | intro _ _ _ | intro _ _ | extract_lets
      | (dsimp +zetaDelta only)
  clear_value l3
  repeat' first
    | with_reducible assumption | with_reducible apply set_keeps | with_reducible apply log_keeps
    | with_reducible apply promote_keeps | with_reducible apply fillOpen_keeps | (simp only [mk_keeps])
    | with_reducible apply foldl_keeps | split | intro _ _ _ | intro _ _ | extract_lets
    | (dsimp +zetaDelta only)

theorem sendPending_keeps {zz : State} {s : State}
    (hs : Keeps zz s) :
    Keeps zz (sendPending s) := by
  unfold sendPending
  repeat' first
    | with_reducible assumption | with_reducible apply sendMessage_keeps | (simp only [mk_keeps])
    | with_reducible apply foldl_keeps | split | intro _ _ _ | intro _ _ | extract_lets
    | (dsimp +zetaDelta only)

theorem msixWrite_keeps {zz : State} {e : Nat} {d : Nat} {v : Nat} {s : State}
    (hs : Keeps zz s) :
    Keeps zz (msixWrite e d v s) := by
  unfold msixWrite
  extract_lets l0 l1 l2
  repeat' first
    | with_reducible assumption | with_reducible apply sendPending_keeps | (simp only [mk_keeps])
    | with_reducible apply foldl_keeps | split | intro _ _ _ | intro _ _ | extract_lets
    | (dsimp +zetaDelta only)

theorem bar2Dword_keeps {zz : State} {a : Nat} {v : Nat} {be : Nat} {s : State}
    (hs : Keeps zz s) :
    Keeps zz (bar2Dword a v be s) := by
  unfold bar2Dword
  repeat' first
    | with_reducible assumption | with_reducible apply bar2Gate_keeps | with_reducible apply doorbell_keeps
    | with_reducible apply msixWrite_keeps | (simp only [mk_keeps]) | with_reducible apply foldl_keeps | split
    | intro _ _ _ | intro _ _ | extract_lets | (dsimp +zetaDelta only)

theorem bar2Burst_keeps {zz : State} {a : Nat} {ws : List (Nat × Nat)} {s : State} (hs : Keeps zz s) :
    Keeps zz (bar2Burst a ws s) := by
  unfold bar2Burst
  split
  · exact bar2Dword_keeps hs
  · split
    · exact bar2Dword_keeps (bar2Dword_keeps hs)
    · exact hs
  · exact hs

theorem countAbsent_keeps {zz : State} {a : Nat} {kind : Nat} {s : State}
    (hs : Keeps zz s) :
    Keeps zz (countAbsent a kind s) := by
  unfold countAbsent
  extract_lets l0
  have kl0 : Keeps zz l0 := by
    unfold l0
    repeat' first
      | with_reducible assumption | with_reducible apply count_keeps | (simp only [mk_keeps])
      | with_reducible apply foldl_keeps | split | intro _ _ _ | intro _ _ | extract_lets
      | (dsimp +zetaDelta only)
  clear_value l0
  repeat' first
    | with_reducible assumption | with_reducible apply log_keeps | with_reducible apply set_keeps
    | (simp only [mk_keeps]) | with_reducible apply foldl_keeps | split | intro _ _ _ | intro _ _
    | extract_lets | (dsimp +zetaDelta only)

theorem coreGate_keeps {zz : State} {a : Nat} {v : Nat} {op : State → State} {s : State}
    (hop : ∀ a0, Keeps zz a0 → Keeps zz (op a0)) (hs : Keeps zz s) :
    Keeps zz (coreGate a v op s) := by
  unfold coreGate
  extract_lets l0 l1
  repeat' first
    | with_reducible assumption | with_reducible apply countAbsent_keeps | (simp only [mk_keeps])
    | with_reducible apply foldl_keeps | split | with_reducible apply hop | intro _ _ _ | intro _ _
    | extract_lets | (dsimp +zetaDelta only)

theorem hostGate_keeps {zz : State} {a : Nat} {v : Nat} {op : State → State} {s : State}
    (hop : ∀ a0, Keeps zz a0 → Keeps zz (op a0)) (hs : Keeps zz s) :
    Keeps zz (hostGate a v op s) := by
  unfold hostGate
  repeat' first
    | with_reducible assumption | with_reducible apply unsupported_keeps
    | with_reducible apply countInReset_keeps | with_reducible apply countEarly_keeps
    | with_reducible apply coreGate_keeps | (simp only [mk_keeps]) | with_reducible apply foldl_keeps | split
    | with_reducible apply hop | intro _ _ _ | intro _ _ | extract_lets | (dsimp +zetaDelta only)

theorem toExpert_keeps {zz : State} {u : Nat} {s : State}
    (hs : Keeps zz s) :
    Keeps zz (toExpert u s) := by
  unfold toExpert
  repeat' first
    | with_reducible assumption | with_reducible apply wrA_keeps | (simp only [mk_keeps])
    | with_reducible apply foldl_keeps | split | intro _ _ _ | intro _ _ | extract_lets
    | (dsimp +zetaDelta only)

theorem levelWrite_keeps {zz : State} {u : Nat} {v : Nat} {s : State}
    (hs : Keeps zz s) :
    Keeps zz (levelWrite u v s) := by
  unfold levelWrite
  extract_lets l0 l1 l2 l3
  have kl2 : Keeps zz l2 := by
    unfold l2
    repeat' first
      | with_reducible assumption | with_reducible apply wrA_keeps | (simp only [mk_keeps])
      | with_reducible apply foldl_keeps | split | intro _ _ _ | intro _ _ | extract_lets
      | (dsimp +zetaDelta only)
  clear_value l2
  have kl3 : Keeps zz l3 := by
    unfold l3
    repeat' first
      | with_reducible assumption | with_reducible apply set_keeps | (simp only [mk_keeps])
      | with_reducible apply foldl_keeps | split | intro _ _ _ | intro _ _ | extract_lets
      | (dsimp +zetaDelta only)
  clear_value l3
  repeat' first
    | with_reducible assumption | with_reducible apply toExpert_keeps
    | with_reducible apply restartRederive_keeps | (simp only [mk_keeps]) | with_reducible apply foldl_keeps
    | split | intro _ _ _ | intro _ _ | extract_lets | (dsimp +zetaDelta only)

theorem codedWrite_keeps {zz : State} {a : Nat} {v : Nat} {s : State}
    (hs : Keeps zz s) :
    Keeps zz (codedWrite a v s) := by
  unfold codedWrite
  extract_lets l0
  repeat' first
    | with_reducible assumption | with_reducible apply wrA_keeps | with_reducible apply expertDrop_keeps
    | (simp only [mk_keeps]) | with_reducible apply foldl_keeps | split | intro _ _ _ | intro _ _
    | extract_lets | (dsimp +zetaDelta only)

theorem closePicture_keeps {zz : State} {f : Feed} {id : Nat} {w : Nat} {h : Nat} {damage : Nat} {missing : Nat} {flags : Nat} {s : State}
    (hs : Keeps zz s) :
    Keeps zz (closePicture f id w h damage missing flags s) := by
  unfold closePicture
  extract_lets l0
  repeat' first
    | with_reducible assumption | with_reducible apply closeAssembly_keeps
    | with_reducible apply endItem_keeps | (simp only [mk_keeps]) | with_reducible apply foldl_keeps | split
    | intro _ _ _ | intro _ _ | extract_lets | (dsimp +zetaDelta only)

theorem closeFeed_keeps {zz : State} {id : Nat} {damage : Nat} {missing : Nat} {flags : Nat} {s : State}
    (hs : Keeps zz s) :
    Keeps zz (closeFeed id damage missing flags s) := by
  unfold closeFeed
  repeat' first
    | with_reducible assumption | with_reducible apply settleStream_keeps
    | with_reducible apply closePicture_keeps | with_reducible apply dropFeed_keeps
    | with_reducible apply setFeed_keeps | (simp only [mk_keeps]) | with_reducible apply foldl_keeps | split
    | intro _ _ _ | intro _ _ | extract_lets | (dsimp +zetaDelta only)

theorem closeClpFrame_keeps {zz : State} {st : Nat} {damage : Nat} {extra : Nat} {s : State}
    (hs : Keeps zz s) :
    Keeps zz (closeClpFrame st damage extra s) := by
  unfold closeClpFrame
  repeat' first
    | with_reducible assumption | with_reducible apply closeFeed_keeps | with_reducible apply setFeed_keeps
    | with_reducible apply fire_keeps | with_reducible apply logSec_keeps | with_reducible apply count_keeps
    | (simp only [mk_keeps]) | with_reducible apply foldl_keeps | split | intro _ _ _ | intro _ _
    | extract_lets | (dsimp +zetaDelta only)

theorem itemData_keeps {zz : State} {id : Nat} {bs : List Nat} {s : State}
    (hs : Keeps zz s) :
    Keeps zz (itemData id bs s) := by
  unfold itemData
  repeat' first
    | with_reducible assumption | with_reducible apply mapItem_keeps | (simp only [mk_keeps])
    | with_reducible apply foldl_keeps | split | intro _ _ _ | intro _ _ | extract_lets
    | (dsimp +zetaDelta only)

theorem feedBytes_keeps {zz : State} {id : Nat} {lb : Nat} {bs : List Nat} {s : State}
    (hs : Keeps zz s) :
    Keeps zz (feedBytes id lb bs s) := by
  unfold feedBytes
  repeat' first
    | with_reducible assumption | with_reducible apply itemData_keeps | with_reducible apply setFeed_keeps
    | (simp only [mk_keeps]) | with_reducible apply foldl_keeps | split | intro _ _ _ | intro _ _
    | extract_lets | (dsimp +zetaDelta only)

theorem closePortItem_keeps {zz : State} {n : Nat} {extra : Nat} {s : State}
    (hs : Keeps zz s) :
    Keeps zz (closePortItem n extra s) := by
  unfold closePortItem
  extract_lets l0 l1 l2 l3 l4
  have kl2 : Keeps zz l2 := by
    unfold l2
    repeat' first
      | with_reducible assumption | with_reducible apply feedBytes_keeps | (simp only [mk_keeps])
      | with_reducible apply foldl_keeps | split | intro _ _ _ | intro _ _ | extract_lets
      | (dsimp +zetaDelta only)
  clear_value l2
  have kl3 : Keeps zz l3 := by
    unfold l3
    repeat' first
      | with_reducible assumption | with_reducible apply setPort_keeps | (simp only [mk_keeps])
      | with_reducible apply foldl_keeps | split | intro _ _ _ | intro _ _ | extract_lets
      | (dsimp +zetaDelta only)
  clear_value l3
  repeat' first
    | with_reducible assumption | with_reducible apply fire_keeps | with_reducible apply closeFeed_keeps
    | with_reducible apply logSec_keeps | (simp only [mk_keeps]) | with_reducible apply foldl_keeps | split
    | intro _ _ _ | intro _ _ | extract_lets | (dsimp +zetaDelta only)

theorem truncatePar_keeps {zz : State} {n : Nat} {cause : Nat} {s : State}
    (hs : Keeps zz s) :
    Keeps zz (truncatePar n cause s) := by
  unfold truncatePar
  repeat' first
    | with_reducible assumption | with_reducible apply log_keeps | with_reducible apply closePortItem_keeps
    | (simp only [mk_keeps]) | with_reducible apply foldl_keeps | split | intro _ _ _ | intro _ _
    | extract_lets | (dsimp +zetaDelta only)

theorem emitChroma_keeps {zz : State} {p : Nat} {s : State}
    (hs : Keeps zz s) :
    Keeps zz (emitChroma p s) := by
  unfold emitChroma
  extract_lets l0 l1 l2
  try (have kl0 : Keeps zz l0 := by
        unfold l0
        repeat' first
          | with_reducible assumption | (simp only [mk_keeps]) | with_reducible apply foldl_keeps | split
          | intro _ _ _ | intro _ _ | extract_lets | (dsimp +zetaDelta only))
  clear_value l0
  repeat' first
    | with_reducible assumption | with_reducible apply itemData_keeps | (simp only [mk_keeps])
    | with_reducible apply foldl_keeps | split | intro _ _ _ | intro _ _ | extract_lets
    | (dsimp +zetaDelta only)

theorem emitRow_keeps {zz : State} {p : Nat} {y : Nat} {s : State}
    (hs : Keeps zz s) :
    Keeps zz (emitRow p y s) := by
  unfold emitRow
  extract_lets l0 l1 l2
  try (have kl0 : Keeps zz l0 := by
        unfold l0
        repeat' first
          | with_reducible assumption | (simp only [mk_keeps]) | with_reducible apply foldl_keeps | split
          | intro _ _ _ | intro _ _ | extract_lets | (dsimp +zetaDelta only))
  clear_value l0
  repeat' first
    | with_reducible assumption | with_reducible apply itemData_keeps | (simp only [mk_keeps])
    | with_reducible apply foldl_keeps | split | intro _ _ _ | intro _ _ | extract_lets
    | (dsimp +zetaDelta only)

theorem emitRows_keeps {zz : State} {p n : Nat} {s : State} (hs : Keeps zz s) : Keeps zz (emitRows p n s) := by
  induction n generalizing s with
  | zero => exact hs
  | succ n ih =>
    unfold emitRows
    dsimp only
    split
    · exact hs
    · exact ih (setPipe_keeps (emitRow_keeps hs))

theorem writeStats_keeps {zz : State} {p : Nat} {f : Feed} {s : State}
    (hs : Keeps zz s) :
    Keeps zz (writeStats p f s) := by
  unfold writeStats
  extract_lets l0 l1 l2 l3 l4 l5 l6 l7 l8 l9 l10 l11 l12
  try (have kl0 : Keeps zz l0 := by
        unfold l0
        repeat' first
          | with_reducible assumption | (simp only [mk_keeps]) | with_reducible apply foldl_keeps | split
          | intro _ _ _ | intro _ _ | extract_lets | (dsimp +zetaDelta only))
  clear_value l0
  try (have kl7 : Keeps zz l7 := by
        unfold l7
        repeat' first
          | with_reducible assumption | with_reducible apply clearRegs_keeps | (simp only [mk_keeps])
          | with_reducible apply foldl_keeps | split | intro _ _ _ | intro _ _ | extract_lets
          | (dsimp +zetaDelta only))
  clear_value l7
  try (have kl8 : Keeps zz l8 := by
        unfold l8
        repeat' first
          | with_reducible assumption | with_reducible apply wrWords_keeps | (simp only [mk_keeps])
          | with_reducible apply foldl_keeps | split | intro _ _ _ | intro _ _ | extract_lets
          | (dsimp +zetaDelta only))
  clear_value l8
  try (have kl9 : Keeps zz l9 := by
        unfold l9
        repeat' first
          | with_reducible assumption | with_reducible apply wrA_keeps | (simp only [mk_keeps])
          | with_reducible apply foldl_keeps | split | intro _ _ _ | intro _ _ | extract_lets
          | (dsimp +zetaDelta only))
  clear_value l9
  try (have kl12 : Keeps zz l12 := by
        unfold l12
        repeat' first
          | with_reducible assumption | with_reducible apply wrWords_keeps | (simp only [mk_keeps])
          | with_reducible apply foldl_keeps | split | intro _ _ _ | intro _ _ | extract_lets
          | (dsimp +zetaDelta only))
  clear_value l12
  repeat' first
    | with_reducible assumption | with_reducible apply fire_keeps | with_reducible apply set_keeps
    | (simp only [mk_keeps]) | with_reducible apply foldl_keeps | split | intro _ _ _ | intro _ _
    | extract_lets | (dsimp +zetaDelta only)

theorem endItems_keeps {zz : State} {p : Nat} {f : Feed} {s : State}
    (hs : Keeps zz s) :
    Keeps zz (endItems p f s) := by
  unfold endItems
  extract_lets l0 l1
  repeat' first
    | with_reducible assumption | with_reducible apply closePicture_keeps | with_reducible apply endItem_keeps
    | (simp only [mk_keeps]) | with_reducible apply foldl_keeps | split | intro _ _ _ | intro _ _
    | extract_lets | (dsimp +zetaDelta only)

theorem completePictures_keeps {zz : State} {p : Nat} {f : Feed} {s : State}
    (hs : Keeps zz s) :
    Keeps zz (completePictures p f s) := by
  unfold completePictures
  extract_lets l0 l1 l2 l3
  try (have kl1 : Keeps zz l1 := by
        unfold l1
        repeat' first
          | with_reducible assumption | (simp only [mk_keeps]) | with_reducible apply foldl_keeps | split
          | intro _ _ _ | intro _ _ | extract_lets | (dsimp +zetaDelta only))
  clear_value l1
  repeat' first
    | with_reducible assumption | (simp only [mk_keeps]) | with_reducible apply foldl_keeps | split
    | intro _ _ _ | intro _ _ | extract_lets | (dsimp +zetaDelta only)

theorem pipeRest_keeps {zz : State} {p : Nat} {s : State}
    (hs : Keeps zz s) :
    Keeps zz (pipeRest p s) := by
  unfold pipeRest
  repeat' first
    | with_reducible assumption | with_reducible apply set_keeps | (simp only [mk_keeps])
    | with_reducible apply foldl_keeps | split | intro _ _ _ | intro _ _ | extract_lets
    | (dsimp +zetaDelta only)

theorem pipeFlushDone_keeps {zz : State} {p : Nat} {s : State}
    (hs : Keeps zz s) :
    Keeps zz (pipeFlushDone p s) := by
  unfold pipeFlushDone
  extract_lets l0 l1
  have kl1 : Keeps zz l1 := by
    unfold l1
    repeat' first
      | with_reducible assumption | with_reducible apply emitChroma_keeps
      | with_reducible apply emitRows_keeps | (simp only [mk_keeps]) | with_reducible apply foldl_keeps
      | split | intro _ _ _ | intro _ _ | extract_lets | (dsimp +zetaDelta only)
  clear_value l1
  repeat' first
    | with_reducible assumption | with_reducible apply writeStats_keeps | with_reducible apply endItems_keeps
    | with_reducible apply completePictures_keeps | with_reducible apply fire_keeps
    | with_reducible apply dropFeed_keeps | with_reducible apply setPipe_keeps
    | with_reducible apply settleStream_keeps | with_reducible apply pipeRest_keeps | (simp only [mk_keeps])
    | with_reducible apply foldl_keeps | split | intro _ _ _ | intro _ _ | extract_lets
    | (dsimp +zetaDelta only)

theorem truncatePipes_keeps {zz : State} {st : Nat} {s : State}
    (hs : Keeps zz s) :
    Keeps zz (truncatePipes st s) := by
  unfold truncatePipes
  repeat' first
    | with_reducible assumption | with_reducible apply pipeFlushDone_keeps | with_reducible apply set_keeps
    | with_reducible apply setFeed_keeps | (simp only [mk_keeps]) | with_reducible apply foldl_keeps | split
    | intro _ _ _ | intro _ _ | extract_lets | (dsimp +zetaDelta only)

end Sys2Proof.Machine
end

