-- ==== Sys2Proof/Laws/Keeps2.lean ====
section
/-! SUPPORT. One lemma per operation, in the order in which the operations call each other: the operation keeps what `Keeps`
names (part 2 of 5). A lemma about a command says that it answers a next state that keeps it. -/

namespace Sys2Proof.Machine
set_option maxRecDepth 4000
set_option linter.all false

theorem truncateSources_keeps {zz : State} {st : Nat} {s : State}
    (hs : Keeps zz s) :
    Keeps zz (truncateSources st s) := by
  unfold truncateSources
  extract_lets l0 l1 l2
  have kl0 : Keeps zz l0 := by
    unfold l0
    repeat' first
      | with_reducible assumption | with_reducible apply closeClpFrame_keeps
      | with_reducible apply truncatePar_keeps | (simp only [mk_keeps]) | with_reducible apply foldl_keeps
      | split | intro _ _ _ | intro _ _ | extract_lets | (dsimp +zetaDelta only)
  clear_value l0
  have kl1 : Keeps zz l1 := by
    unfold l1
    repeat' first
      | with_reducible assumption | with_reducible apply truncatePipes_keeps | (simp only [mk_keeps])
      | with_reducible apply foldl_keeps | split | intro _ _ _ | intro _ _ | extract_lets
      | (dsimp +zetaDelta only)
  clear_value l1
  repeat' first
    | with_reducible assumption | (simp only [mk_keeps]) | with_reducible apply foldl_keeps | split
    | intro _ _ _ | intro _ _ | extract_lets | (dsimp +zetaDelta only)

theorem startItem_keeps {zz : State} {it : Item} {s : State}
    (hs : Keeps zz s) :
    Keeps zz (startItem it s) := by
  unfold startItem
  extract_lets l0 l1 l2 l3 l4 l5 l6 l7 l8
  have kl7 : Keeps zz l7 := by
    unfold l7
    repeat' first
      | with_reducible assumption | with_reducible apply log_keeps | (simp only [mk_keeps])
      | with_reducible apply foldl_keeps | split | intro _ _ _ | intro _ _ | extract_lets
      | (dsimp +zetaDelta only)
  clear_value l7
  repeat' first
    | with_reducible assumption | with_reducible apply itemGone_keeps | with_reducible apply logSec_keeps
    | with_reducible apply count_keeps | with_reducible apply dropItem_keeps
    | with_reducible apply promote_keeps | with_reducible apply setQueue_keeps | (simp only [mk_keeps])
    | with_reducible apply foldl_keeps | split | intro _ _ _ | intro _ _ | extract_lets
    | (dsimp +zetaDelta only)

theorem startItems_keeps {zz : State} {st : Nat} {s : State}
    (hs : Keeps zz s) :
    Keeps zz (startItems st s) := by
  unfold startItems
  extract_lets l0 l1
  repeat' first
    | with_reducible assumption | with_reducible apply startItem_keeps | (simp only [mk_keeps])
    | with_reducible apply foldl_keeps | split | intro _ _ _ | intro _ _ | extract_lets
    | (dsimp +zetaDelta only)

theorem truncateOn_keeps {zz : State} {st : Nat} {q : Nat} {s : State}
    (hs : Keeps zz s) :
    Keeps zz (truncateOn st q s) := by
  unfold truncateOn
  extract_lets l0 l1 l2 l3
  have kl2 : Keeps zz l2 := by
    unfold l2
    repeat' first
      | with_reducible assumption | with_reducible apply setQueue_keeps | (simp only [mk_keeps])
      | with_reducible apply foldl_keeps | split | intro _ _ _ | intro _ _ | extract_lets
      | (dsimp +zetaDelta only)
  clear_value l2
  have kl3 : Keeps zz l3 := by
    unfold l3
    repeat' first
      | with_reducible assumption | with_reducible apply cutOpen_keeps | (simp only [mk_keeps])
      | with_reducible apply foldl_keeps | split | intro _ _ _ | intro _ _ | extract_lets
      | (dsimp +zetaDelta only)
  clear_value l3
  repeat' first
    | with_reducible assumption | with_reducible apply promote_keeps | with_reducible apply dropItem_keeps
    | (simp only [mk_keeps]) | with_reducible apply foldl_keeps | split | intro _ _ _ | intro _ _
    | extract_lets | (dsimp +zetaDelta only)

theorem truncateStream_keeps {zz : State} {st : Nat} {s : State}
    (hs : Keeps zz s) :
    Keeps zz (truncateStream st s) := by
  unfold truncateStream
  extract_lets l0 l1 l2 l3
  have kl0 : Keeps zz l0 := by
    unfold l0
    repeat' first
      | with_reducible assumption | with_reducible apply countDropped_keeps
      | with_reducible apply setBusy_keeps | with_reducible apply setPort_keeps | (simp only [mk_keeps])
      | with_reducible apply foldl_keeps | split | intro _ _ _ | intro _ _ | extract_lets
      | (dsimp +zetaDelta only)
  clear_value l0
  have kl1 : Keeps zz l1 := by
    unfold l1
    repeat' first
      | with_reducible assumption | with_reducible apply truncateSources_keeps | (simp only [mk_keeps])
      | with_reducible apply foldl_keeps | split | intro _ _ _ | intro _ _ | extract_lets
      | (dsimp +zetaDelta only)
  clear_value l1
  have kl2 : Keeps zz l2 := by
    unfold l2
    repeat' first
      | with_reducible assumption | with_reducible apply startItems_keeps
      | with_reducible apply closeAssembly_keeps | (simp only [mk_keeps]) | with_reducible apply foldl_keeps
      | split | intro _ _ _ | intro _ _ | extract_lets | (dsimp +zetaDelta only)
  clear_value l2
  have kl3 : Keeps zz l3 := by
    unfold l3
    repeat' first
      | with_reducible assumption | with_reducible apply count_keeps | (simp only [mk_keeps])
      | with_reducible apply foldl_keeps | split | intro _ _ _ | intro _ _ | extract_lets
      | (dsimp +zetaDelta only)
  clear_value l3
  repeat' first
    | with_reducible assumption | with_reducible apply truncateOn_keeps | (simp only [mk_keeps])
    | with_reducible apply foldl_keeps | split | intro _ _ _ | intro _ _ | extract_lets
    | (dsimp +zetaDelta only)

theorem drainExpire_keeps {zz : State} {s : State}
    (hs : Keeps zz s) :
    Keeps zz (drainExpire s) := by
  unfold drainExpire
  extract_lets l0 l1 l2 l3 l4 l5 l6
  have kl2 : Keeps zz l2 := by
    unfold l2
    repeat' first
      | with_reducible assumption | with_reducible apply truncateStream_keeps | (simp only [mk_keeps])
      | with_reducible apply foldl_keeps | split | intro _ _ _ | intro _ _ | extract_lets
      | (dsimp +zetaDelta only)
  clear_value l2
  have kl4 : Keeps zz l4 := by
    unfold l4
    repeat' first
      | with_reducible assumption | with_reducible apply log_keeps | with_reducible apply fire_keeps
      | (simp only [mk_keeps]) | with_reducible apply foldl_keeps | split | intro _ _ _ | intro _ _
      | extract_lets | (dsimp +zetaDelta only)
  clear_value l4
  have kl5 : Keeps zz l5 := by
    unfold l5
    repeat' first
      | with_reducible assumption | with_reducible apply set_keeps | (simp only [mk_keeps])
      | with_reducible apply foldl_keeps | split | intro _ _ _ | intro _ _ | extract_lets
      | (dsimp +zetaDelta only)
  clear_value l5
  repeat' first
    | with_reducible assumption | (simp only [mk_keeps]) | with_reducible apply foldl_keeps | split
    | intro _ _ _ | intro _ _ | extract_lets | (dsimp +zetaDelta only)

theorem glbReg_keeps {zz : State} {b : Nat} {a : Nat} {v : Nat} {s : State}
    (hs : Keeps zz s) :
    Keeps zz (glbReg b a v s) := by
  unfold glbReg
  extract_lets l0
  have kl0 : Keeps zz l0 := by
    unfold l0
    repeat' first
      | with_reducible assumption | with_reducible apply codedWrite_keeps | (simp only [mk_keeps])
      | with_reducible apply foldl_keeps | split | intro _ _ _ | intro _ _ | extract_lets
      | (dsimp +zetaDelta only)
  clear_value l0
  repeat' first
    | with_reducible assumption | with_reducible apply requestMode_keeps
    | with_reducible apply codedWrite_keeps | with_reducible apply drainExpire_keeps | (simp only [mk_keeps])
    | with_reducible apply foldl_keeps | split | intro _ _ _ | intro _ _ | extract_lets
    | (dsimp +zetaDelta only)

theorem fspeedWrite_keeps {zz : State} {v : Nat} {s : State}
    (hs : Keeps zz s) :
    Keeps zz (fspeedWrite v s) := by
  unfold fspeedWrite
  repeat' first
    | with_reducible assumption | with_reducible apply codedWrite_keeps | with_reducible apply log_keeps
    | (simp only [mk_keeps]) | with_reducible apply foldl_keeps | split | intro _ _ _ | intro _ _
    | extract_lets | (dsimp +zetaDelta only)

theorem dropRederive_keeps {zz : State} {u : Nat} {s : State}
    (hs : Keeps zz s) :
    Keeps zz (dropRederive u s) := by
  unfold dropRederive
  extract_lets l0
  repeat' first
    | with_reducible assumption | (simp only [mk_keeps]) | with_reducible apply foldl_keeps | split
    | intro _ _ _ | intro _ _ | extract_lets | (dsimp +zetaDelta only)

theorem timKept_keeps {zz : State} {s : State} (hs : Keeps zz s) : Keeps zz (timKept s) := by
  refine hs.trans ⟨?_, rfl, rfl, rfl, rfl, List.prefix_refl _, Nat.le_refl _⟩
  intro h
  have gen : ∀ (l m : List (Nat × Word)), twf (fun a => BitVec.ofNat 32 (resetWord a)) m = true →
      twf (fun a => BitVec.ofNat 32 (resetWord a)) (l.foldl (fun m e =>
        if within e.1 0x100000 0x200000 then
          let rw := match rowAt e.1 with | some (r, _, _) => r.rw | none => 0
          let v := (e.2.toNat &&& rw) ||| (resetWord e.1 &&& (2 ^ 32 - 1 - rw))
          tput (BitVec.ofNat 32 (resetWord e.1)) m e.1 (BitVec.ofNat 32 v)
        else m) m) = true := by
    intro l
    induction l with
    | nil => exact fun m hm => hm
    | cons e l ih =>
      intro m hm
      refine ih _ ?_
      beta_reduce
      split
      · exact twf_tput (fun a => BitVec.ofNat 32 (resetWord a)) m e.1 _ hm
      · exact hm
  exact gen s.regs s.regs h

theorem timConfigApply_keeps {zz : State} {s : State}
    (hs : Keeps zz s) :
    Keeps zz (timConfigApply s) := by
  unfold timConfigApply
  extract_lets l0 l1 l2 l3
  have kl2 : Keeps zz l2 := by
    unfold l2
    repeat' first
      | with_reducible assumption | (simp only [mk_keeps]) | with_reducible apply foldl_keeps | split
      | intro _ _ _ | intro _ _ | extract_lets | (dsimp +zetaDelta only)
  clear_value l2
  have kl3 : Keeps zz l3 := by
    unfold l3
    repeat' first
      | with_reducible assumption | with_reducible apply deriveGain_keeps | (simp only [mk_keeps])
      | with_reducible apply foldl_keeps | split | intro _ _ _ | intro _ _ | extract_lets
      | (dsimp +zetaDelta only)
  clear_value l3
  repeat' first
    | with_reducible assumption | with_reducible apply reselect_keeps | (simp only [mk_keeps])
    | with_reducible apply foldl_keeps | split | intro _ _ _ | intro _ _ | extract_lets
    | (dsimp +zetaDelta only)

theorem dropHistories_keeps {zz : State} {s : State}
    (hs : Keeps zz s) :
    Keeps zz (dropHistories s) := by
  unfold dropHistories
  extract_lets l0 l1 l2
  have kl2 : Keeps zz l2 := by
    unfold l2
    repeat' first
      | with_reducible assumption | (simp only [mk_keeps]) | with_reducible apply foldl_keeps | split
      | intro _ _ _ | intro _ _ | extract_lets | (dsimp +zetaDelta only)
  clear_value l2
  repeat' first
    | with_reducible assumption | with_reducible apply set_keeps | (simp only [mk_keeps])
    | with_reducible apply foldl_keeps | split | intro _ _ _ | intro _ _ | extract_lets
    | (dsimp +zetaDelta only)

theorem timeBaseReset_keeps {zz : State} {all : Bool} {s : State}
    (hs : Keeps zz s) :
    Keeps zz (timeBaseReset all s) := by
  unfold timeBaseReset
  extract_lets l0 l1 l2
  have kl0 : Keeps zz l0 := by
    unfold l0
    repeat' first
      | with_reducible assumption | with_reducible apply clearRegs_keeps | with_reducible apply timKept_keeps
      | (simp only [mk_keeps]) | with_reducible apply foldl_keeps | split | intro _ _ _ | intro _ _
      | extract_lets | (dsimp +zetaDelta only)
  clear_value l0
  have kl1 : Keeps zz l1 := by
    unfold l1
    repeat' first
      | with_reducible assumption | (simp only [mk_keeps]) | with_reducible apply foldl_keeps | split
      | intro _ _ _ | intro _ _ | extract_lets | (dsimp +zetaDelta only)
  clear_value l1
  have kl2 : Keeps zz l2 := by
    unfold l2
    repeat' first
      | with_reducible assumption | with_reducible apply deriveTim_keeps | (simp only [mk_keeps])
      | with_reducible apply foldl_keeps | split | intro _ _ _ | intro _ _ | extract_lets
      | (dsimp +zetaDelta only)
  clear_value l2
  repeat' first
    | with_reducible assumption | with_reducible apply requestEpoch_keeps
    | with_reducible apply timConfigApply_keeps | with_reducible apply dropHistories_keeps
    | (simp only [mk_keeps]) | with_reducible apply foldl_keeps | split | intro _ _ _ | intro _ _
    | extract_lets | (dsimp +zetaDelta only)

theorem quadResetLane_keeps {zz : State} {n : Nat} {s : State}
    (hs : Keeps zz s) :
    Keeps zz (quadResetLane n s) := by
  unfold quadResetLane
  extract_lets l0 l1 l2
  have kl0 : Keeps zz l0 := by
    unfold l0
    repeat' first
      | with_reducible assumption | with_reducible apply enterLane_keeps | (simp only [mk_keeps])
      | with_reducible apply foldl_keeps | split | intro _ _ _ | intro _ _ | extract_lets
      | (dsimp +zetaDelta only)
  clear_value l0
  have kl1 : Keeps zz l1 := by
    unfold l1
    repeat' first
      | with_reducible assumption | with_reducible apply set_keeps | (simp only [mk_keeps])
      | with_reducible apply foldl_keeps | split | intro _ _ _ | intro _ _ | extract_lets
      | (dsimp +zetaDelta only)
  clear_value l1
  have kl2 : Keeps zz l2 := by
    unfold l2
    repeat' first
      | with_reducible assumption | with_reducible apply set_keeps | (simp only [mk_keeps])
      | with_reducible apply foldl_keeps | split | intro _ _ _ | intro _ _ | extract_lets
      | (dsimp +zetaDelta only)
  clear_value l2
  repeat' first
    | with_reducible assumption | with_reducible apply setLane_keeps | (simp only [mk_keeps])
    | with_reducible apply foldl_keeps | split | intro _ _ _ | intro _ _ | extract_lets
    | (dsimp +zetaDelta only)

theorem truncateClp_keeps {zz : State} {st : Nat} {cause : Nat} {s : State}
    (hs : Keeps zz s) :
    Keeps zz (truncateClp st cause s) := by
  unfold truncateClp
  repeat' first
    | with_reducible assumption | with_reducible apply log_keeps | with_reducible apply count_keeps
    | with_reducible apply closeClpFrame_keeps | (simp only [mk_keeps]) | with_reducible apply foldl_keeps
    | split | intro _ _ _ | intro _ _ | extract_lets | (dsimp +zetaDelta only)

theorem clearReliable_keeps {zz : State} {g : Nat} {s : State}
    (hs : Keeps zz s) :
    Keeps zz (clearReliable g s) := by
  unfold clearReliable
  extract_lets l0 l1
  have kl1 : Keeps zz l1 := by
    unfold l1
    repeat' first
      | with_reducible assumption | with_reducible apply setGroup_keeps | (simp only [mk_keeps])
      | with_reducible apply foldl_keeps | split | intro _ _ _ | intro _ _ | extract_lets
      | (dsimp +zetaDelta only)
  clear_value l1
  repeat' first
    | with_reducible assumption | with_reducible apply set_keeps | (simp only [mk_keeps])
    | with_reducible apply foldl_keeps | split | intro _ _ _ | intro _ _ | extract_lets
    | (dsimp +zetaDelta only)

theorem idleTriggers_keeps {zz : State} {g : Nat} {count : Bool} {s : State}
    (hs : Keeps zz s) :
    Keeps zz (idleTriggers g count s) := by
  unfold idleTriggers
  repeat' first
    | with_reducible assumption | with_reducible apply setBusy_keeps | with_reducible apply countDropped_keeps
    | (simp only [mk_keeps]) | with_reducible apply foldl_keeps | split | intro _ _ _ | intro _ _
    | extract_lets | (dsimp +zetaDelta only)

theorem endMailbox_keeps {zz : State} {g : Nat} {status : Nat} {s : State}
    (hs : Keeps zz s) :
    Keeps zz (endMailbox g status s) := by
  unfold endMailbox
  extract_lets l0
  have kl0 : Keeps zz l0 := by
    unfold l0
    repeat' first
      | with_reducible assumption | with_reducible apply set_keeps | (simp only [mk_keeps])
      | with_reducible apply foldl_keeps | split | intro _ _ _ | intro _ _ | extract_lets
      | (dsimp +zetaDelta only)
  clear_value l0
  repeat' first
    | with_reducible assumption | with_reducible apply log_keeps | (simp only [mk_keeps])
    | with_reducible apply foldl_keeps | split | intro _ _ _ | intro _ _ | extract_lets
    | (dsimp +zetaDelta only)

theorem closeGroup_keeps {zz : State} {g : Nat} {cause : Nat} {mail : Nat} {count : Bool} {s : State}
    (hs : Keeps zz s) :
    Keeps zz (closeGroup g cause mail count s) := by
  unfold closeGroup
  extract_lets l0
  have kl0 : Keeps zz l0 := by
    unfold l0
    repeat' first
      | with_reducible assumption | with_reducible apply truncateClp_keeps | (simp only [mk_keeps])
      | with_reducible apply foldl_keeps | split | intro _ _ _ | intro _ _ | extract_lets
      | (dsimp +zetaDelta only)
  clear_value l0
  repeat' first
    | with_reducible assumption | with_reducible apply clearReliable_keeps
    | with_reducible apply idleTriggers_keeps | with_reducible apply endMailbox_keeps | (simp only [mk_keeps])
    | with_reducible apply foldl_keeps | split | intro _ _ _ | intro _ _ | extract_lets
    | (dsimp +zetaDelta only)

theorem trainFail_keeps {zz : State} {n : Nat} {reason : Nat} {s : State}
    (hs : Keeps zz s) :
    Keeps zz (trainFail n reason s) := by
  unfold trainFail
  extract_lets l0 l1 l2 l3
  have kl2 : Keeps zz l2 := by
    unfold l2
    repeat' first
      | with_reducible assumption | with_reducible apply set_keeps | with_reducible apply count_keeps
      | (simp only [mk_keeps]) | with_reducible apply foldl_keeps | split | intro _ _ _ | intro _ _
      | extract_lets | (dsimp +zetaDelta only)
  clear_value l2
  have kl3 : Keeps zz l3 := by
    unfold l3
    repeat' first
      | with_reducible assumption | with_reducible apply set_keeps | with_reducible apply enterLane_keeps
      | (simp only [mk_keeps]) | with_reducible apply foldl_keeps | split | intro _ _ _ | intro _ _
      | extract_lets | (dsimp +zetaDelta only)
  clear_value l3
  repeat' first
    | with_reducible assumption | with_reducible apply log_keeps | (simp only [mk_keeps])
    | with_reducible apply foldl_keeps | split | intro _ _ _ | intro _ _ | extract_lets
    | (dsimp +zetaDelta only)

theorem groupDown_keeps {zz : State} {g : Nat} {s : State}
    (hs : Keeps zz s) :
    Keeps zz (groupDown g s) := by
  unfold groupDown
  extract_lets l0 l1 l2 l3 l4 l5
  have kl1 : Keeps zz l1 := by
    unfold l1
    repeat' first
      | with_reducible assumption | with_reducible apply closeGroup_keeps | (simp only [mk_keeps])
      | with_reducible apply foldl_keeps | split | intro _ _ _ | intro _ _ | extract_lets
      | (dsimp +zetaDelta only)
  clear_value l1
  have kl2 : Keeps zz l2 := by
    unfold l2
    repeat' first
      | with_reducible assumption | with_reducible apply set_keeps | (simp only [mk_keeps])
      | with_reducible apply foldl_keeps | split | intro _ _ _ | intro _ _ | extract_lets
      | (dsimp +zetaDelta only)
  clear_value l2
  have kl3 : Keeps zz l3 := by
    unfold l3
    repeat' first
      | with_reducible assumption | with_reducible apply set_keeps | (simp only [mk_keeps])
      | with_reducible apply foldl_keeps | split | intro _ _ _ | intro _ _ | extract_lets
      | (dsimp +zetaDelta only)
  clear_value l3
  have kl4 : Keeps zz l4 := by
    unfold l4
    repeat' first
      | with_reducible assumption | with_reducible apply set_keeps | (simp only [mk_keeps])
      | with_reducible apply foldl_keeps | split | intro _ _ _ | intro _ _ | extract_lets
      | (dsimp +zetaDelta only)
  clear_value l4
  have kl5 : Keeps zz l5 := by
    unfold l5
    repeat' first
      | with_reducible assumption | with_reducible apply setGroup_keeps | (simp only [mk_keeps])
      | with_reducible apply foldl_keeps | split | intro _ _ _ | intro _ _ | extract_lets
      | (dsimp +zetaDelta only)
  clear_value l5
  repeat' first
    | with_reducible assumption | with_reducible apply trainFail_keeps | (simp only [mk_keeps])
    | with_reducible apply foldl_keeps | split | intro _ _ _ | intro _ _ | extract_lets
    | (dsimp +zetaDelta only)

theorem groupCheck_keeps {zz : State} {g : Nat} {s : State}
    (hs : Keeps zz s) :
    Keeps zz (groupCheck g s) := by
  unfold groupCheck
  repeat' first
    | with_reducible assumption | with_reducible apply groupDown_keeps | with_reducible apply syncLanes_keeps
    | (simp only [mk_keeps]) | with_reducible apply foldl_keeps | split | intro _ _ _ | intro _ _
    | extract_lets | (dsimp +zetaDelta only)

theorem laneLost_keeps {zz : State} {n : Nat} {s : State}
    (hs : Keeps zz s) :
    Keeps zz (laneLost n s) := by
  unfold laneLost
  extract_lets l0 l1 l2
  have kl2 : Keeps zz l2 := by
    unfold l2
    repeat' first
      | with_reducible assumption | with_reducible apply setLane_keeps | with_reducible apply set_keeps
      | (simp only [mk_keeps]) | with_reducible apply foldl_keeps | split | intro _ _ _ | intro _ _
      | extract_lets | (dsimp +zetaDelta only)
  clear_value l2
  repeat' first
    | with_reducible assumption | with_reducible apply groupCheck_keeps | (simp only [mk_keeps])
    | with_reducible apply foldl_keeps | split | intro _ _ _ | intro _ _ | extract_lets
    | (dsimp +zetaDelta only)

theorem clearUnit_keeps {zz : State} {u : Nat} {s : State}
    (hs : Keeps zz s) :
    Keeps zz (clearUnit u s) := by
  unfold clearUnit
  repeat' first
    | with_reducible assumption | with_reducible apply clearRegs_keeps | (simp only [mk_keeps])
    | with_reducible apply foldl_keeps | split | intro _ _ _ | intro _ _ | extract_lets
    | (dsimp +zetaDelta only)

theorem resetLnp_keeps {zz : State} {s : State}
    (hs : Keeps zz s) :
    Keeps zz (resetLnp s) := by
  unfold resetLnp
  extract_lets l0 l1
  have kl0 : Keeps zz l0 := by
    unfold l0
    repeat' first
      | with_reducible assumption | with_reducible apply quadResetLane_keeps
      | with_reducible apply laneLost_keeps | (simp only [mk_keeps]) | with_reducible apply foldl_keeps
      | split | intro _ _ _ | intro _ _ | extract_lets | (dsimp +zetaDelta only)
  clear_value l0
  have kl1 : Keeps zz l1 := by
    unfold l1
    repeat' first
      | with_reducible assumption | with_reducible apply clearUnit_keeps | (simp only [mk_keeps])
      | with_reducible apply foldl_keeps | split | intro _ _ _ | intro _ _ | extract_lets
      | (dsimp +zetaDelta only)
  clear_value l1
  repeat' first
    | with_reducible assumption | (simp only [mk_keeps]) | with_reducible apply foldl_keeps | split
    | intro _ _ _ | intro _ _ | extract_lets | (dsimp +zetaDelta only)

theorem idleCon_keeps {zz : State} {i : Nat} {s : State}
    (hs : Keeps zz s) :
    Keeps zz (idleCon i s) := by
  unfold idleCon
  extract_lets l0
  have kl0 : Keeps zz l0 := by
    unfold l0
    repeat' first
      | with_reducible assumption | with_reducible apply dropHeld_keeps | (simp only [mk_keeps])
      | with_reducible apply foldl_keeps | split | intro _ _ _ | intro _ _ | extract_lets
      | (dsimp +zetaDelta only)
  clear_value l0
  repeat' first
    | with_reducible assumption | with_reducible apply setBusy_keeps | (simp only [mk_keeps])
    | with_reducible apply foldl_keeps | split | intro _ _ _ | intro _ _ | extract_lets
    | (dsimp +zetaDelta only)

theorem idleCons_keeps {zz : State} {lo : Nat} {hi : Nat} {s : State}
    (hs : Keeps zz s) :
    Keeps zz (idleCons lo hi s) := by
  unfold idleCons
  repeat' first
    | with_reducible assumption | with_reducible apply idleCon_keeps | (simp only [mk_keeps])
    | with_reducible apply foldl_keeps | split | intro _ _ _ | intro _ _ | extract_lets
    | (dsimp +zetaDelta only)

theorem dropFeeds_keeps {zz : State} {gone : Feed → Bool} {s : State}
    (hs : Keeps zz s) :
    Keeps zz (dropFeeds gone s) := by
  unfold dropFeeds
  extract_lets l0
  repeat' first
    | with_reducible assumption | (simp only [mk_keeps]) | with_reducible apply foldl_keeps | split
    | intro _ _ _ | intro _ _ | extract_lets | (dsimp +zetaDelta only)

theorem resetClp_keeps {zz : State} {s : State}
    (hs : Keeps zz s) :
    Keeps zz (resetClp s) := by
  unfold resetClp
  extract_lets l0 l1
  have kl0 : Keeps zz l0 := by
    unfold l0
    repeat' first
      | with_reducible assumption | with_reducible apply idleCons_keeps | with_reducible apply dropFeeds_keeps
      | (simp only [mk_keeps]) | with_reducible apply foldl_keeps | split | intro _ _ _ | intro _ _
      | extract_lets | (dsimp +zetaDelta only)
  clear_value l0
  have kl1 : Keeps zz l1 := by
    unfold l1
    repeat' first
      | with_reducible assumption | with_reducible apply clearUnit_keeps | (simp only [mk_keeps])
      | with_reducible apply foldl_keeps | split | intro _ _ _ | intro _ _ | extract_lets
      | (dsimp +zetaDelta only)
  clear_value l1
  repeat' first
    | with_reducible assumption | (simp only [mk_keeps]) | with_reducible apply foldl_keeps | split
    | intro _ _ _ | intro _ _ | extract_lets | (dsimp +zetaDelta only)

theorem resetPar_keeps {zz : State} {s : State}
    (hs : Keeps zz s) :
    Keeps zz (resetPar s) := by
  unfold resetPar
  extract_lets l0
  have kl0 : Keeps zz l0 := by
    unfold l0
    repeat' first
      | with_reducible assumption | with_reducible apply clearUnit_keeps | with_reducible apply idleCons_keeps
      | with_reducible apply dropFeeds_keeps | (simp only [mk_keeps]) | with_reducible apply foldl_keeps
      | split | intro _ _ _ | intro _ _ | extract_lets | (dsimp +zetaDelta only)
  clear_value l0
  repeat' first
    | with_reducible assumption | (simp only [mk_keeps]) | with_reducible apply foldl_keeps | split
    | intro _ _ _ | intro _ _ | extract_lets | (dsimp +zetaDelta only)

theorem resetPix_keeps {zz : State} {s : State}
    (hs : Keeps zz s) :
    Keeps zz (resetPix s) := by
  unfold resetPix
  extract_lets l0
  have kl0 : Keeps zz l0 := by
    unfold l0
    repeat' first
      | with_reducible assumption | with_reducible apply clearUnit_keeps
      | with_reducible apply dropFeeds_keeps | (simp only [mk_keeps]) | with_reducible apply foldl_keeps
      | split | intro _ _ _ | intro _ _ | extract_lets | (dsimp +zetaDelta only)
  clear_value l0
  repeat' first
    | with_reducible assumption | (simp only [mk_keeps]) | with_reducible apply foldl_keeps | split
    | intro _ _ _ | intro _ _ | extract_lets | (dsimp +zetaDelta only)

theorem loseSource_keeps {zz : State} {n : Nat} {s : State}
    (hs : Keeps zz s) :
    Keeps zz (loseSource n s) := by
  unfold loseSource
  repeat' first
    | with_reducible assumption | with_reducible apply loseWheel_keeps | (simp only [mk_keeps])
    | with_reducible apply foldl_keeps | split | intro _ _ _ | intro _ _ | extract_lets
    | (dsimp +zetaDelta only)

theorem resetPos_keeps {zz : State} {s : State}
    (hs : Keeps zz s) :
    Keeps zz (resetPos s) := by
  unfold resetPos
  extract_lets l0 l1 l2
  have kl0 : Keeps zz l0 := by
    unfold l0
    repeat' first
      | with_reducible assumption | with_reducible apply keepLevels_keeps
      | with_reducible apply clearUnit_keeps | (simp only [mk_keeps]) | with_reducible apply foldl_keeps
      | split | intro _ _ _ | intro _ _ | extract_lets | (dsimp +zetaDelta only)
  clear_value l0
  have kl2 : Keeps zz l2 := by
    unfold l2
    repeat' first
      | with_reducible assumption | (simp only [mk_keeps]) | with_reducible apply foldl_keeps | split
      | intro _ _ _ | intro _ _ | extract_lets | (dsimp +zetaDelta only)
  clear_value l2
  repeat' first
    | with_reducible assumption | with_reducible apply idleCons_keeps | with_reducible apply loseSource_keeps
    | (simp only [mk_keeps]) | with_reducible apply foldl_keeps | split | intro _ _ _ | intro _ _
    | extract_lets | (dsimp +zetaDelta only)

theorem recheckAll_keeps {zz : State} {s : State}
    (hs : Keeps zz s) :
    Keeps zz (recheckAll s) := by
  unfold recheckAll
  repeat' first
    | with_reducible assumption | with_reducible apply recheckStream_keeps | (simp only [mk_keeps])
    | with_reducible apply foldl_keeps | split | intro _ _ _ | intro _ _ | extract_lets
    | (dsimp +zetaDelta only)

theorem resetTws_keeps {zz : State} {s : State}
    (hs : Keeps zz s) :
    Keeps zz (resetTws s) := by
  unfold resetTws
  extract_lets l0 l1
  have kl0 : Keeps zz l0 := by
    unfold l0
    repeat' first
      | with_reducible assumption | with_reducible apply idleCons_keeps | with_reducible apply clearUnit_keeps
      | (simp only [mk_keeps]) | with_reducible apply foldl_keeps | split | intro _ _ _ | intro _ _
      | extract_lets | (dsimp +zetaDelta only)
  clear_value l0
  repeat' first
    | with_reducible assumption | with_reducible apply recheckAll_keeps | (simp only [mk_keeps])
    | with_reducible apply foldl_keeps | split | intro _ _ _ | intro _ _ | extract_lets
    | (dsimp +zetaDelta only)

theorem resetBtm_keeps {zz : State} {s : State}
    (hs : Keeps zz s) :
    Keeps zz (resetBtm s) := by
  unfold resetBtm
  extract_lets l0 l1 l2 l3
  have kl0 : Keeps zz l0 := by
    unfold l0
    repeat' first
      | with_reducible assumption | with_reducible apply clearRegs_keeps | (simp only [mk_keeps])
      | with_reducible apply foldl_keeps | split | intro _ _ _ | intro _ _ | extract_lets
      | (dsimp +zetaDelta only)
  clear_value l0
  have kl2 : Keeps zz l2 := by
    unfold l2
    repeat' first
      | with_reducible assumption | (simp only [mk_keeps]) | with_reducible apply foldl_keeps | split
      | intro _ _ _ | intro _ _ | extract_lets | (dsimp +zetaDelta only)
  clear_value l2
  repeat' first
    | with_reducible assumption | (simp only [mk_keeps]) | with_reducible apply foldl_keeps | split
    | intro _ _ _ | intro _ _ | extract_lets | (dsimp +zetaDelta only)

theorem resetOut_keeps {zz : State} {s : State}
    (hs : Keeps zz s) :
    Keeps zz (resetOut s) := by
  unfold resetOut
  extract_lets l0
  have kl0 : Keeps zz l0 := by
    unfold l0
    repeat' first
      | with_reducible assumption | with_reducible apply clearUnit_keeps | with_reducible apply idleCons_keeps
      | (simp only [mk_keeps]) | with_reducible apply foldl_keeps | split | intro _ _ _ | intro _ _
      | extract_lets | (dsimp +zetaDelta only)
  clear_value l0
  repeat' first
    | with_reducible assumption | with_reducible apply deriveOut_keeps | (simp only [mk_keeps])
    | with_reducible apply foldl_keeps | split | intro _ _ _ | intro _ _ | extract_lets
    | (dsimp +zetaDelta only)

theorem resetQue_keeps {zz : State} {s : State}
    (hs : Keeps zz s) :
    Keeps zz (resetQue s) := by
  unfold resetQue
  extract_lets l0 l1
  have kl0 : Keeps zz l0 := by
    unfold l0
    repeat' first
      | with_reducible assumption | with_reducible apply idleCons_keeps | with_reducible apply clearUnit_keeps
      | (simp only [mk_keeps]) | with_reducible apply foldl_keeps | split | intro _ _ _ | intro _ _
      | extract_lets | (dsimp +zetaDelta only)
  clear_value l0
  repeat' first
    | with_reducible assumption | (simp only [mk_keeps]) | with_reducible apply foldl_keeps | split
    | intro _ _ _ | intro _ _ | extract_lets | (dsimp +zetaDelta only)

theorem resetVen_keeps {zz : State} {s : State}
    (hs : Keeps zz s) :
    Keeps zz (resetVen s) := by
  unfold resetVen
  extract_lets l0
  have kl0 : Keeps zz l0 := by
    unfold l0
    repeat' first
      | with_reducible assumption | with_reducible apply clearUnit_keeps | (simp only [mk_keeps])
      | with_reducible apply foldl_keeps | split | intro _ _ _ | intro _ _ | extract_lets
      | (dsimp +zetaDelta only)
  clear_value l0
  repeat' first
    | with_reducible assumption | with_reducible apply idleCons_keeps | (simp only [mk_keeps])
    | with_reducible apply foldl_keeps | split | intro _ _ _ | intro _ _ | extract_lets
    | (dsimp +zetaDelta only)

theorem setRing_keeps {zz : State} {p : Nat} {st : Nat} {s : State}
    (hs : Keeps zz s) :
    Keeps zz (setRing p st s) := by
  unfold setRing
  repeat' first
    | with_reducible assumption | with_reducible apply set_keeps | (simp only [mk_keeps])
    | with_reducible apply foldl_keeps | split | intro _ _ _ | intro _ _ | extract_lets
    | (dsimp +zetaDelta only)

theorem drlReset_keeps {zz : State} {restart : Bool} {s : State}
    (hs : Keeps zz s) :
    Keeps zz (drlReset restart s) := by
  unfold drlReset
  extract_lets l0 l1 l2 l3 l4 l5
  have kl2 : Keeps zz l2 := by
    unfold l2
    repeat' first
      | with_reducible assumption | with_reducible apply clearRegs_keeps | (simp only [mk_keeps])
      | with_reducible apply foldl_keeps | split | intro _ _ _ | intro _ _ | extract_lets
      | (dsimp +zetaDelta only)
  clear_value l2
  have kl3 : Keeps zz l3 := by
    unfold l3
    repeat' first
      | with_reducible assumption | (simp only [mk_keeps]) | with_reducible apply foldl_keeps | split
      | intro _ _ _ | intro _ _ | extract_lets | (dsimp +zetaDelta only)
  clear_value l3
  have kl4 : Keeps zz l4 := by
    unfold l4
    repeat' first
      | with_reducible assumption | with_reducible apply setRing_keeps | with_reducible apply set_keeps
      | (simp only [mk_keeps]) | with_reducible apply foldl_keeps | split | intro _ _ _ | intro _ _
      | extract_lets | (dsimp +zetaDelta only)
  clear_value l4
  have kl5 : Keeps zz l5 := by
    unfold l5
    repeat' first
      | with_reducible assumption | with_reducible apply fire_keeps | (simp only [mk_keeps])
      | with_reducible apply foldl_keeps | split | intro _ _ _ | intro _ _ | extract_lets
      | (dsimp +zetaDelta only)
  clear_value l5
  repeat' first
    | with_reducible assumption | with_reducible apply reselect_keeps | (simp only [mk_keeps])
    | with_reducible apply foldl_keeps | split | intro _ _ _ | intro _ _ | extract_lets
    | (dsimp +zetaDelta only)

theorem resetErr_keeps {zz : State} {s : State}
    (hs : Keeps zz s) :
    Keeps zz (resetErr s) := by
  unfold resetErr
  extract_lets l0
  have kl0 : Keeps zz l0 := by
    unfold l0
    repeat' first
      | with_reducible assumption | with_reducible apply clearUnit_keeps | (simp only [mk_keeps])
      | with_reducible apply foldl_keeps | split | intro _ _ _ | intro _ _ | extract_lets
      | (dsimp +zetaDelta only)
  clear_value l0
  repeat' first
    | with_reducible assumption | (simp only [mk_keeps]) | with_reducible apply foldl_keeps | split
    | intro _ _ _ | intro _ _ | extract_lets | (dsimp +zetaDelta only)

theorem unitReset_keeps {zz : State} {u : Nat} {x1 : State}
    (hx1 : Keeps zz x1) :
    Keeps zz (unitReset u x1) := by
  unfold unitReset
  extract_lets l0
  have kl0 : Keeps zz l0 := by
    unfold l0
    repeat' first
      | with_reducible assumption | with_reducible apply dropRederive_keeps | (simp only [mk_keeps])
      | with_reducible apply foldl_keeps | split | intro _ _ _ | intro _ _ | extract_lets
      | (dsimp +zetaDelta only)
  clear_value l0
  repeat' first
    | with_reducible assumption | with_reducible apply timeBaseReset_keeps
    | with_reducible apply resetLnp_keeps | with_reducible apply resetClp_keeps
    | with_reducible apply resetPar_keeps | with_reducible apply resetPix_keeps
    | with_reducible apply resetPos_keeps | with_reducible apply resetTws_keeps
    | with_reducible apply resetBtm_keeps | with_reducible apply seeGuards_keeps
    | with_reducible apply resetOut_keeps | with_reducible apply resetQue_keeps
    | with_reducible apply resetVen_keeps | with_reducible apply drlReset_keeps
    | with_reducible apply failFar_keeps | with_reducible apply resetBwr_keeps
    | with_reducible apply resetErr_keeps | (simp only [mk_keeps]) | with_reducible apply foldl_keeps | split
    | intro _ _ _ | intro _ _ | extract_lets | (dsimp +zetaDelta only)

theorem urstWrite_keeps {zz : State} {v : Nat} {s : State}
    (hs : Keeps zz s) :
    Keeps zz (urstWrite v s) := by
  unfold urstWrite
  extract_lets l0 l1
  have kl1 : Keeps zz l1 := by
    unfold l1
    repeat' first
      | with_reducible assumption | with_reducible apply unitReset_keeps | (simp only [mk_keeps])
      | with_reducible apply foldl_keeps | split | intro _ _ _ | intro _ _ | extract_lets
      | (dsimp +zetaDelta only)
  clear_value l1
  repeat' first
    | with_reducible assumption | with_reducible apply log_keeps | with_reducible apply set_keeps
    | (simp only [mk_keeps]) | with_reducible apply foldl_keeps | split | intro _ _ _ | intro _ _
    | extract_lets | (dsimp +zetaDelta only)

theorem warmWrite_keeps {zz : State} {key : Nat} {s : State}
    (hs : Keeps zz s) :
    Keeps zz (warmWrite key s) := by
  unfold warmWrite
  repeat' first
    | with_reducible assumption | with_reducible apply warmReset_keeps | (simp only [mk_keeps])
    | with_reducible apply foldl_keeps | split | intro _ _ _ | intro _ _ | extract_lets
    | (dsimp +zetaDelta only)

theorem funlockWrite_keeps {zz : State} {key : Nat} {s : State}
    (hs : Keeps zz s) :
    Keeps zz (funlockWrite key s) := by
  unfold funlockWrite
  extract_lets l0
  repeat' first
    | with_reducible assumption | (simp only [mk_keeps]) | with_reducible apply foldl_keeps | split
    | intro _ _ _ | intro _ _ | extract_lets | (dsimp +zetaDelta only)

theorem refuseFlash_keeps {zz : State} {s : State}
    (hs : Keeps zz s) :
    Keeps zz (refuseFlash s) := by
  unfold refuseFlash
  repeat' first
    | with_reducible assumption | with_reducible apply log_keeps | with_reducible apply set_keeps
    | (simp only [mk_keeps]) | with_reducible apply foldl_keeps | split | intro _ _ _ | intro _ _
    | extract_lets | (dsimp +zetaDelta only)

theorem setFspeed_keeps {zz : State} {v : Nat} {s : State}
    (hs : Keeps zz s) :
    Keeps zz (setFspeed v s) := by
  unfold setFspeed
  extract_lets l0
  have kl0 : Keeps zz l0 := by
    unfold l0
    repeat' first
      | with_reducible assumption | with_reducible apply wrA_keeps | (simp only [mk_keeps])
      | with_reducible apply foldl_keeps | split | intro _ _ _ | intro _ _ | extract_lets
      | (dsimp +zetaDelta only)
  clear_value l0
  repeat' first
    | with_reducible assumption | with_reducible apply deriveFtim_keeps | (simp only [mk_keeps])
    | with_reducible apply foldl_keeps | split | intro _ _ _ | intro _ _ | extract_lets
    | (dsimp +zetaDelta only)

theorem flashReset_keeps {zz : State} {s : State}
    (hs : Keeps zz s) :
    Keeps zz (flashReset s) := by
  unfold flashReset
  extract_lets l0
  repeat' first
    | with_reducible assumption | with_reducible apply emit_keeps | with_reducible apply setFspeed_keeps
    | (simp only [mk_keeps]) | with_reducible apply foldl_keeps | split | intro _ _ _ | intro _ _
    | extract_lets | (dsimp +zetaDelta only)

theorem flashSends_keeps {zz : State} {op : Nat} {s : State}
    (hs : Keeps zz s) :
    Keeps zz (flashSends op s) := by
  unfold flashSends
  extract_lets l0
  repeat' first
    | with_reducible assumption | with_reducible apply emit_keeps | (simp only [mk_keeps])
    | with_reducible apply foldl_keeps | split | intro _ _ _ | intro _ _ | extract_lets
    | (dsimp +zetaDelta only)

theorem flashCommand_keeps {zz : State} {op : Nat} {vpp : Bool} {s : State}
    (hs : Keeps zz s) :
    Keeps zz (flashCommand op vpp s) := by
  unfold flashCommand
  extract_lets l0 l1 l2 l3
  have kl1 : Keeps zz l1 := by
    unfold l1
    repeat' first
      | with_reducible assumption | with_reducible apply flashReset_keeps | (simp only [mk_keeps])
      | with_reducible apply foldl_keeps | split | intro _ _ _ | intro _ _ | extract_lets
      | (dsimp +zetaDelta only)
  clear_value l1
  have kl2 : Keeps zz l2 := by
    unfold l2
    repeat' first
      | with_reducible assumption | with_reducible apply set_keeps | (simp only [mk_keeps])
      | with_reducible apply foldl_keeps | split | intro _ _ _ | intro _ _ | extract_lets
      | (dsimp +zetaDelta only)
  clear_value l2
  repeat' first
    | with_reducible assumption | with_reducible apply refuseFlash_keeps
    | with_reducible apply warmReset_keeps | with_reducible apply flashSends_keeps | (simp only [mk_keeps])
    | with_reducible apply foldl_keeps | split | intro _ _ _ | intro _ _ | extract_lets
    | (dsimp +zetaDelta only)

theorem fcmdWrite_keeps {zz : State} {v : Nat} {vpp : Bool} {s : State}
    (hs : Keeps zz s) :
    Keeps zz (fcmdWrite v vpp s) := by
  unfold fcmdWrite
  repeat' first
    | with_reducible assumption | with_reducible apply log_keeps | with_reducible apply flashCommand_keeps
    | with_reducible apply set_keeps | (simp only [mk_keeps]) | with_reducible apply foldl_keeps | split
    | intro _ _ _ | intro _ _ | extract_lets | (dsimp +zetaDelta only)

theorem fcmdAny_keeps {zz : State} {v : Nat} {s : State}
    (hs : Keeps zz s) :
    Keeps zz (fcmdAny v s) := by
  unfold fcmdAny
  repeat' first
    | with_reducible assumption | with_reducible apply free_keeps
    | with_reducible refine free_keeps' ?_ (by with_reducible assumption)
    | with_reducible apply fcmdWrite_keeps | (simp only [mk_keeps]) | with_reducible apply foldl_keeps | split
    | intro _ _ _ | intro _ _ | extract_lets | (dsimp +zetaDelta only)

theorem flashArgWrite_keeps {zz : State} {a : Nat} {v : Nat} {s : State}
    (hs : Keeps zz s) :
    Keeps zz (flashArgWrite a v s) := by
  unfold flashArgWrite
  repeat' first
    | with_reducible assumption | with_reducible apply log_keeps | with_reducible apply codedWrite_keeps
    | (simp only [mk_keeps]) | with_reducible apply foldl_keeps | split | intro _ _ _ | intro _ _
    | extract_lets | (dsimp +zetaDelta only)

theorem cfgReg_keeps {zz : State} {b : Nat} {a : Nat} {v : Nat} {s : State}
    (hs : Keeps zz s) :
    Keeps zz (cfgReg b a v s) := by
  unfold cfgReg
  repeat' first
    | with_reducible assumption | with_reducible apply fspeedWrite_keeps
    | with_reducible apply urstWrite_keeps | with_reducible apply warmWrite_keeps
    | with_reducible apply funlockWrite_keeps | with_reducible apply fcmdAny_keeps
    | with_reducible apply fcmdWrite_keeps | with_reducible apply flashArgWrite_keeps
    | with_reducible apply codedWrite_keeps | (simp only [mk_keeps]) | with_reducible apply foldl_keeps
    | split | intro _ _ _ | intro _ _ | extract_lets | (dsimp +zetaDelta only)

theorem setSlots_keeps {zz : State} {x : Nat} {s : State}
    (hs : Keeps zz s) :
    Keeps zz (setSlots x s) := by
  unfold setSlots
  repeat' first
    | with_reducible assumption | with_reducible apply set_keeps | (simp only [mk_keeps])
    | with_reducible apply foldl_keeps | split | intro _ _ _ | intro _ _ | extract_lets
    | (dsimp +zetaDelta only)

theorem countLost_keeps {zz : State} {x : Nat} {cause : Nat} {s : State}
    (hs : Keeps zz s) :
    Keeps zz (countLost x cause s) := by
  unfold countLost
  extract_lets l0 l1
  have kl0 : Keeps zz l0 := by
    unfold l0
    repeat' first
      | with_reducible assumption | with_reducible apply count_keeps | (simp only [mk_keeps])
      | with_reducible apply foldl_keeps | split | intro _ _ _ | intro _ _ | extract_lets
      | (dsimp +zetaDelta only)
  clear_value l0
  have kl1 : Keeps zz l1 := by
    unfold l1
    repeat' first
      | with_reducible assumption | with_reducible apply fire_keeps | (simp only [mk_keeps])
      | with_reducible apply foldl_keeps | split | intro _ _ _ | intro _ _ | extract_lets
      | (dsimp +zetaDelta only)
  clear_value l1
  repeat' first
    | with_reducible assumption | with_reducible apply logSec_keeps | (simp only [mk_keeps])
    | with_reducible apply foldl_keeps | split | intro _ _ _ | intro _ _ | extract_lets
    | (dsimp +zetaDelta only)

theorem losePic_keeps {zz : State} {cause : Nat} {q : Picture} {s : State}
    (hs : Keeps zz s) :
    Keeps zz (losePic cause q s) := by
  unfold losePic
  extract_lets l0 l1 l2
  have kl1 : Keeps zz l1 := by
    unfold l1
    repeat' first
      | with_reducible assumption | (simp only [mk_keeps]) | with_reducible apply foldl_keeps | split
      | intro _ _ _ | intro _ _ | extract_lets | (dsimp +zetaDelta only)
  clear_value l1
  have kl2 : Keeps zz l2 := by
    unfold l2
    repeat' first
      | with_reducible assumption | with_reducible apply set_keeps | (simp only [mk_keeps])
      | with_reducible apply foldl_keeps | split | intro _ _ _ | intro _ _ | extract_lets
      | (dsimp +zetaDelta only)
  clear_value l2
  repeat' first
    | with_reducible assumption | with_reducible apply setSlots_keeps | with_reducible apply countLost_keeps
    | with_reducible apply addLost_keeps | (simp only [mk_keeps]) | with_reducible apply foldl_keeps | split
    | intro _ _ _ | intro _ _ | extract_lets | (dsimp +zetaDelta only)

theorem losePics_keeps {zz : State} {x : Nat} {cause : Nat} {f : Picture → Bool} {s : State}
    (hs : Keeps zz s) :
    Keeps zz (losePics x cause f s) := by
  unfold losePics
  repeat' first
    | with_reducible assumption | with_reducible apply losePic_keeps | (simp only [mk_keeps])
    | with_reducible apply foldl_keeps | split | intro _ _ _ | intro _ _ | extract_lets
    | (dsimp +zetaDelta only)

theorem venClockReset_keeps {zz : State} {s : State}
    (hs : Keeps zz s) :
    Keeps zz (venClockReset s) := by
  unfold venClockReset
  extract_lets l0 l1 l2 l3 l4
  have kl1 : Keeps zz l1 := by
    unfold l1
    repeat' first
      | with_reducible assumption | (simp only [mk_keeps]) | with_reducible apply foldl_keeps | split
      | intro _ _ _ | intro _ _ | extract_lets | (dsimp +zetaDelta only)
  clear_value l1
  have kl2 : Keeps zz l2 := by
    unfold l2
    repeat' first
      | with_reducible assumption | with_reducible apply set_keeps | (simp only [mk_keeps])
      | with_reducible apply foldl_keeps | split | intro _ _ _ | intro _ _ | extract_lets
      | (dsimp +zetaDelta only)
  clear_value l2
  have kl4 : Keeps zz l4 := by
    unfold l4
    repeat' first
      | with_reducible assumption | (simp only [mk_keeps]) | with_reducible apply foldl_keeps | split
      | intro _ _ _ | intro _ _ | extract_lets | (dsimp +zetaDelta only)
  clear_value l4
  repeat' first
    | with_reducible assumption | with_reducible apply set_keeps | with_reducible apply losePics_keeps
    | (simp only [mk_keeps]) | with_reducible apply foldl_keeps | split | intro _ _ _ | intro _ _
    | extract_lets | (dsimp +zetaDelta only)

theorem setLock_keeps {zz : State} {p : Nat} {b : Bool} {s : State}
    (hs : Keeps zz s) :
    Keeps zz (setLock p b s) := by
  unfold setLock
  repeat' first
    | with_reducible assumption | with_reducible apply set_keeps | (simp only [mk_keeps])
    | with_reducible apply foldl_keeps | split | intro _ _ _ | intro _ _ | extract_lets
    | (dsimp +zetaDelta only)

theorem vencAssert_keeps {zz : State} {stop : Bool} {s : State}
    (hs : Keeps zz s) :
    Keeps zz (vencAssert stop s) := by
  unfold vencAssert
  extract_lets l0
  have kl0 : Keeps zz l0 := by
    unfold l0
    repeat' first
      | with_reducible assumption | with_reducible apply venClockReset_keeps | (simp only [mk_keeps])
      | with_reducible apply foldl_keeps | split | intro _ _ _ | intro _ _ | extract_lets
      | (dsimp +zetaDelta only)
  clear_value l0
  repeat' first
    | with_reducible assumption | with_reducible apply setLock_keeps | (simp only [mk_keeps])
    | with_reducible apply foldl_keeps | split | intro _ _ _ | intro _ _ | extract_lets
    | (dsimp +zetaDelta only)

theorem vencenWrite_keeps {zz : State} {v : Nat} {s : State}
    (hs : Keeps zz s) :
    Keeps zz (vencenWrite v s) := by
  unfold vencenWrite
  extract_lets l0
  have kl0 : Keeps zz l0 := by
    unfold l0
    repeat' first
      | with_reducible assumption | with_reducible apply codedWrite_keeps | (simp only [mk_keeps])
      | with_reducible apply foldl_keeps | split | intro _ _ _ | intro _ _ | extract_lets
      | (dsimp +zetaDelta only)
  clear_value l0
  repeat' first
    | with_reducible assumption | with_reducible apply vencAssert_keeps | (simp only [mk_keeps])
    | with_reducible apply foldl_keeps | split | intro _ _ _ | intro _ _ | extract_lets
    | (dsimp +zetaDelta only)

theorem rstChange_keeps {zz : State} {old : Nat} {new : Nat} {lo : Nat} {n : Nat} {held : Nat → State → State} {released : Nat → State → State} {s : State}
    (hheld : ∀ a0 a1, Keeps zz a1 → Keeps zz (held a0 a1)) (hreleased : ∀ a0 a1, Keeps zz a1 → Keeps zz (released a0 a1)) (hs : Keeps zz s) :
    Keeps zz (rstChange old new lo n held released s) := by
  unfold rstChange
  repeat' first
    | with_reducible assumption | (simp only [mk_keeps]) | with_reducible apply foldl_keeps | split
    | with_reducible apply hheld | with_reducible apply hreleased | intro _ _ _ | intro _ _ | extract_lets
    | (dsimp +zetaDelta only)

theorem quadHold_keeps {zz : State} {q : Nat} {s : State}
    (hs : Keeps zz s) :
    Keeps zz (quadHold q s) := by
  unfold quadHold
  repeat' first
    | with_reducible assumption | with_reducible apply quadResetLane_keeps
    | with_reducible apply laneLost_keeps | (simp only [mk_keeps]) | with_reducible apply foldl_keeps | split
    | intro _ _ _ | intro _ _ | extract_lets | (dsimp +zetaDelta only)

theorem startDetect_keeps {zz : State} {n : Nat} {s : State}
    (hs : Keeps zz s) :
    Keeps zz (startDetect n s) := by
  unfold startDetect
  repeat' first
    | with_reducible assumption | with_reducible apply enterLane_keeps | (simp only [mk_keeps])
    | with_reducible apply foldl_keeps | split | intro _ _ _ | intro _ _ | extract_lets
    | (dsimp +zetaDelta only)

theorem quadRelease_keeps {zz : State} {q : Nat} {s : State}
    (hs : Keeps zz s) :
    Keeps zz (quadRelease q s) := by
  unfold quadRelease
  extract_lets l0
  have kl0 : Keeps zz l0 := by
    unfold l0
    repeat' first
      | with_reducible assumption | with_reducible apply set_keeps | (simp only [mk_keeps])
      | with_reducible apply foldl_keeps | split | intro _ _ _ | intro _ _ | extract_lets
      | (dsimp +zetaDelta only)
  clear_value l0
  repeat' first
    | with_reducible assumption | with_reducible apply set_keeps | with_reducible apply startDetect_keeps
    | (simp only [mk_keeps]) | with_reducible apply foldl_keeps | split | intro _ _ _ | intro _ _
    | extract_lets | (dsimp +zetaDelta only)

theorem openRing_keeps {zz : State} {s : State}
    (hs : Keeps zz s) :
    Keeps zz (openRing s) := by
  unfold openRing
  extract_lets l0
  have kl0 : Keeps zz l0 := by
    unfold l0
    repeat' first
      | with_reducible assumption | with_reducible apply setRing_keeps | (simp only [mk_keeps])
      | with_reducible apply foldl_keeps | split | intro _ _ _ | intro _ _ | extract_lets
      | (dsimp +zetaDelta only)
  clear_value l0
  repeat' first
    | with_reducible assumption | with_reducible apply log_keeps | with_reducible apply set_keeps
    | (simp only [mk_keeps]) | with_reducible apply foldl_keeps | split | intro _ _ _ | intro _ _
    | extract_lets | (dsimp +zetaDelta only)

theorem portDown_keeps {zz : State} {p : Nat} {s : State}
    (hs : Keeps zz s) :
    Keeps zz (portDown p s) := by
  unfold portDown
  extract_lets l0
  have kl0 : Keeps zz l0 := by
    unfold l0
    repeat' first
      | with_reducible assumption | with_reducible apply count_keeps | with_reducible apply set_keeps
      | (simp only [mk_keeps]) | with_reducible apply foldl_keeps | split | intro _ _ _ | intro _ _
      | extract_lets | (dsimp +zetaDelta only)
  clear_value l0
  repeat' first
    | with_reducible assumption | with_reducible apply setRing_keeps | with_reducible apply log_keeps
    | with_reducible apply fire_keeps | with_reducible apply sendForward_keeps
    | with_reducible apply openRing_keeps | (simp only [mk_keeps]) | with_reducible apply foldl_keeps | split
    | intro _ _ _ | intro _ _ | extract_lets | (dsimp +zetaDelta only)

theorem ringReset_keeps {zz : State} {p : Nat} {s : State}
    (hs : Keeps zz s) :
    Keeps zz (ringReset p s) := by
  unfold ringReset
  repeat' first
    | with_reducible assumption | with_reducible apply setRing_keeps | with_reducible apply portDown_keeps
    | (simp only [mk_keeps]) | with_reducible apply foldl_keeps | split | intro _ _ _ | intro _ _
    | extract_lets | (dsimp +zetaDelta only)

theorem portOff_keeps {zz : State} {n : Nat} {s : State}
    (hs : Keeps zz s) :
    Keeps zz (portOff n s) := by
  unfold portOff
  extract_lets l0 l1
  have kl0 : Keeps zz l0 := by
    unfold l0
    repeat' first
      | with_reducible assumption | with_reducible apply truncatePar_keeps | (simp only [mk_keeps])
      | with_reducible apply foldl_keeps | split | intro _ _ _ | intro _ _ | extract_lets
      | (dsimp +zetaDelta only)
  clear_value l0
  repeat' first
    | with_reducible assumption | with_reducible apply set_keeps | with_reducible apply setPort_keeps
    | (simp only [mk_keeps]) | with_reducible apply foldl_keeps | split | intro _ _ _ | intro _ _
    | extract_lets | (dsimp +zetaDelta only)

theorem enterSeek_keeps {zz : State} {n : Nat} {s : State}
    (hs : Keeps zz s) :
    Keeps zz (enterSeek n s) := by
  unfold enterSeek
  extract_lets l0
  repeat' first
    | with_reducible assumption | with_reducible apply set_keeps | with_reducible apply setPort_keeps
    | (simp only [mk_keeps]) | with_reducible apply foldl_keeps | split | intro _ _ _ | intro _ _
    | extract_lets | (dsimp +zetaDelta only)

theorem portStart_keeps {zz : State} {n : Nat} {s : State}
    (hs : Keeps zz s) :
    Keeps zz (portStart n s) := by
  unfold portStart
  extract_lets l0
  have kl0 : Keeps zz l0 := by
    unfold l0
    repeat' first
      | with_reducible assumption | with_reducible apply truncatePar_keeps | (simp only [mk_keeps])
      | with_reducible apply foldl_keeps | split | intro _ _ _ | intro _ _ | extract_lets
      | (dsimp +zetaDelta only)
  clear_value l0
  repeat' first
    | with_reducible assumption | with_reducible apply portOff_keeps | with_reducible apply log_keeps
    | with_reducible apply enterSeek_keeps | (simp only [mk_keeps]) | with_reducible apply foldl_keeps | split
    | intro _ _ _ | intro _ _ | extract_lets | (dsimp +zetaDelta only)

theorem dropOutputs_keeps {zz : State} {x0 : State}
    (hx0 : Keeps zz x0) :
    Keeps zz (dropOutputs x0) := by
  unfold dropOutputs
  extract_lets l0 l1 l2
  have kl0 : Keeps zz l0 := by
    unfold l0
    repeat' first
      | with_reducible assumption | with_reducible apply seeGuards_keeps | (simp only [mk_keeps])
      | with_reducible apply foldl_keeps | split | intro _ _ _ | intro _ _ | extract_lets
      | (dsimp +zetaDelta only)
  clear_value l0
  have kl2 : Keeps zz l2 := by
    unfold l2
    repeat' first
      | with_reducible assumption | (simp only [mk_keeps]) | with_reducible apply foldl_keeps | split
      | intro _ _ _ | intro _ _ | extract_lets | (dsimp +zetaDelta only)
  clear_value l2
  repeat' first
    | with_reducible assumption | with_reducible apply setBusy_keeps | (simp only [mk_keeps])
    | with_reducible apply foldl_keeps | split | intro _ _ _ | intro _ _ | extract_lets
    | (dsimp +zetaDelta only)

theorem forceStandby_keeps {zz : State} {s : State}
    (hs : Keeps zz s) :
    Keeps zz (forceStandby s) := by
  unfold forceStandby
  extract_lets l0 l1 l2 l3 l4 l5
  have kl3 : Keeps zz l3 := by
    unfold l3
    repeat' first
      | with_reducible assumption | with_reducible apply log_keeps | (simp only [mk_keeps])
      | with_reducible apply foldl_keeps | split | intro _ _ _ | intro _ _ | extract_lets
      | (dsimp +zetaDelta only)
  clear_value l3
  have kl4 : Keeps zz l4 := by
    unfold l4
    repeat' first
      | with_reducible assumption | with_reducible apply set_keeps | (simp only [mk_keeps])
      | with_reducible apply foldl_keeps | split | intro _ _ _ | intro _ _ | extract_lets
      | (dsimp +zetaDelta only)
  clear_value l4
  repeat' first
    | with_reducible assumption | with_reducible apply acceptMode_keeps | (simp only [mk_keeps])
    | with_reducible apply foldl_keeps | split | intro _ _ _ | intro _ _ | extract_lets
    | (dsimp +zetaDelta only)

theorem timeDown_keeps {zz : State} {s : State}
    (hs : Keeps zz s) :
    Keeps zz (timeDown s) := by
  unfold timeDown
  extract_lets l0 l1 l2 l3
  have kl0 : Keeps zz l0 := by
    unfold l0
    repeat' first
      | with_reducible assumption | with_reducible apply dropOutputs_keeps | (simp only [mk_keeps])
      | with_reducible apply foldl_keeps | split | intro _ _ _ | intro _ _ | extract_lets
      | (dsimp +zetaDelta only)
  clear_value l0
  have kl3 : Keeps zz l3 := by
    unfold l3
    repeat' first
      | with_reducible assumption | (simp only [mk_keeps]) | with_reducible apply foldl_keeps | split
      | intro _ _ _ | intro _ _ | extract_lets | (dsimp +zetaDelta only)
  clear_value l3
  repeat' first
    | with_reducible assumption | with_reducible apply forceStandby_keeps | with_reducible apply set_keeps
    | with_reducible apply setLock_keeps | (simp only [mk_keeps]) | with_reducible apply foldl_keeps | split
    | intro _ _ _ | intro _ _ | extract_lets | (dsimp +zetaDelta only)

theorem clkRstWrite_keeps {zz : State} {v : Nat} {s : State}
    (hs : Keeps zz s) :
    Keeps zz (clkRstWrite v s) := by
  unfold clkRstWrite
  extract_lets l0 l1 l2 l3 l4 l5 l6 l7 l8 l9
  have kl4 : Keeps zz l4 := by
    unfold l4
    repeat' first
      | with_reducible assumption | with_reducible apply log_keeps | (simp only [mk_keeps])
      | with_reducible apply foldl_keeps | split | intro _ _ _ | intro _ _ | extract_lets
      | (dsimp +zetaDelta only)
  clear_value l4
  have kl5 : Keeps zz l5 := by
    unfold l5
    repeat' first
      | with_reducible assumption | with_reducible apply wrA_keeps | (simp only [mk_keeps])
      | with_reducible apply foldl_keeps | split | intro _ _ _ | intro _ _ | extract_lets
      | (dsimp +zetaDelta only)
  clear_value l5
  have kl6 : Keeps zz l6 := by
    unfold l6
    repeat' first
      | with_reducible assumption | with_reducible apply rstChange_keeps | with_reducible apply quadHold_keeps
      | with_reducible apply quadRelease_keeps | (simp only [mk_keeps]) | with_reducible apply foldl_keeps
      | split | intro _ _ _ | intro _ _ | extract_lets | (dsimp +zetaDelta only)
  clear_value l6
  have kl7 : Keeps zz l7 := by
    unfold l7
    repeat' first
      | with_reducible assumption | with_reducible apply rstChange_keeps
      | with_reducible apply ringReset_keeps | with_reducible apply set_keeps | (simp only [mk_keeps])
      | with_reducible apply foldl_keeps | split | intro _ _ _ | intro _ _ | extract_lets
      | (dsimp +zetaDelta only)
  clear_value l7
  have kl8 : Keeps zz l8 := by
    unfold l8
    repeat' first
      | with_reducible assumption | with_reducible apply rstChange_keeps | with_reducible apply set_keeps
      | with_reducible apply portOff_keeps | with_reducible apply portStart_keeps | (simp only [mk_keeps])
      | with_reducible apply foldl_keeps | split | intro _ _ _ | intro _ _ | extract_lets
      | (dsimp +zetaDelta only)
  clear_value l8
  have kl9 : Keeps zz l9 := by
    unfold l9
    repeat' first
      | with_reducible assumption | with_reducible apply rstChange_keeps
      | with_reducible apply vencAssert_keeps | (simp only [mk_keeps]) | with_reducible apply foldl_keeps
      | split | intro _ _ _ | intro _ _ | extract_lets | (dsimp +zetaDelta only)
  clear_value l9
  repeat' first
    | with_reducible assumption | with_reducible apply rstChange_keeps | with_reducible apply timeDown_keeps
    | with_reducible apply timeBaseReset_keeps | (simp only [mk_keeps]) | with_reducible apply foldl_keeps
    | split | intro _ _ _ | intro _ _ | extract_lets | (dsimp +zetaDelta only)

theorem pllWrite_keeps {zz : State} {p : Nat} {v : Nat} {s : State}
    (hs : Keeps zz s) :
    Keeps zz (pllWrite p v s) := by
  unfold pllWrite
  extract_lets l0
  repeat' first
    | with_reducible assumption | with_reducible apply expertDrop_keeps
    | with_reducible apply codedWrite_keeps | with_reducible apply log_keeps | (simp only [mk_keeps])
    | with_reducible apply foldl_keeps | split | intro _ _ _ | intro _ _ | extract_lets
    | (dsimp +zetaDelta only)

theorem clkReg_keeps {zz : State} {b : Nat} {i : Nat} {a : Nat} {v : Nat} {s : State}
    (hs : Keeps zz s) :
    Keeps zz (clkReg b i a v s) := by
  unfold clkReg
  repeat' first
    | with_reducible assumption | with_reducible apply vencenWrite_keeps
    | with_reducible apply clkRstWrite_keeps | with_reducible apply pllWrite_keeps
    | with_reducible apply codedWrite_keeps | (simp only [mk_keeps]) | with_reducible apply foldl_keeps
    | split | intro _ _ _ | intro _ _ | extract_lets | (dsimp +zetaDelta only)

theorem timStatWrite_keeps {zz : State} {v : Nat} {s : State}
    (hs : Keeps zz s) :
    Keeps zz (timStatWrite v s) := by
  unfold timStatWrite
  extract_lets l0
  have kl0 : Keeps zz l0 := by
    unfold l0
    repeat' first
      | with_reducible assumption | with_reducible apply codedWrite_keeps | (simp only [mk_keeps])
      | with_reducible apply foldl_keeps | split | intro _ _ _ | intro _ _ | extract_lets
      | (dsimp +zetaDelta only)
  clear_value l0
  repeat' first
    | with_reducible assumption | with_reducible apply enterTim_keeps | (simp only [mk_keeps])
    | with_reducible apply foldl_keeps | split | intro _ _ _ | intro _ _ | extract_lets
    | (dsimp +zetaDelta only)

theorem rearm_keeps {zz : State} {s : State}
    (hs : Keeps zz s) :
    Keeps zz (rearm s) := by
  unfold rearm
  extract_lets l0 l1 l2
  have kl0 : Keeps zz l0 := by
    unfold l0
    repeat' first
      | with_reducible assumption | with_reducible apply set_keeps | (simp only [mk_keeps])
      | with_reducible apply foldl_keeps | split | intro _ _ _ | intro _ _ | extract_lets
      | (dsimp +zetaDelta only)
  clear_value l0
  have kl2 : Keeps zz l2 := by
    unfold l2
    repeat' first
      | with_reducible assumption | (simp only [mk_keeps]) | with_reducible apply foldl_keeps | split
      | intro _ _ _ | intro _ _ | extract_lets | (dsimp +zetaDelta only)
  clear_value l2
  repeat' first
    | with_reducible assumption | with_reducible apply requestEpoch_keeps
    | with_reducible apply enterTim_keeps | (simp only [mk_keeps]) | with_reducible apply foldl_keeps | split
    | intro _ _ _ | intro _ _ | extract_lets | (dsimp +zetaDelta only)

theorem rearmWrite_keeps {zz : State} {s : State}
    (hs : Keeps zz s) :
    Keeps zz (rearmWrite s) := by
  unfold rearmWrite
  repeat' first
    | with_reducible assumption | with_reducible apply rearm_keeps | with_reducible apply log_keeps
    | (simp only [mk_keeps]) | with_reducible apply foldl_keeps | split | intro _ _ _ | intro _ _
    | extract_lets | (dsimp +zetaDelta only)

theorem stepCmdWrite_keeps {zz : State} {v : Nat} {s : State}
    (hs : Keeps zz s) :
    Keeps zz (stepCmdWrite v s) := by
  unfold stepCmdWrite
  extract_lets l0 l1 l2 l3 l4 l5 l6
  have kl0 : Keeps zz l0 := by
    unfold l0
    repeat' first
      | with_reducible assumption | with_reducible apply stopServo_keeps | (simp only [mk_keeps])
      | with_reducible apply foldl_keeps | split | intro _ _ _ | intro _ _ | extract_lets
      | (dsimp +zetaDelta only)
  clear_value l0
  have kl4 : Keeps zz l4 := by
    unfold l4
    repeat' first
      | with_reducible assumption | (simp only [mk_keeps]) | with_reducible apply foldl_keeps | split
      | intro _ _ _ | intro _ _ | extract_lets | (dsimp +zetaDelta only)
  clear_value l4
  have kl6 : Keeps zz l6 := by
    unfold l6
    repeat' first
      | with_reducible assumption | (simp only [mk_keeps]) | with_reducible apply foldl_keeps | split
      | intro _ _ _ | intro _ _ | extract_lets | (dsimp +zetaDelta only)
  clear_value l6
  repeat' first
    | with_reducible assumption | with_reducible apply countXdrop_keeps | with_reducible apply showBusy_keeps
    | (simp only [mk_keeps]) | with_reducible apply foldl_keeps | split | intro _ _ _ | intro _ _
    | extract_lets | (dsimp +zetaDelta only)

theorem setRaw_keeps {zz : State} {rs : List (List Nat)} {s : State}
    (hs : Keeps zz s) :
    Keeps zz (setRaw rs s) := by
  unfold setRaw
  extract_lets l0 l1 l2
  have kl2 : Keeps zz l2 := by
    unfold l2
    repeat' first
      | with_reducible assumption | (simp only [mk_keeps]) | with_reducible apply foldl_keeps | split
      | intro _ _ _ | intro _ _ | extract_lets | (dsimp +zetaDelta only)
  clear_value l2
  repeat' first
    | with_reducible assumption | with_reducible apply wrWords_keeps | with_reducible apply set_keeps
    | (simp only [mk_keeps]) | with_reducible apply foldl_keeps | split | intro _ _ _ | intro _ _
    | extract_lets | (dsimp +zetaDelta only)

theorem rawPop_keeps {zz : State} {s : State}
    (hs : Keeps zz s) :
    Keeps zz (rawPop s) := by
  unfold rawPop
  repeat' first
    | with_reducible assumption | with_reducible apply setRaw_keeps | (simp only [mk_keeps])
    | with_reducible apply foldl_keeps | split | intro _ _ _ | intro _ _ | extract_lets
    | (dsimp +zetaDelta only)

theorem timReg_keeps {zz : State} {b : Nat} {a : Nat} {v : Nat} {s : State}
    (hs : Keeps zz s) :
    Keeps zz (timReg b a v s) := by
  unfold timReg
  repeat' first
    | with_reducible assumption | with_reducible apply timStatWrite_keeps
    | with_reducible apply rearmWrite_keeps | with_reducible apply adjWrite_keeps
    | with_reducible apply stepCmdWrite_keeps | with_reducible apply rawPop_keeps
    | with_reducible apply codedWrite_keeps | (simp only [mk_keeps]) | with_reducible apply foldl_keeps
    | split | intro _ _ _ | intro _ _ | extract_lets | (dsimp +zetaDelta only)

theorem rateMaxWrite_keeps {zz : State} {n : Nat} {v : Nat} {s : State}
    (hs : Keeps zz s) :
    Keeps zz (rateMaxWrite n v s) := by
  unfold rateMaxWrite
  extract_lets l0 l1 l2
  have kl2 : Keeps zz l2 := by
    unfold l2
    repeat' first
      | with_reducible assumption | with_reducible apply set_keeps | (simp only [mk_keeps])
      | with_reducible apply foldl_keeps | split | intro _ _ _ | intro _ _ | extract_lets
      | (dsimp +zetaDelta only)
  clear_value l2
  repeat' first
    | with_reducible assumption | with_reducible apply laneLost_keeps | with_reducible apply enterLane_keeps
    | with_reducible apply startDetect_keeps | (simp only [mk_keeps]) | with_reducible apply foldl_keeps
    | split | intro _ _ _ | intro _ _ | extract_lets | (dsimp +zetaDelta only)

theorem rebase_keeps {zz : State} {n : Nat} {s : State}
    (hs : Keeps zz s) :
    Keeps zz (rebase n s) := by
  unfold rebase
  extract_lets l0
  repeat' first
    | with_reducible assumption | with_reducible apply setLane_keeps | (simp only [mk_keeps])
    | with_reducible apply foldl_keeps | split | intro _ _ _ | intro _ _ | extract_lets
    | (dsimp +zetaDelta only)

theorem retrainLane_keeps {zz : State} {n : Nat} {s : State}
    (hs : Keeps zz s) :
    Keeps zz (retrainLane n s) := by
  unfold retrainLane
  extract_lets l0 l1 l2 l3
  have kl1 : Keeps zz l1 := by
    unfold l1
    repeat' first
      | with_reducible assumption | with_reducible apply set_keeps | (simp only [mk_keeps])
      | with_reducible apply foldl_keeps | split | intro _ _ _ | intro _ _ | extract_lets
      | (dsimp +zetaDelta only)
  clear_value l1
  have kl2 : Keeps zz l2 := by
    unfold l2
    repeat' first
      | with_reducible assumption | with_reducible apply enterLane_keeps | (simp only [mk_keeps])
      | with_reducible apply foldl_keeps | split | intro _ _ _ | intro _ _ | extract_lets
      | (dsimp +zetaDelta only)
  clear_value l2
  repeat' first
    | with_reducible assumption | with_reducible apply setLane_keeps | with_reducible apply startDetect_keeps
    | (simp only [mk_keeps]) | with_reducible apply foldl_keeps | split | intro _ _ _ | intro _ _
    | extract_lets | (dsimp +zetaDelta only)

theorem retrainWrite_keeps {zz : State} {n : Nat} {s : State}
    (hs : Keeps zz s) :
    Keeps zz (retrainWrite n s) := by
  unfold retrainWrite
  repeat' first
    | with_reducible assumption | with_reducible apply retrainLane_keeps | with_reducible apply laneLost_keeps
    | (simp only [mk_keeps]) | with_reducible apply foldl_keeps | split | intro _ _ _ | intro _ _
    | extract_lets | (dsimp +zetaDelta only)

theorem txQuiet_keeps {zz : State} {n : Nat} {s : State}
    (hs : Keeps zz s) :
    Keeps zz (txQuiet n s) := by
  unfold txQuiet
  extract_lets l0 l1 l2
  have kl1 : Keeps zz l1 := by
    unfold l1
    repeat' first
      | with_reducible assumption | with_reducible apply enterLane_keeps | (simp only [mk_keeps])
      | with_reducible apply foldl_keeps | split | intro _ _ _ | intro _ _ | extract_lets
      | (dsimp +zetaDelta only)
  clear_value l1
  repeat' first
    | with_reducible assumption | with_reducible apply setLane_keeps | (simp only [mk_keeps])
    | with_reducible apply foldl_keeps | split | intro _ _ _ | intro _ _ | extract_lets
    | (dsimp +zetaDelta only)

theorem deepRequest_keeps {zz : State} {n : Nat} {s : State}
    (hs : Keeps zz s) :
    Keeps zz (deepRequest n s) := by
  unfold deepRequest
  extract_lets l0 l1 l2
  have kl1 : Keeps zz l1 := by
    unfold l1
    repeat' first
      | with_reducible assumption | with_reducible apply txQuiet_keeps | (simp only [mk_keeps])
      | with_reducible apply foldl_keeps | split | intro _ _ _ | intro _ _ | extract_lets
      | (dsimp +zetaDelta only)
  clear_value l1
  repeat' first
    | with_reducible assumption | with_reducible apply setLane_keeps | (simp only [mk_keeps])
    | with_reducible apply foldl_keeps | split | intro _ _ _ | intro _ _ | extract_lets
    | (dsimp +zetaDelta only)

theorem beginEqualize_keeps {zz : State} {n : Nat} {s : State}
    (hs : Keeps zz s) :
    Keeps zz (beginEqualize n s) := by
  unfold beginEqualize
  extract_lets l0 l1
  repeat' first
    | with_reducible assumption | with_reducible apply setLane_keeps | (simp only [mk_keeps])
    | with_reducible apply foldl_keeps | split | intro _ _ _ | intro _ _ | extract_lets
    | (dsimp +zetaDelta only)

theorem enterTraining_keeps {zz : State} {n : Nat} {st : Nat} {s : State}
    (hs : Keeps zz s) :
    Keeps zz (enterTraining n st s) := by
  unfold enterTraining
  extract_lets l0
  have kl0 : Keeps zz l0 := by
    unfold l0
    repeat' first
      | with_reducible assumption | with_reducible apply enterLane_keeps | (simp only [mk_keeps])
      | with_reducible apply foldl_keeps | split | intro _ _ _ | intro _ _ | extract_lets
      | (dsimp +zetaDelta only)
  clear_value l0
  repeat' first
    | with_reducible assumption | with_reducible apply beginEqualize_keeps | (simp only [mk_keeps])
    | with_reducible apply foldl_keeps | split | intro _ _ _ | intro _ _ | extract_lets
    | (dsimp +zetaDelta only)

theorem wakeLane_keeps {zz : State} {n : Nat} {s : State}
    (hs : Keeps zz s) :
    Keeps zz (wakeLane n s) := by
  unfold wakeLane
  repeat' first
    | with_reducible assumption | with_reducible apply enterTraining_keeps | (simp only [mk_keeps])
    | with_reducible apply foldl_keeps | split | intro _ _ _ | intro _ _ | extract_lets
    | (dsimp +zetaDelta only)

theorem txFirWrite_keeps {zz : State} {n : Nat} {v : Nat} {s : State}
    (hs : Keeps zz s) :
    Keeps zz (txFirWrite n v s) := by
  unfold txFirWrite
  extract_lets l0
  repeat' first
    | with_reducible assumption | with_reducible apply log_keeps | with_reducible apply wrA_keeps
    | (simp only [mk_keeps]) | with_reducible apply foldl_keeps | split | intro _ _ _ | intro _ _
    | extract_lets | (dsimp +zetaDelta only)

theorem sweepStart_keeps {zz : State} {n : Nat} {s : State}
    (hs : Keeps zz s) :
    Keeps zz (sweepStart n s) := by
  unfold sweepStart
  extract_lets l0
  repeat' first
    | with_reducible assumption | with_reducible apply log_keeps | with_reducible apply setLane_keeps
    | with_reducible apply beginSweep_keeps | (simp only [mk_keeps]) | with_reducible apply foldl_keeps
    | split | intro _ _ _ | intro _ _ | extract_lets | (dsimp +zetaDelta only)

theorem freeWords_keeps {zz : State} {n : Nat} {s : State} (hs : Keeps zz s) : Keeps zz (freeWords n s).2 := by
  induction n generalizing s with
  | zero => exact hs
  | succ n ih => exact ih (free_keeps (w := 32) hs)

theorem freeWords_keeps' {zz t : State} {n : Nat} {s : State} {q} (hs : Keeps zz s) (e : freeWords n s = (q, t)) :
    Keeps zz t := by
  have := freeWords_keeps (n := n) hs
  rw [e] at this
  exact this

theorem sweepAbort_keeps {zz : State} {n : Nat} {counts : List Nat} {s : State}
    (hs : Keeps zz s) :
    Keeps zz (sweepAbort n counts s) := by
  unfold sweepAbort
  extract_lets l0 l1 l2 l3
  have kl1 : Keeps zz l1 := by
    unfold l1
    repeat' first
      | with_reducible assumption | with_reducible apply setLane_keeps | (simp only [mk_keeps])
      | with_reducible apply foldl_keeps | split | intro _ _ _ | intro _ _ | extract_lets
      | (dsimp +zetaDelta only)
  clear_value l1
  repeat' first
    | with_reducible assumption | with_reducible apply setLane_keeps | with_reducible apply set_keeps
    | (simp only [mk_keeps]) | with_reducible apply foldl_keeps | split | intro _ _ _ | intro _ _
    | extract_lets | (dsimp +zetaDelta only)

theorem sweepAbortAny_keeps {zz : State} {n : Nat} {s : State}
    (hs : Keeps zz s) :
    Keeps zz (sweepAbortAny n s) := by
  unfold sweepAbortAny
  repeat' first
    | with_reducible assumption | with_reducible apply free_keeps
    | with_reducible refine free_keeps' ?_ (by with_reducible assumption)
    | with_reducible apply freeWords_keeps
    | with_reducible refine freeWords_keeps' ?_ (by with_reducible assumption)
    | with_reducible apply sweepAbort_keeps | (simp only [mk_keeps]) | with_reducible apply foldl_keeps
    | split | intro _ _ _ | intro _ _ | extract_lets | (dsimp +zetaDelta only)

theorem loopWrite_keeps {zz : State} {n : Nat} {mode : Nat} {s : State}
    (hs : Keeps zz s) :
    Keeps zz (loopWrite n mode s) := by
  unfold loopWrite
  extract_lets l0 l1
  have kl1 : Keeps zz l1 := by
    unfold l1
    repeat' first
      | with_reducible assumption | with_reducible apply set_keeps | (simp only [mk_keeps])
      | with_reducible apply foldl_keeps | split | intro _ _ _ | intro _ _ | extract_lets
      | (dsimp +zetaDelta only)
  clear_value l1
  repeat' first
    | with_reducible assumption | with_reducible apply set_keeps | with_reducible apply laneLost_keeps
    | with_reducible apply startDetect_keeps | with_reducible apply log_keeps
    | with_reducible apply trainFail_keeps | (simp only [mk_keeps]) | with_reducible apply foldl_keeps | split
    | intro _ _ _ | intro _ _ | extract_lets | (dsimp +zetaDelta only)

theorem injectFault_keeps {zz : State} {n : Nat} {kind : Nat} {s : State}
    (hs : Keeps zz s) :
    Keeps zz (injectFault n kind s) := by
  unfold injectFault
  repeat' first
    | with_reducible assumption | with_reducible apply emit_keeps | (simp only [mk_keeps])
    | with_reducible apply foldl_keeps | split | intro _ _ _ | intro _ _ | extract_lets
    | (dsimp +zetaDelta only)

theorem injWrite_keeps {zz : State} {n : Nat} {v : Nat} {s : State}
    (hs : Keeps zz s) :
    Keeps zz (injWrite n v s) := by
  unfold injWrite
  repeat' first
    | with_reducible assumption | with_reducible apply injectFault_keeps | (simp only [mk_keeps])
    | with_reducible apply foldl_keeps | split | intro _ _ _ | intro _ _ | extract_lets
    | (dsimp +zetaDelta only)

theorem lnpReg_keeps {zz : State} {b : Nat} {i : Nat} {a : Nat} {v : Nat} {s : State}
    (hs : Keeps zz s) :
    Keeps zz (lnpReg b i a v s) := by
  unfold lnpReg
  extract_lets l0 l1 l2
  have kl0 : Keeps zz l0 := by
    unfold l0
    repeat' first
      | with_reducible assumption | with_reducible apply rebase_keeps | (simp only [mk_keeps])
      | with_reducible apply foldl_keeps | split | intro _ _ _ | intro _ _ | extract_lets
      | (dsimp +zetaDelta only)
  clear_value l0
  have kl1 : Keeps zz l1 := by
    unfold l1
    repeat' first
      | with_reducible assumption | with_reducible apply deepRequest_keeps | (simp only [mk_keeps])
      | with_reducible apply foldl_keeps | split | intro _ _ _ | intro _ _ | extract_lets
      | (dsimp +zetaDelta only)
  clear_value l1
  have kl2 : Keeps zz l2 := by
    unfold l2
    repeat' first
      | with_reducible assumption | with_reducible apply sweepStart_keeps | (simp only [mk_keeps])
      | with_reducible apply foldl_keeps | split | intro _ _ _ | intro _ _ | extract_lets
      | (dsimp +zetaDelta only)
  clear_value l2
  repeat' first
    | with_reducible assumption | with_reducible apply rateMaxWrite_keeps
    | with_reducible apply retrainWrite_keeps | with_reducible apply wakeLane_keeps
    | with_reducible apply txFirWrite_keeps | with_reducible apply expertDrop_keeps
    | with_reducible apply sweepAbortAny_keeps | with_reducible apply loopWrite_keeps
    | with_reducible apply injWrite_keeps | with_reducible apply codedWrite_keeps | (simp only [mk_keeps])
    | with_reducible apply foldl_keeps | split | intro _ _ _ | intro _ _ | extract_lets
    | (dsimp +zetaDelta only)

theorem mailboxWrite_keeps {zz : State} {g : Nat} {v : Nat} {s : State}
    (hs : Keeps zz s) :
    Keeps zz (mailboxWrite g v s) := by
  unfold mailboxWrite
  extract_lets l0 l1 l2 l3
  have kl0 : Keeps zz l0 := by
    unfold l0
    repeat' first
      | with_reducible assumption | with_reducible apply set_keeps | (simp only [mk_keeps])
      | with_reducible apply foldl_keeps | split | intro _ _ _ | intro _ _ | extract_lets
      | (dsimp +zetaDelta only)
  clear_value l0
  have kl2 : Keeps zz l2 := by
    unfold l2
    repeat' first
      | with_reducible assumption | with_reducible apply set_keeps | (simp only [mk_keeps])
      | with_reducible apply foldl_keeps | split | intro _ _ _ | intro _ _ | extract_lets
      | (dsimp +zetaDelta only)
  clear_value l2
  repeat' first
    | with_reducible assumption | with_reducible apply set_keeps | with_reducible apply log_keeps
    | with_reducible apply setGroup_keeps | (simp only [mk_keeps]) | with_reducible apply foldl_keeps | split
    | intro _ _ _ | intro _ _ | extract_lets | (dsimp +zetaDelta only)

theorem streamToggled_keeps {zz : State} {st : Nat} {wasOn : Bool} {isOn : Bool} {s : State}
    (hs : Keeps zz s) :
    Keeps zz (streamToggled st wasOn isOn s) := by
  unfold streamToggled
  extract_lets l0
  repeat' first
    | with_reducible assumption | with_reducible apply recheckStream_keeps
    | with_reducible apply setHeld_keeps | (simp only [mk_keeps]) | with_reducible apply foldl_keeps | split
    | intro _ _ _ | intro _ _ | extract_lets | (dsimp +zetaDelta only)

theorem streamWrite_keeps {zz : State} {st : Nat} {v : Nat} {s : State}
    (hs : Keeps zz s) :
    Keeps zz (streamWrite st v s) := by
  unfold streamWrite
  extract_lets l0 l1 l2 l3
  have kl2 : Keeps zz l2 := by
    unfold l2
    repeat' first
      | with_reducible assumption | with_reducible apply set_keeps | (simp only [mk_keeps])
      | with_reducible apply foldl_keeps | split | intro _ _ _ | intro _ _ | extract_lets
      | (dsimp +zetaDelta only)
  clear_value l2
  have kl3 : Keeps zz l3 := by
    unfold l3
    repeat' first
      | with_reducible assumption | with_reducible apply set_keeps | (simp only [mk_keeps])
      | with_reducible apply foldl_keeps | split | intro _ _ _ | intro _ _ | extract_lets
      | (dsimp +zetaDelta only)
  clear_value l3
  repeat' first
    | with_reducible assumption | with_reducible apply set_keeps | with_reducible apply log_keeps
    | with_reducible apply streamToggled_keeps | (simp only [mk_keeps]) | with_reducible apply foldl_keeps
    | split | intro _ _ _ | intro _ _ | extract_lets | (dsimp +zetaDelta only)

theorem clpReg_keeps {zz : State} {b : Nat} {i : Nat} {a : Nat} {v : Nat} {s : State}
    (hs : Keeps zz s) :
    Keeps zz (clpReg b i a v s) := by
  unfold clpReg
  repeat' first
    | with_reducible assumption | with_reducible apply mailboxWrite_keeps
    | with_reducible apply codedWrite_keeps | with_reducible apply streamWrite_keeps | (simp only [mk_keeps])
    | with_reducible apply foldl_keeps | split | intro _ _ _ | intro _ _ | extract_lets
    | (dsimp +zetaDelta only)

theorem parStreamWrite_keeps {zz : State} {n : Nat} {v : Nat} {s : State}
    (hs : Keeps zz s) :
    Keeps zz (parStreamWrite n v s) := by
  unfold parStreamWrite
  extract_lets l0 l1 l2 l3 l4 l5 l6 l7 l8 l9
  have kl5 : Keeps zz l5 := by
    unfold l5
    repeat' first
      | with_reducible assumption | with_reducible apply truncatePar_keeps | (simp only [mk_keeps])
      | with_reducible apply foldl_keeps | split | intro _ _ _ | intro _ _ | extract_lets
      | (dsimp +zetaDelta only)
  clear_value l5
  have kl6 : Keeps zz l6 := by
    unfold l6
    repeat' first
      | with_reducible assumption | with_reducible apply set_keeps | (simp only [mk_keeps])
      | with_reducible apply foldl_keeps | split | intro _ _ _ | intro _ _ | extract_lets
      | (dsimp +zetaDelta only)
  clear_value l6
  have kl7 : Keeps zz l7 := by
    unfold l7
    repeat' first
      | with_reducible assumption | with_reducible apply log_keeps | (simp only [mk_keeps])
      | with_reducible apply foldl_keeps | split | intro _ _ _ | intro _ _ | extract_lets
      | (dsimp +zetaDelta only)
  clear_value l7
  have kl8 : Keeps zz l8 := by
    unfold l8
    repeat' first
      | with_reducible assumption | with_reducible apply streamToggled_keeps | (simp only [mk_keeps])
      | with_reducible apply foldl_keeps | split | intro _ _ _ | intro _ _ | extract_lets
      | (dsimp +zetaDelta only)
  clear_value l8
  have kl9 : Keeps zz l9 := by
    unfold l9
    repeat' first
      | with_reducible assumption | with_reducible apply streamToggled_keeps | (simp only [mk_keeps])
      | with_reducible apply foldl_keeps | split | intro _ _ _ | intro _ _ | extract_lets
      | (dsimp +zetaDelta only)
  clear_value l9
  repeat' first
    | with_reducible assumption | with_reducible apply portStart_keeps | (simp only [mk_keeps])
    | with_reducible apply foldl_keeps | split | intro _ _ _ | intro _ _ | extract_lets
    | (dsimp +zetaDelta only)

theorem portBasic_keeps {zz : State} {n : Nat} {s : State}
    (hs : Keeps zz s) :
    Keeps zz (portBasic n s) := by
  unfold portBasic
  repeat' first
    | with_reducible assumption | with_reducible apply portStart_keeps | (simp only [mk_keeps])
    | with_reducible apply foldl_keeps | split | intro _ _ _ | intro _ _ | extract_lets
    | (dsimp +zetaDelta only)

theorem parReg_keeps {zz : State} {b : Nat} {i : Nat} {a : Nat} {v : Nat} {s : State}
    (hs : Keeps zz s) :
    Keeps zz (parReg b i a v s) := by
  unfold parReg
  repeat' first
    | with_reducible assumption | with_reducible apply parStreamWrite_keeps
    | with_reducible apply portBasic_keeps | with_reducible apply codedWrite_keeps | (simp only [mk_keeps])
    | with_reducible apply foldl_keeps | split | intro _ _ _ | intro _ _ | extract_lets
    | (dsimp +zetaDelta only)

theorem pixSrcWrite_keeps {zz : State} {p : Nat} {v : Nat} {s : State}
    (hs : Keeps zz s) :
    Keeps zz (pixSrcWrite p v s) := by
  unfold pixSrcWrite
  extract_lets l0 l1 l2 l3
  have kl2 : Keeps zz l2 := by
    unfold l2
    repeat' first
      | with_reducible assumption | with_reducible apply set_keeps | (simp only [mk_keeps])
      | with_reducible apply foldl_keeps | split | intro _ _ _ | intro _ _ | extract_lets
      | (dsimp +zetaDelta only)
  clear_value l2
  have kl3 : Keeps zz l3 := by
    unfold l3
    repeat' first
      | with_reducible assumption | with_reducible apply set_keeps | with_reducible apply log_keeps
      | (simp only [mk_keeps]) | with_reducible apply foldl_keeps | split | intro _ _ _ | intro _ _
      | extract_lets | (dsimp +zetaDelta only)
  clear_value l3
  repeat' first
    | with_reducible assumption | with_reducible apply pipeRest_keeps | (simp only [mk_keeps])
    | with_reducible apply foldl_keeps | split | intro _ _ _ | intro _ _ | extract_lets
    | (dsimp +zetaDelta only)

theorem pixTableWrite_keeps {zz : State} {p : Nat} {tbl : Nat} {k : Nat} {v : Nat} {s : State}
    (hs : Keeps zz s) :
    Keeps zz (pixTableWrite p tbl k v s) := by
  unfold pixTableWrite
  extract_lets l0 l1
  have kl1 : Keeps zz l1 := by
    unfold l1
    repeat' first
      | with_reducible assumption | with_reducible apply count_keeps | (simp only [mk_keeps])
      | with_reducible apply foldl_keeps | split | intro _ _ _ | intro _ _ | extract_lets
      | (dsimp +zetaDelta only)
  clear_value l1
  repeat' first
    | with_reducible assumption | with_reducible apply log_keeps | with_reducible apply setPipe_keeps
    | with_reducible apply set_keeps | (simp only [mk_keeps]) | with_reducible apply foldl_keeps | split
    | intro _ _ _ | intro _ _ | extract_lets | (dsimp +zetaDelta only)

theorem pixBistStart_keeps {zz : State} {p : Nat} {s : State}
    (hs : Keeps zz s) :
    Keeps zz (pixBistStart p s) := by
  unfold pixBistStart
  repeat' first
    | with_reducible assumption | with_reducible apply set_keeps | with_reducible apply log_keeps
    | (simp only [mk_keeps]) | with_reducible apply foldl_keeps | split | intro _ _ _ | intro _ _
    | extract_lets | (dsimp +zetaDelta only)

theorem pixReg_keeps {zz : State} {b : Nat} {i : Nat} {j : Nat} {a : Nat} {v : Nat} {s : State}
    (hs : Keeps zz s) :
    Keeps zz (pixReg b i j a v s) := by
  unfold pixReg
  repeat' first
    | with_reducible assumption | with_reducible apply pixSrcWrite_keeps
    | with_reducible apply pixTableWrite_keeps | with_reducible apply pixBistStart_keeps
    | with_reducible apply codedWrite_keeps | (simp only [mk_keeps]) | with_reducible apply foldl_keeps
    | split | intro _ _ _ | intro _ _ | extract_lets | (dsimp +zetaDelta only)

theorem refusePos_keeps {zz : State} {n : Nat} {ofs : Nat} {s : State}
    (hs : Keeps zz s) :
    Keeps zz (refusePos n ofs s) := by
  unfold refusePos
  repeat' first
    | with_reducible assumption | with_reducible apply log_keeps | (simp only [mk_keeps])
    | with_reducible apply foldl_keeps | split | intro _ _ _ | intro _ _ | extract_lets
    | (dsimp +zetaDelta only)

theorem storeSlot_keeps {zz : State} {n : Nat} {s : State}
    (hs : Keeps zz s) :
    Keeps zz (storeSlot n s) := by
  unfold storeSlot
  extract_lets l0
  repeat' first
    | with_reducible assumption | with_reducible apply setChan_keeps | (simp only [mk_keeps])
    | with_reducible apply foldl_keeps | split | intro _ _ _ | intro _ _ | extract_lets
    | (dsimp +zetaDelta only)

theorem pushHist_keeps {zz : State} {n : Nat} {t : Nat} {mark : Bool} {s : State}
    (hs : Keeps zz s) :
    Keeps zz (pushHist n t mark s) := by
  unfold pushHist
  extract_lets l0 l1
  repeat' first
    | with_reducible assumption | with_reducible apply setChan_keeps | (simp only [mk_keeps])
    | with_reducible apply foldl_keeps | split | intro _ _ _ | intro _ _ | extract_lets
    | (dsimp +zetaDelta only)

theorem clearRef_keeps {zz : State} {n : Nat} {cause : Nat} {t : Nat} {s : State}
    (hs : Keeps zz s) :
    Keeps zz (clearRef n cause t s) := by
  unfold clearRef
  repeat' first
    | with_reducible assumption | with_reducible apply pushHist_keeps | with_reducible apply log_keeps
    | with_reducible apply set_keeps | (simp only [mk_keeps]) | with_reducible apply foldl_keeps | split
    | intro _ _ _ | intro _ _ | extract_lets | (dsimp +zetaDelta only)

theorem startChan_keeps {zz : State} {n : Nat} {cause : Nat} {s : State}
    (hs : Keeps zz s) :
    Keeps zz (startChan n cause s) := by
  unfold startChan
  extract_lets l0 l1 l2
  have kl2 : Keeps zz l2 := by
    unfold l2
    repeat' first
      | with_reducible assumption | with_reducible apply setChan_keeps | (simp only [mk_keeps])
      | with_reducible apply foldl_keeps | split | intro _ _ _ | intro _ _ | extract_lets
      | (dsimp +zetaDelta only)
  clear_value l2
  repeat' first
    | with_reducible assumption | with_reducible apply storeSlot_keeps | with_reducible apply set_keeps
    | with_reducible apply clearRef_keeps | (simp only [mk_keeps]) | with_reducible apply foldl_keeps | split
    | intro _ _ _ | intro _ _ | extract_lets | (dsimp +zetaDelta only)

theorem stopChan_keeps {zz : State} {n : Nat} {s : State}
    (hs : Keeps zz s) :
    Keeps zz (stopChan n s) := by
  unfold stopChan
  extract_lets l0 l1 l2
  have kl1 : Keeps zz l1 := by
    unfold l1
    repeat' first
      | with_reducible assumption | with_reducible apply setChan_keeps | (simp only [mk_keeps])
      | with_reducible apply foldl_keeps | split | intro _ _ _ | intro _ _ | extract_lets
      | (dsimp +zetaDelta only)
  clear_value l1
  have kl2 : Keeps zz l2 := by
    unfold l2
    repeat' first
      | with_reducible assumption | with_reducible apply set_keeps | (simp only [mk_keeps])
      | with_reducible apply foldl_keeps | split | intro _ _ _ | intro _ _ | extract_lets
      | (dsimp +zetaDelta only)
  clear_value l2
  repeat' first
    | with_reducible assumption | with_reducible apply loseSource_keeps | with_reducible apply setBusy_keeps
    | (simp only [mk_keeps]) | with_reducible apply foldl_keeps | split | intro _ _ _ | intro _ _
    | extract_lets | (dsimp +zetaDelta only)

theorem posCfgWrite_keeps {zz : State} {n : Nat} {v : Nat} {s : State}
    (hs : Keeps zz s) :
    Keeps zz (posCfgWrite n v s) := by
  unfold posCfgWrite
  extract_lets l0 l1 l2 l3 l4 l5 l6
  have kl5 : Keeps zz l5 := by
    unfold l5
    repeat' first
      | with_reducible assumption | with_reducible apply codedWrite_keeps | (simp only [mk_keeps])
      | with_reducible apply foldl_keeps | split | intro _ _ _ | intro _ _ | extract_lets
      | (dsimp +zetaDelta only)
  clear_value l5
  have kl6 : Keeps zz l6 := by
    unfold l6
    repeat' first
      | with_reducible assumption | with_reducible apply set_keeps | (simp only [mk_keeps])
      | with_reducible apply foldl_keeps | split | intro _ _ _ | intro _ _ | extract_lets
      | (dsimp +zetaDelta only)
  clear_value l6
  repeat' first
    | with_reducible assumption | with_reducible apply refusePos_keeps | with_reducible apply startChan_keeps
    | with_reducible apply stopChan_keeps | (simp only [mk_keeps]) | with_reducible apply foldl_keeps | split
    | intro _ _ _ | intro _ _ | extract_lets | (dsimp +zetaDelta only)

theorem idxCfgWrite_keeps {zz : State} {n : Nat} {v : Nat} {s : State}
    (hs : Keeps zz s) :
    Keeps zz (idxCfgWrite n v s) := by
  unfold idxCfgWrite
  repeat' first
    | with_reducible assumption | with_reducible apply refusePos_keeps | with_reducible apply codedWrite_keeps
    | (simp only [mk_keeps]) | with_reducible apply foldl_keeps | split | intro _ _ _ | intro _ _
    | extract_lets | (dsimp +zetaDelta only)

theorem setRef_keeps {zz : State} {n : Nat} {t : Nat} {s : State}
    (hs : Keeps zz s) :
    Keeps zz (setRef n t s) := by
  unfold setRef
  repeat' first
    | with_reducible assumption | with_reducible apply pushHist_keeps | with_reducible apply log_keeps
    | with_reducible apply fire_keeps | with_reducible apply set_keeps | (simp only [mk_keeps])
    | with_reducible apply foldl_keeps | split | intro _ _ _ | intro _ _ | extract_lets
    | (dsimp +zetaDelta only)

theorem softRef_keeps {zz : State} {n : Nat} {s : State}
    (hs : Keeps zz s) :
    Keeps zz (softRef n s) := by
  unfold softRef
  repeat' first
    | with_reducible assumption | with_reducible apply setRef_keeps | (simp only [mk_keeps])
    | with_reducible apply foldl_keeps | split | intro _ _ _ | intro _ _ | extract_lets
    | (dsimp +zetaDelta only)

theorem crossNothing_keeps {zz : State} {n : Nat} {s : State}
    (hs : Keeps zz s) :
    Keeps zz (crossNothing n s) := by
  unfold crossNothing
  repeat' first
    | with_reducible assumption | with_reducible apply setEntry_keeps | (simp only [mk_keeps])
    | with_reducible apply foldl_keeps | split | intro _ _ _ | intro _ _ | extract_lets
    | (dsimp +zetaDelta only)

theorem setCount_keeps {zz : State} {n : Nat} {v : Nat} {t : Nat} {s : State}
    (hs : Keeps zz s) :
    Keeps zz (setCount n v t s) := by
  unfold setCount
  extract_lets l0
  repeat' first
    | with_reducible assumption | with_reducible apply crossNothing_keeps
    | with_reducible apply pushHist_keeps | with_reducible apply setChan_keeps | (simp only [mk_keeps])
    | with_reducible apply foldl_keeps | split | intro _ _ _ | intro _ _ | extract_lets
    | (dsimp +zetaDelta only)

theorem posLoad_keeps {zz : State} {n : Nat} {s : State}
    (hs : Keeps zz s) :
    Keeps zz (posLoad n s) := by
  unfold posLoad
  repeat' first
    | with_reducible assumption | with_reducible apply softRef_keeps | with_reducible apply setCount_keeps
    | (simp only [mk_keeps]) | with_reducible apply foldl_keeps | split | intro _ _ _ | intro _ _
    | extract_lets | (dsimp +zetaDelta only)

theorem posDisarm_keeps {zz : State} {n : Nat} {s : State}
    (hs : Keeps zz s) :
    Keeps zz (posDisarm n s) := by
  unfold posDisarm
  repeat' first
    | with_reducible assumption | with_reducible apply set_keeps | (simp only [mk_keeps])
    | with_reducible apply foldl_keeps | split | intro _ _ _ | intro _ _ | extract_lets
    | (dsimp +zetaDelta only)

theorem posCtlWrite_keeps {zz : State} {n : Nat} {v : Nat} {s : State}
    (hs : Keeps zz s) :
    Keeps zz (posCtlWrite n v s) := by
  unfold posCtlWrite
  extract_lets l0 l1 l2
  have kl0 : Keeps zz l0 := by
    unfold l0
    repeat' first
      | with_reducible assumption | with_reducible apply posLoad_keeps | (simp only [mk_keeps])
      | with_reducible apply foldl_keeps | split | intro _ _ _ | intro _ _ | extract_lets
      | (dsimp +zetaDelta only)
  clear_value l0
  have kl1 : Keeps zz l1 := by
    unfold l1
    repeat' first
      | with_reducible assumption | with_reducible apply softRef_keeps | (simp only [mk_keeps])
      | with_reducible apply foldl_keeps | split | intro _ _ _ | intro _ _ | extract_lets
      | (dsimp +zetaDelta only)
  clear_value l1
  have kl2 : Keeps zz l2 := by
    unfold l2
    repeat' first
      | with_reducible assumption | with_reducible apply free_keeps
      | with_reducible refine free_keeps' ?_ (by with_reducible assumption) | with_reducible apply set_keeps
      | with_reducible apply posDisarm_keeps | with_reducible apply posArm_keeps | (simp only [mk_keeps])
      | with_reducible apply foldl_keeps | split | intro _ _ _ | intro _ _ | extract_lets
      | (dsimp +zetaDelta only)
  clear_value l2
  repeat' first
    | with_reducible assumption | with_reducible apply posLatch_keeps | (simp only [mk_keeps])
    | with_reducible apply foldl_keeps | split | intro _ _ _ | intro _ _ | extract_lets
    | (dsimp +zetaDelta only)

theorem spdWinWrite_keeps {zz : State} {n : Nat} {v : Nat} {s : State}
    (hs : Keeps zz s) :
    Keeps zz (spdWinWrite n v s) := by
  unfold spdWinWrite
  repeat' first
    | with_reducible assumption | with_reducible apply codedWrite_keeps | (simp only [mk_keeps])
    | with_reducible apply foldl_keeps | split | intro _ _ _ | intro _ _ | extract_lets
    | (dsimp +zetaDelta only)

theorem posReg_keeps {zz : State} {b : Nat} {i : Nat} {a : Nat} {v : Nat} {s : State}
    (hs : Keeps zz s) :
    Keeps zz (posReg b i a v s) := by
  unfold posReg
  repeat' first
    | with_reducible assumption | with_reducible apply posCfgWrite_keeps
    | with_reducible apply idxCfgWrite_keeps | with_reducible apply posCtlWrite_keeps
    | with_reducible apply spdWinWrite_keeps | with_reducible apply codedWrite_keeps | (simp only [mk_keeps])
    | with_reducible apply foldl_keeps | split | intro _ _ _ | intro _ _ | extract_lets
    | (dsimp +zetaDelta only)

theorem refuseTws_keeps {zz : State} {a : Nat} {s : State}
    (hs : Keeps zz s) :
    Keeps zz (refuseTws a s) := by
  unfold refuseTws
  repeat' first
    | with_reducible assumption | with_reducible apply log_keeps | (simp only [mk_keeps])
    | with_reducible apply foldl_keeps | split | intro _ _ _ | intro _ _ | extract_lets
    | (dsimp +zetaDelta only)

theorem wcfgWrite_keeps {zz : State} {w : Nat} {v : Nat} {s : State}
    (hs : Keeps zz s) :
    Keeps zz (wcfgWrite w v s) := by
  unfold wcfgWrite
  extract_lets l0 l1 l2 l3 l4 l5
  have kl4 : Keeps zz l4 := by
    unfold l4
    repeat' first
      | with_reducible assumption | with_reducible apply codedWrite_keeps | (simp only [mk_keeps])
      | with_reducible apply foldl_keeps | split | intro _ _ _ | intro _ _ | extract_lets
      | (dsimp +zetaDelta only)
  clear_value l4
  repeat' first
    | with_reducible assumption | with_reducible apply refuseTws_keeps | with_reducible apply setWheel_keeps
    | with_reducible apply set_keeps | with_reducible apply loseWheel_keeps | (simp only [mk_keeps])
    | with_reducible apply foldl_keeps | split | intro _ _ _ | intro _ _ | extract_lets
    | (dsimp +zetaDelta only)

theorem wzeroWrite_keeps {zz : State} {w : Nat} {v : Nat} {s : State}
    (hs : Keeps zz s) :
    Keeps zz (wzeroWrite w v s) := by
  unfold wzeroWrite
  extract_lets l0
  repeat' first
    | with_reducible assumption | with_reducible apply refuseTws_keeps | with_reducible apply codedWrite_keeps
    | (simp only [mk_keeps]) | with_reducible apply foldl_keeps | split | intro _ _ _ | intro _ _
    | extract_lets | (dsimp +zetaDelta only)

theorem wthWrite_keeps {zz : State} {w : Nat} {v : Nat} {s : State}
    (hs : Keeps zz s) :
    Keeps zz (wthWrite w v s) := by
  unfold wthWrite
  extract_lets l0 l1 l2 l3
  repeat' first
    | with_reducible assumption | with_reducible apply refuseTws_keeps | with_reducible apply codedWrite_keeps
    | (simp only [mk_keeps]) | with_reducible apply foldl_keeps | split | intro _ _ _ | intro _ _
    | extract_lets | (dsimp +zetaDelta only)

theorem wth2Write_keeps {zz : State} {w : Nat} {v : Nat} {s : State}
    (hs : Keeps zz s) :
    Keeps zz (wth2Write w v s) := by
  unfold wth2Write
  extract_lets l0
  repeat' first
    | with_reducible assumption | with_reducible apply refuseTws_keeps | with_reducible apply codedWrite_keeps
    | (simp only [mk_keeps]) | with_reducible apply foldl_keeps | split | intro _ _ _ | intro _ _
    | extract_lets | (dsimp +zetaDelta only)

theorem entryCtlWrite_keeps {zz : State} {e : Nat} {v : Nat} {s : State}
    (hs : Keeps zz s) :
    Keeps zz (entryCtlWrite e v s) := by
  unfold entryCtlWrite
  extract_lets l0 l1 l2 l3 l4 l5
  have kl0 : Keeps zz l0 := by
    unfold l0
    repeat' first
      | with_reducible assumption | with_reducible apply set_keeps | with_reducible apply codedWrite_keeps
      | (simp only [mk_keeps]) | with_reducible apply foldl_keeps | split | intro _ _ _ | intro _ _
      | extract_lets | (dsimp +zetaDelta only)
  clear_value l0
  have kl1 : Keeps zz l1 := by
    unfold l1
    repeat' first
      | with_reducible assumption | with_reducible apply set_keeps | (simp only [mk_keeps])
      | with_reducible apply foldl_keeps | split | intro _ _ _ | intro _ _ | extract_lets
      | (dsimp +zetaDelta only)
  clear_value l1
  have kl4 : Keeps zz l4 := by
    unfold l4
    repeat' first
      | with_reducible assumption | with_reducible apply setEntry_keeps | (simp only [mk_keeps])
      | with_reducible apply foldl_keeps | split | intro _ _ _ | intro _ _ | extract_lets
      | (dsimp +zetaDelta only)
  clear_value l4
  have kl5 : Keeps zz l5 := by
    unfold l5
    repeat' first
      | with_reducible assumption | with_reducible apply armEntry_keeps | (simp only [mk_keeps])
      | with_reducible apply foldl_keeps | split | intro _ _ _ | intro _ _ | extract_lets
      | (dsimp +zetaDelta only)
  clear_value l5
  repeat' first
    | with_reducible assumption | with_reducible apply recheckAll_keeps | (simp only [mk_keeps])
    | with_reducible apply foldl_keeps | split | intro _ _ _ | intro _ _ | extract_lets
    | (dsimp +zetaDelta only)

theorem lsAsmWrite_keeps {zz : State} {v : Nat} {s : State}
    (hs : Keeps zz s) :
    Keeps zz (lsAsmWrite v s) := by
  unfold lsAsmWrite
  extract_lets l0
  repeat' first
    | with_reducible assumption | with_reducible apply codedWrite_keeps
    | with_reducible apply closeAssembly_keeps | (simp only [mk_keeps]) | with_reducible apply foldl_keeps
    | split | intro _ _ _ | intro _ _ | extract_lets | (dsimp +zetaDelta only)

theorem twsReg_keeps {zz : State} {b : Nat} {i : Nat} {a : Nat} {v : Nat} {s : State}
    (hs : Keeps zz s) :
    Keeps zz (twsReg b i a v s) := by
  unfold twsReg
  extract_lets l0
  have kl0 : Keeps zz l0 := by
    unfold l0
    repeat' first
      | with_reducible assumption | with_reducible apply codedWrite_keeps | (simp only [mk_keeps])
      | with_reducible apply foldl_keeps | split | intro _ _ _ | intro _ _ | extract_lets
      | (dsimp +zetaDelta only)
  clear_value l0
  repeat' first
    | with_reducible assumption | with_reducible apply wcfgWrite_keeps | with_reducible apply wzeroWrite_keeps
    | with_reducible apply wthWrite_keeps | with_reducible apply wth2Write_keeps
    | with_reducible apply entryCtlWrite_keeps | with_reducible apply codedWrite_keeps
    | with_reducible apply armDivider_keeps | with_reducible apply lsAsmWrite_keeps | (simp only [mk_keeps])
    | with_reducible apply foldl_keeps | split | intro _ _ _ | intro _ _ | extract_lets
    | (dsimp +zetaDelta only)

theorem endLossRun_keeps {zz : State} {i : Nat} {s : State}
    (hs : Keeps zz s) :
    Keeps zz (endLossRun i s) := by
  unfold endLossRun
  repeat' first
    | with_reducible assumption | with_reducible apply endRun_keeps | (simp only [mk_keeps])
    | with_reducible apply foldl_keeps | split | intro _ _ _ | intro _ _ | extract_lets
    | (dsimp +zetaDelta only)

theorem settleMomentary_keeps {zz : State} {s : State}
    (hs : Keeps zz s) :
    Keeps zz (settleMomentary s) := by
  unfold settleMomentary
  extract_lets l0
  repeat' first
    | with_reducible assumption | with_reducible apply setBusy_keeps | with_reducible apply acceptEvent_keeps
    | with_reducible apply endLossRun_keeps | with_reducible apply set_keeps
    | with_reducible apply setCon_keeps | (simp only [mk_keeps]) | with_reducible apply foldl_keeps | split
    | intro _ _ _ | intro _ _ | extract_lets | (dsimp +zetaDelta only)

theorem queueTrigger_keeps {zz : State} {g : Nat} {streams : List Nat} {lat : Latch} {s : State}
    (hs : Keeps zz s) :
    Keeps zz (queueTrigger g streams lat s) := by
  unfold queueTrigger
  extract_lets l0 l1 l2 l3 l4 l5 l6
  repeat' first
    | with_reducible assumption | with_reducible apply setGroup_keeps | (simp only [mk_keeps])
    | with_reducible apply foldl_keeps | split | intro _ _ _ | intro _ _ | extract_lets
    | (dsimp +zetaDelta only)

theorem sendTriggers_keeps {zz : State} {sts : List Nat} {s : State}
    (hs : Keeps zz s) :
    Keeps zz (sendTriggers sts s) := by
  unfold sendTriggers
  repeat' first
    | with_reducible assumption | with_reducible apply queueTrigger_keeps | (simp only [mk_keeps])
    | with_reducible apply foldl_keeps | split | intro _ _ _ | intro _ _ | extract_lets
    | (dsimp +zetaDelta only)

theorem loseEvent_keeps {zz : State} {i : Nat} {s : State}
    (hs : Keeps zz s) :
    Keeps zz (loseEvent i s) := by
  unfold loseEvent
  extract_lets l0
  have kl0 : Keeps zz l0 := by
    unfold l0
    repeat' first
      | with_reducible assumption | with_reducible apply set_keeps | (simp only [mk_keeps])
      | with_reducible apply foldl_keeps | split | intro _ _ _ | intro _ _ | extract_lets
      | (dsimp +zetaDelta only)
  clear_value l0
  repeat' first
    | with_reducible assumption | with_reducible apply logRun_keeps | (simp only [mk_keeps])
    | with_reducible apply foldl_keeps | split | intro _ _ _ | intro _ _ | extract_lets
    | (dsimp +zetaDelta only)

theorem offerEvent_keeps {zz : State} {i : Nat} {f : Fired} {soft : Bool} {x3 : State}
    (hx3 : Keeps zz x3) :
    Keeps zz (offerEvent i f soft x3).2 := by
  unfold offerEvent
  extract_lets l0 l1 l2 l3 l4 l5
  have kl3 : Keeps zz l3 := by
    unfold l3
    repeat' first
      | with_reducible assumption | with_reducible apply count_keeps | (simp only [mk_keeps])
      | with_reducible apply foldl_keeps | split | intro _ _ _ | intro _ _ | extract_lets
      | (dsimp +zetaDelta only)
  clear_value l3
  have kl4 : Keeps zz l4 := by
    unfold l4
    repeat' first
      | with_reducible assumption | with_reducible apply set_keeps | (simp only [mk_keeps])
      | with_reducible apply foldl_keeps | split | intro _ _ _ | intro _ _ | extract_lets
      | (dsimp +zetaDelta only)
  clear_value l4
  repeat' first
    | with_reducible assumption | with_reducible apply acceptEvent_keeps
    | with_reducible apply endLossRun_keeps | with_reducible apply set_keeps
    | with_reducible apply setCon_keeps | with_reducible apply loseEvent_keeps | (simp only [mk_keeps])
    | with_reducible apply foldl_keeps | split | intro _ _ _ | intro _ _ | extract_lets
    | (dsimp +zetaDelta only)

theorem offerEvent_keeps' {zz t : State} {i : Nat} {f : Fired} {soft : Bool} {x3 : State} {q}
    (hx3 : Keeps zz x3) (e : (offerEvent i f soft x3) = (q, t)) :
    Keeps zz t := by
  have := offerEvent_keeps (i := i) (f := f) (soft := soft) (x3 := x3) hx3
  rw [e] at this
  exact this

theorem noteBeat_keeps {zz : State} {b : Nat} {s : State}
    (hs : Keeps zz s) :
    Keeps zz (noteBeat b s) := by
  unfold noteBeat
  extract_lets l0 l1
  have kl0 : Keeps zz l0 := by
    unfold l0
    repeat' first
      | with_reducible assumption | with_reducible apply set_keeps | (simp only [mk_keeps])
      | with_reducible apply foldl_keeps | split | intro _ _ _ | intro _ _ | extract_lets
      | (dsimp +zetaDelta only)
  clear_value l0
  repeat' first
    | with_reducible assumption | with_reducible apply set_keeps | with_reducible apply count_keeps
    | (simp only [mk_keeps]) | with_reducible apply foldl_keeps | split | intro _ _ _ | intro _ _
    | extract_lets | (dsimp +zetaDelta only)

theorem crossing_keeps {zz : State} {k : Nat} {span : Nat} {s : State}
    (hs : Keeps zz s) :
    Keeps zz (crossing k span s).2 := by
  unfold crossing
  extract_lets l0 l1 l2 l3
  repeat' first
    | with_reducible assumption | with_reducible apply endRun_keeps | with_reducible apply logRun_keeps
    | with_reducible apply count_keeps | (simp only [mk_keeps]) | with_reducible apply foldl_keeps | split
    | intro _ _ _ | intro _ _ | extract_lets | (dsimp +zetaDelta only)

theorem crossing_keeps' {zz t : State} {k : Nat} {span : Nat} {s : State} {q}
    (hs : Keeps zz s) (e : (crossing k span s) = (q, t)) :
    Keeps zz t := by
  have := crossing_keeps (k := k) (span := span) (s := s) hs
  rw [e] at this
  exact this

theorem beatEvent_keeps {zz : State} {b : Nat} {f : Fired} {soft : Bool} {a : State × List Nat × List Nat}
    (ha : Keeps zz a.1) : Keeps zz (beatEvent b f soft a).1 := by
  obtain ⟨s, hits, trigs⟩ := a
  have h1 : ∀ d, Keeps zz (if d == 0 || d == 7 then (true, s) else crossing b (750 + 3 * domainPeriod d) s).2 := by
    intro d
    split
    · exact ha
    · exact crossing_keeps ha
  unfold beatEvent
  dsimp only
  generalize (if soft = true then 0 else prodDomain s f.prod) = d
  specialize h1 d
  refine foldl_fst_keeps ?_ ?_
  · repeat' first
      | exact ha
      | with_reducible exact h1
      | with_reducible apply noteBeat_keeps
      | with_reducible apply crossing_keeps
      | split
  · intro acc i hacc
    refine iteFst_keeps hacc (iteFst_keeps (offerEvent_keeps hacc) hacc)

theorem deliverBatch_keeps {zz : State} {evs : List (Nat × Fired)} {soft : Bool} {s : State} (hs : Keeps zz s) :
    Keeps zz (deliverBatch evs soft s) := by
  unfold deliverBatch
  split
  · exact hs
  · exact runCells_keeps (sendTriggers_keeps (foldl_fst_keeps (settleMomentary_keeps hs)
      (fun a e ha => beatEvent_keeps ha)))

theorem softFire_keeps {zz : State} {k : Nat} {v : Nat} {s : State}
    (hs : Keeps zz s) :
    Keeps zz (softFire k v s) := by
  unfold softFire
  extract_lets l0
  repeat' first
    | with_reducible assumption | with_reducible apply deliverBatch_keeps | (simp only [mk_keeps])
    | with_reducible apply foldl_keeps | split | intro _ _ _ | intro _ _ | extract_lets
    | (dsimp +zetaDelta only)

theorem ovrWrite_keeps {zz : State} {k : Nat} {v : Nat} {s : State}
    (hs : Keeps zz s) :
    Keeps zz (ovrWrite k v s) := by
  unfold ovrWrite
  repeat' first
    | with_reducible assumption | with_reducible apply set_keeps | with_reducible apply codedWrite_keeps
    | (simp only [mk_keeps]) | with_reducible apply foldl_keeps | split | intro _ _ _ | intro _ _
    | extract_lets | (dsimp +zetaDelta only)

theorem dropMessage_keeps {zz : State} {src : Nat} {ix : Nat} {s : State}
    (hs : Keeps zz s) :
    Keeps zz (dropMessage src ix s) := by
  unfold dropMessage
  extract_lets l0
  repeat' first
    | with_reducible assumption | (simp only [mk_keeps]) | with_reducible apply foldl_keeps | split
    | intro _ _ _ | intro _ _ | extract_lets | (dsimp +zetaDelta only)

theorem hnStatWrite_keeps {zz : State} {k : Nat} {v : Nat} {s : State}
    (hs : Keeps zz s) :
    Keeps zz (hnStatWrite k v s) := by
  unfold hnStatWrite
  extract_lets l0
  have kl0 : Keeps zz l0 := by
    unfold l0
    repeat' first
      | with_reducible assumption | with_reducible apply codedWrite_keeps | (simp only [mk_keeps])
      | with_reducible apply foldl_keeps | split | intro _ _ _ | intro _ _ | extract_lets
      | (dsimp +zetaDelta only)
  clear_value l0
  repeat' first
    | with_reducible assumption | with_reducible apply setBusy_keeps | with_reducible apply dropMessage_keeps
    | (simp only [mk_keeps]) | with_reducible apply foldl_keeps | split | intro _ _ _ | intro _ _
    | extract_lets | (dsimp +zetaDelta only)

theorem refreshAsync_keeps {zz : State} {s : State}
    (hs : Keeps zz s) :
    Keeps zz (refreshAsync s) := by
  unfold refreshAsync
  extract_lets l0
  have kl0 : Keeps zz l0 := by
    unfold l0
    repeat' first
      | with_reducible assumption | with_reducible apply set_keeps | with_reducible apply log_keeps
      | (simp only [mk_keeps]) | with_reducible apply foldl_keeps | split | intro _ _ _ | intro _ _
      | extract_lets | (dsimp +zetaDelta only)
  clear_value l0
  repeat' first
    | with_reducible assumption | with_reducible apply set_keeps | with_reducible apply log_keeps
    | (simp only [mk_keeps]) | with_reducible apply foldl_keeps | split | intro _ _ _ | intro _ _
    | extract_lets | (dsimp +zetaDelta only)

theorem settleAssembly_keeps {zz : State} {s : State}
    (hs : Keeps zz s) :
    Keeps zz (settleAssembly s) := by
  unfold settleAssembly
  extract_lets l0
  repeat' first
    | with_reducible assumption | with_reducible apply settleStream_keeps
    | with_reducible apply closeAssembly_keeps | (simp only [mk_keeps]) | with_reducible apply foldl_keeps
    | split | intro _ _ _ | intro _ _ | extract_lets | (dsimp +zetaDelta only)

theorem recheckConsumer_keeps {zz : State} {i : Nat} {s : State}
    (hs : Keeps zz s) :
    Keeps zz (recheckConsumer i s) := by
  unfold recheckConsumer
  repeat' first
    | with_reducible assumption | with_reducible apply settleAssembly_keeps
    | with_reducible apply recheckStream_keeps | (simp only [mk_keeps]) | with_reducible apply foldl_keeps
    | split | intro _ _ _ | intro _ _ | extract_lets | (dsimp +zetaDelta only)

theorem beatSrcWrite_keeps {zz : State} {b : Nat} {v : Nat} {x2 : State}
    (hx2 : Keeps zz x2) :
    Keeps zz (beatSrcWrite b v x2) := by
  unfold beatSrcWrite
  extract_lets l0
  have kl0 : Keeps zz l0 := by
    unfold l0
    repeat' first
      | with_reducible assumption | with_reducible apply refreshAsync_keeps
      | with_reducible apply codedWrite_keeps | with_reducible apply seeGuards_keeps | (simp only [mk_keeps])
      | with_reducible apply foldl_keeps | split | intro _ _ _ | intro _ _ | extract_lets
      | (dsimp +zetaDelta only)
  clear_value l0
  repeat' first
    | with_reducible assumption | with_reducible apply recheckConsumer_keeps | (simp only [mk_keeps])
    | with_reducible apply foldl_keeps | split | intro _ _ _ | intro _ _ | extract_lets
    | (dsimp +zetaDelta only)

theorem cselWrite_keeps {zz : State} {i : Nat} {v : Nat} {x2 : State}
    (hx2 : Keeps zz x2) :
    Keeps zz (cselWrite i v x2) := by
  unfold cselWrite
  extract_lets l0 l1 l2 l3 l4
  have kl0 : Keeps zz l0 := by
    unfold l0
    repeat' first
      | with_reducible assumption | with_reducible apply seeGuards_keeps | (simp only [mk_keeps])
      | with_reducible apply foldl_keeps | split | intro _ _ _ | intro _ _ | extract_lets
      | (dsimp +zetaDelta only)
  clear_value l0
  have kl2 : Keeps zz l2 := by
    unfold l2
    repeat' first
      | with_reducible assumption | with_reducible apply set_keeps | (simp only [mk_keeps])
      | with_reducible apply foldl_keeps | split | intro _ _ _ | intro _ _ | extract_lets
      | (dsimp +zetaDelta only)
  clear_value l2
  have kl3 : Keeps zz l3 := by
    unfold l3
    repeat' first
      | with_reducible assumption | with_reducible apply set_keeps | (simp only [mk_keeps])
      | with_reducible apply foldl_keeps | split | intro _ _ _ | intro _ _ | extract_lets
      | (dsimp +zetaDelta only)
  clear_value l3
  have kl4 : Keeps zz l4 := by
    unfold l4
    repeat' first
      | with_reducible assumption | with_reducible apply dropHeld_keeps | (simp only [mk_keeps])
      | with_reducible apply foldl_keeps | split | intro _ _ _ | intro _ _ | extract_lets
      | (dsimp +zetaDelta only)
  clear_value l4
  repeat' first
    | with_reducible assumption | with_reducible apply recheckConsumer_keeps
    | with_reducible apply refreshAsync_keeps | (simp only [mk_keeps]) | with_reducible apply foldl_keeps
    | split | intro _ _ _ | intro _ _ | extract_lets | (dsimp +zetaDelta only)

theorem cellWrite_keeps {zz : State} {c : Nat} {v : Nat} {x2 : State}
    (hx2 : Keeps zz x2) :
    Keeps zz (cellWrite c v x2) := by
  unfold cellWrite
  extract_lets l0 l1 l2 l3
  have kl0 : Keeps zz l0 := by
    unfold l0
    repeat' first
      | with_reducible assumption | with_reducible apply seeGuards_keeps | (simp only [mk_keeps])
      | with_reducible apply foldl_keeps | split | intro _ _ _ | intro _ _ | extract_lets
      | (dsimp +zetaDelta only)
  clear_value l0
  have kl2 : Keeps zz l2 := by
    unfold l2
    repeat' first
      | with_reducible assumption | with_reducible apply codedWrite_keeps | (simp only [mk_keeps])
      | with_reducible apply foldl_keeps | split | intro _ _ _ | intro _ _ | extract_lets
      | (dsimp +zetaDelta only)
  clear_value l2
  have kl3 : Keeps zz l3 := by
    unfold l3
    repeat' first
      | with_reducible assumption | with_reducible apply set_keeps | with_reducible apply setCell_keeps
      | (simp only [mk_keeps]) | with_reducible apply foldl_keeps | split | intro _ _ _ | intro _ _
      | extract_lets | (dsimp +zetaDelta only)
  clear_value l3
  repeat' first
    | with_reducible assumption | with_reducible apply runCells_keeps
    | with_reducible apply refreshAsync_keeps | (simp only [mk_keeps]) | with_reducible apply foldl_keeps
    | split | intro _ _ _ | intro _ _ | extract_lets | (dsimp +zetaDelta only)

theorem btmReg_keeps {zz : State} {b : Nat} {i : Nat} {a : Nat} {v : Nat} {s : State}
    (hs : Keeps zz s) :
    Keeps zz (btmReg b i a v s) := by
  unfold btmReg
  repeat' first
    | with_reducible assumption | with_reducible apply softFire_keeps | with_reducible apply ovrWrite_keeps
    | with_reducible apply hnStatWrite_keeps | with_reducible apply beatSrcWrite_keeps
    | with_reducible apply cselWrite_keeps | with_reducible apply cellWrite_keeps
    | with_reducible apply runCells_keeps | with_reducible apply codedWrite_keeps
    | with_reducible apply seeGuards_keeps | (simp only [mk_keeps]) | with_reducible apply foldl_keeps | split
    | intro _ _ _ | intro _ _ | extract_lets | (dsimp +zetaDelta only)

theorem outReg_keeps {zz : State} {b : Nat} {i : Nat} {a : Nat} {v : Nat} {s : State}
    (hs : Keeps zz s) :
    Keeps zz (outReg b i a v s) := by
  unfold outReg
  repeat' first
    | with_reducible assumption | with_reducible apply codedWrite_keeps | with_reducible apply seeGuard_keeps
    | with_reducible apply aenaWrite_keeps | with_reducible apply analogAll_keeps
    | with_reducible apply avalWrite_keeps | with_reducible apply arngWrite_keeps | (simp only [mk_keeps])
    | with_reducible apply foldl_keeps | split | intro _ _ _ | intro _ _ | extract_lets
    | (dsimp +zetaDelta only)

theorem refuseQcmd_keeps {zz : State} {q : Nat} {op : Nat} {result : Nat} {s : State}
    (hs : Keeps zz s) :
    Keeps zz (refuseQcmd q op result s) := by
  unfold refuseQcmd
  repeat' first
    | with_reducible assumption | with_reducible apply log_keeps | with_reducible apply set_keeps
    | (simp only [mk_keeps]) | with_reducible apply foldl_keeps | split | intro _ _ _ | intro _ _
    | extract_lets | (dsimp +zetaDelta only)

theorem queueEnable_keeps {zz : State} {q : Nat} {s : State}
    (hs : Keeps zz s) :
    Keeps zz (queueEnable q s) := by
  unfold queueEnable
  repeat' first
    | with_reducible assumption | with_reducible apply refuseQcmd_keeps | with_reducible apply promote_keeps
    | with_reducible apply set_keeps | (simp only [mk_keeps]) | with_reducible apply foldl_keeps | split
    | intro _ _ _ | intro _ _ | extract_lets | (dsimp +zetaDelta only)

theorem queuePause_keeps {zz : State} {q : Nat} {s : State}
    (hs : Keeps zz s) :
    Keeps zz (queuePause q s) := by
  unfold queuePause
  repeat' first
    | with_reducible assumption | with_reducible apply refuseQcmd_keeps | with_reducible apply set_keeps
    | with_reducible apply pauseQueue_keeps | (simp only [mk_keeps]) | with_reducible apply foldl_keeps
    | split | intro _ _ _ | intro _ _ | extract_lets | (dsimp +zetaDelta only)

theorem clearPaused_keeps {zz : State} {q : Nat} {s : State}
    (hs : Keeps zz s) :
    Keeps zz (clearPaused q s) := by
  unfold clearPaused
  repeat' first
    | with_reducible assumption | with_reducible apply set_keeps | (simp only [mk_keeps])
    | with_reducible apply foldl_keeps | split | intro _ _ _ | intro _ _ | extract_lets
    | (dsimp +zetaDelta only)

theorem queueResume_keeps {zz : State} {q : Nat} {s : State}
    (hs : Keeps zz s) :
    Keeps zz (queueResume q s) := by
  unfold queueResume
  extract_lets l0 l1 l2 l3
  have kl1 : Keeps zz l1 := by
    unfold l1
    repeat' first
      | with_reducible assumption | with_reducible apply set_keeps | with_reducible apply clearPaused_keeps
      | (simp only [mk_keeps]) | with_reducible apply foldl_keeps | split | intro _ _ _ | intro _ _
      | extract_lets | (dsimp +zetaDelta only)
  clear_value l1
  have kl3 : Keeps zz l3 := by
    unfold l3
    repeat' first
      | with_reducible assumption | with_reducible apply set_keeps | with_reducible apply writeTag_keeps
      | with_reducible apply setQueue_keeps | (simp only [mk_keeps]) | with_reducible apply foldl_keeps
      | split | intro _ _ _ | intro _ _ | extract_lets | (dsimp +zetaDelta only)
  clear_value l3
  repeat' first
    | with_reducible assumption | with_reducible apply refuseQcmd_keeps | with_reducible apply set_keeps
    | with_reducible apply promote_keeps | (simp only [mk_keeps]) | with_reducible apply foldl_keeps | split
    | intro _ _ _ | intro _ _ | extract_lets | (dsimp +zetaDelta only)

theorem queueReset_keeps {zz : State} {q : Nat} {s : State}
    (hs : Keeps zz s) :
    Keeps zz (queueReset q s) := by
  unfold queueReset
  extract_lets l0 l1 l2 l3 l4 l5 l6 l7 l8
  have kl2 : Keeps zz l2 := by
    unfold l2
    repeat' first
      | with_reducible assumption | with_reducible apply setQueue_keeps | (simp only [mk_keeps])
      | with_reducible apply foldl_keeps | split | intro _ _ _ | intro _ _ | extract_lets
      | (dsimp +zetaDelta only)
  clear_value l2
  have kl3 : Keeps zz l3 := by
    unfold l3
    repeat' first
      | with_reducible assumption | with_reducible apply itemGone_keeps | (simp only [mk_keeps])
      | with_reducible apply foldl_keeps | split | intro _ _ _ | intro _ _ | extract_lets
      | (dsimp +zetaDelta only)
  clear_value l3
  have kl4 : Keeps zz l4 := by
    unfold l4
    repeat' first
      | with_reducible assumption | with_reducible apply clearPaused_keeps | (simp only [mk_keeps])
      | with_reducible apply foldl_keeps | split | intro _ _ _ | intro _ _ | extract_lets
      | (dsimp +zetaDelta only)
  clear_value l4
  have kl5 : Keeps zz l5 := by
    unfold l5
    repeat' first
      | with_reducible assumption | with_reducible apply set_keeps | (simp only [mk_keeps])
      | with_reducible apply foldl_keeps | split | intro _ _ _ | intro _ _ | extract_lets
      | (dsimp +zetaDelta only)
  clear_value l5
  have kl6 : Keeps zz l6 := by
    unfold l6
    repeat' first
      | with_reducible assumption | with_reducible apply set_keeps | (simp only [mk_keeps])
      | with_reducible apply foldl_keeps | split | intro _ _ _ | intro _ _ | extract_lets
      | (dsimp +zetaDelta only)
  clear_value l6
  have kl7 : Keeps zz l7 := by
    unfold l7
    repeat' first
      | with_reducible assumption | with_reducible apply dropMessage_keeps | (simp only [mk_keeps])
      | with_reducible apply foldl_keeps | split | intro _ _ _ | intro _ _ | extract_lets
      | (dsimp +zetaDelta only)
  clear_value l7
  repeat' first
    | with_reducible assumption | (simp only [mk_keeps]) | with_reducible apply foldl_keeps | split
    | intro _ _ _ | intro _ _ | extract_lets | (dsimp +zetaDelta only)

theorem queueMark_keeps {zz : State} {q : Nat} {s : State}
    (hs : Keeps zz s) :
    Keeps zz (queueMark q s) := by
  unfold queueMark
  extract_lets l0 l1 l2 l3 l4
  repeat' first
    | with_reducible assumption | with_reducible apply refuseQcmd_keeps | with_reducible apply promote_keeps
    | with_reducible apply set_keeps | with_reducible apply setQueue_keeps | (simp only [mk_keeps])
    | with_reducible apply foldl_keeps | split | intro _ _ _ | intro _ _ | extract_lets
    | (dsimp +zetaDelta only)

theorem queueCommand_keeps {zz : State} {op : Nat} {q : Nat} {s : State}
    (hs : Keeps zz s) :
    Keeps zz (queueCommand op q s) := by
  unfold queueCommand
  repeat' first
    | with_reducible assumption | with_reducible apply queueEnable_keeps
    | with_reducible apply queuePause_keeps | with_reducible apply queueResume_keeps
    | with_reducible apply set_keeps | with_reducible apply queueReset_keeps
    | with_reducible apply queueMark_keeps | with_reducible apply refuseQcmd_keeps | (simp only [mk_keeps])
    | with_reducible apply foldl_keeps | split | intro _ _ _ | intro _ _ | extract_lets
    | (dsimp +zetaDelta only)

theorem queBistStart_keeps {zz : State} {s : State}
    (hs : Keeps zz s) :
    Keeps zz (queBistStart s) := by
  unfold queBistStart
  repeat' first
    | with_reducible assumption | with_reducible apply set_keeps | with_reducible apply log_keeps
    | (simp only [mk_keeps]) | with_reducible apply foldl_keeps | split | intro _ _ _ | intro _ _
    | extract_lets | (dsimp +zetaDelta only)

theorem queDmaWrite_keeps {zz : State} {v : Nat} {s : State}
    (hs : Keeps zz s) :
    Keeps zz (queDmaWrite v s) := by
  unfold queDmaWrite
  extract_lets l0
  repeat' first
    | with_reducible assumption | with_reducible apply log_keeps | with_reducible apply codedWrite_keeps
    | (simp only [mk_keeps]) | with_reducible apply foldl_keeps | split | intro _ _ _ | intro _ _
    | extract_lets | (dsimp +zetaDelta only)

theorem ctxWrite_keeps {zz : State} {q : Nat} {w : Nat} {v : Nat} {s : State}
    (hs : Keeps zz s) :
    Keeps zz (ctxWrite q w v s) := by
  unfold ctxWrite
  extract_lets l0
  repeat' first
    | with_reducible assumption | with_reducible apply log_keeps | with_reducible apply wrA_keeps
    | (simp only [mk_keeps]) | with_reducible apply foldl_keeps | split | intro _ _ _ | intro _ _
    | extract_lets | (dsimp +zetaDelta only)

theorem mapWrite_keeps {zz : State} {addr : Nat} {v : Nat} {s : State}
    (hs : Keeps zz s) :
    Keeps zz (mapWrite addr v s) := by
  unfold mapWrite
  repeat' first
    | with_reducible assumption | with_reducible apply log_keeps | with_reducible apply wrA_keeps
    | (simp only [mk_keeps]) | with_reducible apply foldl_keeps | split | intro _ _ _ | intro _ _
    | extract_lets | (dsimp +zetaDelta only)

theorem queReg_keeps {zz : State} {b : Nat} {i : Nat} {a : Nat} {v : Nat} {s : State}
    (hs : Keeps zz s) :
    Keeps zz (queReg b i a v s) := by
  unfold queReg
  repeat' first
    | with_reducible assumption | with_reducible apply queueCommand_keeps
    | with_reducible apply queBistStart_keeps | with_reducible apply queDmaWrite_keeps
    | with_reducible apply ctxWrite_keeps | with_reducible apply mapWrite_keeps
    | with_reducible apply codedWrite_keeps | (simp only [mk_keeps]) | with_reducible apply foldl_keeps
    | split | intro _ _ _ | intro _ _ | extract_lets | (dsimp +zetaDelta only)

theorem pollWrite_keeps {zz : State} {k : Nat} {a : Nat} {v : Nat} {s : State}
    (hs : Keeps zz s) :
    Keeps zz (pollWrite k a v s) := by
  unfold pollWrite
  extract_lets l0 l1
  have kl0 : Keeps zz l0 := by
    unfold l0
    repeat' first
      | with_reducible assumption | with_reducible apply codedWrite_keeps | (simp only [mk_keeps])
      | with_reducible apply foldl_keeps | split | intro _ _ _ | intro _ _ | extract_lets
      | (dsimp +zetaDelta only)
  clear_value l0
  repeat' first
    | with_reducible assumption | (simp only [mk_keeps]) | with_reducible apply foldl_keeps | split
    | intro _ _ _ | intro _ _ | extract_lets | (dsimp +zetaDelta only)

theorem hbrReg_keeps {zz : State} {b : Nat} {i : Nat} {a : Nat} {v : Nat} {s : State}
    (hs : Keeps zz s) :
    Keeps zz (hbrReg b i a v s) := by
  unfold hbrReg
  repeat' first
    | with_reducible assumption | with_reducible apply farPump_keeps | with_reducible apply codedWrite_keeps
    | with_reducible apply pollWrite_keeps | (simp only [mk_keeps]) | with_reducible apply foldl_keeps | split
    | intro _ _ _ | intro _ _ | extract_lets | (dsimp +zetaDelta only)

theorem rejoin_keeps {zz : State} {c : Nat} {s : State}
    (hs : Keeps zz s) :
    Keeps zz (rejoin c s) := by
  unfold rejoin
  extract_lets l0 l1
  have kl1 : Keeps zz l1 := by
    unfold l1
    repeat' first
      | with_reducible assumption | (simp only [mk_keeps]) | with_reducible apply foldl_keeps | split
      | intro _ _ _ | intro _ _ | extract_lets | (dsimp +zetaDelta only)
  clear_value l1
  repeat' first
    | with_reducible assumption | with_reducible apply log_keeps | with_reducible apply set_keeps
    | (simp only [mk_keeps]) | with_reducible apply foldl_keeps | split | intro _ _ _ | intro _ _
    | extract_lets | (dsimp +zetaDelta only)

theorem parkWrite_keeps {zz : State} {c : Nat} {v : Nat} {s : State}
    (hs : Keeps zz s) :
    Keeps zz (parkWrite c v s) := by
  unfold parkWrite
  extract_lets l0 l1
  have kl0 : Keeps zz l0 := by
    unfold l0
    repeat' first
      | with_reducible assumption | with_reducible apply set_keeps | (simp only [mk_keeps])
      | with_reducible apply foldl_keeps | split | intro _ _ _ | intro _ _ | extract_lets
      | (dsimp +zetaDelta only)
  clear_value l0
  repeat' first
    | with_reducible assumption | with_reducible apply set_keeps | with_reducible apply log_keeps
    | with_reducible apply rejoin_keeps | (simp only [mk_keeps]) | with_reducible apply foldl_keeps | split
    | intro _ _ _ | intro _ _ | extract_lets | (dsimp +zetaDelta only)

theorem refuseVen_keeps {zz : State} {x : Nat} {f : Fld} {s : State}
    (hs : Keeps zz s) :
    Keeps zz (refuseVen x f s) := by
  unfold refuseVen
  repeat' first
    | with_reducible assumption | with_reducible apply log_keeps | (simp only [mk_keeps])
    | with_reducible apply foldl_keeps | split | intro _ _ _ | intro _ _ | extract_lets
    | (dsimp +zetaDelta only)

theorem storeCcfg_keeps {zz : State} {x : Nat} {v : Nat} {s : State}
    (hs : Keeps zz s) :
    Keeps zz (storeCcfg x v s) := by
  unfold storeCcfg
  repeat' first
    | with_reducible assumption | with_reducible apply set_keeps | (simp only [mk_keeps])
    | with_reducible apply foldl_keeps | split | intro _ _ _ | intro _ _ | extract_lets
    | (dsimp +zetaDelta only)

theorem startCtx_keeps {zz : State} {x : Nat} {s : State}
    (hs : Keeps zz s) :
    Keeps zz (startCtx x s) := by
  unfold startCtx
  extract_lets l0 l1
  have kl1 : Keeps zz l1 := by
    unfold l1
    repeat' first
      | with_reducible assumption | with_reducible apply setVctx_keeps | (simp only [mk_keeps])
      | with_reducible apply foldl_keeps | split | intro _ _ _ | intro _ _ | extract_lets
      | (dsimp +zetaDelta only)
  clear_value l1
  repeat' first
    | with_reducible assumption | with_reducible apply set_keeps | (simp only [mk_keeps])
    | with_reducible apply foldl_keeps | split | intro _ _ _ | intro _ _ | extract_lets
    | (dsimp +zetaDelta only)

theorem venEnableWrite_keeps {zz : State} {x : Nat} {v : Nat} {s : State}
    (hs : Keeps zz s) :
    Keeps zz (venEnableWrite x v s) := by
  unfold venEnableWrite
  extract_lets l0 l1 l2 l3 l4 l5 l6 l7
  have kl3 : Keeps zz l3 := by
    unfold l3
    repeat' first
      | with_reducible assumption | with_reducible apply storeCcfg_keeps | (simp only [mk_keeps])
      | with_reducible apply foldl_keeps | split | intro _ _ _ | intro _ _ | extract_lets
      | (dsimp +zetaDelta only)
  clear_value l3
  have kl4 : Keeps zz l4 := by
    unfold l4
    repeat' first
      | with_reducible assumption | with_reducible apply deriveCtx_keeps | with_reducible apply set_keeps
      | (simp only [mk_keeps]) | with_reducible apply foldl_keeps | split | intro _ _ _ | intro _ _
      | extract_lets | (dsimp +zetaDelta only)
  clear_value l4
  have kl5 : Keeps zz l5 := by
    unfold l5
    repeat' first
      | with_reducible assumption | with_reducible apply storeCcfg_keeps
      | with_reducible apply deriveCtx_keeps | (simp only [mk_keeps]) | with_reducible apply foldl_keeps
      | split | intro _ _ _ | intro _ _ | extract_lets | (dsimp +zetaDelta only)
  clear_value l5
  have kl7 : Keeps zz l7 := by
    unfold l7
    repeat' first
      | with_reducible assumption | with_reducible apply setVctx_keeps | (simp only [mk_keeps])
      | with_reducible apply foldl_keeps | split | intro _ _ _ | intro _ _ | extract_lets
      | (dsimp +zetaDelta only)
  clear_value l7
  repeat' first
    | with_reducible assumption | with_reducible apply refuseVen_keeps | with_reducible apply deriveCtx_keeps
    | with_reducible apply set_keeps | with_reducible apply losePics_keeps
    | with_reducible apply startCtx_keeps | (simp only [mk_keeps]) | with_reducible apply foldl_keeps | split
    | intro _ _ _ | intro _ _ | extract_lets | (dsimp +zetaDelta only)

theorem venRestart_keeps {zz : State} {x : Nat} {s : State}
    (hs : Keeps zz s) :
    Keeps zz (venRestart x s) := by
  unfold venRestart
  repeat' first
    | with_reducible assumption | with_reducible apply startCtx_keeps | with_reducible apply refuseVen_keeps
    | (simp only [mk_keeps]) | with_reducible apply foldl_keeps | split | intro _ _ _ | intro _ _
    | extract_lets | (dsimp +zetaDelta only)

theorem cqpWrite_keeps {zz : State} {x : Nat} {v : Nat} {s : State}
    (hs : Keeps zz s) :
    Keeps zz (cqpWrite x v s) := by
  unfold cqpWrite
  extract_lets l0 l1 l2 l3 l4 l5
  have kl0 : Keeps zz l0 := by
    unfold l0
    repeat' first
      | with_reducible assumption | with_reducible apply codedWrite_keeps | (simp only [mk_keeps])
      | with_reducible apply foldl_keeps | split | intro _ _ _ | intro _ _ | extract_lets
      | (dsimp +zetaDelta only)
  clear_value l0
  have kl2 : Keeps zz l2 := by
    unfold l2
    repeat' first
      | with_reducible assumption | with_reducible apply set_keeps | (simp only [mk_keeps])
      | with_reducible apply foldl_keeps | split | intro _ _ _ | intro _ _ | extract_lets
      | (dsimp +zetaDelta only)
  clear_value l2
  have kl5 : Keeps zz l5 := by
    unfold l5
    repeat' first
      | with_reducible assumption | with_reducible apply set_keeps | (simp only [mk_keeps])
      | with_reducible apply foldl_keeps | split | intro _ _ _ | intro _ _ | extract_lets
      | (dsimp +zetaDelta only)
  clear_value l5
  repeat' first
    | with_reducible assumption | with_reducible apply refuseVen_keeps | (simp only [mk_keeps])
    | with_reducible apply foldl_keeps | split | intro _ _ _ | intro _ _ | extract_lets
    | (dsimp +zetaDelta only)

theorem rangeWrite_keeps {zz : State} {x : Nat} {f : Fld} {g : Fld} {lo : Nat} {hi : Nat} {v : Nat} {s : State}
    (hs : Keeps zz s) :
    Keeps zz (rangeWrite x f g lo hi v s) := by
  unfold rangeWrite
  extract_lets l0
  have kl0 : Keeps zz l0 := by
    unfold l0
    repeat' first
      | with_reducible assumption | with_reducible apply codedWrite_keeps | (simp only [mk_keeps])
      | with_reducible apply foldl_keeps | split | intro _ _ _ | intro _ _ | extract_lets
      | (dsimp +zetaDelta only)
  clear_value l0
  repeat' first
    | with_reducible assumption | with_reducible apply refuseVen_keeps | with_reducible apply set_keeps
    | (simp only [mk_keeps]) | with_reducible apply foldl_keeps | split | intro _ _ _ | intro _ _
    | extract_lets | (dsimp +zetaDelta only)

theorem venReg_keeps {zz : State} {b : Nat} {i : Nat} {a : Nat} {v : Nat} {s : State}
    (hs : Keeps zz s) :
    Keeps zz (venReg b i a v s) := by
  unfold venReg
  extract_lets l0
  have kl0 : Keeps zz l0 := by
    unfold l0
    repeat' first
      | with_reducible assumption | with_reducible apply venRestart_keeps | (simp only [mk_keeps])
      | with_reducible apply foldl_keeps | split | intro _ _ _ | intro _ _ | extract_lets
      | (dsimp +zetaDelta only)
  clear_value l0
  repeat' first
    | with_reducible assumption | with_reducible apply parkWrite_keeps
    | with_reducible apply venEnableWrite_keeps | with_reducible apply set_keeps
    | with_reducible apply cqpWrite_keeps | with_reducible apply rangeWrite_keeps
    | with_reducible apply codedWrite_keeps | (simp only [mk_keeps]) | with_reducible apply foldl_keeps
    | split | intro _ _ _ | intro _ _ | extract_lets | (dsimp +zetaDelta only)

theorem setRoot_keeps {zz : State} {b : Bool} {s : State}
    (hs : Keeps zz s) :
    Keeps zz (setRoot b s) := by
  unfold setRoot
  extract_lets l0
  have kl0 : Keeps zz l0 := by
    unfold l0
    repeat' first
      | with_reducible assumption | with_reducible apply set_keeps | (simp only [mk_keeps])
      | with_reducible apply foldl_keeps | split | intro _ _ _ | intro _ _ | extract_lets
      | (dsimp +zetaDelta only)
  clear_value l0
  repeat' first
    | with_reducible assumption | with_reducible apply reselect_keeps | (simp only [mk_keeps])
    | with_reducible apply foldl_keeps | split | intro _ _ _ | intro _ _ | extract_lets
    | (dsimp +zetaDelta only)

theorem setNode_keeps {zz : State} {st : Nat} {s : State}
    (hs : Keeps zz s) :
    Keeps zz (setNode st s) := by
  unfold setNode
  repeat' first
    | with_reducible assumption | with_reducible apply set_keeps | (simp only [mk_keeps])
    | with_reducible apply foldl_keeps | split | intro _ _ _ | intro _ _ | extract_lets
    | (dsimp +zetaDelta only)

theorem knowRoot_keeps {zz : State} {dsn : Nat} {s : State}
    (hs : Keeps zz s) :
    Keeps zz (knowRoot dsn s) := by
  unfold knowRoot
  extract_lets l0 l1
  have kl1 : Keeps zz l1 := by
    unfold l1
    repeat' first
      | with_reducible assumption | (simp only [mk_keeps]) | with_reducible apply foldl_keeps | split
      | intro _ _ _ | intro _ _ | extract_lets | (dsimp +zetaDelta only)
  clear_value l1
  repeat' first
    | with_reducible assumption | with_reducible apply log_keeps | with_reducible apply set_keeps
    | (simp only [mk_keeps]) | with_reducible apply foldl_keeps | split | intro _ _ _ | intro _ _
    | extract_lets | (dsimp +zetaDelta only)

theorem enterClaim_keeps {zz : State} {s : State}
    (hs : Keeps zz s) :
    Keeps zz (enterClaim s) := by
  unfold enterClaim
  extract_lets l0 l1 l2 l3
  have kl2 : Keeps zz l2 := by
    unfold l2
    repeat' first
      | with_reducible assumption | (simp only [mk_keeps]) | with_reducible apply foldl_keeps | split
      | intro _ _ _ | intro _ _ | extract_lets | (dsimp +zetaDelta only)
  clear_value l2
  have kl3 : Keeps zz l3 := by
    unfold l3
    repeat' first
      | with_reducible assumption | with_reducible apply set_keeps | with_reducible apply setRoot_keeps
      | with_reducible apply setNode_keeps | (simp only [mk_keeps]) | with_reducible apply foldl_keeps | split
      | intro _ _ _ | intro _ _ | extract_lets | (dsimp +zetaDelta only)
  clear_value l3
  repeat' first
    | with_reducible assumption | with_reducible apply set_keeps | with_reducible apply rootNet_keeps
    | with_reducible apply knowRoot_keeps | (simp only [mk_keeps]) | with_reducible apply foldl_keeps | split
    | intro _ _ _ | intro _ _ | extract_lets | (dsimp +zetaDelta only)

theorem tryClaim_keeps {zz : State} {s : State}
    (hs : Keeps zz s) :
    Keeps zz (tryClaim s) := by
  unfold tryClaim
  repeat' first
    | with_reducible assumption | with_reducible apply enterClaim_keeps | (simp only [mk_keeps])
    | with_reducible apply foldl_keeps | split | intro _ _ _ | intro _ _ | extract_lets
    | (dsimp +zetaDelta only)

theorem leaveRoot_keeps {zz : State} {st : Nat} {s : State}
    (hs : Keeps zz s) :
    Keeps zz (leaveRoot st s) := by
  unfold leaveRoot
  repeat' first
    | with_reducible assumption | with_reducible apply setRoot_keeps | with_reducible apply setNode_keeps
    | with_reducible apply set_keeps | (simp only [mk_keeps]) | with_reducible apply foldl_keeps | split
    | intro _ _ _ | intro _ _ | extract_lets | (dsimp +zetaDelta only)

theorem drlCfgWrite_keeps {zz : State} {v : Nat} {s : State}
    (hs : Keeps zz s) :
    Keeps zz (drlCfgWrite v s) := by
  unfold drlCfgWrite
  extract_lets l0 l1 l2 l3 l4
  have kl1 : Keeps zz l1 := by
    unfold l1
    repeat' first
      | with_reducible assumption | with_reducible apply codedWrite_keeps | (simp only [mk_keeps])
      | with_reducible apply foldl_keeps | split | intro _ _ _ | intro _ _ | extract_lets
      | (dsimp +zetaDelta only)
  clear_value l1
  have kl2 : Keeps zz l2 := by
    unfold l2
    repeat' first
      | with_reducible assumption | with_reducible apply setRing_keeps | (simp only [mk_keeps])
      | with_reducible apply foldl_keeps | split | intro _ _ _ | intro _ _ | extract_lets
      | (dsimp +zetaDelta only)
  clear_value l2
  have kl3 : Keeps zz l3 := by
    unfold l3
    repeat' first
      | with_reducible assumption | with_reducible apply setRing_keeps | with_reducible apply leaveRoot_keeps
      | (simp only [mk_keeps]) | with_reducible apply foldl_keeps | split | intro _ _ _ | intro _ _
      | extract_lets | (dsimp +zetaDelta only)
  clear_value l3
  repeat' first
    | with_reducible assumption | with_reducible apply tryClaim_keeps | with_reducible apply setNode_keeps
    | with_reducible apply leaveRoot_keeps | (simp only [mk_keeps]) | with_reducible apply foldl_keeps | split
    | intro _ _ _ | intro _ _ | extract_lets | (dsimp +zetaDelta only)

theorem setBwState_keeps {zz : State} {n : Nat} {s : State}
    (hs : Keeps zz s) :
    Keeps zz (setBwState n s) := by
  unfold setBwState
  repeat' first
    | with_reducible assumption | with_reducible apply set_keeps | (simp only [mk_keeps])
    | with_reducible apply foldl_keeps | split | intro _ _ _ | intro _ _ | extract_lets
    | (dsimp +zetaDelta only)

theorem bwrCfgWrite_keeps {zz : State} {v : Nat} {s : State}
    (hs : Keeps zz s) :
    Keeps zz (bwrCfgWrite v s) := by
  unfold bwrCfgWrite
  extract_lets l0 l1 l2 l3 l4
  have kl1 : Keeps zz l1 := by
    unfold l1
    repeat' first
      | with_reducible assumption | with_reducible apply codedWrite_keeps | (simp only [mk_keeps])
      | with_reducible apply foldl_keeps | split | intro _ _ _ | intro _ _ | extract_lets
      | (dsimp +zetaDelta only)
  clear_value l1
  have kl3 : Keeps zz l3 := by
    unfold l3
    repeat' first
      | with_reducible assumption | (simp only [mk_keeps]) | with_reducible apply foldl_keeps | split
      | intro _ _ _ | intro _ _ | extract_lets | (dsimp +zetaDelta only)
  clear_value l3
  repeat' first
    | with_reducible assumption | with_reducible apply setBwState_keeps | with_reducible apply set_keeps
    | (simp only [mk_keeps]) | with_reducible apply foldl_keeps | split | intro _ _ _ | intro _ _
    | extract_lets | (dsimp +zetaDelta only)

theorem bwrTimWrite_keeps {zz : State} {a : Nat} {v : Nat} {s : State}
    (hs : Keeps zz s) :
    Keeps zz (bwrTimWrite a v s) := by
  unfold bwrTimWrite
  extract_lets l0 l1 l2 l3 l4 l5 l6 l7 l8 l9
  have kl0 : Keeps zz l0 := by
    unfold l0
    repeat' first
      | with_reducible assumption | with_reducible apply codedWrite_keeps | with_reducible apply set_keeps
      | with_reducible apply log_keeps | (simp only [mk_keeps]) | with_reducible apply foldl_keeps | split
      | intro _ _ _ | intro _ _ | extract_lets | (dsimp +zetaDelta only)
  clear_value l0
  have kl3 : Keeps zz l3 := by
    unfold l3
    repeat' first
      | with_reducible assumption | with_reducible apply codedWrite_keeps | with_reducible apply set_keeps
      | with_reducible apply log_keeps | (simp only [mk_keeps]) | with_reducible apply foldl_keeps | split
      | intro _ _ _ | intro _ _ | extract_lets | (dsimp +zetaDelta only)
  clear_value l3
  have kl5 : Keeps zz l5 := by
    unfold l5
    repeat' first
      | with_reducible assumption | with_reducible apply codedWrite_keeps | with_reducible apply set_keeps
      | with_reducible apply log_keeps | (simp only [mk_keeps]) | with_reducible apply foldl_keeps | split
      | intro _ _ _ | intro _ _ | extract_lets | (dsimp +zetaDelta only)
  clear_value l5
  have kl7 : Keeps zz l7 := by
    unfold l7
    repeat' first
      | with_reducible assumption | with_reducible apply codedWrite_keeps | with_reducible apply set_keeps
      | with_reducible apply log_keeps | (simp only [mk_keeps]) | with_reducible apply foldl_keeps | split
      | intro _ _ _ | intro _ _ | extract_lets | (dsimp +zetaDelta only)
  clear_value l7
  have kl9 : Keeps zz l9 := by
    unfold l9
    repeat' first
      | with_reducible assumption | with_reducible apply codedWrite_keeps | with_reducible apply set_keeps
      | with_reducible apply log_keeps | (simp only [mk_keeps]) | with_reducible apply foldl_keeps | split
      | intro _ _ _ | intro _ _ | extract_lets | (dsimp +zetaDelta only)
  clear_value l9
  repeat' first
    | with_reducible assumption | with_reducible apply codedWrite_keeps | with_reducible apply set_keeps
    | with_reducible apply log_keeps | (simp only [mk_keeps]) | with_reducible apply foldl_keeps | split
    | intro _ _ _ | intro _ _ | extract_lets | (dsimp +zetaDelta only)

theorem txctlWrite_keeps {zz : State} {v : Nat} {s : State}
    (hs : Keeps zz s) :
    Keeps zz (txctlWrite v s) := by
  unfold txctlWrite
  extract_lets l0 l1 l2
  have kl0 : Keeps zz l0 := by
    unfold l0
    repeat' first
      | with_reducible assumption | with_reducible apply codedWrite_keeps | (simp only [mk_keeps])
      | with_reducible apply foldl_keeps | split | intro _ _ _ | intro _ _ | extract_lets
      | (dsimp +zetaDelta only)
  clear_value l0
  repeat' first
    | with_reducible assumption | with_reducible apply set_keeps | with_reducible apply bwAdd_keeps
    | (simp only [mk_keeps]) | with_reducible apply foldl_keeps | split | intro _ _ _ | intro _ _
    | extract_lets | (dsimp +zetaDelta only)

theorem showRx_keeps {zz : State} {s : State}
    (hs : Keeps zz s) :
    Keeps zz (showRx s) := by
  unfold showRx
  extract_lets l0
  have kl0 : Keeps zz l0 := by
    unfold l0
    repeat' first
      | with_reducible assumption | with_reducible apply set_keeps | (simp only [mk_keeps])
      | with_reducible apply foldl_keeps | split | intro _ _ _ | intro _ _ | extract_lets
      | (dsimp +zetaDelta only)
  clear_value l0
  repeat' first
    | with_reducible assumption | with_reducible apply wrA_keeps | (simp only [mk_keeps])
    | with_reducible apply foldl_keeps | split | intro _ _ _ | intro _ _ | extract_lets
    | (dsimp +zetaDelta only)

theorem rxPop_keeps {zz : State} {s : State}
    (hs : Keeps zz s) :
    Keeps zz (rxPop s) := by
  unfold rxPop
  extract_lets l0
  repeat' first
    | with_reducible assumption | with_reducible apply showRx_keeps | (simp only [mk_keeps])
    | with_reducible apply foldl_keeps | split | intro _ _ _ | intro _ _ | extract_lets
    | (dsimp +zetaDelta only)

theorem bwrReg_keeps {zz : State} {b : Nat} {a : Nat} {v : Nat} {s : State}
    (hs : Keeps zz s) :
    Keeps zz (bwrReg b a v s) := by
  unfold bwrReg
  repeat' first
    | with_reducible assumption | with_reducible apply bwrCfgWrite_keeps
    | with_reducible apply bwrTimWrite_keeps | with_reducible apply txctlWrite_keeps
    | with_reducible apply rxPop_keeps | with_reducible apply codedWrite_keeps | (simp only [mk_keeps])
    | with_reducible apply foldl_keeps | split | intro _ _ _ | intro _ _ | extract_lets
    | (dsimp +zetaDelta only)

theorem rcntWrite_keeps {zz : State} {v : Nat} {s : State}
    (hs : Keeps zz s) :
    Keeps zz (rcntWrite v s) := by
  unfold rcntWrite
  extract_lets l0
  have kl0 : Keeps zz l0 := by
    unfold l0
    repeat' first
      | with_reducible assumption | with_reducible apply codedWrite_keeps | (simp only [mk_keeps])
      | with_reducible apply foldl_keeps | split | intro _ _ _ | intro _ _ | extract_lets
      | (dsimp +zetaDelta only)
  clear_value l0
  repeat' first
    | with_reducible assumption | (simp only [mk_keeps]) | with_reducible apply foldl_keeps | split
    | intro _ _ _ | intro _ _ | extract_lets | (dsimp +zetaDelta only)

theorem unitReg_keeps {zz : State} {u : Nat} {b : Nat} {i : Nat} {j : Nat} {a : Nat} {v : Nat} {s : State}
    (hs : Keeps zz s) :
    Keeps zz (unitReg u b i j a v s) := by
  unfold unitReg
  repeat' first
    | with_reducible assumption | with_reducible apply glbReg_keeps | with_reducible apply cfgReg_keeps
    | with_reducible apply clkReg_keeps | with_reducible apply timReg_keeps
    | with_reducible apply lnpReg_keeps | with_reducible apply clpReg_keeps
    | with_reducible apply parReg_keeps | with_reducible apply pixReg_keeps
    | with_reducible apply posReg_keeps | with_reducible apply twsReg_keeps
    | with_reducible apply btmReg_keeps | with_reducible apply outReg_keeps
    | with_reducible apply queReg_keeps | with_reducible apply hbrReg_keeps
    | with_reducible apply venReg_keeps | with_reducible apply drlCfgWrite_keeps
    | with_reducible apply codedWrite_keeps | with_reducible apply bwrReg_keeps
    | with_reducible apply rcntWrite_keeps | (simp only [mk_keeps]) | with_reducible apply foldl_keeps | split
    | intro _ _ _ | intro _ _ | extract_lets | (dsimp +zetaDelta only)

theorem regOp_keeps {zz : State} {a : Nat} {v : Nat} {s : State}
    (hs : Keeps zz s) :
    Keeps zz (regOp a v s) := by
  unfold regOp
  repeat' first
    | with_reducible assumption | with_reducible apply levelWrite_keeps
    | with_reducible apply afterBasic_keeps | with_reducible apply unitReg_keeps | (simp only [mk_keeps])
    | with_reducible apply foldl_keeps | split | intro _ _ _ | intro _ _ | extract_lets
    | (dsimp +zetaDelta only)

theorem barDword_keeps {zz : State} {a : Nat} {v : Nat} {be : Nat} {s : State}
    (hs : Keeps zz s) :
    Keeps zz (barDword a v be s) := by
  unfold barDword
  repeat' first
    | with_reducible assumption | with_reducible apply hostGate_keeps | with_reducible apply regOp_keeps
    | with_reducible apply log_keeps | with_reducible apply count_keeps | (simp only [mk_keeps])
    | with_reducible apply foldl_keeps | split | intro _ _ _ | intro _ _ | extract_lets
    | (dsimp +zetaDelta only)

theorem barBurst_keeps {zz : State} {a : Nat} {ws : List (Nat × Nat)} {s : State} (hs : Keeps zz s) :
    Keeps zz (barBurst a ws s) := by
  induction ws generalizing a s with
  | nil => exact hs
  | cons w t ih => exact ih (barDword_keeps hs)

theorem barWrite_keeps {zz : State} {bar2 : Bool} {a : Nat} {ws : List (Nat × Nat)} {poisoned : Bool} {s : State}
    (hs : Keeps zz s) :
    Keeps zz (barWrite bar2 a ws poisoned s) := by
  unfold barWrite
  repeat' first
    | with_reducible assumption | with_reducible apply unsupported_keeps | with_reducible apply log_keeps
    | with_reducible apply aerSet_keeps | with_reducible apply bar2Burst_keeps
    | with_reducible apply barBurst_keeps | (simp only [mk_keeps]) | with_reducible apply foldl_keeps | split
    | intro _ _ _ | intro _ _ | extract_lets | (dsimp +zetaDelta only)

theorem rederiveEnd_keeps {zz : State} {u : Nat} {s : State}
    (hs : Keeps zz s) :
    Keeps zz (rederiveEnd u s).2 := by
  unfold rederiveEnd
  extract_lets l0 l1
  have kl1 : Keeps zz l1 := by
    unfold l1
    repeat' first
      | with_reducible assumption | (simp only [mk_keeps]) | with_reducible apply foldl_keeps | split
      | intro _ _ _ | intro _ _ | extract_lets | (dsimp +zetaDelta only)
  clear_value l1
  repeat' first
    | with_reducible assumption | with_reducible apply applyDerived_keeps
    | with_reducible apply restartRederive_keeps | (simp only [mk_keeps]) | with_reducible apply foldl_keeps
    | split | intro _ _ _ | intro _ _ | extract_lets | (dsimp +zetaDelta only)

theorem rederiveEnd_keeps' {zz t : State} {u : Nat} {s : State} {q}
    (hs : Keeps zz s) (e : (rederiveEnd u s) = (q, t)) :
    Keeps zz t := by
  have := rederiveEnd_keeps (u := u) (s := s) hs
  rw [e] at this
  exact this

theorem coreWrite_keeps {zz : State} {a : Nat} {v : Nat} {s : State}
    (hs : Keeps zz s) :
    Keeps zz (coreWrite a v s) := by
  unfold coreWrite
  repeat' first
    | with_reducible assumption | with_reducible apply coreGate_keeps | with_reducible apply regOp_keeps
    | (simp only [mk_keeps]) | with_reducible apply foldl_keeps | split | intro _ _ _ | intro _ _
    | extract_lets | (dsimp +zetaDelta only)

theorem replayHeld_keeps {zz : State} {u : Nat} {s : State}
    (hs : Keeps zz s) :
    Keeps zz (replayHeld u s) := by
  unfold replayHeld
  extract_lets l0 l1
  repeat' first
    | with_reducible assumption | with_reducible apply coreWrite_keeps | (simp only [mk_keeps])
    | with_reducible apply foldl_keeps | split | intro _ _ _ | intro _ _ | extract_lets
    | (dsimp +zetaDelta only)

theorem rederiveDone_keeps {zz : State} {u : Nat} {s : State}
    (hs : Keeps zz s) :
    Keeps zz (rederiveDone u s) := by
  unfold rederiveDone
  repeat' first
    | with_reducible assumption | with_reducible apply rederiveEnd_keeps
    | with_reducible refine rederiveEnd_keeps' ?_ (by with_reducible assumption)
    | with_reducible apply replayHeld_keeps | with_reducible apply toExpert_keeps | (simp only [mk_keeps])
    | with_reducible apply foldl_keeps | split | intro _ _ _ | intro _ _ | extract_lets
    | (dsimp +zetaDelta only)

theorem settleDerived_keeps {zz : State} {n : Nat} {s : State} (hs : Keeps zz s) : Keeps zz (settleDerived n s) := by
  induction n generalizing s with
  | zero => exact hs
  | succ n ih =>
    unfold settleDerived
    split
    · exact hs
    · exact ih (rederiveDone_keeps hs)

theorem loadWrite_keeps {zz : State} {a : Nat} {v : Nat} {s : State}
    (hs : Keeps zz s) :
    Keeps zz (loadWrite a v s) := by
  unfold loadWrite
  repeat' first
    | with_reducible assumption | with_reducible apply settleDerived_keeps
    | with_reducible apply coreWrite_keeps | (simp only [mk_keeps]) | with_reducible apply foldl_keeps | split
    | intro _ _ _ | intro _ _ | extract_lets | (dsimp +zetaDelta only)

theorem basicPair_keeps {zz : State} {u : Nat} {inst : Nat} {e : Nat × Nat} {s : State}
    (hs : Keeps zz s) :
    Keeps zz (basicPair u inst e s) := by
  unfold basicPair
  repeat' first
    | with_reducible assumption | with_reducible apply loadWrite_keeps | (simp only [mk_keeps])
    | with_reducible apply foldl_keeps | split | intro _ _ _ | intro _ _ | extract_lets
    | (dsimp +zetaDelta only)

theorem closeRing_keeps {zz : State} {s : State}
    (hs : Keeps zz s) :
    Keeps zz (closeRing s) := by
  unfold closeRing
  extract_lets l0
  have kl0 : Keeps zz l0 := by
    unfold l0
    repeat' first
      | with_reducible assumption | with_reducible apply setRing_keeps | (simp only [mk_keeps])
      | with_reducible apply foldl_keeps | split | intro _ _ _ | intro _ _ | extract_lets
      | (dsimp +zetaDelta only)
  clear_value l0
  repeat' first
    | with_reducible assumption | with_reducible apply log_keeps | with_reducible apply set_keeps
    | (simp only [mk_keeps]) | with_reducible apply foldl_keeps | split | intro _ _ _ | intro _ _
    | extract_lets | (dsimp +zetaDelta only)

theorem beaconOther_keeps {zz : State} {dsn : Nat} {prio : Nat} {f : List Nat} {s : State}
    (hs : Keeps zz s) :
    Keeps zz (beaconOther dsn prio f s) := by
  unfold beaconOther
  extract_lets l0 l1 l2 l3 l4 l5 l6 l7 l8
  have kl2 : Keeps zz l2 := by
    unfold l2
    repeat' first
      | with_reducible assumption | with_reducible apply leaveRoot_keeps | (simp only [mk_keeps])
      | with_reducible apply foldl_keeps | split | intro _ _ _ | intro _ _ | extract_lets
      | (dsimp +zetaDelta only)
  clear_value l2
  have kl3 : Keeps zz l3 := by
    unfold l3
    repeat' first
      | with_reducible assumption | with_reducible apply log_keeps | with_reducible apply setNode_keeps
      | (simp only [mk_keeps]) | with_reducible apply foldl_keeps | split | intro _ _ _ | intro _ _
      | extract_lets | (dsimp +zetaDelta only)
  clear_value l3
  have kl4 : Keeps zz l4 := by
    unfold l4
    repeat' first
      | with_reducible assumption | with_reducible apply knowRoot_keeps | (simp only [mk_keeps])
      | with_reducible apply foldl_keeps | split | intro _ _ _ | intro _ _ | extract_lets
      | (dsimp +zetaDelta only)
  clear_value l4
  have kl6 : Keeps zz l6 := by
    unfold l6
    repeat' first
      | with_reducible assumption | with_reducible apply set_keeps | (simp only [mk_keeps])
      | with_reducible apply foldl_keeps | split | intro _ _ _ | intro _ _ | extract_lets
      | (dsimp +zetaDelta only)
  clear_value l6
  have kl8 : Keeps zz l8 := by
    unfold l8
    repeat' first
      | with_reducible assumption | (simp only [mk_keeps]) | with_reducible apply foldl_keeps | split
      | intro _ _ _ | intro _ _ | extract_lets | (dsimp +zetaDelta only)
  clear_value l8
  repeat' first
    | with_reducible assumption | with_reducible apply setNet_keeps | (simp only [mk_keeps])
    | with_reducible apply foldl_keeps | split | intro _ _ _ | intro _ _ | extract_lets
    | (dsimp +zetaDelta only)

theorem beaconIn_keeps {zz : State} {p : Nat} {f : List Nat} {s : State}
    (hs : Keeps zz s) :
    Keeps zz (beaconIn p f s) := by
  unfold beaconIn
  extract_lets l0 l1 l2 l3
  have kl2 : Keeps zz l2 := by
    unfold l2
    repeat' first
      | with_reducible assumption | with_reducible apply closeRing_keeps | (simp only [mk_keeps])
      | with_reducible apply foldl_keeps | split | intro _ _ _ | intro _ _ | extract_lets
      | (dsimp +zetaDelta only)
  clear_value l2
  repeat' first
    | with_reducible assumption | with_reducible apply beaconOther_keeps | (simp only [mk_keeps])
    | with_reducible apply foldl_keeps | split | intro _ _ _ | intro _ _ | extract_lets
    | (dsimp +zetaDelta only)

theorem beaconOut_keeps {zz : State} {s : State}
    (hs : Keeps zz s) :
    Keeps zz (beaconOut s) := by
  unfold beaconOut
  extract_lets l0 l1 l2 l3 l4
  have kl0 : Keeps zz l0 := by
    unfold l0
    repeat' first
      | with_reducible assumption | with_reducible apply rootNet_keeps | (simp only [mk_keeps])
      | with_reducible apply foldl_keeps | split | intro _ _ _ | intro _ _ | extract_lets
      | (dsimp +zetaDelta only)
  clear_value l0
  have kl3 : Keeps zz l3 := by
    unfold l3
    repeat' first
      | with_reducible assumption | with_reducible apply sendForward_keeps | (simp only [mk_keeps])
      | with_reducible apply foldl_keeps | split | intro _ _ _ | intro _ _ | extract_lets
      | (dsimp +zetaDelta only)
  clear_value l3
  repeat' first
    | with_reducible assumption | (simp only [mk_keeps]) | with_reducible apply foldl_keeps | split
    | intro _ _ _ | intro _ _ | extract_lets | (dsimp +zetaDelta only)

theorem beatEvents_keeps {zz : State} {s : State}
    (hs : Keeps zz s) :
    Keeps zz (beatEvents s) := by
  unfold beatEvents
  repeat' first
    | with_reducible assumption | with_reducible apply deliverBatch_keeps | (simp only [mk_keeps])
    | with_reducible apply foldl_keeps | split | intro _ _ _ | intro _ _ | extract_lets
    | (dsimp +zetaDelta only)

theorem settleBridge_keeps {zz : State} {s : State}
    (hs : Keeps zz s) :
    Keeps zz (settleBridge s) := by
  unfold settleBridge
  extract_lets l0
  repeat' first
    | with_reducible assumption | with_reducible apply set_keeps | (simp only [mk_keeps])
    | with_reducible apply foldl_keeps | split | intro _ _ _ | intro _ _ | extract_lets
    | (dsimp +zetaDelta only)

theorem contextHalt_keeps {zz : State} {x : Nat} {reason : Nat} {s : State}
    (hs : Keeps zz s) :
    Keeps zz (contextHalt x reason s) := by
  unfold contextHalt
  extract_lets l0 l1
  have kl0 : Keeps zz l0 := by
    unfold l0
    repeat' first
      | with_reducible assumption | with_reducible apply losePics_keeps | (simp only [mk_keeps])
      | with_reducible apply foldl_keeps | split | intro _ _ _ | intro _ _ | extract_lets
      | (dsimp +zetaDelta only)
  clear_value l0
  have kl1 : Keeps zz l1 := by
    unfold l1
    repeat' first
      | with_reducible assumption | with_reducible apply set_keeps | (simp only [mk_keeps])
      | with_reducible apply foldl_keeps | split | intro _ _ _ | intro _ _ | extract_lets
      | (dsimp +zetaDelta only)
  clear_value l1
  repeat' first
    | with_reducible assumption | with_reducible apply log_keeps | (simp only [mk_keeps])
    | with_reducible apply foldl_keeps | split | intro _ _ _ | intro _ _ | extract_lets
    | (dsimp +zetaDelta only)

theorem haltContexts_keeps {zz : State} {reason : Nat} {s : State}
    (hs : Keeps zz s) :
    Keeps zz (haltContexts reason s) := by
  unfold haltContexts
  repeat' first
    | with_reducible assumption | with_reducible apply contextHalt_keeps | (simp only [mk_keeps])
    | with_reducible apply foldl_keeps | split | intro _ _ _ | intro _ _ | extract_lets
    | (dsimp +zetaDelta only)

theorem haltQueue_keeps {zz : State} {q : Nat} {reason : Nat} {s : State}
    (hs : Keeps zz s) :
    Keeps zz (haltQueue q reason s) := by
  unfold haltQueue
  extract_lets l0 l1 l2 l3
  have kl1 : Keeps zz l1 := by
    unfold l1
    repeat' first
      | with_reducible assumption | with_reducible apply setQueue_keeps | (simp only [mk_keeps])
      | with_reducible apply foldl_keeps | split | intro _ _ _ | intro _ _ | extract_lets
      | (dsimp +zetaDelta only)
  clear_value l1
  have kl3 : Keeps zz l3 := by
    unfold l3
    repeat' first
      | with_reducible assumption | with_reducible apply setQueue_keeps | with_reducible apply dropItem_keeps
      | with_reducible apply itemGone_keeps | with_reducible apply set_keeps | (simp only [mk_keeps])
      | with_reducible apply foldl_keeps | split | intro _ _ _ | intro _ _ | extract_lets
      | (dsimp +zetaDelta only)
  clear_value l3
  repeat' first
    | with_reducible assumption | with_reducible apply pauseQueue_keeps
    | with_reducible apply dropWaiting_keeps | (simp only [mk_keeps]) | with_reducible apply foldl_keeps
    | split | intro _ _ _ | intro _ _ | extract_lets | (dsimp +zetaDelta only)

theorem haltQueues_keeps {zz : State} {reason : Nat} {s : State}
    (hs : Keeps zz s) :
    Keeps zz (haltQueues reason s) := by
  unfold haltQueues
  repeat' first
    | with_reducible assumption | with_reducible apply haltQueue_keeps | (simp only [mk_keeps])
    | with_reducible apply foldl_keeps | split | intro _ _ _ | intro _ _ | extract_lets
    | (dsimp +zetaDelta only)

theorem busHalt_keeps {zz : State} {s : State}
    (hs : Keeps zz s) :
    Keeps zz (busHalt s) := by
  unfold busHalt
  extract_lets l0
  have kl0 : Keeps zz l0 := by
    unfold l0
    repeat' first
      | with_reducible assumption | with_reducible apply fire_keeps | with_reducible apply settleBridge_keeps
      | (simp only [mk_keeps]) | with_reducible apply foldl_keeps | split | intro _ _ _ | intro _ _
      | extract_lets | (dsimp +zetaDelta only)
  clear_value l0
  repeat' first
    | with_reducible assumption | with_reducible apply haltContexts_keeps
    | with_reducible apply haltQueues_keeps | with_reducible apply log_keeps | (simp only [mk_keeps])
    | with_reducible apply foldl_keeps | split | intro _ _ _ | intro _ _ | extract_lets
    | (dsimp +zetaDelta only)

theorem bmeClear_keeps {zz : State} {s : State}
    (hs : Keeps zz s) :
    Keeps zz (bmeClear s) := by
  unfold bmeClear
  repeat' first
    | with_reducible assumption | with_reducible apply busHalt_keeps | with_reducible apply set_keeps
    | (simp only [mk_keeps]) | with_reducible apply foldl_keeps | split | intro _ _ _ | intro _ _
    | extract_lets | (dsimp +zetaDelta only)

theorem bmeSet_keeps {zz : State} {s : State}
    (hs : Keeps zz s) :
    Keeps zz (bmeSet s) := by
  unfold bmeSet
  repeat' first
    | with_reducible assumption | with_reducible apply settleBridge_keeps | with_reducible apply set_keeps
    | (simp only [mk_keeps]) | with_reducible apply foldl_keeps | split | intro _ _ _ | intro _ _
    | extract_lets | (dsimp +zetaDelta only)

theorem bondLane_keeps {zz : State} {n : Nat} {s : State}
    (hs : Keeps zz s) :
    Keeps zz (bondLane n s) := by
  unfold bondLane
  extract_lets l0 l1 l2 l3 l4 l5
  have kl4 : Keeps zz l4 := by
    unfold l4
    repeat' first
      | with_reducible assumption | with_reducible apply set_keeps | (simp only [mk_keeps])
      | with_reducible apply foldl_keeps | split | intro _ _ _ | intro _ _ | extract_lets
      | (dsimp +zetaDelta only)
  clear_value l4
  have kl5 : Keeps zz l5 := by
    unfold l5
    repeat' first
      | with_reducible assumption | with_reducible apply set_keeps | (simp only [mk_keeps])
      | with_reducible apply foldl_keeps | split | intro _ _ _ | intro _ _ | extract_lets
      | (dsimp +zetaDelta only)
  clear_value l5
  repeat' first
    | with_reducible assumption | with_reducible apply trainFail_keeps | with_reducible apply log_keeps
    | with_reducible apply set_keeps | with_reducible apply deriveGroup_keeps
    | with_reducible apply setGroup_keeps | (simp only [mk_keeps]) | with_reducible apply foldl_keeps | split
    | intro _ _ _ | intro _ _ | extract_lets | (dsimp +zetaDelta only)

theorem breakRuns_keeps {zz : State} {n : Nat} {s : State}
    (hs : Keeps zz s) :
    Keeps zz (breakRuns n s) := by
  unfold breakRuns
  extract_lets l0
  repeat' first
    | with_reducible assumption | with_reducible apply setLane_keeps | (simp only [mk_keeps])
    | with_reducible apply foldl_keeps | split | intro _ _ _ | intro _ _ | extract_lets
    | (dsimp +zetaDelta only)

theorem bridgeDown_keeps {zz : State} {s : State}
    (hs : Keeps zz s) :
    Keeps zz (bridgeDown s) := by
  unfold bridgeDown
  extract_lets l0 l1 l2 l3
  have kl1 : Keeps zz l1 := by
    unfold l1
    repeat' first
      | with_reducible assumption | (simp only [mk_keeps]) | with_reducible apply foldl_keeps | split
      | intro _ _ _ | intro _ _ | extract_lets | (dsimp +zetaDelta only)
  clear_value l1
  have kl2 : Keeps zz l2 := by
    unfold l2
    repeat' first
      | with_reducible assumption | with_reducible apply set_keeps | with_reducible apply setReads_keeps
      | (simp only [mk_keeps]) | with_reducible apply foldl_keeps | split | intro _ _ _ | intro _ _
      | extract_lets | (dsimp +zetaDelta only)
  clear_value l2
  have kl3 : Keeps zz l3 := by
    unfold l3
    repeat' first
      | with_reducible assumption | with_reducible apply set_keeps | with_reducible apply fire_keeps
      | (simp only [mk_keeps]) | with_reducible apply foldl_keeps | split | intro _ _ _ | intro _ _
      | extract_lets | (dsimp +zetaDelta only)
  clear_value l3
  repeat' first
    | with_reducible assumption | with_reducible apply haltContexts_keeps
    | with_reducible apply haltQueues_keeps | with_reducible apply abandonFar_keeps
    | with_reducible apply log_keeps | (simp only [mk_keeps]) | with_reducible apply foldl_keeps | split
    | intro _ _ _ | intro _ _ | extract_lets | (dsimp +zetaDelta only)

theorem bridgeReset_keeps {zz : State} {s : State}
    (hs : Keeps zz s) :
    Keeps zz (bridgeReset s) := by
  unfold bridgeReset
  extract_lets l0 l1
  have kl1 : Keeps zz l1 := by
    unfold l1
    repeat' first
      | with_reducible assumption | with_reducible apply wrA_keeps | with_reducible apply clearRegs_keeps
      | (simp only [mk_keeps]) | with_reducible apply foldl_keeps | split | intro _ _ _ | intro _ _
      | extract_lets | (dsimp +zetaDelta only)
  clear_value l1
  repeat' first
    | with_reducible assumption | with_reducible apply set_keeps | (simp only [mk_keeps])
    | with_reducible apply foldl_keeps | split | intro _ _ _ | intro _ _ | extract_lets
    | (dsimp +zetaDelta only)

theorem setBwLines_keeps {zz : State} {clk : Nat} {dat : Nat} {s : State}
    (hs : Keeps zz s) :
    Keeps zz (setBwLines clk dat s) := by
  unfold setBwLines
  repeat' first
    | with_reducible assumption | with_reducible apply set_keeps | (simp only [mk_keeps])
    | with_reducible apply foldl_keeps | split | intro _ _ _ | intro _ _ | extract_lets
    | (dsimp +zetaDelta only)

theorem bwRemove_keeps {zz : State} {k : Nat} {s : State}
    (hs : Keeps zz s) :
    Keeps zz (bwRemove k s) := by
  unfold bwRemove
  extract_lets l0
  repeat' first
    | with_reducible assumption | (simp only [mk_keeps]) | with_reducible apply foldl_keeps | split
    | intro _ _ _ | intro _ _ | extract_lets | (dsimp +zetaDelta only)

theorem bwFree_keeps {zz : State} {k : Nat} {result : Nat} {s : State}
    (hs : Keeps zz s) :
    Keeps zz (bwFree k result s) := by
  unfold bwFree
  repeat' first
    | with_reducible assumption | with_reducible apply setBusy_keeps | with_reducible apply set_keeps
    | (simp only [mk_keeps]) | with_reducible apply foldl_keeps | split | intro _ _ _ | intro _ _
    | extract_lets | (dsimp +zetaDelta only)

theorem bwFail_keeps {zz : State} {k : Nat} {cause : Nat} {s : State}
    (hs : Keeps zz s) :
    Keeps zz (bwFail k cause s) := by
  unfold bwFail
  repeat' first
    | with_reducible assumption | with_reducible apply bwRemove_keeps | with_reducible apply log_keeps
    | with_reducible apply count_keeps | with_reducible apply bwFree_keeps | (simp only [mk_keeps])
    | with_reducible apply foldl_keeps | split | intro _ _ _ | intro _ _ | extract_lets
    | (dsimp +zetaDelta only)

theorem bwAgain_keeps {zz : State} {r : BwReq} {s : State}
    (hs : Keeps zz s) :
    Keeps zz (bwAgain r s) := by
  unfold bwAgain
  extract_lets l0
  repeat' first
    | with_reducible assumption | with_reducible apply bwFail_keeps | (simp only [mk_keeps])
    | with_reducible apply foldl_keeps | split | intro _ _ _ | intro _ _ | extract_lets
    | (dsimp +zetaDelta only)

theorem bwAbandon_keeps {zz : State} {quiet : Bool} {s : State}
    (hs : Keeps zz s) :
    Keeps zz (bwAbandon quiet s) := by
  unfold bwAbandon
  extract_lets l0 l1 l2 l3 l4
  have kl2 : Keeps zz l2 := by
    unfold l2
    repeat' first
      | with_reducible assumption | (simp only [mk_keeps]) | with_reducible apply foldl_keeps | split
      | intro _ _ _ | intro _ _ | extract_lets | (dsimp +zetaDelta only)
  clear_value l2
  have kl3 : Keeps zz l3 := by
    unfold l3
    repeat' first
      | with_reducible assumption | with_reducible apply setBwState_keeps | (simp only [mk_keeps])
      | with_reducible apply foldl_keeps | split | intro _ _ _ | intro _ _ | extract_lets
      | (dsimp +zetaDelta only)
  clear_value l3
  have kl4 : Keeps zz l4 := by
    unfold l4
    repeat' first
      | with_reducible assumption | with_reducible apply logSec_keeps | (simp only [mk_keeps])
      | with_reducible apply foldl_keeps | split | intro _ _ _ | intro _ _ | extract_lets
      | (dsimp +zetaDelta only)
  clear_value l4
  repeat' first
    | with_reducible assumption | with_reducible apply bwAgain_keeps | (simp only [mk_keeps])
    | with_reducible apply foldl_keeps | split | intro _ _ _ | intro _ _ | extract_lets
    | (dsimp +zetaDelta only)

theorem busIdle_keeps {zz : State} {s : State}
    (hs : Keeps zz s) :
    Keeps zz (busIdle s) := by
  unfold busIdle
  extract_lets l0 l1
  have kl0 : Keeps zz l0 := by
    unfold l0
    repeat' first
      | with_reducible assumption | with_reducible apply setBwLines_keeps | (simp only [mk_keeps])
      | with_reducible apply foldl_keeps | split | intro _ _ _ | intro _ _ | extract_lets
      | (dsimp +zetaDelta only)
  clear_value l0
  have kl1 : Keeps zz l1 := by
    unfold l1
    repeat' first
      | with_reducible assumption | with_reducible apply setBwState_keeps | (simp only [mk_keeps])
      | with_reducible apply foldl_keeps | split | intro _ _ _ | intro _ _ | extract_lets
      | (dsimp +zetaDelta only)
  clear_value l1
  repeat' first
    | with_reducible assumption | with_reducible apply bwAdd_keeps | with_reducible apply bwAbandon_keeps
    | (simp only [mk_keeps]) | with_reducible apply foldl_keeps | split | intro _ _ _ | intro _ _
    | extract_lets | (dsimp +zetaDelta only)

theorem resetStrike_keeps {zz : State} {n : Nat} {s : State}
    (hs : Keeps zz s) :
    Keeps zz (resetStrike n s) := by
  unfold resetStrike
  extract_lets l0 l1
  have kl1 : Keeps zz l1 := by
    unfold l1
    repeat' first
      | with_reducible assumption | (simp only [mk_keeps]) | with_reducible apply foldl_keeps | split
      | intro _ _ _ | intro _ _ | extract_lets | (dsimp +zetaDelta only)
  clear_value l1
  repeat' first
    | with_reducible assumption | with_reducible apply emit_keeps | with_reducible apply setBwLines_keeps
    | with_reducible apply setBwState_keeps | (simp only [mk_keeps]) | with_reducible apply foldl_keeps
    | split | intro _ _ _ | intro _ _ | extract_lets | (dsimp +zetaDelta only)

theorem busStuck_keeps {zz : State} {s : State}
    (hs : Keeps zz s) :
    Keeps zz (busStuck s) := by
  unfold busStuck
  extract_lets l0
  have kl0 : Keeps zz l0 := by
    unfold l0
    repeat' first
      | with_reducible assumption | with_reducible apply setBwLines_keeps | (simp only [mk_keeps])
      | with_reducible apply foldl_keeps | split | intro _ _ _ | intro _ _ | extract_lets
      | (dsimp +zetaDelta only)
  clear_value l0
  repeat' first
    | with_reducible assumption | with_reducible apply resetStrike_keeps | (simp only [mk_keeps])
    | with_reducible apply foldl_keeps | split | intro _ _ _ | intro _ _ | extract_lets
    | (dsimp +zetaDelta only)

theorem bwDeliver_keeps {zz : State} {n : Nat} {s : State}
    (hs : Keeps zz s) :
    Keeps zz (bwDeliver n s) := by
  unfold bwDeliver
  repeat' first
    | with_reducible assumption | with_reducible apply fire_keeps | (simp only [mk_keeps])
    | with_reducible apply foldl_keeps | split | intro _ _ _ | intro _ _ | extract_lets
    | (dsimp +zetaDelta only)

end Sys2Proof.Machine
end

