-- ==== Sys2Proof/Laws/Keeps3.lean ====
section
/-! SUPPORT. One lemma per operation, in the order in which the operations call each other: the operation keeps what `Keeps`
names (part 3 of 5). A lemma about a command says that it answers a next state that keeps it. -/

namespace Sys2Proof.Machine
set_option maxRecDepth 4000
set_option linter.all false

theorem bwAccept_keeps {zz : State} {f : List Nat} {s : State}
    (hs : Keeps zz s) :
    Keeps zz (bwAccept f s) := by
  unfold bwAccept
  extract_lets l0 l1 l2
  have kl0 : Keeps zz l0 := by
    unfold l0
    repeat' first
      | with_reducible assumption | with_reducible apply count_keeps | (simp only [mk_keeps])
      | with_reducible apply foldl_keeps | split | intro _ _ _ | intro _ _ | extract_lets
      | (dsimp +zetaDelta only)
  clear_value l0
  repeat' first
    | with_reducible assumption | with_reducible apply bwDeliver_keeps | with_reducible apply showRx_keeps
    | with_reducible apply endRun_keeps | (simp only [mk_keeps]) | with_reducible apply foldl_keeps | split
    | intro _ _ _ | intro _ _ | extract_lets | (dsimp +zetaDelta only)

theorem bwDone_keeps {zz : State} {k : Nat} {s : State}
    (hs : Keeps zz s) :
    Keeps zz (bwDone k s) := by
  unfold bwDone
  repeat' first
    | with_reducible assumption | with_reducible apply bwRemove_keeps | with_reducible apply count_keeps
    | with_reducible apply bwFree_keeps | (simp only [mk_keeps]) | with_reducible apply foldl_keeps | split
    | intro _ _ _ | intro _ _ | extract_lets | (dsimp +zetaDelta only)

theorem bwJudge_keeps {zz : State} {f : List Nat} {s : State}
    (hs : Keeps zz s) :
    Keeps zz (bwJudge f s).2 := by
  unfold bwJudge
  extract_lets l0
  repeat' first
    | with_reducible assumption | with_reducible apply logSec_keeps | with_reducible apply count_keeps
    | with_reducible apply logRun_keeps | (simp only [mk_keeps]) | with_reducible apply foldl_keeps | split
    | intro _ _ _ | intro _ _ | extract_lets | (dsimp +zetaDelta only)

theorem bwJudge_keeps' {zz t : State} {f : List Nat} {s : State} {q}
    (hs : Keeps zz s) (e : (bwJudge f s) = (q, t)) :
    Keeps zz t := by
  have := bwJudge_keeps (f := f) (s := s) hs
  rw [e] at this
  exact this

theorem bwSettle_keeps {zz : State} {r : BwReq} {ack : Bool} {s : State}
    (hs : Keeps zz s) :
    Keeps zz (bwSettle r ack s) := by
  unfold bwSettle
  extract_lets l0 l1
  have kl0 : Keeps zz l0 := by
    unfold l0
    repeat' first
      | with_reducible assumption | with_reducible apply bwDeliver_keeps | (simp only [mk_keeps])
      | with_reducible apply foldl_keeps | split | intro _ _ _ | intro _ _ | extract_lets
      | (dsimp +zetaDelta only)
  clear_value l0
  have kl1 : Keeps zz l1 := by
    unfold l1
    repeat' first
      | with_reducible assumption | with_reducible apply bwRemove_keeps | (simp only [mk_keeps])
      | with_reducible apply foldl_keeps | split | intro _ _ _ | intro _ _ | extract_lets
      | (dsimp +zetaDelta only)
  clear_value l1
  repeat' first
    | with_reducible assumption | with_reducible apply log_keeps | with_reducible apply set_keeps
    | with_reducible apply bwDone_keeps | with_reducible apply bwAgain_keeps | (simp only [mk_keeps])
    | with_reducible apply foldl_keeps | split | intro _ _ _ | intro _ _ | extract_lets
    | (dsimp +zetaDelta only)

theorem bwStart_keeps {zz : State} {r : BwReq} {rival : List Nat} {s : State}
    (hs : Keeps zz s) :
    Keeps zz (bwStart r rival s) := by
  unfold bwStart
  extract_lets l0 l1
  have kl0 : Keeps zz l0 := by
    unfold l0
    repeat' first
      | with_reducible assumption | with_reducible apply emit_keeps | (simp only [mk_keeps])
      | with_reducible apply foldl_keeps | split | intro _ _ _ | intro _ _ | extract_lets
      | (dsimp +zetaDelta only)
  clear_value l0
  repeat' first
    | with_reducible assumption | with_reducible apply setBwState_keeps | with_reducible apply count_keeps
    | (simp only [mk_keeps]) | with_reducible apply foldl_keeps | split | intro _ _ _ | intro _ _
    | extract_lets | (dsimp +zetaDelta only)

theorem bwStrike_keeps {zz : State} {rival : List Nat} {s : State}
    (hs : Keeps zz s) :
    Keeps zz (bwStrike rival s) := by
  unfold bwStrike
  repeat' first
    | with_reducible assumption | with_reducible apply bwStart_keeps | with_reducible apply setBwLines_keeps
    | (simp only [mk_keeps]) | with_reducible apply foldl_keeps | split | intro _ _ _ | intro _ _
    | extract_lets | (dsimp +zetaDelta only)

theorem captRead_keeps {zz : State} {k : Nat} {s : State}
    (hs : Keeps zz s) :
    Keeps zz (captRead k s) := by
  unfold captRead
  repeat' first
    | with_reducible assumption | with_reducible apply set_keeps | with_reducible apply emit_keeps
    | (simp only [mk_keeps]) | with_reducible apply foldl_keeps | split | intro _ _ _ | intro _ _
    | extract_lets | (dsimp +zetaDelta only)

theorem loaderDone_keeps {zz : State} {s : State}
    (hs : Keeps zz s) :
    Keeps zz (loaderDone s) := by
  unfold loaderDone
  extract_lets l0
  have kl0 : Keeps zz l0 := by
    unfold l0
    repeat' first
      | with_reducible assumption | with_reducible apply set_keeps | (simp only [mk_keeps])
      | with_reducible apply foldl_keeps | split | intro _ _ _ | intro _ _ | extract_lets
      | (dsimp +zetaDelta only)
  clear_value l0
  repeat' first
    | with_reducible assumption | with_reducible apply fire_keeps | (simp only [mk_keeps])
    | with_reducible apply foldl_keeps | split | intro _ _ _ | intro _ _ | extract_lets
    | (dsimp +zetaDelta only)

theorem enterSafe_keeps {zz : State} {s : State}
    (hs : Keeps zz s) :
    Keeps zz (enterSafe s) := by
  unfold enterSafe
  extract_lets l0
  have kl0 : Keeps zz l0 := by
    unfold l0
    repeat' first
      | with_reducible assumption | with_reducible apply setFspeed_keeps | with_reducible apply set_keeps
      | (simp only [mk_keeps]) | with_reducible apply foldl_keeps | split | intro _ _ _ | intro _ _
      | extract_lets | (dsimp +zetaDelta only)
  clear_value l0
  repeat' first
    | with_reducible assumption | with_reducible apply loaderDone_keeps | with_reducible apply log_keeps
    | (simp only [mk_keeps]) | with_reducible apply foldl_keeps | split | intro _ _ _ | intro _ _
    | extract_lets | (dsimp +zetaDelta only)

theorem enterHeader_keeps {zz : State} {k : Nat} {s : State}
    (hs : Keeps zz s) :
    Keeps zz (enterHeader k s) := by
  unfold enterHeader
  extract_lets l0 l1
  have kl1 : Keeps zz l1 := by
    unfold l1
    repeat' first
      | with_reducible assumption | (simp only [mk_keeps]) | with_reducible apply foldl_keeps | split
      | intro _ _ _ | intro _ _ | extract_lets | (dsimp +zetaDelta only)
  clear_value l1
  repeat' first
    | with_reducible assumption | with_reducible apply enterSafe_keeps | with_reducible apply flashReset_keeps
    | with_reducible apply set_keeps | (simp only [mk_keeps]) | with_reducible apply foldl_keeps | split
    | intro _ _ _ | intro _ _ | extract_lets | (dsimp +zetaDelta only)

theorem startLoader_keeps {zz : State} {s : State}
    (hs : Keeps zz s) :
    Keeps zz (startLoader s) := by
  unfold startLoader
  extract_lets l0 l1
  have kl1 : Keeps zz l1 := by
    unfold l1
    repeat' first
      | with_reducible assumption | with_reducible apply set_keeps | with_reducible apply count_keeps
      | (simp only [mk_keeps]) | with_reducible apply foldl_keeps | split | intro _ _ _ | intro _ _
      | extract_lets | (dsimp +zetaDelta only)
  clear_value l1
  repeat' first
    | with_reducible assumption | with_reducible apply enterHeader_keeps | with_reducible apply set_keeps
    | (simp only [mk_keeps]) | with_reducible apply foldl_keeps | split | intro _ _ _ | intro _ _
    | extract_lets | (dsimp +zetaDelta only)

theorem cfgRelease_keeps {zz : State} {s : State}
    (hs : Keeps zz s) :
    Keeps zz (cfgRelease s) := by
  unfold cfgRelease
  extract_lets l0 l1
  have kl1 : Keeps zz l1 := by
    unfold l1
    repeat' first
      | with_reducible assumption | (simp only [mk_keeps]) | with_reducible apply foldl_keeps | split
      | intro _ _ _ | intro _ _ | extract_lets | (dsimp +zetaDelta only)
  clear_value l1
  repeat' first
    | with_reducible assumption | with_reducible apply startLoader_keeps | (simp only [mk_keeps])
    | with_reducible apply foldl_keeps | split | intro _ _ _ | intro _ _ | extract_lets
    | (dsimp +zetaDelta only)

theorem changeOutputs_keeps {zz : State} {m : Nat} {x1 : State}
    (hx1 : Keeps zz x1) :
    Keeps zz (changeOutputs m x1) := by
  unfold changeOutputs
  extract_lets l0 l1 l2 l3 l4 l5
  have kl0 : Keeps zz l0 := by
    unfold l0
    repeat' first
      | with_reducible assumption | with_reducible apply seeGuards_keeps | (simp only [mk_keeps])
      | with_reducible apply foldl_keeps | split | intro _ _ _ | intro _ _ | extract_lets
      | (dsimp +zetaDelta only)
  clear_value l0
  have kl3 : Keeps zz l3 := by
    unfold l3
    repeat' first
      | with_reducible assumption | with_reducible apply count_keeps | with_reducible apply setTrig_keeps
      | (simp only [mk_keeps]) | with_reducible apply foldl_keeps | split | intro _ _ _ | intro _ _
      | extract_lets | (dsimp +zetaDelta only)
  clear_value l3
  have kl4 : Keeps zz l4 := by
    unfold l4
    repeat' first
      | with_reducible assumption | with_reducible apply count_keeps | with_reducible apply setStrobe_keeps
      | (simp only [mk_keeps]) | with_reducible apply foldl_keeps | split | intro _ _ _ | intro _ _
      | extract_lets | (dsimp +zetaDelta only)
  clear_value l4
  have kl5 : Keeps zz l5 := by
    unfold l5
    repeat' first
      | with_reducible assumption | with_reducible apply setAnalog_keeps | (simp only [mk_keeps])
      | with_reducible apply foldl_keeps | split | intro _ _ _ | intro _ _ | extract_lets
      | (dsimp +zetaDelta only)
  clear_value l5
  repeat' first
    | with_reducible assumption | with_reducible apply analogAll_keeps | with_reducible apply set_keeps
    | (simp only [mk_keeps]) | with_reducible apply foldl_keeps | split | intro _ _ _ | intro _ _
    | extract_lets | (dsimp +zetaDelta only)

theorem posFault_keeps {zz : State} {n : Nat} {f : Fld} {s : State}
    (hs : Keeps zz s) :
    Keeps zz (posFault n f s) := by
  unfold posFault
  repeat' first
    | with_reducible assumption | with_reducible apply fire_keeps | with_reducible apply set_keeps
    | (simp only [mk_keeps]) | with_reducible apply foldl_keeps | split | intro _ _ _ | intro _ _
    | extract_lets | (dsimp +zetaDelta only)

theorem checkInterval_keeps {zz : State} {n : Nat} {s : State}
    (hs : Keeps zz s) :
    Keeps zz (checkInterval n s) := by
  unfold checkInterval
  extract_lets l0 l1 l2
  have kl2 : Keeps zz l2 := by
    unfold l2
    repeat' first
      | with_reducible assumption | with_reducible apply setChan_keeps | (simp only [mk_keeps])
      | with_reducible apply foldl_keeps | split | intro _ _ _ | intro _ _ | extract_lets
      | (dsimp +zetaDelta only)
  clear_value l2
  repeat' first
    | with_reducible assumption | with_reducible apply logSec_keeps | with_reducible apply count_keeps
    | with_reducible apply posFault_keeps | (simp only [mk_keeps]) | with_reducible apply foldl_keeps | split
    | intro _ _ _ | intro _ _ | extract_lets | (dsimp +zetaDelta only)

theorem chimeExpiry_keeps {zz : State} {c : Nat} {s : State}
    (hs : Keeps zz s) :
    Keeps zz (chimeExpiry c s) := by
  unfold chimeExpiry
  extract_lets l0 l1
  have kl1 : Keeps zz l1 := by
    unfold l1
    repeat' first
      | with_reducible assumption | with_reducible apply setCell_keeps | (simp only [mk_keeps])
      | with_reducible apply foldl_keeps | split | intro _ _ _ | intro _ _ | extract_lets
      | (dsimp +zetaDelta only)
  clear_value l1
  repeat' first
    | with_reducible assumption | with_reducible apply runCells_keeps
    | with_reducible apply setCellLevel_keeps | (simp only [mk_keeps]) | with_reducible apply foldl_keeps
    | split | intro _ _ _ | intro _ _ | extract_lets | (dsimp +zetaDelta only)

theorem enterRun_keeps {zz : State} {s : State}
    (hs : Keeps zz s) :
    Keeps zz (enterRun s) := by
  unfold enterRun
  repeat' first
    | with_reducible assumption | with_reducible apply rootNet_keeps | with_reducible apply setNode_keeps
    | (simp only [mk_keeps]) | with_reducible apply foldl_keeps | split | intro _ _ _ | intro _ _
    | extract_lets | (dsimp +zetaDelta only)

theorem enumOut_keeps {zz : State} {p : Nat} {next : Nat} {s : State}
    (hs : Keeps zz s) :
    Keeps zz (enumOut p next s) := by
  unfold enumOut
  repeat' first
    | with_reducible assumption | with_reducible apply sendOn_keeps | (simp only [mk_keeps])
    | with_reducible apply foldl_keeps | split | intro _ _ _ | intro _ _ | extract_lets
    | (dsimp +zetaDelta only)

theorem claimEnd_keeps {zz : State} {s : State}
    (hs : Keeps zz s) :
    Keeps zz (claimEnd s) := by
  unfold claimEnd
  extract_lets l0 l1
  have kl1 : Keeps zz l1 := by
    unfold l1
    repeat' first
      | with_reducible assumption | with_reducible apply takeId_keeps | with_reducible apply tablePut_keeps
      | with_reducible apply setNode_keeps | (simp only [mk_keeps]) | with_reducible apply foldl_keeps | split
      | intro _ _ _ | intro _ _ | extract_lets | (dsimp +zetaDelta only)
  clear_value l1
  repeat' first
    | with_reducible assumption | with_reducible apply enterRun_keeps | with_reducible apply takeId_keeps
    | with_reducible apply tablePut_keeps | with_reducible apply enumOut_keeps
    | with_reducible apply rootNet_keeps | (simp only [mk_keeps]) | with_reducible apply foldl_keeps | split
    | intro _ _ _ | intro _ _ | extract_lets | (dsimp +zetaDelta only)

theorem clampAll_keeps {zz : State} {s : State}
    (hs : Keeps zz s) :
    Keeps zz (clampAll s) := by
  unfold clampAll
  repeat' first
    | with_reducible assumption | with_reducible apply analogAll_keeps | with_reducible apply set_keeps
    | (simp only [mk_keeps]) | with_reducible apply foldl_keeps | split | intro _ _ _ | intro _ _
    | extract_lets | (dsimp +zetaDelta only)

theorem clkLowTimeout_keeps {zz : State} {s : State}
    (hs : Keeps zz s) :
    Keeps zz (clkLowTimeout s) := by
  unfold clkLowTimeout
  extract_lets l0 l1
  have kl0 : Keeps zz l0 := by
    unfold l0
    repeat' first
      | with_reducible assumption | with_reducible apply set_keeps | (simp only [mk_keeps])
      | with_reducible apply foldl_keeps | split | intro _ _ _ | intro _ _ | extract_lets
      | (dsimp +zetaDelta only)
  clear_value l0
  repeat' first
    | with_reducible assumption | with_reducible apply log_keeps | with_reducible apply count_keeps
    | with_reducible apply bwAbandon_keeps | (simp only [mk_keeps]) | with_reducible apply foldl_keeps | split
    | intro _ _ _ | intro _ _ | extract_lets | (dsimp +zetaDelta only)

theorem clocksLocked_keeps {zz : State} {s : State}
    (hs : Keeps zz s) :
    Keeps zz (clocksLocked s) := by
  unfold clocksLocked
  extract_lets l0 l1
  have kl0 : Keeps zz l0 := by
    unfold l0
    repeat' first
      | with_reducible assumption | with_reducible apply set_keeps | (simp only [mk_keeps])
      | with_reducible apply foldl_keeps | split | intro _ _ _ | intro _ _ | extract_lets
      | (dsimp +zetaDelta only)
  clear_value l0
  repeat' first
    | with_reducible assumption | (simp only [mk_keeps]) | with_reducible apply foldl_keeps | split
    | intro _ _ _ | intro _ _ | extract_lets | (dsimp +zetaDelta only)

theorem clocksTimeout_keeps {zz : State} {s : State}
    (hs : Keeps zz s) :
    Keeps zz (clocksTimeout s) := by
  unfold clocksTimeout
  repeat' first
    | with_reducible assumption | with_reducible apply applyAbort_keeps | (simp only [mk_keeps])
    | with_reducible apply foldl_keeps | split | intro _ _ _ | intro _ _ | extract_lets
    | (dsimp +zetaDelta only)

theorem closeDone_keeps {zz : State} {x : Nat} {s : State}
    (hs : Keeps zz s) :
    Keeps zz (closeDone x s) := by
  unfold closeDone
  repeat' first
    | with_reducible assumption | with_reducible apply set_keeps | (simp only [mk_keeps])
    | with_reducible apply foldl_keeps | split | intro _ _ _ | intro _ _ | extract_lets
    | (dsimp +zetaDelta only)

theorem closePortFrame_keeps {zz : State} {n : Nat} {s : State}
    (hs : Keeps zz s) :
    Keeps zz (closePortFrame n s) := by
  unfold closePortFrame
  extract_lets l0 l1 l2 l3
  have kl2 : Keeps zz l2 := by
    unfold l2
    repeat' first
      | with_reducible assumption | with_reducible apply set_keeps | (simp only [mk_keeps])
      | with_reducible apply foldl_keeps | split | intro _ _ _ | intro _ _ | extract_lets
      | (dsimp +zetaDelta only)
  clear_value l2
  have kl3 : Keeps zz l3 := by
    unfold l3
    repeat' first
      | with_reducible assumption | with_reducible apply closePortItem_keeps | (simp only [mk_keeps])
      | with_reducible apply foldl_keeps | split | intro _ _ _ | intro _ _ | extract_lets
      | (dsimp +zetaDelta only)
  clear_value l3
  repeat' first
    | with_reducible assumption | with_reducible apply derivePort_keeps | (simp only [mk_keeps])
    | with_reducible apply foldl_keeps | split | intro _ _ _ | intro _ _ | extract_lets
    | (dsimp +zetaDelta only)

theorem clpEvent_keeps {zz : State} {g : Nat} {p : List Nat} {s : State}
    (hs : Keeps zz s) :
    Keeps zz (clpEvent g p s) := by
  unfold clpEvent
  extract_lets l0 l1 l2
  have kl1 : Keeps zz l1 := by
    unfold l1
    repeat' first
      | with_reducible assumption | with_reducible apply set_keeps | with_reducible apply count_keeps
      | (simp only [mk_keeps]) | with_reducible apply foldl_keeps | split | intro _ _ _ | intro _ _
      | extract_lets | (dsimp +zetaDelta only)
  clear_value l1
  have kl2 : Keeps zz l2 := by
    unfold l2
    repeat' first
      | with_reducible assumption | with_reducible apply fire_keeps | (simp only [mk_keeps])
      | with_reducible apply foldl_keeps | split | intro _ _ _ | intro _ _ | extract_lets
      | (dsimp +zetaDelta only)
  clear_value l2
  repeat' first
    | with_reducible assumption | with_reducible apply eventItem_keeps | (simp only [mk_keeps])
    | with_reducible apply foldl_keeps | split | intro _ _ _ | intro _ _ | extract_lets
    | (dsimp +zetaDelta only)

theorem cntRead_keeps {zz : State} {n : Nat} {s : State}
    (hs : Keeps zz s) :
    Keeps zz (cntRead n s) := by
  unfold cntRead
  extract_lets l0
  repeat' first
    | with_reducible assumption | with_reducible apply emit_keeps | with_reducible apply set_keeps
    | (simp only [mk_keeps]) | with_reducible apply foldl_keeps | split | intro _ _ _ | intro _ _
    | extract_lets | (dsimp +zetaDelta only)

theorem setCompare_keeps {zz : State} {k : Nat} {ns : Nat} {s : State}
    (hs : Keeps zz s) :
    Keeps zz (setCompare k ns s) := by
  unfold setCompare
  repeat' first
    | with_reducible assumption | with_reducible apply set_keeps | (simp only [mk_keeps])
    | with_reducible apply foldl_keeps | split | intro _ _ _ | intro _ _ | extract_lets
    | (dsimp +zetaDelta only)

theorem compareFire_keeps {zz : State} {k : Nat} {s : State}
    (hs : Keeps zz s) :
    Keeps zz (compareFire k s) := by
  unfold compareFire
  extract_lets l0 l1 l2
  have kl1 : Keeps zz l1 := by
    unfold l1
    repeat' first
      | with_reducible assumption | with_reducible apply fire_keeps | (simp only [mk_keeps])
      | with_reducible apply foldl_keeps | split | intro _ _ _ | intro _ _ | extract_lets
      | (dsimp +zetaDelta only)
  clear_value l1
  repeat' first
    | with_reducible assumption | with_reducible apply set_keeps | with_reducible apply setCompare_keeps
    | (simp only [mk_keeps]) | with_reducible apply foldl_keeps | split | intro _ _ _ | intro _ _
    | extract_lets | (dsimp +zetaDelta only)

theorem hostErr_keeps {zz : State} {q : Nat} {slot : Nat} {s : State}
    (hs : Keeps zz s) :
    Keeps zz (hostErr q slot s) := by
  unfold hostErr
  repeat' first
    | with_reducible assumption | with_reducible apply log_keeps | with_reducible apply pauseQueue_keeps
    | with_reducible apply dropWaiting_keeps | with_reducible apply cutOpen_keeps | (simp only [mk_keeps])
    | with_reducible apply foldl_keeps | split | intro _ _ _ | intro _ _ | extract_lets
    | (dsimp +zetaDelta only)

theorem readFailed_keeps {zz : State} {r : ReadReq} {s : State}
    (hs : Keeps zz s) :
    Keeps zz (readFailed r s) := by
  unfold readFailed
  extract_lets l0 l1
  have kl1 : Keeps zz l1 := by
    unfold l1
    repeat' first
      | with_reducible assumption | with_reducible apply setQueue_keeps | (simp only [mk_keeps])
      | with_reducible apply foldl_keeps | split | intro _ _ _ | intro _ _ | extract_lets
      | (dsimp +zetaDelta only)
  clear_value l1
  repeat' first
    | with_reducible assumption | with_reducible apply contextHalt_keeps | with_reducible apply hostErr_keeps
    | (simp only [mk_keeps]) | with_reducible apply foldl_keeps | split | intro _ _ _ | intro _ _
    | extract_lets | (dsimp +zetaDelta only)

theorem completion_keeps {zz : State} {tag : Nat} {status : Nat} {bad : Bool} {ecrc : Bool} {data : List Nat} {s : State}
    (hs : Keeps zz s) :
    Keeps zz (completion tag status bad ecrc data s) := by
  unfold completion
  extract_lets l0 l1 l2
  have kl1 : Keeps zz l1 := by
    unfold l1
    repeat' first
      | with_reducible assumption | with_reducible apply setReads_keeps | (simp only [mk_keeps])
      | with_reducible apply foldl_keeps | split | intro _ _ _ | intro _ _ | extract_lets
      | (dsimp +zetaDelta only)
  clear_value l1
  repeat' first
    | with_reducible assumption | with_reducible apply logSec_keeps | with_reducible apply aerSet_keeps
    | with_reducible apply count_keeps | with_reducible apply readFailed_keeps
    | with_reducible apply log_keeps | with_reducible apply setQueue_keeps | (simp only [mk_keeps])
    | with_reducible apply foldl_keeps | split | intro _ _ _ | intro _ _ | extract_lets
    | (dsimp +zetaDelta only)

theorem spaceRead_keeps {zz : State} {a : Nat} {s : State}
    (hs : Keeps zz s) :
    Keeps zz (spaceRead a s).2 := by
  unfold spaceRead
  extract_lets l0 l1
  repeat' first
    | with_reducible assumption | with_reducible apply free_keeps
    | with_reducible refine free_keeps' ?_ (by with_reducible assumption) | (simp only [mk_keeps])
    | with_reducible apply foldl_keeps | split | intro _ _ _ | intro _ _ | extract_lets
    | (dsimp +zetaDelta only)

theorem spaceRead_keeps' {zz t : State} {a : Nat} {s : State} {q}
    (hs : Keeps zz s) (e : (spaceRead a s) = (q, t)) :
    Keeps zz t := by
  have := spaceRead_keeps (a := a) (s := s) hs
  rw [e] at this
  exact this

theorem d3Enter_keeps {zz : State} {s : State}
    (hs : Keeps zz s) :
    Keeps zz (d3Enter s) := by
  unfold d3Enter
  extract_lets l0
  have kl0 : Keeps zz l0 := by
    unfold l0
    repeat' first
      | with_reducible assumption | with_reducible apply set_keeps | (simp only [mk_keeps])
      | with_reducible apply foldl_keeps | split | intro _ _ _ | intro _ _ | extract_lets
      | (dsimp +zetaDelta only)
  clear_value l0
  repeat' first
    | with_reducible assumption | with_reducible apply busHalt_keeps | with_reducible apply settleBridge_keeps
    | (simp only [mk_keeps]) | with_reducible apply foldl_keeps | split | intro _ _ _ | intro _ _
    | extract_lets | (dsimp +zetaDelta only)

theorem d0Return_keeps {zz : State} {s : State}
    (hs : Keeps zz s) :
    Keeps zz (d0Return s) := by
  unfold d0Return
  repeat' first
    | with_reducible assumption | with_reducible apply settleBridge_keeps | with_reducible apply set_keeps
    | (simp only [mk_keeps]) | with_reducible apply foldl_keeps | split | intro _ _ _ | intro _ _
    | extract_lets | (dsimp +zetaDelta only)

theorem tagMode_keeps {zz : State} {s : State}
    (hs : Keeps zz s) :
    Keeps zz (tagMode s) := by
  unfold tagMode
  extract_lets l0
  have kl0 : Keeps zz l0 := by
    unfold l0
    repeat' first
      | with_reducible assumption | with_reducible apply set_keeps | (simp only [mk_keeps])
      | with_reducible apply foldl_keeps | split | intro _ _ _ | intro _ _ | extract_lets
      | (dsimp +zetaDelta only)
  clear_value l0
  repeat' first
    | with_reducible assumption | with_reducible apply set_keeps | (simp only [mk_keeps])
    | with_reducible apply foldl_keeps | split | intro _ _ _ | intro _ _ | extract_lets
    | (dsimp +zetaDelta only)

theorem showMsix_keeps {zz : State} {s : State}
    (hs : Keeps zz s) :
    Keeps zz (showMsix s) := by
  unfold showMsix
  repeat' first
    | with_reducible assumption | with_reducible apply set_keeps | (simp only [mk_keeps])
    | with_reducible apply foldl_keeps | split | intro _ _ _ | intro _ _ | extract_lets
    | (dsimp +zetaDelta only)

theorem spaceWrite_keeps {zz : State} {a : Nat} {v : Nat} {s : State}
    (hs : Keeps zz s) :
    Keeps zz (spaceWrite a v s) := by
  unfold spaceWrite
  extract_lets l0 l1 l2 l3 l4
  have kl1 : Keeps zz l1 := by
    unfold l1
    repeat' first
      | with_reducible assumption | (simp only [mk_keeps]) | with_reducible apply foldl_keeps | split
      | intro _ _ _ | intro _ _ | extract_lets | (dsimp +zetaDelta only)
  clear_value l1
  have kl3 : Keeps zz l3 := by
    unfold l3
    repeat' first
      | with_reducible assumption | (simp only [mk_keeps]) | with_reducible apply foldl_keeps | split
      | intro _ _ _ | intro _ _ | extract_lets | (dsimp +zetaDelta only)
  clear_value l3
  have kl4 : Keeps zz l4 := by
    unfold l4
    repeat' first
      | with_reducible assumption | (simp only [mk_keeps]) | with_reducible apply foldl_keeps | split
      | intro _ _ _ | intro _ _ | extract_lets | (dsimp +zetaDelta only)
  clear_value l4
  repeat' first
    | with_reducible assumption | with_reducible apply bmeSet_keeps | with_reducible apply bmeClear_keeps
    | with_reducible apply d3Enter_keeps | with_reducible apply d0Return_keeps
    | with_reducible apply sendPending_keeps | with_reducible apply set_keeps
    | with_reducible apply tagMode_keeps | with_reducible apply showMsix_keeps | (simp only [mk_keeps])
    | with_reducible apply foldl_keeps | split | intro _ _ _ | intro _ _ | extract_lets
    | (dsimp +zetaDelta only)

theorem loaderEnd_keeps {zz : State} {s : State}
    (hs : Keeps zz s) :
    Keeps zz (loaderEnd s) := by
  unfold loaderEnd
  extract_lets l0 l1
  have kl0 : Keeps zz l0 := by
    unfold l0
    repeat' first
      | with_reducible assumption | with_reducible apply set_keeps | (simp only [mk_keeps])
      | with_reducible apply foldl_keeps | split | intro _ _ _ | intro _ _ | extract_lets
      | (dsimp +zetaDelta only)
  clear_value l0
  repeat' first
    | with_reducible assumption | with_reducible apply loaderDone_keeps | (simp only [mk_keeps])
    | with_reducible apply foldl_keeps | split | intro _ _ _ | intro _ _ | extract_lets
    | (dsimp +zetaDelta only)

theorem enterReached_keeps {zz : State} {s : State}
    (hs : Keeps zz s) :
    Keeps zz (enterReached s) := by
  unfold enterReached
  repeat' first
    | with_reducible assumption | with_reducible apply loaderEnd_keeps | (simp only [mk_keeps])
    | with_reducible apply foldl_keeps | split | intro _ _ _ | intro _ _ | extract_lets
    | (dsimp +zetaDelta only)

theorem flrNotify_keeps {zz : State} {s : State}
    (hs : Keeps zz s) :
    Keeps zz (flrNotify s) := by
  unfold flrNotify
  extract_lets l0 l1 l2
  have kl0 : Keeps zz l0 := by
    unfold l0
    repeat' first
      | with_reducible assumption | with_reducible apply setBusy_keeps | (simp only [mk_keeps])
      | with_reducible apply foldl_keeps | split | intro _ _ _ | intro _ _ | extract_lets
      | (dsimp +zetaDelta only)
  clear_value l0
  have kl1 : Keeps zz l1 := by
    unfold l1
    repeat' first
      | with_reducible assumption | with_reducible apply clearRegs_keeps | (simp only [mk_keeps])
      | with_reducible apply foldl_keeps | split | intro _ _ _ | intro _ _ | extract_lets
      | (dsimp +zetaDelta only)
  clear_value l1
  repeat' first
    | with_reducible assumption | (simp only [mk_keeps]) | with_reducible apply foldl_keeps | split
    | intro _ _ _ | intro _ _ | extract_lets | (dsimp +zetaDelta only)

theorem flrQueues_keeps {zz : State} {s : State}
    (hs : Keeps zz s) :
    Keeps zz (flrQueues s) := by
  unfold flrQueues
  extract_lets l0
  have kl0 : Keeps zz l0 := by
    unfold l0
    repeat' first
      | with_reducible assumption | with_reducible apply queueReset_keeps | (simp only [mk_keeps])
      | with_reducible apply foldl_keeps | split | intro _ _ _ | intro _ _ | extract_lets
      | (dsimp +zetaDelta only)
  clear_value l0
  repeat' first
    | with_reducible assumption | with_reducible apply clearRegs_keeps | (simp only [mk_keeps])
    | with_reducible apply foldl_keeps | split | intro _ _ _ | intro _ _ | extract_lets
    | (dsimp +zetaDelta only)

theorem flrBridge_keeps {zz : State} {s : State}
    (hs : Keeps zz s) :
    Keeps zz (flrBridge s) := by
  unfold flrBridge
  extract_lets l0 l1 l2 l3 l4 l5 l6 l7
  have kl3 : Keeps zz l3 := by
    unfold l3
    repeat' first
      | with_reducible assumption | with_reducible apply abandonFar_keeps | (simp only [mk_keeps])
      | with_reducible apply foldl_keeps | split | intro _ _ _ | intro _ _ | extract_lets
      | (dsimp +zetaDelta only)
  clear_value l3
  have kl5 : Keeps zz l5 := by
    unfold l5
    repeat' first
      | with_reducible assumption | with_reducible apply bridgeReset_keeps | (simp only [mk_keeps])
      | with_reducible apply foldl_keeps | split | intro _ _ _ | intro _ _ | extract_lets
      | (dsimp +zetaDelta only)
  clear_value l5
  have kl7 : Keeps zz l7 := by
    unfold l7
    repeat' first
      | with_reducible assumption | (simp only [mk_keeps]) | with_reducible apply foldl_keeps | split
      | intro _ _ _ | intro _ _ | extract_lets | (dsimp +zetaDelta only)
  clear_value l7
  repeat' first
    | with_reducible assumption | with_reducible apply set_keeps | with_reducible apply setFar_keeps
    | (simp only [mk_keeps]) | with_reducible apply foldl_keeps | split | intro _ _ _ | intro _ _
    | extract_lets | (dsimp +zetaDelta only)

theorem endLaneTests_keeps {zz : State} {s : State}
    (hs : Keeps zz s) :
    Keeps zz (endLaneTests s) := by
  unfold endLaneTests
  repeat' first
    | with_reducible assumption | with_reducible apply setLane_keeps | with_reducible apply set_keeps
    | with_reducible apply startDetect_keeps | (simp only [mk_keeps]) | with_reducible apply foldl_keeps
    | split | intro _ _ _ | intro _ _ | extract_lets | (dsimp +zetaDelta only)

theorem pixBistEnd_keeps {zz : State} {p : Nat} {result : Nat} {s : State}
    (hs : Keeps zz s) :
    Keeps zz (pixBistEnd p result s) := by
  unfold pixBistEnd
  extract_lets l0 l1 l2
  have kl1 : Keeps zz l1 := by
    unfold l1
    repeat' first
      | with_reducible assumption | with_reducible apply deriveTables_keeps
      | with_reducible apply clearRegs_keeps | (simp only [mk_keeps]) | with_reducible apply foldl_keeps
      | split | intro _ _ _ | intro _ _ | extract_lets | (dsimp +zetaDelta only)
  clear_value l1
  have kl2 : Keeps zz l2 := by
    unfold l2
    repeat' first
      | with_reducible assumption | with_reducible apply derivePipe_keeps | with_reducible apply set_keeps
      | (simp only [mk_keeps]) | with_reducible apply foldl_keeps | split | intro _ _ _ | intro _ _
      | extract_lets | (dsimp +zetaDelta only)
  clear_value l2
  repeat' first
    | with_reducible assumption | with_reducible apply pipeRest_keeps | (simp only [mk_keeps])
    | with_reducible apply foldl_keeps | split | intro _ _ _ | intro _ _ | extract_lets
    | (dsimp +zetaDelta only)

theorem queBistEnd_keeps {zz : State} {result : Nat} {s : State}
    (hs : Keeps zz s) :
    Keeps zz (queBistEnd result s) := by
  unfold queBistEnd
  extract_lets l0 l1 l2 l3
  have kl0 : Keeps zz l0 := by
    unfold l0
    repeat' first
      | with_reducible assumption | with_reducible apply clearRegs_keeps | (simp only [mk_keeps])
      | with_reducible apply foldl_keeps | split | intro _ _ _ | intro _ _ | extract_lets
      | (dsimp +zetaDelta only)
  clear_value l0
  have kl2 : Keeps zz l2 := by
    unfold l2
    repeat' first
      | with_reducible assumption | (simp only [mk_keeps]) | with_reducible apply foldl_keeps | split
      | intro _ _ _ | intro _ _ | extract_lets | (dsimp +zetaDelta only)
  clear_value l2
  have kl3 : Keeps zz l3 := by
    unfold l3
    repeat' first
      | with_reducible assumption | with_reducible apply set_keeps | (simp only [mk_keeps])
      | with_reducible apply foldl_keeps | split | intro _ _ _ | intro _ _ | extract_lets
      | (dsimp +zetaDelta only)
  clear_value l3
  repeat' first
    | with_reducible assumption | with_reducible apply log_keeps | (simp only [mk_keeps])
    | with_reducible apply foldl_keeps | split | intro _ _ _ | intro _ _ | extract_lets
    | (dsimp +zetaDelta only)

theorem serviceExit_keeps {zz : State} {s : State}
    (hs : Keeps zz s) :
    Keeps zz (serviceExit s) := by
  unfold serviceExit
  extract_lets l0 l1 l2 l3
  have kl0 : Keeps zz l0 := by
    unfold l0
    repeat' first
      | with_reducible assumption | with_reducible apply endLaneTests_keeps | (simp only [mk_keeps])
      | with_reducible apply foldl_keeps | split | intro _ _ _ | intro _ _ | extract_lets
      | (dsimp +zetaDelta only)
  clear_value l0
  have kl1 : Keeps zz l1 := by
    unfold l1
    repeat' first
      | with_reducible assumption | with_reducible apply pixBistEnd_keeps
      | with_reducible apply queBistEnd_keeps | (simp only [mk_keeps]) | with_reducible apply foldl_keeps
      | split | intro _ _ _ | intro _ _ | extract_lets | (dsimp +zetaDelta only)
  clear_value l1
  have kl2 : Keeps zz l2 := by
    unfold l2
    repeat' first
      | with_reducible assumption | with_reducible apply setLane_keeps | (simp only [mk_keeps])
      | with_reducible apply foldl_keeps | split | intro _ _ _ | intro _ _ | extract_lets
      | (dsimp +zetaDelta only)
  clear_value l2
  repeat' first
    | with_reducible assumption | (simp only [mk_keeps]) | with_reducible apply foldl_keeps | split
    | intro _ _ _ | intro _ _ | extract_lets | (dsimp +zetaDelta only)

theorem enterStreams_keeps {zz : State} {m : Nat} {s : State}
    (hs : Keeps zz s) :
    Keeps zz (enterStreams m s) := by
  unfold enterStreams
  extract_lets l0 l1 l2
  have kl0 : Keeps zz l0 := by
    unfold l0
    repeat' first
      | with_reducible assumption | with_reducible apply set_keeps | (simp only [mk_keeps])
      | with_reducible apply foldl_keeps | split | intro _ _ _ | intro _ _ | extract_lets
      | (dsimp +zetaDelta only)
  clear_value l0
  have kl2 : Keeps zz l2 := by
    unfold l2
    repeat' first
      | with_reducible assumption | (simp only [mk_keeps]) | with_reducible apply foldl_keeps | split
      | intro _ _ _ | intro _ _ | extract_lets | (dsimp +zetaDelta only)
  clear_value l2
  repeat' first
    | with_reducible assumption | with_reducible apply log_keeps | with_reducible apply setHeld_keeps
    | (simp only [mk_keeps]) | with_reducible apply foldl_keeps | split | intro _ _ _ | intro _ _
    | extract_lets | (dsimp +zetaDelta only)

theorem dropToStandby_keeps {zz : State} {s : State}
    (hs : Keeps zz s) :
    Keeps zz (dropToStandby s) := by
  unfold dropToStandby
  extract_lets l0 l1 l2 l3 l4 l5 l6
  have kl1 : Keeps zz l1 := by
    unfold l1
    repeat' first
      | with_reducible assumption | with_reducible apply disarmMode_keeps
      | with_reducible apply changeOutputs_keeps | (simp only [mk_keeps]) | with_reducible apply foldl_keeps
      | split | intro _ _ _ | intro _ _ | extract_lets | (dsimp +zetaDelta only)
  clear_value l1
  have kl2 : Keeps zz l2 := by
    unfold l2
    repeat' first
      | with_reducible assumption | with_reducible apply serviceExit_keeps | (simp only [mk_keeps])
      | with_reducible apply foldl_keeps | split | intro _ _ _ | intro _ _ | extract_lets
      | (dsimp +zetaDelta only)
  clear_value l2
  have kl3 : Keeps zz l3 := by
    unfold l3
    repeat' first
      | with_reducible assumption | with_reducible apply set_keeps | (simp only [mk_keeps])
      | with_reducible apply foldl_keeps | split | intro _ _ _ | intro _ _ | extract_lets
      | (dsimp +zetaDelta only)
  clear_value l3
  have kl4 : Keeps zz l4 := by
    unfold l4
    repeat' first
      | with_reducible assumption | with_reducible apply enterStreams_keeps | (simp only [mk_keeps])
      | with_reducible apply foldl_keeps | split | intro _ _ _ | intro _ _ | extract_lets
      | (dsimp +zetaDelta only)
  clear_value l4
  have kl5 : Keeps zz l5 := by
    unfold l5
    repeat' first
      | with_reducible assumption | with_reducible apply fire_keeps | (simp only [mk_keeps])
      | with_reducible apply foldl_keeps | split | intro _ _ _ | intro _ _ | extract_lets
      | (dsimp +zetaDelta only)
  clear_value l5
  repeat' first
    | with_reducible assumption | with_reducible apply log_keeps | (simp only [mk_keeps])
    | with_reducible apply foldl_keeps | split | intro _ _ _ | intro _ _ | extract_lets
    | (dsimp +zetaDelta only)

set_option maxHeartbeats 1000000 in
theorem flrScope_keeps {zz : State} {scope : Nat} {s : State}
    (hs : Keeps zz s) :
    Keeps zz (flrScope scope s) := by
  unfold flrScope
  extract_lets l0 l1
  have kl1 : Keeps zz l1 := by
    unfold l1
    repeat' first
      | with_reducible assumption | with_reducible apply unitReset_keeps
      | with_reducible apply dropToStandby_keeps | with_reducible apply haltContexts_keeps
      | (simp only [mk_keeps]) | with_reducible apply foldl_keeps | split | intro _ _ _ | intro _ _
      | extract_lets | (dsimp +zetaDelta only)
  clear_value l1
  repeat' first
    | with_reducible assumption | with_reducible apply unitReset_keeps
    | with_reducible apply dropToStandby_keeps | with_reducible apply haltContexts_keeps
    | (simp only [mk_keeps]) | with_reducible apply foldl_keeps | split | intro _ _ _ | intro _ _
    | extract_lets | (dsimp +zetaDelta only)

set_option maxHeartbeats 1000000 in
theorem flrStart_keeps {zz : State} {s : State}
    (hs : Keeps zz s) :
    Keeps zz (flrStart s) := by
  unfold flrStart
  extract_lets l0 l1
  have kl1 : Keeps zz l1 := by
    unfold l1
    repeat' first
      | with_reducible assumption | with_reducible apply flrNotify_keeps
      | with_reducible apply flrQueues_keeps | with_reducible apply flrBridge_keeps | (simp only [mk_keeps])
      | with_reducible apply foldl_keeps | split | intro _ _ _ | intro _ _ | extract_lets
      | (dsimp +zetaDelta only)
  clear_value l1
  repeat' first
    | with_reducible assumption | with_reducible apply log_keeps | with_reducible apply flrScope_keeps
    | (simp only [mk_keeps]) | with_reducible apply foldl_keeps | split | intro _ _ _ | intro _ _
    | extract_lets | (dsimp +zetaDelta only)

theorem configRequest_keeps {zz : State} {a : Nat} {wr : Option Nat} {s : State}
    (hs : Keeps zz s) :
    Keeps zz (configRequest a wr s) := by
  unfold configRequest
  extract_lets l0
  repeat' first
    | with_reducible assumption | with_reducible apply emit_keeps | with_reducible apply spaceRead_keeps
    | with_reducible refine spaceRead_keeps' ?_ (by with_reducible assumption)
    | with_reducible apply spaceWrite_keeps | with_reducible apply enterReached_keeps
    | with_reducible apply flrStart_keeps | (simp only [mk_keeps]) | with_reducible apply foldl_keeps | split
    | intro _ _ _ | intro _ _ | extract_lets | (dsimp +zetaDelta only)

theorem connectEnd_keeps {zz : State} {a : Nat} {s : State}
    (hs : Keeps zz s) :
    Keeps zz (connectEnd a s) := by
  unfold connectEnd
  repeat' first
    | with_reducible assumption | with_reducible apply set_keeps | (simp only [mk_keeps])
    | with_reducible apply foldl_keeps | split | intro _ _ _ | intro _ _ | extract_lets
    | (dsimp +zetaDelta only)

theorem coreFail_keeps {zz : State} {k : Nat} {s : State}
    (hs : Keeps zz s) :
    Keeps zz (coreFail k s) := by
  unfold coreFail
  extract_lets l0 l1 l2
  have kl0 : Keeps zz l0 := by
    unfold l0
    repeat' first
      | with_reducible assumption | with_reducible apply warmReset_keeps | (simp only [mk_keeps])
      | with_reducible apply foldl_keeps | split | intro _ _ _ | intro _ _ | extract_lets
      | (dsimp +zetaDelta only)
  clear_value l0
  have kl1 : Keeps zz l1 := by
    unfold l1
    repeat' first
      | with_reducible assumption | with_reducible apply wrA_keeps | (simp only [mk_keeps])
      | with_reducible apply foldl_keeps | split | intro _ _ _ | intro _ _ | extract_lets
      | (dsimp +zetaDelta only)
  clear_value l1
  repeat' first
    | with_reducible assumption | (simp only [mk_keeps]) | with_reducible apply foldl_keeps | split
    | intro _ _ _ | intro _ _ | extract_lets | (dsimp +zetaDelta only)

theorem coreFault_keeps {zz : State} {c : Nat} {mem : Nat} {s : State}
    (hs : Keeps zz s) :
    Keeps zz (coreFault c mem s) := by
  unfold coreFault
  extract_lets l0 l1 l2 l3 l4
  have kl1 : Keeps zz l1 := by
    unfold l1
    repeat' first
      | with_reducible assumption | with_reducible apply count_keeps | with_reducible apply set_keeps
      | (simp only [mk_keeps]) | with_reducible apply foldl_keeps | split | intro _ _ _ | intro _ _
      | extract_lets | (dsimp +zetaDelta only)
  clear_value l1
  have kl3 : Keeps zz l3 := by
    unfold l3
    repeat' first
      | with_reducible assumption | (simp only [mk_keeps]) | with_reducible apply foldl_keeps | split
      | intro _ _ _ | intro _ _ | extract_lets | (dsimp +zetaDelta only)
  clear_value l3
  have kl4 : Keeps zz l4 := by
    unfold l4
    repeat' first
      | with_reducible assumption | with_reducible apply log_keeps | (simp only [mk_keeps])
      | with_reducible apply foldl_keeps | split | intro _ _ _ | intro _ _ | extract_lets
      | (dsimp +zetaDelta only)
  clear_value l4
  repeat' first
    | with_reducible assumption | with_reducible apply set_keeps | with_reducible apply log_keeps
    | with_reducible apply free_keeps | with_reducible refine free_keeps' ?_ (by with_reducible assumption)
    | with_reducible apply losePic_keeps | (simp only [mk_keeps]) | with_reducible apply foldl_keeps | split
    | intro _ _ _ | intro _ _ | extract_lets | (dsimp +zetaDelta only)

theorem usePll_keeps {zz : State} {p : Nat} {s : State}
    (hs : Keeps zz s) :
    Keeps zz (usePll p s) := by
  unfold usePll
  extract_lets l0
  repeat' first
    | with_reducible assumption | (simp only [mk_keeps]) | with_reducible apply foldl_keeps | split
    | intro _ _ _ | intro _ _ | extract_lets | (dsimp +zetaDelta only)

theorem coreRelease_keeps {zz : State} {s : State}
    (hs : Keeps zz s) :
    Keeps zz (coreRelease s) := by
  unfold coreRelease
  extract_lets l0 l1
  have kl1 : Keeps zz l1 := by
    unfold l1
    repeat' first
      | with_reducible assumption | (simp only [mk_keeps]) | with_reducible apply foldl_keeps | split
      | intro _ _ _ | intro _ _ | extract_lets | (dsimp +zetaDelta only)
  clear_value l1
  repeat' first
    | with_reducible assumption | with_reducible apply count_keeps | with_reducible apply set_keeps
    | with_reducible apply setLock_keeps | with_reducible apply usePll_keeps | (simp only [mk_keeps])
    | with_reducible apply foldl_keeps | split | intro _ _ _ | intro _ _ | extract_lets
    | (dsimp +zetaDelta only)

theorem coreRest_keeps {zz : State} {c : Nat} {s : State}
    (hs : Keeps zz s) :
    Keeps zz (coreRest c s) := by
  unfold coreRest
  extract_lets l0 l1
  have kl1 : Keeps zz l1 := by
    unfold l1
    repeat' first
      | with_reducible assumption | (simp only [mk_keeps]) | with_reducible apply foldl_keeps | split
      | intro _ _ _ | intro _ _ | extract_lets | (dsimp +zetaDelta only)
  clear_value l1
  repeat' first
    | with_reducible assumption | with_reducible apply log_keeps | with_reducible apply set_keeps
    | with_reducible apply rejoin_keeps | (simp only [mk_keeps]) | with_reducible apply foldl_keeps | split
    | intro _ _ _ | intro _ _ | extract_lets | (dsimp +zetaDelta only)

theorem countDir_keeps {zz : State} {n : Nat} {rev : Bool} {s : State}
    (hs : Keeps zz s) :
    Keeps zz (countDir n rev s).2 := by
  unfold countDir
  extract_lets l0
  repeat' first
    | with_reducible assumption | with_reducible apply setChan_keeps | with_reducible apply fire_keeps
    | with_reducible apply set_keeps | (simp only [mk_keeps]) | with_reducible apply foldl_keeps | split
    | intro _ _ _ | intro _ _ | extract_lets | (dsimp +zetaDelta only)

theorem countDir_keeps' {zz t : State} {n : Nat} {rev : Bool} {s : State} {q}
    (hs : Keeps zz s) (e : (countDir n rev s) = (q, t)) :
    Keeps zz t := by
  have := countDir_keeps (n := n) (rev := rev) (s := s) hs
  rw [e] at this
  exact this

theorem lastEdge_keeps {zz : State} {n : Nat} {t : Nat} {s : State}
    (hs : Keeps zz s) :
    Keeps zz (lastEdge n t s) := by
  unfold lastEdge
  extract_lets l0 l1 l2 l3 l4
  have kl3 : Keeps zz l3 := by
    unfold l3
    repeat' first
      | with_reducible assumption | with_reducible apply setChan_keeps | (simp only [mk_keeps])
      | with_reducible apply foldl_keeps | split | intro _ _ _ | intro _ _ | extract_lets
      | (dsimp +zetaDelta only)
  clear_value l3
  have kl4 : Keeps zz l4 := by
    unfold l4
    repeat' first
      | with_reducible assumption | with_reducible apply set_keeps | (simp only [mk_keeps])
      | with_reducible apply foldl_keeps | split | intro _ _ _ | intro _ _ | extract_lets
      | (dsimp +zetaDelta only)
  clear_value l4
  repeat' first
    | with_reducible assumption | with_reducible apply set_keeps | (simp only [mk_keeps])
    | with_reducible apply foldl_keeps | split | intro _ _ _ | intro _ _ | extract_lets
    | (dsimp +zetaDelta only)

theorem crossEntry_keeps {zz : State} {n : Nat} {t : Nat} {forward : Bool} {c : Int} {e : Nat} {s : State}
    (hs : Keeps zz s) :
    Keeps zz (crossEntry n t forward c e s) := by
  unfold crossEntry
  extract_lets l0 l1 l2 l3
  repeat' first
    | with_reducible assumption | with_reducible apply setEntry_keeps | (simp only [mk_keeps])
    | with_reducible apply foldl_keeps | split | intro _ _ _ | intro _ _ | extract_lets
    | (dsimp +zetaDelta only)

theorem newLine_keeps {zz : State} {k : Nat} {t : Nat} {s : State}
    (hs : Keeps zz s) :
    Keeps zz (newLine k t s) := by
  unfold newLine
  extract_lets l0 l1
  have kl0 : Keeps zz l0 := by
    unfold l0
    repeat' first
      | with_reducible assumption | with_reducible apply set_keeps | (simp only [mk_keeps])
      | with_reducible apply foldl_keeps | split | intro _ _ _ | intro _ _ | extract_lets
      | (dsimp +zetaDelta only)
  clear_value l0
  repeat' first
    | with_reducible assumption | (simp only [mk_keeps]) | with_reducible apply foldl_keeps | split
    | intro _ _ _ | intro _ _ | extract_lets | (dsimp +zetaDelta only)

theorem setAcc_keeps {zz : State} {a : Int} {s : State}
    (hs : Keeps zz s) :
    Keeps zz (setAcc a s) := by
  unfold setAcc
  extract_lets l0 l1
  repeat' first
    | with_reducible assumption | with_reducible apply set_keeps | (simp only [mk_keeps])
    | with_reducible apply foldl_keeps | split | intro _ _ _ | intro _ _ | extract_lets
    | (dsimp +zetaDelta only)

theorem lineEdge_keeps {zz : State} {n : Nat} {t : Nat} {forward : Bool} {c : Int} {s : State}
    (hs : Keeps zz s) :
    Keeps zz (lineEdge n t forward c s) := by
  unfold lineEdge
  extract_lets l0 l1 l2
  repeat' first
    | with_reducible assumption | with_reducible apply newLine_keeps | with_reducible apply setAcc_keeps
    | (simp only [mk_keeps]) | with_reducible apply foldl_keeps | split | intro _ _ _ | intro _ _
    | extract_lets | (dsimp +zetaDelta only)

theorem countEdge_keeps {zz : State} {n : Nat} {t : Nat} {rev : Bool} {s : State}
    (hs : Keeps zz s) :
    Keeps zz (countEdge n t rev s) := by
  unfold countEdge
  extract_lets l0 l1 l2 l3
  have kl3 : Keeps zz l3 := by
    unfold l3
    repeat' first
      | with_reducible assumption | with_reducible apply setChan_keeps | (simp only [mk_keeps])
      | with_reducible apply foldl_keeps | split | intro _ _ _ | intro _ _ | extract_lets
      | (dsimp +zetaDelta only)
  clear_value l3
  repeat' first
    | with_reducible assumption | with_reducible apply countDir_keeps
    | with_reducible refine countDir_keeps' ?_ (by with_reducible assumption)
    | with_reducible apply pushHist_keeps | with_reducible apply lastEdge_keeps
    | with_reducible apply crossEntry_keeps | with_reducible apply lineEdge_keeps | (simp only [mk_keeps])
    | with_reducible apply foldl_keeps | split | intro _ _ _ | intro _ _ | extract_lets
    | (dsimp +zetaDelta only)

theorem ctrlRsp_keeps {zz : State} {g : Nat} {p : List Nat} {s : State}
    (hs : Keeps zz s) :
    Keeps zz (ctrlRsp g p s) := by
  unfold ctrlRsp
  extract_lets l0 l1 l2
  have kl2 : Keeps zz l2 := by
    unfold l2
    repeat' first
      | with_reducible assumption | with_reducible apply set_keeps | (simp only [mk_keeps])
      | with_reducible apply foldl_keeps | split | intro _ _ _ | intro _ _ | extract_lets
      | (dsimp +zetaDelta only)
  clear_value l2
  repeat' first
    | with_reducible assumption | with_reducible apply endMailbox_keeps | (simp only [mk_keeps])
    | with_reducible apply foldl_keeps | split | intro _ _ _ | intro _ _ | extract_lets
    | (dsimp +zetaDelta only)

theorem rawPush_keeps {zz : State} {ws : List Nat} {s : State}
    (hs : Keeps zz s) :
    Keeps zz (rawPush ws s) := by
  unfold rawPush
  repeat' first
    | with_reducible assumption | with_reducible apply logRun_keeps | with_reducible apply count_keeps
    | with_reducible apply setRaw_keeps | with_reducible apply endRun_keeps | (simp only [mk_keeps])
    | with_reducible apply foldl_keeps | split | intro _ _ _ | intro _ _ | extract_lets
    | (dsimp +zetaDelta only)

theorem rawMsg_keeps {zz : State} {dir : Nat} {p : Nat} {m : List Nat} {stamp : Int} {s : State}
    (hs : Keeps zz s) :
    Keeps zz (rawMsg dir p m stamp s) := by
  unfold rawMsg
  repeat' first
    | with_reducible assumption | with_reducible apply rawPush_keeps | (simp only [mk_keeps])
    | with_reducible apply foldl_keeps | split | intro _ _ _ | intro _ _ | extract_lets
    | (dsimp +zetaDelta only)

theorem delayReqIn_keeps {zz : State} {p : Nat} {stamp : Nat} {m : List Nat} {s : State}
    (hs : Keeps zz s) :
    Keeps zz (delayReqIn p stamp m s) := by
  unfold delayReqIn
  extract_lets l0 l1 l2
  have kl1 : Keeps zz l1 := by
    unfold l1
    repeat' first
      | with_reducible assumption | with_reducible apply rawMsg_keeps | (simp only [mk_keeps])
      | with_reducible apply foldl_keeps | split | intro _ _ _ | intro _ _ | extract_lets
      | (dsimp +zetaDelta only)
  clear_value l1
  repeat' first
    | with_reducible assumption | with_reducible apply ptpSend_keeps | (simp only [mk_keeps])
    | with_reducible apply foldl_keeps | split | intro _ _ _ | intro _ _ | extract_lets
    | (dsimp +zetaDelta only)

theorem delayReqInterval_keeps {zz : State} {stamp : Nat} {s : State}
    (hs : Keeps zz s) :
    Keeps zz (delayReqInterval stamp s) := by
  unfold delayReqInterval
  extract_lets l0 l1 l2 l3 l4
  have kl3 : Keeps zz l3 := by
    unfold l3
    repeat' first
      | with_reducible assumption | with_reducible apply rawMsg_keeps | with_reducible apply ptpSend_keeps
      | (simp only [mk_keeps]) | with_reducible apply foldl_keeps | split | intro _ _ _ | intro _ _
      | extract_lets | (dsimp +zetaDelta only)
  clear_value l3
  repeat' first
    | with_reducible assumption | (simp only [mk_keeps]) | with_reducible apply foldl_keeps | split
    | intro _ _ _ | intro _ _ | extract_lets | (dsimp +zetaDelta only)

theorem delayRespIn_keeps {zz : State} {p : Nat} {m : List Nat} {s : State}
    (hs : Keeps zz s) :
    Keeps zz (delayRespIn p m s) := by
  unfold delayRespIn
  extract_lets l0 l1 l2
  have kl0 : Keeps zz l0 := by
    unfold l0
    repeat' first
      | with_reducible assumption | with_reducible apply rawMsg_keeps | (simp only [mk_keeps])
      | with_reducible apply foldl_keeps | split | intro _ _ _ | intro _ _ | extract_lets
      | (dsimp +zetaDelta only)
  clear_value l0
  repeat' first
    | with_reducible assumption | with_reducible apply set_keeps | (simp only [mk_keeps])
    | with_reducible apply foldl_keeps | split | intro _ _ _ | intro _ _ | extract_lets
    | (dsimp +zetaDelta only)

theorem rateCheck_keeps {zz : State} {q : Picture} {bits : Nat} {s : State}
    (hs : Keeps zz s) :
    Keeps zz (rateCheck q bits s) := by
  unfold rateCheck
  extract_lets l0 l1 l2 l3
  try (have kl0 : Keeps zz l0 := by
        unfold l0
        repeat' first
          | with_reducible assumption | (simp only [mk_keeps]) | with_reducible apply foldl_keeps | split
          | intro _ _ _ | intro _ _ | extract_lets | (dsimp +zetaDelta only))
  clear_value l0
  repeat' first
    | with_reducible assumption | with_reducible apply log_keeps | with_reducible apply setVctx_keeps
    | (simp only [mk_keeps]) | with_reducible apply foldl_keeps | split | intro _ _ _ | intro _ _
    | extract_lets | (dsimp +zetaDelta only)

theorem deliverUnit_keeps {zz : State} {q : Picture} {s : State}
    (hs : Keeps zz s) :
    Keeps zz (deliverUnit q s) := by
  unfold deliverUnit
  extract_lets l0 l1 l2 l3 l4 l5 l6 l7 l8 l9 l10 l11 l12 l13 l14
  have kl9 : Keeps zz l9 := by
    unfold l9
    repeat' first
      | with_reducible assumption | with_reducible apply createItem_keeps | (simp only [mk_keeps])
      | with_reducible apply foldl_keeps | split | intro _ _ _ | intro _ _ | extract_lets
      | (dsimp +zetaDelta only)
  clear_value l9
  have kl11 : Keeps zz l11 := by
    unfold l11
    repeat' first
      | with_reducible assumption | with_reducible apply setVctx_keeps | (simp only [mk_keeps])
      | with_reducible apply foldl_keeps | split | intro _ _ _ | intro _ _ | extract_lets
      | (dsimp +zetaDelta only)
  clear_value l11
  have kl13 : Keeps zz l13 := by
    unfold l13
    repeat' first
      | with_reducible assumption | (simp only [mk_keeps]) | with_reducible apply foldl_keeps | split
      | intro _ _ _ | intro _ _ | extract_lets | (dsimp +zetaDelta only)
  clear_value l13
  have kl14 : Keeps zz l14 := by
    unfold l14
    repeat' first
      | with_reducible assumption | with_reducible apply set_keeps | with_reducible apply count_keeps
      | (simp only [mk_keeps]) | with_reducible apply foldl_keeps | split | intro _ _ _ | intro _ _
      | extract_lets | (dsimp +zetaDelta only)
  clear_value l14
  repeat' first
    | with_reducible assumption | with_reducible apply setSlots_keeps | with_reducible apply rateCheck_keeps
    | with_reducible apply fire_keeps | (simp only [mk_keeps]) | with_reducible apply foldl_keeps | split
    | intro _ _ _ | intro _ _ | extract_lets | (dsimp +zetaDelta only)

theorem disagreeEnd_keeps {zz : State} {n : Nat} {k : Nat} {s : State}
    (hs : Keeps zz s) :
    Keeps zz (disagreeEnd n k s) := by
  unfold disagreeEnd
  extract_lets l0
  repeat' first
    | with_reducible assumption | with_reducible apply setChan_keeps | (simp only [mk_keeps])
    | with_reducible apply foldl_keeps | split | intro _ _ _ | intro _ _ | extract_lets
    | (dsimp +zetaDelta only)

theorem discReceived_keeps {zz : State} {g : Nat} {p : List Nat} {s : State}
    (hs : Keeps zz s) :
    Keeps zz (discReceived g p s) := by
  unfold discReceived
  extract_lets l0 l1 l2 l3 l4 l5 l6 l7
  have kl0 : Keeps zz l0 := by
    unfold l0
    repeat' first
      | with_reducible assumption | with_reducible apply log_keeps | with_reducible apply closeGroup_keeps
      | (simp only [mk_keeps]) | with_reducible apply foldl_keeps | split | intro _ _ _ | intro _ _
      | extract_lets | (dsimp +zetaDelta only)
  clear_value l0
  have kl1 : Keeps zz l1 := by
    unfold l1
    repeat' first
      | with_reducible assumption | with_reducible apply set_keeps | (simp only [mk_keeps])
      | with_reducible apply foldl_keeps | split | intro _ _ _ | intro _ _ | extract_lets
      | (dsimp +zetaDelta only)
  clear_value l1
  have kl2 : Keeps zz l2 := by
    unfold l2
    repeat' first
      | with_reducible assumption | with_reducible apply set_keeps | (simp only [mk_keeps])
      | with_reducible apply foldl_keeps | split | intro _ _ _ | intro _ _ | extract_lets
      | (dsimp +zetaDelta only)
  clear_value l2
  have kl3 : Keeps zz l3 := by
    unfold l3
    repeat' first
      | with_reducible assumption | with_reducible apply set_keeps | (simp only [mk_keeps])
      | with_reducible apply foldl_keeps | split | intro _ _ _ | intro _ _ | extract_lets
      | (dsimp +zetaDelta only)
  clear_value l3
  have kl4 : Keeps zz l4 := by
    unfold l4
    repeat' first
      | with_reducible assumption | with_reducible apply set_keeps | with_reducible apply clearReliable_keeps
      | (simp only [mk_keeps]) | with_reducible apply foldl_keeps | split | intro _ _ _ | intro _ _
      | extract_lets | (dsimp +zetaDelta only)
  clear_value l4
  have kl6 : Keeps zz l6 := by
    unfold l6
    repeat' first
      | with_reducible assumption | with_reducible apply setGroup_keeps | (simp only [mk_keeps])
      | with_reducible apply foldl_keeps | split | intro _ _ _ | intro _ _ | extract_lets
      | (dsimp +zetaDelta only)
  clear_value l6
  have kl7 : Keeps zz l7 := by
    unfold l7
    repeat' first
      | with_reducible assumption | with_reducible apply set_keeps | (simp only [mk_keeps])
      | with_reducible apply foldl_keeps | split | intro _ _ _ | intro _ _ | extract_lets
      | (dsimp +zetaDelta only)
  clear_value l7
  repeat' first
    | with_reducible assumption | with_reducible apply fire_keeps | (simp only [mk_keeps])
    | with_reducible apply foldl_keeps | split | intro _ _ _ | intro _ _ | extract_lets
    | (dsimp +zetaDelta only)

theorem discardCount_keeps {zz : State} {n : Nat} {rev : Bool} {s : State}
    (hs : Keeps zz s) :
    Keeps zz (discardCount n rev s) := by
  unfold discardCount
  extract_lets l0
  repeat' first
    | with_reducible assumption | with_reducible apply setChan_keeps | (simp only [mk_keeps])
    | with_reducible apply foldl_keeps | split | intro _ _ _ | intro _ _ | extract_lets
    | (dsimp +zetaDelta only)

theorem discardPkt_keeps {zz : State} {s : State}
    (hs : Keeps zz s) :
    Keeps zz (discardPkt s) := by
  unfold discardPkt
  repeat' first
    | with_reducible assumption | with_reducible apply count_keeps | (simp only [mk_keeps])
    | with_reducible apply foldl_keeps | split | intro _ _ _ | intro _ _ | extract_lets
    | (dsimp +zetaDelta only)

theorem dischargeEnd_keeps {zz : State} {a : Nat} {s : State}
    (hs : Keeps zz s) :
    Keeps zz (dischargeEnd a s) := by
  unfold dischargeEnd
  extract_lets l0
  repeat' first
    | with_reducible assumption | with_reducible apply setAnalog_keeps | (simp only [mk_keeps])
    | with_reducible apply foldl_keeps | split | intro _ _ _ | intro _ _ | extract_lets
    | (dsimp +zetaDelta only)

theorem setFound_keeps {zz : State} {f : Nat} {s : State}
    (hs : Keeps zz s) :
    Keeps zz (setFound f s) := by
  unfold setFound
  extract_lets l0
  have kl0 : Keeps zz l0 := by
    unfold l0
    repeat' first
      | with_reducible assumption | with_reducible apply set_keeps | (simp only [mk_keeps])
      | with_reducible apply foldl_keeps | split | intro _ _ _ | intro _ _ | extract_lets
      | (dsimp +zetaDelta only)
  clear_value l0
  repeat' first
    | with_reducible assumption | with_reducible apply set_keeps | (simp only [mk_keeps])
    | with_reducible apply foldl_keeps | split | intro _ _ _ | intro _ _ | extract_lets
    | (dsimp +zetaDelta only)

theorem measureTref_keeps {zz : State} {edges : Nat} {x1 : State}
    (hx1 : Keeps zz x1) :
    Keeps zz (measureTref edges x1).2 := by
  unfold measureTref
  extract_lets l0 l1 l2 l3
  have kl0 : Keeps zz l0 := by
    unfold l0
    repeat' first
      | with_reducible assumption | with_reducible apply set_keeps | (simp only [mk_keeps])
      | with_reducible apply foldl_keeps | split | intro _ _ _ | intro _ _ | extract_lets
      | (dsimp +zetaDelta only)
  clear_value l0
  repeat' first
    | with_reducible assumption | with_reducible apply endRun_keeps | with_reducible apply setFound_keeps
    | with_reducible apply logRun_keeps | (simp only [mk_keeps]) | with_reducible apply foldl_keeps | split
    | intro _ _ _ | intro _ _ | extract_lets | (dsimp +zetaDelta only)

theorem measureTref_keeps' {zz t : State} {edges : Nat} {x1 : State} {q}
    (hx1 : Keeps zz x1) (e : (measureTref edges x1) = (q, t)) :
    Keeps zz t := by
  have := measureTref_keeps (edges := edges) (x1 := x1) hx1
  rw [e] at this
  exact this

theorem timeRelease_keeps {zz : State} {s : State}
    (hs : Keeps zz s) :
    Keeps zz (timeRelease s) := by
  unfold timeRelease
  extract_lets l0 l1
  have kl1 : Keeps zz l1 := by
    unfold l1
    repeat' first
      | with_reducible assumption | (simp only [mk_keeps]) | with_reducible apply foldl_keeps | split
      | intro _ _ _ | intro _ _ | extract_lets | (dsimp +zetaDelta only)
  clear_value l1
  repeat' first
    | with_reducible assumption | with_reducible apply requestEpoch_keeps | with_reducible apply endRun_keeps
    | with_reducible apply setLock_keeps | with_reducible apply usePll_keeps | (simp only [mk_keeps])
    | with_reducible apply foldl_keeps | split | intro _ _ _ | intro _ _ | extract_lets
    | (dsimp +zetaDelta only)

theorem tryTime_keeps {zz : State} {edges : Nat} {locked : Bool} {s : State}
    (hs : Keeps zz s) :
    Keeps zz (tryTime edges locked s) := by
  unfold tryTime
  repeat' first
    | with_reducible assumption | with_reducible apply measureTref_keeps
    | with_reducible refine measureTref_keeps' ?_ (by with_reducible assumption)
    | with_reducible apply timeRelease_keeps | (simp only [mk_keeps]) | with_reducible apply foldl_keeps
    | split | intro _ _ _ | intro _ _ | extract_lets | (dsimp +zetaDelta only)

theorem venClockRelease_keeps {zz : State} {s : State}
    (hs : Keeps zz s) :
    Keeps zz (venClockRelease s) := by
  unfold venClockRelease
  extract_lets l0 l1
  have kl1 : Keeps zz l1 := by
    unfold l1
    repeat' first
      | with_reducible assumption | (simp only [mk_keeps]) | with_reducible apply foldl_keeps | split
      | intro _ _ _ | intro _ _ | extract_lets | (dsimp +zetaDelta only)
  clear_value l1
  repeat' first
    | with_reducible assumption | with_reducible apply set_keeps | (simp only [mk_keeps])
    | with_reducible apply foldl_keeps | split | intro _ _ _ | intro _ _ | extract_lets
    | (dsimp +zetaDelta only)

theorem vencRelease_keeps {zz : State} {s : State}
    (hs : Keeps zz s) :
    Keeps zz (vencRelease s) := by
  unfold vencRelease
  repeat' first
    | with_reducible assumption | with_reducible apply venClockRelease_keeps
    | with_reducible apply setLock_keeps | with_reducible apply usePll_keeps | (simp only [mk_keeps])
    | with_reducible apply foldl_keeps | split | intro _ _ _ | intro _ _ | extract_lets
    | (dsimp +zetaDelta only)

theorem domainRelease_keeps {zz : State} {d : Domain} {edges : Nat} {s : State}
    (hs : Keeps zz s) :
    Keeps zz (domainRelease d edges s) := by
  unfold domainRelease
  repeat' first
    | with_reducible assumption | with_reducible apply cfgRelease_keeps
    | with_reducible apply coreRelease_keeps | with_reducible apply tryTime_keeps
    | with_reducible apply vencRelease_keeps | (simp only [mk_keeps]) | with_reducible apply foldl_keeps
    | split | intro _ _ _ | intro _ _ | extract_lets | (dsimp +zetaDelta only)

theorem drainComplete_keeps {zz : State} {s : State}
    (hs : Keeps zz s) :
    Keeps zz (drainComplete s) := by
  unfold drainComplete
  extract_lets l0 l1
  have kl0 : Keeps zz l0 := by
    unfold l0
    repeat' first
      | with_reducible assumption | with_reducible apply set_keeps | (simp only [mk_keeps])
      | with_reducible apply foldl_keeps | split | intro _ _ _ | intro _ _ | extract_lets
      | (dsimp +zetaDelta only)
  clear_value l0
  repeat' first
    | with_reducible assumption | (simp only [mk_keeps]) | with_reducible apply foldl_keeps | split
    | intro _ _ _ | intro _ _ | extract_lets | (dsimp +zetaDelta only)

theorem duePing_keeps {zz : State} {s : State}
    (hs : Keeps zz s) :
    Keeps zz (duePing s) := by
  unfold duePing
  repeat' first
    | with_reducible assumption | with_reducible apply setGroup_keeps | (simp only [mk_keeps])
    | with_reducible apply foldl_keeps | split | intro _ _ _ | intro _ _ | extract_lets
    | (dsimp +zetaDelta only)

theorem dueTime_keeps {zz : State} {step : Bool} {s : State}
    (hs : Keeps zz s) :
    Keeps zz (dueTime step s) := by
  unfold dueTime
  repeat' first
    | with_reducible assumption | with_reducible apply setGroup_keeps | (simp only [mk_keeps])
    | with_reducible apply foldl_keeps | split | intro _ _ _ | intro _ _ | extract_lets
    | (dsimp +zetaDelta only)

theorem echoReceived_keeps {zz : State} {g : Nat} {p : List Nat} {s : State}
    (hs : Keeps zz s) :
    Keeps zz (echoReceived g p s) := by
  unfold echoReceived
  extract_lets l0
  repeat' first
    | with_reducible assumption | with_reducible apply setGroup_keeps | with_reducible apply set_keeps
    | (simp only [mk_keeps]) | with_reducible apply foldl_keeps | split | intro _ _ _ | intro _ _
    | extract_lets | (dsimp +zetaDelta only)

theorem enterBond_keeps {zz : State} {n : Nat} {s : State}
    (hs : Keeps zz s) :
    Keeps zz (enterBond n s) := by
  unfold enterBond
  extract_lets l0 l1
  have kl0 : Keeps zz l0 := by
    unfold l0
    repeat' first
      | with_reducible assumption | with_reducible apply set_keeps | with_reducible apply enterLane_keeps
      | (simp only [mk_keeps]) | with_reducible apply foldl_keeps | split | intro _ _ _ | intro _ _
      | extract_lets | (dsimp +zetaDelta only)
  clear_value l0
  repeat' first
    | with_reducible assumption | with_reducible apply bondLane_keeps | with_reducible apply setLane_keeps
    | (simp only [mk_keeps]) | with_reducible apply foldl_keeps | split | intro _ _ _ | intro _ _
    | extract_lets | (dsimp +zetaDelta only)

theorem ringTooth_keeps {zz : State} {w : Nat} {s : State}
    (hs : Keeps zz s) :
    Keeps zz (ringTooth w s) := by
  unfold ringTooth
  extract_lets l0
  repeat' first
    | with_reducible assumption | with_reducible apply setWheel_keeps | (simp only [mk_keeps])
    | with_reducible apply foldl_keeps | split | intro _ _ _ | intro _ _ | extract_lets
    | (dsimp +zetaDelta only)

theorem goodGap_keeps {zz : State} {w : Nat} {t : Nat} {s : State}
    (hs : Keeps zz s) :
    Keeps zz (goodGap w t s) := by
  unfold goodGap
  extract_lets l0 l1 l2
  have kl1 : Keeps zz l1 := by
    unfold l1
    repeat' first
      | with_reducible assumption | with_reducible apply set_keeps | (simp only [mk_keeps])
      | with_reducible apply foldl_keeps | split | intro _ _ _ | intro _ _ | extract_lets
      | (dsimp +zetaDelta only)
  clear_value l1
  repeat' first
    | with_reducible assumption | with_reducible apply setWheel_keeps | (simp only [mk_keeps])
    | with_reducible apply foldl_keeps | split | intro _ _ _ | intro _ _ | extract_lets
    | (dsimp +zetaDelta only)

theorem takeZero_keeps {zz : State} {w : Nat} {s : State}
    (hs : Keeps zz s) :
    Keeps zz (takeZero w s) := by
  unfold takeZero
  extract_lets l0 l1 l2
  have kl2 : Keeps zz l2 := by
    unfold l2
    repeat' first
      | with_reducible assumption | with_reducible apply setWheel_keeps | (simp only [mk_keeps])
      | with_reducible apply foldl_keeps | split | intro _ _ _ | intro _ _ | extract_lets
      | (dsimp +zetaDelta only)
  clear_value l2
  repeat' first
    | with_reducible assumption | with_reducible apply setEntry_keeps | (simp only [mk_keeps])
    | with_reducible apply foldl_keeps | split | intro _ _ _ | intro _ _ | extract_lets
    | (dsimp +zetaDelta only)

theorem enterSync_keeps {zz : State} {w : Nat} {t : Nat} {s : State}
    (hs : Keeps zz s) :
    Keeps zz (enterSync w t s) := by
  unfold enterSync
  extract_lets l0 l1 l2 l3
  have kl1 : Keeps zz l1 := by
    unfold l1
    repeat' first
      | with_reducible assumption | with_reducible apply setWheel_keeps | (simp only [mk_keeps])
      | with_reducible apply foldl_keeps | split | intro _ _ _ | intro _ _ | extract_lets
      | (dsimp +zetaDelta only)
  clear_value l1
  have kl2 : Keeps zz l2 := by
    unfold l2
    repeat' first
      | with_reducible assumption | with_reducible apply set_keeps | (simp only [mk_keeps])
      | with_reducible apply foldl_keeps | split | intro _ _ _ | intro _ _ | extract_lets
      | (dsimp +zetaDelta only)
  clear_value l2
  have kl3 : Keeps zz l3 := by
    unfold l3
    repeat' first
      | with_reducible assumption | with_reducible apply log_keeps | with_reducible apply fire_keeps
      | with_reducible apply ringTooth_keeps | with_reducible apply goodGap_keeps
      | with_reducible apply takeZero_keeps | (simp only [mk_keeps]) | with_reducible apply foldl_keeps
      | split | intro _ _ _ | intro _ _ | extract_lets | (dsimp +zetaDelta only)
  clear_value l3
  repeat' first
    | with_reducible assumption | with_reducible apply angleTeeth_keeps | (simp only [mk_keeps])
    | with_reducible apply foldl_keeps | split | intro _ _ _ | intro _ _ | extract_lets
    | (dsimp +zetaDelta only)

theorem enumEndIn_keeps {zz : State} {p : Nat} {f : List Nat} {s : State}
    (hs : Keeps zz s) :
    Keeps zz (enumEndIn p f s) := by
  unfold enumEndIn
  extract_lets l0 l1 l2
  have kl2 : Keeps zz l2 := by
    unfold l2
    repeat' first
      | with_reducible assumption | (simp only [mk_keeps]) | with_reducible apply foldl_keeps | split
      | intro _ _ _ | intro _ _ | extract_lets | (dsimp +zetaDelta only)
  clear_value l2
  repeat' first
    | with_reducible assumption | with_reducible apply enumOut_keeps | with_reducible apply enterRun_keeps
    | (simp only [mk_keeps]) | with_reducible apply foldl_keeps | split | intro _ _ _ | intro _ _
    | extract_lets | (dsimp +zetaDelta only)

theorem enumEndOut_keeps {zz : State} {p : Nat} {last : Nat} {s : State}
    (hs : Keeps zz s) :
    Keeps zz (enumEndOut p last s) := by
  unfold enumEndOut
  repeat' first
    | with_reducible assumption | with_reducible apply free_keeps
    | with_reducible refine free_keeps' ?_ (by with_reducible assumption) | with_reducible apply sendOn_keeps
    | (simp only [mk_keeps]) | with_reducible apply foldl_keeps | split | intro _ _ _ | intro _ _
    | extract_lets | (dsimp +zetaDelta only)

theorem enumIn_keeps {zz : State} {p : Nat} {f : List Nat} {s : State}
    (hs : Keeps zz s) :
    Keeps zz (enumIn p f s) := by
  unfold enumIn
  extract_lets l0 l1 l2 l3 l4
  have kl4 : Keeps zz l4 := by
    unfold l4
    repeat' first
      | with_reducible assumption | with_reducible apply takeId_keeps | (simp only [mk_keeps])
      | with_reducible apply foldl_keeps | split | intro _ _ _ | intro _ _ | extract_lets
      | (dsimp +zetaDelta only)
  clear_value l4
  repeat' first
    | with_reducible assumption | with_reducible apply enumOut_keeps | with_reducible apply enumEndOut_keeps
    | (simp only [mk_keeps]) | with_reducible apply foldl_keeps | split | intro _ _ _ | intro _ _
    | extract_lets | (dsimp +zetaDelta only)

theorem enumTimeout_keeps {zz : State} {s : State}
    (hs : Keeps zz s) :
    Keeps zz (enumTimeout s) := by
  unfold enumTimeout
  repeat' first
    | with_reducible assumption | with_reducible apply enterRun_keeps | (simp only [mk_keeps])
    | with_reducible apply foldl_keeps | split | intro _ _ _ | intro _ _ | extract_lets
    | (dsimp +zetaDelta only)

theorem equalizeDone_keeps {zz : State} {n : Nat} {s : State}
    (hs : Keeps zz s) :
    Keeps zz (equalizeDone n s) := by
  unfold equalizeDone
  extract_lets l0 l1
  repeat' first
    | with_reducible assumption | with_reducible apply setLane_keeps | with_reducible apply set_keeps
    | with_reducible apply startDetect_keeps | with_reducible apply enterBond_keeps | (simp only [mk_keeps])
    | with_reducible apply foldl_keeps | split | intro _ _ _ | intro _ _ | extract_lets
    | (dsimp +zetaDelta only)

theorem errorTagWrite_keeps {zz : State} {q : Nat} {s : State}
    (hs : Keeps zz s) :
    Keeps zz (errorTagWrite q s) := by
  unfold errorTagWrite
  extract_lets l0
  repeat' first
    | with_reducible assumption | with_reducible apply promote_keeps | with_reducible apply errorTag_keeps
    | with_reducible apply setQueue_keeps | with_reducible apply fetchDescs_keeps | (simp only [mk_keeps])
    | with_reducible apply foldl_keeps | split | intro _ _ _ | intro _ _ | extract_lets
    | (dsimp +zetaDelta only)

theorem positionAt_keeps {zz : State} {n : Nat} {m2 : Nat} {st : Nat} {s : State}
    (hs : Keeps zz s) :
    Keeps zz (positionAt n m2 st s).2 := by
  unfold positionAt
  extract_lets l0 l1 l2
  repeat' first
    | with_reducible assumption | with_reducible apply logSec_keeps | with_reducible apply posFault_keeps
    | (simp only [mk_keeps]) | with_reducible apply foldl_keeps | split | intro _ _ _ | intro _ _
    | extract_lets | (dsimp +zetaDelta only)

theorem positionAt_keeps' {zz t : State} {n : Nat} {m2 : Nat} {st : Nat} {s : State} {q}
    (hs : Keeps zz s) (e : (positionAt n m2 st s) = (q, t)) :
    Keeps zz t := by
  have := positionAt_keeps (n := n) (m2 := m2) (st := st) (s := s) hs
  rw [e] at this
  exact this

theorem evalPosition_keeps {zz : State} {st : Nat} {seq : Nat} {m2 : Nat} {s : State}
    (hs : Keeps zz s) :
    Keeps zz (evalPosition st seq m2 s).2 := by
  unfold evalPosition
  extract_lets l0 l1 l2 l3
  repeat' first
    | with_reducible assumption | with_reducible apply positionAt_keeps
    | with_reducible refine positionAt_keeps' ?_ (by with_reducible assumption) | (simp only [mk_keeps])
    | with_reducible apply foldl_keeps | split | intro _ _ _ | intro _ _ | extract_lets
    | (dsimp +zetaDelta only)

theorem evalPosition_keeps' {zz t : State} {st : Nat} {seq : Nat} {m2 : Nat} {s : State} {q}
    (hs : Keeps zz s) (e : (evalPosition st seq m2 s) = (q, t)) :
    Keeps zz t := by
  have := evalPosition_keeps (st := st) (seq := seq) (m2 := m2) (s := s) hs
  rw [e] at this
  exact this

theorem showEvent_keeps {zz : State} {e : RingEvent} {s : State}
    (hs : Keeps zz s) :
    Keeps zz (showEvent e s) := by
  unfold showEvent
  extract_lets l0 l1
  repeat' first
    | with_reducible assumption | with_reducible apply wrWords_keeps | (simp only [mk_keeps])
    | with_reducible apply foldl_keeps | split | intro _ _ _ | intro _ _ | extract_lets
    | (dsimp +zetaDelta only)

theorem eventIn_keeps {zz : State} {p : Nat} {f : List Nat} {s : State}
    (hs : Keeps zz s) :
    Keeps zz (eventIn p f s) := by
  unfold eventIn
  extract_lets l0 l1
  repeat' first
    | with_reducible assumption | with_reducible apply scheduleEvent_keeps
    | with_reducible apply showEvent_keeps | with_reducible apply count_keeps | (simp only [mk_keeps])
    | with_reducible apply foldl_keeps | split | intro _ _ _ | intro _ _ | extract_lets
    | (dsimp +zetaDelta only)

theorem eventPresent_keeps {zz : State} {s : State}
    (hs : Keeps zz s) :
    Keeps zz (eventPresent s) := by
  unfold eventPresent
  extract_lets l0 l1 l2
  repeat' first
    | with_reducible assumption | with_reducible apply presentNums_keeps | (simp only [mk_keeps])
    | with_reducible apply foldl_keeps | split | intro _ _ _ | intro _ _ | extract_lets
    | (dsimp +zetaDelta only)

theorem evlastRead_keeps {zz : State} {s : State}
    (hs : Keeps zz s) :
    Keeps zz (evlastRead s) := by
  unfold evlastRead
  repeat' first
    | with_reducible assumption | with_reducible apply set_keeps | (simp only [mk_keeps])
    | with_reducible apply foldl_keeps | split | intro _ _ _ | intro _ _ | extract_lets
    | (dsimp +zetaDelta only)

theorem onLane_keeps {zz : State} {n : Nat} {f : State → State} {s : State}
    (hf : ∀ a0, Keeps zz a0 → Keeps zz (f a0)) (hs : Keeps zz s) :
    Keeps zz (onLane n f s) := by
  unfold onLane
  repeat' first
    | with_reducible assumption | (simp only [mk_keeps]) | with_reducible apply foldl_keeps | split
    | with_reducible apply hf | intro _ _ _ | intro _ _ | extract_lets | (dsimp +zetaDelta only)

theorem execAckDelayTimeout_keeps {zz : State} {g : Fin 16} {s : State}
    (hs : Keeps zz s) :
    KeepsOut zz (execAckDelayTimeout g s) := by
  unfold execAckDelayTimeout
  refine keepsOut_next ?_
  repeat' first
    | with_reducible assumption | with_reducible apply onLane_keeps | with_reducible apply ackDelay_keeps
    | (simp only [mk_keeps]) | with_reducible apply foldl_keeps | split | intro _ _ _ | intro _ _
    | extract_lets | (dsimp +zetaDelta only)

theorem takePacket_keeps {zz : State} {g : Nat} {ty : Nat} {p : List Nat} {f : State → State} {s : State}
    (hf : ∀ a0, Keeps zz a0 → Keeps zz (f a0)) (hs : Keeps zz s) :
    Keeps zz (takePacket g ty p f s) := by
  unfold takePacket
  extract_lets l0
  repeat' first
    | with_reducible assumption | with_reducible apply askReplay_keeps | with_reducible apply count_keeps
    | with_reducible apply free_keeps | with_reducible refine free_keeps' ?_ (by with_reducible assumption)
    | with_reducible apply logSec_keeps | (simp only [mk_keeps]) | with_reducible apply foldl_keeps | split
    | with_reducible apply hf | intro _ _ _ | intro _ _ | extract_lets | (dsimp +zetaDelta only)

theorem execAckReceived_keeps {zz : State} {g : Fin 16} {p : List Byte} {s : State}
    (hs : Keeps zz s) :
    KeepsOut zz (execAckReceived g p s) := by
  unfold execAckReceived
  refine keepsOut_next ?_
  repeat' first
    | with_reducible assumption | with_reducible apply onLane_keeps | with_reducible apply takePacket_keeps
    | with_reducible apply acknowledge_keeps
    | with_reducible refine acknowledge_keeps' ?_ (by with_reducible assumption) | (simp only [mk_keeps])
    | with_reducible apply foldl_keeps | split | intro _ _ _ | intro _ _ | extract_lets
    | (dsimp +zetaDelta only)

theorem regWrite_keeps {zz : State} {a : Nat} {v : Nat} {s : State}
    (hs : Keeps zz s) :
    Keeps zz (regWrite a v s) := by
  unfold regWrite
  repeat' first
    | with_reducible assumption | with_reducible apply hostGate_keeps | with_reducible apply regOp_keeps
    | (simp only [mk_keeps]) | with_reducible apply foldl_keeps | split | intro _ _ _ | intro _ _
    | extract_lets | (dsimp +zetaDelta only)

theorem execAdjWrite_keeps {zz : State} {v : Word} {s : State}
    (hs : Keeps zz s) :
    KeepsOut zz (execAdjWrite v s) := by
  unfold execAdjWrite
  refine keepsOut_next ?_
  repeat' first
    | with_reducible assumption | with_reducible apply regWrite_keeps | (simp only [mk_keeps])
    | with_reducible apply foldl_keeps | split | intro _ _ _ | intro _ _ | extract_lets
    | (dsimp +zetaDelta only)

theorem execAenaWrite_keeps {zz : State} {v : Word} {s : State}
    (hs : Keeps zz s) :
    KeepsOut zz (execAenaWrite v s) := by
  unfold execAenaWrite
  refine keepsOut_next ?_
  repeat' first
    | with_reducible assumption | with_reducible apply regWrite_keeps | (simp only [mk_keeps])
    | with_reducible apply foldl_keeps | split | intro _ _ _ | intro _ _ | extract_lets
    | (dsimp +zetaDelta only)

theorem execAlignReceived_keeps {zz : State} {g : Fin 16} {row : List AlignBlk} {s : State}
    (hs : Keeps zz s) :
    KeepsOut zz (execAlignReceived g row s) := by
  unfold execAlignReceived
  refine keepsOut_next ?_
  repeat' first
    | with_reducible assumption | with_reducible apply onLane_keeps | with_reducible apply alignReceived_keeps
    | (simp only [mk_keeps]) | with_reducible apply foldl_keeps | split | intro _ _ _ | intro _ _
    | extract_lets | (dsimp +zetaDelta only)

theorem execAlignRowSend_keeps {zz : State} {g : Fin 16} {s : State}
    (hs : Keeps zz s) :
    KeepsOut zz (execAlignRowSend g s) := by
  unfold execAlignRowSend
  refine keepsOut_next ?_
  repeat' first
    | with_reducible assumption | with_reducible apply onLane_keeps | with_reducible apply alignSend_keeps
    | (simp only [mk_keeps]) | with_reducible apply foldl_keeps | split | intro _ _ _ | intro _ _
    | extract_lets | (dsimp +zetaDelta only)

theorem execAngleTagEval_keeps {zz : State} {st : Fin 64} {due : Bool} {s : State}
    (hs : Keeps zz s) :
    KeepsOut zz (execAngleTagEval st due s) := by
  unfold execAngleTagEval
  refine keepsOut_next ?_
  repeat' first
    | with_reducible assumption | with_reducible apply angleTagEval_keeps | (simp only [mk_keeps])
    | with_reducible apply foldl_keeps | split | intro _ _ _ | intro _ _ | extract_lets
    | (dsimp +zetaDelta only)

theorem execAnnounceInterval_keeps {zz : State} {s : State}
    (hs : Keeps zz s) :
    KeepsOut zz (execAnnounceInterval s) := by
  unfold execAnnounceInterval
  refine keepsOut_next ?_
  repeat' first
    | with_reducible assumption | with_reducible apply announceInterval_keeps | (simp only [mk_keeps])
    | with_reducible apply foldl_keeps | split | intro _ _ _ | intro _ _ | extract_lets
    | (dsimp +zetaDelta only)

theorem ptpTake_keeps {zz : State} {p : Nat} {ty : Nat} {f : List Nat} {act : List Nat → State → State} {s : State}
    (hact : ∀ a0 a1, Keeps zz a1 → Keeps zz (act a0 a1)) (hs : Keeps zz s) :
    Keeps zz (ptpTake p ty f act s) := by
  unfold ptpTake
  extract_lets l0
  repeat' first
    | with_reducible assumption | with_reducible apply count_keeps | (simp only [mk_keeps])
    | with_reducible apply foldl_keeps | split | with_reducible apply hact | intro _ _ _ | intro _ _
    | extract_lets | (dsimp +zetaDelta only)

theorem execAnnounceReceived_keeps {zz : State} {p : Fin 2} {f : List Byte} {s : State}
    (hs : Keeps zz s) :
    KeepsOut zz (execAnnounceReceived p f s) := by
  unfold execAnnounceReceived
  refine keepsOut_next ?_
  repeat' first
    | with_reducible assumption | with_reducible apply ptpTake_keeps | with_reducible apply announce_keeps
    | (simp only [mk_keeps]) | with_reducible apply foldl_keeps | split | intro _ _ _ | intro _ _
    | extract_lets | (dsimp +zetaDelta only)

theorem execAoutFault_keeps {zz : State} {a : Fin 4} {compliance : Bool} {s : State}
    (hs : Keeps zz s) :
    KeepsOut zz (execAoutFault a compliance s) := by
  unfold execAoutFault
  refine keepsOut_next ?_
  repeat' first
    | with_reducible assumption | with_reducible apply analogFault_keeps | (simp only [mk_keeps])
    | with_reducible apply foldl_keeps | split | intro _ _ _ | intro _ _ | extract_lets
    | (dsimp +zetaDelta only)

theorem execAoutFaultClear_keeps {zz : State} {a : Fin 4} {compliance : Bool} {s : State}
    (hs : Keeps zz s) :
    KeepsOut zz (execAoutFaultClear a compliance s) := by
  unfold execAoutFaultClear
  refine keepsOut_next ?_
  repeat' first
    | with_reducible assumption | with_reducible apply analogFaultClear_keeps | (simp only [mk_keeps])
    | with_reducible apply foldl_keeps | split | intro _ _ _ | intro _ _ | extract_lets
    | (dsimp +zetaDelta only)

theorem execArngWrite_keeps {zz : State} {a : Fin 4} {v : Word} {s : State}
    (hs : Keeps zz s) :
    KeepsOut zz (execArngWrite a v s) := by
  unfold execArngWrite
  refine keepsOut_next ?_
  repeat' first
    | with_reducible assumption | with_reducible apply regWrite_keeps | (simp only [mk_keeps])
    | with_reducible apply foldl_keeps | split | intro _ _ _ | intro _ _ | extract_lets
    | (dsimp +zetaDelta only)

theorem execAssignReceived_keeps {zz : State} {p : Fin 2} {f : List Byte} {s : State}
    (hs : Keeps zz s) :
    KeepsOut zz (execAssignReceived p f s) := by
  unfold execAssignReceived
  refine keepsOut_next ?_
  repeat' first
    | with_reducible assumption | with_reducible apply assignIn_keeps | (simp only [mk_keeps])
    | with_reducible apply foldl_keeps | split | intro _ _ _ | intro _ _ | extract_lets
    | (dsimp +zetaDelta only)

theorem execAvalWrite_keeps {zz : State} {a : Fin 4} {v : Word} {s : State}
    (hs : Keeps zz s) :
    KeepsOut zz (execAvalWrite a v s) := by
  unfold execAvalWrite
  refine keepsOut_next ?_
  repeat' first
    | with_reducible assumption | with_reducible apply regWrite_keeps | (simp only [mk_keeps])
    | with_reducible apply foldl_keeps | split | intro _ _ _ | intro _ _ | extract_lets
    | (dsimp +zetaDelta only)

theorem execBackoffEarlyExit_keeps {zz : State} {n : Fin 16} {s : State}
    (hs : Keeps zz s) :
    KeepsOut zz (execBackoffEarlyExit n s) := by
  unfold execBackoffEarlyExit
  refine keepsOut_next ?_
  repeat' first
    | with_reducible assumption | with_reducible apply onLane_keeps | with_reducible apply startDetect_keeps
    | (simp only [mk_keeps]) | with_reducible apply foldl_keeps | split | intro _ _ _ | intro _ _
    | extract_lets | (dsimp +zetaDelta only)

theorem execBackoffEnd_keeps {zz : State} {n : Fin 16} {s : State}
    (hs : Keeps zz s) :
    KeepsOut zz (execBackoffEnd n s) := by
  unfold execBackoffEnd
  refine keepsOut_next ?_
  repeat' first
    | with_reducible assumption | with_reducible apply onLane_keeps | with_reducible apply startDetect_keeps
    | (simp only [mk_keeps]) | with_reducible apply foldl_keeps | split | intro _ _ _ | intro _ _
    | extract_lets | (dsimp +zetaDelta only)

theorem execBasicWrite_keeps {zz : State} {addr : BitVec 26} {v : Word} {s : State}
    (hs : Keeps zz s) :
    KeepsOut zz (execBasicWrite addr v s) := by
  unfold execBasicWrite
  refine keepsOut_next ?_
  repeat' first
    | with_reducible assumption | with_reducible apply regWrite_keeps | (simp only [mk_keeps])
    | with_reducible apply foldl_keeps | split | intro _ _ _ | intro _ _ | extract_lets
    | (dsimp +zetaDelta only)

theorem execBeaconInterval_keeps {zz : State} {s : State}
    (hs : Keeps zz s) :
    KeepsOut zz (execBeaconInterval s) := by
  unfold execBeaconInterval
  refine keepsOut_next ?_
  repeat' first
    | with_reducible assumption | with_reducible apply beaconOut_keeps | (simp only [mk_keeps])
    | with_reducible apply foldl_keeps | split | intro _ _ _ | intro _ _ | extract_lets
    | (dsimp +zetaDelta only)

theorem execBeaconReceived_keeps {zz : State} {p : Fin 2} {f : List Byte} {s : State}
    (hs : Keeps zz s) :
    KeepsOut zz (execBeaconReceived p f s) := by
  unfold execBeaconReceived
  refine keepsOut_next ?_
  repeat' first
    | with_reducible assumption | with_reducible apply beaconIn_keeps | (simp only [mk_keeps])
    | with_reducible apply foldl_keeps | split | intro _ _ _ | intro _ _ | extract_lets
    | (dsimp +zetaDelta only)

theorem pinChange_keeps {zz : State} {k : Nat} {level : Bool} {x2 : State}
    (hx2 : Keeps zz x2) :
    Keeps zz (pinChange k level x2) := by
  unfold pinChange
  extract_lets l0 l1 l2 l3 l4 l5 l6
  have kl0 : Keeps zz l0 := by
    unfold l0
    repeat' first
      | with_reducible assumption | with_reducible apply seeGuards_keeps | (simp only [mk_keeps])
      | with_reducible apply foldl_keeps | split | intro _ _ _ | intro _ _ | extract_lets
      | (dsimp +zetaDelta only)
  clear_value l0
  have kl4 : Keeps zz l4 := by
    unfold l4
    repeat' first
      | with_reducible assumption | (simp only [mk_keeps]) | with_reducible apply foldl_keeps | split
      | intro _ _ _ | intro _ _ | extract_lets | (dsimp +zetaDelta only)
  clear_value l4
  repeat' first
    | with_reducible assumption | with_reducible apply deliverBatch_keeps | (simp only [mk_keeps])
    | with_reducible apply foldl_keeps | split | intro _ _ _ | intro _ _ | extract_lets
    | (dsimp +zetaDelta only)

theorem execBeatEvent_keeps {zz : State} {pin : Option (Fin 9 × Bool)} {s : State}
    (hs : Keeps zz s) :
    KeepsOut zz (execBeatEvent pin s) := by
  unfold execBeatEvent
  refine keepsOut_next ?_
  repeat' first
    | with_reducible assumption | with_reducible apply pinChange_keeps | with_reducible apply beatEvents_keeps
    | (simp only [mk_keeps]) | with_reducible apply foldl_keeps | split | intro _ _ _ | intro _ _
    | extract_lets | (dsimp +zetaDelta only)

theorem execBeatSrcWrite_keeps {zz : State} {b : Fin 256} {v : Word} {s : State}
    (hs : Keeps zz s) :
    KeepsOut zz (execBeatSrcWrite b v s) := by
  unfold execBeatSrcWrite
  refine keepsOut_next ?_
  repeat' first
    | with_reducible assumption | with_reducible apply regWrite_keeps | (simp only [mk_keeps])
    | with_reducible apply foldl_keeps | split | intro _ _ _ | intro _ _ | extract_lets
    | (dsimp +zetaDelta only)

theorem lockLost_keeps {zz : State} {n : Nat} {s : State}
    (hs : Keeps zz s) :
    Keeps zz (lockLost n s) := by
  unfold lockLost
  extract_lets l0 l1 l2 l3 l4 l5 l6
  have kl1 : Keeps zz l1 := by
    unfold l1
    repeat' first
      | with_reducible assumption | with_reducible apply set_keeps | with_reducible apply count_keeps
      | (simp only [mk_keeps]) | with_reducible apply foldl_keeps | split | intro _ _ _ | intro _ _
      | extract_lets | (dsimp +zetaDelta only)
  clear_value l1
  have kl5 : Keeps zz l5 := by
    unfold l5
    repeat' first
      | with_reducible assumption | with_reducible apply log_keeps | (simp only [mk_keeps])
      | with_reducible apply foldl_keeps | split | intro _ _ _ | intro _ _ | extract_lets
      | (dsimp +zetaDelta only)
  clear_value l5
  have kl6 : Keeps zz l6 := by
    unfold l6
    repeat' first
      | with_reducible assumption | with_reducible apply enterTraining_keeps
      | with_reducible apply startDetect_keeps | (simp only [mk_keeps]) | with_reducible apply foldl_keeps
      | split | intro _ _ _ | intro _ _ | extract_lets | (dsimp +zetaDelta only)
  clear_value l6
  repeat' first
    | with_reducible assumption | with_reducible apply laneLost_keeps | with_reducible apply breakRuns_keeps
    | (simp only [mk_keeps]) | with_reducible apply foldl_keeps | split | intro _ _ _ | intro _ _
    | extract_lets | (dsimp +zetaDelta only)

theorem noteLane_keeps {zz : State} {nt : LinkNote} {s : State}
    (hs : Keeps zz s) :
    Keeps zz (noteLane nt s) := by
  unfold noteLane
  extract_lets l0 l1 l2
  have kl1 : Keeps zz l1 := by
    unfold l1
    repeat' first
      | with_reducible assumption | with_reducible apply count_keeps | (simp only [mk_keeps])
      | with_reducible apply foldl_keeps | split | intro _ _ _ | intro _ _ | extract_lets
      | (dsimp +zetaDelta only)
  clear_value l1
  have kl2 : Keeps zz l2 := by
    unfold l2
    repeat' first
      | with_reducible assumption | with_reducible apply count_keeps | (simp only [mk_keeps])
      | with_reducible apply foldl_keeps | split | intro _ _ _ | intro _ _ | extract_lets
      | (dsimp +zetaDelta only)
  clear_value l2
  repeat' first
    | with_reducible assumption | with_reducible apply count_keeps | (simp only [mk_keeps])
    | with_reducible apply foldl_keeps | split | intro _ _ _ | intro _ _ | extract_lets
    | (dsimp +zetaDelta only)

theorem execBlockLockLost_keeps {zz : State} {n : Fin 16} {note : LinkNote} {s : State}
    (hs : Keeps zz s) :
    KeepsOut zz (execBlockLockLost n note s) := by
  unfold execBlockLockLost
  refine keepsOut_next ?_
  repeat' first
    | with_reducible assumption | with_reducible apply onLane_keeps | with_reducible apply lockLost_keeps
    | with_reducible apply noteLane_keeps | (simp only [mk_keeps]) | with_reducible apply foldl_keeps | split
    | intro _ _ _ | intro _ _ | extract_lets | (dsimp +zetaDelta only)

theorem execBmeClear_keeps {zz : State} {s : State}
    (hs : Keeps zz s) :
    KeepsOut zz (execBmeClear s) := by
  unfold execBmeClear
  refine keepsOut_next ?_
  repeat' first
    | with_reducible assumption | with_reducible apply bmeClear_keeps | (simp only [mk_keeps])
    | with_reducible apply foldl_keeps | split | intro _ _ _ | intro _ _ | extract_lets
    | (dsimp +zetaDelta only)

theorem execBmeSet_keeps {zz : State} {s : State}
    (hs : Keeps zz s) :
    KeepsOut zz (execBmeSet s) := by
  unfold execBmeSet
  refine keepsOut_next ?_
  repeat' first
    | with_reducible assumption | with_reducible apply bmeSet_keeps | (simp only [mk_keeps])
    | with_reducible apply foldl_keeps | split | intro _ _ _ | intro _ _ | extract_lets
    | (dsimp +zetaDelta only)

theorem execBusIdle_keeps {zz : State} {s : State}
    (hs : Keeps zz s) :
    KeepsOut zz (execBusIdle s) := by
  unfold execBusIdle
  refine keepsOut_next ?_
  repeat' first
    | with_reducible assumption | with_reducible apply busIdle_keeps | (simp only [mk_keeps])
    | with_reducible apply foldl_keeps | split | intro _ _ _ | intro _ _ | extract_lets
    | (dsimp +zetaDelta only)

theorem execBusStuckDetect_keeps {zz : State} {s : State}
    (hs : Keeps zz s) :
    KeepsOut zz (execBusStuckDetect s) := by
  unfold execBusStuckDetect
  refine keepsOut_next ?_
  repeat' first
    | with_reducible assumption | with_reducible apply busStuck_keeps | (simp only [mk_keeps])
    | with_reducible apply foldl_keeps | split | intro _ _ _ | intro _ _ | extract_lets
    | (dsimp +zetaDelta only)

theorem linkFail_keeps {zz : State} {g : Nat} {s : State}
    (hs : Keeps zz s) :
    Keeps zz (linkFail g s) := by
  unfold linkFail
  extract_lets l0 l1 l2 l3 l4 l5 l6
  have kl2 : Keeps zz l2 := by
    unfold l2
    repeat' first
      | with_reducible assumption | with_reducible apply count_keeps | (simp only [mk_keeps])
      | with_reducible apply foldl_keeps | split | intro _ _ _ | intro _ _ | extract_lets
      | (dsimp +zetaDelta only)
  clear_value l2
  have kl3 : Keeps zz l3 := by
    unfold l3
    repeat' first
      | with_reducible assumption | with_reducible apply closeGroup_keeps | (simp only [mk_keeps])
      | with_reducible apply foldl_keeps | split | intro _ _ _ | intro _ _ | extract_lets
      | (dsimp +zetaDelta only)
  clear_value l3
  have kl4 : Keeps zz l4 := by
    unfold l4
    repeat' first
      | with_reducible assumption | with_reducible apply log_keeps | (simp only [mk_keeps])
      | with_reducible apply foldl_keeps | split | intro _ _ _ | intro _ _ | extract_lets
      | (dsimp +zetaDelta only)
  clear_value l4
  have kl6 : Keeps zz l6 := by
    unfold l6
    repeat' first
      | with_reducible assumption | with_reducible apply retrainLane_keeps | (simp only [mk_keeps])
      | with_reducible apply foldl_keeps | split | intro _ _ _ | intro _ _ | extract_lets
      | (dsimp +zetaDelta only)
  clear_value l6
  repeat' first
    | with_reducible assumption | with_reducible apply groupCheck_keeps | (simp only [mk_keeps])
    | with_reducible apply foldl_keeps | split | intro _ _ _ | intro _ _ | extract_lets
    | (dsimp +zetaDelta only)

theorem startReplay_keeps {zz : State} {g : Nat} {counted : Bool} {s : State}
    (hs : Keeps zz s) :
    Keeps zz (startReplay g counted s) := by
  unfold startReplay
  extract_lets l0
  repeat' first
    | with_reducible assumption | with_reducible apply linkFail_keeps | with_reducible apply setGroup_keeps
    | (simp only [mk_keeps]) | with_reducible apply foldl_keeps | split | intro _ _ _ | intro _ _
    | extract_lets | (dsimp +zetaDelta only)

theorem execBusyReplayWait_keeps {zz : State} {g : Fin 16} {s : State}
    (hs : Keeps zz s) :
    KeepsOut zz (execBusyReplayWait g s) := by
  unfold execBusyReplayWait
  refine keepsOut_next ?_
  repeat' first
    | with_reducible assumption | with_reducible apply onLane_keeps | with_reducible apply startReplay_keeps
    | (simp only [mk_keeps]) | with_reducible apply foldl_keeps | split | intro _ _ _ | intro _ _
    | extract_lets | (dsimp +zetaDelta only)

theorem execBwStrike_keeps {zz : State} {rival : List Byte} {s : State}
    (hs : Keeps zz s) :
    KeepsOut zz (execBwStrike rival s) := by
  unfold execBwStrike
  refine keepsOut_next ?_
  repeat' first
    | with_reducible assumption | with_reducible apply bwStrike_keeps | (simp only [mk_keeps])
    | with_reducible apply foldl_keeps | split | intro _ _ _ | intro _ _ | extract_lets
    | (dsimp +zetaDelta only)

theorem execBwrCfgWrite_keeps {zz : State} {v : Word} {s : State}
    (hs : Keeps zz s) :
    KeepsOut zz (execBwrCfgWrite v s) := by
  unfold execBwrCfgWrite
  refine keepsOut_next ?_
  repeat' first
    | with_reducible assumption | with_reducible apply regWrite_keeps | (simp only [mk_keeps])
    | with_reducible apply foldl_keeps | split | intro _ _ _ | intro _ _ | extract_lets
    | (dsimp +zetaDelta only)

theorem hostRead_keeps {zz : State} {a : Nat} {op : State → State} {s : State}
    (hop : ∀ a0, Keeps zz a0 → Keeps zz (op a0)) (hs : Keeps zz s) :
    Keeps zz (hostRead a op s) := by
  unfold hostRead
  repeat' first
    | with_reducible assumption | with_reducible apply unsupported_keeps | with_reducible apply emit_keeps
    | (simp only [mk_keeps]) | with_reducible apply foldl_keeps | split | with_reducible apply hop
    | intro _ _ _ | intro _ _ | extract_lets | (dsimp +zetaDelta only)

theorem execCaptureSecRead_keeps {zz : State} {k : Fin 8} {s : State}
    (hs : Keeps zz s) :
    KeepsOut zz (execCaptureSecRead k s) := by
  unfold execCaptureSecRead
  refine keepsOut_next ?_
  repeat' first
    | with_reducible assumption | with_reducible apply hostRead_keeps | with_reducible apply captRead_keeps
    | (simp only [mk_keeps]) | with_reducible apply foldl_keeps | split | intro _ _ _ | intro _ _
    | extract_lets | (dsimp +zetaDelta only)

theorem execCellWrite_keeps {zz : State} {c : Fin 32} {v : Word} {s : State}
    (hs : Keeps zz s) :
    KeepsOut zz (execCellWrite c v s) := by
  unfold execCellWrite
  refine keepsOut_next ?_
  repeat' first
    | with_reducible assumption | with_reducible apply regWrite_keeps | (simp only [mk_keeps])
    | with_reducible apply foldl_keeps | split | intro _ _ _ | intro _ _ | extract_lets
    | (dsimp +zetaDelta only)

theorem execCfgFspeedWrite_keeps {zz : State} {v : Word} {s : State}
    (hs : Keeps zz s) :
    KeepsOut zz (execCfgFspeedWrite v s) := by
  unfold execCfgFspeedWrite
  refine keepsOut_next ?_
  repeat' first
    | with_reducible assumption | with_reducible apply regWrite_keeps | (simp only [mk_keeps])
    | with_reducible apply foldl_keeps | split | intro _ _ _ | intro _ _ | extract_lets
    | (dsimp +zetaDelta only)

theorem execCfgWarmWrite_keeps {zz : State} {key : Word} {s : State}
    (hs : Keeps zz s) :
    KeepsOut zz (execCfgWarmWrite key s) := by
  unfold execCfgWarmWrite
  refine keepsOut_next ?_
  repeat' first
    | with_reducible assumption | with_reducible apply regWrite_keeps | (simp only [mk_keeps])
    | with_reducible apply foldl_keeps | split | intro _ _ _ | intro _ _ | extract_lets
    | (dsimp +zetaDelta only)

theorem execChimeFilterExpiry_keeps {zz : State} {c : Fin 32} {s : State}
    (hs : Keeps zz s) :
    KeepsOut zz (execChimeFilterExpiry c s) := by
  unfold execChimeFilterExpiry
  refine keepsOut_next ?_
  repeat' first
    | with_reducible assumption | with_reducible apply chimeExpiry_keeps | (simp only [mk_keeps])
    | with_reducible apply foldl_keeps | split | intro _ _ _ | intro _ _ | extract_lets
    | (dsimp +zetaDelta only)

theorem execClaimWindowEnd_keeps {zz : State} {s : State}
    (hs : Keeps zz s) :
    KeepsOut zz (execClaimWindowEnd s) := by
  unfold execClaimWindowEnd
  refine keepsOut_next ?_
  repeat' first
    | with_reducible assumption | with_reducible apply claimEnd_keeps | (simp only [mk_keeps])
    | with_reducible apply foldl_keeps | split | intro _ _ _ | intro _ _ | extract_lets
    | (dsimp +zetaDelta only)

theorem execClkLowTimeout_keeps {zz : State} {s : State}
    (hs : Keeps zz s) :
    KeepsOut zz (execClkLowTimeout s) := by
  unfold execClkLowTimeout
  refine keepsOut_next ?_
  repeat' first
    | with_reducible assumption | with_reducible apply clkLowTimeout_keeps | (simp only [mk_keeps])
    | with_reducible apply foldl_keeps | split | intro _ _ _ | intro _ _ | extract_lets
    | (dsimp +zetaDelta only)

theorem execClkPllWrite_keeps {zz : State} {p : Fin 4} {v : Word} {s : State}
    (hs : Keeps zz s) :
    KeepsOut zz (execClkPllWrite p v s) := by
  unfold execClkPllWrite
  refine keepsOut_next ?_
  repeat' first
    | with_reducible assumption | with_reducible apply regWrite_keeps | (simp only [mk_keeps])
    | with_reducible apply foldl_keeps | split | intro _ _ _ | intro _ _ | extract_lets
    | (dsimp +zetaDelta only)

theorem execClkRstWrite_keeps {zz : State} {v : Word} {s : State}
    (hs : Keeps zz s) :
    KeepsOut zz (execClkRstWrite v s) := by
  unfold execClkRstWrite
  refine keepsOut_next ?_
  repeat' first
    | with_reducible assumption | with_reducible apply regWrite_keeps | (simp only [mk_keeps])
    | with_reducible apply foldl_keeps | split | intro _ _ _ | intro _ _ | extract_lets
    | (dsimp +zetaDelta only)

theorem noteAccepted_keeps {zz : State} {g : Nat} {s : State}
    (hs : Keeps zz s) :
    Keeps zz (noteAccepted g s) := by
  unfold noteAccepted
  extract_lets l0
  repeat' first
    | with_reducible assumption | with_reducible apply setGroup_keeps | (simp only [mk_keeps])
    | with_reducible apply foldl_keeps | split | intro _ _ _ | intro _ _ | extract_lets
    | (dsimp +zetaDelta only)

theorem relReceive_keeps {zz : State} {g : Nat} {p : List Nat} {f : State → State} {s : State}
    (hf : ∀ a0, Keeps zz a0 → Keeps zz (f a0)) (hs : Keeps zz s) :
    Keeps zz (relReceive g p f s) := by
  unfold relReceive
  extract_lets l0 l1 l2 l3 l4 l5
  have kl2 : Keeps zz l2 := by
    unfold l2
    repeat' first
      | with_reducible assumption | with_reducible apply set_keeps | (simp only [mk_keeps])
      | with_reducible apply foldl_keeps | split | with_reducible apply hf | intro _ _ _ | intro _ _
      | extract_lets | (dsimp +zetaDelta only)
  clear_value l2
  have kl4 : Keeps zz l4 := by
    unfold l4
    repeat' first
      | with_reducible assumption | with_reducible apply count_keeps | (simp only [mk_keeps])
      | with_reducible apply foldl_keeps | split | with_reducible apply hf | intro _ _ _ | intro _ _
      | extract_lets | (dsimp +zetaDelta only)
  clear_value l4
  repeat' first
    | with_reducible assumption | with_reducible apply noteAccepted_keeps
    | with_reducible apply setGroup_keeps | with_reducible apply askReplay_keeps | (simp only [mk_keeps])
    | with_reducible apply foldl_keeps | split | with_reducible apply hf | intro _ _ _ | intro _ _
    | extract_lets | (dsimp +zetaDelta only)

theorem execClpEventReceived_keeps {zz : State} {g : Fin 16} {p : List Byte} {s : State}
    (hs : Keeps zz s) :
    KeepsOut zz (execClpEventReceived g p s) := by
  unfold execClpEventReceived
  refine keepsOut_next ?_
  repeat' first
    | with_reducible assumption | with_reducible apply onLane_keeps | with_reducible apply takePacket_keeps
    | with_reducible apply relReceive_keeps | with_reducible apply clpEvent_keeps | (simp only [mk_keeps])
    | with_reducible apply foldl_keeps | split | intro _ _ _ | intro _ _ | extract_lets
    | (dsimp +zetaDelta only)

theorem execClpStreamWrite_keeps {zz : State} {st : Fin 64} {v : Word} {s : State}
    (hs : Keeps zz s) :
    KeepsOut zz (execClpStreamWrite st v s) := by
  unfold execClpStreamWrite
  refine keepsOut_next ?_
  repeat' first
    | with_reducible assumption | with_reducible apply regWrite_keeps | (simp only [mk_keeps])
    | with_reducible apply foldl_keeps | split | intro _ _ _ | intro _ _ | extract_lets
    | (dsimp +zetaDelta only)

theorem execCompareFire_keeps {zz : State} {k : Fin 8} {s : State}
    (hs : Keeps zz s) :
    KeepsOut zz (execCompareFire k s) := by
  unfold execCompareFire
  refine keepsOut_next ?_
  repeat' first
    | with_reducible assumption | with_reducible apply compareFire_keeps | (simp only [mk_keeps])
    | with_reducible apply foldl_keeps | split | intro _ _ _ | intro _ _ | extract_lets
    | (dsimp +zetaDelta only)

theorem execCompletionReceived_keeps {zz : State} {tag : Fin 1024} {status : Fin 8} {bad : Bool} {ecrc : Bool} {data : List Byte} {s : State}
    (hs : Keeps zz s) :
    KeepsOut zz (execCompletionReceived tag status bad ecrc data s) := by
  unfold execCompletionReceived
  refine keepsOut_next ?_
  repeat' first
    | with_reducible assumption | with_reducible apply completion_keeps | (simp only [mk_keeps])
    | with_reducible apply foldl_keeps | split | intro _ _ _ | intro _ _ | extract_lets
    | (dsimp +zetaDelta only)

theorem readTimeout_keeps {zz : State} {tag : Nat} {s : State}
    (hs : Keeps zz s) :
    Keeps zz (readTimeout tag s) := by
  unfold readTimeout
  extract_lets l0
  have kl0 : Keeps zz l0 := by
    unfold l0
    repeat' first
      | with_reducible assumption | with_reducible apply setReads_keeps | (simp only [mk_keeps])
      | with_reducible apply foldl_keeps | split | intro _ _ _ | intro _ _ | extract_lets
      | (dsimp +zetaDelta only)
  clear_value l0
  repeat' first
    | with_reducible assumption | with_reducible apply free_keeps
    | with_reducible refine free_keeps' ?_ (by with_reducible assumption)
    | with_reducible apply readFailed_keeps | with_reducible apply log_keeps
    | with_reducible apply count_keeps | with_reducible apply aerSet_keeps | (simp only [mk_keeps])
    | with_reducible apply foldl_keeps | split | intro _ _ _ | intro _ _ | extract_lets
    | (dsimp +zetaDelta only)

theorem execCompletionTimeout_keeps {zz : State} {tag : Fin 1024} {s : State}
    (hs : Keeps zz s) :
    KeepsOut zz (execCompletionTimeout tag s) := by
  unfold execCompletionTimeout
  refine keepsOut_next ?_
  repeat' first
    | with_reducible assumption | with_reducible apply readTimeout_keeps | (simp only [mk_keeps])
    | with_reducible apply foldl_keeps | split | intro _ _ _ | intro _ _ | extract_lets
    | (dsimp +zetaDelta only)

theorem execConfigRequest_keeps {zz : State} {addr : BitVec 12} {wr : Option Word} {s : State}
    (hs : Keeps zz s) :
    KeepsOut zz (execConfigRequest addr wr s) := by
  unfold execConfigRequest
  refine keepsOut_next ?_
  repeat' first
    | with_reducible assumption | with_reducible apply configRequest_keeps | (simp only [mk_keeps])
    | with_reducible apply foldl_keeps | split | intro _ _ _ | intro _ _ | extract_lets
    | (dsimp +zetaDelta only)

theorem execConnectEnd_keeps {zz : State} {a : Fin 4} {s : State}
    (hs : Keeps zz s) :
    KeepsOut zz (execConnectEnd a s) := by
  unfold execConnectEnd
  refine keepsOut_next ?_
  repeat' first
    | with_reducible assumption | with_reducible apply connectEnd_keeps | (simp only [mk_keeps])
    | with_reducible apply foldl_keeps | split | intro _ _ _ | intro _ _ | extract_lets
    | (dsimp +zetaDelta only)

theorem execCoreFault_keeps {zz : State} {c : Fin 8} {mem : Nat} {s : State}
    (hs : Keeps zz s) :
    KeepsOut zz (execCoreFault c mem s) := by
  unfold execCoreFault
  refine keepsOut_next ?_
  repeat' first
    | with_reducible assumption | with_reducible apply onVen_keeps | with_reducible apply coreFault_keeps
    | (simp only [mk_keeps]) | with_reducible apply foldl_keeps | split | intro _ _ _ | intro _ _
    | extract_lets | (dsimp +zetaDelta only)

theorem execCoreParkWrite_keeps {zz : State} {c : Fin 8} {v : Word} {s : State}
    (hs : Keeps zz s) :
    KeepsOut zz (execCoreParkWrite c v s) := by
  unfold execCoreParkWrite
  refine keepsOut_next ?_
  repeat' first
    | with_reducible assumption | with_reducible apply regWrite_keeps | (simp only [mk_keeps])
    | with_reducible apply foldl_keeps | split | intro _ _ _ | intro _ _ | extract_lets
    | (dsimp +zetaDelta only)

theorem execCorePllUnlock_keeps {zz : State} {s : State}
    (hs : Keeps zz s) :
    KeepsOut zz (execCorePllUnlock s) := by
  unfold execCorePllUnlock
  refine keepsOut_next ?_
  repeat' first
    | with_reducible assumption | with_reducible apply coreFail_keeps | (simp only [mk_keeps])
    | with_reducible apply foldl_keeps | split | intro _ _ _ | intro _ _ | extract_lets
    | (dsimp +zetaDelta only)

theorem segmentDone_keeps {zz : State} {c : Nat} {bytes : List Nat} {qps : List Nat} {s : State}
    (hs : Keeps zz s) :
    Keeps zz (segmentDone c bytes qps s) := by
  unfold segmentDone
  extract_lets l0
  repeat' first
    | with_reducible assumption | with_reducible apply coreRest_keeps | with_reducible apply count_keeps
    | with_reducible apply setPic_keeps | with_reducible apply deliverUnit_keeps | (simp only [mk_keeps])
    | with_reducible apply foldl_keeps | split | intro _ _ _ | intro _ _ | extract_lets
    | (dsimp +zetaDelta only)

theorem execCoreSegmentDone_keeps {zz : State} {c : Fin 8} {bytes : List Byte} {qps : List Nat} {s : State}
    (hs : Keeps zz s) :
    KeepsOut zz (execCoreSegmentDone c bytes qps s) := by
  unfold execCoreSegmentDone
  refine keepsOut_next ?_
  repeat' first
    | with_reducible assumption | with_reducible apply onVen_keeps | with_reducible apply segmentDone_keeps
    | (simp only [mk_keeps]) | with_reducible apply foldl_keeps | split | intro _ _ _ | intro _ _
    | extract_lets | (dsimp +zetaDelta only)

theorem startPicture_keeps {zz : State} {q : Picture} {want : Nat} {s : State}
    (hs : Keeps zz s) :
    Keeps zz (startPicture q want s).2 := by
  unfold startPicture
  extract_lets l0
  repeat' first
    | with_reducible assumption | with_reducible apply set_keeps | (simp only [mk_keeps])
    | with_reducible apply foldl_keeps | split | intro _ _ _ | intro _ _ | extract_lets
    | (dsimp +zetaDelta only)

theorem startPicture_keeps' {zz t : State} {q : Picture} {want : Nat} {s : State} {q}
    (hs : Keeps zz s) (e : (startPicture q want s) = (q, t)) :
    Keeps zz t := by
  have := startPicture_keeps (q := q) (want := want) (s := s) hs
  rw [e] at this
  exact this

theorem segmentStart_keeps {zz : State} {c : Nat} {want : Nat} {s : State}
    (hs : Keeps zz s) :
    Keeps zz (segmentStart c want s) := by
  unfold segmentStart
  repeat' first
    | with_reducible assumption | with_reducible apply startPicture_keeps
    | with_reducible refine startPicture_keeps' ?_ (by with_reducible assumption)
    | with_reducible apply setPic_keeps | with_reducible apply set_keeps
    | with_reducible apply issueRead_keeps | (simp only [mk_keeps]) | with_reducible apply foldl_keeps | split
    | intro _ _ _ | intro _ _ | extract_lets | (dsimp +zetaDelta only)

theorem execCoreSegmentStart_keeps {zz : State} {c : Fin 8} {qp : BitVec 6} {s : State}
    (hs : Keeps zz s) :
    KeepsOut zz (execCoreSegmentStart c qp s) := by
  unfold execCoreSegmentStart
  refine keepsOut_next ?_
  repeat' first
    | with_reducible assumption | with_reducible apply onVen_keeps | with_reducible apply segmentStart_keeps
    | (simp only [mk_keeps]) | with_reducible apply foldl_keeps | split | intro _ _ _ | intro _ _
    | extract_lets | (dsimp +zetaDelta only)

theorem execCselWrite_keeps {zz : State} {i : Fin 512} {v : Word} {s : State}
    (hs : Keeps zz s) :
    KeepsOut zz (execCselWrite i v s) := by
  unfold execCselWrite
  refine keepsOut_next ?_
  repeat' first
    | with_reducible assumption | with_reducible apply regWrite_keeps | (simp only [mk_keeps])
    | with_reducible apply foldl_keeps | split | intro _ _ _ | intro _ _ | extract_lets
    | (dsimp +zetaDelta only)

theorem execCtrlRspReceived_keeps {zz : State} {g : Fin 16} {p : List Byte} {s : State}
    (hs : Keeps zz s) :
    KeepsOut zz (execCtrlRspReceived g p s) := by
  unfold execCtrlRspReceived
  refine keepsOut_next ?_
  repeat' first
    | with_reducible assumption | with_reducible apply onLane_keeps | with_reducible apply takePacket_keeps
    | with_reducible apply relReceive_keeps | with_reducible apply ctrlRsp_keeps | (simp only [mk_keeps])
    | with_reducible apply foldl_keeps | split | intro _ _ _ | intro _ _ | extract_lets
    | (dsimp +zetaDelta only)

theorem execD0Return_keeps {zz : State} {s : State}
    (hs : Keeps zz s) :
    KeepsOut zz (execD0Return s) := by
  unfold execD0Return
  refine keepsOut_next ?_
  repeat' first
    | with_reducible assumption | with_reducible apply d0Return_keeps | (simp only [mk_keeps])
    | with_reducible apply foldl_keeps | split | intro _ _ _ | intro _ _ | extract_lets
    | (dsimp +zetaDelta only)

theorem execD3hotEntry_keeps {zz : State} {s : State}
    (hs : Keeps zz s) :
    KeepsOut zz (execD3hotEntry s) := by
  unfold execD3hotEntry
  refine keepsOut_next ?_
  repeat' first
    | with_reducible assumption | with_reducible apply d3Enter_keeps | (simp only [mk_keeps])
    | with_reducible apply foldl_keeps | split | intro _ _ _ | intro _ _ | extract_lets
    | (dsimp +zetaDelta only)

theorem execDeepRequest_keeps {zz : State} {n : Fin 16} {v : Word} {s : State}
    (hs : Keeps zz s) :
    KeepsOut zz (execDeepRequest n v s) := by
  unfold execDeepRequest
  refine keepsOut_next ?_
  repeat' first
    | with_reducible assumption | with_reducible apply regWrite_keeps | (simp only [mk_keeps])
    | with_reducible apply foldl_keeps | split | intro _ _ _ | intro _ _ | extract_lets
    | (dsimp +zetaDelta only)

theorem execDelayReqInterval_keeps {zz : State} {stamp : Nat} {s : State}
    (hs : Keeps zz s) :
    KeepsOut zz (execDelayReqInterval stamp s) := by
  unfold execDelayReqInterval
  refine keepsOut_next ?_
  repeat' first
    | with_reducible assumption | with_reducible apply delayReqInterval_keeps | (simp only [mk_keeps])
    | with_reducible apply foldl_keeps | split | intro _ _ _ | intro _ _ | extract_lets
    | (dsimp +zetaDelta only)

theorem execDelayReqReceived_keeps {zz : State} {p : Fin 2} {f : List Byte} {stamp : Nat} {s : State}
    (hs : Keeps zz s) :
    KeepsOut zz (execDelayReqReceived p f stamp s) := by
  unfold execDelayReqReceived
  refine keepsOut_next ?_
  repeat' first
    | with_reducible assumption | with_reducible apply ptpTake_keeps | with_reducible apply delayReqIn_keeps
    | (simp only [mk_keeps]) | with_reducible apply foldl_keeps | split | intro _ _ _ | intro _ _
    | extract_lets | (dsimp +zetaDelta only)

theorem execDelayRespReceived_keeps {zz : State} {p : Fin 2} {f : List Byte} {s : State}
    (hs : Keeps zz s) :
    KeepsOut zz (execDelayRespReceived p f s) := by
  unfold execDelayRespReceived
  refine keepsOut_next ?_
  repeat' first
    | with_reducible assumption | with_reducible apply ptpTake_keeps | with_reducible apply delayRespIn_keeps
    | (simp only [mk_keeps]) | with_reducible apply foldl_keeps | split | intro _ _ _ | intro _ _
    | extract_lets | (dsimp +zetaDelta only)

theorem takeArrived_keeps {zz : State} {q : Nat} {s : State}
    (hs : Keeps zz s) :
    Keeps zz (takeArrived q s) := by
  unfold takeArrived
  extract_lets l0
  repeat' first
    | with_reducible assumption | with_reducible apply promote_keeps | with_reducible apply fillOpen_keeps
    | with_reducible apply setQueue_keeps | (simp only [mk_keeps]) | with_reducible apply foldl_keeps | split
    | intro _ _ _ | intro _ _ | extract_lets | (dsimp +zetaDelta only)

theorem execDescReadComplete_keeps {zz : State} {q : Fin 16384} {s : State}
    (hs : Keeps zz s) :
    KeepsOut zz (execDescReadComplete q s) := by
  unfold execDescReadComplete
  refine keepsOut_next ?_
  repeat' first
    | with_reducible assumption | with_reducible apply takeArrived_keeps | (simp only [mk_keeps])
    | with_reducible apply foldl_keeps | split | intro _ _ _ | intro _ _ | extract_lets
    | (dsimp +zetaDelta only)

theorem execDiscReqReceived_keeps {zz : State} {g : Fin 16} {p : List Byte} {s : State}
    (hs : Keeps zz s) :
    KeepsOut zz (execDiscReqReceived g p s) := by
  unfold execDiscReqReceived
  refine keepsOut_next ?_
  repeat' first
    | with_reducible assumption | with_reducible apply onLane_keeps | with_reducible apply takePacket_keeps
    | with_reducible apply discReceived_keeps | (simp only [mk_keeps]) | with_reducible apply foldl_keeps
    | split | intro _ _ _ | intro _ _ | extract_lets | (dsimp +zetaDelta only)

theorem execDischargeEnd_keeps {zz : State} {a : Fin 4} {s : State}
    (hs : Keeps zz s) :
    KeepsOut zz (execDischargeEnd a s) := by
  unfold execDischargeEnd
  refine keepsOut_next ?_
  repeat' first
    | with_reducible assumption | with_reducible apply dischargeEnd_keeps | (simp only [mk_keeps])
    | with_reducible apply foldl_keeps | split | intro _ _ _ | intro _ _ | extract_lets
    | (dsimp +zetaDelta only)

theorem execDiscoveryTimeout_keeps {zz : State} {g : Fin 16} {s : State}
    (hs : Keeps zz s) :
    KeepsOut zz (execDiscoveryTimeout g s) := by
  unfold execDiscoveryTimeout
  refine keepsOut_next ?_
  repeat' first
    | with_reducible assumption | with_reducible apply onLane_keeps | with_reducible apply linkFail_keeps
    | (simp only [mk_keeps]) | with_reducible apply foldl_keeps | split | intro _ _ _ | intro _ _
    | extract_lets | (dsimp +zetaDelta only)

theorem execDllLock_keeps {zz : State} {s : State}
    (hs : Keeps zz s) :
    KeepsOut zz (execDllLock s) := by
  unfold execDllLock
  refine keepsOut_next ?_
  repeat' first
    | with_reducible assumption | with_reducible apply set_keeps | (simp only [mk_keeps])
    | with_reducible apply foldl_keeps | split | intro _ _ _ | intro _ _ | extract_lets
    | (dsimp +zetaDelta only)

theorem execDllUnlock_keeps {zz : State} {s : State}
    (hs : Keeps zz s) :
    KeepsOut zz (execDllUnlock s) := by
  unfold execDllUnlock
  refine keepsOut_next ?_
  repeat' first
    | with_reducible assumption | with_reducible apply log_keeps | with_reducible apply set_keeps
    | (simp only [mk_keeps]) | with_reducible apply foldl_keeps | split | intro _ _ _ | intro _ _
    | extract_lets | (dsimp +zetaDelta only)

theorem execDomainResetRelease_keeps {zz : State} {d : Domain} {trefEdges : Nat} {s : State}
    (hs : Keeps zz s) :
    KeepsOut zz (execDomainResetRelease d trefEdges s) := by
  unfold execDomainResetRelease
  refine keepsOut_next ?_
  repeat' first
    | with_reducible assumption | with_reducible apply domainRelease_keeps | (simp only [mk_keeps])
    | with_reducible apply foldl_keeps | split | intro _ _ _ | intro _ _ | extract_lets
    | (dsimp +zetaDelta only)

theorem execDoorbellWrite_keeps {zz : State} {q : Fin 16384} {v : Word} {s : State}
    (hs : Keeps zz s) :
    KeepsOut zz (execDoorbellWrite q v s) := by
  unfold execDoorbellWrite
  refine keepsOut_next ?_
  repeat' first
    | with_reducible assumption | with_reducible apply barWrite_keeps | (simp only [mk_keeps])
    | with_reducible apply foldl_keeps | split | intro _ _ _ | intro _ _ | extract_lets
    | (dsimp +zetaDelta only)

theorem leaveTxQuiet_keeps {zz : State} {g : Nat} {s : State}
    (hs : Keeps zz s) :
    Keeps zz (leaveTxQuiet g s) := by
  unfold leaveTxQuiet
  repeat' first
    | with_reducible assumption | with_reducible apply setLane_keeps | with_reducible apply enterLane_keeps
    | (simp only [mk_keeps]) | with_reducible apply foldl_keeps | split | intro _ _ _ | intro _ _
    | extract_lets | (dsimp +zetaDelta only)

theorem noteTrigSent_keeps {zz : State} {g : Nat} {p : RelPkt} {s : State}
    (hs : Keeps zz s) :
    Keeps zz (noteTrigSent g p s) := by
  unfold noteTrigSent
  extract_lets l0
  repeat' first
    | with_reducible assumption | with_reducible apply setGroup_keeps | (simp only [mk_keeps])
    | with_reducible apply foldl_keeps | split | intro _ _ _ | intro _ _ | extract_lets
    | (dsimp +zetaDelta only)

theorem sendNew_keeps {zz : State} {g : Nat} {p0 : RelPkt} {s : State}
    (hs : Keeps zz s) :
    Keeps zz (sendNew g p0 s) := by
  unfold sendNew
  extract_lets l0 l1 l2 l3 l4
  have kl3 : Keeps zz l3 := by
    unfold l3
    repeat' first
      | with_reducible assumption | with_reducible apply setGroup_keeps | (simp only [mk_keeps])
      | with_reducible apply foldl_keeps | split | intro _ _ _ | intro _ _ | extract_lets
      | (dsimp +zetaDelta only)
  clear_value l3
  have kl4 : Keeps zz l4 := by
    unfold l4
    repeat' first
      | with_reducible assumption | with_reducible apply set_keeps | (simp only [mk_keeps])
      | with_reducible apply foldl_keeps | split | intro _ _ _ | intro _ _ | extract_lets
      | (dsimp +zetaDelta only)
  clear_value l4
  repeat' first
    | with_reducible assumption | with_reducible apply noteTrigSent_keeps | with_reducible apply emit_keeps
    | (simp only [mk_keeps]) | with_reducible apply foldl_keeps | split | intro _ _ _ | intro _ _
    | extract_lets | (dsimp +zetaDelta only)

theorem txSelect_keeps {zz : State} {g : Nat} {x1 : State}
    (hx1 : Keeps zz x1) :
    Keeps zz (txSelect g x1) := by
  unfold txSelect
  extract_lets l0 l1 l2 l3 l4
  have kl0 : Keeps zz l0 := by
    unfold l0
    repeat' first
      | with_reducible assumption | with_reducible apply leaveTxQuiet_keeps | (simp only [mk_keeps])
      | with_reducible apply foldl_keeps | split | intro _ _ _ | intro _ _ | extract_lets
      | (dsimp +zetaDelta only)
  clear_value l0
  repeat' first
    | with_reducible assumption | with_reducible apply sendNew_keeps | with_reducible apply setGroup_keeps
    | with_reducible apply emit_keeps | with_reducible apply count_keeps
    | with_reducible apply noteTrigSent_keeps | (simp only [mk_keeps]) | with_reducible apply foldl_keeps
    | split | intro _ _ _ | intro _ _ | extract_lets | (dsimp +zetaDelta only)

theorem execDownlinkTxSelect_keeps {zz : State} {g : Fin 16} {s : State}
    (hs : Keeps zz s) :
    KeepsOut zz (execDownlinkTxSelect g s) := by
  unfold execDownlinkTxSelect
  refine keepsOut_next ?_
  repeat' first
    | with_reducible assumption | with_reducible apply onLane_keeps | with_reducible apply txSelect_keeps
    | (simp only [mk_keeps]) | with_reducible apply foldl_keeps | split | intro _ _ _ | intro _ _
    | extract_lets | (dsimp +zetaDelta only)

theorem execDrainComplete_keeps {zz : State} {s : State}
    (hs : Keeps zz s) :
    KeepsOut zz (execDrainComplete s) := by
  unfold execDrainComplete
  refine keepsOut_next ?_
  repeat' first
    | with_reducible assumption | with_reducible apply drainComplete_keeps | (simp only [mk_keeps])
    | with_reducible apply foldl_keeps | split | intro _ _ _ | intro _ _ | extract_lets
    | (dsimp +zetaDelta only)

theorem execDrainForce_keeps {zz : State} {v : Word} {s : State}
    (hs : Keeps zz s) :
    KeepsOut zz (execDrainForce v s) := by
  unfold execDrainForce
  refine keepsOut_next ?_
  repeat' first
    | with_reducible assumption | with_reducible apply regWrite_keeps | (simp only [mk_keeps])
    | with_reducible apply foldl_keeps | split | intro _ _ _ | intro _ _ | extract_lets
    | (dsimp +zetaDelta only)

theorem execDrainTimeout_keeps {zz : State} {s : State}
    (hs : Keeps zz s) :
    KeepsOut zz (execDrainTimeout s) := by
  unfold execDrainTimeout
  refine keepsOut_next ?_
  repeat' first
    | with_reducible assumption | with_reducible apply drainExpire_keeps | (simp only [mk_keeps])
    | with_reducible apply foldl_keeps | split | intro _ _ _ | intro _ _ | extract_lets
    | (dsimp +zetaDelta only)

theorem execDrlCfgWrite_keeps {zz : State} {v : Word} {s : State}
    (hs : Keeps zz s) :
    KeepsOut zz (execDrlCfgWrite v s) := by
  unfold execDrlCfgWrite
  refine keepsOut_next ?_
  repeat' first
    | with_reducible assumption | with_reducible apply regWrite_keeps | (simp only [mk_keeps])
    | with_reducible apply foldl_keeps | split | intro _ _ _ | intro _ _ | extract_lets
    | (dsimp +zetaDelta only)

theorem execDrlEventReceived_keeps {zz : State} {p : Fin 2} {f : List Byte} {s : State}
    (hs : Keeps zz s) :
    KeepsOut zz (execDrlEventReceived p f s) := by
  unfold execDrlEventReceived
  refine keepsOut_next ?_
  repeat' first
    | with_reducible assumption | with_reducible apply eventIn_keeps | (simp only [mk_keeps])
    | with_reducible apply foldl_keeps | split | intro _ _ _ | intro _ _ | extract_lets
    | (dsimp +zetaDelta only)

theorem passOn_keeps {zz : State} {p : Nat} {q : Nat} {res : Nat} {g : List Nat} {s : State}
    (hs : Keeps zz s) :
    Keeps zz (passOn p q res g s) := by
  unfold passOn
  repeat' first
    | with_reducible assumption | with_reducible apply count_keeps | with_reducible apply emit_keeps
    | (simp only [mk_keeps]) | with_reducible apply foldl_keeps | split | intro _ _ _ | intro _ _
    | extract_lets | (dsimp +zetaDelta only)

set_option maxHeartbeats 1000000 in
theorem forwardFrame_keeps {zz : State} {p : Nat} {res : Nat} {f : List Nat} {s : State}
    (hs : Keeps zz s) :
    Keeps zz (forwardFrame p res f s) := by
  unfold forwardFrame
  extract_lets l0 l1 l2 l3
  have kl1 : Keeps zz l1 := by
    unfold l1
    repeat' first
      | with_reducible assumption | with_reducible apply count_keeps | (simp only [mk_keeps])
      | with_reducible apply foldl_keeps | split | intro _ _ _ | intro _ _ | extract_lets
      | (dsimp +zetaDelta only)
  clear_value l1
  have kl2 : Keeps zz l2 := by
    unfold l2
    repeat' first
      | with_reducible assumption | with_reducible apply count_keeps | (simp only [mk_keeps])
      | with_reducible apply foldl_keeps | split | intro _ _ _ | intro _ _ | extract_lets
      | (dsimp +zetaDelta only)
  clear_value l2
  repeat' first
    | with_reducible assumption | with_reducible apply count_keeps | with_reducible apply logSec_keeps
    | with_reducible apply passOn_keeps | (simp only [mk_keeps]) | with_reducible apply foldl_keeps | split
    | intro _ _ _ | intro _ _ | extract_lets | (dsimp +zetaDelta only)

theorem execDrlFrameForward_keeps {zz : State} {p : Fin 2} {f : List Byte} {res : Nat} {s : State}
    (hs : Keeps zz s) :
    KeepsOut zz (execDrlFrameForward p f res s) := by
  unfold execDrlFrameForward
  refine keepsOut_next ?_
  repeat' first
    | with_reducible assumption | with_reducible apply forwardFrame_keeps | (simp only [mk_keeps])
    | with_reducible apply foldl_keeps | split | intro _ _ _ | intro _ _ | extract_lets
    | (dsimp +zetaDelta only)

theorem execDrlPortDown_keeps {zz : State} {p : Fin 2} {s : State}
    (hs : Keeps zz s) :
    KeepsOut zz (execDrlPortDown p s) := by
  unfold execDrlPortDown
  refine keepsOut_next ?_
  repeat' first
    | with_reducible assumption | with_reducible apply portDown_keeps | (simp only [mk_keeps])
    | with_reducible apply foldl_keeps | split | intro _ _ _ | intro _ _ | extract_lets
    | (dsimp +zetaDelta only)

theorem portUp_keeps {zz : State} {p : Nat} {s : State}
    (hs : Keeps zz s) :
    Keeps zz (portUp p s) := by
  unfold portUp
  extract_lets l0 l1 l2 l3 l4
  have kl2 : Keeps zz l2 := by
    unfold l2
    repeat' first
      | with_reducible assumption | with_reducible apply setPtpPort_keeps | with_reducible apply set_keeps
      | (simp only [mk_keeps]) | with_reducible apply foldl_keeps | split | intro _ _ _ | intro _ _
      | extract_lets | (dsimp +zetaDelta only)
  clear_value l2
  have kl3 : Keeps zz l3 := by
    unfold l3
    repeat' first
      | with_reducible assumption | with_reducible apply deriveLat_keeps | (simp only [mk_keeps])
      | with_reducible apply foldl_keeps | split | intro _ _ _ | intro _ _ | extract_lets
      | (dsimp +zetaDelta only)
  clear_value l3
  have kl4 : Keeps zz l4 := by
    unfold l4
    repeat' first
      | with_reducible assumption | with_reducible apply log_keeps | with_reducible apply fire_keeps
      | (simp only [mk_keeps]) | with_reducible apply foldl_keeps | split | intro _ _ _ | intro _ _
      | extract_lets | (dsimp +zetaDelta only)
  clear_value l4
  repeat' first
    | with_reducible assumption | with_reducible apply setRing_keeps | (simp only [mk_keeps])
    | with_reducible apply foldl_keeps | split | intro _ _ _ | intro _ _ | extract_lets
    | (dsimp +zetaDelta only)

theorem execDrlPortUp_keeps {zz : State} {p : Fin 2} {s : State}
    (hs : Keeps zz s) :
    KeepsOut zz (execDrlPortUp p s) := by
  unfold execDrlPortUp
  refine keepsOut_next ?_
  repeat' first
    | with_reducible assumption | with_reducible apply portUp_keeps | (simp only [mk_keeps])
    | with_reducible apply foldl_keeps | split | intro _ _ _ | intro _ _ | extract_lets
    | (dsimp +zetaDelta only)

theorem slip_keeps {zz : State} {n : Nat} {x1 : Bool} {inPacket : Bool} {s : State}
    (hs : Keeps zz s) :
    Keeps zz (slip n x1 inPacket s) := by
  unfold slip
  extract_lets l0 l1 l2 l3 l4
  have kl2 : Keeps zz l2 := by
    unfold l2
    repeat' first
      | with_reducible assumption | with_reducible apply setLane_keeps | with_reducible apply count_keeps
      | (simp only [mk_keeps]) | with_reducible apply foldl_keeps | split | intro _ _ _ | intro _ _
      | extract_lets | (dsimp +zetaDelta only)
  clear_value l2
  have kl3 : Keeps zz l3 := by
    unfold l3
    repeat' first
      | with_reducible assumption | with_reducible apply log_keeps | (simp only [mk_keeps])
      | with_reducible apply foldl_keeps | split | intro _ _ _ | intro _ _ | extract_lets
      | (dsimp +zetaDelta only)
  clear_value l3
  have kl4 : Keeps zz l4 := by
    unfold l4
    repeat' first
      | with_reducible assumption | with_reducible apply count_keeps | (simp only [mk_keeps])
      | with_reducible apply foldl_keeps | split | intro _ _ _ | intro _ _ | extract_lets
      | (dsimp +zetaDelta only)
  clear_value l4
  repeat' first
    | with_reducible assumption | with_reducible apply count_keeps | (simp only [mk_keeps])
    | with_reducible apply foldl_keeps | split | intro _ _ _ | intro _ _ | extract_lets
    | (dsimp +zetaDelta only)

theorem execEbSlip_keeps {zz : State} {n : Fin 16} {x1 : Bool} {inPacket : Bool} {s : State}
    (hs : Keeps zz s) :
    KeepsOut zz (execEbSlip n x1 inPacket s) := by
  unfold execEbSlip
  refine keepsOut_next ?_
  repeat' first
    | with_reducible assumption | with_reducible apply onLane_keeps | with_reducible apply slip_keeps
    | (simp only [mk_keeps]) | with_reducible apply foldl_keeps | split | intro _ _ _ | intro _ _
    | extract_lets | (dsimp +zetaDelta only)

theorem execEchoReceived_keeps {zz : State} {g : Fin 16} {p : List Byte} {s : State}
    (hs : Keeps zz s) :
    KeepsOut zz (execEchoReceived g p s) := by
  unfold execEchoReceived
  refine keepsOut_next ?_
  repeat' first
    | with_reducible assumption | with_reducible apply onLane_keeps | with_reducible apply takePacket_keeps
    | with_reducible apply echoReceived_keeps | (simp only [mk_keeps]) | with_reducible apply foldl_keeps
    | split | intro _ _ _ | intro _ _ | extract_lets | (dsimp +zetaDelta only)

theorem execEntryCtlWrite_keeps {zz : State} {e : Fin 64} {v : Word} {s : State}
    (hs : Keeps zz s) :
    KeepsOut zz (execEntryCtlWrite e v s) := by
  unfold execEntryCtlWrite
  refine keepsOut_next ?_
  repeat' first
    | with_reducible assumption | with_reducible apply regWrite_keeps | (simp only [mk_keeps])
    | with_reducible apply foldl_keeps | split | intro _ _ _ | intro _ _ | extract_lets
    | (dsimp +zetaDelta only)

theorem execEnumEndReceived_keeps {zz : State} {p : Fin 2} {f : List Byte} {s : State}
    (hs : Keeps zz s) :
    KeepsOut zz (execEnumEndReceived p f s) := by
  unfold execEnumEndReceived
  refine keepsOut_next ?_
  repeat' first
    | with_reducible assumption | with_reducible apply enumEndIn_keeps | (simp only [mk_keeps])
    | with_reducible apply foldl_keeps | split | intro _ _ _ | intro _ _ | extract_lets
    | (dsimp +zetaDelta only)

theorem holdEnd_keeps {zz : State} {s : State}
    (hs : Keeps zz s) :
    Keeps zz (holdEnd s) := by
  unfold holdEnd
  extract_lets l0
  repeat' first
    | with_reducible assumption | with_reducible apply tryClaim_keeps | (simp only [mk_keeps])
    | with_reducible apply foldl_keeps | split | intro _ _ _ | intro _ _ | extract_lets
    | (dsimp +zetaDelta only)

theorem execEnumHoldEnd_keeps {zz : State} {s : State}
    (hs : Keeps zz s) :
    KeepsOut zz (execEnumHoldEnd s) := by
  unfold execEnumHoldEnd
  refine keepsOut_next ?_
  repeat' first
    | with_reducible assumption | with_reducible apply holdEnd_keeps | (simp only [mk_keeps])
    | with_reducible apply foldl_keeps | split | intro _ _ _ | intro _ _ | extract_lets
    | (dsimp +zetaDelta only)

theorem execEnumReceived_keeps {zz : State} {p : Fin 2} {f : List Byte} {s : State}
    (hs : Keeps zz s) :
    KeepsOut zz (execEnumReceived p f s) := by
  unfold execEnumReceived
  refine keepsOut_next ?_
  repeat' first
    | with_reducible assumption | with_reducible apply enumIn_keeps | (simp only [mk_keeps])
    | with_reducible apply foldl_keeps | split | intro _ _ _ | intro _ _ | extract_lets
    | (dsimp +zetaDelta only)

theorem execEnumTimeout_keeps {zz : State} {s : State}
    (hs : Keeps zz s) :
    KeepsOut zz (execEnumTimeout s) := by
  unfold execEnumTimeout
  refine keepsOut_next ?_
  repeat' first
    | with_reducible assumption | with_reducible apply enumTimeout_keeps | (simp only [mk_keeps])
    | with_reducible apply foldl_keeps | split | intro _ _ _ | intro _ _ | extract_lets
    | (dsimp +zetaDelta only)

theorem execErrRcntWrite_keeps {zz : State} {v : Word} {s : State}
    (hs : Keeps zz s) :
    KeepsOut zz (execErrRcntWrite v s) := by
  unfold execErrRcntWrite
  refine keepsOut_next ?_
  repeat' first
    | with_reducible assumption | with_reducible apply regWrite_keeps | (simp only [mk_keeps])
    | with_reducible apply foldl_keeps | split | intro _ _ _ | intro _ _ | extract_lets
    | (dsimp +zetaDelta only)

theorem raiseError_keeps {zz : State} {code : Nat} {ds : List Nat} {full : Bool} {s : State}
    (hs : Keeps zz s) :
    Keeps zz (raiseError code ds full s) := by
  unfold raiseError
  repeat' first
    | with_reducible assumption | with_reducible apply takeError_keeps | with_reducible apply log_keeps
    | (simp only [mk_keeps]) | with_reducible apply foldl_keeps | split | intro _ _ _ | intro _ _
    | extract_lets | (dsimp +zetaDelta only)

theorem execErrorRaise_keeps {zz : State} {code : BitVec 16} {d0 : Word} {d1 : Word} {d2 : Word} {d3 : Word} {full : Bool} {s : State}
    (hs : Keeps zz s) :
    KeepsOut zz (execErrorRaise code d0 d1 d2 d3 full s) := by
  unfold execErrorRaise
  refine keepsOut_next ?_
  repeat' first
    | with_reducible assumption | with_reducible apply raiseError_keeps | (simp only [mk_keeps])
    | with_reducible apply foldl_keeps | split | intro _ _ _ | intro _ _ | extract_lets
    | (dsimp +zetaDelta only)

theorem execErrorTagWrite_keeps {zz : State} {q : Fin 16384} {s : State}
    (hs : Keeps zz s) :
    KeepsOut zz (execErrorTagWrite q s) := by
  unfold execErrorTagWrite
  refine keepsOut_next ?_
  repeat' first
    | with_reducible assumption | with_reducible apply errorTagWrite_keeps | (simp only [mk_keeps])
    | with_reducible apply foldl_keeps | split | intro _ _ _ | intro _ _ | extract_lets
    | (dsimp +zetaDelta only)

theorem eyeRead_keeps {zz : State} {n : Nat} {s : State}
    (hs : Keeps zz s) :
    Keeps zz (eyeRead n s) := by
  unfold eyeRead
  repeat' first
    | with_reducible assumption | with_reducible apply wrapAdd_keeps | with_reducible apply emit_keeps
    | (simp only [mk_keeps]) | with_reducible apply foldl_keeps | split | intro _ _ _ | intro _ _
    | extract_lets | (dsimp +zetaDelta only)

theorem execEsdataRead_keeps {zz : State} {n : Fin 16} {s : State}
    (hs : Keeps zz s) :
    KeepsOut zz (execEsdataRead n s) := by
  unfold execEsdataRead
  refine keepsOut_next ?_
  repeat' first
    | with_reducible assumption | with_reducible apply hostRead_keeps | with_reducible apply eyeRead_keeps
    | (simp only [mk_keeps]) | with_reducible apply foldl_keeps | split | intro _ _ _ | intro _ _
    | extract_lets | (dsimp +zetaDelta only)

theorem execEventPresent_keeps {zz : State} {s : State}
    (hs : Keeps zz s) :
    KeepsOut zz (execEventPresent s) := by
  unfold execEventPresent
  refine keepsOut_next ?_
  repeat' first
    | with_reducible assumption | with_reducible apply eventPresent_keeps | (simp only [mk_keeps])
    | with_reducible apply foldl_keeps | split | intro _ _ _ | intro _ _ | extract_lets
    | (dsimp +zetaDelta only)

theorem execEvlastRead_keeps {zz : State} {s : State}
    (hs : Keeps zz s) :
    KeepsOut zz (execEvlastRead s) := by
  unfold execEvlastRead
  refine keepsOut_next ?_
  repeat' first
    | with_reducible assumption | with_reducible apply hostRead_keeps | with_reducible apply evlastRead_keeps
    | with_reducible apply emit_keeps | (simp only [mk_keeps]) | with_reducible apply foldl_keeps | split
    | intro _ _ _ | intro _ _ | extract_lets | (dsimp +zetaDelta only)

theorem execExpertClear_keeps {zz : State} {u : Fin 18} {s : State}
    (hs : Keeps zz s) :
    KeepsOut zz (execExpertClear u s) := by
  unfold execExpertClear
  refine keepsOut_next ?_
  repeat' first
    | with_reducible assumption | with_reducible apply regWrite_keeps | (simp only [mk_keeps])
    | with_reducible apply foldl_keeps | split | intro _ _ _ | intro _ _ | extract_lets
    | (dsimp +zetaDelta only)

theorem execExpertSet_keeps {zz : State} {u : Fin 18} {s : State}
    (hs : Keeps zz s) :
    KeepsOut zz (execExpertSet u s) := by
  unfold execExpertSet
  refine keepsOut_next ?_
  repeat' first
    | with_reducible assumption | with_reducible apply regWrite_keeps | (simp only [mk_keeps])
    | with_reducible apply foldl_keeps | split | intro _ _ _ | intro _ _ | extract_lets
    | (dsimp +zetaDelta only)

theorem farRefuse_keeps {zz : State} {isWrite : Bool} {offset : Nat} {cause : Nat} {s : State}
    (hs : Keeps zz s) :
    Keeps zz (farRefuse isWrite offset cause s) := by
  unfold farRefuse
  extract_lets l0
  have kl0 : Keeps zz l0 := by
    unfold l0
    repeat' first
      | with_reducible assumption | with_reducible apply farRecord_keeps | (simp only [mk_keeps])
      | with_reducible apply foldl_keeps | split | intro _ _ _ | intro _ _ | extract_lets
      | (dsimp +zetaDelta only)
  clear_value l0
  repeat' first
    | with_reducible assumption | with_reducible apply emit_keeps | with_reducible apply aerAbort_keeps
    | (simp only [mk_keeps]) | with_reducible apply foldl_keeps | split | intro _ _ _ | intro _ _
    | extract_lets | (dsimp +zetaDelta only)

theorem readVal_keeps {zz : State} {a : Nat} {s : State}
    (hs : Keeps zz s) :
    Keeps zz (readVal a s).2 := by
  unfold readVal
  repeat' first
    | with_reducible assumption | with_reducible apply free_keeps
    | with_reducible refine free_keeps' ?_ (by with_reducible assumption) | (simp only [mk_keeps])
    | with_reducible apply foldl_keeps | split | intro _ _ _ | intro _ _ | extract_lets
    | (dsimp +zetaDelta only)

theorem readVal_keeps' {zz t : State} {a : Nat} {s : State} {q}
    (hs : Keeps zz s) (e : (readVal a s) = (q, t)) :
    Keeps zz t := by
  have := readVal_keeps (a := a) (s := s) hs
  rw [e] at this
  exact this

theorem secRead_keeps {zz : State} {s : State}
    (hs : Keeps zz s) :
    Keeps zz (secRead s) := by
  unfold secRead
  extract_lets l0
  have kl0 : Keeps zz l0 := by
    unfold l0
    repeat' first
      | with_reducible assumption | with_reducible apply set_keeps | (simp only [mk_keeps])
      | with_reducible apply foldl_keeps | split | intro _ _ _ | intro _ _ | extract_lets
      | (dsimp +zetaDelta only)
  clear_value l0
  repeat' first
    | with_reducible assumption | with_reducible apply set_keeps | with_reducible apply emit_keeps
    | (simp only [mk_keeps]) | with_reducible apply foldl_keeps | split | intro _ _ _ | intro _ _
    | extract_lets | (dsimp +zetaDelta only)

theorem latchTimeRead_keeps {zz : State} {probe : Bool} {k : Nat} {s : State}
    (hs : Keeps zz s) :
    Keeps zz (latchTimeRead probe k s) := by
  unfold latchTimeRead
  repeat' first
    | with_reducible assumption | with_reducible apply set_keeps | with_reducible apply emit_keeps
    | (simp only [mk_keeps]) | with_reducible apply foldl_keeps | split | intro _ _ _ | intro _ _
    | extract_lets | (dsimp +zetaDelta only)

theorem readEffect_keeps {zz : State} {a : Nat} {s : State} (hs : Keeps zz s) : Keeps zz (readEffect a s) := by
  have hk : ∀ t, Keeps s t → Keeps zz { t with sent := s.sent } := fun t ht =>
    hs.trans ⟨ht.regs, ht.pending, ht.elapsed, ht.variant, ht.dsn, List.prefix_refl _, ht.free⟩
  unfold readEffect
  split
  · exact hs
  · split
    · exact hs
    · refine hk _ ?_
      split
      · split
        · exact secRead_keeps (Keeps.refl s)
        · exact Keeps.refl s
      · exact captRead_keeps (Keeps.refl s)
      · exact eyeRead_keeps (Keeps.refl s)
      · exact cntRead_keeps (Keeps.refl s)
      · exact latchTimeRead_keeps (Keeps.refl s)
      · exact latchTimeRead_keeps (Keeps.refl s)
      · exact evlastRead_keeps (Keeps.refl s)
      · exact Keeps.refl s

theorem readOp_keeps {zz : State} {a : Nat} {s : State}
    (hs : Keeps zz s) :
    Keeps zz (readOp a s).2 := by
  unfold readOp
  repeat' first
    | with_reducible assumption | with_reducible apply readVal_keeps
    | with_reducible refine readVal_keeps' ?_ (by with_reducible assumption)
    | with_reducible apply readEffect_keeps | (simp only [mk_keeps]) | with_reducible apply foldl_keeps
    | split | intro _ _ _ | intro _ _ | extract_lets | (dsimp +zetaDelta only)

theorem readOp_keeps' {zz t : State} {a : Nat} {s : State} {q}
    (hs : Keeps zz s) (e : (readOp a s) = (q, t)) :
    Keeps zz t := by
  have := readOp_keeps (a := a) (s := s) hs
  rw [e] at this
  exact this

theorem localRead_keeps {zz : State} {a : Nat} {s : State}
    (hs : Keeps zz s) :
    Keeps zz (localRead a s).2 := by
  unfold localRead
  repeat' first
    | with_reducible assumption | with_reducible apply readOp_keeps
    | with_reducible refine readOp_keeps' ?_ (by with_reducible assumption) | (simp only [mk_keeps])
    | with_reducible apply foldl_keeps | split | intro _ _ _ | intro _ _ | extract_lets
    | (dsimp +zetaDelta only)

theorem localRead_keeps' {zz t : State} {a : Nat} {s : State} {q}
    (hs : Keeps zz s) (e : (localRead a s) = (q, t)) :
    Keeps zz t := by
  have := localRead_keeps (a := a) (s := s) hs
  rw [e] at this
  exact this

theorem localReads_keeps {zz : State} {n a : Nat} {s : State} (hs : Keeps zz s) : Keeps zz (localReads n a s).2 := by
  induction n generalizing a s with
  | zero => exact hs
  | succ n ih => exact ih (localRead_keeps hs)

theorem localReads_keeps' {zz t : State} {n a : Nat} {s : State} {q} (hs : Keeps zz s)
    (e : localReads n a s = (q, t)) : Keeps zz t := by
  have := localReads_keeps (n := n) (a := a) hs
  rw [e] at this
  exact this

theorem farQueue_keeps {zz : State} {r : FarReq} {s : State}
    (hs : Keeps zz s) :
    Keeps zz (farQueue r s) := by
  unfold farQueue
  extract_lets l0
  repeat' first
    | with_reducible assumption | with_reducible apply farPump_keeps | with_reducible apply setFar_keeps
    | (simp only [mk_keeps]) | with_reducible apply foldl_keeps | split | intro _ _ _ | intro _ _
    | extract_lets | (dsimp +zetaDelta only)

theorem farRead_keeps {zz : State} {offset : Nat} {size : Nat} {s : State}
    (hs : Keeps zz s) :
    Keeps zz (farRead offset size s) := by
  unfold farRead
  repeat' first
    | with_reducible assumption | with_reducible apply unsupported_keeps
    | with_reducible apply farRefuse_keeps | with_reducible apply localReads_keeps
    | with_reducible refine localReads_keeps' ?_ (by with_reducible assumption)
    | with_reducible apply emit_keeps | with_reducible apply farQueue_keeps | (simp only [mk_keeps])
    | with_reducible apply foldl_keeps | split | intro _ _ _ | intro _ _ | extract_lets
    | (dsimp +zetaDelta only)

theorem execFarRead_keeps {zz : State} {offset : BitVec 28} {size : Nat} {s : State}
    (hs : Keeps zz s) :
    KeepsOut zz (execFarRead offset size s) := by
  unfold execFarRead
  refine keepsOut_next ?_
  repeat' first
    | with_reducible assumption | with_reducible apply farRead_keeps | (simp only [mk_keeps])
    | with_reducible apply foldl_keeps | split | intro _ _ _ | intro _ _ | extract_lets
    | (dsimp +zetaDelta only)

theorem execFarTimeout_keeps {zz : State} {id : Nat} {s : State}
    (hs : Keeps zz s) :
    KeepsOut zz (execFarTimeout id s) := by
  unfold execFarTimeout
  refine keepsOut_next ?_
  repeat' first
    | with_reducible assumption | with_reducible apply farFail_keeps | (simp only [mk_keeps])
    | with_reducible apply foldl_keeps | split | intro _ _ _ | intro _ _ | extract_lets
    | (dsimp +zetaDelta only)

theorem localWrite_keeps {zz : State} {a : Nat} {v : Nat} {s : State}
    (hs : Keeps zz s) :
    Keeps zz (localWrite a v s) := by
  unfold localWrite
  repeat' first
    | with_reducible assumption | with_reducible apply countInReset_keeps
    | with_reducible apply countEarly_keeps | with_reducible apply coreWrite_keeps | (simp only [mk_keeps])
    | with_reducible apply foldl_keeps | split | intro _ _ _ | intro _ _ | extract_lets
    | (dsimp +zetaDelta only)

theorem localWrites_keeps {zz : State} {a : Nat} {ws : List Nat} {s : State} (hs : Keeps zz s) :
    Keeps zz (localWrites a ws s) := by
  induction ws generalizing a s with
  | nil => exact hs
  | cons w t ih => exact ih (localWrite_keeps hs)

theorem farWrite_keeps {zz : State} {offset : Nat} {ws : List Nat} {s : State}
    (hs : Keeps zz s) :
    Keeps zz (farWrite offset ws s) := by
  unfold farWrite
  repeat' first
    | with_reducible assumption | with_reducible apply unsupported_keeps
    | with_reducible apply farRefuse_keeps | with_reducible apply localWrites_keeps
    | with_reducible apply farQueue_keeps | (simp only [mk_keeps]) | with_reducible apply foldl_keeps | split
    | intro _ _ _ | intro _ _ | extract_lets | (dsimp +zetaDelta only)

theorem execFarWrite_keeps {zz : State} {offset : BitVec 28} {data : List Word} {s : State}
    (hs : Keeps zz s) :
    KeepsOut zz (execFarWrite offset data s) := by
  unfold execFarWrite
  refine keepsOut_next ?_
  repeat' first
    | with_reducible assumption | with_reducible apply farWrite_keeps | (simp only [mk_keeps])
    | with_reducible apply foldl_keeps | split | intro _ _ _ | intro _ _ | extract_lets
    | (dsimp +zetaDelta only)

end Sys2Proof.Machine
end

