-- ==== Sys2Proof/Laws/Keeps4.lean ====
section
/-! SUPPORT. One lemma per operation, in the order in which the operations call each other: the operation keeps what `Keeps`
names (part 4 of 5). A lemma about a command says that it answers a next state that keeps it. -/

namespace Sys2Proof.Machine
set_option maxRecDepth 4000
set_option linter.all false

theorem outLinkLoss_keeps {zz : State} {x0 : State}
    (hx0 : Keeps zz x0) :
    Keeps zz (outLinkLoss x0) := by
  unfold outLinkLoss
  extract_lets l0 l1
  have kl0 : Keeps zz l0 := by
    unfold l0
    repeat' first
      | with_reducible assumption | with_reducible apply seeGuards_keeps | (simp only [mk_keeps])
      | with_reducible apply foldl_keeps | split | intro _ _ _ | intro _ _ | extract_lets
      | (dsimp +zetaDelta only)
  clear_value l0
  have kl1 : Keeps zz l1 := by
    unfold l1
    repeat' first
      | with_reducible assumption | with_reducible apply setStrobe_keeps | (simp only [mk_keeps])
      | with_reducible apply foldl_keeps | split | intro _ _ _ | intro _ _ | extract_lets
      | (dsimp +zetaDelta only)
  clear_value l1
  repeat' first
    | with_reducible assumption | with_reducible apply set_keeps | (simp only [mk_keeps])
    | with_reducible apply foldl_keeps | split | intro _ _ _ | intro _ _ | extract_lets
    | (dsimp +zetaDelta only)

theorem posLinkDown_keeps {zz : State} {s : State}
    (hs : Keeps zz s) :
    Keeps zz (posLinkDown s) := by
  unfold posLinkDown
  extract_lets l0
  repeat' first
    | with_reducible assumption | with_reducible apply stopChan_keeps | (simp only [mk_keeps])
    | with_reducible apply foldl_keeps | split | intro _ _ _ | intro _ _ | extract_lets
    | (dsimp +zetaDelta only)

theorem fieldLoss_keeps {zz : State} {s : State}
    (hs : Keeps zz s) :
    Keeps zz (fieldLoss s) := by
  unfold fieldLoss
  extract_lets l0 l1 l2
  have kl0 : Keeps zz l0 := by
    unfold l0
    repeat' first
      | with_reducible assumption | with_reducible apply outLinkLoss_keeps
      | with_reducible apply posLinkDown_keeps | (simp only [mk_keeps]) | with_reducible apply foldl_keeps
      | split | intro _ _ _ | intro _ _ | extract_lets | (dsimp +zetaDelta only)
  clear_value l0
  have kl1 : Keeps zz l1 := by
    unfold l1
    repeat' first
      | with_reducible assumption | with_reducible apply fire_keeps | (simp only [mk_keeps])
      | with_reducible apply foldl_keeps | split | intro _ _ _ | intro _ _ | extract_lets
      | (dsimp +zetaDelta only)
  clear_value l1
  repeat' first
    | with_reducible assumption | (simp only [mk_keeps]) | with_reducible apply foldl_keeps | split
    | intro _ _ _ | intro _ _ | extract_lets | (dsimp +zetaDelta only)

theorem execFieldLinkLoss_keeps {zz : State} {s : State}
    (hs : Keeps zz s) :
    KeepsOut zz (execFieldLinkLoss s) := by
  unfold execFieldLinkLoss
  refine keepsOut_next ?_
  repeat' first
    | with_reducible assumption | with_reducible apply fieldLoss_keeps | (simp only [mk_keeps])
    | with_reducible apply foldl_keeps | split | intro _ _ _ | intro _ _ | extract_lets
    | (dsimp +zetaDelta only)

theorem posLinkUp_keeps {zz : State} {s : State}
    (hs : Keeps zz s) :
    Keeps zz (posLinkUp s) := by
  unfold posLinkUp
  extract_lets l0 l1
  have kl1 : Keeps zz l1 := by
    unfold l1
    repeat' first
      | with_reducible assumption | (simp only [mk_keeps]) | with_reducible apply foldl_keeps | split
      | intro _ _ _ | intro _ _ | extract_lets | (dsimp +zetaDelta only)
  clear_value l1
  repeat' first
    | with_reducible assumption | with_reducible apply startChan_keeps | (simp only [mk_keeps])
    | with_reducible apply foldl_keeps | split | intro _ _ _ | intro _ _ | extract_lets
    | (dsimp +zetaDelta only)

theorem fieldReturn_keeps {zz : State} {s : State}
    (hs : Keeps zz s) :
    Keeps zz (fieldReturn s) := by
  unfold fieldReturn
  extract_lets l0
  repeat' first
    | with_reducible assumption | with_reducible apply posLinkUp_keeps | (simp only [mk_keeps])
    | with_reducible apply foldl_keeps | split | intro _ _ _ | intro _ _ | extract_lets
    | (dsimp +zetaDelta only)

theorem execFieldLinkReturn_keeps {zz : State} {s : State}
    (hs : Keeps zz s) :
    KeepsOut zz (execFieldLinkReturn s) := by
  unfold execFieldLinkReturn
  refine keepsOut_next ?_
  repeat' first
    | with_reducible assumption | with_reducible apply fieldReturn_keeps | (simp only [mk_keeps])
    | with_reducible apply foldl_keeps | split | intro _ _ _ | intro _ _ | extract_lets
    | (dsimp +zetaDelta only)

theorem fillBuf_keeps {zz : State} {data : List Nat} {s : State}
    (hs : Keeps zz s) :
    Keeps zz (fillBuf data s) := by
  unfold fillBuf
  extract_lets l0 l1
  repeat' first
    | with_reducible assumption | with_reducible apply set_keeps | (simp only [mk_keeps])
    | with_reducible apply foldl_keeps | split | intro _ _ _ | intro _ _ | extract_lets
    | (dsimp +zetaDelta only)

theorem fuses_keeps {zz s : State} {f : Fuses} (hs : Keeps zz s) (h1 : f.variant = s.fuses.variant)
    (h2 : f.dsn = s.fuses.dsn) : Keeps zz { s with fuses := f } :=
  hs.trans ⟨id, rfl, rfl, h1, h2, List.prefix_refl _, Nat.le_refl _⟩

theorem flashEnd_keeps {zz : State} {op : Nat} {data : List Nat} {failed : Bool} {s : State} (hs : Keeps zz s) :
    Keeps zz (flashEnd op data failed s) := by
  unfold flashEnd
  split
  · exact fillBuf_keeps hs
  · split
    · exact log_keeps (set_keeps hs)
    · exact hs
  · split
    · exact log_keeps (set_keeps hs)
    · exact hs
  · split
    · exact log_keeps (set_keeps hs)
    · exact hs
  · exact set_keeps hs
  · exact set_keeps hs
  · exact fuses_keeps hs rfl rfl
  · exact fuses_keeps hs rfl rfl
  · exact hs

theorem flashDone_keeps {zz : State} {data : List Nat} {failed : Bool} {s : State}
    (hs : Keeps zz s) :
    Keeps zz (flashDone data failed s) := by
  unfold flashDone
  extract_lets l0
  repeat' first
    | with_reducible assumption | with_reducible apply set_keeps | with_reducible apply flashEnd_keeps
    | (simp only [mk_keeps]) | with_reducible apply foldl_keeps | split | intro _ _ _ | intro _ _
    | extract_lets | (dsimp +zetaDelta only)

theorem execFlashCmdDone_keeps {zz : State} {data : List Byte} {failed : Bool} {s : State}
    (hs : Keeps zz s) :
    KeepsOut zz (execFlashCmdDone data failed s) := by
  unfold execFlashCmdDone
  refine keepsOut_next ?_
  repeat' first
    | with_reducible assumption | with_reducible apply flashDone_keeps | (simp only [mk_keeps])
    | with_reducible apply foldl_keeps | split | intro _ _ _ | intro _ _ | extract_lets
    | (dsimp +zetaDelta only)

theorem execFlashErase4k_keeps {zz : State} {s : State}
    (hs : Keeps zz s) :
    KeepsOut zz (execFlashErase4k s) := by
  unfold execFlashErase4k
  refine keepsOut_next ?_
  repeat' first
    | with_reducible assumption | with_reducible apply regWrite_keeps | (simp only [mk_keeps])
    | with_reducible apply foldl_keeps | split | intro _ _ _ | intro _ _ | extract_lets
    | (dsimp +zetaDelta only)

theorem execFlashErase64k_keeps {zz : State} {s : State}
    (hs : Keeps zz s) :
    KeepsOut zz (execFlashErase64k s) := by
  unfold execFlashErase64k
  refine keepsOut_next ?_
  repeat' first
    | with_reducible assumption | with_reducible apply regWrite_keeps | (simp only [mk_keeps])
    | with_reducible apply foldl_keeps | split | intro _ _ _ | intro _ _ | extract_lets
    | (dsimp +zetaDelta only)

theorem execFlashFloor_keeps {zz : State} {vpp : Bool} {s : State}
    (hs : Keeps zz s) :
    KeepsOut zz (execFlashFloor vpp s) := by
  unfold execFlashFloor
  refine keepsOut_next ?_
  repeat' first
    | with_reducible assumption | with_reducible apply hostGate_keeps | with_reducible apply fcmdWrite_keeps
    | (simp only [mk_keeps]) | with_reducible apply foldl_keeps | split | intro _ _ _ | intro _ _
    | extract_lets | (dsimp +zetaDelta only)

theorem execFlashKeyhash_keeps {zz : State} {vpp : Bool} {s : State}
    (hs : Keeps zz s) :
    KeepsOut zz (execFlashKeyhash vpp s) := by
  unfold execFlashKeyhash
  refine keepsOut_next ?_
  repeat' first
    | with_reducible assumption | with_reducible apply hostGate_keeps | with_reducible apply fcmdWrite_keeps
    | (simp only [mk_keeps]) | with_reducible apply foldl_keeps | split | intro _ _ _ | intro _ _
    | extract_lets | (dsimp +zetaDelta only)

theorem execFlashProgram_keeps {zz : State} {s : State}
    (hs : Keeps zz s) :
    KeepsOut zz (execFlashProgram s) := by
  unfold execFlashProgram
  refine keepsOut_next ?_
  repeat' first
    | with_reducible assumption | with_reducible apply regWrite_keeps | (simp only [mk_keeps])
    | with_reducible apply foldl_keeps | split | intro _ _ _ | intro _ _ | extract_lets
    | (dsimp +zetaDelta only)

theorem execFlashRead_keeps {zz : State} {s : State}
    (hs : Keeps zz s) :
    KeepsOut zz (execFlashRead s) := by
  unfold execFlashRead
  refine keepsOut_next ?_
  repeat' first
    | with_reducible assumption | with_reducible apply regWrite_keeps | (simp only [mk_keeps])
    | with_reducible apply foldl_keeps | split | intro _ _ _ | intro _ _ | extract_lets
    | (dsimp +zetaDelta only)

theorem execFlashReload_keeps {zz : State} {s : State}
    (hs : Keeps zz s) :
    KeepsOut zz (execFlashReload s) := by
  unfold execFlashReload
  refine keepsOut_next ?_
  repeat' first
    | with_reducible assumption | with_reducible apply regWrite_keeps | (simp only [mk_keeps])
    | with_reducible apply foldl_keeps | split | intro _ _ _ | intro _ _ | extract_lets
    | (dsimp +zetaDelta only)

theorem execFlashUnlock_keeps {zz : State} {key : Word} {s : State}
    (hs : Keeps zz s) :
    KeepsOut zz (execFlashUnlock key s) := by
  unfold execFlashUnlock
  refine keepsOut_next ?_
  repeat' first
    | with_reducible assumption | with_reducible apply regWrite_keeps | (simp only [mk_keeps])
    | with_reducible apply foldl_keeps | split | intro _ _ _ | intro _ _ | extract_lets
    | (dsimp +zetaDelta only)

theorem execFlashVerifya_keeps {zz : State} {s : State}
    (hs : Keeps zz s) :
    KeepsOut zz (execFlashVerifya s) := by
  unfold execFlashVerifya
  refine keepsOut_next ?_
  repeat' first
    | with_reducible assumption | with_reducible apply regWrite_keeps | (simp only [mk_keeps])
    | with_reducible apply foldl_keeps | split | intro _ _ _ | intro _ _ | extract_lets
    | (dsimp +zetaDelta only)

theorem execFlashVerifyb_keeps {zz : State} {s : State}
    (hs : Keeps zz s) :
    KeepsOut zz (execFlashVerifyb s) := by
  unfold execFlashVerifyb
  refine keepsOut_next ?_
  repeat' first
    | with_reducible assumption | with_reducible apply regWrite_keeps | (simp only [mk_keeps])
    | with_reducible apply foldl_keeps | split | intro _ _ _ | intro _ _ | extract_lets
    | (dsimp +zetaDelta only)

theorem flrDone_keeps {zz : State} {s : State}
    (hs : Keeps zz s) :
    Keeps zz (flrDone s) := by
  unfold flrDone
  extract_lets l0
  have kl0 : Keeps zz l0 := by
    unfold l0
    repeat' first
      | with_reducible assumption | with_reducible apply set_keeps | (simp only [mk_keeps])
      | with_reducible apply foldl_keeps | split | intro _ _ _ | intro _ _ | extract_lets
      | (dsimp +zetaDelta only)
  clear_value l0
  repeat' first
    | with_reducible assumption | with_reducible apply set_keeps | with_reducible apply settleBridge_keeps
    | (simp only [mk_keeps]) | with_reducible apply foldl_keeps | split | intro _ _ _ | intro _ _
    | extract_lets | (dsimp +zetaDelta only)

theorem execFlrDone_keeps {zz : State} {s : State}
    (hs : Keeps zz s) :
    KeepsOut zz (execFlrDone s) := by
  unfold execFlrDone
  refine keepsOut_next ?_
  repeat' first
    | with_reducible assumption | with_reducible apply flrDone_keeps | (simp only [mk_keeps])
    | with_reducible apply foldl_keeps | split | intro _ _ _ | intro _ _ | extract_lets
    | (dsimp +zetaDelta only)

theorem execFlrStart_keeps {zz : State} {s : State}
    (hs : Keeps zz s) :
    KeepsOut zz (execFlrStart s) := by
  unfold execFlrStart
  refine keepsOut_next ?_
  repeat' first
    | with_reducible assumption | with_reducible apply enterReached_keeps
    | with_reducible apply flrStart_keeps | (simp only [mk_keeps]) | with_reducible apply foldl_keeps | split
    | intro _ _ _ | intro _ _ | extract_lets | (dsimp +zetaDelta only)

theorem servoLoop_keeps {zz : State} {x : Int} {s : State}
    (hs : Keeps zz s) :
    Keeps zz (servoLoop x s) := by
  unfold servoLoop
  extract_lets l0 l1 l2 l3 l4 l5 l6
  have kl2 : Keeps zz l2 := by
    unfold l2
    repeat' first
      | with_reducible assumption | with_reducible apply writeAdj_keeps | (simp only [mk_keeps])
      | with_reducible apply foldl_keeps | split | intro _ _ _ | intro _ _ | extract_lets
      | (dsimp +zetaDelta only)
  clear_value l2
  have kl6 : Keeps zz l6 := by
    unfold l6
    repeat' first
      | with_reducible assumption | (simp only [mk_keeps]) | with_reducible apply foldl_keeps | split
      | intro _ _ _ | intro _ _ | extract_lets | (dsimp +zetaDelta only)
  clear_value l6
  repeat' first
    | with_reducible assumption | with_reducible apply enterTim_keeps | (simp only [mk_keeps])
    | with_reducible apply foldl_keeps | split | intro _ _ _ | intro _ _ | extract_lets
    | (dsimp +zetaDelta only)

theorem servoTrack_keeps {zz : State} {x : Int} {s : State}
    (hs : Keeps zz s) :
    Keeps zz (servoTrack x s) := by
  unfold servoTrack
  extract_lets l0 l1 l2
  have kl2 : Keeps zz l2 := by
    unfold l2
    repeat' first
      | with_reducible assumption | (simp only [mk_keeps]) | with_reducible apply foldl_keeps | split
      | intro _ _ _ | intro _ _ | extract_lets | (dsimp +zetaDelta only)
  clear_value l2
  repeat' first
    | with_reducible assumption | with_reducible apply rearm_keeps | with_reducible apply servoLoop_keeps
    | with_reducible apply enterTim_keeps | with_reducible apply logRun_keeps
    | with_reducible apply endRun_keeps | (simp only [mk_keeps]) | with_reducible apply foldl_keeps | split
    | intro _ _ _ | intro _ _ | extract_lets | (dsimp +zetaDelta only)

theorem learnFreq_keeps {zz : State} {dm : Int} {dl : Int} {s : State}
    (hs : Keeps zz s) :
    Keeps zz (learnFreq dm dl s) := by
  unfold learnFreq
  extract_lets l0
  repeat' first
    | with_reducible assumption | with_reducible apply free_keeps
    | with_reducible refine free_keeps' ?_ (by with_reducible assumption) | (simp only [mk_keeps])
    | with_reducible apply foldl_keeps | split | intro _ _ _ | intro _ _ | extract_lets
    | (dsimp +zetaDelta only)

theorem servoLoad_keeps {zz : State} {x : Int} {m : Int} {l : Int} {s : State}
    (hs : Keeps zz s) :
    Keeps zz (servoLoad x m l s) := by
  unfold servoLoad
  extract_lets l0
  repeat' first
    | with_reducible assumption | with_reducible apply learnFreq_keeps | with_reducible apply writeAdj_keeps
    | with_reducible apply showBusy_keeps | with_reducible apply enterTim_keeps | (simp only [mk_keeps])
    | with_reducible apply foldl_keeps | split | intro _ _ _ | intro _ _ | extract_lets
    | (dsimp +zetaDelta only)

theorem timSample_keeps {zz : State} {x : Int} {m : Int} {l : Int} {s : State}
    (hs : Keeps zz s) :
    Keeps zz (timSample x m l s) := by
  unfold timSample
  extract_lets l0 l1 l2
  have kl0 : Keeps zz l0 := by
    unfold l0
    repeat' first
      | with_reducible assumption | with_reducible apply set_keeps | (simp only [mk_keeps])
      | with_reducible apply foldl_keeps | split | intro _ _ _ | intro _ _ | extract_lets
      | (dsimp +zetaDelta only)
  clear_value l0
  repeat' first
    | with_reducible assumption | with_reducible apply enterTim_keeps | with_reducible apply showBusy_keeps
    | with_reducible apply servoTrack_keeps | with_reducible apply servoLoad_keeps | (simp only [mk_keeps])
    | with_reducible apply foldl_keeps | split | intro _ _ _ | intro _ _ | extract_lets
    | (dsimp +zetaDelta only)

theorem slaveSample_keeps {zz : State} {p : Nat} {t1 : Int} {rx : Int} {s : State}
    (hs : Keeps zz s) :
    Keeps zz (slaveSample p t1 rx s) := by
  unfold slaveSample
  extract_lets l0 l1
  repeat' first
    | with_reducible assumption | with_reducible apply timSample_keeps | (simp only [mk_keeps])
    | with_reducible apply foldl_keeps | split | intro _ _ _ | intro _ _ | extract_lets
    | (dsimp +zetaDelta only)

theorem followIn_keeps {zz : State} {p : Nat} {m : List Nat} {s : State}
    (hs : Keeps zz s) :
    Keeps zz (followIn p m s) := by
  unfold followIn
  extract_lets l0 l1
  have kl0 : Keeps zz l0 := by
    unfold l0
    repeat' first
      | with_reducible assumption | with_reducible apply rawMsg_keeps | (simp only [mk_keeps])
      | with_reducible apply foldl_keeps | split | intro _ _ _ | intro _ _ | extract_lets
      | (dsimp +zetaDelta only)
  clear_value l0
  repeat' first
    | with_reducible assumption | with_reducible apply slaveSample_keeps | (simp only [mk_keeps])
    | with_reducible apply foldl_keeps | split | intro _ _ _ | intro _ _ | extract_lets
    | (dsimp +zetaDelta only)

theorem execFollowUpReceived_keeps {zz : State} {p : Fin 2} {f : List Byte} {s : State}
    (hs : Keeps zz s) :
    KeepsOut zz (execFollowUpReceived p f s) := by
  unfold execFollowUpReceived
  refine keepsOut_next ?_
  repeat' first
    | with_reducible assumption | with_reducible apply ptpTake_keeps | with_reducible apply followIn_keeps
    | (simp only [mk_keeps]) | with_reducible apply foldl_keeps | split | intro _ _ _ | intro _ _
    | extract_lets | (dsimp +zetaDelta only)

theorem execForeignMasterTimeout_keeps {zz : State} {k : Fin 4} {s : State}
    (hs : Keeps zz s) :
    KeepsOut zz (execForeignMasterTimeout k s) := by
  unfold execForeignMasterTimeout
  refine keepsOut_next ?_
  repeat' first
    | with_reducible assumption | with_reducible apply reselect_keeps | (simp only [mk_keeps])
    | with_reducible apply foldl_keeps | split | intro _ _ _ | intro _ _ | extract_lets
    | (dsimp +zetaDelta only)

theorem frameEnd_keeps {zz : State} {g : Nat} {p : List Nat} {s : State}
    (hs : Keeps zz s) :
    Keeps zz (frameEnd g p s) := by
  unfold frameEnd
  repeat' first
    | with_reducible assumption | with_reducible apply discardPkt_keeps
    | with_reducible apply closeClpFrame_keeps | (simp only [mk_keeps]) | with_reducible apply foldl_keeps
    | split | intro _ _ _ | intro _ _ | extract_lets | (dsimp +zetaDelta only)

theorem execFrameEndReceived_keeps {zz : State} {g : Fin 16} {p : List Byte} {s : State}
    (hs : Keeps zz s) :
    KeepsOut zz (execFrameEndReceived g p s) := by
  unfold execFrameEndReceived
  refine keepsOut_next ?_
  repeat' first
    | with_reducible assumption | with_reducible apply onLane_keeps | with_reducible apply takePacket_keeps
    | with_reducible apply relReceive_keeps | with_reducible apply frameEnd_keeps | (simp only [mk_keeps])
    | with_reducible apply foldl_keeps | split | intro _ _ _ | intro _ _ | extract_lets
    | (dsimp +zetaDelta only)

theorem frameMark_keeps {zz : State} {f : List Nat} {ack : Bool} {tail : Bool} {s : State}
    (hs : Keeps zz s) :
    Keeps zz (frameMark f ack tail s) := by
  unfold frameMark
  extract_lets l0
  repeat' first
    | with_reducible assumption | with_reducible apply bwAbandon_keeps | with_reducible apply bwSettle_keeps
    | with_reducible apply setBwLines_keeps | with_reducible apply setBwState_keeps
    | with_reducible apply bwJudge_keeps
    | with_reducible refine bwJudge_keeps' ?_ (by with_reducible assumption) | with_reducible apply emit_keeps
    | with_reducible apply bwAccept_keeps | (simp only [mk_keeps]) | with_reducible apply foldl_keeps | split
    | intro _ _ _ | intro _ _ | extract_lets | (dsimp +zetaDelta only)

theorem execFrameMark_keeps {zz : State} {f : List Byte} {ack : Bool} {tail : Bool} {s : State}
    (hs : Keeps zz s) :
    KeepsOut zz (execFrameMark f ack tail s) := by
  unfold execFrameMark
  refine keepsOut_next ?_
  repeat' first
    | with_reducible assumption | with_reducible apply frameMark_keeps | (simp only [mk_keeps])
    | with_reducible apply foldl_keeps | split | intro _ _ _ | intro _ _ | extract_lets
    | (dsimp +zetaDelta only)

theorem patchTimes_keeps {zz : State} {f : Feed} {s : State}
    (hs : Keeps zz s) :
    Keeps zz (patchTimes f s) := by
  unfold patchTimes
  repeat' first
    | with_reducible assumption | with_reducible apply mapItem_keeps | (simp only [mk_keeps])
    | with_reducible apply foldl_keeps | split | intro _ _ _ | intro _ _ | extract_lets
    | (dsimp +zetaDelta only)

theorem takeFirst_keeps {zz : State} {st : Nat} {s : State}
    (hs : Keeps zz s) :
    Keeps zz (takeFirst st s).2 := by
  unfold takeFirst
  extract_lets l0
  repeat' first
    | with_reducible assumption | (simp only [mk_keeps]) | with_reducible apply foldl_keeps | split
    | intro _ _ _ | intro _ _ | extract_lets | (dsimp +zetaDelta only)

theorem takeFirst_keeps' {zz t : State} {st : Nat} {s : State} {q}
    (hs : Keeps zz s) (e : (takeFirst st s) = (q, t)) :
    Keeps zz t := by
  have := takeFirst_keeps (st := st) (s := s) hs
  rw [e] at this
  exact this

theorem takeSeq_keeps {zz : State} {st : Nat} {s : State}
    (hs : Keeps zz s) :
    Keeps zz (takeSeq st s).2 := by
  unfold takeSeq
  repeat' first
    | with_reducible assumption | with_reducible apply wrapAdd_keeps | (simp only [mk_keeps])
    | with_reducible apply foldl_keeps | split | intro _ _ _ | intro _ _ | extract_lets
    | (dsimp +zetaDelta only)

theorem takeSeq_keeps' {zz t : State} {st : Nat} {s : State} {q}
    (hs : Keeps zz s) (e : (takeSeq st s) = (q, t)) :
    Keeps zz t := by
  have := takeSeq_keeps (st := st) (s := s) hs
  rw [e] at this
  exact this

theorem newItem_keeps {zz : State} {source : Nat} {ix : Nat} {st : Nat} {kind : Nat} {region : Nat} {mapIx : Nat} {seq : Nat} {flags : Nat} {hold : Nat} {body : List Nat} {s : State}
    (hs : Keeps zz s) :
    Keeps zz (newItem source ix st kind region mapIx seq flags hold body s).2 := by
  unfold newItem
  repeat' first
    | with_reducible assumption | with_reducible apply createItem_keeps | (simp only [mk_keeps])
    | with_reducible apply foldl_keeps | split | intro _ _ _ | intro _ _ | extract_lets
    | (dsimp +zetaDelta only)

theorem newItem_keeps' {zz t : State} {source : Nat} {ix : Nat} {st : Nat} {kind : Nat} {region : Nat} {mapIx : Nat} {seq : Nat} {flags : Nat} {hold : Nat} {body : List Nat} {s : State} {q}
    (hs : Keeps zz s) (e : (newItem source ix st kind region mapIx seq flags hold body s) = (q, t)) :
    Keeps zz t := by
  have := newItem_keeps (source := source) (ix := ix) (st := st) (kind := kind) (region := region) (mapIx := mapIx) (seq := seq) (flags := flags) (hold := hold) (body := body) (s := s) hs
  rw [e] at this
  exact this

theorem openPicture_keeps {zz : State} {f : Feed} {w : Nat} {h : Nat} {s : State}
    (hs : Keeps zz s) :
    Keeps zz (openPicture f w h s).2 := by
  unfold openPicture
  extract_lets l0 l1 l2
  repeat' first
    | with_reducible assumption | with_reducible apply log_keeps | with_reducible apply takeSeq_keeps
    | with_reducible refine takeSeq_keeps' ?_ (by with_reducible assumption)
    | with_reducible apply newItem_keeps
    | with_reducible refine newItem_keeps' ?_ (by with_reducible assumption) | (simp only [mk_keeps])
    | with_reducible apply foldl_keeps | split | intro _ _ _ | intro _ _ | extract_lets
    | (dsimp +zetaDelta only)

theorem openPicture_keeps' {zz t : State} {f : Feed} {w : Nat} {h : Nat} {s : State} {q}
    (hs : Keeps zz s) (e : (openPicture f w h s) = (q, t)) :
    Keeps zz t := by
  have := openPicture_keeps (f := f) (w := w) (h := h) (s := s) hs
  rw [e] at this
  exact this

theorem openFeed_keeps {zz : State} {f0 : Feed} {s : State}
    (hs : Keeps zz s) :
    Keeps zz (openFeed f0 s).2 := by
  unfold openFeed
  repeat' first
    | with_reducible assumption | with_reducible apply takeFirst_keeps
    | with_reducible refine takeFirst_keeps' ?_ (by with_reducible assumption)
    | with_reducible apply openPicture_keeps
    | with_reducible refine openPicture_keeps' ?_ (by with_reducible assumption) | (simp only [mk_keeps])
    | with_reducible apply foldl_keeps | split | intro _ _ _ | intro _ _ | extract_lets
    | (dsimp +zetaDelta only)

theorem openFeed_keeps' {zz t : State} {f0 : Feed} {s : State} {q}
    (hs : Keeps zz s) (e : (openFeed f0 s) = (q, t)) :
    Keeps zz t := by
  have := openFeed_keeps (f0 := f0) (s := s) hs
  rw [e] at this
  exact this

theorem openClp_keeps {zz : State} {g : Nat} {st : Nat} {f : Feed} {s : State}
    (hs : Keeps zz s) :
    Keeps zz (openClp g st f s) := by
  unfold openClp
  repeat' first
    | with_reducible assumption | with_reducible apply openFeed_keeps
    | with_reducible refine openFeed_keeps' ?_ (by with_reducible assumption)
    | with_reducible apply fire_keeps | (simp only [mk_keeps]) | with_reducible apply foldl_keeps | split
    | intro _ _ _ | intro _ _ | extract_lets | (dsimp +zetaDelta only)

theorem frameStart_keeps {zz : State} {g : Nat} {p : List Nat} {s : State}
    (hs : Keeps zz s) :
    Keeps zz (frameStart g p s) := by
  unfold frameStart
  extract_lets l0 l1 l2 l3
  repeat' first
    | with_reducible assumption | with_reducible apply discardPkt_keeps | with_reducible apply log_keeps
    | with_reducible apply setBusy_keeps | with_reducible apply patchTimes_keeps
    | with_reducible apply setFeed_keeps | with_reducible apply truncateClp_keeps
    | with_reducible apply openClp_keeps | (simp only [mk_keeps]) | with_reducible apply foldl_keeps | split
    | intro _ _ _ | intro _ _ | extract_lets | (dsimp +zetaDelta only)

theorem execFrameStartReceived_keeps {zz : State} {g : Fin 16} {p : List Byte} {s : State}
    (hs : Keeps zz s) :
    KeepsOut zz (execFrameStartReceived g p s) := by
  unfold execFrameStartReceived
  refine keepsOut_next ?_
  repeat' first
    | with_reducible assumption | with_reducible apply onLane_keeps | with_reducible apply takePacket_keeps
    | with_reducible apply relReceive_keeps | with_reducible apply frameStart_keeps | (simp only [mk_keeps])
    | with_reducible apply foldl_keeps | split | intro _ _ _ | intro _ _ | extract_lets
    | (dsimp +zetaDelta only)

theorem execFrameTimeout_keeps {zz : State} {st : Fin 64} {s : State}
    (hs : Keeps zz s) :
    KeepsOut zz (execFrameTimeout st s) := by
  unfold execFrameTimeout
  refine keepsOut_next ?_
  repeat' first
    | with_reducible assumption | with_reducible apply truncateClp_keeps | (simp only [mk_keeps])
    | with_reducible apply foldl_keeps | split | intro _ _ _ | intro _ _ | extract_lets
    | (dsimp +zetaDelta only)

theorem execFramingError_keeps {zz : State} {s : State}
    (hs : Keeps zz s) :
    KeepsOut zz (execFramingError s) := by
  unfold execFramingError
  refine keepsOut_next ?_
  repeat' first
    | with_reducible assumption | with_reducible apply bwAbandon_keeps | (simp only [mk_keeps])
    | with_reducible apply foldl_keeps | split | intro _ _ _ | intro _ _ | extract_lets
    | (dsimp +zetaDelta only)

theorem refuseStep_keeps {zz : State} {kind : Nat} {s : State}
    (hs : Keeps zz s) :
    Keeps zz (refuseStep kind s) := by
  unfold refuseStep
  repeat' first
    | with_reducible assumption | with_reducible apply log_keeps | with_reducible apply count_keeps
    | (simp only [mk_keeps]) | with_reducible apply foldl_keeps | split | intro _ _ _ | intro _ _
    | extract_lets | (dsimp +zetaDelta only)

theorem loadApply_keeps {zz : State} {s : State}
    (hs : Keeps zz s) :
    Keeps zz (loadApply s) := by
  unfold loadApply
  extract_lets l0 l1 l2 l3 l4
  have kl1 : Keeps zz l1 := by
    unfold l1
    repeat' first
      | with_reducible assumption | with_reducible apply showBusy_keeps | (simp only [mk_keeps])
      | with_reducible apply foldl_keeps | split | intro _ _ _ | intro _ _ | extract_lets
      | (dsimp +zetaDelta only)
  clear_value l1
  have kl3 : Keeps zz l3 := by
    unfold l3
    repeat' first
      | with_reducible assumption | with_reducible apply set_keeps | (simp only [mk_keeps])
      | with_reducible apply foldl_keeps | split | intro _ _ _ | intro _ _ | extract_lets
      | (dsimp +zetaDelta only)
  clear_value l3
  have kl4 : Keeps zz l4 := by
    unfold l4
    repeat' first
      | with_reducible assumption | with_reducible apply set_keeps | (simp only [mk_keeps])
      | with_reducible apply foldl_keeps | split | intro _ _ _ | intro _ _ | extract_lets
      | (dsimp +zetaDelta only)
  clear_value l4
  repeat' first
    | with_reducible assumption | with_reducible apply refuseStep_keeps | with_reducible apply enterTim_keeps
    | (simp only [mk_keeps]) | with_reducible apply foldl_keeps | split | intro _ _ _ | intro _ _
    | extract_lets | (dsimp +zetaDelta only)

theorem execFreqLoadApply_keeps {zz : State} {s : State}
    (hs : Keeps zz s) :
    KeepsOut zz (execFreqLoadApply s) := by
  unfold execFreqLoadApply
  refine keepsOut_next ?_
  repeat' first
    | with_reducible assumption | with_reducible apply loadApply_keeps | (simp only [mk_keeps])
    | with_reducible apply foldl_keeps | split | intro _ _ _ | intro _ _ | extract_lets
    | (dsimp +zetaDelta only)

theorem execFreqLoadGo_keeps {zz : State} {v : Word} {s : State}
    (hs : Keeps zz s) :
    KeepsOut zz (execFreqLoadGo v s) := by
  unfold execFreqLoadGo
  refine keepsOut_next ?_
  repeat' first
    | with_reducible assumption | with_reducible apply regWrite_keeps | (simp only [mk_keeps])
    | with_reducible apply foldl_keeps | split | intro _ _ _ | intro _ _ | extract_lets
    | (dsimp +zetaDelta only)

theorem formTimeout_keeps {zz : State} {g : Nat} {s : State}
    (hs : Keeps zz s) :
    Keeps zz (formTimeout g s) := by
  unfold formTimeout
  repeat' first
    | with_reducible assumption | with_reducible apply groupLinked_keeps | (simp only [mk_keeps])
    | with_reducible apply foldl_keeps | split | intro _ _ _ | intro _ _ | extract_lets
    | (dsimp +zetaDelta only)

theorem execGroupFormTimeout_keeps {zz : State} {g : Fin 16} {s : State}
    (hs : Keeps zz s) :
    KeepsOut zz (execGroupFormTimeout g s) := by
  unfold execGroupFormTimeout
  refine keepsOut_next ?_
  repeat' first
    | with_reducible assumption | with_reducible apply onLane_keeps | with_reducible apply formTimeout_keeps
    | (simp only [mk_keeps]) | with_reducible apply foldl_keeps | split | intro _ _ _ | intro _ _
    | extract_lets | (dsimp +zetaDelta only)

theorem judgeSuppressed_keeps {zz : State} {k : Nat} {s : State}
    (hs : Keeps zz s) :
    Keeps zz (judgeSuppressed k s) := by
  unfold judgeSuppressed
  extract_lets l0
  repeat' first
    | with_reducible assumption | with_reducible apply count_keeps | with_reducible apply setStrobe_keeps
    | (simp only [mk_keeps]) | with_reducible apply foldl_keeps | split | intro _ _ _ | intro _ _
    | extract_lets | (dsimp +zetaDelta only)

theorem guardClear_keeps {zz : State} {k : Nat} {x1 : State}
    (hx1 : Keeps zz x1) :
    Keeps zz (guardClear k x1) := by
  unfold guardClear
  extract_lets l0
  have kl0 : Keeps zz l0 := by
    unfold l0
    repeat' first
      | with_reducible assumption | with_reducible apply seeGuard_keeps | (simp only [mk_keeps])
      | with_reducible apply foldl_keeps | split | intro _ _ _ | intro _ _ | extract_lets
      | (dsimp +zetaDelta only)
  clear_value l0
  repeat' first
    | with_reducible assumption | with_reducible apply set_keeps | with_reducible apply judgeSuppressed_keeps
    | (simp only [mk_keeps]) | with_reducible apply foldl_keeps | split | intro _ _ _ | intro _ _
    | extract_lets | (dsimp +zetaDelta only)

theorem execGuardClear_keeps {zz : State} {k : Fin 8} {s : State}
    (hs : Keeps zz s) :
    KeepsOut zz (execGuardClear k s) := by
  unfold execGuardClear
  refine keepsOut_next ?_
  repeat' first
    | with_reducible assumption | with_reducible apply guardClear_keeps | (simp only [mk_keeps])
    | with_reducible apply foldl_keeps | split | intro _ _ _ | intro _ _ | extract_lets
    | (dsimp +zetaDelta only)

theorem guardTrip_keeps {zz : State} {k : Nat} {x1 : State}
    (hx1 : Keeps zz x1) :
    Keeps zz (guardTrip k x1) := by
  unfold guardTrip
  extract_lets l0 l1 l2 l3 l4 l5
  have kl0 : Keeps zz l0 := by
    unfold l0
    repeat' first
      | with_reducible assumption | with_reducible apply seeGuard_keeps | (simp only [mk_keeps])
      | with_reducible apply foldl_keeps | split | intro _ _ _ | intro _ _ | extract_lets
      | (dsimp +zetaDelta only)
  clear_value l0
  have kl5 : Keeps zz l5 := by
    unfold l5
    repeat' first
      | with_reducible assumption | with_reducible apply count_keeps | with_reducible apply set_keeps
      | with_reducible apply setStrobe_keeps | (simp only [mk_keeps]) | with_reducible apply foldl_keeps
      | split | intro _ _ _ | intro _ _ | extract_lets | (dsimp +zetaDelta only)
  clear_value l5
  repeat' first
    | with_reducible assumption | with_reducible apply log_keeps | with_reducible apply fire_keeps
    | (simp only [mk_keeps]) | with_reducible apply foldl_keeps | split | intro _ _ _ | intro _ _
    | extract_lets | (dsimp +zetaDelta only)

theorem execGuardTrip_keeps {zz : State} {k : Fin 8} {s : State}
    (hs : Keeps zz s) :
    KeepsOut zz (execGuardTrip k s) := by
  unfold execGuardTrip
  refine keepsOut_next ?_
  repeat' first
    | with_reducible assumption | with_reducible apply guardTrip_keeps | (simp only [mk_keeps])
    | with_reducible apply foldl_keeps | split | intro _ _ _ | intro _ _ | extract_lets
    | (dsimp +zetaDelta only)

theorem heldAccept_keeps {zz : State} {i : Nat} {s : State}
    (hs : Keeps zz s) :
    Keeps zz (heldAccept i s) := by
  unfold heldAccept
  extract_lets l0 l1 l2
  have kl0 : Keeps zz l0 := by
    unfold l0
    repeat' first
      | with_reducible assumption | with_reducible apply setBusy_keeps | (simp only [mk_keeps])
      | with_reducible apply foldl_keeps | split | intro _ _ _ | intro _ _ | extract_lets
      | (dsimp +zetaDelta only)
  clear_value l0
  have kl2 : Keeps zz l2 := by
    unfold l2
    repeat' first
      | with_reducible assumption | with_reducible apply set_keeps | with_reducible apply setCon_keeps
      | (simp only [mk_keeps]) | with_reducible apply foldl_keeps | split | intro _ _ _ | intro _ _
      | extract_lets | (dsimp +zetaDelta only)
  clear_value l2
  repeat' first
    | with_reducible assumption | with_reducible apply acceptEvent_keeps
    | with_reducible apply endLossRun_keeps | with_reducible apply sendTriggers_keeps | (simp only [mk_keeps])
    | with_reducible apply foldl_keeps | split | intro _ _ _ | intro _ _ | extract_lets
    | (dsimp +zetaDelta only)

theorem execHeldEventAccept_keeps {zz : State} {i : Fin 512} {s : State}
    (hs : Keeps zz s) :
    KeepsOut zz (execHeldEventAccept i s) := by
  unfold execHeldEventAccept
  refine keepsOut_next ?_
  repeat' first
    | with_reducible assumption | with_reducible apply heldAccept_keeps | (simp only [mk_keeps])
    | with_reducible apply foldl_keeps | split | intro _ _ _ | intro _ _ | extract_lets
    | (dsimp +zetaDelta only)

theorem sendHeld_keeps {zz : State} {s : State} {m : HeldMsg}
    (hs : Keeps zz s) :
    Keeps zz (sendHeld s m) := by
  unfold sendHeld
  extract_lets l0
  have kl0 : Keeps zz l0 := by
    unfold l0
    repeat' first
      | with_reducible assumption | with_reducible apply sendMessage_keeps | (simp only [mk_keeps])
      | with_reducible apply foldl_keeps | split | intro _ _ _ | intro _ _ | extract_lets
      | (dsimp +zetaDelta only)
  clear_value l0
  repeat' first
    | with_reducible assumption | with_reducible apply heldAccept_keeps | with_reducible apply setBusy_keeps
    | (simp only [mk_keeps]) | with_reducible apply foldl_keeps | split | intro _ _ _ | intro _ _
    | extract_lets | (dsimp +zetaDelta only)

theorem sendHeldAll_keeps {zz : State} {s : State}
    (hs : Keeps zz s) :
    Keeps zz (sendHeldAll s) := by
  unfold sendHeldAll
  extract_lets l0
  repeat' first
    | with_reducible assumption | with_reducible apply sendHeld_keeps | (simp only [mk_keeps])
    | with_reducible apply foldl_keeps | split | intro _ _ _ | intro _ _ | extract_lets
    | (dsimp +zetaDelta only)

theorem execHeldMsgSend_keeps {zz : State} {s : State}
    (hs : Keeps zz s) :
    KeepsOut zz (execHeldMsgSend s) := by
  unfold execHeldMsgSend
  refine keepsOut_next ?_
  repeat' first
    | with_reducible assumption | with_reducible apply sendHeldAll_keeps | (simp only [mk_keeps])
    | with_reducible apply foldl_keeps | split | intro _ _ _ | intro _ _ | extract_lets
    | (dsimp +zetaDelta only)

theorem helloOut_keeps {zz : State} {s : State}
    (hs : Keeps zz s) :
    Keeps zz (helloOut s) := by
  unfold helloOut
  repeat' first
    | with_reducible assumption | with_reducible apply sendOn_keeps | (simp only [mk_keeps])
    | with_reducible apply foldl_keeps | split | intro _ _ _ | intro _ _ | extract_lets
    | (dsimp +zetaDelta only)

theorem execHelloInterval_keeps {zz : State} {s : State}
    (hs : Keeps zz s) :
    KeepsOut zz (execHelloInterval s) := by
  unfold execHelloInterval
  refine keepsOut_next ?_
  repeat' first
    | with_reducible assumption | with_reducible apply helloOut_keeps | (simp only [mk_keeps])
    | with_reducible apply foldl_keeps | split | intro _ _ _ | intro _ _ | extract_lets
    | (dsimp +zetaDelta only)

theorem helloIn_keeps {zz : State} {p : Nat} {f : List Nat} {s : State}
    (hs : Keeps zz s) :
    Keeps zz (helloIn p f s) := by
  unfold helloIn
  extract_lets l0 l1 l2 l3 l4 l5 l6
  have kl5 : Keeps zz l5 := by
    unfold l5
    repeat' first
      | with_reducible assumption | (simp only [mk_keeps]) | with_reducible apply foldl_keeps | split
      | intro _ _ _ | intro _ _ | extract_lets | (dsimp +zetaDelta only)
  clear_value l5
  have kl6 : Keeps zz l6 := by
    unfold l6
    repeat' first
      | with_reducible assumption | with_reducible apply set_keeps | (simp only [mk_keeps])
      | with_reducible apply foldl_keeps | split | intro _ _ _ | intro _ _ | extract_lets
      | (dsimp +zetaDelta only)
  clear_value l6
  repeat' first
    | with_reducible assumption | with_reducible apply set_keeps | (simp only [mk_keeps])
    | with_reducible apply foldl_keeps | split | intro _ _ _ | intro _ _ | extract_lets
    | (dsimp +zetaDelta only)

theorem execHelloReceived_keeps {zz : State} {p : Fin 2} {f : List Byte} {s : State}
    (hs : Keeps zz s) :
    KeepsOut zz (execHelloReceived p f s) := by
  unfold execHelloReceived
  refine keepsOut_next ?_
  repeat' first
    | with_reducible assumption | with_reducible apply helloIn_keeps | (simp only [mk_keeps])
    | with_reducible apply foldl_keeps | split | intro _ _ _ | intro _ _ | extract_lets
    | (dsimp +zetaDelta only)

theorem holdoffEnd_keeps {zz : State} {a : Nat} {s : State}
    (hs : Keeps zz s) :
    Keeps zz (holdoffEnd a s) := by
  unfold holdoffEnd
  repeat' first
    | with_reducible assumption | with_reducible apply analogConnect_keeps | (simp only [mk_keeps])
    | with_reducible apply foldl_keeps | split | intro _ _ _ | intro _ _ | extract_lets
    | (dsimp +zetaDelta only)

theorem execHoldoffEnd_keeps {zz : State} {a : Fin 4} {s : State}
    (hs : Keeps zz s) :
    KeepsOut zz (execHoldoffEnd a s) := by
  unfold execHoldoffEnd
  refine keepsOut_next ?_
  repeat' first
    | with_reducible assumption | with_reducible apply holdoffEnd_keeps | (simp only [mk_keeps])
    | with_reducible apply foldl_keeps | split | intro _ _ _ | intro _ _ | extract_lets
    | (dsimp +zetaDelta only)

theorem trustExpiry_keeps {zz : State} {s : State}
    (hs : Keeps zz s) :
    Keeps zz (trustExpiry s) := by
  unfold trustExpiry
  extract_lets l0
  repeat' first
    | with_reducible assumption | with_reducible apply setUnsync_keeps | (simp only [mk_keeps])
    | with_reducible apply foldl_keeps | split | intro _ _ _ | intro _ _ | extract_lets
    | (dsimp +zetaDelta only)

theorem execHoldoverTrustExpiry_keeps {zz : State} {s : State}
    (hs : Keeps zz s) :
    KeepsOut zz (execHoldoverTrustExpiry s) := by
  unfold execHoldoverTrustExpiry
  refine keepsOut_next ?_
  repeat' first
    | with_reducible assumption | with_reducible apply trustExpiry_keeps | (simp only [mk_keeps])
    | with_reducible apply foldl_keeps | split | intro _ _ _ | intro _ _ | extract_lets
    | (dsimp +zetaDelta only)

theorem execHostlockWrite_keeps {zz : State} {v : Word} {s : State}
    (hs : Keeps zz s) :
    KeepsOut zz (execHostlockWrite v s) := by
  unfold execHostlockWrite
  refine keepsOut_next ?_
  repeat' first
    | with_reducible assumption | with_reducible apply regWrite_keeps | (simp only [mk_keeps])
    | with_reducible apply foldl_keeps | split | intro _ _ _ | intro _ _ | extract_lets
    | (dsimp +zetaDelta only)

theorem execHotReset_keeps {zz : State} {s : State}
    (hs : Keeps zz s) :
    KeepsOut zz (execHotReset s) := by
  unfold execHotReset
  refine keepsOut_next ?_
  repeat' first
    | with_reducible assumption | with_reducible apply bridgeReset_keeps
    | with_reducible apply bridgeDown_keeps | (simp only [mk_keeps]) | with_reducible apply foldl_keeps
    | split | intro _ _ _ | intro _ _ | extract_lets | (dsimp +zetaDelta only)

theorem execInjectBit_keeps {zz : State} {n : Fin 16} {s : State}
    (hs : Keeps zz s) :
    KeepsOut zz (execInjectBit n s) := by
  unfold execInjectBit
  refine keepsOut_next ?_
  repeat' first
    | with_reducible assumption | with_reducible apply regWrite_keeps | (simp only [mk_keeps])
    | with_reducible apply foldl_keeps | split | intro _ _ _ | intro _ _ | extract_lets
    | (dsimp +zetaDelta only)

theorem execInjectHdr_keeps {zz : State} {n : Fin 16} {s : State}
    (hs : Keeps zz s) :
    KeepsOut zz (execInjectHdr n s) := by
  unfold execInjectHdr
  refine keepsOut_next ?_
  repeat' first
    | with_reducible assumption | with_reducible apply regWrite_keeps | (simp only [mk_keeps])
    | with_reducible apply foldl_keeps | split | intro _ _ _ | intro _ _ | extract_lets
    | (dsimp +zetaDelta only)

theorem execInjectSkipgap_keeps {zz : State} {n : Fin 16} {s : State}
    (hs : Keeps zz s) :
    KeepsOut zz (execInjectSkipgap n s) := by
  unfold execInjectSkipgap
  refine keepsOut_next ?_
  repeat' first
    | with_reducible assumption | with_reducible apply regWrite_keeps | (simp only [mk_keeps])
    | with_reducible apply foldl_keeps | split | intro _ _ _ | intro _ _ | extract_lets
    | (dsimp +zetaDelta only)

theorem execInjectTraincrc_keeps {zz : State} {n : Fin 16} {s : State}
    (hs : Keeps zz s) :
    KeepsOut zz (execInjectTraincrc n s) := by
  unfold execInjectTraincrc
  refine keepsOut_next ?_
  repeat' first
    | with_reducible assumption | with_reducible apply regWrite_keeps | (simp only [mk_keeps])
    | with_reducible apply foldl_keeps | split | intro _ _ _ | intro _ _ | extract_lets
    | (dsimp +zetaDelta only)

theorem execInjectType2_keeps {zz : State} {n : Fin 16} {s : State}
    (hs : Keeps zz s) :
    KeepsOut zz (execInjectType2 n s) := by
  unfold execInjectType2
  refine keepsOut_next ?_
  repeat' first
    | with_reducible assumption | with_reducible apply regWrite_keeps | (simp only [mk_keeps])
    | with_reducible apply foldl_keeps | split | intro _ _ _ | intro _ _ | extract_lets
    | (dsimp +zetaDelta only)

theorem execInternalRestart_keeps {zz : State} {s : State}
    (hs : Keeps zz s) :
    KeepsOut zz (execInternalRestart s) := by
  unfold execInternalRestart
  refine keepsOut_next ?_
  repeat' first
    | with_reducible assumption | (simp only [mk_keeps]) | with_reducible apply foldl_keeps | split
    | intro _ _ _ | intro _ _ | extract_lets | (dsimp +zetaDelta only)

theorem finishOpen_keeps {zz : State} {q : Nat} {x1 : State}
    (hx1 : Keeps zz x1) :
    Keeps zz (finishOpen q x1) := by
  unfold finishOpen
  extract_lets l0 l1
  have kl0 : Keeps zz l0 := by
    unfold l0
    repeat' first
      | with_reducible assumption | with_reducible apply fillOpen_keeps | (simp only [mk_keeps])
      | with_reducible apply foldl_keeps | split | intro _ _ _ | intro _ _ | extract_lets
      | (dsimp +zetaDelta only)
  clear_value l0
  repeat' first
    | with_reducible assumption | with_reducible apply deliver_keeps | with_reducible apply setQueue_keeps
    | with_reducible apply log_keeps | with_reducible apply promote_keeps
    | with_reducible apply itemGone_keeps | with_reducible apply dropItem_keeps
    | with_reducible apply fetchDescs_keeps | with_reducible apply deliverEvent_keeps | (simp only [mk_keeps])
    | with_reducible apply foldl_keeps | split | intro _ _ _ | intro _ _ | extract_lets
    | (dsimp +zetaDelta only)

theorem execItemEnd_keeps {zz : State} {q : Fin 16384} {s : State}
    (hs : Keeps zz s) :
    KeepsOut zz (execItemEnd q s) := by
  unfold execItemEnd
  refine keepsOut_next ?_
  repeat' first
    | with_reducible assumption | with_reducible apply finishOpen_keeps | (simp only [mk_keeps])
    | with_reducible apply foldl_keeps | split | intro _ _ _ | intro _ _ | extract_lets
    | (dsimp +zetaDelta only)

theorem midTimeout_keeps {zz : State} {q : Nat} {s : State}
    (hs : Keeps zz s) :
    Keeps zz (midTimeout q s) := by
  unfold midTimeout
  repeat' first
    | with_reducible assumption | with_reducible apply promote_keeps | with_reducible apply log_keeps
    | with_reducible apply cutOpen_keeps | (simp only [mk_keeps]) | with_reducible apply foldl_keeps | split
    | intro _ _ _ | intro _ _ | extract_lets | (dsimp +zetaDelta only)

theorem execItemMidTimeout_keeps {zz : State} {q : Fin 16384} {s : State}
    (hs : Keeps zz s) :
    KeepsOut zz (execItemMidTimeout q s) := by
  unfold execItemMidTimeout
  refine keepsOut_next ?_
  repeat' first
    | with_reducible assumption | with_reducible apply midTimeout_keeps | (simp only [mk_keeps])
    | with_reducible apply foldl_keeps | split | intro _ _ _ | intro _ _ | extract_lets
    | (dsimp +zetaDelta only)

theorem startNext_keeps {zz : State} {s : State}
    (hs : Keeps zz s) :
    Keeps zz (startNext s) := by
  unfold startNext
  extract_lets l0
  repeat' first
    | with_reducible assumption | with_reducible apply startItem_keeps | (simp only [mk_keeps])
    | with_reducible apply foldl_keeps | split | intro _ _ _ | intro _ _ | extract_lets
    | (dsimp +zetaDelta only)

theorem execItemStart_keeps {zz : State} {s : State}
    (hs : Keeps zz s) :
    KeepsOut zz (execItemStart s) := by
  unfold execItemStart
  refine keepsOut_next ?_
  repeat' first
    | with_reducible assumption | with_reducible apply startNext_keeps | (simp only [mk_keeps])
    | with_reducible apply foldl_keeps | split | intro _ _ _ | intro _ _ | extract_lets
    | (dsimp +zetaDelta only)

theorem startTimeout_keeps {zz : State} {q : Nat} {s : State}
    (hs : Keeps zz s) :
    Keeps zz (startTimeout q s) := by
  unfold startTimeout
  extract_lets l0
  repeat' first
    | with_reducible assumption | with_reducible apply promote_keeps | with_reducible apply dropItem_keeps
    | with_reducible apply setQueue_keeps | (simp only [mk_keeps]) | with_reducible apply foldl_keeps | split
    | intro _ _ _ | intro _ _ | extract_lets | (dsimp +zetaDelta only)

theorem execItemStartTimeout_keeps {zz : State} {q : Fin 16384} {s : State}
    (hs : Keeps zz s) :
    KeepsOut zz (execItemStartTimeout q s) := by
  unfold execItemStartTimeout
  refine keepsOut_next ?_
  repeat' first
    | with_reducible assumption | with_reducible apply startTimeout_keeps | (simp only [mk_keeps])
    | with_reducible apply foldl_keeps | split | intro _ _ _ | intro _ _ | extract_lets
    | (dsimp +zetaDelta only)

theorem joinOut_keeps {zz : State} {s : State}
    (hs : Keeps zz s) :
    Keeps zz (joinOut s) := by
  unfold joinOut
  repeat' first
    | with_reducible assumption | with_reducible apply sendForward_keeps | (simp only [mk_keeps])
    | with_reducible apply foldl_keeps | split | intro _ _ _ | intro _ _ | extract_lets
    | (dsimp +zetaDelta only)

theorem execJoinInterval_keeps {zz : State} {s : State}
    (hs : Keeps zz s) :
    KeepsOut zz (execJoinInterval s) := by
  unfold execJoinInterval
  refine keepsOut_next ?_
  repeat' first
    | with_reducible assumption | with_reducible apply joinOut_keeps | (simp only [mk_keeps])
    | with_reducible apply foldl_keeps | split | intro _ _ _ | intro _ _ | extract_lets
    | (dsimp +zetaDelta only)

theorem joinIn_keeps {zz : State} {p : Nat} {f : List Nat} {s : State}
    (hs : Keeps zz s) :
    Keeps zz (joinIn p f s) := by
  unfold joinIn
  extract_lets l0
  repeat' first
    | with_reducible assumption | with_reducible apply assignOut_keeps | (simp only [mk_keeps])
    | with_reducible apply foldl_keeps | split | intro _ _ _ | intro _ _ | extract_lets
    | (dsimp +zetaDelta only)

theorem execJoinReceived_keeps {zz : State} {p : Fin 2} {f : List Byte} {s : State}
    (hs : Keeps zz s) :
    KeepsOut zz (execJoinReceived p f s) := by
  unfold execJoinReceived
  refine keepsOut_next ?_
  repeat' first
    | with_reducible assumption | with_reducible apply joinIn_keeps | (simp only [mk_keeps])
    | with_reducible apply foldl_keeps | split | intro _ _ _ | intro _ _ | extract_lets
    | (dsimp +zetaDelta only)

theorem tapInstruction_keeps {zz : State} {c : Nat} {s : State}
    (hs : Keeps zz s) :
    Keeps zz (tapInstruction c s) := by
  unfold tapInstruction
  extract_lets l0 l1
  have kl1 : Keeps zz l1 := by
    unfold l1
    repeat' first
      | with_reducible assumption | (simp only [mk_keeps]) | with_reducible apply foldl_keeps | split
      | intro _ _ _ | intro _ _ | extract_lets | (dsimp +zetaDelta only)
  clear_value l1
  repeat' first
    | with_reducible assumption | with_reducible apply warmReset_keeps | (simp only [mk_keeps])
    | with_reducible apply foldl_keeps | split | intro _ _ _ | intro _ _ | extract_lets
    | (dsimp +zetaDelta only)

theorem execJtagInstructionUpdate_keeps {zz : State} {code : Byte} {s : State}
    (hs : Keeps zz s) :
    KeepsOut zz (execJtagInstructionUpdate code s) := by
  unfold execJtagInstructionUpdate
  refine keepsOut_next ?_
  repeat' first
    | with_reducible assumption | with_reducible apply tapInstruction_keeps | (simp only [mk_keeps])
    | with_reducible apply foldl_keeps | split | intro _ _ _ | intro _ _ | extract_lets
    | (dsimp +zetaDelta only)

theorem markOverrun_keeps {zz : State} {s : State}
    (hs : Keeps zz s) :
    Keeps zz (markOverrun s) := by
  unfold markOverrun
  extract_lets l0 l1 l2 l3 l4 l5
  repeat' first
    | with_reducible assumption | (simp only [mk_keeps]) | with_reducible apply foldl_keeps | split
    | intro _ _ _ | intro _ _ | extract_lets | (dsimp +zetaDelta only)

theorem lineFire_keeps {zz : State} {s : State}
    (hs : Keeps zz s) :
    Keeps zz (lineFire s) := by
  unfold lineFire
  extract_lets l0
  repeat' first
    | with_reducible assumption | with_reducible apply markOverrun_keeps | with_reducible apply logSec_keeps
    | with_reducible apply count_keeps | with_reducible apply fireAt_keeps | (simp only [mk_keeps])
    | with_reducible apply foldl_keeps | split | intro _ _ _ | intro _ _ | extract_lets
    | (dsimp +zetaDelta only)

theorem execLineFire_keeps {zz : State} {s : State}
    (hs : Keeps zz s) :
    KeepsOut zz (execLineFire s) := by
  unfold execLineFire
  refine keepsOut_next ?_
  repeat' first
    | with_reducible assumption | with_reducible apply lineFire_keeps | (simp only [mk_keeps])
    | with_reducible apply foldl_keeps | split | intro _ _ _ | intro _ _ | extract_lets
    | (dsimp +zetaDelta only)

theorem execLinkDown_keeps {zz : State} {s : State}
    (hs : Keeps zz s) :
    KeepsOut zz (execLinkDown s) := by
  unfold execLinkDown
  refine keepsOut_next ?_
  repeat' first
    | with_reducible assumption | with_reducible apply bridgeDown_keeps | (simp only [mk_keeps])
    | with_reducible apply foldl_keeps | split | intro _ _ _ | intro _ _ | extract_lets
    | (dsimp +zetaDelta only)

theorem linkUp_keeps {zz : State} {gen : Nat} {width : Nat} {pgen : Nat} {pwidth : Nat} {s : State}
    (hs : Keeps zz s) :
    Keeps zz (linkUp gen width pgen pwidth s) := by
  unfold linkUp
  extract_lets l0 l1 l2 l3 l4 l5
  have kl3 : Keeps zz l3 := by
    unfold l3
    repeat' first
      | with_reducible assumption | (simp only [mk_keeps]) | with_reducible apply foldl_keeps | split
      | intro _ _ _ | intro _ _ | extract_lets | (dsimp +zetaDelta only)
  clear_value l3
  have kl4 : Keeps zz l4 := by
    unfold l4
    repeat' first
      | with_reducible assumption | with_reducible apply set_keeps | (simp only [mk_keeps])
      | with_reducible apply foldl_keeps | split | intro _ _ _ | intro _ _ | extract_lets
      | (dsimp +zetaDelta only)
  clear_value l4
  have kl5 : Keeps zz l5 := by
    unfold l5
    repeat' first
      | with_reducible assumption | with_reducible apply log_keeps | with_reducible apply fire_keeps
      | (simp only [mk_keeps]) | with_reducible apply foldl_keeps | split | intro _ _ _ | intro _ _
      | extract_lets | (dsimp +zetaDelta only)
  clear_value l5
  repeat' first
    | with_reducible assumption | with_reducible apply log_keeps | (simp only [mk_keeps])
    | with_reducible apply foldl_keeps | split | intro _ _ _ | intro _ _ | extract_lets
    | (dsimp +zetaDelta only)

theorem execLinkUp_keeps {zz : State} {gen : Fin 6} {width : Fin 17} {pgen : Fin 7} {pwidth : Fin 33} {s : State}
    (hs : Keeps zz s) :
    KeepsOut zz (execLinkUp gen width pgen pwidth s) := by
  unfold execLinkUp
  refine keepsOut_next ?_
  repeat' first
    | with_reducible assumption | with_reducible apply linkUp_keeps | (simp only [mk_keeps])
    | with_reducible apply foldl_keeps | split | intro _ _ _ | intro _ _ | extract_lets
    | (dsimp +zetaDelta only)

theorem linkLossIn_keeps {zz : State} {p : Nat} {f : List Nat} {s : State}
    (hs : Keeps zz s) :
    Keeps zz (linkLossIn p f s) := by
  unfold linkLossIn
  extract_lets l0 l1
  have kl1 : Keeps zz l1 := by
    unfold l1
    repeat' first
      | with_reducible assumption | with_reducible apply farNode_keeps | with_reducible apply setMember_keeps
      | (simp only [mk_keeps]) | with_reducible apply foldl_keeps | split | intro _ _ _ | intro _ _
      | extract_lets | (dsimp +zetaDelta only)
  clear_value l1
  repeat' first
    | with_reducible assumption | with_reducible apply openRing_keeps | (simp only [mk_keeps])
    | with_reducible apply foldl_keeps | split | intro _ _ _ | intro _ _ | extract_lets
    | (dsimp +zetaDelta only)

theorem execLinklossReceived_keeps {zz : State} {p : Fin 2} {f : List Byte} {s : State}
    (hs : Keeps zz s) :
    KeepsOut zz (execLinklossReceived p f s) := by
  unfold execLinklossReceived
  refine keepsOut_next ?_
  repeat' first
    | with_reducible assumption | with_reducible apply linkLossIn_keeps | (simp only [mk_keeps])
    | with_reducible apply foldl_keeps | split | intro _ _ _ | intro _ _ | extract_lets
    | (dsimp +zetaDelta only)

theorem noteLink_keeps {zz : State} {node : Nat} {port : Nat} {by_ : Nat} {s : State}
    (hs : Keeps zz s) :
    Keeps zz (noteLink node port by_ s) := by
  unfold noteLink
  extract_lets l0 l1
  repeat' first
    | with_reducible assumption | (simp only [mk_keeps]) | with_reducible apply foldl_keeps | split
    | intro _ _ _ | intro _ _ | extract_lets | (dsimp +zetaDelta only)

theorem linkUpIn_keeps {zz : State} {p : Nat} {f : List Nat} {s : State}
    (hs : Keeps zz s) :
    Keeps zz (linkUpIn p f s) := by
  unfold linkUpIn
  repeat' first
    | with_reducible assumption | with_reducible apply noteLink_keeps | (simp only [mk_keeps])
    | with_reducible apply foldl_keeps | split | intro _ _ _ | intro _ _ | extract_lets
    | (dsimp +zetaDelta only)

theorem execLinkupReceived_keeps {zz : State} {p : Fin 2} {f : List Byte} {s : State}
    (hs : Keeps zz s) :
    KeepsOut zz (execLinkupReceived p f s) := by
  unfold execLinkupReceived
  refine keepsOut_next ?_
  repeat' first
    | with_reducible assumption | with_reducible apply linkUpIn_keeps | (simp only [mk_keeps])
    | with_reducible apply foldl_keeps | split | intro _ _ _ | intro _ _ | extract_lets
    | (dsimp +zetaDelta only)

theorem linkUpOut_keeps {zz : State} {p : Nat} {s : State}
    (hs : Keeps zz s) :
    Keeps zz (linkUpOut p s) := by
  unfold linkUpOut
  repeat' first
    | with_reducible assumption | with_reducible apply noteLink_keeps | with_reducible apply sendForward_keeps
    | (simp only [mk_keeps]) | with_reducible apply foldl_keeps | split | intro _ _ _ | intro _ _
    | extract_lets | (dsimp +zetaDelta only)

theorem execLinkupSend_keeps {zz : State} {p : Fin 2} {s : State}
    (hs : Keeps zz s) :
    KeepsOut zz (execLinkupSend p s) := by
  unfold execLinkupSend
  refine keepsOut_next ?_
  repeat' first
    | with_reducible assumption | with_reducible apply linkUpOut_keeps | (simp only [mk_keeps])
    | with_reducible apply foldl_keeps | split | intro _ _ _ | intro _ _ | extract_lets
    | (dsimp +zetaDelta only)

theorem execLoaderApplyDone_keeps {zz : State} {img : List Byte} {s : State}
    (hs : Keeps zz s) :
    KeepsOut zz (execLoaderApplyDone img s) := by
  unfold execLoaderApplyDone
  refine keepsOut_next ?_
  repeat' first
    | with_reducible assumption | with_reducible apply applyDone_keeps | (simp only [mk_keeps])
    | with_reducible apply foldl_keeps | split | intro _ _ _ | intro _ _ | extract_lets
    | (dsimp +zetaDelta only)

theorem execLoaderClocksLocked_keeps {zz : State} {s : State}
    (hs : Keeps zz s) :
    KeepsOut zz (execLoaderClocksLocked s) := by
  unfold execLoaderClocksLocked
  refine keepsOut_next ?_
  repeat' first
    | with_reducible assumption | with_reducible apply clocksLocked_keeps | (simp only [mk_keeps])
    | with_reducible apply foldl_keeps | split | intro _ _ _ | intro _ _ | extract_lets
    | (dsimp +zetaDelta only)

theorem execLoaderClocksTimeout_keeps {zz : State} {s : State}
    (hs : Keeps zz s) :
    KeepsOut zz (execLoaderClocksTimeout s) := by
  unfold execLoaderClocksTimeout
  refine keepsOut_next ?_
  repeat' first
    | with_reducible assumption | with_reducible apply clocksTimeout_keeps | (simp only [mk_keeps])
    | with_reducible apply foldl_keeps | split | intro _ _ _ | intro _ _ | extract_lets
    | (dsimp +zetaDelta only)

theorem loaderEnter_keeps {zz : State} {s : State}
    (hs : Keeps zz s) :
    Keeps zz (loaderEnter s) := by
  unfold loaderEnter
  repeat' first
    | with_reducible assumption | with_reducible apply loaderEnd_keeps
    | with_reducible apply requestMode_keeps | with_reducible apply log_keeps | (simp only [mk_keeps])
    | with_reducible apply foldl_keeps | split | intro _ _ _ | intro _ _ | extract_lets
    | (dsimp +zetaDelta only)

theorem execLoaderEnter_keeps {zz : State} {s : State}
    (hs : Keeps zz s) :
    KeepsOut zz (execLoaderEnter s) := by
  unfold execLoaderEnter
  refine keepsOut_next ?_
  repeat' first
    | with_reducible assumption | with_reducible apply loaderEnter_keeps | (simp only [mk_keeps])
    | with_reducible apply foldl_keeps | split | intro _ _ _ | intro _ _ | extract_lets
    | (dsimp +zetaDelta only)

theorem fuseDone_keeps {zz : State} {s : State}
    (hs : Keeps zz s) :
    Keeps zz (fuseDone s) := by
  unfold fuseDone
  extract_lets l0
  repeat' first
    | with_reducible assumption | with_reducible apply enterHeader_keeps
    | with_reducible apply deriveOut_keeps | with_reducible apply enterSafe_keeps
    | with_reducible apply log_keeps | (simp only [mk_keeps]) | with_reducible apply foldl_keeps | split
    | intro _ _ _ | intro _ _ | extract_lets | (dsimp +zetaDelta only)

theorem execLoaderFuseDone_keeps {zz : State} {s : State}
    (hs : Keeps zz s) :
    KeepsOut zz (execLoaderFuseDone s) := by
  unfold execLoaderFuseDone
  refine keepsOut_next ?_
  repeat' first
    | with_reducible assumption | with_reducible apply fuseDone_keeps | (simp only [mk_keeps])
    | with_reducible apply foldl_keeps | split | intro _ _ _ | intro _ _ | extract_lets
    | (dsimp +zetaDelta only)

theorem slotFail_keeps {zz : State} {reason : Nat} {idx : Nat} {s : State}
    (hs : Keeps zz s) :
    Keeps zz (slotFail reason idx s) := by
  unfold slotFail
  extract_lets l0 l1 l2
  have kl1 : Keeps zz l1 := by
    unfold l1
    repeat' first
      | with_reducible assumption | with_reducible apply log_keeps | with_reducible apply noteFail_keeps
      | (simp only [mk_keeps]) | with_reducible apply foldl_keeps | split | intro _ _ _ | intro _ _
      | extract_lets | (dsimp +zetaDelta only)
  clear_value l1
  repeat' first
    | with_reducible assumption | with_reducible apply enterHeader_keeps | (simp only [mk_keeps])
    | with_reducible apply foldl_keeps | split | intro _ _ _ | intro _ _ | extract_lets
    | (dsimp +zetaDelta only)

theorem sendEnter_keeps {zz : State} {h : List Nat} {k : Nat} {s : State}
    (hs : Keeps zz s) :
    Keeps zz (sendEnter h k s) := by
  unfold sendEnter
  extract_lets l0 l1 l2
  repeat' first
    | with_reducible assumption | with_reducible apply emit_keeps | (simp only [mk_keeps])
    | with_reducible apply foldl_keeps | split | intro _ _ _ | intro _ _ | extract_lets
    | (dsimp +zetaDelta only)

theorem switchFlash_keeps {zz : State} {h : List Nat} {s : State}
    (hs : Keeps zz s) :
    Keeps zz (switchFlash h s) := by
  unfold switchFlash
  extract_lets l0
  repeat' first
    | with_reducible assumption | with_reducible apply setFspeed_keeps | with_reducible apply sendEnter_keeps
    | (simp only [mk_keeps]) | with_reducible apply foldl_keeps | split | intro _ _ _ | intro _ _
    | extract_lets | (dsimp +zetaDelta only)

theorem headerDone_keeps {zz : State} {h : List Nat} {s : State}
    (hs : Keeps zz s) :
    Keeps zz (headerDone h s) := by
  unfold headerDone
  extract_lets l0 l1 l2 l3
  have kl0 : Keeps zz l0 := by
    unfold l0
    repeat' first
      | with_reducible assumption | with_reducible apply set_keeps | (simp only [mk_keeps])
      | with_reducible apply foldl_keeps | split | intro _ _ _ | intro _ _ | extract_lets
      | (dsimp +zetaDelta only)
  clear_value l0
  have kl2 : Keeps zz l2 := by
    unfold l2
    repeat' first
      | with_reducible assumption | with_reducible apply set_keeps | with_reducible apply switchFlash_keeps
      | (simp only [mk_keeps]) | with_reducible apply foldl_keeps | split | intro _ _ _ | intro _ _
      | extract_lets | (dsimp +zetaDelta only)
  clear_value l2
  repeat' first
    | with_reducible assumption | with_reducible apply slotFail_keeps | (simp only [mk_keeps])
    | with_reducible apply foldl_keeps | split | intro _ _ _ | intro _ _ | extract_lets
    | (dsimp +zetaDelta only)

theorem execLoaderHeaderDone_keeps {zz : State} {hdr : List Byte} {s : State}
    (hs : Keeps zz s) :
    KeepsOut zz (execLoaderHeaderDone hdr s) := by
  unfold execLoaderHeaderDone
  refine keepsOut_next ?_
  repeat' first
    | with_reducible assumption | with_reducible apply headerDone_keeps | (simp only [mk_keeps])
    | with_reducible apply foldl_keeps | split | intro _ _ _ | intro _ _ | extract_lets
    | (dsimp +zetaDelta only)

theorem imageGood_keeps {zz : State} {img : List Nat} {s : State}
    (hs : Keeps zz s) :
    Keeps zz (imageGood img s) := by
  unfold imageGood
  extract_lets l0 l1 l2 l3
  have kl0 : Keeps zz l0 := by
    unfold l0
    repeat' first
      | with_reducible assumption | with_reducible apply log_keeps | with_reducible apply set_keeps
      | (simp only [mk_keeps]) | with_reducible apply foldl_keeps | split | intro _ _ _ | intro _ _
      | extract_lets | (dsimp +zetaDelta only)
  clear_value l0
  have kl1 : Keeps zz l1 := by
    unfold l1
    repeat' first
      | with_reducible assumption | with_reducible apply set_keeps | (simp only [mk_keeps])
      | with_reducible apply foldl_keeps | split | intro _ _ _ | intro _ _ | extract_lets
      | (dsimp +zetaDelta only)
  clear_value l1
  have kl2 : Keeps zz l2 := by
    unfold l2
    repeat' first
      | with_reducible assumption | with_reducible apply set_keeps | (simp only [mk_keeps])
      | with_reducible apply foldl_keeps | split | intro _ _ _ | intro _ _ | extract_lets
      | (dsimp +zetaDelta only)
  clear_value l2
  repeat' first
    | with_reducible assumption | (simp only [mk_keeps]) | with_reducible apply foldl_keeps | split
    | intro _ _ _ | intro _ _ | extract_lets | (dsimp +zetaDelta only)

theorem verifyDone_keeps {zz : State} {img0 : List Nat} {s : State}
    (hs : Keeps zz s) :
    Keeps zz (verifyDone img0 s) := by
  unfold verifyDone
  extract_lets l0 l1
  repeat' first
    | with_reducible assumption | with_reducible apply enterHeader_keeps | with_reducible apply slotFail_keeps
    | with_reducible apply imageGood_keeps | (simp only [mk_keeps]) | with_reducible apply foldl_keeps | split
    | intro _ _ _ | intro _ _ | extract_lets | (dsimp +zetaDelta only)

theorem execLoaderVerifyDone_keeps {zz : State} {img : List Byte} {s : State}
    (hs : Keeps zz s) :
    KeepsOut zz (execLoaderVerifyDone img s) := by
  unfold execLoaderVerifyDone
  refine keepsOut_next ?_
  repeat' first
    | with_reducible assumption | with_reducible apply verifyDone_keeps | (simp only [mk_keeps])
    | with_reducible apply foldl_keeps | split | intro _ _ _ | intro _ _ | extract_lets
    | (dsimp +zetaDelta only)

theorem execLoopbackWrite_keeps {zz : State} {n : Fin 16} {v : Word} {s : State}
    (hs : Keeps zz s) :
    KeepsOut zz (execLoopbackWrite n v s) := by
  unfold execLoopbackWrite
  refine keepsOut_next ?_
  repeat' first
    | with_reducible assumption | with_reducible apply regWrite_keeps | (simp only [mk_keeps])
    | with_reducible apply foldl_keeps | split | intro _ _ _ | intro _ _ | extract_lets
    | (dsimp +zetaDelta only)

theorem lpiReceived_keeps {zz : State} {n : Nat} {req : Bool} {ack : Bool} {s : State}
    (hs : Keeps zz s) :
    Keeps zz (lpiReceived n req ack s) := by
  unfold lpiReceived
  extract_lets l0 l1 l2 l3
  have kl1 : Keeps zz l1 := by
    unfold l1
    repeat' first
      | with_reducible assumption | with_reducible apply enterLane_keeps | (simp only [mk_keeps])
      | with_reducible apply foldl_keeps | split | intro _ _ _ | intro _ _ | extract_lets
      | (dsimp +zetaDelta only)
  clear_value l1
  have kl3 : Keeps zz l3 := by
    unfold l3
    repeat' first
      | with_reducible assumption | with_reducible apply setLane_keeps | (simp only [mk_keeps])
      | with_reducible apply foldl_keeps | split | intro _ _ _ | intro _ _ | extract_lets
      | (dsimp +zetaDelta only)
  clear_value l3
  repeat' first
    | with_reducible assumption | with_reducible apply enterLane_keeps | with_reducible apply set_keeps
    | (simp only [mk_keeps]) | with_reducible apply foldl_keeps | split | intro _ _ _ | intro _ _
    | extract_lets | (dsimp +zetaDelta only)

theorem execLpiReceived_keeps {zz : State} {n : Fin 16} {deepReq : Bool} {deepAck : Bool} {s : State}
    (hs : Keeps zz s) :
    KeepsOut zz (execLpiReceived n deepReq deepAck s) := by
  unfold execLpiReceived
  refine keepsOut_next ?_
  repeat' first
    | with_reducible assumption | with_reducible apply onLane_keeps | with_reducible apply lpiReceived_keeps
    | (simp only [mk_keeps]) | with_reducible apply foldl_keeps | split | intro _ _ _ | intro _ _
    | extract_lets | (dsimp +zetaDelta only)

theorem execMailboxGo_keeps {zz : State} {g : Fin 16} {v : Word} {s : State}
    (hs : Keeps zz s) :
    KeepsOut zz (execMailboxGo g v s) := by
  unfold execMailboxGo
  refine keepsOut_next ?_
  repeat' first
    | with_reducible assumption | with_reducible apply regWrite_keeps | (simp only [mk_keeps])
    | with_reducible apply foldl_keeps | split | intro _ _ _ | intro _ _ | extract_lets
    | (dsimp +zetaDelta only)

theorem execMailboxTimeout_keeps {zz : State} {g : Fin 16} {s : State}
    (hs : Keeps zz s) :
    KeepsOut zz (execMailboxTimeout g s) := by
  unfold execMailboxTimeout
  refine keepsOut_next ?_
  repeat' first
    | with_reducible assumption | with_reducible apply onLane_keeps | with_reducible apply endMailbox_keeps
    | (simp only [mk_keeps]) | with_reducible apply foldl_keeps | split | intro _ _ _ | intro _ _
    | extract_lets | (dsimp +zetaDelta only)

theorem malformed_keeps {zz : State} {bit : Nat} {s : State}
    (hs : Keeps zz s) :
    Keeps zz (malformed bit s) := by
  unfold malformed
  repeat' first
    | with_reducible assumption | with_reducible apply log_keeps | with_reducible apply aerSet_keeps
    | (simp only [mk_keeps]) | with_reducible apply foldl_keeps | split | intro _ _ _ | intro _ _
    | extract_lets | (dsimp +zetaDelta only)

theorem execMalformedTlp_keeps {zz : State} {bit : Fin 32} {s : State}
    (hs : Keeps zz s) :
    KeepsOut zz (execMalformedTlp bit s) := by
  unfold execMalformedTlp
  refine keepsOut_next ?_
  repeat' first
    | with_reducible assumption | with_reducible apply malformed_keeps | (simp only [mk_keeps])
    | with_reducible apply foldl_keeps | split | intro _ _ _ | intro _ _ | extract_lets
    | (dsimp +zetaDelta only)

theorem marginLevel_keeps {zz : State} {n : Nat} {ho : Nat} {vo : Nat} {s : State}
    (hs : Keeps zz s) :
    Keeps zz (marginLevel n ho vo s) := by
  unfold marginLevel
  extract_lets l0 l1 l2
  repeat' first
    | with_reducible assumption | with_reducible apply log_keeps | with_reducible apply fire_keeps
    | with_reducible apply set_keeps | with_reducible apply setLane_keeps | (simp only [mk_keeps])
    | with_reducible apply foldl_keeps | split | intro _ _ _ | intro _ _ | extract_lets
    | (dsimp +zetaDelta only)

theorem marginMeasure_keeps {zz : State} {n : Nat} {ho : Nat} {vo : Nat} {s : State}
    (hs : Keeps zz s) :
    Keeps zz (marginMeasure n ho vo s) := by
  unfold marginMeasure
  extract_lets l0 l1 l2 l3
  have kl1 : Keeps zz l1 := by
    unfold l1
    repeat' first
      | with_reducible assumption | with_reducible apply set_keeps | (simp only [mk_keeps])
      | with_reducible apply foldl_keeps | split | intro _ _ _ | intro _ _ | extract_lets
      | (dsimp +zetaDelta only)
  clear_value l1
  have kl3 : Keeps zz l3 := by
    unfold l3
    repeat' first
      | with_reducible assumption | with_reducible apply set_keeps | with_reducible apply setLane_keeps
      | (simp only [mk_keeps]) | with_reducible apply foldl_keeps | split | intro _ _ _ | intro _ _
      | extract_lets | (dsimp +zetaDelta only)
  clear_value l3
  repeat' first
    | with_reducible assumption | with_reducible apply set_keeps | with_reducible apply deriveMargin_keeps
    | with_reducible apply marginLevel_keeps | (simp only [mk_keeps]) | with_reducible apply foldl_keeps
    | split | intro _ _ _ | intro _ _ | extract_lets | (dsimp +zetaDelta only)

theorem execMarginMeasure_keeps {zz : State} {n : Fin 16} {ho : Byte} {vo : Byte} {s : State}
    (hs : Keeps zz s) :
    KeepsOut zz (execMarginMeasure n ho vo s) := by
  unfold execMarginMeasure
  refine keepsOut_next ?_
  repeat' first
    | with_reducible assumption | with_reducible apply onLane_keeps | with_reducible apply marginMeasure_keeps
    | (simp only [mk_keeps]) | with_reducible apply foldl_keeps | split | intro _ _ _ | intro _ _
    | extract_lets | (dsimp +zetaDelta only)

theorem execMarginRebase_keeps {zz : State} {n : Fin 16} {v : Word} {s : State}
    (hs : Keeps zz s) :
    KeepsOut zz (execMarginRebase n v s) := by
  unfold execMarginRebase
  refine keepsOut_next ?_
  repeat' first
    | with_reducible assumption | with_reducible apply regWrite_keeps | (simp only [mk_keeps])
    | with_reducible apply foldl_keeps | split | intro _ _ _ | intro _ _ | extract_lets
    | (dsimp +zetaDelta only)

theorem modeEnterDone_keeps {zz : State} {s : State}
    (hs : Keeps zz s) :
    Keeps zz (modeEnterDone s) := by
  unfold modeEnterDone
  extract_lets l0 l1 l2 l3 l4 l5 l6 l7 l8
  have kl2 : Keeps zz l2 := by
    unfold l2
    repeat' first
      | with_reducible assumption | with_reducible apply changeOutputs_keeps | (simp only [mk_keeps])
      | with_reducible apply foldl_keeps | split | intro _ _ _ | intro _ _ | extract_lets
      | (dsimp +zetaDelta only)
  clear_value l2
  have kl3 : Keeps zz l3 := by
    unfold l3
    repeat' first
      | with_reducible assumption | with_reducible apply serviceExit_keeps | (simp only [mk_keeps])
      | with_reducible apply foldl_keeps | split | intro _ _ _ | intro _ _ | extract_lets
      | (dsimp +zetaDelta only)
  clear_value l3
  have kl5 : Keeps zz l5 := by
    unfold l5
    repeat' first
      | with_reducible assumption | with_reducible apply set_keeps | (simp only [mk_keeps])
      | with_reducible apply foldl_keeps | split | intro _ _ _ | intro _ _ | extract_lets
      | (dsimp +zetaDelta only)
  clear_value l5
  have kl6 : Keeps zz l6 := by
    unfold l6
    repeat' first
      | with_reducible assumption | with_reducible apply armMode_keeps
      | with_reducible apply enterStreams_keeps | (simp only [mk_keeps]) | with_reducible apply foldl_keeps
      | split | intro _ _ _ | intro _ _ | extract_lets | (dsimp +zetaDelta only)
  clear_value l6
  have kl7 : Keeps zz l7 := by
    unfold l7
    repeat' first
      | with_reducible assumption | with_reducible apply fire_keeps | (simp only [mk_keeps])
      | with_reducible apply foldl_keeps | split | intro _ _ _ | intro _ _ | extract_lets
      | (dsimp +zetaDelta only)
  clear_value l7
  repeat' first
    | with_reducible assumption | (simp only [mk_keeps]) | with_reducible apply foldl_keeps | split
    | intro _ _ _ | intro _ _ | extract_lets | (dsimp +zetaDelta only)

theorem execModeEnterDone_keeps {zz : State} {s : State}
    (hs : Keeps zz s) :
    KeepsOut zz (execModeEnterDone s) := by
  unfold execModeEnterDone
  refine keepsOut_next ?_
  repeat' first
    | with_reducible assumption | with_reducible apply enterReached_keeps
    | with_reducible apply modeEnterDone_keeps | (simp only [mk_keeps]) | with_reducible apply foldl_keeps
    | split | intro _ _ _ | intro _ _ | extract_lets | (dsimp +zetaDelta only)

theorem execModeRequestWrite_keeps {zz : State} {v : Word} {s : State}
    (hs : Keeps zz s) :
    KeepsOut zz (execModeRequestWrite v s) := by
  unfold execModeRequestWrite
  refine keepsOut_next ?_
  repeat' first
    | with_reducible assumption | with_reducible apply regWrite_keeps | (simp only [mk_keeps])
    | with_reducible apply foldl_keeps | split | intro _ _ _ | intro _ _ | extract_lets
    | (dsimp +zetaDelta only)

theorem moderationTimeout_keeps {zz : State} {q : Nat} {s : State}
    (hs : Keeps zz s) :
    Keeps zz (moderationTimeout q s) := by
  unfold moderationTimeout
  repeat' first
    | with_reducible assumption | with_reducible apply queueMessage_keeps | (simp only [mk_keeps])
    | with_reducible apply foldl_keeps | split | intro _ _ _ | intro _ _ | extract_lets
    | (dsimp +zetaDelta only)

theorem execModerationTimeout_keeps {zz : State} {q : Fin 16384} {s : State}
    (hs : Keeps zz s) :
    KeepsOut zz (execModerationTimeout q s) := by
  unfold execModerationTimeout
  refine keepsOut_next ?_
  repeat' first
    | with_reducible assumption | with_reducible apply moderationTimeout_keeps | (simp only [mk_keeps])
    | with_reducible apply foldl_keeps | split | intro _ _ _ | intro _ _ | extract_lets
    | (dsimp +zetaDelta only)

theorem execMsixUnmask_keeps {zz : State} {v : Fin 2048} {s : State}
    (hs : Keeps zz s) :
    KeepsOut zz (execMsixUnmask v s) := by
  unfold execMsixUnmask
  refine keepsOut_next ?_
  repeat' first
    | with_reducible assumption | with_reducible apply barWrite_keeps | (simp only [mk_keeps])
    | with_reducible apply foldl_keeps | split | intro _ _ _ | intro _ _ | extract_lets
    | (dsimp +zetaDelta only)

theorem nakReceived_keeps {zz : State} {g : Nat} {p : List Nat} {s : State} (hs : Keeps zz s) :
    Keeps zz (nakReceived g p s) := by
  have h : Keeps zz (acknowledge g (pktNum p) (s.count CLP_RELCNT.NAKRX g)).2 := acknowledge_keeps (count_keeps hs)
  unfold nakReceived
  cases e : acknowledge g (pktNum p) (s.count CLP_RELCNT.NAKRX g) with
  | mk ok s1 =>
    rw [e] at h
    cases ok with
    | false => exact h
    | true =>
      by_cases hf : pktFlags p % 2 == 1
      · simp only [hf]
        exact setGroup_keeps h
      · simp only [hf]
        exact startReplay_keeps h

theorem execNakReceived_keeps {zz : State} {g : Fin 16} {p : List Byte} {s : State}
    (hs : Keeps zz s) :
    KeepsOut zz (execNakReceived g p s) := by
  unfold execNakReceived
  refine keepsOut_next ?_
  repeat' first
    | with_reducible assumption | with_reducible apply onLane_keeps | with_reducible apply takePacket_keeps
    | with_reducible apply nakReceived_keeps | (simp only [mk_keeps]) | with_reducible apply foldl_keeps
    | split | intro _ _ _ | intro _ _ | extract_lets | (dsimp +zetaDelta only)

theorem idConflict_keeps {zz : State} {dsn : Nat} {other : Nat} {id : Nat} {s : State}
    (hs : Keeps zz s) :
    Keeps zz (idConflict dsn other id s) := by
  unfold idConflict
  extract_lets l0 l1 l2
  have kl2 : Keeps zz l2 := by
    unfold l2
    repeat' first
      | with_reducible assumption | with_reducible apply tablePut_keeps | (simp only [mk_keeps])
      | with_reducible apply foldl_keeps | split | intro _ _ _ | intro _ _ | extract_lets
      | (dsimp +zetaDelta only)
  clear_value l2
  repeat' first
    | with_reducible assumption | with_reducible apply log_keeps | with_reducible apply assignOut_keeps
    | with_reducible apply takeId_keeps | (simp only [mk_keeps]) | with_reducible apply foldl_keeps | split
    | intro _ _ _ | intro _ _ | extract_lets | (dsimp +zetaDelta only)

theorem nodeUpIn_keeps {zz : State} {p : Nat} {f : List Nat} {s : State}
    (hs : Keeps zz s) :
    Keeps zz (nodeUpIn p f s) := by
  unfold nodeUpIn
  extract_lets l0 l1 l2 l3 l4 l5 l6
  have kl4 : Keeps zz l4 := by
    unfold l4
    repeat' first
      | with_reducible assumption | with_reducible apply farNode_keeps | with_reducible apply setMember_keeps
      | (simp only [mk_keeps]) | with_reducible apply foldl_keeps | split | intro _ _ _ | intro _ _
      | extract_lets | (dsimp +zetaDelta only)
  clear_value l4
  have kl6 : Keeps zz l6 := by
    unfold l6
    repeat' first
      | with_reducible assumption | (simp only [mk_keeps]) | with_reducible apply foldl_keeps | split
      | intro _ _ _ | intro _ _ | extract_lets | (dsimp +zetaDelta only)
  clear_value l6
  repeat' first
    | with_reducible assumption | with_reducible apply idConflict_keeps | with_reducible apply rootNet_keeps
    | with_reducible apply tablePut_keeps | (simp only [mk_keeps]) | with_reducible apply foldl_keeps | split
    | intro _ _ _ | intro _ _ | extract_lets | (dsimp +zetaDelta only)

theorem execNodeUpReceived_keeps {zz : State} {p : Fin 2} {f : List Byte} {s : State}
    (hs : Keeps zz s) :
    KeepsOut zz (execNodeUpReceived p f s) := by
  unfold execNodeUpReceived
  refine keepsOut_next ?_
  repeat' first
    | with_reducible assumption | with_reducible apply nodeUpIn_keeps | (simp only [mk_keeps])
    | with_reducible apply foldl_keeps | split | intro _ _ _ | intro _ _ | extract_lets
    | (dsimp +zetaDelta only)

theorem nodeUpOut_keeps {zz : State} {s : State}
    (hs : Keeps zz s) :
    Keeps zz (nodeUpOut s) := by
  unfold nodeUpOut
  extract_lets l0 l1
  have kl1 : Keeps zz l1 := by
    unfold l1
    repeat' first
      | with_reducible assumption | (simp only [mk_keeps]) | with_reducible apply foldl_keeps | split
      | intro _ _ _ | intro _ _ | extract_lets | (dsimp +zetaDelta only)
  clear_value l1
  repeat' first
    | with_reducible assumption | with_reducible apply sendForward_keeps | (simp only [mk_keeps])
    | with_reducible apply foldl_keeps | split | intro _ _ _ | intro _ _ | extract_lets
    | (dsimp +zetaDelta only)

theorem execNodeUpSend_keeps {zz : State} {s : State}
    (hs : Keeps zz s) :
    KeepsOut zz (execNodeUpSend s) := by
  unfold execNodeUpSend
  refine keepsOut_next ?_
  repeat' first
    | with_reducible assumption | with_reducible apply nodeUpOut_keeps | (simp only [mk_keeps])
    | with_reducible apply foldl_keeps | split | intro _ _ _ | intro _ _ | extract_lets
    | (dsimp +zetaDelta only)

theorem openIn_keeps {zz : State} {p : Nat} {f : List Nat} {s : State}
    (hs : Keeps zz s) :
    Keeps zz (openIn p f s) := by
  unfold openIn
  extract_lets l0
  repeat' first
    | with_reducible assumption | with_reducible apply setRing_keeps | (simp only [mk_keeps])
    | with_reducible apply foldl_keeps | split | intro _ _ _ | intro _ _ | extract_lets
    | (dsimp +zetaDelta only)

theorem execOpenReceived_keeps {zz : State} {p : Fin 2} {f : List Byte} {s : State}
    (hs : Keeps zz s) :
    KeepsOut zz (execOpenReceived p f s) := by
  unfold execOpenReceived
  refine keepsOut_next ?_
  repeat' first
    | with_reducible assumption | with_reducible apply openIn_keeps | (simp only [mk_keeps])
    | with_reducible apply foldl_keeps | split | intro _ _ _ | intro _ _ | extract_lets
    | (dsimp +zetaDelta only)

theorem openOut_keeps {zz : State} {s : State}
    (hs : Keeps zz s) :
    Keeps zz (openOut s) := by
  unfold openOut
  extract_lets l0 l1 l2
  have kl0 : Keeps zz l0 := by
    unfold l0
    repeat' first
      | with_reducible assumption | with_reducible apply closeRing_keeps | (simp only [mk_keeps])
      | with_reducible apply foldl_keeps | split | intro _ _ _ | intro _ _ | extract_lets
      | (dsimp +zetaDelta only)
  clear_value l0
  have kl2 : Keeps zz l2 := by
    unfold l2
    repeat' first
      | with_reducible assumption | (simp only [mk_keeps]) | with_reducible apply foldl_keeps | split
      | intro _ _ _ | intro _ _ | extract_lets | (dsimp +zetaDelta only)
  clear_value l2
  repeat' first
    | with_reducible assumption | with_reducible apply setRing_keeps | with_reducible apply sendOn_keeps
    | (simp only [mk_keeps]) | with_reducible apply foldl_keeps | split | intro _ _ _ | intro _ _
    | extract_lets | (dsimp +zetaDelta only)

theorem execOpenSend_keeps {zz : State} {s : State}
    (hs : Keeps zz s) :
    KeepsOut zz (execOpenSend s) := by
  unfold execOpenSend
  refine keepsOut_next ?_
  repeat' first
    | with_reducible assumption | with_reducible apply openOut_keeps | (simp only [mk_keeps])
    | with_reducible apply foldl_keeps | split | intro _ _ _ | intro _ _ | extract_lets
    | (dsimp +zetaDelta only)

theorem onPort_keeps {zz : State} {n : Nat} {f : State → State} {s : State}
    (hf : ∀ a0, Keeps zz a0 → Keeps zz (f a0)) (hs : Keeps zz s) :
    Keeps zz (onPort n f s) := by
  unfold onPort
  repeat' first
    | with_reducible assumption | (simp only [mk_keeps]) | with_reducible apply foldl_keeps | split
    | with_reducible apply hf | intro _ _ _ | intro _ _ | extract_lets | (dsimp +zetaDelta only)

theorem expEdge_keeps {zz : State} {n : Nat} {high : Bool} {s : State}
    (hs : Keeps zz s) :
    Keeps zz (expEdge n high s) := by
  unfold expEdge
  extract_lets l0
  repeat' first
    | with_reducible assumption | with_reducible apply setPort_keeps | (simp only [mk_keeps])
    | with_reducible apply foldl_keeps | split | intro _ _ _ | intro _ _ | extract_lets
    | (dsimp +zetaDelta only)

theorem execParExpEdge_keeps {zz : State} {n : Fin 2} {high : Bool} {s : State}
    (hs : Keeps zz s) :
    KeepsOut zz (execParExpEdge n high s) := by
  unfold execParExpEdge
  refine keepsOut_next ?_
  repeat' first
    | with_reducible assumption | with_reducible apply onPort_keeps | with_reducible apply expEdge_keeps
    | (simp only [mk_keeps]) | with_reducible apply foldl_keeps | split | intro _ _ _ | intro _ _
    | extract_lets | (dsimp +zetaDelta only)

theorem matchTrigger_keeps {zz : State} {n : Nat} {s : State}
    (hs : Keeps zz s) :
    Keeps zz (matchTrigger n s).2 := by
  unfold matchTrigger
  extract_lets l0
  repeat' first
    | with_reducible assumption | with_reducible apply setBusy_keeps | with_reducible apply setPort_keeps
    | (simp only [mk_keeps]) | with_reducible apply foldl_keeps | split | intro _ _ _ | intro _ _
    | extract_lets | (dsimp +zetaDelta only)

theorem matchTrigger_keeps' {zz t : State} {n : Nat} {s : State} {q}
    (hs : Keeps zz s) (e : (matchTrigger n s) = (q, t)) :
    Keeps zz t := by
  have := matchTrigger_keeps (n := n) (s := s) hs
  rw [e] at this
  exact this

theorem exposure_keeps {zz : State} {n : Nat} {s : State}
    (hs : Keeps zz s) :
    Keeps zz (exposure n s).2 := by
  unfold exposure
  extract_lets l0 l1
  repeat' first
    | with_reducible assumption | with_reducible apply setPort_keeps | with_reducible apply count_keeps
    | (simp only [mk_keeps]) | with_reducible apply foldl_keeps | split | intro _ _ _ | intro _ _
    | extract_lets | (dsimp +zetaDelta only)

theorem exposure_keeps' {zz t : State} {n : Nat} {s : State} {q}
    (hs : Keeps zz s) (e : (exposure n s) = (q, t)) :
    Keeps zz t := by
  have := exposure_keeps (n := n) (s := s) hs
  rw [e] at this
  exact this

theorem openPort_keeps {zz : State} {n : Nat} {s : State}
    (hs : Keeps zz s) :
    Keeps zz (openPort n s) := by
  unfold openPort
  extract_lets l0 l1 l2
  repeat' first
    | with_reducible assumption | with_reducible apply matchTrigger_keeps
    | with_reducible refine matchTrigger_keeps' ?_ (by with_reducible assumption)
    | with_reducible apply exposure_keeps
    | with_reducible refine exposure_keeps' ?_ (by with_reducible assumption)
    | with_reducible apply logSec_keeps | with_reducible apply count_keeps
    | with_reducible apply openFeed_keeps
    | with_reducible refine openFeed_keeps' ?_ (by with_reducible assumption)
    | with_reducible apply fire_keeps | with_reducible apply setPort_keeps | (simp only [mk_keeps])
    | with_reducible apply foldl_keeps | split | intro _ _ _ | intro _ _ | extract_lets
    | (dsimp +zetaDelta only)

theorem parFrameStart_keeps {zz : State} {n : Nat} {s : State}
    (hs : Keeps zz s) :
    Keeps zz (parFrameStart n s) := by
  unfold parFrameStart
  extract_lets l0 l1 l2 l3 l4 l5 l6
  have kl2 : Keeps zz l2 := by
    unfold l2
    repeat' first
      | with_reducible assumption | with_reducible apply closePortFrame_keeps | (simp only [mk_keeps])
      | with_reducible apply foldl_keeps | split | intro _ _ _ | intro _ _ | extract_lets
      | (dsimp +zetaDelta only)
  clear_value l2
  have kl3 : Keeps zz l3 := by
    unfold l3
    repeat' first
      | with_reducible assumption | with_reducible apply set_keeps | (simp only [mk_keeps])
      | with_reducible apply foldl_keeps | split | intro _ _ _ | intro _ _ | extract_lets
      | (dsimp +zetaDelta only)
  clear_value l3
  have kl4 : Keeps zz l4 := by
    unfold l4
    repeat' first
      | with_reducible assumption | with_reducible apply log_keeps | (simp only [mk_keeps])
      | with_reducible apply foldl_keeps | split | intro _ _ _ | intro _ _ | extract_lets
      | (dsimp +zetaDelta only)
  clear_value l4
  have kl6 : Keeps zz l6 := by
    unfold l6
    repeat' first
      | with_reducible assumption | with_reducible apply setPort_keeps | (simp only [mk_keeps])
      | with_reducible apply foldl_keeps | split | intro _ _ _ | intro _ _ | extract_lets
      | (dsimp +zetaDelta only)
  clear_value l6
  repeat' first
    | with_reducible assumption | with_reducible apply set_keeps | with_reducible apply openPort_keeps
    | (simp only [mk_keeps]) | with_reducible apply foldl_keeps | split | intro _ _ _ | intro _ _
    | extract_lets | (dsimp +zetaDelta only)

theorem execParFrameStart_keeps {zz : State} {n : Fin 2} {s : State}
    (hs : Keeps zz s) :
    KeepsOut zz (execParFrameStart n s) := by
  unfold execParFrameStart
  refine keepsOut_next ?_
  repeat' first
    | with_reducible assumption | with_reducible apply onPort_keeps | with_reducible apply parFrameStart_keeps
    | (simp only [mk_keeps]) | with_reducible apply foldl_keeps | split | intro _ _ _ | intro _ _
    | extract_lets | (dsimp +zetaDelta only)

theorem syncLoss_keeps {zz : State} {n : Nat} {cause : Nat} {s : State}
    (hs : Keeps zz s) :
    Keeps zz (syncLoss n cause s) := by
  unfold syncLoss
  extract_lets l0 l1 l2
  have kl0 : Keeps zz l0 := by
    unfold l0
    repeat' first
      | with_reducible assumption | with_reducible apply count_keeps | with_reducible apply fire_keeps
      | with_reducible apply truncatePar_keeps | (simp only [mk_keeps]) | with_reducible apply foldl_keeps
      | split | intro _ _ _ | intro _ _ | extract_lets | (dsimp +zetaDelta only)
  clear_value l0
  have kl2 : Keeps zz l2 := by
    unfold l2
    repeat' first
      | with_reducible assumption | with_reducible apply setPort_keeps | (simp only [mk_keeps])
      | with_reducible apply foldl_keeps | split | intro _ _ _ | intro _ _ | extract_lets
      | (dsimp +zetaDelta only)
  clear_value l2
  repeat' first
    | with_reducible assumption | with_reducible apply enterSeek_keeps | with_reducible apply log_keeps
    | (simp only [mk_keeps]) | with_reducible apply foldl_keeps | split | intro _ _ _ | intro _ _
    | extract_lets | (dsimp +zetaDelta only)

theorem execParFrameTimeout_keeps {zz : State} {n : Fin 2} {s : State}
    (hs : Keeps zz s) :
    KeepsOut zz (execParFrameTimeout n s) := by
  unfold execParFrameTimeout
  refine keepsOut_next ?_
  repeat' first
    | with_reducible assumption | with_reducible apply onPort_keeps | with_reducible apply syncLoss_keeps
    | (simp only [mk_keeps]) | with_reducible apply foldl_keeps | split | intro _ _ _ | intro _ _
    | extract_lets | (dsimp +zetaDelta only)

theorem storeLine_keeps {zz : State} {n : Nat} {field : Bool} {damaged : Bool} {bs : List Nat} {s : State}
    (hs : Keeps zz s) :
    Keeps zz (storeLine n field damaged bs s) := by
  unfold storeLine
  extract_lets l0 l1
  repeat' first
    | with_reducible assumption | with_reducible apply count_keeps | with_reducible apply setFeed_keeps
    | with_reducible apply setPort_keeps | with_reducible apply feedBytes_keeps | (simp only [mk_keeps])
    | with_reducible apply foldl_keeps | split | intro _ _ _ | intro _ _ | extract_lets
    | (dsimp +zetaDelta only)

theorem frameLine_keeps {zz : State} {n : Nat} {clocks : Nat} {field : Bool} {bad : Bool} {pix : List Nat} {s : State}
    (hs : Keeps zz s) :
    Keeps zz (frameLine n clocks field bad pix s) := by
  unfold frameLine
  extract_lets l0 l1 l2 l3 l4 l5 l6 l7 l8
  have kl7 : Keeps zz l7 := by
    unfold l7
    repeat' first
      | with_reducible assumption | with_reducible apply set_keeps | (simp only [mk_keeps])
      | with_reducible apply foldl_keeps | split | intro _ _ _ | intro _ _ | extract_lets
      | (dsimp +zetaDelta only)
  clear_value l7
  have kl8 : Keeps zz l8 := by
    unfold l8
    repeat' first
      | with_reducible assumption | with_reducible apply storeLine_keeps | with_reducible apply setPort_keeps
      | (simp only [mk_keeps]) | with_reducible apply foldl_keeps | split | intro _ _ _ | intro _ _
      | extract_lets | (dsimp +zetaDelta only)
  clear_value l8
  repeat' first
    | with_reducible assumption | with_reducible apply set_keeps | with_reducible apply syncLoss_keeps
    | with_reducible apply closePortFrame_keeps | (simp only [mk_keeps]) | with_reducible apply foldl_keeps
    | split | intro _ _ _ | intro _ _ | extract_lets | (dsimp +zetaDelta only)

theorem parLineEnd_keeps {zz : State} {n : Nat} {samples : List Nat} {clocks : Nat} {marked : Bool} {field : Bool} {codes : List Nat} {noEav : Bool} {s : State}
    (hs : Keeps zz s) :
    Keeps zz (parLineEnd n samples clocks marked field codes noEav s) := by
  unfold parLineEnd
  extract_lets l0 l1 l2 l3 l4 l5 l6 l7 l8
  have kl5 : Keeps zz l5 := by
    unfold l5
    repeat' first
      | with_reducible assumption | with_reducible apply count_keeps | (simp only [mk_keeps])
      | with_reducible apply foldl_keeps | split | intro _ _ _ | intro _ _ | extract_lets
      | (dsimp +zetaDelta only)
  clear_value l5
  have kl7 : Keeps zz l7 := by
    unfold l7
    repeat' first
      | with_reducible assumption | with_reducible apply setPort_keeps | with_reducible apply set_keeps
      | (simp only [mk_keeps]) | with_reducible apply foldl_keeps | split | intro _ _ _ | intro _ _
      | extract_lets | (dsimp +zetaDelta only)
  clear_value l7
  have kl8 : Keeps zz l8 := by
    unfold l8
    repeat' first
      | with_reducible assumption | with_reducible apply count_keeps | with_reducible apply frameLine_keeps
      | (simp only [mk_keeps]) | with_reducible apply foldl_keeps | split | intro _ _ _ | intro _ _
      | extract_lets | (dsimp +zetaDelta only)
  clear_value l8
  repeat' first
    | with_reducible assumption | with_reducible apply syncLoss_keeps | (simp only [mk_keeps])
    | with_reducible apply foldl_keeps | split | intro _ _ _ | intro _ _ | extract_lets
    | (dsimp +zetaDelta only)

theorem execParLineEnd_keeps {zz : State} {n : Fin 2} {line : ParLine} {s : State}
    (hs : Keeps zz s) :
    KeepsOut zz (execParLineEnd n line s) := by
  unfold execParLineEnd
  refine keepsOut_next ?_
  repeat' first
    | with_reducible assumption | with_reducible apply onPort_keeps | with_reducible apply parLineEnd_keeps
    | (simp only [mk_keeps]) | with_reducible apply foldl_keeps | split | intro _ _ _ | intro _ _
    | extract_lets | (dsimp +zetaDelta only)

theorem execParLineTimeout_keeps {zz : State} {n : Fin 2} {s : State}
    (hs : Keeps zz s) :
    KeepsOut zz (execParLineTimeout n s) := by
  unfold execParLineTimeout
  refine keepsOut_next ?_
  repeat' first
    | with_reducible assumption | with_reducible apply onPort_keeps | with_reducible apply syncLoss_keeps
    | (simp only [mk_keeps]) | with_reducible apply foldl_keeps | split | intro _ _ _ | intro _ _
    | extract_lets | (dsimp +zetaDelta only)

theorem execParStreamWrite_keeps {zz : State} {n : Fin 2} {v : Word} {s : State}
    (hs : Keeps zz s) :
    KeepsOut zz (execParStreamWrite n v s) := by
  unfold execParStreamWrite
  refine keepsOut_next ?_
  repeat' first
    | with_reducible assumption | with_reducible apply regWrite_keeps | (simp only [mk_keeps])
    | with_reducible apply foldl_keeps | split | intro _ _ _ | intro _ _ | extract_lets
    | (dsimp +zetaDelta only)

theorem parTriggerTimeout_keeps {zz : State} {n : Nat} {s : State}
    (hs : Keeps zz s) :
    Keeps zz (parTriggerTimeout n s) := by
  unfold parTriggerTimeout
  extract_lets l0
  repeat' first
    | with_reducible assumption | with_reducible apply countDropped_keeps | with_reducible apply log_keeps
    | with_reducible apply setPort_keeps | with_reducible apply setBusy_keeps | (simp only [mk_keeps])
    | with_reducible apply foldl_keeps | split | intro _ _ _ | intro _ _ | extract_lets
    | (dsimp +zetaDelta only)

theorem execParTriggerTimeout_keeps {zz : State} {n : Fin 2} {s : State}
    (hs : Keeps zz s) :
    KeepsOut zz (execParTriggerTimeout n s) := by
  unfold execParTriggerTimeout
  refine keepsOut_next ?_
  repeat' first
    | with_reducible assumption | with_reducible apply onPort_keeps
    | with_reducible apply parTriggerTimeout_keeps | (simp only [mk_keeps]) | with_reducible apply foldl_keeps
    | split | intro _ _ _ | intro _ _ | extract_lets | (dsimp +zetaDelta only)

theorem pdelayInterval_keeps {zz : State} {p : Nat} {stamp : Nat} {s : State}
    (hs : Keeps zz s) :
    Keeps zz (pdelayInterval p stamp s) := by
  unfold pdelayInterval
  extract_lets l0 l1 l2 l3
  have kl3 : Keeps zz l3 := by
    unfold l3
    repeat' first
      | with_reducible assumption | with_reducible apply rawMsg_keeps | with_reducible apply ptpSend_keeps
      | (simp only [mk_keeps]) | with_reducible apply foldl_keeps | split | intro _ _ _ | intro _ _
      | extract_lets | (dsimp +zetaDelta only)
  clear_value l3
  repeat' first
    | with_reducible assumption | with_reducible apply setPtpPort_keeps | (simp only [mk_keeps])
    | with_reducible apply foldl_keeps | split | intro _ _ _ | intro _ _ | extract_lets
    | (dsimp +zetaDelta only)

theorem execPdelayInterval_keeps {zz : State} {p : Fin 2} {stamp : Nat} {s : State}
    (hs : Keeps zz s) :
    KeepsOut zz (execPdelayInterval p stamp s) := by
  unfold execPdelayInterval
  refine keepsOut_next ?_
  repeat' first
    | with_reducible assumption | with_reducible apply pdelayInterval_keeps | (simp only [mk_keeps])
    | with_reducible apply foldl_keeps | split | intro _ _ _ | intro _ _ | extract_lets
    | (dsimp +zetaDelta only)

theorem pdelayReqIn_keeps {zz : State} {p : Nat} {stamp : Nat} {tx : Nat} {m : List Nat} {s : State}
    (hs : Keeps zz s) :
    Keeps zz (pdelayReqIn p stamp tx m s) := by
  unfold pdelayReqIn
  extract_lets l0 l1 l2 l3 l4 l5 l6
  have kl2 : Keeps zz l2 := by
    unfold l2
    repeat' first
      | with_reducible assumption | with_reducible apply rawMsg_keeps | (simp only [mk_keeps])
      | with_reducible apply foldl_keeps | split | intro _ _ _ | intro _ _ | extract_lets
      | (dsimp +zetaDelta only)
  clear_value l2
  repeat' first
    | with_reducible assumption | with_reducible apply rawMsg_keeps | with_reducible apply ptpSend_keeps
    | (simp only [mk_keeps]) | with_reducible apply foldl_keeps | split | intro _ _ _ | intro _ _
    | extract_lets | (dsimp +zetaDelta only)

theorem execPdelayReqReceived_keeps {zz : State} {p : Fin 2} {f : List Byte} {stamp : Nat} {tx : Nat} {s : State}
    (hs : Keeps zz s) :
    KeepsOut zz (execPdelayReqReceived p f stamp tx s) := by
  unfold execPdelayReqReceived
  refine keepsOut_next ?_
  repeat' first
    | with_reducible assumption | with_reducible apply ptpTake_keeps | with_reducible apply pdelayReqIn_keeps
    | (simp only [mk_keeps]) | with_reducible apply foldl_keeps | split | intro _ _ _ | intro _ _
    | extract_lets | (dsimp +zetaDelta only)

theorem linkDelay_keeps {zz : State} {p : Nat} {t1 : Int} {t4 : Int} {turn : Int} {s : State}
    (hs : Keeps zz s) :
    Keeps zz (linkDelay p t1 t4 turn s) := by
  unfold linkDelay
  extract_lets l0 l1 l2
  have kl2 : Keeps zz l2 := by
    unfold l2
    repeat' first
      | with_reducible assumption | with_reducible apply setPtpPort_keeps | (simp only [mk_keeps])
      | with_reducible apply foldl_keeps | split | intro _ _ _ | intro _ _ | extract_lets
      | (dsimp +zetaDelta only)
  clear_value l2
  repeat' first
    | with_reducible assumption | with_reducible apply set_keeps | (simp only [mk_keeps])
    | with_reducible apply foldl_keeps | split | intro _ _ _ | intro _ _ | extract_lets
    | (dsimp +zetaDelta only)

theorem pdelayRespIn_keeps {zz : State} {p : Nat} {stamp : Nat} {m : List Nat} {s : State}
    (hs : Keeps zz s) :
    Keeps zz (pdelayRespIn p stamp m s) := by
  unfold pdelayRespIn
  extract_lets l0 l1 l2 l3
  have kl2 : Keeps zz l2 := by
    unfold l2
    repeat' first
      | with_reducible assumption | with_reducible apply rawMsg_keeps | (simp only [mk_keeps])
      | with_reducible apply foldl_keeps | split | intro _ _ _ | intro _ _ | extract_lets
      | (dsimp +zetaDelta only)
  clear_value l2
  have kl3 : Keeps zz l3 := by
    unfold l3
    repeat' first
      | with_reducible assumption | with_reducible apply rawMsg_keeps | (simp only [mk_keeps])
      | with_reducible apply foldl_keeps | split | intro _ _ _ | intro _ _ | extract_lets
      | (dsimp +zetaDelta only)
  clear_value l3
  repeat' first
    | with_reducible assumption | with_reducible apply setPtpPort_keeps | with_reducible apply linkDelay_keeps
    | (simp only [mk_keeps]) | with_reducible apply foldl_keeps | split | intro _ _ _ | intro _ _
    | extract_lets | (dsimp +zetaDelta only)

theorem execPdelayRespReceived_keeps {zz : State} {p : Fin 2} {f : List Byte} {stamp : Nat} {followUp : Bool} {s : State}
    (hs : Keeps zz s) :
    KeepsOut zz (execPdelayRespReceived p f stamp followUp s) := by
  unfold execPdelayRespReceived
  refine keepsOut_next ?_
  repeat' first
    | with_reducible assumption | with_reducible apply ptpTake_keeps | with_reducible apply pdelayRespIn_keeps
    | (simp only [mk_keeps]) | with_reducible apply foldl_keeps | split | intro _ _ _ | intro _ _
    | extract_lets | (dsimp +zetaDelta only)

theorem execPerstAssert_keeps {zz : State} {s : State}
    (hs : Keeps zz s) :
    KeepsOut zz (execPerstAssert s) := by
  unfold execPerstAssert
  refine keepsOut_next ?_
  repeat' first
    | with_reducible assumption | with_reducible apply setLock_keeps | with_reducible apply bridgeReset_keeps
    | with_reducible apply bridgeDown_keeps | (simp only [mk_keeps]) | with_reducible apply foldl_keeps
    | split | intro _ _ _ | intro _ _ | extract_lets | (dsimp +zetaDelta only)

theorem hostRelease_keeps {zz : State} {s : State}
    (hs : Keeps zz s) :
    Keeps zz (hostRelease s) := by
  unfold hostRelease
  extract_lets l0
  repeat' first
    | with_reducible assumption | with_reducible apply setLock_keeps | (simp only [mk_keeps])
    | with_reducible apply foldl_keeps | split | intro _ _ _ | intro _ _ | extract_lets
    | (dsimp +zetaDelta only)

theorem execPerstRelease_keeps {zz : State} {s : State}
    (hs : Keeps zz s) :
    KeepsOut zz (execPerstRelease s) := by
  unfold execPerstRelease
  refine keepsOut_next ?_
  repeat' first
    | with_reducible assumption | with_reducible apply hostRelease_keeps | (simp only [mk_keeps])
    | with_reducible apply foldl_keeps | split | intro _ _ _ | intro _ _ | extract_lets
    | (dsimp +zetaDelta only)

theorem execPingPeriod_keeps {zz : State} {s : State}
    (hs : Keeps zz s) :
    KeepsOut zz (execPingPeriod s) := by
  unfold execPingPeriod
  refine keepsOut_next ?_
  repeat' first
    | with_reducible assumption | with_reducible apply duePing_keeps | (simp only [mk_keeps])
    | with_reducible apply foldl_keeps | split | intro _ _ _ | intro _ _ | extract_lets
    | (dsimp +zetaDelta only)

theorem execPipeFlushDone_keeps {zz : State} {p : Fin 4} {s : State}
    (hs : Keeps zz s) :
    KeepsOut zz (execPipeFlushDone p s) := by
  unfold execPipeFlushDone
  refine keepsOut_next ?_
  repeat' first
    | with_reducible assumption | with_reducible apply pipeFlushDone_keeps | (simp only [mk_keeps])
    | with_reducible apply foldl_keeps | split | intro _ _ _ | intro _ _ | extract_lets
    | (dsimp +zetaDelta only)

theorem latchSet_keeps {zz : State} {p : Nat} {w : Nat} {h : Nat} {s : State}
    (hs : Keeps zz s) :
    Keeps zz (latchSet p w h s) := by
  unfold latchSet
  extract_lets l0 l1
  have kl1 : Keeps zz l1 := by
    unfold l1
    repeat' first
      | with_reducible assumption | with_reducible apply deriveScale_keeps | (simp only [mk_keeps])
      | with_reducible apply foldl_keeps | split | intro _ _ _ | intro _ _ | extract_lets
      | (dsimp +zetaDelta only)
  clear_value l1
  repeat' first
    | with_reducible assumption | with_reducible apply setPipe_keeps | (simp only [mk_keeps])
    | with_reducible apply foldl_keeps | split | intro _ _ _ | intro _ _ | extract_lets
    | (dsimp +zetaDelta only)

theorem refuseFrame_keeps {zz : State} {f : Feed} {s : State}
    (hs : Keeps zz s) :
    Keeps zz (refuseFrame f s) := by
  unfold refuseFrame
  repeat' first
    | with_reducible assumption | with_reducible apply settleStream_keeps
    | with_reducible apply dropFeed_keeps | with_reducible apply setFeed_keeps | (simp only [mk_keeps])
    | with_reducible apply foldl_keeps | split | intro _ _ _ | intro _ _ | extract_lets
    | (dsimp +zetaDelta only)

theorem openItems_keeps {zz : State} {p : Nat} {f : Feed} {s : State} (hs : Keeps zz s) :
    Keeps zz (openItems p f s) := by
  unfold openItems
  dsimp only
  split
  · exact setPipe_keeps (openPicture_keeps hs)
  · refine foldl_fst_keeps ?_ ?_
    · exact setPipe_keeps (takeSeq_keeps (count_keeps hs))
    · intro a e ha
      exact setPipe_keeps (newItem_keeps ha)

theorem pipeFrameStart_keeps {zz : State} {p : Nat} {s : State}
    (hs : Keeps zz s) :
    Keeps zz (pipeFrameStart p s) := by
  unfold pipeFrameStart
  repeat' first
    | with_reducible assumption | with_reducible apply latchSet_keeps | with_reducible apply refuseFrame_keeps
    | with_reducible apply log_keeps | with_reducible apply count_keeps | with_reducible apply setPipe_keeps
    | with_reducible apply set_keeps | with_reducible apply openItems_keeps | (simp only [mk_keeps])
    | with_reducible apply foldl_keeps | split | intro _ _ _ | intro _ _ | extract_lets
    | (dsimp +zetaDelta only)

theorem execPipeFrameStart_keeps {zz : State} {p : Fin 4} {s : State}
    (hs : Keeps zz s) :
    KeepsOut zz (execPipeFrameStart p s) := by
  unfold execPipeFrameStart
  refine keepsOut_next ?_
  repeat' first
    | with_reducible assumption | with_reducible apply pipeFrameStart_keeps | (simp only [mk_keeps])
    | with_reducible apply foldl_keeps | split | intro _ _ _ | intro _ _ | extract_lets
    | (dsimp +zetaDelta only)

theorem pipeInputEnd_keeps {zz : State} {p : Nat} {s : State}
    (hs : Keeps zz s) :
    Keeps zz (pipeInputEnd p s) := by
  unfold pipeInputEnd
  extract_lets l0
  repeat' first
    | with_reducible assumption | with_reducible apply set_keeps | (simp only [mk_keeps])
    | with_reducible apply foldl_keeps | split | intro _ _ _ | intro _ _ | extract_lets
    | (dsimp +zetaDelta only)

theorem execPipeInputEnd_keeps {zz : State} {p : Fin 4} {s : State}
    (hs : Keeps zz s) :
    KeepsOut zz (execPipeInputEnd p s) := by
  unfold execPipeInputEnd
  refine keepsOut_next ?_
  repeat' first
    | with_reducible assumption | with_reducible apply pipeInputEnd_keeps | (simp only [mk_keeps])
    | with_reducible apply foldl_keeps | split | intro _ _ _ | intro _ _ | extract_lets
    | (dsimp +zetaDelta only)

theorem pipeInputLine_keeps {zz : State} {p : Nat} {cut : Option Nat} {s : State}
    (hs : Keeps zz s) :
    Keeps zz (pipeInputLine p cut s) := by
  unfold pipeInputLine
  extract_lets l0 l1 l2
  repeat' first
    | with_reducible assumption | with_reducible apply setFeed_keeps | with_reducible apply setPipe_keeps
    | with_reducible apply set_keeps | with_reducible apply count_keeps | with_reducible apply log_keeps
    | with_reducible apply fire_keeps | with_reducible apply emitRows_keeps | (simp only [mk_keeps])
    | with_reducible apply foldl_keeps | split | intro _ _ _ | intro _ _ | extract_lets
    | (dsimp +zetaDelta only)

theorem execPipeInputLine_keeps {zz : State} {p : Fin 4} {cut : Option Nat} {s : State}
    (hs : Keeps zz s) :
    KeepsOut zz (execPipeInputLine p cut s) := by
  unfold execPipeInputLine
  refine keepsOut_next ?_
  repeat' first
    | with_reducible assumption | with_reducible apply pipeInputLine_keeps | (simp only [mk_keeps])
    | with_reducible apply foldl_keeps | split | intro _ _ _ | intro _ _ | extract_lets
    | (dsimp +zetaDelta only)

theorem execPixBistDone_keeps {zz : State} {p : Fin 4} {fail : Option Nat} {s : State}
    (hs : Keeps zz s) :
    KeepsOut zz (execPixBistDone p fail s) := by
  unfold execPixBistDone
  refine keepsOut_next ?_
  repeat' first
    | with_reducible assumption | with_reducible apply pixBistEnd_keeps | with_reducible apply log_keeps
    | (simp only [mk_keeps]) | with_reducible apply foldl_keeps | split | intro _ _ _ | intro _ _
    | extract_lets | (dsimp +zetaDelta only)

theorem execPixBistStart_keeps {zz : State} {p : Fin 4} {v : Word} {s : State}
    (hs : Keeps zz s) :
    KeepsOut zz (execPixBistStart p v s) := by
  unfold execPixBistStart
  refine keepsOut_next ?_
  repeat' first
    | with_reducible assumption | with_reducible apply regWrite_keeps | (simp only [mk_keeps])
    | with_reducible apply foldl_keeps | split | intro _ _ _ | intro _ _ | extract_lets
    | (dsimp +zetaDelta only)

theorem execPixSrcWrite_keeps {zz : State} {p : Fin 4} {v : Word} {s : State}
    (hs : Keeps zz s) :
    KeepsOut zz (execPixSrcWrite p v s) := by
  unfold execPixSrcWrite
  refine keepsOut_next ?_
  repeat' first
    | with_reducible assumption | with_reducible apply regWrite_keeps | (simp only [mk_keeps])
    | with_reducible apply foldl_keeps | split | intro _ _ _ | intro _ _ | extract_lets
    | (dsimp +zetaDelta only)

theorem execPixTableWrite_keeps {zz : State} {p : Fin 4} {tbl : Fin 2} {k : BitVec 16} {v : Word} {s : State}
    (hs : Keeps zz s) :
    KeepsOut zz (execPixTableWrite p tbl k v s) := by
  unfold execPixTableWrite
  refine keepsOut_next ?_
  repeat' first
    | with_reducible assumption | with_reducible apply regWrite_keeps | (simp only [mk_keeps])
    | with_reducible apply foldl_keeps | split | intro _ _ _ | intro _ _ | extract_lets
    | (dsimp +zetaDelta only)

theorem openByPixel_keeps {zz : State} {g : Nat} {st : Nat} {p : List Nat} {s : State}
    (hs : Keeps zz s) :
    Keeps zz (openByPixel g st p s) := by
  unfold openByPixel
  repeat' first
    | with_reducible assumption | with_reducible apply openClp_keeps | with_reducible apply free_keeps
    | with_reducible refine free_keeps' ?_ (by with_reducible assumption) | (simp only [mk_keeps])
    | with_reducible apply foldl_keeps | split | intro _ _ _ | intro _ _ | extract_lets
    | (dsimp +zetaDelta only)

theorem pixelInto_keeps {zz : State} {st : Nat} {f : Feed} {gap : Nat} {p : List Nat} {s : State}
    (hs : Keeps zz s) :
    Keeps zz (pixelInto st f gap p s) := by
  unfold pixelInto
  extract_lets l0 l1 l2 l3
  repeat' first
    | with_reducible assumption | with_reducible apply setFeed_keeps | with_reducible apply feedBytes_keeps
    | (simp only [mk_keeps]) | with_reducible apply foldl_keeps | split | intro _ _ _ | intro _ _
    | extract_lets | (dsimp +zetaDelta only)

theorem pixelReceived_keeps {zz : State} {g : Nat} {p : List Nat} {s : State}
    (hs : Keeps zz s) :
    Keeps zz (pixelReceived g p s) := by
  unfold pixelReceived
  extract_lets l0 l1 l2 l3 l4
  have kl4 : Keeps zz l4 := by
    unfold l4
    repeat' first
      | with_reducible assumption | (simp only [mk_keeps]) | with_reducible apply foldl_keeps | split
      | intro _ _ _ | intro _ _ | extract_lets | (dsimp +zetaDelta only)
  clear_value l4
  repeat' first
    | with_reducible assumption | with_reducible apply discardPkt_keeps
    | with_reducible apply openByPixel_keeps | with_reducible apply pixelInto_keeps
    | with_reducible apply truncateClp_keeps | (simp only [mk_keeps]) | with_reducible apply foldl_keeps
    | split | intro _ _ _ | intro _ _ | extract_lets | (dsimp +zetaDelta only)

theorem execPixelReceived_keeps {zz : State} {g : Fin 16} {p : List Byte} {s : State}
    (hs : Keeps zz s) :
    KeepsOut zz (execPixelReceived g p s) := by
  unfold execPixelReceived
  refine keepsOut_next ?_
  repeat' first
    | with_reducible assumption | with_reducible apply onLane_keeps | with_reducible apply takePacket_keeps
    | with_reducible apply pixelReceived_keeps | (simp only [mk_keeps]) | with_reducible apply foldl_keeps
    | split | intro _ _ _ | intro _ _ | extract_lets | (dsimp +zetaDelta only)

theorem execPll1LockTimeout_keeps {zz : State} {s : State}
    (hs : Keeps zz s) :
    KeepsOut zz (execPll1LockTimeout s) := by
  unfold execPll1LockTimeout
  refine keepsOut_next ?_
  repeat' first
    | with_reducible assumption | with_reducible apply logRun_keeps | (simp only [mk_keeps])
    | with_reducible apply foldl_keeps | split | intro _ _ _ | intro _ _ | extract_lets
    | (dsimp +zetaDelta only)

theorem timHoldover_keeps {zz : State} {on : Bool} {s : State}
    (hs : Keeps zz s) :
    Keeps zz (timHoldover on s) := by
  unfold timHoldover
  repeat' first
    | with_reducible assumption | with_reducible apply enterTim_keeps | (simp only [mk_keeps])
    | with_reducible apply foldl_keeps | split | intro _ _ _ | intro _ _ | extract_lets
    | (dsimp +zetaDelta only)

theorem steerDone_keeps {zz : State} {s : State}
    (hs : Keeps zz s) :
    Keeps zz (steerDone s) := by
  unfold steerDone
  extract_lets l0
  repeat' first
    | with_reducible assumption | with_reducible apply timHoldover_keeps | with_reducible apply set_keeps
    | with_reducible apply setLock_keeps | (simp only [mk_keeps]) | with_reducible apply foldl_keeps | split
    | intro _ _ _ | intro _ _ | extract_lets | (dsimp +zetaDelta only)

theorem execPll1SteerDone_keeps {zz : State} {s : State}
    (hs : Keeps zz s) :
    KeepsOut zz (execPll1SteerDone s) := by
  unfold execPll1SteerDone
  refine keepsOut_next ?_
  repeat' first
    | with_reducible assumption | with_reducible apply steerDone_keeps | (simp only [mk_keeps])
    | with_reducible apply foldl_keeps | split | intro _ _ _ | intro _ _ | extract_lets
    | (dsimp +zetaDelta only)

theorem pollRead_keeps {zz : State} {p : PollSt} {s : State}
    (hs : Keeps zz s) :
    Keeps zz (pollRead p s) := by
  unfold pollRead
  repeat' first
    | with_reducible assumption | with_reducible apply readOp_keeps
    | with_reducible refine readOp_keeps' ?_ (by with_reducible assumption) | (simp only [mk_keeps])
    | with_reducible apply foldl_keeps | split | intro _ _ _ | intro _ _ | extract_lets
    | (dsimp +zetaDelta only)

theorem pollRetry_keeps {zz : State} {s : State}
    (hs : Keeps zz s) :
    Keeps zz (pollRetry s) := by
  unfold pollRetry
  repeat' first
    | with_reducible assumption | with_reducible apply pollRead_keeps | (simp only [mk_keeps])
    | with_reducible apply foldl_keeps | split | intro _ _ _ | intro _ _ | extract_lets
    | (dsimp +zetaDelta only)

theorem execPollRetry_keeps {zz : State} {s : State}
    (hs : Keeps zz s) :
    KeepsOut zz (execPollRetry s) := by
  unfold execPollRetry
  refine keepsOut_next ?_
  repeat' first
    | with_reducible assumption | with_reducible apply pollRetry_keeps | (simp only [mk_keeps])
    | with_reducible apply foldl_keeps | split | intro _ _ _ | intro _ _ | extract_lets
    | (dsimp +zetaDelta only)

theorem pollEntry_keeps {zz : State} {s : State} {k : Nat}
    (hs : Keeps zz s) :
    Keeps zz (pollEntry s k) := by
  unfold pollEntry
  extract_lets l0 l1
  repeat' first
    | with_reducible assumption | with_reducible apply localRead_keeps
    | with_reducible refine localRead_keeps' ?_ (by with_reducible assumption)
    | with_reducible apply pollStore_keeps | with_reducible apply farQueue_keeps | (simp only [mk_keeps])
    | with_reducible apply foldl_keeps | split | intro _ _ _ | intro _ _ | extract_lets
    | (dsimp +zetaDelta only)

theorem pollRound_keeps {zz : State} {s : State}
    (hs : Keeps zz s) :
    Keeps zz (pollRound s) := by
  unfold pollRound
  repeat' first
    | with_reducible assumption | with_reducible apply count_keeps | with_reducible apply pollEntry_keeps
    | (simp only [mk_keeps]) | with_reducible apply foldl_keeps | split | intro _ _ _ | intro _ _
    | extract_lets | (dsimp +zetaDelta only)

theorem execPollRound_keeps {zz : State} {s : State}
    (hs : Keeps zz s) :
    KeepsOut zz (execPollRound s) := by
  unfold execPollRound
  refine keepsOut_next ?_
  repeat' first
    | with_reducible assumption | with_reducible apply pollRound_keeps | (simp only [mk_keeps])
    | with_reducible apply foldl_keeps | split | intro _ _ _ | intro _ _ | extract_lets
    | (dsimp +zetaDelta only)

theorem pollTimeout_keeps {zz : State} {s : State}
    (hs : Keeps zz s) :
    Keeps zz (pollTimeout s) := by
  unfold pollTimeout
  extract_lets l0 l1 l2
  have kl1 : Keeps zz l1 := by
    unfold l1
    repeat' first
      | with_reducible assumption | with_reducible apply log_keeps | with_reducible apply count_keeps
      | (simp only [mk_keeps]) | with_reducible apply foldl_keeps | split | intro _ _ _ | intro _ _
      | extract_lets | (dsimp +zetaDelta only)
  clear_value l1
  repeat' first
    | with_reducible assumption | with_reducible apply applyAbort_keeps | (simp only [mk_keeps])
    | with_reducible apply foldl_keeps | split | intro _ _ _ | intro _ _ | extract_lets
    | (dsimp +zetaDelta only)

theorem execPollTimeout_keeps {zz : State} {s : State}
    (hs : Keeps zz s) :
    KeepsOut zz (execPollTimeout s) := by
  unfold execPollTimeout
  refine keepsOut_next ?_
  repeat' first
    | with_reducible assumption | with_reducible apply pollTimeout_keeps | (simp only [mk_keeps])
    | with_reducible apply foldl_keeps | split | intro _ _ _ | intro _ _ | extract_lets
    | (dsimp +zetaDelta only)

theorem porReset_keeps {zz : State} {s : State} (hs : Keeps zz s) : Keeps zz (porReset s) := by
  unfold porReset
  exact keepLevels_keeps0 (hs.trans ⟨fun _ => rfl, rfl, rfl, rfl, rfl, List.prefix_refl _, Nat.le_refl _⟩)

theorem execPorAssert_keeps {zz : State} {s : State}
    (hs : Keeps zz s) :
    KeepsOut zz (execPorAssert s) := by
  unfold execPorAssert
  refine keepsOut_next ?_
  repeat' first
    | with_reducible assumption | with_reducible apply porReset_keeps | (simp only [mk_keeps])
    | with_reducible apply foldl_keeps | split | intro _ _ _ | intro _ _ | extract_lets
    | (dsimp +zetaDelta only)

theorem porRelease_keeps {zz : State} {testMode : Bool} {slot : Nat} {s : State}
    (hs : Keeps zz s) :
    Keeps zz (porRelease testMode slot s) := by
  unfold porRelease
  extract_lets l0 l1 l2
  have kl2 : Keeps zz l2 := by
    unfold l2
    repeat' first
      | with_reducible assumption | (simp only [mk_keeps]) | with_reducible apply foldl_keeps | split
      | intro _ _ _ | intro _ _ | extract_lets | (dsimp +zetaDelta only)
  clear_value l2
  repeat' first
    | with_reducible assumption | with_reducible apply hostRelease_keeps | with_reducible apply set_keeps
    | (simp only [mk_keeps]) | with_reducible apply foldl_keeps | split | intro _ _ _ | intro _ _
    | extract_lets | (dsimp +zetaDelta only)

theorem execPorRelease_keeps {zz : State} {testMode : Bool} {slot : BitVec 5} {s : State}
    (hs : Keeps zz s) :
    KeepsOut zz (execPorRelease testMode slot s) := by
  unfold execPorRelease
  refine keepsOut_next ?_
  repeat' first
    | with_reducible assumption | with_reducible apply porRelease_keeps | (simp only [mk_keeps])
    | with_reducible apply foldl_keeps | split | intro _ _ _ | intro _ _ | extract_lets
    | (dsimp +zetaDelta only)

theorem execPosArm_keeps {zz : State} {n : Fin 8} {s : State}
    (hs : Keeps zz s) :
    KeepsOut zz (execPosArm n s) := by
  unfold execPosArm
  refine keepsOut_next ?_
  repeat' first
    | with_reducible assumption | with_reducible apply regWrite_keeps | (simp only [mk_keeps])
    | with_reducible apply foldl_keeps | split | intro _ _ _ | intro _ _ | extract_lets
    | (dsimp +zetaDelta only)

theorem execPosCfgWrite_keeps {zz : State} {n : Fin 8} {v : Word} {s : State}
    (hs : Keeps zz s) :
    KeepsOut zz (execPosCfgWrite n v s) := by
  unfold execPosCfgWrite
  refine keepsOut_next ?_
  repeat' first
    | with_reducible assumption | with_reducible apply regWrite_keeps | (simp only [mk_keeps])
    | with_reducible apply foldl_keeps | split | intro _ _ _ | intro _ _ | extract_lets
    | (dsimp +zetaDelta only)

theorem execPosCntRead_keeps {zz : State} {n : Fin 8} {s : State}
    (hs : Keeps zz s) :
    KeepsOut zz (execPosCntRead n s) := by
  unfold execPosCntRead
  refine keepsOut_next ?_
  repeat' first
    | with_reducible assumption | with_reducible apply hostRead_keeps | with_reducible apply cntRead_keeps
    | (simp only [mk_keeps]) | with_reducible apply foldl_keeps | split | intro _ _ _ | intro _ _
    | extract_lets | (dsimp +zetaDelta only)

theorem execPosDisarm_keeps {zz : State} {n : Fin 8} {s : State}
    (hs : Keeps zz s) :
    KeepsOut zz (execPosDisarm n s) := by
  unfold execPosDisarm
  refine keepsOut_next ?_
  repeat' first
    | with_reducible assumption | with_reducible apply regWrite_keeps | (simp only [mk_keeps])
    | with_reducible apply foldl_keeps | split | intro _ _ _ | intro _ _ | extract_lets
    | (dsimp +zetaDelta only)

theorem toothEdge_keeps {zz : State} {n : Nat} {t : Nat} {level : Bool} {s : State}
    (hs : Keeps zz s) :
    Keeps zz (toothEdge n t level s) := by
  unfold toothEdge
  repeat' first
    | with_reducible assumption | with_reducible apply setWheel_keeps | (simp only [mk_keeps])
    | with_reducible apply foldl_keeps | split | intro _ _ _ | intro _ _ | extract_lets
    | (dsimp +zetaDelta only)

theorem phaseError_keeps {zz : State} {n : Nat} {t : Nat} {s : State}
    (hs : Keeps zz s) :
    Keeps zz (phaseError n t s) := by
  unfold phaseError
  extract_lets l0 l1 l2
  have kl1 : Keeps zz l1 := by
    unfold l1
    repeat' first
      | with_reducible assumption | with_reducible apply clearRef_keeps | with_reducible apply count_keeps
      | with_reducible apply posFault_keeps | (simp only [mk_keeps]) | with_reducible apply foldl_keeps
      | split | intro _ _ _ | intro _ _ | extract_lets | (dsimp +zetaDelta only)
  clear_value l1
  repeat' first
    | with_reducible assumption | with_reducible apply logSec_keeps | with_reducible apply setChan_keeps
    | (simp only [mk_keeps]) | with_reducible apply foldl_keeps | split | intro _ _ _ | intro _ _
    | extract_lets | (dsimp +zetaDelta only)

theorem hallInvalid_keeps {zz : State} {n : Nat} {t : Nat} {st : Nat} {s : State}
    (hs : Keeps zz s) :
    Keeps zz (hallInvalid n t st s) := by
  unfold hallInvalid
  repeat' first
    | with_reducible assumption | with_reducible apply logSec_keeps | with_reducible apply clearRef_keeps
    | with_reducible apply count_keeps | with_reducible apply posFault_keeps | (simp only [mk_keeps])
    | with_reducible apply foldl_keeps | split | intro _ _ _ | intro _ _ | extract_lets
    | (dsimp +zetaDelta only)

theorem setByIndex_keeps {zz : State} {n : Nat} {t : Nat} {srcs : List Nat} {s : State}
    (hs : Keeps zz s) :
    Keeps zz (setByIndex n t srcs s) := by
  unfold setByIndex
  extract_lets l0 l1
  have kl1 : Keeps zz l1 := by
    unfold l1
    repeat' first
      | with_reducible assumption | with_reducible apply setCount_keeps | with_reducible apply setChan_keeps
      | (simp only [mk_keeps]) | with_reducible apply foldl_keeps | split | intro _ _ _ | intro _ _
      | extract_lets | (dsimp +zetaDelta only)
  clear_value l1
  repeat' first
    | with_reducible assumption | with_reducible apply setRef_keeps | (simp only [mk_keeps])
    | with_reducible apply foldl_keeps | split | intro _ _ _ | intro _ _ | extract_lets
    | (dsimp +zetaDelta only)

theorem indexEvent_keeps {zz : State} {n : Nat} {t : Nat} {step : Sample} {s : State}
    (hs : Keeps zz s) :
    Keeps zz (indexEvent n t step s) := by
  unfold indexEvent
  extract_lets l0 l1 l2 l3 l4 l5
  have kl1 : Keeps zz l1 := by
    unfold l1
    repeat' first
      | with_reducible assumption | with_reducible apply fire_keeps | with_reducible apply count_keeps
      | (simp only [mk_keeps]) | with_reducible apply foldl_keeps | split | intro _ _ _ | intro _ _
      | extract_lets | (dsimp +zetaDelta only)
  clear_value l1
  have kl4 : Keeps zz l4 := by
    unfold l4
    repeat' first
      | with_reducible assumption | with_reducible apply discardCount_keeps
      | with_reducible apply countEdge_keeps | (simp only [mk_keeps]) | with_reducible apply foldl_keeps
      | split | intro _ _ _ | intro _ _ | extract_lets | (dsimp +zetaDelta only)
  clear_value l4
  have kl5 : Keeps zz l5 := by
    unfold l5
    repeat' first
      | with_reducible assumption | with_reducible apply setByIndex_keeps | with_reducible apply set_keeps
      | (simp only [mk_keeps]) | with_reducible apply foldl_keeps | split | intro _ _ _ | intro _ _
      | extract_lets | (dsimp +zetaDelta only)
  clear_value l5
  repeat' first
    | with_reducible assumption | with_reducible apply posLatch_keeps | (simp only [mk_keeps])
    | with_reducible apply foldl_keeps | split | intro _ _ _ | intro _ _ | extract_lets
    | (dsimp +zetaDelta only)

theorem posSample_keeps {zz : State} {n : Nat} {a : Bool} {b : Bool} {z : Bool} {s : State}
    (hs : Keeps zz s) :
    Keeps zz (posSample n a b z s) := by
  unfold posSample
  extract_lets l0 l1 l2 l3 l4 l5 l6 l7 l8 l9
  have kl4 : Keeps zz l4 := by
    unfold l4
    repeat' first
      | with_reducible assumption | with_reducible apply set_keeps | (simp only [mk_keeps])
      | with_reducible apply foldl_keeps | split | intro _ _ _ | intro _ _ | extract_lets
      | (dsimp +zetaDelta only)
  clear_value l4
  have kl6 : Keeps zz l6 := by
    unfold l6
    repeat' first
      | with_reducible assumption | with_reducible apply toothEdge_keeps | (simp only [mk_keeps])
      | with_reducible apply foldl_keeps | split | intro _ _ _ | intro _ _ | extract_lets
      | (dsimp +zetaDelta only)
  clear_value l6
  have kl7 : Keeps zz l7 := by
    unfold l7
    repeat' first
      | with_reducible assumption | with_reducible apply checkInterval_keeps | (simp only [mk_keeps])
      | with_reducible apply foldl_keeps | split | intro _ _ _ | intro _ _ | extract_lets
      | (dsimp +zetaDelta only)
  clear_value l7
  have kl9 : Keeps zz l9 := by
    unfold l9
    repeat' first
      | with_reducible assumption | with_reducible apply phaseError_keeps
      | with_reducible apply hallInvalid_keeps | (simp only [mk_keeps]) | with_reducible apply foldl_keeps
      | split | intro _ _ _ | intro _ _ | extract_lets | (dsimp +zetaDelta only)
  clear_value l9
  repeat' first
    | with_reducible assumption | with_reducible apply indexEvent_keeps | with_reducible apply countEdge_keeps
    | (simp only [mk_keeps]) | with_reducible apply foldl_keeps | split | intro _ _ _ | intro _ _
    | extract_lets | (dsimp +zetaDelta only)

theorem execPosIndex_keeps {zz : State} {n : Fin 8} {a : Bool} {b : Bool} {z : Bool} {s : State}
    (hs : Keeps zz s) :
    KeepsOut zz (execPosIndex n a b z s) := by
  unfold execPosIndex
  refine keepsOut_next ?_
  repeat' first
    | with_reducible assumption | with_reducible apply posSample_keeps | (simp only [mk_keeps])
    | with_reducible apply foldl_keeps | split | intro _ _ _ | intro _ _ | extract_lets
    | (dsimp +zetaDelta only)

theorem execPosLatchCmd_keeps {zz : State} {n : Fin 8} {s : State}
    (hs : Keeps zz s) :
    KeepsOut zz (execPosLatchCmd n s) := by
  unfold execPosLatchCmd
  refine keepsOut_next ?_
  repeat' first
    | with_reducible assumption | with_reducible apply regWrite_keeps | (simp only [mk_keeps])
    | with_reducible apply foldl_keeps | split | intro _ _ _ | intro _ _ | extract_lets
    | (dsimp +zetaDelta only)

theorem execPosLatchTimeRead_keeps {zz : State} {probe : Bool} {k : Fin 8} {s : State}
    (hs : Keeps zz s) :
    KeepsOut zz (execPosLatchTimeRead probe k s) := by
  unfold execPosLatchTimeRead
  refine keepsOut_next ?_
  repeat' first
    | with_reducible assumption | with_reducible apply hostRead_keeps
    | with_reducible apply latchTimeRead_keeps | (simp only [mk_keeps]) | with_reducible apply foldl_keeps
    | split | intro _ _ _ | intro _ _ | extract_lets | (dsimp +zetaDelta only)

theorem execPosLoad_keeps {zz : State} {n : Fin 8} {s : State}
    (hs : Keeps zz s) :
    KeepsOut zz (execPosLoad n s) := by
  unfold execPosLoad
  refine keepsOut_next ?_
  repeat' first
    | with_reducible assumption | with_reducible apply regWrite_keeps | (simp only [mk_keeps])
    | with_reducible apply foldl_keeps | split | intro _ _ _ | intro _ _ | extract_lets
    | (dsimp +zetaDelta only)

theorem execPosRefset_keeps {zz : State} {n : Fin 8} {s : State}
    (hs : Keeps zz s) :
    KeepsOut zz (execPosRefset n s) := by
  unfold execPosRefset
  refine keepsOut_next ?_
  repeat' first
    | with_reducible assumption | with_reducible apply regWrite_keeps | (simp only [mk_keeps])
    | with_reducible apply foldl_keeps | split | intro _ _ _ | intro _ _ | extract_lets
    | (dsimp +zetaDelta only)

theorem execPosStillTimeout_keeps {zz : State} {n : Fin 8} {s : State}
    (hs : Keeps zz s) :
    KeepsOut zz (execPosStillTimeout n s) := by
  unfold execPosStillTimeout
  refine keepsOut_next ?_
  repeat' first
    | with_reducible assumption | with_reducible apply set_keeps | (simp only [mk_keeps])
    | with_reducible apply foldl_keeps | split | intro _ _ _ | intro _ _ | extract_lets
    | (dsimp +zetaDelta only)

theorem posTagEval_keeps {zz : State} {st : Nat} {s : State}
    (hs : Keeps zz s) :
    Keeps zz (posTagEval st s) := by
  unfold posTagEval
  extract_lets l0 l1
  have kl1 : Keeps zz l1 := by
    unfold l1
    repeat' first
      | with_reducible assumption | with_reducible apply evalPosition_keeps
      | with_reducible refine evalPosition_keeps' ?_ (by with_reducible assumption)
      | with_reducible apply mapItem_keeps | (simp only [mk_keeps]) | with_reducible apply foldl_keeps | split
      | intro _ _ _ | intro _ _ | extract_lets | (dsimp +zetaDelta only)
  clear_value l1
  repeat' first
    | with_reducible assumption | with_reducible apply evalPosition_keeps
    | with_reducible refine evalPosition_keeps' ?_ (by with_reducible assumption) | (simp only [mk_keeps])
    | with_reducible apply foldl_keeps | split | intro _ _ _ | intro _ _ | extract_lets
    | (dsimp +zetaDelta only)

theorem execPosTagEval_keeps {zz : State} {st : Fin 64} {s : State}
    (hs : Keeps zz s) :
    KeepsOut zz (execPosTagEval st s) := by
  unfold execPosTagEval
  refine keepsOut_next ?_
  repeat' first
    | with_reducible assumption | with_reducible apply posTagEval_keeps | (simp only [mk_keeps])
    | with_reducible apply foldl_keeps | split | intro _ _ _ | intro _ _ | extract_lets
    | (dsimp +zetaDelta only)

theorem execPosTransition_keeps {zz : State} {n : Fin 8} {a : Bool} {b : Bool} {z : Bool} {s : State}
    (hs : Keeps zz s) :
    KeepsOut zz (execPosTransition n a b z s) := by
  unfold execPosTransition
  refine keepsOut_next ?_
  repeat' first
    | with_reducible assumption | with_reducible apply posSample_keeps | (simp only [mk_keeps])
    | with_reducible apply foldl_keeps | split | intro _ _ _ | intro _ _ | extract_lets
    | (dsimp +zetaDelta only)

theorem ppsIn_keeps {zz : State} {rising : Bool} {stamp : Nat} {s : State}
    (hs : Keeps zz s) :
    Keeps zz (ppsIn rising stamp s) := by
  unfold ppsIn
  extract_lets l0 l1 l2 l3 l4 l5 l6
  have kl1 : Keeps zz l1 := by
    unfold l1
    repeat' first
      | with_reducible assumption | with_reducible apply count_keeps | (simp only [mk_keeps])
      | with_reducible apply foldl_keeps | split | intro _ _ _ | intro _ _ | extract_lets
      | (dsimp +zetaDelta only)
  clear_value l1
  have kl2 : Keeps zz l2 := by
    unfold l2
    repeat' first
      | with_reducible assumption | with_reducible apply rawPush_keeps | with_reducible apply fire_keeps
      | (simp only [mk_keeps]) | with_reducible apply foldl_keeps | split | intro _ _ _ | intro _ _
      | extract_lets | (dsimp +zetaDelta only)
  clear_value l2
  have kl4 : Keeps zz l4 := by
    unfold l4
    repeat' first
      | with_reducible assumption | with_reducible apply set_keeps | (simp only [mk_keeps])
      | with_reducible apply foldl_keeps | split | intro _ _ _ | intro _ _ | extract_lets
      | (dsimp +zetaDelta only)
  clear_value l4
  repeat' first
    | with_reducible assumption | with_reducible apply count_keeps | with_reducible apply set_keeps
    | with_reducible apply timSample_keeps | (simp only [mk_keeps]) | with_reducible apply foldl_keeps | split
    | intro _ _ _ | intro _ _ | extract_lets | (dsimp +zetaDelta only)

theorem execPpsInEdge_keeps {zz : State} {rising : Bool} {stamp : Nat} {s : State}
    (hs : Keeps zz s) :
    KeepsOut zz (execPpsInEdge rising stamp s) := by
  unfold execPpsInEdge
  refine keepsOut_next ?_
  repeat' first
    | with_reducible assumption | with_reducible apply ppsIn_keeps | (simp only [mk_keeps])
    | with_reducible apply foldl_keeps | split | intro _ _ _ | intro _ _ | extract_lets
    | (dsimp +zetaDelta only)

theorem ppsTimeout_keeps {zz : State} {s : State}
    (hs : Keeps zz s) :
    Keeps zz (ppsTimeout s) := by
  unfold ppsTimeout
  repeat' first
    | with_reducible assumption | with_reducible apply log_keeps | with_reducible apply enterTim_keeps
    | (simp only [mk_keeps]) | with_reducible apply foldl_keeps | split | intro _ _ _ | intro _ _
    | extract_lets | (dsimp +zetaDelta only)

theorem execPpsInTimeout_keeps {zz : State} {s : State}
    (hs : Keeps zz s) :
    KeepsOut zz (execPpsInTimeout s) := by
  unfold execPpsInTimeout
  refine keepsOut_next ?_
  repeat' first
    | with_reducible assumption | with_reducible apply ppsTimeout_keeps | (simp only [mk_keeps])
    | with_reducible apply foldl_keeps | split | intro _ _ _ | intro _ _ | extract_lets
    | (dsimp +zetaDelta only)

theorem ppsOutEnd_keeps {zz : State} {s : State}
    (hs : Keeps zz s) :
    Keeps zz (ppsOutEnd s) := by
  unfold ppsOutEnd
  extract_lets l0
  repeat' first
    | with_reducible assumption | with_reducible apply emit_keeps | (simp only [mk_keeps])
    | with_reducible apply foldl_keeps | split | intro _ _ _ | intro _ _ | extract_lets
    | (dsimp +zetaDelta only)

theorem execPpsOutEnd_keeps {zz : State} {s : State}
    (hs : Keeps zz s) :
    KeepsOut zz (execPpsOutEnd s) := by
  unfold execPpsOutEnd
  refine keepsOut_next ?_
  repeat' first
    | with_reducible assumption | with_reducible apply ppsOutEnd_keeps | (simp only [mk_keeps])
    | with_reducible apply foldl_keeps | split | intro _ _ _ | intro _ _ | extract_lets
    | (dsimp +zetaDelta only)

theorem ppsSecond_keeps {zz : State} {s : State}
    (hs : Keeps zz s) :
    Keeps zz (ppsSecond s) := by
  unfold ppsSecond
  extract_lets l0 l1 l2 l3
  have kl2 : Keeps zz l2 := by
    unfold l2
    repeat' first
      | with_reducible assumption | with_reducible apply fire_keeps | (simp only [mk_keeps])
      | with_reducible apply foldl_keeps | split | intro _ _ _ | intro _ _ | extract_lets
      | (dsimp +zetaDelta only)
  clear_value l2
  repeat' first
    | with_reducible assumption | with_reducible apply emit_keeps | (simp only [mk_keeps])
    | with_reducible apply foldl_keeps | split | intro _ _ _ | intro _ _ | extract_lets
    | (dsimp +zetaDelta only)

theorem execPpsSecond_keeps {zz : State} {s : State}
    (hs : Keeps zz s) :
    KeepsOut zz (execPpsSecond s) := by
  unfold execPpsSecond
  refine keepsOut_next ?_
  repeat' first
    | with_reducible assumption | with_reducible apply ppsSecond_keeps | (simp only [mk_keeps])
    | with_reducible apply foldl_keeps | split | intro _ _ _ | intro _ _ | extract_lets
    | (dsimp +zetaDelta only)

end Sys2Proof.Machine
end

