-- ==== Sys2Proof/Laws/Keeps5.lean ====
section
/-! SUPPORT. One lemma per operation, in the order in which the operations call each other: the operation keeps what `Keeps`
names (part 5 of 5). A lemma about a command says that it answers a next state that keeps it. -/

namespace Sys2Proof.Machine
set_option maxRecDepth 4000
set_option linter.all false

theorem trialDone_keeps {zz : State} {n : Nat} {opening : Nat} {ctle : Nat} {dfe1 : Nat} {dfe2 : Nat} {dfe3 : Nat} {s : State}
    (hs : Keeps zz s) :
    Keeps zz (trialDone n opening ctle dfe1 dfe2 dfe3 s) := by
  unfold trialDone
  extract_lets l0 l1 l2
  have kl1 : Keeps zz l1 := by
    unfold l1
    repeat' first
      | with_reducible assumption | with_reducible apply set_keeps | (simp only [mk_keeps])
      | with_reducible apply foldl_keeps | split | intro _ _ _ | intro _ _ | extract_lets
      | (dsimp +zetaDelta only)
  clear_value l1
  repeat' first
    | with_reducible assumption | with_reducible apply setLane_keeps | (simp only [mk_keeps])
    | with_reducible apply foldl_keeps | split | intro _ _ _ | intro _ _ | extract_lets
    | (dsimp +zetaDelta only)

theorem execPresetTrialDone_keeps {zz : State} {n : Fin 16} {opening : Nat} {ctle : BitVec 4} {dfe1 : BitVec 6} {dfe2 : BitVec 6} {dfe3 : BitVec 6} {s : State}
    (hs : Keeps zz s) :
    KeepsOut zz (execPresetTrialDone n opening ctle dfe1 dfe2 dfe3 s) := by
  unfold execPresetTrialDone
  refine keepsOut_next ?_
  repeat' first
    | with_reducible assumption | with_reducible apply onLane_keeps | with_reducible apply trialDone_keeps
    | (simp only [mk_keeps]) | with_reducible apply foldl_keeps | split | intro _ _ _ | intro _ _
    | extract_lets | (dsimp +zetaDelta only)

theorem probeEdge_keeps {zz : State} {k : Nat} {rising : Bool} {s : State}
    (hs : Keeps zz s) :
    Keeps zz (probeEdge k rising s) := by
  unfold probeEdge
  extract_lets l0 l1 l2 l3 l4 l5 l6 l7 l8 l9 l10
  have kl5 : Keeps zz l5 := by
    unfold l5
    repeat' first
      | with_reducible assumption | with_reducible apply setByIndex_keeps | with_reducible apply set_keeps
      | (simp only [mk_keeps]) | with_reducible apply foldl_keeps | split | intro _ _ _ | intro _ _
      | extract_lets | (dsimp +zetaDelta only)
  clear_value l5
  have kl8 : Keeps zz l8 := by
    unfold l8
    repeat' first
      | with_reducible assumption | with_reducible apply set_keeps | (simp only [mk_keeps])
      | with_reducible apply foldl_keeps | split | intro _ _ _ | intro _ _ | extract_lets
      | (dsimp +zetaDelta only)
  clear_value l8
  have kl9 : Keeps zz l9 := by
    unfold l9
    repeat' first
      | with_reducible assumption | with_reducible apply set_keeps | with_reducible apply fire_keeps
      | (simp only [mk_keeps]) | with_reducible apply foldl_keeps | split | intro _ _ _ | intro _ _
      | extract_lets | (dsimp +zetaDelta only)
  clear_value l9
  have kl10 : Keeps zz l10 := by
    unfold l10
    repeat' first
      | with_reducible assumption | with_reducible apply set_keeps | with_reducible apply logRun_keeps
      | with_reducible apply endRun_keeps | (simp only [mk_keeps]) | with_reducible apply foldl_keeps | split
      | intro _ _ _ | intro _ _ | extract_lets | (dsimp +zetaDelta only)
  clear_value l10
  repeat' first
    | with_reducible assumption | with_reducible apply set_keeps | (simp only [mk_keeps])
    | with_reducible apply foldl_keeps | split | intro _ _ _ | intro _ _ | extract_lets
    | (dsimp +zetaDelta only)

theorem execProbeEdge_keeps {zz : State} {k : Fin 8} {rising : Bool} {s : State}
    (hs : Keeps zz s) :
    KeepsOut zz (execProbeEdge k rising s) := by
  unfold execProbeEdge
  refine keepsOut_next ?_
  repeat' first
    | with_reducible assumption | with_reducible apply probeEdge_keeps | (simp only [mk_keeps])
    | with_reducible apply foldl_keeps | split | intro _ _ _ | intro _ _ | extract_lets
    | (dsimp +zetaDelta only)

theorem execQueBistDone_keeps {zz : State} {pass : Bool} {s : State}
    (hs : Keeps zz s) :
    KeepsOut zz (execQueBistDone pass s) := by
  unfold execQueBistDone
  refine keepsOut_next ?_
  repeat' first
    | with_reducible assumption | with_reducible apply queBistEnd_keeps | (simp only [mk_keeps])
    | with_reducible apply foldl_keeps | split | intro _ _ _ | intro _ _ | extract_lets
    | (dsimp +zetaDelta only)

theorem execQueBistStart_keeps {zz : State} {s : State}
    (hs : Keeps zz s) :
    KeepsOut zz (execQueBistStart s) := by
  unfold execQueBistStart
  refine keepsOut_next ?_
  repeat' first
    | with_reducible assumption | with_reducible apply regWrite_keeps | (simp only [mk_keeps])
    | with_reducible apply foldl_keeps | split | intro _ _ _ | intro _ _ | extract_lets
    | (dsimp +zetaDelta only)

theorem execQueCtxWrite_keeps {zz : State} {q : Fin 16384} {w : Fin 6} {v : Word} {s : State}
    (hs : Keeps zz s) :
    KeepsOut zz (execQueCtxWrite q w v s) := by
  unfold execQueCtxWrite
  refine keepsOut_next ?_
  repeat' first
    | with_reducible assumption | with_reducible apply regWrite_keeps | (simp only [mk_keeps])
    | with_reducible apply foldl_keeps | split | intro _ _ _ | intro _ _ | extract_lets
    | (dsimp +zetaDelta only)

theorem execQueMapWrite_keeps {zz : State} {venc : Bool} {st : Fin 64} {r : Fin 6} {v : Word} {s : State}
    (hs : Keeps zz s) :
    KeepsOut zz (execQueMapWrite venc st r v s) := by
  unfold execQueMapWrite
  refine keepsOut_next ?_
  repeat' first
    | with_reducible assumption | with_reducible apply regWrite_keeps | (simp only [mk_keeps])
    | with_reducible apply foldl_keeps | split | intro _ _ _ | intro _ _ | extract_lets
    | (dsimp +zetaDelta only)

theorem execQueueEnable_keeps {zz : State} {q : Fin 16384} {s : State}
    (hs : Keeps zz s) :
    KeepsOut zz (execQueueEnable q s) := by
  unfold execQueueEnable
  refine keepsOut_next ?_
  repeat' first
    | with_reducible assumption | with_reducible apply regWrite_keeps | (simp only [mk_keeps])
    | with_reducible apply foldl_keeps | split | intro _ _ _ | intro _ _ | extract_lets
    | (dsimp +zetaDelta only)

theorem execQueueMark_keeps {zz : State} {q : Fin 16384} {s : State}
    (hs : Keeps zz s) :
    KeepsOut zz (execQueueMark q s) := by
  unfold execQueueMark
  refine keepsOut_next ?_
  repeat' first
    | with_reducible assumption | with_reducible apply regWrite_keeps | (simp only [mk_keeps])
    | with_reducible apply foldl_keeps | split | intro _ _ _ | intro _ _ | extract_lets
    | (dsimp +zetaDelta only)

theorem execQueuePause_keeps {zz : State} {q : Fin 16384} {s : State}
    (hs : Keeps zz s) :
    KeepsOut zz (execQueuePause q s) := by
  unfold execQueuePause
  refine keepsOut_next ?_
  repeat' first
    | with_reducible assumption | with_reducible apply regWrite_keeps | (simp only [mk_keeps])
    | with_reducible apply foldl_keeps | split | intro _ _ _ | intro _ _ | extract_lets
    | (dsimp +zetaDelta only)

theorem execQueueReset_keeps {zz : State} {q : Fin 16384} {s : State}
    (hs : Keeps zz s) :
    KeepsOut zz (execQueueReset q s) := by
  unfold execQueueReset
  refine keepsOut_next ?_
  repeat' first
    | with_reducible assumption | with_reducible apply regWrite_keeps | (simp only [mk_keeps])
    | with_reducible apply foldl_keeps | split | intro _ _ _ | intro _ _ | extract_lets
    | (dsimp +zetaDelta only)

theorem queueResetDone_keeps {zz : State} {q : Nat} {s : State}
    (hs : Keeps zz s) :
    Keeps zz (queueResetDone q s) := by
  unfold queueResetDone
  repeat' first
    | with_reducible assumption | with_reducible apply set_keeps | (simp only [mk_keeps])
    | with_reducible apply foldl_keeps | split | intro _ _ _ | intro _ _ | extract_lets
    | (dsimp +zetaDelta only)

theorem execQueueResetDone_keeps {zz : State} {q : Fin 16384} {s : State}
    (hs : Keeps zz s) :
    KeepsOut zz (execQueueResetDone q s) := by
  unfold execQueueResetDone
  refine keepsOut_next ?_
  repeat' first
    | with_reducible assumption | with_reducible apply queueResetDone_keeps | (simp only [mk_keeps])
    | with_reducible apply foldl_keeps | split | intro _ _ _ | intro _ _ | extract_lets
    | (dsimp +zetaDelta only)

theorem execQueueResume_keeps {zz : State} {q : Fin 16384} {s : State}
    (hs : Keeps zz s) :
    KeepsOut zz (execQueueResume q s) := by
  unfold execQueueResume
  refine keepsOut_next ?_
  repeat' first
    | with_reducible assumption | with_reducible apply regWrite_keeps | (simp only [mk_keeps])
    | with_reducible apply foldl_keeps | split | intro _ _ _ | intro _ _ | extract_lets
    | (dsimp +zetaDelta only)

theorem quietIdle_keeps {zz : State} {n : Nat} {s : State}
    (hs : Keeps zz s) :
    Keeps zz (quietIdle n s) := by
  unfold quietIdle
  repeat' first
    | with_reducible assumption | with_reducible apply txQuiet_keeps | (simp only [mk_keeps])
    | with_reducible apply foldl_keeps | split | intro _ _ _ | intro _ _ | extract_lets
    | (dsimp +zetaDelta only)

theorem execQuietIdleTimeout_keeps {zz : State} {n : Fin 16} {s : State}
    (hs : Keeps zz s) :
    KeepsOut zz (execQuietIdleTimeout n s) := by
  unfold execQuietIdleTimeout
  refine keepsOut_next ?_
  repeat' first
    | with_reducible assumption | with_reducible apply onLane_keeps | with_reducible apply quietIdle_keeps
    | (simp only [mk_keeps]) | with_reducible apply foldl_keeps | split | intro _ _ _ | intro _ _
    | extract_lets | (dsimp +zetaDelta only)

theorem rateAlternate_keeps {zz : State} {p : Nat} {s : State}
    (hs : Keeps zz s) :
    Keeps zz (rateAlternate p s) := by
  unfold rateAlternate
  repeat' first
    | with_reducible assumption | with_reducible apply set_keeps | (simp only [mk_keeps])
    | with_reducible apply foldl_keeps | split | intro _ _ _ | intro _ _ | extract_lets
    | (dsimp +zetaDelta only)

theorem execRateAlternate_keeps {zz : State} {p : Fin 2} {s : State}
    (hs : Keeps zz s) :
    KeepsOut zz (execRateAlternate p s) := by
  unfold execRateAlternate
  refine keepsOut_next ?_
  repeat' first
    | with_reducible assumption | with_reducible apply rateAlternate_keeps | (simp only [mk_keeps])
    | with_reducible apply foldl_keeps | split | intro _ _ _ | intro _ _ | extract_lets
    | (dsimp +zetaDelta only)

theorem slewStep_keeps {zz : State} {s : State}
    (hs : Keeps zz s) :
    Keeps zz (slewStep s) := by
  unfold slewStep
  extract_lets l0 l1
  repeat' first
    | with_reducible assumption | with_reducible apply set_keeps | (simp only [mk_keeps])
    | with_reducible apply foldl_keeps | split | intro _ _ _ | intro _ _ | extract_lets
    | (dsimp +zetaDelta only)

theorem execRateSlewStep_keeps {zz : State} {s : State}
    (hs : Keeps zz s) :
    KeepsOut zz (execRateSlewStep s) := by
  unfold execRateSlewStep
  refine keepsOut_next ?_
  repeat' first
    | with_reducible assumption | with_reducible apply slewStep_keeps | (simp only [mk_keeps])
    | with_reducible apply foldl_keeps | split | intro _ _ _ | intro _ _ | extract_lets
    | (dsimp +zetaDelta only)

theorem speedDone_keeps {zz : State} {n : Nat} {sel : Nat} {s : State}
    (hs : Keeps zz s) :
    Keeps zz (speedDone n sel s) := by
  unfold speedDone
  repeat' first
    | with_reducible assumption | with_reducible apply enterTraining_keeps
    | with_reducible apply deriveEq_keeps | with_reducible apply set_keeps | (simp only [mk_keeps])
    | with_reducible apply foldl_keeps | split | intro _ _ _ | intro _ _ | extract_lets
    | (dsimp +zetaDelta only)

theorem execRateSwitchDone_keeps {zz : State} {n : Fin 16} {s : State}
    (hs : Keeps zz s) :
    KeepsOut zz (execRateSwitchDone n s) := by
  unfold execRateSwitchDone
  refine keepsOut_next ?_
  repeat' first
    | with_reducible assumption | with_reducible apply onLane_keeps | with_reducible apply speedDone_keeps
    | (simp only [mk_keeps]) | with_reducible apply foldl_keeps | split | intro _ _ _ | intro _ _
    | extract_lets | (dsimp +zetaDelta only)

theorem execRatemaxWrite_keeps {zz : State} {n : Fin 16} {v : Word} {s : State}
    (hs : Keeps zz s) :
    KeepsOut zz (execRatemaxWrite n v s) := by
  unfold execRatemaxWrite
  refine keepsOut_next ?_
  repeat' first
    | with_reducible assumption | with_reducible apply regWrite_keeps | (simp only [mk_keeps])
    | with_reducible apply foldl_keeps | split | intro _ _ _ | intro _ _ | extract_lets
    | (dsimp +zetaDelta only)

theorem execRawPop_keeps {zz : State} {s : State}
    (hs : Keeps zz s) :
    KeepsOut zz (execRawPop s) := by
  unfold execRawPop
  refine keepsOut_next ?_
  repeat' first
    | with_reducible assumption | with_reducible apply regWrite_keeps | (simp only [mk_keeps])
    | with_reducible apply foldl_keeps | split | intro _ _ _ | intro _ _ | extract_lets
    | (dsimp +zetaDelta only)

theorem skipRecord_keeps {zz : State} {s : State}
    (hs : Keeps zz s) :
    Keeps zz (skipRecord s) := by
  unfold skipRecord
  extract_lets l0 l1
  have kl0 : Keeps zz l0 := by
    unfold l0
    repeat' first
      | with_reducible assumption | with_reducible apply count_keeps | (simp only [mk_keeps])
      | with_reducible apply foldl_keeps | split | intro _ _ _ | intro _ _ | extract_lets
      | (dsimp +zetaDelta only)
  clear_value l0
  repeat' first
    | with_reducible assumption | with_reducible apply log_keeps | (simp only [mk_keeps])
    | with_reducible apply foldl_keeps | split | intro _ _ _ | intro _ _ | extract_lets
    | (dsimp +zetaDelta only)

theorem takeRecord_keeps {zz : State} {skip : Bool} {clk : Bool} {act : State → State} {s : State}
    (hact : ∀ a0, Keeps zz a0 → Keeps zz (act a0)) (hs : Keeps zz s) :
    Keeps zz (takeRecord skip clk act s) := by
  unfold takeRecord
  extract_lets l0 l1
  have kl1 : Keeps zz l1 := by
    unfold l1
    repeat' first
      | with_reducible assumption | (simp only [mk_keeps]) | with_reducible apply foldl_keeps | split
      | with_reducible apply hact | intro _ _ _ | intro _ _ | extract_lets | (dsimp +zetaDelta only)
  clear_value l1
  repeat' first
    | with_reducible assumption | with_reducible apply skipRecord_keeps | (simp only [mk_keeps])
    | with_reducible apply foldl_keeps | split | with_reducible apply hact | intro _ _ _ | intro _ _
    | extract_lets | (dsimp +zetaDelta only)

theorem recBasic_keeps {zz : State} {u : Nat} {inst : Nat} {ps : List (Nat × Nat)} {s : State}
    (hs : Keeps zz s) :
    Keeps zz (recBasic u inst ps s) := by
  unfold recBasic
  repeat' first
    | with_reducible assumption | with_reducible apply takeRecord_keeps | with_reducible apply basicPair_keeps
    | with_reducible apply loadWrite_keeps | (simp only [mk_keeps]) | with_reducible apply foldl_keeps | split
    | intro _ _ _ | intro _ _ | extract_lets | (dsimp +zetaDelta only)

theorem execRecordBasic_keeps {zz : State} {_required : Bool} {unit : Byte} {inst : Byte} {pairs : List (Word × Word)} {s : State}
    (hs : Keeps zz s) :
    KeepsOut zz (execRecordBasic _required unit inst pairs s) := by
  unfold execRecordBasic
  refine keepsOut_next ?_
  repeat' first
    | with_reducible assumption | with_reducible apply recBasic_keeps | (simp only [mk_keeps])
    | with_reducible apply foldl_keeps | split | intro _ _ _ | intro _ _ | extract_lets
    | (dsimp +zetaDelta only)

theorem recNop_keeps {zz : State} {ty : Nat} {s : State} (hs : Keeps zz s) : Keeps zz (recNop ty s) :=
  takeRecord_keeps (fun t ht => ht) hs

theorem execRecordNop_keeps {zz : State} {ty : Byte} {_required : Bool} {s : State}
    (hs : Keeps zz s) :
    KeepsOut zz (execRecordNop ty _required s) := by
  unfold execRecordNop
  refine keepsOut_next ?_
  repeat' first
    | with_reducible assumption | with_reducible apply recNop_keeps | (simp only [mk_keeps])
    | with_reducible apply foldl_keeps | split | intro _ _ _ | intro _ _ | extract_lets
    | (dsimp +zetaDelta only)

theorem recPoll_keeps {zz : State} {req : Bool} {a : Nat} {mask : Nat} {value : Nat} {s : State}
    (hs : Keeps zz s) :
    Keeps zz (recPoll req a mask value s) := by
  unfold recPoll
  repeat' first
    | with_reducible assumption | with_reducible apply takeRecord_keeps | with_reducible apply pollRead_keeps
    | (simp only [mk_keeps]) | with_reducible apply foldl_keeps | split | intro _ _ _ | intro _ _
    | extract_lets | (dsimp +zetaDelta only)

theorem execRecordPoll_keeps {zz : State} {required : Bool} {addr : Word} {mask : Word} {value : Word} {_timeout : Nat} {s : State}
    (hs : Keeps zz s) :
    KeepsOut zz (execRecordPoll required addr mask value _timeout s) := by
  unfold execRecordPoll
  refine keepsOut_next ?_
  repeat' first
    | with_reducible assumption | with_reducible apply recPoll_keeps | (simp only [mk_keeps])
    | with_reducible apply foldl_keeps | split | intro _ _ _ | intro _ _ | extract_lets
    | (dsimp +zetaDelta only)

theorem loadWords_keeps {zz : State} {a : Nat} {ws : List Nat} {s : State} (hs : Keeps zz s) :
    Keeps zz (loadWords a ws s) := by
  induction ws generalizing a s with
  | nil => exact hs
  | cons w t ih => exact ih (loadWrite_keeps hs)

theorem recRegblock_keeps {zz : State} {a : Nat} {ws : List Nat} {s : State}
    (hs : Keeps zz s) :
    Keeps zz (recRegblock a ws s) := by
  unfold recRegblock
  extract_lets l0
  repeat' first
    | with_reducible assumption | with_reducible apply takeRecord_keeps | with_reducible apply loadWords_keeps
    | (simp only [mk_keeps]) | with_reducible apply foldl_keeps | split | intro _ _ _ | intro _ _
    | extract_lets | (dsimp +zetaDelta only)

theorem execRecordRegblock_keeps {zz : State} {_required : Bool} {addr : Word} {data : List Word} {s : State}
    (hs : Keeps zz s) :
    KeepsOut zz (execRecordRegblock _required addr data s) := by
  unfold execRecordRegblock
  refine keepsOut_next ?_
  repeat' first
    | with_reducible assumption | with_reducible apply recRegblock_keeps | (simp only [mk_keeps])
    | with_reducible apply foldl_keeps | split | intro _ _ _ | intro _ _ | extract_lets
    | (dsimp +zetaDelta only)

theorem recRegwrite_keeps {zz : State} {a : Nat} {v : Nat} {mask : Nat} {s : State}
    (hs : Keeps zz s) :
    Keeps zz (recRegwrite a v mask s) := by
  unfold recRegwrite
  repeat' first
    | with_reducible assumption | with_reducible apply takeRecord_keeps | with_reducible apply loadWrite_keeps
    | with_reducible apply readOp_keeps
    | with_reducible refine readOp_keeps' ?_ (by with_reducible assumption) | (simp only [mk_keeps])
    | with_reducible apply foldl_keeps | split | intro _ _ _ | intro _ _ | extract_lets
    | (dsimp +zetaDelta only)

theorem execRecordRegwrite_keeps {zz : State} {_required : Bool} {addr : Word} {value : Word} {mask : Word} {s : State}
    (hs : Keeps zz s) :
    KeepsOut zz (execRecordRegwrite _required addr value mask s) := by
  unfold execRecordRegwrite
  refine keepsOut_next ?_
  repeat' first
    | with_reducible assumption | with_reducible apply recRegwrite_keeps | (simp only [mk_keeps])
    | with_reducible apply foldl_keeps | split | intro _ _ _ | intro _ _ | extract_lets
    | (dsimp +zetaDelta only)

theorem recTable_keeps {zz : State} {u : Nat} {tb : Nat} {inst : Nat} {start : Nat} {ws : List Nat} {s : State}
    (hs : Keeps zz s) :
    Keeps zz (recTable u tb inst start ws s) := by
  unfold recTable
  repeat' first
    | with_reducible assumption | with_reducible apply takeRecord_keeps | with_reducible apply loadWords_keeps
    | (simp only [mk_keeps]) | with_reducible apply foldl_keeps | split | intro _ _ _ | intro _ _
    | extract_lets | (dsimp +zetaDelta only)

theorem execRecordTable_keeps {zz : State} {_required : Bool} {unit : Byte} {table : Byte} {inst : Byte} {start : Word} {data : List Word} {s : State}
    (hs : Keeps zz s) :
    KeepsOut zz (execRecordTable _required unit table inst start data s) := by
  unfold execRecordTable
  refine keepsOut_next ?_
  repeat' first
    | with_reducible assumption | with_reducible apply recTable_keeps | (simp only [mk_keeps])
    | with_reducible apply foldl_keeps | split | intro _ _ _ | intro _ _ | extract_lets
    | (dsimp +zetaDelta only)

theorem recWait_keeps {zz : State} {s : State}
    (hs : Keeps zz s) :
    Keeps zz (recWait s) := by
  unfold recWait
  repeat' first
    | with_reducible assumption | with_reducible apply takeRecord_keeps | (simp only [mk_keeps])
    | with_reducible apply foldl_keeps | split | intro _ _ _ | intro _ _ | extract_lets
    | (dsimp +zetaDelta only)

theorem execRecordWait_keeps {zz : State} {_us : Nat} {s : State}
    (hs : Keeps zz s) :
    KeepsOut zz (execRecordWait _us s) := by
  unfold execRecordWait
  refine keepsOut_next ?_
  repeat' first
    | with_reducible assumption | with_reducible apply recWait_keeps | (simp only [mk_keeps])
    | with_reducible apply foldl_keeps | split | intro _ _ _ | intro _ _ | extract_lets
    | (dsimp +zetaDelta only)

theorem recoveryCheck_keeps {zz : State} {high : Bool} {s : State}
    (hs : Keeps zz s) :
    Keeps zz (recoveryCheck high s) := by
  unfold recoveryCheck
  extract_lets l0 l1 l2
  have kl0 : Keeps zz l0 := by
    unfold l0
    repeat' first
      | with_reducible assumption | with_reducible apply set_keeps | (simp only [mk_keeps])
      | with_reducible apply foldl_keeps | split | intro _ _ _ | intro _ _ | extract_lets
      | (dsimp +zetaDelta only)
  clear_value l0
  have kl1 : Keeps zz l1 := by
    unfold l1
    repeat' first
      | with_reducible assumption | with_reducible apply log_keeps | with_reducible apply setBwState_keeps
      | (simp only [mk_keeps]) | with_reducible apply foldl_keeps | split | intro _ _ _ | intro _ _
      | extract_lets | (dsimp +zetaDelta only)
  clear_value l1
  repeat' first
    | with_reducible assumption | with_reducible apply log_keeps | with_reducible apply count_keeps
    | with_reducible apply setBwState_keeps | with_reducible apply resetStrike_keeps | (simp only [mk_keeps])
    | with_reducible apply foldl_keeps | split | intro _ _ _ | intro _ _ | extract_lets
    | (dsimp +zetaDelta only)

theorem execRecoveryCheck_keeps {zz : State} {high : Bool} {s : State}
    (hs : Keeps zz s) :
    KeepsOut zz (execRecoveryCheck high s) := by
  unfold execRecoveryCheck
  refine keepsOut_next ?_
  repeat' first
    | with_reducible assumption | with_reducible apply recoveryCheck_keeps | (simp only [mk_keeps])
    | with_reducible apply foldl_keeps | split | intro _ _ _ | intro _ _ | extract_lets
    | (dsimp +zetaDelta only)

theorem recoveryRetry_keeps {zz : State} {s : State}
    (hs : Keeps zz s) :
    Keeps zz (recoveryRetry s) := by
  unfold recoveryRetry
  repeat' first
    | with_reducible assumption | with_reducible apply resetStrike_keeps | (simp only [mk_keeps])
    | with_reducible apply foldl_keeps | split | intro _ _ _ | intro _ _ | extract_lets
    | (dsimp +zetaDelta only)

theorem execRecoveryRetry_keeps {zz : State} {s : State}
    (hs : Keeps zz s) :
    KeepsOut zz (execRecoveryRetry s) := by
  unfold execRecoveryRetry
  refine keepsOut_next ?_
  repeat' first
    | with_reducible assumption | with_reducible apply recoveryRetry_keeps | (simp only [mk_keeps])
    | with_reducible apply foldl_keeps | split | intro _ _ _ | intro _ _ | extract_lets
    | (dsimp +zetaDelta only)

theorem execRederiveDone_keeps {zz : State} {u : Fin 18} {s : State}
    (hs : Keeps zz s) :
    KeepsOut zz (execRederiveDone u s) := by
  unfold execRederiveDone
  refine keepsOut_next ?_
  repeat' first
    | with_reducible assumption | with_reducible apply rederiveDone_keeps | (simp only [mk_keeps])
    | with_reducible apply foldl_keeps | split | intro _ _ _ | intro _ _ | extract_lets
    | (dsimp +zetaDelta only)

theorem noteLoss_keeps {zz : State} {f : Fld} {bits : Nat} {s : State}
    (hs : Keeps zz s) :
    Keeps zz (noteLoss f bits s) := by
  unfold noteLoss
  repeat' first
    | with_reducible assumption | with_reducible apply fire_keeps | with_reducible apply set_keeps
    | (simp only [mk_keeps]) | with_reducible apply foldl_keeps | split | intro _ _ _ | intro _ _
    | extract_lets | (dsimp +zetaDelta only)

theorem refLost_keeps {zz : State} {r : RefClk} {s : State}
    (hs : Keeps zz s) :
    Keeps zz (refLost r s) := by
  unfold refLost
  repeat' first
    | with_reducible assumption | with_reducible apply set_keeps | with_reducible apply log_keeps
    | with_reducible apply noteLoss_keeps | with_reducible apply startDetect_keeps
    | with_reducible apply laneLost_keeps | with_reducible apply portDown_keeps
    | with_reducible apply syncLoss_keeps | (simp only [mk_keeps]) | with_reducible apply foldl_keeps | split
    | intro _ _ _ | intro _ _ | extract_lets | (dsimp +zetaDelta only)

theorem execRefClockLost_keeps {zz : State} {r : RefClk} {s : State}
    (hs : Keeps zz s) :
    KeepsOut zz (execRefClockLost r s) := by
  unfold execRefClockLost
  refine keepsOut_next ?_
  repeat' first
    | with_reducible assumption | with_reducible apply refLost_keeps | (simp only [mk_keeps])
    | with_reducible apply foldl_keeps | split | intro _ _ _ | intro _ _ | extract_lets
    | (dsimp +zetaDelta only)

theorem execRegisterWrite_keeps {zz : State} {bar2 : Bool} {addr : BitVec 26} {data : List (Word × BitVec 4)} {poisoned : Bool} {s : State}
    (hs : Keeps zz s) :
    KeepsOut zz (execRegisterWrite bar2 addr data poisoned s) := by
  unfold execRegisterWrite
  refine keepsOut_next ?_
  repeat' first
    | with_reducible assumption | with_reducible apply barWrite_keeps | (simp only [mk_keeps])
    | with_reducible apply foldl_keeps | split | intro _ _ _ | intro _ _ | extract_lets
    | (dsimp +zetaDelta only)

theorem farRetry_keeps {zz : State} {id : Nat} {s : State}
    (hs : Keeps zz s) :
    Keeps zz (farRetry id s) := by
  unfold farRetry
  repeat' first
    | with_reducible assumption | with_reducible apply farSend_keeps | with_reducible apply setFar_keeps
    | (simp only [mk_keeps]) | with_reducible apply foldl_keeps | split | intro _ _ _ | intro _ _
    | extract_lets | (dsimp +zetaDelta only)

theorem execRemoteRetry_keeps {zz : State} {id : Nat} {s : State}
    (hs : Keeps zz s) :
    KeepsOut zz (execRemoteRetry id s) := by
  unfold execRemoteRetry
  refine keepsOut_next ?_
  repeat' first
    | with_reducible assumption | with_reducible apply farRetry_keeps | (simp only [mk_keeps])
    | with_reducible apply foldl_keeps | split | intro _ _ _ | intro _ _ | extract_lets
    | (dsimp +zetaDelta only)

theorem execReplayTimeout_keeps {zz : State} {g : Fin 16} {s : State}
    (hs : Keeps zz s) :
    KeepsOut zz (execReplayTimeout g s) := by
  unfold execReplayTimeout
  refine keepsOut_next ?_
  repeat' first
    | with_reducible assumption | with_reducible apply onLane_keeps | with_reducible apply startReplay_keeps
    | (simp only [mk_keeps]) | with_reducible apply foldl_keeps | split | intro _ _ _ | intro _ _
    | extract_lets | (dsimp +zetaDelta only)

theorem resetStrikeEnd_keeps {zz : State} {s : State}
    (hs : Keeps zz s) :
    Keeps zz (resetStrikeEnd s) := by
  unfold resetStrikeEnd
  extract_lets l0
  repeat' first
    | with_reducible assumption | with_reducible apply set_keeps | (simp only [mk_keeps])
    | with_reducible apply foldl_keeps | split | intro _ _ _ | intro _ _ | extract_lets
    | (dsimp +zetaDelta only)

theorem execResetStrikeEnd_keeps {zz : State} {s : State}
    (hs : Keeps zz s) :
    KeepsOut zz (execResetStrikeEnd s) := by
  unfold execResetStrikeEnd
  refine keepsOut_next ?_
  repeat' first
    | with_reducible assumption | with_reducible apply resetStrikeEnd_keeps | (simp only [mk_keeps])
    | with_reducible apply foldl_keeps | split | intro _ _ _ | intro _ _ | extract_lets
    | (dsimp +zetaDelta only)

theorem execRetrain_keeps {zz : State} {n : Fin 16} {v : Word} {s : State}
    (hs : Keeps zz s) :
    KeepsOut zz (execRetrain n v s) := by
  unfold execRetrain
  refine keepsOut_next ?_
  repeat' first
    | with_reducible assumption | with_reducible apply regWrite_keeps | (simp only [mk_keeps])
    | with_reducible apply foldl_keeps | split | intro _ _ _ | intro _ _ | extract_lets
    | (dsimp +zetaDelta only)

theorem retryEnd_keeps {zz : State} {s : State}
    (hs : Keeps zz s) :
    Keeps zz (retryEnd s) := by
  unfold retryEnd
  repeat' first
    | with_reducible assumption | with_reducible apply settleBridge_keeps | with_reducible apply set_keeps
    | (simp only [mk_keeps]) | with_reducible apply foldl_keeps | split | intro _ _ _ | intro _ _
    | extract_lets | (dsimp +zetaDelta only)

theorem execRetryEnd_keeps {zz : State} {s : State}
    (hs : Keeps zz s) :
    KeepsOut zz (execRetryEnd s) := by
  unfold execRetryEnd
  refine keepsOut_next ?_
  repeat' first
    | with_reducible assumption | with_reducible apply retryEnd_keeps | (simp only [mk_keeps])
    | with_reducible apply foldl_keeps | split | intro _ _ _ | intro _ _ | extract_lets
    | (dsimp +zetaDelta only)

theorem ringRelease_keeps {zz : State} {s : State}
    (hs : Keeps zz s) :
    Keeps zz (ringRelease s) := by
  unfold ringRelease
  extract_lets l0
  repeat' first
    | with_reducible assumption | with_reducible apply clkRstWrite_keeps | (simp only [mk_keeps])
    | with_reducible apply foldl_keeps | split | intro _ _ _ | intro _ _ | extract_lets
    | (dsimp +zetaDelta only)

theorem execRingPortRelease_keeps {zz : State} {s : State}
    (hs : Keeps zz s) :
    KeepsOut zz (execRingPortRelease s) := by
  unfold execRingPortRelease
  refine keepsOut_next ?_
  repeat' first
    | with_reducible assumption | with_reducible apply ringRelease_keeps | (simp only [mk_keeps])
    | with_reducible apply foldl_keeps | split | intro _ _ _ | intro _ _ | extract_lets
    | (dsimp +zetaDelta only)

theorem rootTimeout_keeps {zz : State} {s : State}
    (hs : Keeps zz s) :
    Keeps zz (rootTimeout s) := by
  unfold rootTimeout
  repeat' first
    | with_reducible assumption | with_reducible apply tryClaim_keeps | with_reducible apply log_keeps
    | with_reducible apply setNode_keeps | (simp only [mk_keeps]) | with_reducible apply foldl_keeps | split
    | intro _ _ _ | intro _ _ | extract_lets | (dsimp +zetaDelta only)

theorem execRootTimeout_keeps {zz : State} {s : State}
    (hs : Keeps zz s) :
    KeepsOut zz (execRootTimeout s) := by
  unfold execRootTimeout
  refine keepsOut_next ?_
  repeat' first
    | with_reducible assumption | with_reducible apply rootTimeout_keeps | (simp only [mk_keeps])
    | with_reducible apply foldl_keeps | split | intro _ _ _ | intro _ _ | extract_lets
    | (dsimp +zetaDelta only)

theorem remoteAnswer_keeps {zz : State} {f : List Nat} {ty : Nat} {status : Nat} {ws : List Nat} {s : State}
    (hs : Keeps zz s) :
    Keeps zz (remoteAnswer f ty status ws s) := by
  unfold remoteAnswer
  extract_lets l0 l1
  repeat' first
    | with_reducible assumption | with_reducible apply sendForward_keeps | (simp only [mk_keeps])
    | with_reducible apply foldl_keeps | split | intro _ _ _ | intro _ _ | extract_lets
    | (dsimp +zetaDelta only)

theorem remoteServe_keeps {zz : State} {f : List Nat} {ty : Nat} {held : Nat} {on : Fld} {act : State → List Nat × State} {s : State}
    (hact : ∀ a0, Keeps zz a0 → Keeps zz (act a0).2) (hs : Keeps zz s) :
    Keeps zz (remoteServe f ty held on act s) := by
  unfold remoteServe
  extract_lets l0
  repeat' first
    | with_reducible assumption | with_reducible apply remoteAnswer_keeps | with_reducible apply count_keeps
    | with_reducible apply logSec_keeps | (simp only [mk_keeps]) | with_reducible apply foldl_keeps | split
    | with_reducible apply hact | intro _ _ _ | intro _ _ | extract_lets | (dsimp +zetaDelta only)

theorem remoteRead_keeps {zz : State} {p : Nat} {f : List Nat} {held : Nat} {s : State}
    (hs : Keeps zz s) :
    Keeps zz (remoteRead p f held s) := by
  unfold remoteRead
  extract_lets l0
  repeat' first
    | with_reducible assumption | with_reducible apply remoteServe_keeps
    | with_reducible apply localReads_keeps
    | with_reducible refine localReads_keeps' ?_ (by with_reducible assumption) | (simp only [mk_keeps])
    | with_reducible apply foldl_keeps | split | intro _ _ _ | intro _ _ | extract_lets
    | (dsimp +zetaDelta only)

theorem execRreadReceived_keeps {zz : State} {p : Fin 2} {f : List Byte} {held : Nat} {s : State}
    (hs : Keeps zz s) :
    KeepsOut zz (execRreadReceived p f held s) := by
  unfold execRreadReceived
  refine keepsOut_next ?_
  repeat' first
    | with_reducible assumption | with_reducible apply remoteRead_keeps | (simp only [mk_keeps])
    | with_reducible apply foldl_keeps | split | intro _ _ _ | intro _ _ | extract_lets
    | (dsimp +zetaDelta only)

theorem execRrspReceived_keeps {zz : State} {p : Fin 2} {f : List Byte} {s : State}
    (hs : Keeps zz s) :
    KeepsOut zz (execRrspReceived p f s) := by
  unfold execRrspReceived
  refine keepsOut_next ?_
  repeat' first
    | with_reducible assumption | with_reducible apply answerIn_keeps | (simp only [mk_keeps])
    | with_reducible apply foldl_keeps | split | intro _ _ _ | intro _ _ | extract_lets
    | (dsimp +zetaDelta only)

theorem execRstAssert_keeps {zz : State} {s : State}
    (hs : Keeps zz s) :
    KeepsOut zz (execRstAssert s) := by
  unfold execRstAssert
  refine keepsOut_next ?_
  repeat' first
    | with_reducible assumption | with_reducible apply warmReset_keeps | (simp only [mk_keeps])
    | with_reducible apply foldl_keeps | split | intro _ _ _ | intro _ _ | extract_lets
    | (dsimp +zetaDelta only)

theorem execRstRelease_keeps {zz : State} {s : State}
    (hs : Keeps zz s) :
    KeepsOut zz (execRstRelease s) := by
  unfold execRstRelease
  refine keepsOut_next ?_
  repeat' first
    | with_reducible assumption | (simp only [mk_keeps]) | with_reducible apply foldl_keeps | split
    | intro _ _ _ | intro _ _ | extract_lets | (dsimp +zetaDelta only)

theorem execRwackReceived_keeps {zz : State} {p : Fin 2} {f : List Byte} {s : State}
    (hs : Keeps zz s) :
    KeepsOut zz (execRwackReceived p f s) := by
  unfold execRwackReceived
  refine keepsOut_next ?_
  repeat' first
    | with_reducible assumption | with_reducible apply answerIn_keeps | (simp only [mk_keeps])
    | with_reducible apply foldl_keeps | split | intro _ _ _ | intro _ _ | extract_lets
    | (dsimp +zetaDelta only)

theorem remoteWrite_keeps {zz : State} {p : Nat} {f : List Nat} {held : Nat} {s : State}
    (hs : Keeps zz s) :
    Keeps zz (remoteWrite p f held s) := by
  unfold remoteWrite
  extract_lets l0 l1
  repeat' first
    | with_reducible assumption | with_reducible apply remoteServe_keeps
    | with_reducible apply localWrites_keeps | (simp only [mk_keeps]) | with_reducible apply foldl_keeps
    | split | intro _ _ _ | intro _ _ | extract_lets | (dsimp +zetaDelta only)

theorem execRwriteReceived_keeps {zz : State} {p : Fin 2} {f : List Byte} {held : Nat} {s : State}
    (hs : Keeps zz s) :
    KeepsOut zz (execRwriteReceived p f held s) := by
  unfold execRwriteReceived
  refine keepsOut_next ?_
  repeat' first
    | with_reducible assumption | with_reducible apply remoteWrite_keeps | (simp only [mk_keeps])
    | with_reducible apply foldl_keeps | split | intro _ _ _ | intro _ _ | extract_lets
    | (dsimp +zetaDelta only)

theorem execRxPop_keeps {zz : State} {v : Word} {s : State}
    (hs : Keeps zz s) :
    KeepsOut zz (execRxPop v s) := by
  unfold execRxPop
  refine keepsOut_next ?_
  repeat' first
    | with_reducible assumption | with_reducible apply regWrite_keeps | (simp only [mk_keeps])
    | with_reducible apply foldl_keeps | split | intro _ _ _ | intro _ _ | extract_lets
    | (dsimp +zetaDelta only)

theorem fireEntry_keeps {zz : State} {e : Nat} {p : FireAt} {s : State}
    (hs : Keeps zz s) :
    Keeps zz (fireEntry e p s) := by
  unfold fireEntry
  extract_lets l0 l1 l2 l3 l4 l5 l6 l7
  have kl1 : Keeps zz l1 := by
    unfold l1
    repeat' first
      | with_reducible assumption | with_reducible apply count_keeps | with_reducible apply fireAt_keeps
      | (simp only [mk_keeps]) | with_reducible apply foldl_keeps | split | intro _ _ _ | intro _ _
      | extract_lets | (dsimp +zetaDelta only)
  clear_value l1
  have kl2 : Keeps zz l2 := by
    unfold l2
    repeat' first
      | with_reducible assumption | with_reducible apply count_keeps | with_reducible apply logSec_keeps
      | (simp only [mk_keeps]) | with_reducible apply foldl_keeps | split | intro _ _ _ | intro _ _
      | extract_lets | (dsimp +zetaDelta only)
  clear_value l2
  have kl7 : Keeps zz l7 := by
    unfold l7
    repeat' first
      | with_reducible assumption | with_reducible apply setWheel_keeps | (simp only [mk_keeps])
      | with_reducible apply foldl_keeps | split | intro _ _ _ | intro _ _ | extract_lets
      | (dsimp +zetaDelta only)
  clear_value l7
  repeat' first
    | with_reducible assumption | with_reducible apply disarmEntry_keeps | with_reducible apply set_keeps
    | with_reducible apply setEntry_keeps | (simp only [mk_keeps]) | with_reducible apply foldl_keeps | split
    | intro _ _ _ | intro _ _ | extract_lets | (dsimp +zetaDelta only)

theorem schedFire_keeps {zz : State} {e : Nat} {s : State}
    (hs : Keeps zz s) :
    Keeps zz (schedFire e s) := by
  unfold schedFire
  extract_lets l0
  repeat' first
    | with_reducible assumption | with_reducible apply fireEntry_keeps | (simp only [mk_keeps])
    | with_reducible apply foldl_keeps | split | intro _ _ _ | intro _ _ | extract_lets
    | (dsimp +zetaDelta only)

theorem execSchedFire_keeps {zz : State} {e : Fin 64} {s : State}
    (hs : Keeps zz s) :
    KeepsOut zz (execSchedFire e s) := by
  unfold execSchedFire
  refine keepsOut_next ?_
  repeat' first
    | with_reducible assumption | with_reducible apply schedFire_keeps | (simp only [mk_keeps])
    | with_reducible apply foldl_keeps | split | intro _ _ _ | intro _ _ | extract_lets
    | (dsimp +zetaDelta only)

theorem execSoftFire_keeps {zz : State} {k : Fin 8} {v : Word} {s : State}
    (hs : Keeps zz s) :
    KeepsOut zz (execSoftFire k v s) := by
  unfold execSoftFire
  refine keepsOut_next ?_
  repeat' first
    | with_reducible assumption | with_reducible apply regWrite_keeps | (simp only [mk_keeps])
    | with_reducible apply foldl_keeps | split | intro _ _ _ | intro _ _ | extract_lets
    | (dsimp +zetaDelta only)

theorem speedSlot_keeps {zz : State} {n : Nat} {s : State}
    (hs : Keeps zz s) :
    Keeps zz (speedSlot n s) := by
  unfold speedSlot
  extract_lets l0 l1 l2 l3
  have kl0 : Keeps zz l0 := by
    unfold l0
    repeat' first
      | with_reducible assumption | with_reducible apply storeSlot_keeps | (simp only [mk_keeps])
      | with_reducible apply foldl_keeps | split | intro _ _ _ | intro _ _ | extract_lets
      | (dsimp +zetaDelta only)
  clear_value l0
  have kl3 : Keeps zz l3 := by
    unfold l3
    repeat' first
      | with_reducible assumption | with_reducible apply setChan_keeps | (simp only [mk_keeps])
      | with_reducible apply foldl_keeps | split | intro _ _ _ | intro _ _ | extract_lets
      | (dsimp +zetaDelta only)
  clear_value l3
  repeat' first
    | with_reducible assumption | with_reducible apply set_keeps | (simp only [mk_keeps])
    | with_reducible apply foldl_keeps | split | intro _ _ _ | intro _ _ | extract_lets
    | (dsimp +zetaDelta only)

theorem execSpeedSlot_keeps {zz : State} {n : Fin 8} {s : State}
    (hs : Keeps zz s) :
    KeepsOut zz (execSpeedSlot n s) := by
  unfold execSpeedSlot
  refine keepsOut_next ?_
  repeat' first
    | with_reducible assumption | with_reducible apply speedSlot_keeps | (simp only [mk_keeps])
    | with_reducible apply foldl_keeps | split | intro _ _ _ | intro _ _ | extract_lets
    | (dsimp +zetaDelta only)

theorem ssiValid_keeps {zz : State} {n : Nat} {code : Nat} {s : State}
    (hs : Keeps zz s) :
    Keeps zz (ssiValid n code s) := by
  unfold ssiValid
  extract_lets l0 l1 l2 l3 l4 l5 l6 l7 l8 l9 l10 l11
  have kl7 : Keeps zz l7 := by
    unfold l7
    repeat' first
      | with_reducible assumption | with_reducible apply setChan_keeps | (simp only [mk_keeps])
      | with_reducible apply foldl_keeps | split | intro _ _ _ | intro _ _ | extract_lets
      | (dsimp +zetaDelta only)
  clear_value l7
  have kl8 : Keeps zz l8 := by
    unfold l8
    repeat' first
      | with_reducible assumption | with_reducible apply count_keeps | with_reducible apply pushHist_keeps
      | (simp only [mk_keeps]) | with_reducible apply foldl_keeps | split | intro _ _ _ | intro _ _
      | extract_lets | (dsimp +zetaDelta only)
  clear_value l8
  have kl9 : Keeps zz l9 := by
    unfold l9
    repeat' first
      | with_reducible assumption | with_reducible apply crossNothing_keeps | with_reducible apply fire_keeps
      | with_reducible apply lastEdge_keeps | (simp only [mk_keeps]) | with_reducible apply foldl_keeps
      | split | intro _ _ _ | intro _ _ | extract_lets | (dsimp +zetaDelta only)
  clear_value l9
  have kl10 : Keeps zz l10 := by
    unfold l10
    repeat' first
      | with_reducible assumption | with_reducible apply setRef_keeps | (simp only [mk_keeps])
      | with_reducible apply foldl_keeps | split | intro _ _ _ | intro _ _ | extract_lets
      | (dsimp +zetaDelta only)
  clear_value l10
  have kl11 : Keeps zz l11 := by
    unfold l11
    repeat' first
      | with_reducible assumption | with_reducible apply set_keeps | (simp only [mk_keeps])
      | with_reducible apply foldl_keeps | split | intro _ _ _ | intro _ _ | extract_lets
      | (dsimp +zetaDelta only)
  clear_value l11
  repeat' first
    | with_reducible assumption | with_reducible apply set_keeps | (simp only [mk_keeps])
    | with_reducible apply foldl_keeps | split | intro _ _ _ | intro _ _ | extract_lets
    | (dsimp +zetaDelta only)

theorem ssiBadFrame_keeps {zz : State} {n : Nat} {cause : Nat} {s : State}
    (hs : Keeps zz s) :
    Keeps zz (ssiBadFrame n cause s) := by
  unfold ssiBadFrame
  extract_lets l0 l1 l2
  have kl1 : Keeps zz l1 := by
    unfold l1
    repeat' first
      | with_reducible assumption | with_reducible apply count_keeps | with_reducible apply posFault_keeps
      | with_reducible apply setChan_keeps | (simp only [mk_keeps]) | with_reducible apply foldl_keeps | split
      | intro _ _ _ | intro _ _ | extract_lets | (dsimp +zetaDelta only)
  clear_value l1
  have kl2 : Keeps zz l2 := by
    unfold l2
    repeat' first
      | with_reducible assumption | with_reducible apply logSec_keeps | with_reducible apply set_keeps
      | (simp only [mk_keeps]) | with_reducible apply foldl_keeps | split | intro _ _ _ | intro _ _
      | extract_lets | (dsimp +zetaDelta only)
  clear_value l2
  repeat' first
    | with_reducible assumption | with_reducible apply clearRef_keeps | (simp only [mk_keeps])
    | with_reducible apply foldl_keeps | split | intro _ _ _ | intro _ _ | extract_lets
    | (dsimp +zetaDelta only)

theorem ssiDone_keeps {zz : State} {n : Nat} {raw0 : Nat} {status : Nat} {parity : Bool} {trail : Bool} {returned : Bool} {s : State}
    (hs : Keeps zz s) :
    Keeps zz (ssiDone n raw0 status parity trail returned s) := by
  unfold ssiDone
  extract_lets l0 l1 l2 l3 l4 l5
  have kl3 : Keeps zz l3 := by
    unfold l3
    repeat' first
      | with_reducible assumption | with_reducible apply setBusy_keeps | with_reducible apply set_keeps
      | (simp only [mk_keeps]) | with_reducible apply foldl_keeps | split | intro _ _ _ | intro _ _
      | extract_lets | (dsimp +zetaDelta only)
  clear_value l3
  have kl5 : Keeps zz l5 := by
    unfold l5
    repeat' first
      | with_reducible assumption | with_reducible apply setChan_keeps | (simp only [mk_keeps])
      | with_reducible apply foldl_keeps | split | intro _ _ _ | intro _ _ | extract_lets
      | (dsimp +zetaDelta only)
  clear_value l5
  repeat' first
    | with_reducible assumption | with_reducible apply ssiValid_keeps | with_reducible apply ssiBadFrame_keeps
    | (simp only [mk_keeps]) | with_reducible apply foldl_keeps | split | intro _ _ _ | intro _ _
    | extract_lets | (dsimp +zetaDelta only)

theorem execSsiFrameDone_keeps {zz : State} {n : Fin 8} {data : BitVec 48} {status : BitVec 7} {parity : Bool} {trail : Bool} {returned : Bool} {s : State}
    (hs : Keeps zz s) :
    KeepsOut zz (execSsiFrameDone n data status parity trail returned s) := by
  unfold execSsiFrameDone
  refine keepsOut_next ?_
  repeat' first
    | with_reducible assumption | with_reducible apply ssiDone_keeps | (simp only [mk_keeps])
    | with_reducible apply foldl_keeps | split | intro _ _ _ | intro _ _ | extract_lets
    | (dsimp +zetaDelta only)

theorem ssiPoll_keeps {zz : State} {n : Nat} {s : State}
    (hs : Keeps zz s) :
    Keeps zz (ssiPoll n s) := by
  unfold ssiPoll
  extract_lets l0 l1 l2 l3
  have kl3 : Keeps zz l3 := by
    unfold l3
    repeat' first
      | with_reducible assumption | with_reducible apply setChan_keeps | (simp only [mk_keeps])
      | with_reducible apply foldl_keeps | split | intro _ _ _ | intro _ _ | extract_lets
      | (dsimp +zetaDelta only)
  clear_value l3
  repeat' first
    | with_reducible assumption | with_reducible apply set_keeps | with_reducible apply ssiBadFrame_keeps
    | with_reducible apply setBusy_keeps | (simp only [mk_keeps]) | with_reducible apply foldl_keeps | split
    | intro _ _ _ | intro _ _ | extract_lets | (dsimp +zetaDelta only)

theorem execSsiPoll_keeps {zz : State} {n : Fin 8} {s : State}
    (hs : Keeps zz s) :
    KeepsOut zz (execSsiPoll n s) := by
  unfold execSsiPoll
  refine keepsOut_next ?_
  repeat' first
    | with_reducible assumption | with_reducible apply ssiPoll_keeps | (simp only [mk_keeps])
    | with_reducible apply foldl_keeps | split | intro _ _ _ | intro _ _ | extract_lets
    | (dsimp +zetaDelta only)

theorem stepTime_keeps {zz : State} {s : State}
    (hs : Keeps zz s) :
    Keeps zz (stepTime s).2 := by
  unfold stepTime
  extract_lets l0 l1 l2
  have kl1 : Keeps zz l1 := by
    unfold l1
    repeat' first
      | with_reducible assumption | with_reducible apply showBusy_keeps | (simp only [mk_keeps])
      | with_reducible apply foldl_keeps | split | intro _ _ _ | intro _ _ | extract_lets
      | (dsimp +zetaDelta only)
  clear_value l1
  repeat' first
    | with_reducible assumption | with_reducible apply refuseStep_keeps | with_reducible apply log_keeps
    | with_reducible apply fire_keeps | with_reducible apply set_keeps | (simp only [mk_keeps])
    | with_reducible apply foldl_keeps | split | intro _ _ _ | intro _ _ | extract_lets
    | (dsimp +zetaDelta only)

theorem stepTime_keeps' {zz t : State} {s : State} {q}
    (hs : Keeps zz s) (e : (stepTime s) = (q, t)) :
    Keeps zz t := by
  have := stepTime_keeps (s := s) hs
  rw [e] at this
  exact this

theorem stepEvents_keeps {zz : State} {s : State}
    (hs : Keeps zz s) :
    Keeps zz (stepEvents s) := by
  unfold stepEvents
  extract_lets l0 l1 l2
  have kl2 : Keeps zz l2 := by
    unfold l2
    repeat' first
      | with_reducible assumption | (simp only [mk_keeps]) | with_reducible apply foldl_keeps | split
      | intro _ _ _ | intro _ _ | extract_lets | (dsimp +zetaDelta only)
  clear_value l2
  repeat' first
    | with_reducible assumption | with_reducible apply presentNums_keeps | (simp only [mk_keeps])
    | with_reducible apply foldl_keeps | split | intro _ _ _ | intro _ _ | extract_lets
    | (dsimp +zetaDelta only)

theorem twsStep_keeps {zz : State} {d : Int} {s : State}
    (hs : Keeps zz s) :
    Keeps zz (twsStep d s) := by
  unfold twsStep
  extract_lets l0 l1 l2 l3 l4
  repeat' first
    | with_reducible assumption | with_reducible apply setWheel_keeps | with_reducible apply set_keeps
    | with_reducible apply setEntry_keeps | (simp only [mk_keeps]) | with_reducible apply foldl_keeps | split
    | intro _ _ _ | intro _ _ | extract_lets | (dsimp +zetaDelta only)

theorem posStep_keeps {zz : State} {d : Int} {s : State}
    (hs : Keeps zz s) :
    Keeps zz (posStep d s) := by
  unfold posStep
  extract_lets l0 l1 l2 l3
  have kl2 : Keeps zz l2 := by
    unfold l2
    repeat' first
      | with_reducible assumption | with_reducible apply setChan_keeps | with_reducible apply set_keeps
      | (simp only [mk_keeps]) | with_reducible apply foldl_keeps | split | intro _ _ _ | intro _ _
      | extract_lets | (dsimp +zetaDelta only)
  clear_value l2
  repeat' first
    | with_reducible assumption | with_reducible apply setChan_keeps | with_reducible apply set_keeps
    | (simp only [mk_keeps]) | with_reducible apply foldl_keeps | split | intro _ _ _ | intro _ _
    | extract_lets | (dsimp +zetaDelta only)

theorem stepApply_keeps {zz : State} {s : State}
    (hs : Keeps zz s) :
    Keeps zz (stepApply s) := by
  unfold stepApply
  repeat' first
    | with_reducible assumption | with_reducible apply stepTime_keeps
    | with_reducible refine stepTime_keeps' ?_ (by with_reducible assumption)
    | with_reducible apply dueTime_keeps | with_reducible apply stepEvents_keeps
    | with_reducible apply twsStep_keeps | with_reducible apply posStep_keeps
    | with_reducible apply afterStep_keeps | with_reducible apply compareFire_keeps | (simp only [mk_keeps])
    | with_reducible apply foldl_keeps | split | intro _ _ _ | intro _ _ | extract_lets
    | (dsimp +zetaDelta only)

theorem execStepApply_keeps {zz : State} {s : State}
    (hs : Keeps zz s) :
    KeepsOut zz (execStepApply s) := by
  unfold execStepApply
  refine keepsOut_next ?_
  repeat' first
    | with_reducible assumption | with_reducible apply stepApply_keeps | (simp only [mk_keeps])
    | with_reducible apply foldl_keeps | split | intro _ _ _ | intro _ _ | extract_lets
    | (dsimp +zetaDelta only)

theorem execStepGo_keeps {zz : State} {v : Word} {s : State}
    (hs : Keeps zz s) :
    KeepsOut zz (execStepGo v s) := by
  unfold execStepGo
  refine keepsOut_next ?_
  repeat' first
    | with_reducible assumption | with_reducible apply regWrite_keeps | (simp only [mk_keeps])
    | with_reducible apply foldl_keeps | split | intro _ _ _ | intro _ _ | extract_lets
    | (dsimp +zetaDelta only)

theorem strikeSeen_keeps {zz : State} {join : Bool} {rival : List Nat} {s : State}
    (hs : Keeps zz s) :
    Keeps zz (strikeSeen join rival s) := by
  unfold strikeSeen
  extract_lets l0
  have kl0 : Keeps zz l0 := by
    unfold l0
    repeat' first
      | with_reducible assumption | with_reducible apply set_keeps | (simp only [mk_keeps])
      | with_reducible apply foldl_keeps | split | intro _ _ _ | intro _ _ | extract_lets
      | (dsimp +zetaDelta only)
  clear_value l0
  repeat' first
    | with_reducible assumption | with_reducible apply bwStart_keeps | with_reducible apply setBwState_keeps
    | (simp only [mk_keeps]) | with_reducible apply foldl_keeps | split | intro _ _ _ | intro _ _
    | extract_lets | (dsimp +zetaDelta only)

theorem execStrikeSeen_keeps {zz : State} {join : Bool} {rival : List Byte} {s : State}
    (hs : Keeps zz s) :
    KeepsOut zz (execStrikeSeen join rival s) := by
  unfold execStrikeSeen
  refine keepsOut_next ?_
  repeat' first
    | with_reducible assumption | with_reducible apply strikeSeen_keeps | (simp only [mk_keeps])
    | with_reducible apply foldl_keeps | split | intro _ _ _ | intro _ _ | extract_lets
    | (dsimp +zetaDelta only)

theorem strobeEnd_keeps {zz : State} {k : Nat} {x1 : State}
    (hx1 : Keeps zz x1) :
    Keeps zz (strobeEnd k x1) := by
  unfold strobeEnd
  extract_lets l0 l1
  have kl0 : Keeps zz l0 := by
    unfold l0
    repeat' first
      | with_reducible assumption | with_reducible apply judgeSuppressed_keeps
      | with_reducible apply seeGuard_keeps | (simp only [mk_keeps]) | with_reducible apply foldl_keeps
      | split | intro _ _ _ | intro _ _ | extract_lets | (dsimp +zetaDelta only)
  clear_value l0
  repeat' first
    | with_reducible assumption | with_reducible apply setBusy_keeps | with_reducible apply setStrobe_keeps
    | with_reducible apply emit_keeps | (simp only [mk_keeps]) | with_reducible apply foldl_keeps | split
    | intro _ _ _ | intro _ _ | extract_lets | (dsimp +zetaDelta only)

theorem execStrobePulseEnd_keeps {zz : State} {k : Fin 8} {s : State}
    (hs : Keeps zz s) :
    KeepsOut zz (execStrobePulseEnd k s) := by
  unfold execStrobePulseEnd
  refine keepsOut_next ?_
  repeat' first
    | with_reducible assumption | with_reducible apply strobeEnd_keeps | (simp only [mk_keeps])
    | with_reducible apply foldl_keeps | split | intro _ _ _ | intro _ _ | extract_lets
    | (dsimp +zetaDelta only)

theorem execSupplyDip_keeps {zz : State} {s : State}
    (hs : Keeps zz s) :
    KeepsOut zz (execSupplyDip s) := by
  unfold execSupplyDip
  refine keepsOut_next ?_
  repeat' first
    | with_reducible assumption | with_reducible apply porReset_keeps | (simp only [mk_keeps])
    | with_reducible apply foldl_keeps | split | intro _ _ _ | intro _ _ | extract_lets
    | (dsimp +zetaDelta only)

theorem execSupplyReturn_keeps {zz : State} {testMode : Bool} {slot : BitVec 5} {s : State}
    (hs : Keeps zz s) :
    KeepsOut zz (execSupplyReturn testMode slot s) := by
  unfold execSupplyReturn
  refine keepsOut_next ?_
  repeat' first
    | with_reducible assumption | with_reducible apply porRelease_keeps | (simp only [mk_keeps])
    | with_reducible apply foldl_keeps | split | intro _ _ _ | intro _ _ | extract_lets
    | (dsimp +zetaDelta only)

theorem execSweepAbort_keeps {zz : State} {n : Fin 16} {counts : List Nat} {s : State}
    (hs : Keeps zz s) :
    KeepsOut zz (execSweepAbort n counts s) := by
  unfold execSweepAbort
  refine keepsOut_next ?_
  repeat' first
    | with_reducible assumption | with_reducible apply hostGate_keeps | with_reducible apply sweepAbort_keeps
    | (simp only [mk_keeps]) | with_reducible apply foldl_keeps | split | intro _ _ _ | intro _ _
    | extract_lets | (dsimp +zetaDelta only)

theorem sweepDone_keeps {zz : State} {n : Nat} {counts : List Nat} {s : State}
    (hs : Keeps zz s) :
    Keeps zz (sweepDone n counts s) := by
  unfold sweepDone
  extract_lets l0 l1 l2
  have kl2 : Keeps zz l2 := by
    unfold l2
    repeat' first
      | with_reducible assumption | with_reducible apply setLane_keeps | (simp only [mk_keeps])
      | with_reducible apply foldl_keeps | split | intro _ _ _ | intro _ _ | extract_lets
      | (dsimp +zetaDelta only)
  clear_value l2
  repeat' first
    | with_reducible assumption | with_reducible apply set_keeps | (simp only [mk_keeps])
    | with_reducible apply foldl_keeps | split | intro _ _ _ | intro _ _ | extract_lets
    | (dsimp +zetaDelta only)

theorem execSweepDone_keeps {zz : State} {n : Fin 16} {counts : List Nat} {s : State}
    (hs : Keeps zz s) :
    KeepsOut zz (execSweepDone n counts s) := by
  unfold execSweepDone
  refine keepsOut_next ?_
  repeat' first
    | with_reducible assumption | with_reducible apply onLane_keeps | with_reducible apply sweepDone_keeps
    | (simp only [mk_keeps]) | with_reducible apply foldl_keeps | split | intro _ _ _ | intro _ _
    | extract_lets | (dsimp +zetaDelta only)

theorem execSweepStart_keeps {zz : State} {n : Fin 16} {v : Word} {s : State}
    (hs : Keeps zz s) :
    KeepsOut zz (execSweepStart n v s) := by
  unfold execSweepStart
  refine keepsOut_next ?_
  repeat' first
    | with_reducible assumption | with_reducible apply regWrite_keeps | (simp only [mk_keeps])
    | with_reducible apply foldl_keeps | split | intro _ _ _ | intro _ _ | extract_lets
    | (dsimp +zetaDelta only)

theorem syncOut_keeps {zz : State} {p : Nat} {stamp : Nat} {s : State}
    (hs : Keeps zz s) :
    Keeps zz (syncOut p stamp s) := by
  unfold syncOut
  extract_lets l0 l1 l2 l3 l4 l5
  repeat' first
    | with_reducible assumption | with_reducible apply ptpSend_keeps | with_reducible apply rawMsg_keeps
    | (simp only [mk_keeps]) | with_reducible apply foldl_keeps | split | intro _ _ _ | intro _ _
    | extract_lets | (dsimp +zetaDelta only)

theorem syncInterval_keeps {zz : State} {t0 : Nat} {t1 : Nat} {s : State}
    (hs : Keeps zz s) :
    Keeps zz (syncInterval t0 t1 s) := by
  unfold syncInterval
  extract_lets l0 l1
  have kl0 : Keeps zz l0 := by
    unfold l0
    repeat' first
      | with_reducible assumption | with_reducible apply syncOut_keeps | (simp only [mk_keeps])
      | with_reducible apply foldl_keeps | split | intro _ _ _ | intro _ _ | extract_lets
      | (dsimp +zetaDelta only)
  clear_value l0
  repeat' first
    | with_reducible assumption | (simp only [mk_keeps]) | with_reducible apply foldl_keeps | split
    | intro _ _ _ | intro _ _ | extract_lets | (dsimp +zetaDelta only)

theorem execSyncInterval_keeps {zz : State} {t0 : Nat} {t1 : Nat} {s : State}
    (hs : Keeps zz s) :
    KeepsOut zz (execSyncInterval t0 t1 s) := by
  unfold execSyncInterval
  refine keepsOut_next ?_
  repeat' first
    | with_reducible assumption | with_reducible apply syncInterval_keeps | (simp only [mk_keeps])
    | with_reducible apply foldl_keeps | split | intro _ _ _ | intro _ _ | extract_lets
    | (dsimp +zetaDelta only)

theorem syncIn_keeps {zz : State} {p : Nat} {stamp : Nat} {m : List Nat} {s : State}
    (hs : Keeps zz s) :
    Keeps zz (syncIn p stamp m s) := by
  unfold syncIn
  extract_lets l0 l1 l2
  have kl1 : Keeps zz l1 := by
    unfold l1
    repeat' first
      | with_reducible assumption | with_reducible apply rawMsg_keeps | (simp only [mk_keeps])
      | with_reducible apply foldl_keeps | split | intro _ _ _ | intro _ _ | extract_lets
      | (dsimp +zetaDelta only)
  clear_value l1
  repeat' first
    | with_reducible assumption | with_reducible apply slaveSample_keeps | (simp only [mk_keeps])
    | with_reducible apply foldl_keeps | split | intro _ _ _ | intro _ _ | extract_lets
    | (dsimp +zetaDelta only)

theorem execSyncReceived_keeps {zz : State} {p : Fin 2} {f : List Byte} {stamp : Nat} {s : State}
    (hs : Keeps zz s) :
    KeepsOut zz (execSyncReceived p f stamp s) := by
  unfold execSyncReceived
  refine keepsOut_next ?_
  repeat' first
    | with_reducible assumption | with_reducible apply ptpTake_keeps | with_reducible apply syncIn_keeps
    | (simp only [mk_keeps]) | with_reducible apply foldl_keeps | split | intro _ _ _ | intro _ _
    | extract_lets | (dsimp +zetaDelta only)

theorem syncTimeout_keeps {zz : State} {s : State}
    (hs : Keeps zz s) :
    Keeps zz (syncTimeout s) := by
  unfold syncTimeout
  extract_lets l0
  repeat' first
    | with_reducible assumption | with_reducible apply enterTim_keeps | (simp only [mk_keeps])
    | with_reducible apply foldl_keeps | split | intro _ _ _ | intro _ _ | extract_lets
    | (dsimp +zetaDelta only)

theorem execSyncTimeout_keeps {zz : State} {s : State}
    (hs : Keeps zz s) :
    KeepsOut zz (execSyncTimeout s) := by
  unfold execSyncTimeout
  refine keepsOut_next ?_
  repeat' first
    | with_reducible assumption | with_reducible apply syncTimeout_keeps | (simp only [mk_keeps])
    | with_reducible apply foldl_keeps | split | intro _ _ _ | intro _ _ | extract_lets
    | (dsimp +zetaDelta only)

theorem syncError_keeps {zz : State} {w : Nat} {cause : Nat} {t : Nat} {s : State}
    (hs : Keeps zz s) :
    Keeps zz (syncError w cause t s) := by
  unfold syncError
  extract_lets l0 l1 l2 l3 l4
  have kl1 : Keeps zz l1 := by
    unfold l1
    repeat' first
      | with_reducible assumption | with_reducible apply log_keeps | with_reducible apply fire_keeps
      | with_reducible apply count_keeps | (simp only [mk_keeps]) | with_reducible apply foldl_keeps | split
      | intro _ _ _ | intro _ _ | extract_lets | (dsimp +zetaDelta only)
  clear_value l1
  have kl3 : Keeps zz l3 := by
    unfold l3
    repeat' first
      | with_reducible assumption | with_reducible apply set_keeps | with_reducible apply leaveSync_keeps
      | with_reducible apply setWheel_keeps | (simp only [mk_keeps]) | with_reducible apply foldl_keeps
      | split | intro _ _ _ | intro _ _ | extract_lets | (dsimp +zetaDelta only)
  clear_value l3
  repeat' first
    | with_reducible assumption | with_reducible apply setWheel_keeps | (simp only [mk_keeps])
    | with_reducible apply foldl_keeps | split | intro _ _ _ | intro _ _ | extract_lets
    | (dsimp +zetaDelta only)

theorem takeInterval_keeps {zz : State} {w : Nat} {t : Nat} {s : State}
    (hs : Keeps zz s) :
    Keeps zz (takeInterval w t s) := by
  unfold takeInterval
  extract_lets l0 l1
  repeat' first
    | with_reducible assumption | with_reducible apply setPer_keeps | with_reducible apply setWheel_keeps
    | (simp only [mk_keeps]) | with_reducible apply foldl_keeps | split | intro _ _ _ | intro _ _
    | extract_lets | (dsimp +zetaDelta only)

theorem newTooth_keeps {zz : State} {w : Nat} {k : Nat} {t : Nat} {synth : Bool} {s : State}
    (hs : Keeps zz s) :
    Keeps zz (newTooth w k t synth s) := by
  unfold newTooth
  extract_lets l0 l1 l2 l3 l4 l5 l6
  have kl2 : Keeps zz l2 := by
    unfold l2
    repeat' first
      | with_reducible assumption | with_reducible apply takeInterval_keeps | (simp only [mk_keeps])
      | with_reducible apply foldl_keeps | split | intro _ _ _ | intro _ _ | extract_lets
      | (dsimp +zetaDelta only)
  clear_value l2
  have kl4 : Keeps zz l4 := by
    unfold l4
    repeat' first
      | with_reducible assumption | with_reducible apply setWheel_keeps | (simp only [mk_keeps])
      | with_reducible apply foldl_keeps | split | intro _ _ _ | intro _ _ | extract_lets
      | (dsimp +zetaDelta only)
  clear_value l4
  have kl5 : Keeps zz l5 := by
    unfold l5
    repeat' first
      | with_reducible assumption | with_reducible apply ringTooth_keeps | with_reducible apply takeZero_keeps
      | with_reducible apply set_keeps | (simp only [mk_keeps]) | with_reducible apply foldl_keeps | split
      | intro _ _ _ | intro _ _ | extract_lets | (dsimp +zetaDelta only)
  clear_value l5
  have kl6 : Keeps zz l6 := by
    unfold l6
    repeat' first
      | with_reducible assumption | with_reducible apply fire_keeps | with_reducible apply goodGap_keeps
      | with_reducible apply wrapAdd_keeps | (simp only [mk_keeps]) | with_reducible apply foldl_keeps | split
      | intro _ _ _ | intro _ _ | extract_lets | (dsimp +zetaDelta only)
  clear_value l6
  repeat' first
    | with_reducible assumption | with_reducible apply angleTeeth_keeps | (simp only [mk_keeps])
    | with_reducible apply foldl_keeps | split | intro _ _ _ | intro _ _ | extract_lets
    | (dsimp +zetaDelta only)

theorem syntheticTooth_keeps {zz : State} {w : Nat} {s : State}
    (hs : Keeps zz s) :
    Keeps zz (syntheticTooth w s) := by
  unfold syntheticTooth
  extract_lets l0 l1
  repeat' first
    | with_reducible assumption | with_reducible apply syncError_keeps | with_reducible apply newTooth_keeps
    | with_reducible apply log_keeps | with_reducible apply fire_keeps | with_reducible apply count_keeps
    | (simp only [mk_keeps]) | with_reducible apply foldl_keeps | split | intro _ _ _ | intro _ _
    | extract_lets | (dsimp +zetaDelta only)

theorem execSyntheticTooth_keeps {zz : State} {w : Fin 4} {s : State}
    (hs : Keeps zz s) :
    KeepsOut zz (execSyntheticTooth w s) := by
  unfold execSyntheticTooth
  refine keepsOut_next ?_
  repeat' first
    | with_reducible assumption | with_reducible apply syntheticTooth_keeps | (simp only [mk_keeps])
    | with_reducible apply foldl_keeps | split | intro _ _ _ | intro _ _ | extract_lets
    | (dsimp +zetaDelta only)

theorem execSysrefLoss_keeps {zz : State} {s : State}
    (hs : Keeps zz s) :
    KeepsOut zz (execSysrefLoss s) := by
  unfold execSysrefLoss
  refine keepsOut_next ?_
  repeat' first
    | with_reducible assumption | with_reducible apply coreFail_keeps | (simp only [mk_keeps])
    | with_reducible apply foldl_keeps | split | intro _ _ _ | intro _ _ | extract_lets
    | (dsimp +zetaDelta only)

theorem tapReset_keeps {zz : State} {s : State}
    (hs : Keeps zz s) :
    Keeps zz (tapReset s) := by
  unfold tapReset
  extract_lets l0 l1
  have kl0 : Keeps zz l0 := by
    unfold l0
    repeat' first
      | with_reducible assumption | with_reducible apply tapInstruction_keeps | (simp only [mk_keeps])
      | with_reducible apply foldl_keeps | split | intro _ _ _ | intro _ _ | extract_lets
      | (dsimp +zetaDelta only)
  clear_value l0
  repeat' first
    | with_reducible assumption | (simp only [mk_keeps]) | with_reducible apply foldl_keeps | split
    | intro _ _ _ | intro _ _ | extract_lets | (dsimp +zetaDelta only)

theorem execTapReset_keeps {zz : State} {s : State}
    (hs : Keeps zz s) :
    KeepsOut zz (execTapReset s) := by
  unfold execTapReset
  refine keepsOut_next ?_
  repeat' first
    | with_reducible assumption | with_reducible apply tapReset_keeps | (simp only [mk_keeps])
    | with_reducible apply foldl_keeps | split | intro _ _ _ | intro _ _ | extract_lets
    | (dsimp +zetaDelta only)

theorem tckRise_keeps {zz : State} {tms : Bool} {tdi : Bool} {pins : Nat} {s : State}
    (hs : Keeps zz s) :
    Keeps zz (tckRise tms tdi pins s) := by
  unfold tckRise
  extract_lets l0 l1 l2 l3
  have kl3 : Keeps zz l3 := by
    unfold l3
    repeat' first
      | with_reducible assumption | (simp only [mk_keeps]) | with_reducible apply foldl_keeps | split
      | intro _ _ _ | intro _ _ | extract_lets | (dsimp +zetaDelta only)
  clear_value l3
  repeat' first
    | with_reducible assumption | with_reducible apply tapReset_keeps | (simp only [mk_keeps])
    | with_reducible apply foldl_keeps | split | intro _ _ _ | intro _ _ | extract_lets
    | (dsimp +zetaDelta only)

theorem tckFall_keeps {zz : State} {s : State}
    (hs : Keeps zz s) :
    Keeps zz (tckFall s) := by
  unfold tckFall
  extract_lets l0 l1 l2 l3
  have kl2 : Keeps zz l2 := by
    unfold l2
    repeat' first
      | with_reducible assumption | (simp only [mk_keeps]) | with_reducible apply foldl_keeps | split
      | intro _ _ _ | intro _ _ | extract_lets | (dsimp +zetaDelta only)
  clear_value l2
  repeat' first
    | with_reducible assumption | with_reducible apply tapInstruction_keeps | (simp only [mk_keeps])
    | with_reducible apply foldl_keeps | split | intro _ _ _ | intro _ _ | extract_lets
    | (dsimp +zetaDelta only)

theorem execTckEdge_keeps {zz : State} {rising : Bool} {tms : Bool} {tdi : Bool} {pins : BitVec 180} {s : State}
    (hs : Keeps zz s) :
    KeepsOut zz (execTckEdge rising tms tdi pins s) := by
  unfold execTckEdge
  refine keepsOut_next ?_
  repeat' first
    | with_reducible assumption | with_reducible apply tckRise_keeps | with_reducible apply tckFall_keeps
    | (simp only [mk_keeps]) | with_reducible apply foldl_keeps | split | intro _ _ _ | intro _ _
    | extract_lets | (dsimp +zetaDelta only)

theorem execTimConfigApply_keeps {zz : State} {s : State}
    (hs : Keeps zz s) :
    KeepsOut zz (execTimConfigApply s) := by
  unfold execTimConfigApply
  refine keepsOut_next ?_
  repeat' first
    | with_reducible assumption | with_reducible apply timConfigApply_keeps | (simp only [mk_keeps])
    | with_reducible apply foldl_keeps | split | intro _ _ _ | intro _ _ | extract_lets
    | (dsimp +zetaDelta only)

theorem execTimSecRead_keeps {zz : State} {s : State}
    (hs : Keeps zz s) :
    KeepsOut zz (execTimSecRead s) := by
  unfold execTimSecRead
  refine keepsOut_next ?_
  repeat' first
    | with_reducible assumption | with_reducible apply hostRead_keeps | with_reducible apply secRead_keeps
    | (simp only [mk_keeps]) | with_reducible apply foldl_keeps | split | intro _ _ _ | intro _ _
    | extract_lets | (dsimp +zetaDelta only)

theorem timeEntryDue_keeps {zz : State} {e : Nat} {s : State}
    (hs : Keeps zz s) :
    Keeps zz (timeEntryDue e s) := by
  unfold timeEntryDue
  extract_lets l0 l1
  repeat' first
    | with_reducible assumption | with_reducible apply setEntry_keeps | (simp only [mk_keeps])
    | with_reducible apply foldl_keeps | split | intro _ _ _ | intro _ _ | extract_lets
    | (dsimp +zetaDelta only)

theorem execTimeEntryDue_keeps {zz : State} {e : Fin 64} {s : State}
    (hs : Keeps zz s) :
    KeepsOut zz (execTimeEntryDue e s) := by
  unfold execTimeEntryDue
  refine keepsOut_next ?_
  repeat' first
    | with_reducible assumption | with_reducible apply timeEntryDue_keeps | (simp only [mk_keeps])
    | with_reducible apply foldl_keeps | split | intro _ _ _ | intro _ _ | extract_lets
    | (dsimp +zetaDelta only)

theorem execTimeLockTimeout_keeps {zz : State} {s : State}
    (hs : Keeps zz s) :
    KeepsOut zz (execTimeLockTimeout s) := by
  unfold execTimeLockTimeout
  refine keepsOut_next ?_
  repeat' first
    | with_reducible assumption | with_reducible apply timeDown_keeps | (simp only [mk_keeps])
    | with_reducible apply foldl_keeps | split | intro _ _ _ | intro _ _ | extract_lets
    | (dsimp +zetaDelta only)

theorem execTimePeriod_keeps {zz : State} {s : State}
    (hs : Keeps zz s) :
    KeepsOut zz (execTimePeriod s) := by
  unfold execTimePeriod
  refine keepsOut_next ?_
  repeat' first
    | with_reducible assumption | with_reducible apply dueTime_keeps | (simp only [mk_keeps])
    | with_reducible apply foldl_keeps | split | intro _ _ _ | intro _ _ | extract_lets
    | (dsimp +zetaDelta only)

theorem holdoverOn_keeps {zz : State} {s : State}
    (hs : Keeps zz s) :
    Keeps zz (holdoverOn s) := by
  unfold holdoverOn
  repeat' first
    | with_reducible assumption | with_reducible apply timHoldover_keeps | with_reducible apply set_keeps
    | with_reducible apply setLock_keeps | (simp only [mk_keeps]) | with_reducible apply foldl_keeps | split
    | intro _ _ _ | intro _ _ | extract_lets | (dsimp +zetaDelta only)

theorem timeUnlock_keeps {zz : State} {s : State}
    (hs : Keeps zz s) :
    Keeps zz (timeUnlock s) := by
  unfold timeUnlock
  extract_lets l0 l1
  have kl1 : Keeps zz l1 := by
    unfold l1
    repeat' first
      | with_reducible assumption | (simp only [mk_keeps]) | with_reducible apply foldl_keeps | split
      | intro _ _ _ | intro _ _ | extract_lets | (dsimp +zetaDelta only)
  clear_value l1
  repeat' first
    | with_reducible assumption | with_reducible apply holdoverOn_keeps | with_reducible apply log_keeps
    | with_reducible apply noteLoss_keeps | (simp only [mk_keeps]) | with_reducible apply foldl_keeps | split
    | intro _ _ _ | intro _ _ | extract_lets | (dsimp +zetaDelta only)

theorem execTimePllUnlock_keeps {zz : State} {s : State}
    (hs : Keeps zz s) :
    KeepsOut zz (execTimePllUnlock s) := by
  unfold execTimePllUnlock
  refine keepsOut_next ?_
  repeat' first
    | with_reducible assumption | with_reducible apply timeUnlock_keeps | (simp only [mk_keeps])
    | with_reducible apply foldl_keeps | split | intro _ _ _ | intro _ _ | extract_lets
    | (dsimp +zetaDelta only)

theorem execTimeRearm_keeps {zz : State} {v : Word} {s : State}
    (hs : Keeps zz s) :
    KeepsOut zz (execTimeRearm v s) := by
  unfold execTimeRearm
  refine keepsOut_next ?_
  repeat' first
    | with_reducible assumption | with_reducible apply regWrite_keeps | (simp only [mk_keeps])
    | with_reducible apply foldl_keeps | split | intro _ _ _ | intro _ _ | extract_lets
    | (dsimp +zetaDelta only)

theorem storePartner_keeps {zz : State} {n : Nat} {b : List Nat} {s : State}
    (hs : Keeps zz s) :
    Keeps zz (storePartner n b s) := by
  unfold storePartner
  extract_lets l0 l1 l2
  have kl0 : Keeps zz l0 := by
    unfold l0
    repeat' first
      | with_reducible assumption | with_reducible apply set_keeps | (simp only [mk_keeps])
      | with_reducible apply foldl_keeps | split | intro _ _ _ | intro _ _ | extract_lets
      | (dsimp +zetaDelta only)
  clear_value l0
  have kl1 : Keeps zz l1 := by
    unfold l1
    repeat' first
      | with_reducible assumption | with_reducible apply set_keeps | (simp only [mk_keeps])
      | with_reducible apply foldl_keeps | split | intro _ _ _ | intro _ _ | extract_lets
      | (dsimp +zetaDelta only)
  clear_value l1
  have kl2 : Keeps zz l2 := by
    unfold l2
    repeat' first
      | with_reducible assumption | with_reducible apply set_keeps | (simp only [mk_keeps])
      | with_reducible apply foldl_keeps | split | intro _ _ _ | intro _ _ | extract_lets
      | (dsimp +zetaDelta only)
  clear_value l2
  repeat' first
    | with_reducible assumption | with_reducible apply set_keeps | (simp only [mk_keeps])
    | with_reducible apply foldl_keeps | split | intro _ _ _ | intro _ _ | extract_lets
    | (dsimp +zetaDelta only)

theorem trainDetect_keeps {zz : State} {n : Nat} {state : Nat} {ack : Nat} {s : State}
    (hs : Keeps zz s) :
    Keeps zz (trainDetect n state ack s) := by
  unfold trainDetect
  extract_lets l0 l1
  repeat' first
    | with_reducible assumption | with_reducible apply trainFail_keeps | with_reducible apply setLane_keeps
    | with_reducible apply enterTraining_keeps | (simp only [mk_keeps]) | with_reducible apply foldl_keeps
    | split | intro _ _ _ | intro _ _ | extract_lets | (dsimp +zetaDelta only)

theorem trainSpeed_keeps {zz : State} {n : Nat} {state : Nat} {ack : Nat} {sel : Nat} {s : State}
    (hs : Keeps zz s) :
    Keeps zz (trainSpeed n state ack sel s) := by
  unfold trainSpeed
  extract_lets l0 l1 l2 l3 l4 l5
  repeat' first
    | with_reducible assumption | with_reducible apply speedDone_keeps | with_reducible apply setLane_keeps
    | with_reducible apply trainFail_keeps | (simp only [mk_keeps]) | with_reducible apply foldl_keeps | split
    | intro _ _ _ | intro _ _ | extract_lets | (dsimp +zetaDelta only)

theorem trainEqualize_keeps {zz : State} {n : Nat} {state : Nat} {ack : Nat} {cur : Nat} {req : Nat} {s : State}
    (hs : Keeps zz s) :
    Keeps zz (trainEqualize n state ack cur req s) := by
  unfold trainEqualize
  extract_lets l0 l1 l2 l3 l4 l5 l6 l7
  have kl4 : Keeps zz l4 := by
    unfold l4
    repeat' first
      | with_reducible assumption | with_reducible apply applyPreset_keeps | (simp only [mk_keeps])
      | with_reducible apply foldl_keeps | split | intro _ _ _ | intro _ _ | extract_lets
      | (dsimp +zetaDelta only)
  clear_value l4
  have kl7 : Keeps zz l7 := by
    unfold l7
    repeat' first
      | with_reducible assumption | with_reducible apply setLane_keeps | (simp only [mk_keeps])
      | with_reducible apply foldl_keeps | split | intro _ _ _ | intro _ _ | extract_lets
      | (dsimp +zetaDelta only)
  clear_value l7
  repeat' first
    | with_reducible assumption | with_reducible apply setLane_keeps | with_reducible apply equalizeDone_keeps
    | (simp only [mk_keeps]) | with_reducible apply foldl_keeps | split | intro _ _ _ | intro _ _
    | extract_lets | (dsimp +zetaDelta only)

theorem trainLoop_keeps {zz : State} {n : Nat} {state : Nat} {ack : Nat} {s : State}
    (hs : Keeps zz s) :
    Keeps zz (trainLoop n state ack s) := by
  unfold trainLoop
  extract_lets l0 l1
  repeat' first
    | with_reducible assumption | with_reducible apply setLane_keeps | (simp only [mk_keeps])
    | with_reducible apply foldl_keeps | split | intro _ _ _ | intro _ _ | extract_lets
    | (dsimp +zetaDelta only)

theorem trainReceived_keeps {zz : State} {n : Nat} {b : List Nat} {inv : Bool} {x3 : State}
    (hx3 : Keeps zz x3) :
    Keeps zz (trainReceived n b inv x3) := by
  unfold trainReceived
  extract_lets l0 l1 l2 l3
  have kl0 : Keeps zz l0 := by
    unfold l0
    repeat' first
      | with_reducible assumption | (simp only [mk_keeps]) | with_reducible apply foldl_keeps | split
      | intro _ _ _ | intro _ _ | extract_lets | (dsimp +zetaDelta only)
  clear_value l0
  repeat' first
    | with_reducible assumption | with_reducible apply breakRuns_keeps | with_reducible apply count_keeps
    | with_reducible apply storePartner_keeps | with_reducible apply set_keeps
    | with_reducible apply trainDetect_keeps | with_reducible apply trainSpeed_keeps
    | with_reducible apply trainEqualize_keeps | with_reducible apply trainLoop_keeps | (simp only [mk_keeps])
    | with_reducible apply foldl_keeps | split | intro _ _ _ | intro _ _ | extract_lets
    | (dsimp +zetaDelta only)

theorem execTrainReceived_keeps {zz : State} {n : Fin 16} {b : List Byte} {inverted : Bool} {note : LinkNote} {s : State}
    (hs : Keeps zz s) :
    KeepsOut zz (execTrainReceived n b inverted note s) := by
  unfold execTrainReceived
  refine keepsOut_next ?_
  repeat' first
    | with_reducible assumption | with_reducible apply onLane_keeps | with_reducible apply trainReceived_keeps
    | with_reducible apply noteLane_keeps | (simp only [mk_keeps]) | with_reducible apply foldl_keeps | split
    | intro _ _ _ | intro _ _ | extract_lets | (dsimp +zetaDelta only)

theorem trainTimeout_keeps {zz : State} {n : Nat} {lock : Bool} {s : State}
    (hs : Keeps zz s) :
    Keeps zz (trainTimeout n lock s) := by
  unfold trainTimeout
  extract_lets l0
  repeat' first
    | with_reducible assumption | with_reducible apply trainFail_keeps | with_reducible apply groupCheck_keeps
    | (simp only [mk_keeps]) | with_reducible apply foldl_keeps | split | intro _ _ _ | intro _ _
    | extract_lets | (dsimp +zetaDelta only)

theorem execTrainTimeout_keeps {zz : State} {n : Fin 16} {lock : Bool} {s : State}
    (hs : Keeps zz s) :
    KeepsOut zz (execTrainTimeout n lock s) := by
  unfold execTrainTimeout
  refine keepsOut_next ?_
  repeat' first
    | with_reducible assumption | with_reducible apply onLane_keeps | with_reducible apply trainTimeout_keeps
    | (simp only [mk_keeps]) | with_reducible apply foldl_keeps | split | intro _ _ _ | intro _ _
    | extract_lets | (dsimp +zetaDelta only)

theorem trefLost_keeps {zz : State} {s : State}
    (hs : Keeps zz s) :
    Keeps zz (trefLost s) := by
  unfold trefLost
  extract_lets l0
  have kl0 : Keeps zz l0 := by
    unfold l0
    repeat' first
      | with_reducible assumption | with_reducible apply set_keeps | (simp only [mk_keeps])
      | with_reducible apply foldl_keeps | split | intro _ _ _ | intro _ _ | extract_lets
      | (dsimp +zetaDelta only)
  clear_value l0
  repeat' first
    | with_reducible assumption | with_reducible apply holdoverOn_keeps | with_reducible apply log_keeps
    | with_reducible apply noteLoss_keeps | (simp only [mk_keeps]) | with_reducible apply foldl_keeps | split
    | intro _ _ _ | intro _ _ | extract_lets | (dsimp +zetaDelta only)

theorem execTrefLost_keeps {zz : State} {s : State}
    (hs : Keeps zz s) :
    KeepsOut zz (execTrefLost s) := by
  unfold execTrefLost
  refine keepsOut_next ?_
  repeat' first
    | with_reducible assumption | with_reducible apply trefLost_keeps | (simp only [mk_keeps])
    | with_reducible apply foldl_keeps | split | intro _ _ _ | intro _ _ | extract_lets
    | (dsimp +zetaDelta only)

theorem trefRestored_keeps {zz : State} {s : State}
    (hs : Keeps zz s) :
    Keeps zz (trefRestored s) := by
  unfold trefRestored
  repeat' first
    | with_reducible assumption | with_reducible apply log_keeps | with_reducible apply set_keeps
    | (simp only [mk_keeps]) | with_reducible apply foldl_keeps | split | intro _ _ _ | intro _ _
    | extract_lets | (dsimp +zetaDelta only)

theorem execTrefRestored_keeps {zz : State} {s : State}
    (hs : Keeps zz s) :
    KeepsOut zz (execTrefRestored s) := by
  unfold execTrefRestored
  refine keepsOut_next ?_
  repeat' first
    | with_reducible assumption | with_reducible apply trefRestored_keeps | (simp only [mk_keeps])
    | with_reducible apply foldl_keeps | split | intro _ _ _ | intro _ _ | extract_lets
    | (dsimp +zetaDelta only)

theorem execTrefRetry_keeps {zz : State} {trefEdges : Nat} {locked : Bool} {s : State}
    (hs : Keeps zz s) :
    KeepsOut zz (execTrefRetry trefEdges locked s) := by
  unfold execTrefRetry
  refine keepsOut_next ?_
  repeat' first
    | with_reducible assumption | with_reducible apply tryTime_keeps | (simp only [mk_keeps])
    | with_reducible apply foldl_keeps | split | intro _ _ _ | intro _ _ | extract_lets
    | (dsimp +zetaDelta only)

theorem trigEnd_keeps {zz : State} {n : Nat} {s : State}
    (hs : Keeps zz s) :
    Keeps zz (trigEnd n s) := by
  unfold trigEnd
  extract_lets l0
  repeat' first
    | with_reducible assumption | with_reducible apply setBusy_keeps | with_reducible apply setTrig_keeps
    | with_reducible apply emit_keeps | (simp only [mk_keeps]) | with_reducible apply foldl_keeps | split
    | intro _ _ _ | intro _ _ | extract_lets | (dsimp +zetaDelta only)

theorem execTrigPulseEnd_keeps {zz : State} {n : Fin 16} {s : State}
    (hs : Keeps zz s) :
    KeepsOut zz (execTrigPulseEnd n s) := by
  unfold execTrigPulseEnd
  refine keepsOut_next ?_
  repeat' first
    | with_reducible assumption | with_reducible apply trigEnd_keeps | (simp only [mk_keeps])
    | with_reducible apply foldl_keeps | split | intro _ _ _ | intro _ _ | extract_lets
    | (dsimp +zetaDelta only)

theorem triggerTimeout_keeps {zz : State} {st : Nat} {s : State}
    (hs : Keeps zz s) :
    Keeps zz (triggerTimeout st s) := by
  unfold triggerTimeout
  extract_lets l0
  repeat' first
    | with_reducible assumption | with_reducible apply countDropped_keeps | with_reducible apply log_keeps
    | with_reducible apply setBusy_keeps | (simp only [mk_keeps]) | with_reducible apply foldl_keeps | split
    | intro _ _ _ | intro _ _ | extract_lets | (dsimp +zetaDelta only)

theorem execTriggerTimeout_keeps {zz : State} {st : Fin 64} {s : State}
    (hs : Keeps zz s) :
    KeepsOut zz (execTriggerTimeout st s) := by
  unfold execTriggerTimeout
  refine keepsOut_next ?_
  repeat' first
    | with_reducible assumption | with_reducible apply triggerTimeout_keeps | (simp only [mk_keeps])
    | with_reducible apply foldl_keeps | split | intro _ _ _ | intro _ _ | extract_lets
    | (dsimp +zetaDelta only)

theorem execTwsWcfgWrite_keeps {zz : State} {w : Fin 4} {v : Word} {s : State}
    (hs : Keeps zz s) :
    KeepsOut zz (execTwsWcfgWrite w v s) := by
  unfold execTwsWcfgWrite
  refine keepsOut_next ?_
  repeat' first
    | with_reducible assumption | with_reducible apply regWrite_keeps | (simp only [mk_keeps])
    | with_reducible apply foldl_keeps | split | intro _ _ _ | intro _ _ | extract_lets
    | (dsimp +zetaDelta only)

theorem execTxTimeout_keeps {zz : State} {k : Fin 17} {s : State}
    (hs : Keeps zz s) :
    KeepsOut zz (execTxTimeout k s) := by
  unfold execTxTimeout
  refine keepsOut_next ?_
  repeat' first
    | with_reducible assumption | with_reducible apply bwFail_keeps | (simp only [mk_keeps])
    | with_reducible apply foldl_keeps | split | intro _ _ _ | intro _ _ | extract_lets
    | (dsimp +zetaDelta only)

theorem execTxctlGo_keeps {zz : State} {v : Word} {s : State}
    (hs : Keeps zz s) :
    KeepsOut zz (execTxctlGo v s) := by
  unfold execTxctlGo
  refine keepsOut_next ?_
  repeat' first
    | with_reducible assumption | with_reducible apply regWrite_keeps | (simp only [mk_keeps])
    | with_reducible apply foldl_keeps | split | intro _ _ _ | intro _ _ | extract_lets
    | (dsimp +zetaDelta only)

theorem execTxfirWrite_keeps {zz : State} {n : Fin 16} {v : Word} {s : State}
    (hs : Keeps zz s) :
    KeepsOut zz (execTxfirWrite n v s) := by
  unfold execTxfirWrite
  refine keepsOut_next ?_
  repeat' first
    | with_reducible assumption | with_reducible apply regWrite_keeps | (simp only [mk_keeps])
    | with_reducible apply foldl_keeps | split | intro _ _ _ | intro _ _ | extract_lets
    | (dsimp +zetaDelta only)

theorem internalError_keeps {zz : State} {s : State}
    (hs : Keeps zz s) :
    Keeps zz (internalError s) := by
  unfold internalError
  extract_lets l0 l1 l2
  have kl0 : Keeps zz l0 := by
    unfold l0
    repeat' first
      | with_reducible assumption | with_reducible apply log_keeps | with_reducible apply aerSet_keeps
      | (simp only [mk_keeps]) | with_reducible apply foldl_keeps | split | intro _ _ _ | intro _ _
      | extract_lets | (dsimp +zetaDelta only)
  clear_value l0
  have kl2 : Keeps zz l2 := by
    unfold l2
    repeat' first
      | with_reducible assumption | with_reducible apply setReads_keeps | (simp only [mk_keeps])
      | with_reducible apply foldl_keeps | split | intro _ _ _ | intro _ _ | extract_lets
      | (dsimp +zetaDelta only)
  clear_value l2
  repeat' first
    | with_reducible assumption | with_reducible apply haltContexts_keeps
    | with_reducible apply haltQueues_keeps | (simp only [mk_keeps]) | with_reducible apply foldl_keeps
    | split | intro _ _ _ | intro _ _ | extract_lets | (dsimp +zetaDelta only)

theorem execUncorrectableInternalError_keeps {zz : State} {s : State}
    (hs : Keeps zz s) :
    KeepsOut zz (execUncorrectableInternalError s) := by
  unfold execUncorrectableInternalError
  refine keepsOut_next ?_
  repeat' first
    | with_reducible assumption | with_reducible apply internalError_keeps | (simp only [mk_keeps])
    | with_reducible apply foldl_keeps | split | intro _ _ _ | intro _ _ | extract_lets
    | (dsimp +zetaDelta only)

theorem execUnitReset_keeps {zz : State} {v : Word} {s : State}
    (hs : Keeps zz s) :
    KeepsOut zz (execUnitReset v s) := by
  unfold execUnitReset
  refine keepsOut_next ?_
  repeat' first
    | with_reducible assumption | with_reducible apply regWrite_keeps | (simp only [mk_keeps])
    | with_reducible apply foldl_keeps | split | intro _ _ _ | intro _ _ | extract_lets
    | (dsimp +zetaDelta only)

theorem urstDone_keeps {zz : State} {k : Nat} {s : State}
    (hs : Keeps zz s) :
    Keeps zz (urstDone k s) := by
  unfold urstDone
  repeat' first
    | with_reducible assumption | with_reducible apply set_keeps | (simp only [mk_keeps])
    | with_reducible apply foldl_keeps | split | intro _ _ _ | intro _ _ | extract_lets
    | (dsimp +zetaDelta only)

theorem execUnitResetDone_keeps {zz : State} {u : Fin 14} {s : State}
    (hs : Keeps zz s) :
    KeepsOut zz (execUnitResetDone u s) := by
  unfold execUnitResetDone
  refine keepsOut_next ?_
  repeat' first
    | with_reducible assumption | with_reducible apply urstDone_keeps | (simp only [mk_keeps])
    | with_reducible apply foldl_keeps | split | intro _ _ _ | intro _ _ | extract_lets
    | (dsimp +zetaDelta only)

theorem execUnsupportedRequest_keeps {zz : State} {tlp : Byte} {mem : Bool} {posted : Bool} {s : State}
    (hs : Keeps zz s) :
    KeepsOut zz (execUnsupportedRequest tlp mem posted s) := by
  unfold execUnsupportedRequest
  refine keepsOut_next ?_
  repeat' first
    | with_reducible assumption | with_reducible apply unsupported_keeps | (simp only [mk_keeps])
    | with_reducible apply foldl_keeps | split | intro _ _ _ | intro _ _ | extract_lets
    | (dsimp +zetaDelta only)

theorem uplinkWake_keeps {zz : State} {n : Nat} {s : State}
    (hs : Keeps zz s) :
    Keeps zz (uplinkWake n s) := by
  unfold uplinkWake
  extract_lets l0 l1
  have kl1 : Keeps zz l1 := by
    unfold l1
    repeat' first
      | with_reducible assumption | with_reducible apply setLane_keeps | (simp only [mk_keeps])
      | with_reducible apply foldl_keeps | split | intro _ _ _ | intro _ _ | extract_lets
      | (dsimp +zetaDelta only)
  clear_value l1
  repeat' first
    | with_reducible assumption | with_reducible apply enterLane_keeps | (simp only [mk_keeps])
    | with_reducible apply foldl_keeps | split | intro _ _ _ | intro _ _ | extract_lets
    | (dsimp +zetaDelta only)

theorem execUplinkQuietExit_keeps {zz : State} {n : Fin 16} {s : State}
    (hs : Keeps zz s) :
    KeepsOut zz (execUplinkQuietExit n s) := by
  unfold execUplinkQuietExit
  refine keepsOut_next ?_
  repeat' first
    | with_reducible assumption | with_reducible apply onLane_keeps | with_reducible apply uplinkWake_keeps
    | (simp only [mk_keeps]) | with_reducible apply foldl_keeps | split | intro _ _ _ | intro _ _
    | extract_lets | (dsimp +zetaDelta only)

theorem execVenCloseDone_keeps {zz : State} {x : Fin 32} {s : State}
    (hs : Keeps zz s) :
    KeepsOut zz (execVenCloseDone x s) := by
  unfold execVenCloseDone
  refine keepsOut_next ?_
  repeat' first
    | with_reducible assumption | with_reducible apply onVen_keeps | with_reducible apply closeDone_keeps
    | (simp only [mk_keeps]) | with_reducible apply foldl_keeps | split | intro _ _ _ | intro _ _
    | extract_lets | (dsimp +zetaDelta only)

theorem execVenEnableWrite_keeps {zz : State} {x : Fin 32} {v : Word} {s : State}
    (hs : Keeps zz s) :
    KeepsOut zz (execVenEnableWrite x v s) := by
  unfold execVenEnableWrite
  refine keepsOut_next ?_
  repeat' first
    | with_reducible assumption | with_reducible apply regWrite_keeps | (simp only [mk_keeps])
    | with_reducible apply foldl_keeps | split | intro _ _ _ | intro _ _ | extract_lets
    | (dsimp +zetaDelta only)

theorem execVenIdrRequest_keeps {zz : State} {x : Fin 32} {s : State}
    (hs : Keeps zz s) :
    KeepsOut zz (execVenIdrRequest x s) := by
  unfold execVenIdrRequest
  refine keepsOut_next ?_
  repeat' first
    | with_reducible assumption | with_reducible apply onVen_keeps | with_reducible apply set_keeps
    | (simp only [mk_keeps]) | with_reducible apply foldl_keeps | split | intro _ _ _ | intro _ _
    | extract_lets | (dsimp +zetaDelta only)

theorem takePicture_keeps {zz : State} {x : Nat} {p : Nat} {w : Nat} {h : Nat} {code : Nat} {s : State}
    (hs : Keeps zz s) :
    Keeps zz (takePicture x p w h code s) := by
  unfold takePicture
  extract_lets l0 l1 l2 l3 l4 l5 l6 l7 l8 l9 l10 l11 l12 l13 l14 l15
  have kl6 : Keeps zz l6 := by
    unfold l6
    repeat' first
      | with_reducible assumption | with_reducible apply free_keeps
      | with_reducible refine free_keeps' ?_ (by with_reducible assumption) | with_reducible apply log_keeps
      | (simp only [mk_keeps]) | with_reducible apply foldl_keeps | split | intro _ _ _ | intro _ _
      | extract_lets | (dsimp +zetaDelta only)
  clear_value l6
  have kl13 : Keeps zz l13 := by
    unfold l13
    repeat' first
      | with_reducible assumption | (simp only [mk_keeps]) | with_reducible apply foldl_keeps | split
      | intro _ _ _ | intro _ _ | extract_lets | (dsimp +zetaDelta only)
  clear_value l13
  have kl15 : Keeps zz l15 := by
    unfold l15
    repeat' first
      | with_reducible assumption | with_reducible apply setVctx_keeps | (simp only [mk_keeps])
      | with_reducible apply foldl_keeps | split | intro _ _ _ | intro _ _ | extract_lets
      | (dsimp +zetaDelta only)
  clear_value l15
  repeat' first
    | with_reducible assumption | with_reducible apply log_keeps | with_reducible apply setVctx_keeps
    | with_reducible apply set_keeps | with_reducible apply setSlots_keeps | (simp only [mk_keeps])
    | with_reducible apply foldl_keeps | split | intro _ _ _ | intro _ _ | extract_lets
    | (dsimp +zetaDelta only)

theorem loseOffer_keeps {zz : State} {x : Nat} {cause : Nat} {s : State}
    (hs : Keeps zz s) :
    Keeps zz (loseOffer x cause s) := by
  unfold loseOffer
  extract_lets l0
  repeat' first
    | with_reducible assumption | with_reducible apply countLost_keeps | with_reducible apply setVctx_keeps
    | (simp only [mk_keeps]) | with_reducible apply foldl_keeps | split | intro _ _ _ | intro _ _
    | extract_lets | (dsimp +zetaDelta only)

theorem pictureOffer_keeps {zz : State} {x : Nat} {x1 : Bool} {s : State}
    (hs : Keeps zz s) :
    Keeps zz (pictureOffer x x1 s) := by
  unfold pictureOffer
  extract_lets l0 l1 l2 l3 l4 l5 l6 l7 l8 l9 l10
  try (have kl2 : Keeps zz l2 := by
        unfold l2
        repeat' first
          | with_reducible assumption | (simp only [mk_keeps]) | with_reducible apply foldl_keeps | split
          | intro _ _ _ | intro _ _ | extract_lets | (dsimp +zetaDelta only))
  clear_value l2
  try (have kl8 : Keeps zz l8 := by
        unfold l8
        repeat' first
          | with_reducible assumption | with_reducible apply setVctx_keeps | (simp only [mk_keeps])
          | with_reducible apply foldl_keeps | split | intro _ _ _ | intro _ _ | extract_lets
          | (dsimp +zetaDelta only))
  clear_value l8
  try (have kl9 : Keeps zz l9 := by
        unfold l9
        repeat' first
          | with_reducible assumption | with_reducible apply deriveCtx_keeps | (simp only [mk_keeps])
          | with_reducible apply foldl_keeps | split | intro _ _ _ | intro _ _ | extract_lets
          | (dsimp +zetaDelta only))
  clear_value l9
  repeat' first
    | with_reducible assumption | with_reducible apply takePicture_keeps
    | with_reducible apply loseOffer_keeps | (simp only [mk_keeps]) | with_reducible apply foldl_keeps | split
    | intro _ _ _ | intro _ _ | extract_lets | (dsimp +zetaDelta only)

theorem execVenPictureOffer_keeps {zz : State} {x : Fin 32} {x1 : Bool} {s : State}
    (hs : Keeps zz s) :
    KeepsOut zz (execVenPictureOffer x x1 s) := by
  unfold execVenPictureOffer
  refine keepsOut_next ?_
  repeat' first
    | with_reducible assumption | with_reducible apply onVen_keeps | with_reducible apply pictureOffer_keeps
    | (simp only [mk_keeps]) | with_reducible apply foldl_keeps | split | intro _ _ _ | intro _ _
    | extract_lets | (dsimp +zetaDelta only)

theorem execVenRestart_keeps {zz : State} {x : Fin 32} {s : State}
    (hs : Keeps zz s) :
    KeepsOut zz (execVenRestart x s) := by
  unfold execVenRestart
  refine keepsOut_next ?_
  repeat' first
    | with_reducible assumption | with_reducible apply regWrite_keeps | (simp only [mk_keeps])
    | with_reducible apply foldl_keeps | split | intro _ _ _ | intro _ _ | extract_lets
    | (dsimp +zetaDelta only)

theorem vencUnlock_keeps {zz : State} {s : State}
    (hs : Keeps zz s) :
    Keeps zz (vencUnlock s) := by
  unfold vencUnlock
  repeat' first
    | with_reducible assumption | with_reducible apply log_keeps | with_reducible apply vencAssert_keeps
    | with_reducible apply noteLoss_keeps | (simp only [mk_keeps]) | with_reducible apply foldl_keeps | split
    | intro _ _ _ | intro _ _ | extract_lets | (dsimp +zetaDelta only)

theorem execVencPllUnlock_keeps {zz : State} {s : State}
    (hs : Keeps zz s) :
    KeepsOut zz (execVencPllUnlock s) := by
  unfold execVencPllUnlock
  refine keepsOut_next ?_
  repeat' first
    | with_reducible assumption | with_reducible apply vencUnlock_keeps | (simp only [mk_keeps])
    | with_reducible apply foldl_keeps | split | intro _ _ _ | intro _ _ | extract_lets
    | (dsimp +zetaDelta only)

theorem execVencenWrite_keeps {zz : State} {v : Word} {s : State}
    (hs : Keeps zz s) :
    KeepsOut zz (execVencenWrite v s) := by
  unfold execVencenWrite
  refine keepsOut_next ?_
  repeat' first
    | with_reducible assumption | with_reducible apply regWrite_keeps | (simp only [mk_keeps])
    | with_reducible apply foldl_keeps | split | intro _ _ _ | intro _ _ | extract_lets
    | (dsimp +zetaDelta only)

theorem waitExpiry_keeps {zz : State} {s : State}
    (hs : Keeps zz s) :
    Keeps zz (waitExpiry s) := by
  unfold waitExpiry
  extract_lets l0
  repeat' first
    | with_reducible assumption | (simp only [mk_keeps]) | with_reducible apply foldl_keeps | split
    | intro _ _ _ | intro _ _ | extract_lets | (dsimp +zetaDelta only)

theorem execWaitExpiry_keeps {zz : State} {s : State}
    (hs : Keeps zz s) :
    KeepsOut zz (execWaitExpiry s) := by
  unfold execWaitExpiry
  refine keepsOut_next ?_
  repeat' first
    | with_reducible assumption | with_reducible apply waitExpiry_keeps | (simp only [mk_keeps])
    | with_reducible apply foldl_keeps | split | intro _ _ _ | intro _ _ | extract_lets
    | (dsimp +zetaDelta only)

theorem execWakeEnergy_keeps {zz : State} {n : Fin 16} {s : State}
    (hs : Keeps zz s) :
    KeepsOut zz (execWakeEnergy n s) := by
  unfold execWakeEnergy
  refine keepsOut_next ?_
  repeat' first
    | with_reducible assumption | with_reducible apply onLane_keeps | with_reducible apply wakeLane_keeps
    | (simp only [mk_keeps]) | with_reducible apply foldl_keeps | split | intro _ _ _ | intro _ _
    | extract_lets | (dsimp +zetaDelta only)

theorem execWakeRequest_keeps {zz : State} {n : Fin 16} {v : Word} {s : State}
    (hs : Keeps zz s) :
    KeepsOut zz (execWakeRequest n v s) := by
  unfold execWakeRequest
  refine keepsOut_next ?_
  repeat' first
    | with_reducible assumption | with_reducible apply regWrite_keeps | (simp only [mk_keeps])
    | with_reducible apply foldl_keeps | split | intro _ _ _ | intro _ _ | extract_lets
    | (dsimp +zetaDelta only)

theorem gapTimeout_keeps {zz : State} {w : Nat} {s : State}
    (hs : Keeps zz s) :
    Keeps zz (gapTimeout w s) := by
  unfold gapTimeout
  repeat' first
    | with_reducible assumption | with_reducible apply syncError_keeps | (simp only [mk_keeps])
    | with_reducible apply foldl_keeps | split | intro _ _ _ | intro _ _ | extract_lets
    | (dsimp +zetaDelta only)

theorem execWheelGapTimeout_keeps {zz : State} {w : Fin 4} {s : State}
    (hs : Keeps zz s) :
    KeepsOut zz (execWheelGapTimeout w s) := by
  unfold execWheelGapTimeout
  refine keepsOut_next ?_
  repeat' first
    | with_reducible assumption | with_reducible apply gapTimeout_keeps | (simp only [mk_keeps])
    | with_reducible apply foldl_keeps | split | intro _ _ _ | intro _ _ | extract_lets
    | (dsimp +zetaDelta only)

theorem execWheelStall_keeps {zz : State} {w : Fin 4} {s : State}
    (hs : Keeps zz s) :
    KeepsOut zz (execWheelStall w s) := by
  unfold execWheelStall
  refine keepsOut_next ?_
  repeat' first
    | with_reducible assumption | with_reducible apply loseWheel_keeps | (simp only [mk_keeps])
    | with_reducible apply foldl_keeps | split | intro _ _ _ | intro _ _ | extract_lets
    | (dsimp +zetaDelta only)

theorem syncedEdge_keeps {zz : State} {w : Nat} {t : Nat} {s : State}
    (hs : Keeps zz s) :
    Keeps zz (syncedEdge w t s) := by
  unfold syncedEdge
  extract_lets l0 l1 l2
  repeat' first
    | with_reducible assumption | with_reducible apply logSec_keeps | with_reducible apply count_keeps
    | with_reducible apply newTooth_keeps | with_reducible apply syncError_keeps | (simp only [mk_keeps])
    | with_reducible apply foldl_keeps | split | intro _ _ _ | intro _ _ | extract_lets
    | (dsimp +zetaDelta only)

theorem seekEdge_keeps {zz : State} {w : Nat} {t : Nat} {s : State}
    (hs : Keeps zz s) :
    Keeps zz (seekEdge w t s) := by
  unfold seekEdge
  extract_lets l0 l1 l2 l3 l4
  have kl1 : Keeps zz l1 := by
    unfold l1
    repeat' first
      | with_reducible assumption | with_reducible apply takeZero_keeps | with_reducible apply setWheel_keeps
      | (simp only [mk_keeps]) | with_reducible apply foldl_keeps | split | intro _ _ _ | intro _ _
      | extract_lets | (dsimp +zetaDelta only)
  clear_value l1
  repeat' first
    | with_reducible assumption | with_reducible apply setWheel_keeps
    | with_reducible apply takeInterval_keeps | with_reducible apply set_keeps
    | with_reducible apply enterSync_keeps | with_reducible apply count_keeps | (simp only [mk_keeps])
    | with_reducible apply foldl_keeps | split | intro _ _ _ | intro _ _ | extract_lets
    | (dsimp +zetaDelta only)

theorem wheelTooth_keeps {zz : State} {w : Nat} {s : State}
    (hs : Keeps zz s) :
    Keeps zz (wheelTooth w s) := by
  unfold wheelTooth
  extract_lets l0
  repeat' first
    | with_reducible assumption | with_reducible apply setWheel_keeps | with_reducible apply syncedEdge_keeps
    | with_reducible apply seekEdge_keeps | (simp only [mk_keeps]) | with_reducible apply foldl_keeps | split
    | intro _ _ _ | intro _ _ | extract_lets | (dsimp +zetaDelta only)

theorem execWheelTooth_keeps {zz : State} {w : Fin 4} {s : State}
    (hs : Keeps zz s) :
    KeepsOut zz (execWheelTooth w s) := by
  unfold execWheelTooth
  refine keepsOut_next ?_
  repeat' first
    | with_reducible assumption | with_reducible apply wheelTooth_keeps | (simp only [mk_keeps])
    | with_reducible apply foldl_keeps | split | intro _ _ _ | intro _ _ | extract_lets
    | (dsimp +zetaDelta only)

theorem wireDisagree_keeps {zz : State} {n : Nat} {k : Nat} {s : State}
    (hs : Keeps zz s) :
    Keeps zz (wireDisagree n k s) := by
  unfold wireDisagree
  extract_lets l0 l1 l2
  have kl1 : Keeps zz l1 := by
    unfold l1
    repeat' first
      | with_reducible assumption | with_reducible apply setChan_keeps | (simp only [mk_keeps])
      | with_reducible apply foldl_keeps | split | intro _ _ _ | intro _ _ | extract_lets
      | (dsimp +zetaDelta only)
  clear_value l1
  repeat' first
    | with_reducible assumption | with_reducible apply log_keeps | with_reducible apply clearRef_keeps
    | with_reducible apply count_keeps | with_reducible apply posFault_keeps | (simp only [mk_keeps])
    | with_reducible apply foldl_keeps | split | intro _ _ _ | intro _ _ | extract_lets
    | (dsimp +zetaDelta only)

theorem execWireDisagree_keeps {zz : State} {n : Fin 8} {k : Fin 3} {s : State}
    (hs : Keeps zz s) :
    KeepsOut zz (execWireDisagree n k s) := by
  unfold execWireDisagree
  refine keepsOut_next ?_
  repeat' first
    | with_reducible assumption | with_reducible apply wireDisagree_keeps | (simp only [mk_keeps])
    | with_reducible apply foldl_keeps | split | intro _ _ _ | intro _ _ | extract_lets
    | (dsimp +zetaDelta only)

theorem execWireDisagreeEnd_keeps {zz : State} {n : Fin 8} {k : Fin 3} {s : State}
    (hs : Keeps zz s) :
    KeepsOut zz (execWireDisagreeEnd n k s) := by
  unfold execWireDisagreeEnd
  refine keepsOut_next ?_
  repeat' first
    | with_reducible assumption | with_reducible apply disagreeEnd_keeps | (simp only [mk_keeps])
    | with_reducible apply foldl_keeps | split | intro _ _ _ | intro _ _ | extract_lets
    | (dsimp +zetaDelta only)

end Sys2Proof.Machine
end

