-- ==== Sys2Proof/Laws/Served.lean ====
section
/-! SUPPORT. What a served write of a register does, for every command that is such a write: the operation of its unit, followed
by the re-derivation where the register has basic fields. -/

namespace Sys2Proof.Machine

set_option maxRecDepth 20000

/-- A command of the host that writes a register, when it is served. -/
theorem regWrite_basic (s : State) (a v u i j : Nat) (r : RegRow) (h : Served s a) (hr : rowAt a = some (r, i, j))
    (hu : unitAt a = some u) (hl : (a == unitBase u + 4) = false) :
    regWrite a v s = afterBasic u a v (s.rdA a) (unitReg u r.base i j a v s) := by
  unfold regWrite
  rw [hostGate_served s a v _ h]
  simp [regOp, hr, hu, hl]

theorem execCfgWarmWrite_served (s : State) (key : Word) (h : Served s (CFG_WARM.reg.adr 0)) :
    exec (.cfgWarmWrite key) s = .next (cfgReg 0x10054 (CFG_WARM.reg.adr 0) key.toNat s) := by
  show Host.Outcome.next (regWrite _ _ s) = _
  rw [regWrite_served s _ _ 2 0 0 _ h rfl rfl rfl rfl]
  rfl

theorem execVencenWrite_served (s : State) (v : Word) (h : Served s (CLK_VENCEN.reg.adr 0)) :
    exec (.vencenWrite v) s = .next (afterBasic 3 (CLK_VENCEN.reg.adr 0) v.toNat (s.rdA (CLK_VENCEN.reg.adr 0)) (clkReg 0x20014 0 (CLK_VENCEN.reg.adr 0) v.toNat s)) := by
  show Host.Outcome.next (regWrite _ _ s) = _
  rw [regWrite_basic s _ _ 3 0 0 _ h rfl rfl rfl]
  rfl

theorem execClkPllWrite_served (s : State) (p : Fin 4) (v : Word) (h : Served s (CLK_PLL.reg.adr p.val)) :
    exec (.clkPllWrite p v) s = .next (clkReg 0x20100 p.val (CLK_PLL.reg.adr p.val) v.toNat s) := by
  have hr : ∀ p : Fin 4, rowAt (CLK_PLL.reg.adr p.val) = some (⟨0x20100, 0x10, 4, 0x0, 1, 0x0, 0x0, 0x0, 0xfcfff00f, 0x0⟩, p.val, 0) := by decide
  have hu : ∀ p : Fin 4, unitAt (CLK_PLL.reg.adr p.val) = some 3 := by decide
  have hl : ∀ p : Fin 4, ((CLK_PLL.reg.adr p.val) == unitBase 3 + 4) = false := by decide
  have hb : ∀ p : Fin 4, touchesBasic (CLK_PLL.reg.adr p.val) = false := by decide
  show Host.Outcome.next (regWrite _ _ s) = _
  rw [regWrite_served s _ _ 3 p.val 0 _ h (hr p) (hu p) (hl p) (hb p)]
  rfl

theorem execClkRstWrite_served (s : State) (v : Word) (h : Served s (CLK_RST.reg.adr 0)) :
    exec (.clkRstWrite v) s = .next (clkReg 0x20030 0 (CLK_RST.reg.adr 0) v.toNat s) := by
  show Host.Outcome.next (regWrite _ _ s) = _
  rw [regWrite_served s _ _ 3 0 0 _ h rfl rfl rfl rfl]
  rfl

theorem execUnitReset_served (s : State) (v : Word) (h : Served s (CFG_URST.reg.adr 0)) :
    exec (.unitReset v) s = .next (cfgReg 0x10050 (CFG_URST.reg.adr 0) v.toNat s) := by
  show Host.Outcome.next (regWrite _ _ s) = _
  rw [regWrite_served s _ _ 2 0 0 _ h rfl rfl rfl rfl]
  rfl

theorem execModeRequestWrite_served (s : State) (v : Word) (h : Served s (GLB_MODE.reg.adr 0)) :
    exec (.modeRequestWrite v) s = .next (glbReg 0x40 (GLB_MODE.reg.adr 0) v.toNat s) := by
  show Host.Outcome.next (regWrite _ _ s) = _
  rw [regWrite_served s _ _ 1 0 0 _ h rfl rfl rfl rfl]
  rfl

theorem execDrainForce_served (s : State) (v : Word) (h : Served s (GLB_DRAIN.reg.adr 0)) :
    exec (.drainForce v) s = .next (glbReg 0x48 (GLB_DRAIN.reg.adr 0) (v.toNat ||| 2 ^ 31) s) := by
  show Host.Outcome.next (regWrite _ _ s) = _
  rw [regWrite_served s _ _ 1 0 0 _ h rfl rfl rfl rfl]
  rfl

theorem execCfgFspeedWrite_served (s : State) (v : Word) (h : Served s (CFG_FSPEED.reg.adr 0)) :
    exec (.cfgFspeedWrite v) s = .next (afterBasic 2 (CFG_FSPEED.reg.adr 0) v.toNat (s.rdA (CFG_FSPEED.reg.adr 0)) (cfgReg 0x10040 (CFG_FSPEED.reg.adr 0) v.toNat s)) := by
  show Host.Outcome.next (regWrite _ _ s) = _
  rw [regWrite_basic s _ _ 2 0 0 _ h rfl rfl rfl]
  rfl

theorem execFlashUnlock_served (s : State) (key : Word) (h : Served s (CFG_FUNLOCK.reg.adr 0)) :
    exec (.flashUnlock key) s = .next (cfgReg 0x10080 (CFG_FUNLOCK.reg.adr 0) key.toNat s) := by
  show Host.Outcome.next (regWrite _ _ s) = _
  rw [regWrite_served s _ _ 2 0 0 _ h rfl rfl rfl rfl]
  rfl

theorem execFlashRead_served (s : State) (h : Served s (CFG_FCMD.reg.adr 0)) :
    exec (.flashRead) s = .next (cfgReg 0x10084 (CFG_FCMD.reg.adr 0) 1 s) := by
  show Host.Outcome.next (regWrite _ _ s) = _
  rw [regWrite_served s _ _ 2 0 0 _ h rfl rfl rfl rfl]
  rfl

theorem execFlashProgram_served (s : State) (h : Served s (CFG_FCMD.reg.adr 0)) :
    exec (.flashProgram) s = .next (cfgReg 0x10084 (CFG_FCMD.reg.adr 0) 2 s) := by
  show Host.Outcome.next (regWrite _ _ s) = _
  rw [regWrite_served s _ _ 2 0 0 _ h rfl rfl rfl rfl]
  rfl

theorem execFlashErase4k_served (s : State) (h : Served s (CFG_FCMD.reg.adr 0)) :
    exec (.flashErase4k) s = .next (cfgReg 0x10084 (CFG_FCMD.reg.adr 0) 3 s) := by
  show Host.Outcome.next (regWrite _ _ s) = _
  rw [regWrite_served s _ _ 2 0 0 _ h rfl rfl rfl rfl]
  rfl

theorem execFlashErase64k_served (s : State) (h : Served s (CFG_FCMD.reg.adr 0)) :
    exec (.flashErase64k) s = .next (cfgReg 0x10084 (CFG_FCMD.reg.adr 0) 4 s) := by
  show Host.Outcome.next (regWrite _ _ s) = _
  rw [regWrite_served s _ _ 2 0 0 _ h rfl rfl rfl rfl]
  rfl

theorem execFlashVerifya_served (s : State) (h : Served s (CFG_FCMD.reg.adr 0)) :
    exec (.flashVerifya) s = .next (cfgReg 0x10084 (CFG_FCMD.reg.adr 0) 5 s) := by
  show Host.Outcome.next (regWrite _ _ s) = _
  rw [regWrite_served s _ _ 2 0 0 _ h rfl rfl rfl rfl]
  rfl

theorem execFlashVerifyb_served (s : State) (h : Served s (CFG_FCMD.reg.adr 0)) :
    exec (.flashVerifyb) s = .next (cfgReg 0x10084 (CFG_FCMD.reg.adr 0) 6 s) := by
  show Host.Outcome.next (regWrite _ _ s) = _
  rw [regWrite_served s _ _ 2 0 0 _ h rfl rfl rfl rfl]
  rfl

theorem execFlashReload_served (s : State) (h : Served s (CFG_FCMD.reg.adr 0)) :
    exec (.flashReload) s = .next (cfgReg 0x10084 (CFG_FCMD.reg.adr 0) 7 s) := by
  show Host.Outcome.next (regWrite _ _ s) = _
  rw [regWrite_served s _ _ 2 0 0 _ h rfl rfl rfl rfl]
  rfl

theorem execStepGo_served (s : State) (v : Word) (h : Served s (TIM_STEPCMD.reg.adr 0)) :
    exec (.stepGo v) s = .next (timReg 0x100130 (TIM_STEPCMD.reg.adr 0) (v.toNat ||| 1) s) := by
  show Host.Outcome.next (regWrite _ _ s) = _
  rw [regWrite_served s _ _ 4 0 0 _ h rfl rfl rfl rfl]
  rfl

theorem execFreqLoadGo_served (s : State) (v : Word) (h : Served s (TIM_STEPCMD.reg.adr 0)) :
    exec (.freqLoadGo v) s = .next (timReg 0x100130 (TIM_STEPCMD.reg.adr 0) (v.toNat ||| 2) s) := by
  show Host.Outcome.next (regWrite _ _ s) = _
  rw [regWrite_served s _ _ 4 0 0 _ h rfl rfl rfl rfl]
  rfl

theorem execTimeRearm_served (s : State) (v : Word) (h : Served s (TIM_CTRL.reg.adr 0)) :
    exec (.timeRearm v) s = .next (timReg 0x100044 (TIM_CTRL.reg.adr 0) (v.toNat ||| 1) s) := by
  show Host.Outcome.next (regWrite _ _ s) = _
  rw [regWrite_served s _ _ 4 0 0 _ h rfl rfl rfl rfl]
  rfl

theorem execAdjWrite_served (s : State) (v : Word) (h : Served s (TIM_ADJ.reg.adr 0)) :
    exec (.adjWrite v) s = .next (timReg 0x100118 (TIM_ADJ.reg.adr 0) v.toNat s) := by
  show Host.Outcome.next (regWrite _ _ s) = _
  rw [regWrite_served s _ _ 4 0 0 _ h rfl rfl rfl rfl]
  rfl

theorem execRawPop_served (s : State) (h : Served s (TIM_RAWPOP.reg.adr 0)) :
    exec (.rawPop) s = .next (timReg 0x100404 (TIM_RAWPOP.reg.adr 0) 0 s) := by
  show Host.Outcome.next (regWrite _ _ s) = _
  rw [regWrite_served s _ _ 4 0 0 _ h rfl rfl rfl rfl]
  rfl

theorem execHostlockWrite_served (s : State) (v : Word) (h : Served s (TIM_STAT.reg.adr 0)) :
    exec (.hostlockWrite v) s = .next (timReg 0x100040 (TIM_STAT.reg.adr 0) v.toNat s) := by
  show Host.Outcome.next (regWrite _ _ s) = _
  rw [regWrite_served s _ _ 4 0 0 _ h rfl rfl rfl rfl]
  rfl

theorem execDeepRequest_served (s : State) (n : Fin 16) (v : Word) (h : Served s (LNP_LPCTL.reg.adr n.val)) :
    exec (.deepRequest n v) s = .next (lnpReg 0x200118 n.val (LNP_LPCTL.reg.adr n.val) (v.toNat ||| 1) s) := by
  have hr : ∀ n : Fin 16, rowAt (LNP_LPCTL.reg.adr n.val) = some (⟨0x200118, 0x4000, 16, 0x0, 1, 0x0, 0x0, 0x0, 0x0, 0x0⟩, n.val, 0) := by decide
  have hu : ∀ n : Fin 16, unitAt (LNP_LPCTL.reg.adr n.val) = some 5 := by decide
  have hl : ∀ n : Fin 16, ((LNP_LPCTL.reg.adr n.val) == unitBase 5 + 4) = false := by decide
  have hb : ∀ n : Fin 16, touchesBasic (LNP_LPCTL.reg.adr n.val) = false := by decide
  show Host.Outcome.next (regWrite _ _ s) = _
  rw [regWrite_served s _ _ 5 n.val 0 _ h (hr n) (hu n) (hl n) (hb n)]
  rfl

theorem execWakeRequest_served (s : State) (n : Fin 16) (v : Word) (h : Served s (LNP_LPCTL.reg.adr n.val)) :
    exec (.wakeRequest n v) s = .next (lnpReg 0x200118 n.val (LNP_LPCTL.reg.adr n.val) (v.toNat ||| 2) s) := by
  have hr : ∀ n : Fin 16, rowAt (LNP_LPCTL.reg.adr n.val) = some (⟨0x200118, 0x4000, 16, 0x0, 1, 0x0, 0x0, 0x0, 0x0, 0x0⟩, n.val, 0) := by decide
  have hu : ∀ n : Fin 16, unitAt (LNP_LPCTL.reg.adr n.val) = some 5 := by decide
  have hl : ∀ n : Fin 16, ((LNP_LPCTL.reg.adr n.val) == unitBase 5 + 4) = false := by decide
  have hb : ∀ n : Fin 16, touchesBasic (LNP_LPCTL.reg.adr n.val) = false := by decide
  show Host.Outcome.next (regWrite _ _ s) = _
  rw [regWrite_served s _ _ 5 n.val 0 _ h (hr n) (hu n) (hl n) (hb n)]
  rfl

theorem execMarginRebase_served (s : State) (n : Fin 16) (v : Word) (h : Served s (LNP_CTL.reg.adr n.val)) :
    exec (.marginRebase n v) s = .next (lnpReg 0x200104 n.val (LNP_CTL.reg.adr n.val) (v.toNat ||| 2) s) := by
  have hr : ∀ n : Fin 16, rowAt (LNP_CTL.reg.adr n.val) = some (⟨0x200104, 0x4000, 16, 0x0, 1, 0x0, 0x0, 0x0, 0x0, 0x0⟩, n.val, 0) := by decide
  have hu : ∀ n : Fin 16, unitAt (LNP_CTL.reg.adr n.val) = some 5 := by decide
  have hl : ∀ n : Fin 16, ((LNP_CTL.reg.adr n.val) == unitBase 5 + 4) = false := by decide
  have hb : ∀ n : Fin 16, touchesBasic (LNP_CTL.reg.adr n.val) = false := by decide
  show Host.Outcome.next (regWrite _ _ s) = _
  rw [regWrite_served s _ _ 5 n.val 0 _ h (hr n) (hu n) (hl n) (hb n)]
  rfl

theorem execSweepStart_served (s : State) (n : Fin 16) (v : Word) (h : Served s (LNP_ESCTL.reg.adr n.val)) :
    exec (.sweepStart n v) s = .next (lnpReg 0x200208 n.val (LNP_ESCTL.reg.adr n.val) (v.toNat ||| 1) s) := by
  have hr : ∀ n : Fin 16, rowAt (LNP_ESCTL.reg.adr n.val) = some (⟨0x200208, 0x4000, 16, 0x0, 1, 0x0, 0x0, 0x0, 0x0, 0x0⟩, n.val, 0) := by decide
  have hu : ∀ n : Fin 16, unitAt (LNP_ESCTL.reg.adr n.val) = some 5 := by decide
  have hl : ∀ n : Fin 16, ((LNP_ESCTL.reg.adr n.val) == unitBase 5 + 4) = false := by decide
  have hb : ∀ n : Fin 16, touchesBasic (LNP_ESCTL.reg.adr n.val) = false := by decide
  show Host.Outcome.next (regWrite _ _ s) = _
  rw [regWrite_served s _ _ 5 n.val 0 _ h (hr n) (hu n) (hl n) (hb n)]
  rfl

theorem execLoopbackWrite_served (s : State) (n : Fin 16) (v : Word) (h : Served s (LNP_LOOP.reg.adr n.val)) :
    exec (.loopbackWrite n v) s = .next (lnpReg 0x200240 n.val (LNP_LOOP.reg.adr n.val) v.toNat s) := by
  have hr : ∀ n : Fin 16, rowAt (LNP_LOOP.reg.adr n.val) = some (⟨0x200240, 0x4000, 16, 0x0, 1, 0x0, 0x3, 0x0, 0x0, 0x0⟩, n.val, 0) := by decide
  have hu : ∀ n : Fin 16, unitAt (LNP_LOOP.reg.adr n.val) = some 5 := by decide
  have hl : ∀ n : Fin 16, ((LNP_LOOP.reg.adr n.val) == unitBase 5 + 4) = false := by decide
  have hb : ∀ n : Fin 16, touchesBasic (LNP_LOOP.reg.adr n.val) = false := by decide
  show Host.Outcome.next (regWrite _ _ s) = _
  rw [regWrite_served s _ _ 5 n.val 0 _ h (hr n) (hu n) (hl n) (hb n)]
  rfl

theorem execInjectHdr_served (s : State) (n : Fin 16) (h : Served s (LNP_INJ.reg.adr n.val)) :
    exec (.injectHdr n) s = .next (lnpReg 0x200260 n.val (LNP_INJ.reg.adr n.val) 1 s) := by
  have hr : ∀ n : Fin 16, rowAt (LNP_INJ.reg.adr n.val) = some (⟨0x200260, 0x4000, 16, 0x0, 1, 0x0, 0x0, 0x0, 0x0, 0x0⟩, n.val, 0) := by decide
  have hu : ∀ n : Fin 16, unitAt (LNP_INJ.reg.adr n.val) = some 5 := by decide
  have hl : ∀ n : Fin 16, ((LNP_INJ.reg.adr n.val) == unitBase 5 + 4) = false := by decide
  have hb : ∀ n : Fin 16, touchesBasic (LNP_INJ.reg.adr n.val) = false := by decide
  show Host.Outcome.next (regWrite _ _ s) = _
  rw [regWrite_served s _ _ 5 n.val 0 _ h (hr n) (hu n) (hl n) (hb n)]
  rfl

theorem execInjectBit_served (s : State) (n : Fin 16) (h : Served s (LNP_INJ.reg.adr n.val)) :
    exec (.injectBit n) s = .next (lnpReg 0x200260 n.val (LNP_INJ.reg.adr n.val) 2 s) := by
  have hr : ∀ n : Fin 16, rowAt (LNP_INJ.reg.adr n.val) = some (⟨0x200260, 0x4000, 16, 0x0, 1, 0x0, 0x0, 0x0, 0x0, 0x0⟩, n.val, 0) := by decide
  have hu : ∀ n : Fin 16, unitAt (LNP_INJ.reg.adr n.val) = some 5 := by decide
  have hl : ∀ n : Fin 16, ((LNP_INJ.reg.adr n.val) == unitBase 5 + 4) = false := by decide
  have hb : ∀ n : Fin 16, touchesBasic (LNP_INJ.reg.adr n.val) = false := by decide
  show Host.Outcome.next (regWrite _ _ s) = _
  rw [regWrite_served s _ _ 5 n.val 0 _ h (hr n) (hu n) (hl n) (hb n)]
  rfl

theorem execInjectType2_served (s : State) (n : Fin 16) (h : Served s (LNP_INJ.reg.adr n.val)) :
    exec (.injectType2 n) s = .next (lnpReg 0x200260 n.val (LNP_INJ.reg.adr n.val) 4 s) := by
  have hr : ∀ n : Fin 16, rowAt (LNP_INJ.reg.adr n.val) = some (⟨0x200260, 0x4000, 16, 0x0, 1, 0x0, 0x0, 0x0, 0x0, 0x0⟩, n.val, 0) := by decide
  have hu : ∀ n : Fin 16, unitAt (LNP_INJ.reg.adr n.val) = some 5 := by decide
  have hl : ∀ n : Fin 16, ((LNP_INJ.reg.adr n.val) == unitBase 5 + 4) = false := by decide
  have hb : ∀ n : Fin 16, touchesBasic (LNP_INJ.reg.adr n.val) = false := by decide
  show Host.Outcome.next (regWrite _ _ s) = _
  rw [regWrite_served s _ _ 5 n.val 0 _ h (hr n) (hu n) (hl n) (hb n)]
  rfl

theorem execInjectTraincrc_served (s : State) (n : Fin 16) (h : Served s (LNP_INJ.reg.adr n.val)) :
    exec (.injectTraincrc n) s = .next (lnpReg 0x200260 n.val (LNP_INJ.reg.adr n.val) 8 s) := by
  have hr : ∀ n : Fin 16, rowAt (LNP_INJ.reg.adr n.val) = some (⟨0x200260, 0x4000, 16, 0x0, 1, 0x0, 0x0, 0x0, 0x0, 0x0⟩, n.val, 0) := by decide
  have hu : ∀ n : Fin 16, unitAt (LNP_INJ.reg.adr n.val) = some 5 := by decide
  have hl : ∀ n : Fin 16, ((LNP_INJ.reg.adr n.val) == unitBase 5 + 4) = false := by decide
  have hb : ∀ n : Fin 16, touchesBasic (LNP_INJ.reg.adr n.val) = false := by decide
  show Host.Outcome.next (regWrite _ _ s) = _
  rw [regWrite_served s _ _ 5 n.val 0 _ h (hr n) (hu n) (hl n) (hb n)]
  rfl

theorem execInjectSkipgap_served (s : State) (n : Fin 16) (h : Served s (LNP_INJ.reg.adr n.val)) :
    exec (.injectSkipgap n) s = .next (lnpReg 0x200260 n.val (LNP_INJ.reg.adr n.val) 16 s) := by
  have hr : ∀ n : Fin 16, rowAt (LNP_INJ.reg.adr n.val) = some (⟨0x200260, 0x4000, 16, 0x0, 1, 0x0, 0x0, 0x0, 0x0, 0x0⟩, n.val, 0) := by decide
  have hu : ∀ n : Fin 16, unitAt (LNP_INJ.reg.adr n.val) = some 5 := by decide
  have hl : ∀ n : Fin 16, ((LNP_INJ.reg.adr n.val) == unitBase 5 + 4) = false := by decide
  have hb : ∀ n : Fin 16, touchesBasic (LNP_INJ.reg.adr n.val) = false := by decide
  show Host.Outcome.next (regWrite _ _ s) = _
  rw [regWrite_served s _ _ 5 n.val 0 _ h (hr n) (hu n) (hl n) (hb n)]
  rfl

theorem execRatemaxWrite_served (s : State) (n : Fin 16) (v : Word) (h : Served s (LNP_CFG.reg.adr n.val)) :
    exec (.ratemaxWrite n v) s = .next (afterBasic 5 (LNP_CFG.reg.adr n.val) v.toNat (s.rdA (LNP_CFG.reg.adr n.val)) (lnpReg 0x200100 n.val (LNP_CFG.reg.adr n.val) v.toNat s)) := by
  have hr : ∀ n : Fin 16, rowAt (LNP_CFG.reg.adr n.val) = some (⟨0x200100, 0x4000, 16, 0x0, 1, 0x0, 0x17, 0x17, 0x0, 0x0⟩, n.val, 0) := by decide
  have hu : ∀ n : Fin 16, unitAt (LNP_CFG.reg.adr n.val) = some 5 := by decide
  have hl : ∀ n : Fin 16, ((LNP_CFG.reg.adr n.val) == unitBase 5 + 4) = false := by decide
  show Host.Outcome.next (regWrite _ _ s) = _
  rw [regWrite_basic s _ _ 5 n.val 0 _ h (hr n) (hu n) (hl n)]
  rfl

theorem execRetrain_served (s : State) (n : Fin 16) (v : Word) (h : Served s (LNP_CTL.reg.adr n.val)) :
    exec (.retrain n v) s = .next (lnpReg 0x200104 n.val (LNP_CTL.reg.adr n.val) (v.toNat ||| 1) s) := by
  have hr : ∀ n : Fin 16, rowAt (LNP_CTL.reg.adr n.val) = some (⟨0x200104, 0x4000, 16, 0x0, 1, 0x0, 0x0, 0x0, 0x0, 0x0⟩, n.val, 0) := by decide
  have hu : ∀ n : Fin 16, unitAt (LNP_CTL.reg.adr n.val) = some 5 := by decide
  have hl : ∀ n : Fin 16, ((LNP_CTL.reg.adr n.val) == unitBase 5 + 4) = false := by decide
  have hb : ∀ n : Fin 16, touchesBasic (LNP_CTL.reg.adr n.val) = false := by decide
  show Host.Outcome.next (regWrite _ _ s) = _
  rw [regWrite_served s _ _ 5 n.val 0 _ h (hr n) (hu n) (hl n) (hb n)]
  rfl

theorem execTxfirWrite_served (s : State) (n : Fin 16) (v : Word) (h : Served s (LNP_TXFIR.reg.adr n.val)) :
    exec (.txfirWrite n v) s = .next (lnpReg 0x200140 n.val (LNP_TXFIR.reg.adr n.val) v.toNat s) := by
  have hr : ∀ n : Fin 16, rowAt (LNP_TXFIR.reg.adr n.val) = some (⟨0x200140, 0x4000, 16, 0x0, 1, 0x80000000, 0x0, 0x0, 0x803f3f3f, 0x0⟩, n.val, 0) := by decide
  have hu : ∀ n : Fin 16, unitAt (LNP_TXFIR.reg.adr n.val) = some 5 := by decide
  have hl : ∀ n : Fin 16, ((LNP_TXFIR.reg.adr n.val) == unitBase 5 + 4) = false := by decide
  have hb : ∀ n : Fin 16, touchesBasic (LNP_TXFIR.reg.adr n.val) = false := by decide
  show Host.Outcome.next (regWrite _ _ s) = _
  rw [regWrite_served s _ _ 5 n.val 0 _ h (hr n) (hu n) (hl n) (hb n)]
  rfl

theorem execMailboxGo_served (s : State) (g : Fin 16) (v : Word) (h : Served s (CLP_CCCTL.reg.adr g.val)) :
    exec (.mailboxGo g v) s = .next (clpReg 0x300300 g.val (CLP_CCCTL.reg.adr g.val) (v.toNat ||| 1073741824) s) := by
  have hr : ∀ g : Fin 16, rowAt (CLP_CCCTL.reg.adr g.val) = some (⟨0x300300, 0x2000, 16, 0x0, 1, 0x0, 0xff, 0x0, 0x0, 0x0⟩, g.val, 0) := by decide
  have hu : ∀ g : Fin 16, unitAt (CLP_CCCTL.reg.adr g.val) = some 6 := by decide
  have hl : ∀ g : Fin 16, ((CLP_CCCTL.reg.adr g.val) == unitBase 6 + 4) = false := by decide
  have hb : ∀ g : Fin 16, touchesBasic (CLP_CCCTL.reg.adr g.val) = false := by decide
  show Host.Outcome.next (regWrite _ _ s) = _
  rw [regWrite_served s _ _ 6 g.val 0 _ h (hr g) (hu g) (hl g) (hb g)]
  rfl

theorem execClpStreamWrite_served (s : State) (st : Fin 64) (v : Word) (h : Served s (CLP_STREAM0.reg.adr st.val)) :
    exec (.clpStreamWrite st v) s = .next (clpReg 0x321000 st.val (CLP_STREAM0.reg.adr st.val) v.toNat s) := by
  have hr : ∀ st : Fin 64, rowAt (CLP_STREAM0.reg.adr st.val) = some (⟨0x321000, 0x10, 64, 0x0, 1, 0x64, 0x800f07ff, 0x0, 0x0, 0x0⟩, st.val, 0) := by decide
  have hu : ∀ st : Fin 64, unitAt (CLP_STREAM0.reg.adr st.val) = some 6 := by decide
  have hl : ∀ st : Fin 64, ((CLP_STREAM0.reg.adr st.val) == unitBase 6 + 4) = false := by decide
  have hb : ∀ st : Fin 64, touchesBasic (CLP_STREAM0.reg.adr st.val) = false := by decide
  show Host.Outcome.next (regWrite _ _ s) = _
  rw [regWrite_served s _ _ 6 st.val 0 _ h (hr st) (hu st) (hl st) (hb st)]
  rfl

theorem execParStreamWrite_served (s : State) (n : Fin 2) (v : Word) (h : Served s (PAR_STREAM.reg.adr n.val)) :
    exec (.parStreamWrite n v) s = .next (afterBasic 7 (PAR_STREAM.reg.adr n.val) v.toNat (s.rdA (PAR_STREAM.reg.adr n.val)) (parReg 0x38010c n.val (PAR_STREAM.reg.adr n.val) v.toNat s)) := by
  have hr : ∀ n : Fin 2, rowAt (PAR_STREAM.reg.adr n.val) = some (⟨0x38010c, 0x40000, 2, 0x0, 1, 0x0, 0xbf0000ff, 0xbf0000ff, 0x0, 0x0⟩, n.val, 0) := by decide
  have hu : ∀ n : Fin 2, unitAt (PAR_STREAM.reg.adr n.val) = some 7 := by decide
  have hl : ∀ n : Fin 2, ((PAR_STREAM.reg.adr n.val) == unitBase 7 + 4) = false := by decide
  show Host.Outcome.next (regWrite _ _ s) = _
  rw [regWrite_basic s _ _ 7 n.val 0 _ h (hr n) (hu n) (hl n)]
  rfl

theorem execPixSrcWrite_served (s : State) (p : Fin 4) (v : Word) (h : Served s (PIX_SRC.reg.adr p.val)) :
    exec (.pixSrcWrite p v) s = .next (pixReg 0x400100 p.val 0 (PIX_SRC.reg.adr p.val) v.toNat s) := by
  have hr : ∀ p : Fin 4, rowAt (PIX_SRC.reg.adr p.val) = some (⟨0x400100, 0x40000, 4, 0x0, 1, 0x0, 0x8000003f, 0x0, 0x0, 0x0⟩, p.val, 0) := by decide
  have hu : ∀ p : Fin 4, unitAt (PIX_SRC.reg.adr p.val) = some 8 := by decide
  have hl : ∀ p : Fin 4, ((PIX_SRC.reg.adr p.val) == unitBase 8 + 4) = false := by decide
  have hb : ∀ p : Fin 4, touchesBasic (PIX_SRC.reg.adr p.val) = false := by decide
  show Host.Outcome.next (regWrite _ _ s) = _
  rw [regWrite_served s _ _ 8 p.val 0 _ h (hr p) (hu p) (hl p) (hb p)]
  rfl

theorem execPixBistStart_served (s : State) (p : Fin 4) (v : Word) (h : Served s (PIX_BIST.reg.adr p.val)) :
    exec (.pixBistStart p v) s = .next (pixReg 0x400210 p.val 0 (PIX_BIST.reg.adr p.val) (v.toNat ||| 2 ^ 31) s) := by
  have hr : ∀ p : Fin 4, rowAt (PIX_BIST.reg.adr p.val) = some (⟨0x400210, 0x40000, 4, 0x0, 1, 0x0, 0x0, 0x0, 0x0, 0x0⟩, p.val, 0) := by decide
  have hu : ∀ p : Fin 4, unitAt (PIX_BIST.reg.adr p.val) = some 8 := by decide
  have hl : ∀ p : Fin 4, ((PIX_BIST.reg.adr p.val) == unitBase 8 + 4) = false := by decide
  have hb : ∀ p : Fin 4, touchesBasic (PIX_BIST.reg.adr p.val) = false := by decide
  show Host.Outcome.next (regWrite _ _ s) = _
  rw [regWrite_served s _ _ 8 p.val 0 _ h (hr p) (hu p) (hl p) (hb p)]
  rfl

theorem execPosArm_served (s : State) (n : Fin 8) (h : Served s (POS_CTL.reg.adr n.val)) :
    exec (.posArm n) s = .next (posReg 0x500128 n.val (POS_CTL.reg.adr n.val) 1 s) := by
  have hr : ∀ n : Fin 8, rowAt (POS_CTL.reg.adr n.val) = some (⟨0x500128, 0x2000, 8, 0x0, 1, 0x0, 0x0, 0x0, 0x0, 0x0⟩, n.val, 0) := by decide
  have hu : ∀ n : Fin 8, unitAt (POS_CTL.reg.adr n.val) = some 9 := by decide
  have hl : ∀ n : Fin 8, ((POS_CTL.reg.adr n.val) == unitBase 9 + 4) = false := by decide
  have hb : ∀ n : Fin 8, touchesBasic (POS_CTL.reg.adr n.val) = false := by decide
  show Host.Outcome.next (regWrite _ _ s) = _
  rw [regWrite_served s _ _ 9 n.val 0 _ h (hr n) (hu n) (hl n) (hb n)]
  rfl

theorem execPosDisarm_served (s : State) (n : Fin 8) (h : Served s (POS_CTL.reg.adr n.val)) :
    exec (.posDisarm n) s = .next (posReg 0x500128 n.val (POS_CTL.reg.adr n.val) 2 s) := by
  have hr : ∀ n : Fin 8, rowAt (POS_CTL.reg.adr n.val) = some (⟨0x500128, 0x2000, 8, 0x0, 1, 0x0, 0x0, 0x0, 0x0, 0x0⟩, n.val, 0) := by decide
  have hu : ∀ n : Fin 8, unitAt (POS_CTL.reg.adr n.val) = some 9 := by decide
  have hl : ∀ n : Fin 8, ((POS_CTL.reg.adr n.val) == unitBase 9 + 4) = false := by decide
  have hb : ∀ n : Fin 8, touchesBasic (POS_CTL.reg.adr n.val) = false := by decide
  show Host.Outcome.next (regWrite _ _ s) = _
  rw [regWrite_served s _ _ 9 n.val 0 _ h (hr n) (hu n) (hl n) (hb n)]
  rfl

theorem execPosLoad_served (s : State) (n : Fin 8) (h : Served s (POS_CTL.reg.adr n.val)) :
    exec (.posLoad n) s = .next (posReg 0x500128 n.val (POS_CTL.reg.adr n.val) 4 s) := by
  have hr : ∀ n : Fin 8, rowAt (POS_CTL.reg.adr n.val) = some (⟨0x500128, 0x2000, 8, 0x0, 1, 0x0, 0x0, 0x0, 0x0, 0x0⟩, n.val, 0) := by decide
  have hu : ∀ n : Fin 8, unitAt (POS_CTL.reg.adr n.val) = some 9 := by decide
  have hl : ∀ n : Fin 8, ((POS_CTL.reg.adr n.val) == unitBase 9 + 4) = false := by decide
  have hb : ∀ n : Fin 8, touchesBasic (POS_CTL.reg.adr n.val) = false := by decide
  show Host.Outcome.next (regWrite _ _ s) = _
  rw [regWrite_served s _ _ 9 n.val 0 _ h (hr n) (hu n) (hl n) (hb n)]
  rfl

theorem execPosRefset_served (s : State) (n : Fin 8) (h : Served s (POS_CTL.reg.adr n.val)) :
    exec (.posRefset n) s = .next (posReg 0x500128 n.val (POS_CTL.reg.adr n.val) 8 s) := by
  have hr : ∀ n : Fin 8, rowAt (POS_CTL.reg.adr n.val) = some (⟨0x500128, 0x2000, 8, 0x0, 1, 0x0, 0x0, 0x0, 0x0, 0x0⟩, n.val, 0) := by decide
  have hu : ∀ n : Fin 8, unitAt (POS_CTL.reg.adr n.val) = some 9 := by decide
  have hl : ∀ n : Fin 8, ((POS_CTL.reg.adr n.val) == unitBase 9 + 4) = false := by decide
  have hb : ∀ n : Fin 8, touchesBasic (POS_CTL.reg.adr n.val) = false := by decide
  show Host.Outcome.next (regWrite _ _ s) = _
  rw [regWrite_served s _ _ 9 n.val 0 _ h (hr n) (hu n) (hl n) (hb n)]
  rfl

theorem execPosLatchCmd_served (s : State) (n : Fin 8) (h : Served s (POS_CTL.reg.adr n.val)) :
    exec (.posLatchCmd n) s = .next (posReg 0x500128 n.val (POS_CTL.reg.adr n.val) 16 s) := by
  have hr : ∀ n : Fin 8, rowAt (POS_CTL.reg.adr n.val) = some (⟨0x500128, 0x2000, 8, 0x0, 1, 0x0, 0x0, 0x0, 0x0, 0x0⟩, n.val, 0) := by decide
  have hu : ∀ n : Fin 8, unitAt (POS_CTL.reg.adr n.val) = some 9 := by decide
  have hl : ∀ n : Fin 8, ((POS_CTL.reg.adr n.val) == unitBase 9 + 4) = false := by decide
  have hb : ∀ n : Fin 8, touchesBasic (POS_CTL.reg.adr n.val) = false := by decide
  show Host.Outcome.next (regWrite _ _ s) = _
  rw [regWrite_served s _ _ 9 n.val 0 _ h (hr n) (hu n) (hl n) (hb n)]
  rfl

theorem execPosCfgWrite_served (s : State) (n : Fin 8) (v : Word) (h : Served s (POS_CFG.reg.adr n.val)) :
    exec (.posCfgWrite n v) s = .next (afterBasic 9 (POS_CFG.reg.adr n.val) v.toNat (s.rdA (POS_CFG.reg.adr n.val)) (posReg 0x500100 n.val (POS_CFG.reg.adr n.val) v.toNat s)) := by
  have hr : ∀ n : Fin 8, rowAt (POS_CFG.reg.adr n.val) = some (⟨0x500100, 0x2000, 8, 0x0, 1, 0x2004004, 0x8ffec0ff, 0x8ffec0ff, 0x0, 0x0⟩, n.val, 0) := by decide
  have hu : ∀ n : Fin 8, unitAt (POS_CFG.reg.adr n.val) = some 9 := by decide
  have hl : ∀ n : Fin 8, ((POS_CFG.reg.adr n.val) == unitBase 9 + 4) = false := by decide
  show Host.Outcome.next (regWrite _ _ s) = _
  rw [regWrite_basic s _ _ 9 n.val 0 _ h (hr n) (hu n) (hl n)]
  rfl

theorem execTwsWcfgWrite_served (s : State) (w : Fin 4) (v : Word) (h : Served s (TWS_WCFG.reg.adr w.val)) :
    exec (.twsWcfgWrite w v) s = .next (afterBasic 10 (TWS_WCFG.reg.adr w.val) v.toNat (s.rdA (TWS_WCFG.reg.adr w.val)) (twsReg 0x540100 w.val (TWS_WCFG.reg.adr w.val) v.toNat s)) := by
  have hr : ∀ w : Fin 4, rowAt (TWS_WCFG.reg.adr w.val) = some (⟨0x540100, 0x40, 4, 0x0, 1, 0xc10000, 0x8fe31fff, 0x8fe31fff, 0x0, 0x0⟩, w.val, 0) := by decide
  have hu : ∀ w : Fin 4, unitAt (TWS_WCFG.reg.adr w.val) = some 10 := by decide
  have hl : ∀ w : Fin 4, ((TWS_WCFG.reg.adr w.val) == unitBase 10 + 4) = false := by decide
  show Host.Outcome.next (regWrite _ _ s) = _
  rw [regWrite_basic s _ _ 10 w.val 0 _ h (hr w) (hu w) (hl w)]
  rfl

theorem execEntryCtlWrite_served (s : State) (e : Fin 64) (v : Word) (h : Served s (TWS_ENTCTL.reg.adr e.val)) :
    exec (.entryCtlWrite e v) s = .next (twsReg 0x541000 e.val (TWS_ENTCTL.reg.adr e.val) v.toNat s) := by
  have hr : ∀ e : Fin 64, rowAt (TWS_ENTCTL.reg.adr e.val) = some (⟨0x541000, 0x20, 64, 0x0, 1, 0x0, 0xfe07ffff, 0x0, 0x0, 0x0⟩, e.val, 0) := by decide
  have hu : ∀ e : Fin 64, unitAt (TWS_ENTCTL.reg.adr e.val) = some 10 := by decide
  have hl : ∀ e : Fin 64, ((TWS_ENTCTL.reg.adr e.val) == unitBase 10 + 4) = false := by decide
  have hb : ∀ e : Fin 64, touchesBasic (TWS_ENTCTL.reg.adr e.val) = false := by decide
  show Host.Outcome.next (regWrite _ _ s) = _
  rw [regWrite_served s _ _ 10 e.val 0 _ h (hr e) (hu e) (hl e) (hb e)]
  rfl

theorem execSoftFire_served (s : State) (k : Fin 8) (v : Word) (h : Served s (BTM_FIRE.reg.adr k.val)) :
    exec (.softFire k v) s = .next (btmReg 0x600100 k.val (BTM_FIRE.reg.adr k.val) v.toNat s) := by
  have hr : ∀ k : Fin 8, rowAt (BTM_FIRE.reg.adr k.val) = some (⟨0x600100, 0x4, 8, 0x0, 1, 0x0, 0x0, 0x0, 0x0, 0x0⟩, k.val, 0) := by decide
  have hu : ∀ k : Fin 8, unitAt (BTM_FIRE.reg.adr k.val) = some 11 := by decide
  have hl : ∀ k : Fin 8, ((BTM_FIRE.reg.adr k.val) == unitBase 11 + 4) = false := by decide
  have hb : ∀ k : Fin 8, touchesBasic (BTM_FIRE.reg.adr k.val) = false := by decide
  show Host.Outcome.next (regWrite _ _ s) = _
  rw [regWrite_served s _ _ 11 k.val 0 _ h (hr k) (hu k) (hl k) (hb k)]
  rfl

theorem execCselWrite_served (s : State) (i : Fin 512) (v : Word) (h : Served s (BTM_CSEL.reg.adr i.val)) :
    exec (.cselWrite i v) s = .next (btmReg 0x602000 i.val (BTM_CSEL.reg.adr i.val) v.toNat s) := by
  have hr : ∀ i : Fin 512, rowAt (BTM_CSEL.reg.adr i.val) = some (⟨0x602000, 0x4, 512, 0x0, 1, 0x0, 0xc00000ff, 0x0, 0x0, 0x20000000⟩, i.val, 0) := by decide
  have hu : ∀ i : Fin 512, unitAt (BTM_CSEL.reg.adr i.val) = some 11 := by decide
  have hl : ∀ i : Fin 512, ((BTM_CSEL.reg.adr i.val) == unitBase 11 + 4) = false := by decide
  have hb : ∀ i : Fin 512, touchesBasic (BTM_CSEL.reg.adr i.val) = false := by decide
  show Host.Outcome.next (regWrite _ _ s) = _
  rw [regWrite_served s _ _ 11 i.val 0 _ h (hr i) (hu i) (hl i) (hb i)]
  rfl

theorem execBeatSrcWrite_served (s : State) (b : Fin 256) (v : Word) (h : Served s (BTM_BEAT.reg.adr b.val)) :
    exec (.beatSrcWrite b v) s = .next (btmReg 0x601000 b.val (BTM_BEAT.reg.adr b.val) v.toNat s) := by
  have hr : ∀ b : Fin 256, rowAt (BTM_BEAT.reg.adr b.val) = some (⟨0x601000, 0x4, 256, 0x0, 1, 0x0, 0xb00003ff, 0x0, 0x0, 0x0⟩, b.val, 0) := by decide
  have hu : ∀ b : Fin 256, unitAt (BTM_BEAT.reg.adr b.val) = some 11 := by decide
  have hl : ∀ b : Fin 256, ((BTM_BEAT.reg.adr b.val) == unitBase 11 + 4) = false := by decide
  have hb : ∀ b : Fin 256, touchesBasic (BTM_BEAT.reg.adr b.val) = false := by decide
  show Host.Outcome.next (regWrite _ _ s) = _
  rw [regWrite_served s _ _ 11 b.val 0 _ h (hr b) (hu b) (hl b) (hb b)]
  rfl

theorem execCellWrite_served (s : State) (c : Fin 32) (v : Word) (h : Served s (BTM_CELL0.reg.adr c.val)) :
    exec (.cellWrite c v) s = .next (afterBasic 11 (BTM_CELL0.reg.adr c.val) v.toNat (s.rdA (BTM_CELL0.reg.adr c.val)) (btmReg 0x603000 c.val (BTM_CELL0.reg.adr c.val) v.toNat s)) := by
  have hr : ∀ c : Fin 32, rowAt (BTM_CELL0.reg.adr c.val) = some (⟨0x603000, 0x10, 32, 0x0, 1, 0x1, 0xffefffff, 0xef0000, 0x0, 0x0⟩, c.val, 0) := by decide
  have hu : ∀ c : Fin 32, unitAt (BTM_CELL0.reg.adr c.val) = some 11 := by decide
  have hl : ∀ c : Fin 32, ((BTM_CELL0.reg.adr c.val) == unitBase 11 + 4) = false := by decide
  show Host.Outcome.next (regWrite _ _ s) = _
  rw [regWrite_basic s _ _ 11 c.val 0 _ h (hr c) (hu c) (hl c)]
  rfl

theorem execAenaWrite_served (s : State) (v : Word) (h : Served s (OUT_AENA.reg.adr 0)) :
    exec (.aenaWrite v) s = .next (outReg 0x680500 0 (OUT_AENA.reg.adr 0) v.toNat s) := by
  show Host.Outcome.next (regWrite _ _ s) = _
  rw [regWrite_served s _ _ 12 0 0 _ h rfl rfl rfl rfl]
  rfl

theorem execArngWrite_served (s : State) (a : Fin 4) (v : Word) (h : Served s (OUT_ARNG.reg.adr a.val)) :
    exec (.arngWrite a v) s = .next (afterBasic 12 (OUT_ARNG.reg.adr a.val) v.toNat (s.rdA (OUT_ARNG.reg.adr a.val)) (outReg 0x680608 a.val (OUT_ARNG.reg.adr a.val) v.toNat s)) := by
  have hr : ∀ a : Fin 4, rowAt (OUT_ARNG.reg.adr a.val) = some (⟨0x680608, 0x20, 4, 0x0, 1, 0x0, 0x70000, 0x70000, 0x0, 0x0⟩, a.val, 0) := by decide
  have hu : ∀ a : Fin 4, unitAt (OUT_ARNG.reg.adr a.val) = some 12 := by decide
  have hl : ∀ a : Fin 4, ((OUT_ARNG.reg.adr a.val) == unitBase 12 + 4) = false := by decide
  show Host.Outcome.next (regWrite _ _ s) = _
  rw [regWrite_basic s _ _ 12 a.val 0 _ h (hr a) (hu a) (hl a)]
  rfl

theorem execAvalWrite_served (s : State) (a : Fin 4) (v : Word) (h : Served s (OUT_AVAL.reg.adr a.val)) :
    exec (.avalWrite a v) s = .next (outReg 0x680604 a.val (OUT_AVAL.reg.adr a.val) v.toNat s) := by
  have hr : ∀ a : Fin 4, rowAt (OUT_AVAL.reg.adr a.val) = some (⟨0x680604, 0x20, 4, 0x0, 1, 0x0, 0xffff, 0x0, 0x0, 0x0⟩, a.val, 0) := by decide
  have hu : ∀ a : Fin 4, unitAt (OUT_AVAL.reg.adr a.val) = some 12 := by decide
  have hl : ∀ a : Fin 4, ((OUT_AVAL.reg.adr a.val) == unitBase 12 + 4) = false := by decide
  have hb : ∀ a : Fin 4, touchesBasic (OUT_AVAL.reg.adr a.val) = false := by decide
  show Host.Outcome.next (regWrite _ _ s) = _
  rw [regWrite_served s _ _ 12 a.val 0 _ h (hr a) (hu a) (hl a) (hb a)]
  rfl

theorem execQueueEnable_served (s : State) (q : Fin 16384) (h : Served s (QUE_QCMD.reg.adr 0)) :
    exec (.queueEnable q) s = .next (queReg 0x800020 0 (QUE_QCMD.reg.adr 0) (1 * 2 ^ 28 + q.val) s) := by
  show Host.Outcome.next (regWrite _ _ s) = _
  rw [regWrite_served s _ _ 13 0 0 _ h rfl rfl rfl rfl]
  rfl

theorem execQueuePause_served (s : State) (q : Fin 16384) (h : Served s (QUE_QCMD.reg.adr 0)) :
    exec (.queuePause q) s = .next (queReg 0x800020 0 (QUE_QCMD.reg.adr 0) (2 * 2 ^ 28 + q.val) s) := by
  show Host.Outcome.next (regWrite _ _ s) = _
  rw [regWrite_served s _ _ 13 0 0 _ h rfl rfl rfl rfl]
  rfl

theorem execQueueResume_served (s : State) (q : Fin 16384) (h : Served s (QUE_QCMD.reg.adr 0)) :
    exec (.queueResume q) s = .next (queReg 0x800020 0 (QUE_QCMD.reg.adr 0) (3 * 2 ^ 28 + q.val) s) := by
  show Host.Outcome.next (regWrite _ _ s) = _
  rw [regWrite_served s _ _ 13 0 0 _ h rfl rfl rfl rfl]
  rfl

theorem execQueueReset_served (s : State) (q : Fin 16384) (h : Served s (QUE_QCMD.reg.adr 0)) :
    exec (.queueReset q) s = .next (queReg 0x800020 0 (QUE_QCMD.reg.adr 0) (4 * 2 ^ 28 + q.val) s) := by
  show Host.Outcome.next (regWrite _ _ s) = _
  rw [regWrite_served s _ _ 13 0 0 _ h rfl rfl rfl rfl]
  rfl

theorem execQueueMark_served (s : State) (q : Fin 16384) (h : Served s (QUE_QCMD.reg.adr 0)) :
    exec (.queueMark q) s = .next (queReg 0x800020 0 (QUE_QCMD.reg.adr 0) (5 * 2 ^ 28 + q.val) s) := by
  show Host.Outcome.next (regWrite _ _ s) = _
  rw [regWrite_served s _ _ 13 0 0 _ h rfl rfl rfl rfl]
  rfl

theorem execQueBistStart_served (s : State) (h : Served s (QUE_BIST.reg.adr 0)) :
    exec (.queBistStart) s = .next (queReg 0x800080 0 (QUE_BIST.reg.adr 0) (2 ^ 31) s) := by
  show Host.Outcome.next (regWrite _ _ s) = _
  rw [regWrite_served s _ _ 13 0 0 _ h rfl rfl rfl rfl]
  rfl

theorem execVenEnableWrite_served (s : State) (x : Fin 32) (v : Word) (h : Served s (VEN_CCFG.reg.adr x.val)) :
    exec (.venEnableWrite x v) s = .next (afterBasic 15 (VEN_CCFG.reg.adr x.val) v.toNat (s.rdA (VEN_CCFG.reg.adr x.val)) (venReg 0xc81000 x.val (VEN_CCFG.reg.adr x.val) v.toNat s)) := by
  have hr : ∀ x : Fin 32, rowAt (VEN_CCFG.reg.adr x.val) = some (⟨0xc81000, 0x80, 32, 0x0, 1, 0x12000000, 0xfec0ff00, 0xfec0ff00, 0x0, 0x0⟩, x.val, 0) := by decide
  have hu : ∀ x : Fin 32, unitAt (VEN_CCFG.reg.adr x.val) = some 15 := by decide
  have hl : ∀ x : Fin 32, ((VEN_CCFG.reg.adr x.val) == unitBase 15 + 4) = false := by decide
  show Host.Outcome.next (regWrite _ _ s) = _
  rw [regWrite_basic s _ _ 15 x.val 0 _ h (hr x) (hu x) (hl x)]
  rfl

theorem execCoreParkWrite_served (s : State) (c : Fin 8) (v : Word) (h : Served s (VEN_CORECTL.reg.adr c.val)) :
    exec (.coreParkWrite c v) s = .next (venReg 0xc00100 c.val (VEN_CORECTL.reg.adr c.val) v.toNat s) := by
  have hr : ∀ c : Fin 8, rowAt (VEN_CORECTL.reg.adr c.val) = some (⟨0xc00100, 0x10000, 8, 0x0, 1, 0x0, 0x1, 0x0, 0x0, 0x0⟩, c.val, 0) := by decide
  have hu : ∀ c : Fin 8, unitAt (VEN_CORECTL.reg.adr c.val) = some 15 := by decide
  have hl : ∀ c : Fin 8, ((VEN_CORECTL.reg.adr c.val) == unitBase 15 + 4) = false := by decide
  have hb : ∀ c : Fin 8, touchesBasic (VEN_CORECTL.reg.adr c.val) = false := by decide
  show Host.Outcome.next (regWrite _ _ s) = _
  rw [regWrite_served s _ _ 15 c.val 0 _ h (hr c) (hu c) (hl c) (hb c)]
  rfl

theorem execVenRestart_served (s : State) (x : Fin 32) (h : Served s (VEN_CCTL.reg.adr x.val)) :
    exec (.venRestart x) s = .next (venReg 0xc81024 x.val (VEN_CCTL.reg.adr x.val) 2 s) := by
  have hr : ∀ x : Fin 32, rowAt (VEN_CCTL.reg.adr x.val) = some (⟨0xc81024, 0x80, 32, 0x0, 1, 0x0, 0x0, 0x0, 0x0, 0x0⟩, x.val, 0) := by decide
  have hu : ∀ x : Fin 32, unitAt (VEN_CCTL.reg.adr x.val) = some 15 := by decide
  have hl : ∀ x : Fin 32, ((VEN_CCTL.reg.adr x.val) == unitBase 15 + 4) = false := by decide
  have hb : ∀ x : Fin 32, touchesBasic (VEN_CCTL.reg.adr x.val) = false := by decide
  show Host.Outcome.next (regWrite _ _ s) = _
  rw [regWrite_served s _ _ 15 x.val 0 _ h (hr x) (hu x) (hl x) (hb x)]
  rfl

theorem execDrlCfgWrite_served (s : State) (v : Word) (h : Served s (DRL_CFG.reg.adr 0)) :
    exec (.drlCfgWrite v) s = .next (afterBasic 16 (DRL_CFG.reg.adr 0) v.toNat (s.rdA (DRL_CFG.reg.adr 0)) (drlCfgWrite v.toNat s)) := by
  show Host.Outcome.next (regWrite _ _ s) = _
  rw [regWrite_basic s _ _ 16 0 0 _ h rfl rfl rfl]
  rfl

theorem execTxctlGo_served (s : State) (v : Word) (h : Served s (BWR_TXCTL.reg.adr 0)) :
    exec (.txctlGo v) s = .next (bwrReg 0xe80300 (BWR_TXCTL.reg.adr 0) (v.toNat ||| 1073741824) s) := by
  show Host.Outcome.next (regWrite _ _ s) = _
  rw [regWrite_served s _ _ 17 0 0 _ h rfl rfl rfl rfl]
  rfl

theorem execRxPop_served (s : State) (v : Word) (h : Served s (BWR_RXPOP.reg.adr 0)) :
    exec (.rxPop v) s = .next (bwrReg 0xe80320 (BWR_RXPOP.reg.adr 0) v.toNat s) := by
  show Host.Outcome.next (regWrite _ _ s) = _
  rw [regWrite_served s _ _ 17 0 0 _ h rfl rfl rfl rfl]
  rfl

theorem execBwrCfgWrite_served (s : State) (v : Word) (h : Served s (BWR_CFG.reg.adr 0)) :
    exec (.bwrCfgWrite v) s = .next (afterBasic 17 (BWR_CFG.reg.adr 0) v.toNat (s.rdA (BWR_CFG.reg.adr 0)) (bwrReg 0xe80100 (BWR_CFG.reg.adr 0) v.toNat s)) := by
  show Host.Outcome.next (regWrite _ _ s) = _
  rw [regWrite_basic s _ _ 17 0 0 _ h rfl rfl rfl]
  rfl

theorem execErrRcntWrite_served (s : State) (v : Word) (h : Served s (ERR_RCNT.reg.adr 0)) :
    exec (.errRcntWrite v) s = .next (rcntWrite v.toNat s) := by
  show Host.Outcome.next (regWrite _ _ s) = _
  rw [regWrite_served s _ _ 18 0 0 _ h rfl rfl rfl rfl]
  rfl

/-! ### Large tables -/

/-- A row that no index brings to `a` does not hold `a`. -/
theorem find_none {r : RegRow} {a : Nat} (h : ∀ i j, i < r.n1 → j < r.n2 → r.base + r.s1 * i + r.s2 * j ≠ a) :
    r.find a = none := by
  unfold RegRow.find
  by_cases ha : a < r.base
  · rw [if_pos ha]
  · rw [if_neg ha]
    dsimp only
    rw [if_neg]
    intro hc
    simp only [Bool.and_eq_true, decide_eq_true_eq, beq_iff_eq] at hc
    exact h _ _ hc.1.1 hc.1.2 hc.2

/-- A row that does not hold `a` is passed over. -/
theorem findRow_skip {r : RegRow} {t : List RegRow} {a : Nat}
    (h : ∀ i j, i < r.n1 → j < r.n2 → r.base + r.s1 * i + r.s2 * j ≠ a) : findRow (r :: t) a = findRow t a := by
  simp [findRow, find_none h]

/-- A row that holds `a` is the answer. -/
theorem findRow_hit {r : RegRow} {t : List RegRow} {a i j : Nat} (h : r.find a = some (i, j)) :
    findRow (r :: t) a = some (r, i, j) := by
  simp [findRow, h]

/-- Where `PIX_TBL0` lies. -/
theorem rowAt_tbl0 (q k : Nat) (hq : q < 4) (hk : k < 4096) :
    rowAt (0x410000 + 0x40000 * q + 0x4 * k) = some (⟨0x410000, 0x40000, 4, 0x4, 4096, 0xffffffff, 0xffffffff, 0x0, 0x0, 0x0⟩, q, k) := by
  have hu : unitAt (0x410000 + 0x40000 * q + 0x4 * k) = some 8 := by
    unfold unitAt
    rw [if_neg (by omega), if_neg (by omega), if_neg (by omega), if_neg (by omega), if_neg (by omega), if_neg (by omega),
      if_neg (by omega), if_neg (by omega), if_pos (by omega)]
  simp only [rowAt, hu, unitRows]
  show findRow (rowsPIX0 ++ rowsPIX1) _ = _
  unfold rowsPIX0 rowsPIX1
  simp only [List.cons_append, List.nil_append]
  repeat rw [findRow_skip (by intro i j hi hj; simp only at hi hj ⊢; omega)]
  apply findRow_hit
  simp only [RegRow.find]
  rw [if_neg (by omega)]
  have h1 : (0x410000 + 0x40000 * q + 0x4 * k - 0x410000) / 0x40000 = q := by omega
  have h2 : (0x410000 + 0x40000 * q + 0x4 * k - 0x410000 - q * 0x40000) / 0x4 = k := by omega
  simp [h1, h2, hq, hk]


/-- Where `PIX_TBL1` lies. -/
theorem rowAt_tbl1 (q k : Nat) (hq : q < 4) (hk : k < 4356) :
    rowAt (0x418000 + 0x40000 * q + 0x4 * k) = some (⟨0x418000, 0x40000, 4, 0x4, 4356, 0x1000, 0xffff, 0x0, 0x0, 0x0⟩, q, k) := by
  have hu : unitAt (0x418000 + 0x40000 * q + 0x4 * k) = some 8 := by
    unfold unitAt
    rw [if_neg (by omega), if_neg (by omega), if_neg (by omega), if_neg (by omega), if_neg (by omega), if_neg (by omega),
      if_neg (by omega), if_neg (by omega), if_pos (by omega)]
  simp only [rowAt, hu, unitRows]
  show findRow (rowsPIX0 ++ rowsPIX1) _ = _
  unfold rowsPIX0 rowsPIX1
  simp only [List.cons_append, List.nil_append]
  repeat rw [findRow_skip (by intro i j hi hj; simp only at hi hj ⊢; omega)]
  apply findRow_hit
  simp only [RegRow.find]
  rw [if_neg (by omega)]
  have h1 : (0x418000 + 0x40000 * q + 0x4 * k - 0x418000) / 0x40000 = q := by omega
  have h2 : (0x418000 + 0x40000 * q + 0x4 * k - 0x418000 - q * 0x40000) / 0x4 = k := by omega
  simp [h1, h2, hq, hk]


/-- Where `QUE_CTX0` lies. -/
theorem rowAt_ctx0 (q : Nat) (hq : q < 16384) :
    rowAt (0x900000 + 0x40 * q) = some (⟨0x900000, 0x40, 16384, 0x0, 1, 0x0, 0xffffffff, 0x0, 0x0, 0x0⟩, q, 0) := by
  have hu : unitAt (0x900000 + 0x40 * q) = some 13 := by
    unfold unitAt
    rw [if_neg (by omega), if_neg (by omega), if_neg (by omega), if_neg (by omega), if_neg (by omega), if_neg (by omega),
      if_neg (by omega), if_neg (by omega), if_neg (by omega), if_neg (by omega), if_neg (by omega), if_neg (by omega), if_neg (by omega), if_pos (by omega)]
  simp only [rowAt, hu, unitRows]
  show findRow (rowsQUE0 ++ rowsQUE1) _ = _
  unfold rowsQUE0 rowsQUE1
  simp only [List.cons_append, List.nil_append]
  repeat rw [findRow_skip (by intro i j hi hj; simp only at hi hj ⊢; omega)]
  apply findRow_hit
  simp only [RegRow.find]
  rw [if_neg (by omega)]
  have h1 : (0x900000 + 0x40 * q - 0x900000) / 0x40 = q := by omega
  simp [hq]


/-- The addresses of `PIX`. -/
theorem unitAt_pix (a : Nat) (h1 : 0x400000 ≤ a) (h2 : a < 0x500000) : unitAt a = some 8 := by
  unfold unitAt
  rw [if_neg (by omega), if_neg (by omega), if_neg (by omega), if_neg (by omega), if_neg (by omega), if_neg (by omega),
    if_neg (by omega), if_neg (by omega), if_pos (by omega)]

theorem execPixTableWrite_served (s : State) (p : Fin 4) (tbl : Fin 2) (k : BitVec 16) (v : Word)
    (hk : k.toNat < if tbl.val = 0 then 4096 else 4356)
    (h : Served s (if tbl.val = 0 then PIX_TBL0.reg.adr p.val k.toNat else PIX_TBL1.reg.adr p.val k.toNat)) :
    exec (.pixTableWrite p tbl k v) s = .next (pixTableWrite p.val tbl.val k.toNat v.toNat s) := by
  have hp := p.isLt
  show Host.Outcome.next (regWrite _ _ s) = _
  by_cases ht : tbl.val = 0
  · rw [if_pos ht] at hk h
    have hr := rowAt_tbl0 p.val k.toNat hp hk
    have hm : k.toNat % 8192 = k.toNat := Nat.mod_eq_of_lt (by omega)
    have hl : (PIX_TBL0.reg.adr p.val k.toNat == unitBase 8 + 4) = false := by
      simp only [Fld.adr, PIX_TBL0.reg, unitBase, beq_eq_false_iff_ne]; omega
    have hu : unitAt (PIX_TBL0.reg.adr p.val k.toNat) = some 8 := unitAt_pix _ (by simp only [Fld.adr, PIX_TBL0.reg]; omega) (by simp only [Fld.adr, PIX_TBL0.reg]; omega)
    have hb : touchesBasic (PIX_TBL0.reg.adr p.val k.toNat) = false := by unfold touchesBasic; erw [hr]; rfl
    simp only [ht, hm, beq_self_eq_true, if_true]
    rw [regWrite_served s _ _ 8 p.val k.toNat _ h hr hu hl hb]
    rfl
  · rw [if_neg ht] at hk h
    have h1 : tbl.val = 1 := by omega
    have hr := rowAt_tbl1 p.val k.toNat hp hk
    have hm : k.toNat % 8192 = k.toNat := Nat.mod_eq_of_lt (by omega)
    have hl : (PIX_TBL1.reg.adr p.val k.toNat == unitBase 8 + 4) = false := by
      simp only [Fld.adr, PIX_TBL1.reg, unitBase, beq_eq_false_iff_ne]; omega
    have hu : unitAt (PIX_TBL1.reg.adr p.val k.toNat) = some 8 := unitAt_pix _ (by simp only [Fld.adr, PIX_TBL1.reg]; omega) (by simp only [Fld.adr, PIX_TBL1.reg]; omega)
    have hb : touchesBasic (PIX_TBL1.reg.adr p.val k.toNat) = false := by unfold touchesBasic; erw [hr]; rfl
    simp only [h1, hm, show ((1 : Nat) == 0) = false from rfl, Bool.false_eq_true, if_false]
    rw [regWrite_served s _ _ 8 p.val k.toNat _ h hr hu hl hb]
    rfl

/-- The addresses of `QUE`. -/
theorem unitAt_que (a : Nat) (h1 : 0x800000 ≤ a) (h2 : a < 0xA00000) : unitAt a = some 13 := by
  unfold unitAt
  rw [if_neg (by omega), if_neg (by omega), if_neg (by omega), if_neg (by omega), if_neg (by omega), if_neg (by omega),
    if_neg (by omega), if_neg (by omega), if_neg (by omega), if_neg (by omega), if_neg (by omega), if_neg (by omega),
    if_neg (by omega), if_pos (by omega)]

/-- Where `QUE_CTX1` lies. -/
theorem rowAt_ctx1 (q : Nat) (hq : q < 16384) :
    rowAt (0x900004 + 0x40 * q) = some (⟨0x900004, 0x40, 16384, 0x0, 1, 0x0, 0xffffffff, 0x0, 0x0, 0x0⟩, q, 0) := by
  have hu := unitAt_que (0x900004 + 0x40 * q) (by omega) (by omega)
  simp only [rowAt, hu, unitRows]
  show findRow (rowsQUE0 ++ rowsQUE1) _ = _
  unfold rowsQUE0 rowsQUE1
  simp only [List.cons_append, List.nil_append]
  repeat rw [findRow_skip (by intro i j hi hj; simp only at hi hj ⊢; omega)]
  apply findRow_hit
  simp only [RegRow.find]
  rw [if_neg (by omega)]
  have h1 : (0x900004 + 0x40 * q - 0x900004) / 0x40 = q := by omega
  simp [hq]

/-- Where `QUE_CTX2` lies. -/
theorem rowAt_ctx2 (q : Nat) (hq : q < 16384) :
    rowAt (0x900008 + 0x40 * q) = some (⟨0x900008, 0x40, 16384, 0x0, 1, 0x0, 0xffffffff, 0x0, 0x0, 0x0⟩, q, 0) := by
  have hu := unitAt_que (0x900008 + 0x40 * q) (by omega) (by omega)
  simp only [rowAt, hu, unitRows]
  show findRow (rowsQUE0 ++ rowsQUE1) _ = _
  unfold rowsQUE0 rowsQUE1
  simp only [List.cons_append, List.nil_append]
  repeat rw [findRow_skip (by intro i j hi hj; simp only at hi hj ⊢; omega)]
  apply findRow_hit
  simp only [RegRow.find]
  rw [if_neg (by omega)]
  have h1 : (0x900008 + 0x40 * q - 0x900008) / 0x40 = q := by omega
  simp [hq]

/-- Where `QUE_CTX3` lies. -/
theorem rowAt_ctx3 (q : Nat) (hq : q < 16384) :
    rowAt (0x90000c + 0x40 * q) = some (⟨0x90000c, 0x40, 16384, 0x0, 1, 0x0, 0xffffffff, 0x0, 0x0, 0x0⟩, q, 0) := by
  have hu := unitAt_que (0x90000c + 0x40 * q) (by omega) (by omega)
  simp only [rowAt, hu, unitRows]
  show findRow (rowsQUE0 ++ rowsQUE1) _ = _
  unfold rowsQUE0 rowsQUE1
  simp only [List.cons_append, List.nil_append]
  repeat rw [findRow_skip (by intro i j hi hj; simp only at hi hj ⊢; omega)]
  apply findRow_hit
  simp only [RegRow.find]
  rw [if_neg (by omega)]
  have h1 : (0x90000c + 0x40 * q - 0x90000c) / 0x40 = q := by omega
  simp [hq]

/-- Where `QUE_CTX4` lies. -/
theorem rowAt_ctx4 (q : Nat) (hq : q < 16384) :
    rowAt (0x900010 + 0x40 * q) = some (⟨0x900010, 0x40, 16384, 0x0, 1, 0x0, 0xffe007ff, 0x0, 0x0, 0x0⟩, q, 0) := by
  have hu := unitAt_que (0x900010 + 0x40 * q) (by omega) (by omega)
  simp only [rowAt, hu, unitRows]
  show findRow (rowsQUE0 ++ rowsQUE1) _ = _
  unfold rowsQUE0 rowsQUE1
  simp only [List.cons_append, List.nil_append]
  repeat rw [findRow_skip (by intro i j hi hj; simp only at hi hj ⊢; omega)]
  apply findRow_hit
  simp only [RegRow.find]
  rw [if_neg (by omega)]
  have h1 : (0x900010 + 0x40 * q - 0x900010) / 0x40 = q := by omega
  simp [hq]

/-- Where `QUE_CTX5` lies. -/
theorem rowAt_ctx5 (q : Nat) (hq : q < 16384) :
    rowAt (0x900014 + 0x40 * q) = some (⟨0x900014, 0x40, 16384, 0x0, 1, 0x1000000, 0xff00ffff, 0x0, 0x0, 0x0⟩, q, 0) := by
  have hu := unitAt_que (0x900014 + 0x40 * q) (by omega) (by omega)
  simp only [rowAt, hu, unitRows]
  show findRow (rowsQUE0 ++ rowsQUE1) _ = _
  unfold rowsQUE0 rowsQUE1
  simp only [List.cons_append, List.nil_append]
  repeat rw [findRow_skip (by intro i j hi hj; simp only at hi hj ⊢; omega)]
  apply findRow_hit
  simp only [RegRow.find]
  rw [if_neg (by omega)]
  have h1 : (0x900014 + 0x40 * q - 0x900014) / 0x40 = q := by omega
  simp [hq]

theorem execQueCtxWrite_served (s : State) (q : Fin 16384) (w : Fin 6) (v : Word)
    (h : Served s (QUE_CTX0.reg.adr q.val + 4 * w.val)) :
    exec (.queCtxWrite q w v) s = .next (ctxWrite q.val w.val v.toNat s) := by
  have hq := q.isLt
  have hw := w.isLt
  show Host.Outcome.next (regWrite _ _ s) = _
  have hw6 : w.val = 0 ∨ w.val = 1 ∨ w.val = 2 ∨ w.val = 3 ∨ w.val = 4 ∨ w.val = 5 := by omega
  have ha : QUE_CTX0.reg.adr q.val + 4 * w.val = 0x900000 + 4 * w.val + 0x40 * q.val := by
    simp only [Fld.adr, QUE_CTX0.reg]; omega
  have hu := unitAt_que (0x900000 + 4 * w.val + 0x40 * q.val) (by omega) (by omega)
  have hl : (0x900000 + 4 * w.val + 0x40 * q.val == unitBase 13 + 4) = false := by
    simp only [unitBase, beq_eq_false_iff_ne]; omega
  rw [ha] at h ⊢
  rcases hw6 with e | e | e | e | e | e <;> rw [e] at h hu hl ⊢ <;>
    simp only [Nat.mul_zero, Nat.mul_one, Nat.add_zero, Nat.reduceMul, Nat.reduceAdd] at h hu hl ⊢
  · have hr := rowAt_ctx0 q.val hq
    rw [regWrite_served s _ _ 13 q.val 0 _ h hr hu hl (by unfold touchesBasic; rw [hr]; rfl)]
    rfl
  · have hr := rowAt_ctx1 q.val hq
    rw [regWrite_served s _ _ 13 q.val 0 _ h hr hu hl (by unfold touchesBasic; rw [hr]; rfl)]
    rfl
  · have hr := rowAt_ctx2 q.val hq
    rw [regWrite_served s _ _ 13 q.val 0 _ h hr hu hl (by unfold touchesBasic; rw [hr]; rfl)]
    rfl
  · have hr := rowAt_ctx3 q.val hq
    rw [regWrite_served s _ _ 13 q.val 0 _ h hr hu hl (by unfold touchesBasic; rw [hr]; rfl)]
    rfl
  · have hr := rowAt_ctx4 q.val hq
    rw [regWrite_served s _ _ 13 q.val 0 _ h hr hu hl (by unfold touchesBasic; rw [hr]; rfl)]
    rfl
  · have hr := rowAt_ctx5 q.val hq
    rw [regWrite_served s _ _ 13 q.val 0 _ h hr hu hl (by unfold touchesBasic; rw [hr]; rfl)]
    rfl

/-- Where `QUE_SMAP0` lies. -/
theorem rowAt_smap0 (q : Nat) (hq : q < 64) :
    rowAt (0x801000 + 0x20 * q) = some (⟨0x801000, 0x20, 64, 0x0, 1, 0x0, 0xc7003fff, 0x0, 0x0, 0x0⟩, q, 0) := by
  have hu := unitAt_que (0x801000 + 0x20 * q) (by omega) (by omega)
  simp only [rowAt, hu, unitRows]
  show findRow (rowsQUE0 ++ rowsQUE1) _ = _
  unfold rowsQUE0 rowsQUE1
  simp only [List.cons_append, List.nil_append]
  repeat rw [findRow_skip (by intro i j hi hj; simp only at hi hj ⊢; omega)]
  apply findRow_hit
  simp only [RegRow.find]
  rw [if_neg (by omega)]
  have h1 : (0x801000 + 0x20 * q - 0x801000) / 0x20 = q := by omega
  simp [hq]

/-- Where `QUE_SMAP1` lies. -/
theorem rowAt_smap1 (q : Nat) (hq : q < 64) :
    rowAt (0x801004 + 0x20 * q) = some (⟨0x801004, 0x20, 64, 0x0, 1, 0x0, 0xc7003fff, 0x0, 0x0, 0x0⟩, q, 0) := by
  have hu := unitAt_que (0x801004 + 0x20 * q) (by omega) (by omega)
  simp only [rowAt, hu, unitRows]
  show findRow (rowsQUE0 ++ rowsQUE1) _ = _
  unfold rowsQUE0 rowsQUE1
  simp only [List.cons_append, List.nil_append]
  repeat rw [findRow_skip (by intro i j hi hj; simp only at hi hj ⊢; omega)]
  apply findRow_hit
  simp only [RegRow.find]
  rw [if_neg (by omega)]
  have h1 : (0x801004 + 0x20 * q - 0x801004) / 0x20 = q := by omega
  simp [hq]

/-- Where `QUE_SMAP2` lies. -/
theorem rowAt_smap2 (q : Nat) (hq : q < 64) :
    rowAt (0x801008 + 0x20 * q) = some (⟨0x801008, 0x20, 64, 0x0, 1, 0x0, 0xc7003fff, 0x0, 0x0, 0x0⟩, q, 0) := by
  have hu := unitAt_que (0x801008 + 0x20 * q) (by omega) (by omega)
  simp only [rowAt, hu, unitRows]
  show findRow (rowsQUE0 ++ rowsQUE1) _ = _
  unfold rowsQUE0 rowsQUE1
  simp only [List.cons_append, List.nil_append]
  repeat rw [findRow_skip (by intro i j hi hj; simp only at hi hj ⊢; omega)]
  apply findRow_hit
  simp only [RegRow.find]
  rw [if_neg (by omega)]
  have h1 : (0x801008 + 0x20 * q - 0x801008) / 0x20 = q := by omega
  simp [hq]

/-- Where `QUE_SMAP3` lies. -/
theorem rowAt_smap3 (q : Nat) (hq : q < 64) :
    rowAt (0x80100c + 0x20 * q) = some (⟨0x80100c, 0x20, 64, 0x0, 1, 0x0, 0xc7003fff, 0x0, 0x0, 0x0⟩, q, 0) := by
  have hu := unitAt_que (0x80100c + 0x20 * q) (by omega) (by omega)
  simp only [rowAt, hu, unitRows]
  show findRow (rowsQUE0 ++ rowsQUE1) _ = _
  unfold rowsQUE0 rowsQUE1
  simp only [List.cons_append, List.nil_append]
  repeat rw [findRow_skip (by intro i j hi hj; simp only at hi hj ⊢; omega)]
  apply findRow_hit
  simp only [RegRow.find]
  rw [if_neg (by omega)]
  have h1 : (0x80100c + 0x20 * q - 0x80100c) / 0x20 = q := by omega
  simp [hq]

/-- Where `QUE_SMAP4` lies. -/
theorem rowAt_smap4 (q : Nat) (hq : q < 64) :
    rowAt (0x801010 + 0x20 * q) = some (⟨0x801010, 0x20, 64, 0x0, 1, 0x0, 0xc7003fff, 0x0, 0x0, 0x0⟩, q, 0) := by
  have hu := unitAt_que (0x801010 + 0x20 * q) (by omega) (by omega)
  simp only [rowAt, hu, unitRows]
  show findRow (rowsQUE0 ++ rowsQUE1) _ = _
  unfold rowsQUE0 rowsQUE1
  simp only [List.cons_append, List.nil_append]
  repeat rw [findRow_skip (by intro i j hi hj; simp only at hi hj ⊢; omega)]
  apply findRow_hit
  simp only [RegRow.find]
  rw [if_neg (by omega)]
  have h1 : (0x801010 + 0x20 * q - 0x801010) / 0x20 = q := by omega
  simp [hq]

/-- Where `QUE_SMAP5` lies. -/
theorem rowAt_smap5 (q : Nat) (hq : q < 64) :
    rowAt (0x801014 + 0x20 * q) = some (⟨0x801014, 0x20, 64, 0x0, 1, 0x0, 0xc7003fff, 0x0, 0x0, 0x0⟩, q, 0) := by
  have hu := unitAt_que (0x801014 + 0x20 * q) (by omega) (by omega)
  simp only [rowAt, hu, unitRows]
  show findRow (rowsQUE0 ++ rowsQUE1) _ = _
  unfold rowsQUE0 rowsQUE1
  simp only [List.cons_append, List.nil_append]
  repeat rw [findRow_skip (by intro i j hi hj; simp only at hi hj ⊢; omega)]
  apply findRow_hit
  simp only [RegRow.find]
  rw [if_neg (by omega)]
  have h1 : (0x801014 + 0x20 * q - 0x801014) / 0x20 = q := by omega
  simp [hq]

/-- Where `QUE_VMAP` lies. -/
theorem rowAt_vmap (q : Nat) (hq : q < 32) :
    rowAt (0x801800 + 0x4 * q) = some (⟨0x801800, 0x4, 32, 0x0, 1, 0x0, 0xc7003fff, 0x0, 0x0, 0x0⟩, q, 0) := by
  have hu := unitAt_que (0x801800 + 0x4 * q) (by omega) (by omega)
  simp only [rowAt, hu, unitRows]
  show findRow (rowsQUE0 ++ rowsQUE1) _ = _
  unfold rowsQUE0 rowsQUE1
  simp only [List.cons_append, List.nil_append]
  repeat rw [findRow_skip (by intro i j hi hj; simp only at hi hj ⊢; omega)]
  apply findRow_hit
  simp only [RegRow.find]
  rw [if_neg (by omega)]
  have h1 : (0x801800 + 0x4 * q - 0x801800) / 0x4 = q := by omega
  simp [hq]

/-- What stands at a queue map entry. -/
theorem mapWrite_served (s : State) (a v : Nat) (i : Nat) (r : RegRow) (h : Served s a) (hr : rowAt a = some (r, i, 0))
    (h1 : 0x801000 ≤ a) (h2 : a < 0x801880) (hb : r.rwb = 0) (hf : ∀ s : State, unitReg 13 r.base i 0 a v s = mapWrite a v s) :
    regWrite a v s = mapWrite a v s := by
  have hu := unitAt_que a (by omega) (by omega)
  have hl : (a == unitBase 13 + 4) = false := by
    simp only [unitBase, beq_eq_false_iff_ne]; omega
  rw [regWrite_served s a v 13 i 0 r h hr hu hl (by simp [touchesBasic, hr, hb]), hf]

theorem execQueMapWrite_served (s : State) (venc : Bool) (st : Fin 64) (r : Fin 6) (v : Word)
    (h : Served s (if venc then 0x801800 + 4 * (st.val % 32) else 0x801000 + 0x20 * st.val + 4 * r.val)) :
    exec (.queMapWrite venc st r v) s = .next (mapWrite
      (if venc then 0x801800 + 4 * (st.val % 32) else 0x801000 + 0x20 * st.val + 4 * r.val) v.toNat s) := by
  have hst := st.isLt
  have hr := r.isLt
  show Host.Outcome.next (regWrite _ _ s) = _
  cases venc
  · simp only [Bool.false_eq_true, if_false] at h ⊢
    have hr6 : r.val = 0 ∨ r.val = 1 ∨ r.val = 2 ∨ r.val = 3 ∨ r.val = 4 ∨ r.val = 5 := by omega
    have ha : 0x801000 + 0x20 * st.val + 4 * r.val = 0x801000 + 4 * r.val + 0x20 * st.val := by omega
    rw [ha] at h ⊢
    have hf : ∀ (b : Nat) (s : State), (b = 0x801000 ∨ b = 0x801004 ∨ b = 0x801008 ∨ b = 0x80100c ∨ b = 0x801010 ∨ b = 0x801014) →
        unitReg 13 b st.val 0 (0x801000 + 4 * r.val + 0x20 * st.val) v.toNat s =
        mapWrite (0x801000 + 4 * r.val + 0x20 * st.val) v.toNat s := by
      intro b s hb
      have hw : within (0x801000 + 4 * r.val + 0x20 * st.val) 0x801000 0x801880 = true := by
        simp [within]; omega
      rcases hb with rfl | rfl | rfl | rfl | rfl | rfl <;> simp [unitReg, queReg, hw]
    congr 1
    rcases hr6 with e | e | e | e | e | e <;> rw [e] at h hf ⊢ <;>
      simp only [Nat.mul_zero, Nat.mul_one, Nat.add_zero, Nat.reduceMul, Nat.reduceAdd] at h hf ⊢
    · exact mapWrite_served s _ _ _ _ h (rowAt_smap0 _ hst) (by omega) (by omega) rfl (fun s => hf _ s (by simp))
    · exact mapWrite_served s _ _ _ _ h (rowAt_smap1 _ hst) (by omega) (by omega) rfl (fun s => hf _ s (by simp))
    · exact mapWrite_served s _ _ _ _ h (rowAt_smap2 _ hst) (by omega) (by omega) rfl (fun s => hf _ s (by simp))
    · exact mapWrite_served s _ _ _ _ h (rowAt_smap3 _ hst) (by omega) (by omega) rfl (fun s => hf _ s (by simp))
    · exact mapWrite_served s _ _ _ _ h (rowAt_smap4 _ hst) (by omega) (by omega) rfl (fun s => hf _ s (by simp))
    · exact mapWrite_served s _ _ _ _ h (rowAt_smap5 _ hst) (by omega) (by omega) rfl (fun s => hf _ s (by simp))
  · simp only [if_true] at h ⊢
    have hq : st.val % 32 < 32 := Nat.mod_lt _ (by omega)
    have hw : within (0x801800 + 4 * (st.val % 32)) 0x801000 0x801880 = true := by
      simp [within]; omega
    congr 1
    exact mapWrite_served s _ _ _ _ h (rowAt_vmap _ hq) (by omega) (by omega) rfl
      (fun s => by simp [unitReg, queReg, hw])

theorem execDoorbellWrite_served (s : State) (q : Fin 16384) (v : Word) (h : DoorbellServed s) :
    exec (.doorbellWrite q v) s = .next (doorbell q.val v.toNat s) := by
  obtain ⟨h1, h2, h3⟩ := h
  have hq := q.isLt
  show Host.Outcome.next (barWrite true (64 * q.val) [(v.toNat, 15)] false s) = _
  have e1 : 64 * q.val / 4 * 4 = 64 * q.val := by omega
  have e2 : 64 * q.val < 0x100000 := by omega
  have e3 : 64 * q.val % 64 = 0 := by omega
  have e4 : 64 * q.val / 64 = q.val := by omega
  simp only [barWrite, h1, bar2Burst, bar2Dword, bar2Gate, h2, h3, e1, e3, e4, if_pos e2]
  rfl

theorem execMsixUnmask_served (s : State) (v : Fin 2048) (h : hostOpen s = true) :
    exec (.msixUnmask v) s = .next (msixWrite v.val 3 0 s) := by
  have hv := v.isLt
  show Host.Outcome.next (barWrite true (0x80000C + 16 * v.val) [(0, 15)] false s) = _
  have e1 : (0x80000C + 16 * v.val) / 4 * 4 = 0x80000C + 16 * v.val := by omega
  have e2 : ¬ (0x80000C + 16 * v.val < 0x100000) := by omega
  have e3 : within (0x80000C + 16 * v.val) 0x800000 0x808000 = true := by simp [within]; omega
  have e4 : (0x80000C + 16 * v.val - 0x800000) / 16 = v.val := by omega
  have e5 : (0x80000C + 16 * v.val) / 4 % 4 = 3 := by omega
  simp only [barWrite, h, bar2Burst, bar2Dword, e1, e3, e4, e5, if_neg e2]
  rfl

end Sys2Proof.Machine
end

