-- ==== Sys2Proof/WellFormed.lean ====
section
/-! DEFINITION. Which commands the outside can send: the lengths and alignments that a link or a bus itself guarantees. The
meanings do not rest on it: `exec` answers on any command. -/

namespace Sys2Proof

/-- A camera packet has a header, a payload of whole words and a CRC (R266). -/
def packetWf (p : List Byte) : Bool := 12 ≤ p.length && p.length ≤ 4108 && p.length % 4 == 0

/-- An Ethernet frame at a ring port has at least 60 octets and its FCS (R607). -/
def frameWf (f : List Byte) : Bool := 64 ≤ f.length

/-- A Bellwire frame has its header, at most 16 data bytes and a CRC (R637). -/
def busWf (f : List Byte) : Bool := 3 ≤ f.length

/-- A memory write of the host carries whole dwords, at most the largest Max_Payload_Size of them (R548). -/
def burstWf (a n : Nat) : Bool := a % 4 == 0 && 1 ≤ n && n ≤ 128

/-- Whether command `i` is well formed. -/
def Instr.wf (i : Instr) : Bool :=
  match i with
  | .porAssert => true
  | .porRelease _ _ => true
  | .domainResetRelease _ _ => true
  | .supplyDip => true
  | .supplyReturn _ _ => true
  | .rstAssert => true
  | .cfgWarmWrite _ => true
  | .perstAssert => true
  | .perstRelease => true
  | .configRequest _ _ => true
  | .fieldLinkLoss => true
  | .fieldLinkReturn => true
  | .trefRetry _ _ => true
  | .pll1LockTimeout => true
  | .vencenWrite _ => true
  | .clkPllWrite _ _ => true
  | .trefLost => true
  | .trefRestored => true
  | .pll1SteerDone => true
  | .sysrefLoss => true
  | .corePllUnlock => true
  | .internalRestart => true
  | .refClockLost _ => true
  | .vencPllUnlock => true
  | .timePllUnlock => true
  | .timeLockTimeout => true
  | .clkRstWrite _ => true
  | .unitReset _ => true
  | .unitResetDone _ => true
  | .loaderFuseDone => true
  | .loaderHeaderDone hdr => hdr.length == 256
  | .loaderVerifyDone _ => true
  | .loaderClocksLocked => true
  | .loaderClocksTimeout => true
  | .recordNop _ _ => true
  | .recordRegwrite _ addr _ _ => addr.toNat % 4 == 0
  | .recordRegblock _ addr data => addr.toNat % 4 == 0 && data != []
  | .recordBasic _ _ _ pairs => pairs.all (fun e => e.1.toNat % 4 == 0)
  | .recordTable _ _ _ _ _ _ => true
  | .recordWait _ => true
  | .waitExpiry => true
  | .recordPoll _ addr _ _ _ => addr.toNat % 4 == 0
  | .pollRetry => true
  | .pollTimeout => true
  | .loaderApplyDone _ => true
  | .ringPortRelease => true
  | .loaderEnter => true
  | .cfgFspeedWrite _ => true
  | .flashUnlock _ => true
  | .flashRead => true
  | .flashProgram => true
  | .flashErase4k => true
  | .flashErase64k => true
  | .flashVerifya => true
  | .flashVerifyb => true
  | .flashReload => true
  | .flashFloor _ => true
  | .flashKeyhash _ => true
  | .flashCmdDone _ _ => true
  | .modeRequestWrite _ => true
  | .drainComplete => true
  | .drainTimeout => true
  | .drainForce _ => true
  | .modeEnterDone => true
  | .registerWrite _ addr data _ => burstWf addr.toNat data.length
  | .basicWrite addr _ => addr.toNat % 4 == 0
  | .rederiveDone _ => true
  | .expertSet _ => true
  | .expertClear _ => true
  | .timSecRead => true
  | .stepGo _ => true
  | .freqLoadGo _ => true
  | .stepApply => true
  | .freqLoadApply => true
  | .timeRearm _ => true
  | .adjWrite _ => true
  | .rateSlewStep => true
  | .compareFire _ => true
  | .captureSecRead _ => true
  | .ppsSecond => true
  | .ppsOutEnd => true
  | .ppsInEdge _ _ => true
  | .ppsInTimeout => true
  | .syncReceived _ f _ => frameWf f
  | .followUpReceived _ f => frameWf f
  | .delayReqReceived _ f _ => frameWf f
  | .delayRespReceived _ f => frameWf f
  | .pdelayReqReceived _ f _ _ => frameWf f
  | .pdelayRespReceived _ f _ _ => frameWf f
  | .announceReceived _ f => frameWf f
  | .foreignMasterTimeout _ => true
  | .syncInterval _ _ => true
  | .announceInterval => true
  | .delayReqInterval _ => true
  | .pdelayInterval _ _ => true
  | .syncTimeout => true
  | .holdoverTrustExpiry => true
  | .timConfigApply => true
  | .rawPop => true
  | .trainReceived _ _ _ _ => true
  | .blockLockLost _ _ => true
  | .ebSlip _ _ _ => true
  | .trainTimeout _ _ => true
  | .rateSwitchDone _ => true
  | .presetTrialDone _ _ _ _ _ _ => true
  | .backoffEnd _ => true
  | .backoffEarlyExit _ => true
  | .lpiReceived _ _ _ => true
  | .quietIdleTimeout _ => true
  | .deepRequest _ _ => true
  | .wakeRequest _ _ => true
  | .wakeEnergy _ => true
  | .marginMeasure _ _ _ => true
  | .marginRebase _ _ => true
  | .sweepStart _ _ => true
  | .sweepAbort _ _ => true
  | .sweepDone _ _ => true
  | .esdataRead _ => true
  | .loopbackWrite _ _ => true
  | .injectHdr _ => true
  | .injectBit _ => true
  | .injectType2 _ => true
  | .injectTraincrc _ => true
  | .injectSkipgap _ => true
  | .ratemaxWrite _ _ => true
  | .retrain _ _ => true
  | .txfirWrite _ _ => true
  | .alignReceived _ row => row.all (fun b => b.bytes.length == 8)
  | .groupFormTimeout _ => true
  | .ackReceived _ p => packetWf p
  | .nakReceived _ p => packetWf p
  | .busyReplayWait _ => true
  | .replayTimeout _ => true
  | .discoveryTimeout _ => true
  | .ackDelayTimeout _ => true
  | .discReqReceived _ p => packetWf p
  | .echoReceived _ p => packetWf p
  | .ctrlRspReceived _ p => packetWf p
  | .clpEventReceived _ p => packetWf p
  | .frameStartReceived _ p => packetWf p
  | .pixelReceived _ p => packetWf p
  | .frameEndReceived _ p => packetWf p
  | .downlinkTxSelect _ => true
  | .triggerTimeout _ => true
  | .timePeriod => true
  | .pingPeriod => true
  | .mailboxGo _ _ => true
  | .mailboxTimeout _ => true
  | .frameTimeout _ => true
  | .clpStreamWrite _ _ => true
  | .parFrameStart _ => true
  | .parLineEnd _ _ => true
  | .parLineTimeout _ => true
  | .parFrameTimeout _ => true
  | .parExpEdge _ _ => true
  | .parTriggerTimeout _ => true
  | .parStreamWrite _ _ => true
  | .pixSrcWrite _ _ => true
  | .pipeFrameStart _ => true
  | .pipeInputLine _ _ => true
  | .pipeInputEnd _ => true
  | .pipeFlushDone _ => true
  | .pixTableWrite _ _ _ _ => true
  | .pixBistStart _ _ => true
  | .pixBistDone _ _ => true
  | .posTransition _ _ _ _ => true
  | .posIndex _ _ _ _ => true
  | .wireDisagree _ _ => true
  | .wireDisagreeEnd _ _ => true
  | .posArm _ => true
  | .posDisarm _ => true
  | .posLoad _ => true
  | .posRefset _ => true
  | .posLatchCmd _ => true
  | .posCntRead _ => true
  | .posLatchTimeRead _ _ => true
  | .posCfgWrite _ _ => true
  | .posTagEval _ => true
  | .speedSlot _ => true
  | .posStillTimeout _ => true
  | .ssiPoll _ => true
  | .ssiFrameDone _ _ _ _ _ _ => true
  | .probeEdge _ _ => true
  | .wheelTooth _ => true
  | .syntheticTooth _ => true
  | .wheelGapTimeout _ => true
  | .wheelStall _ => true
  | .twsWcfgWrite _ _ => true
  | .angleTagEval _ _ => true
  | .timeEntryDue _ => true
  | .schedFire _ => true
  | .entryCtlWrite _ _ => true
  | .lineFire => true
  | .beatEvent _ => true
  | .heldEventAccept _ => true
  | .softFire _ _ => true
  | .cselWrite _ _ => true
  | .beatSrcWrite _ _ => true
  | .cellWrite _ _ => true
  | .chimeFilterExpiry _ => true
  | .trigPulseEnd _ => true
  | .strobePulseEnd _ => true
  | .guardTrip _ => true
  | .guardClear _ => true
  | .dllUnlock => true
  | .dllLock => true
  | .aenaWrite _ => true
  | .arngWrite _ _ => true
  | .avalWrite _ _ => true
  | .holdoffEnd _ => true
  | .connectEnd _ => true
  | .dischargeEnd _ => true
  | .aoutFault _ _ => true
  | .aoutFaultClear _ _ => true
  | .doorbellWrite _ _ => true
  | .queueEnable _ => true
  | .queuePause _ => true
  | .queueResume _ => true
  | .queueReset _ => true
  | .queueResetDone _ => true
  | .queueMark _ => true
  | .queCtxWrite _ _ _ => true
  | .queMapWrite _ _ _ _ => true
  | .itemStart => true
  | .descReadComplete _ => true
  | .itemStartTimeout _ => true
  | .itemMidTimeout _ => true
  | .itemEnd _ => true
  | .errorTagWrite _ => true
  | .moderationTimeout _ => true
  | .queBistStart => true
  | .queBistDone _ => true
  | .linkUp _ _ _ _ => true
  | .retryEnd => true
  | .linkDown => true
  | .hotReset => true
  | .bmeClear => true
  | .bmeSet => true
  | .d3hotEntry => true
  | .flrStart => true
  | .flrDone => true
  | .completionReceived _ _ _ _ _ => true
  | .completionTimeout _ => true
  | .unsupportedRequest _ _ _ => true
  | .msixUnmask _ => true
  | .heldMsgSend => true
  | .farRead _ size => 1 ≤ size && size ≤ 4096
  | .farWrite offset data => burstWf offset.toNat data.length
  | .farTimeout _ => true
  | .pollRound => true
  | .venEnableWrite _ _ => true
  | .venCloseDone _ => true
  | .venPictureOffer _ _ => true
  | .coreSegmentStart _ _ => true
  | .coreSegmentDone _ _ _ => true
  | .coreParkWrite _ _ => true
  | .coreFault _ _ => true
  | .venRestart _ => true
  | .venIdrRequest _ => true
  | .drlPortUp _ => true
  | .drlPortDown _ => true
  | .rateAlternate _ => true
  | .drlFrameForward _ f _ => frameWf f
  | .beaconReceived _ f => frameWf f
  | .helloReceived _ f => frameWf f
  | .enumReceived _ f => frameWf f
  | .enumEndReceived _ f => frameWf f
  | .joinReceived _ f => frameWf f
  | .assignReceived _ f => frameWf f
  | .nodeUpReceived _ f => frameWf f
  | .linklossReceived _ f => frameWf f
  | .linkupReceived _ f => frameWf f
  | .openReceived _ f => frameWf f
  | .drlEventReceived _ f => frameWf f
  | .eventPresent => true
  | .rreadReceived _ f _ => frameWf f
  | .rwriteReceived _ f _ => frameWf f
  | .rrspReceived _ f => frameWf f
  | .rwackReceived _ f => frameWf f
  | .remoteRetry _ => true
  | .beaconInterval => true
  | .enumHoldEnd => true
  | .claimWindowEnd => true
  | .enumTimeout => true
  | .rootTimeout => true
  | .helloInterval => true
  | .joinInterval => true
  | .nodeUpSend => true
  | .linkupSend _ => true
  | .openSend => true
  | .drlCfgWrite _ => true
  | .busIdle => true
  | .strikeSeen join rival => !join || busWf rival
  | .bwStrike rival => busWf rival
  | .frameMark f _ _ => busWf f
  | .framingError => true
  | .clkLowTimeout => true
  | .busStuckDetect => true
  | .resetStrikeEnd => true
  | .recoveryCheck _ => true
  | .recoveryRetry => true
  | .txctlGo _ => true
  | .txTimeout _ => true
  | .rxPop _ => true
  | .bwrCfgWrite _ => true
  | .jtagInstructionUpdate _ => true
  | .tapReset => true
  | .errorRaise _ _ _ _ _ _ => true
  | .errRcntWrite _ => true
  | .evlastRead => true
  | .rstRelease => true
  | .uplinkQuietExit _ => true
  | .hostlockWrite _ => true
  | .d0Return => true
  | .malformedTlp _ => true
  | .uncorrectableInternalError => true
  | .tckEdge _ _ _ _ => true
  | .alignRowSend _ => true

end Sys2Proof
end

