-- ==== Sys2Proof/Tests/Slice0.lean ====
section
/-! SUPPORT. Tests of the model: for every statement with hypotheses a concrete state and operands that meet them, decoding
and well-formedness, and examples of the spec. -/

namespace Sys2Proof.Tests

open Sys2Proof.Machine

set_option maxRecDepth 20000

/-- A state in which the block runs in STANDBY with its clocks up, DONE set, and the host's requests served. -/
def up : State :=
  (({ State.reset with
      clk := { porLow := false, perstLow := false, cfgUp := true, coreUp := true, timeUp := true, hostUp := true, vencUp := true }
      hbr := { linkUp := true, mse := true }
      cfg := { shadow := true } }.set HBR_STAT.STATE 2).set CFG_STATUS.DONE 1).set CFG_STATUS.PHASE 6

/-- The block in the mode with code `m`. -/
def upIn (m : Nat) : State := (up.set GLB_MODESTAT.CUR m).set GLB_MODE.MODE m

/-- The loader in the state with code `p` of R74. -/
def loading (p : Nat) : State := (up.set CFG_STATUS.DONE 0).set CFG_STATUS.PHASE p

/-! `PowerOnResetReleaseTakesStraps` -/

theorem wit_PowerOnResetReleaseTakesStraps :
    (State.reset.clk.porLow = true ∧ State.reset.clk.dip = false) ∧
    ({ State.reset with clk := { porLow := false, dip := true } }.clk.dip = true) ∧
    (up.clk.porLow = false ∧ up.clk.dip = false ∧ up.clk.testHold = false) := by decide

/-! `WarmResetKeepsTheBridge` -/

theorem wit_WarmResetKeepsTheBridge :
    Served up (CFG_WARM.reg.adr 0) ∧ up.clk.coreUp = true ∧
    (let s : State := { upIn 7 with cfg := { shadow := true, unlocked := true } }
     Served s (CFG_FCMD.reg.adr 0) ∧ s.flag CFG_FCMD.BUSY = false ∧ inService s = true ∧ s.cfg.unlocked = true) ∧
    ¬ (0x1C ∈ keptAddrs) := by decide

/-! `DomainsAreReleased` -/

theorem wit_DomainsAreReleased :
    (let s : State := { up with clk := { porLow := false } }
     s.clk.cfgUp = false ∧ s.clk.porLow = false ∧ s.clk.dip = false ∧ s.clk.rstLow = false ∧ s.clk.restartWait = false ∧
       s.clk.testHold = false) ∧
    (let s : State := { up with clk := { porLow := false, cfgUp := true } }
     s.clk.coreUp = false ∧ s.clk.cfgUp = true ∧ s.clk.testHold = false) ∧
    (let s : State := ({ up with clk := { porLow := false, cfgUp := true } }.set CLK_VENCEN.EN 1).set CLK_RST.VENC 0
     s.clk.vencUp = false ∧ s.clk.cfgUp = true ∧ s.clk.testHold = false ∧ s.fuses.variant = .f ∧
       s.flag CLK_VENCEN.EN = true ∧ s.flag CLK_RST.VENC = false) ∧
    (let s : State := { up with clk := { porLow := false, cfgUp := true, coreUp := true } }
     timeReady s = true ∧ s.flag CLK_LEVEL.EXPERT = false ∧ s.get CLK_TREF.FREQ = 0 ∧ trefFreq 1002 = 0 ∧
       trefFreq 2497 = 0 ∧ trefFreq 999 = 1 ∧ trefFreq 2502 = 2 ∧
       timeReady (s.set CLK_LEVEL.EXPERT 1) = true ∧ (s.set CLK_LEVEL.EXPERT 1).flag CLK_LEVEL.EXPERT = true) := by
  decide

/-! `LostReferencesAndLocks` -/

theorem wit_LostReferencesAndLocks :
    (up.set CLK_STATUS.TREF 1).flag CLK_STATUS.TREF = true ∧
    (let s := up.set CLK_STATUS.HOLDOVER 1
     s.clk.timeUp = true ∧ s.flag CLK_STATUS.HOLDOVER = true ∧ (s.set CLK_STATUS.TREF 0).flag CLK_STATUS.TREF = false ∧
       (s.set CLK_STATUS.TREF 0).flag CLK_STATUS.HOLDOVER = true ∧ (s.set CLK_STATUS.TREF 1).flag CLK_STATUS.TREF = true ∧
       (s.set CLK_STATUS.TREF 1).flag CLK_STATUS.HOLDOVER = true) ∧
    (let s := up.set CLK_STATUS.TREF 1
     s.clk.timeUp = true ∧ s.flag CLK_STATUS.TREF = true ∧ s.flag CLK_STATUS.HOLDOVER = false) ∧
    (let s : State := { up with clk := { up.clk with timeUnlock := true } }
     s.clk.timeUnlock = true ∧ s.clk.timeUp = true) ∧
    up.clk.vencUp = true ∧
    (let s := (up.set CLK_RST.PAR 0).set CLK_STATUS.PCLK 3
     s.clk.coreUp = true ∧ bitAt (s.get CLK_RST.PAR) 1 = false ∧ bitAt (s.get CLK_STATUS.PCLK) 1 = true) := by decide

/-! `ClockRegisterWrites` -/

theorem wit_ClockRegisterWrites :
    (Served up 0x20014 ∧ up.clk.vencUp = true) ∧
    (let s := up.set CLK_LEVEL.EXPERT 1
     Served s (CLK_PLL.reg.adr 3) ∧ s.flag CLK_LEVEL.EXPERT = true ∧ pllOk (pllRef s 3) 0x84028001 = true ∧
       pllOk (pllRef s 3) 0x80000000 = false) ∧
    (let s : State := { up.wrA 0x20030 0x1F with clk := { up.clk with vencUp := false } }
     Served s 0x20030 ∧ (0x11F#32).toNat < 1024 ∧ s.clk.vencUp = false ∧ s.rdA 0x20030 = 0x1F ∧
       (0x11F#32).toNat = 0x1F + 2 ^ 8) ∧
    (up.clk.cfgUp = true ∧ up.clk.testHold = false ∧ up.fuses.variant ≠ .e ∧ up.clk.fieldLink = true) ∧
    ({ up with clk := { up.clk with fieldLink := false } }.clk.fieldLink = false) ∧
    (Served (upIn 2) 0x10050 ∧ modeNow (upIn 2) ≠ 0 ∧ modeNow (upIn 2) ≠ 7) ∧
    (Served up 0x10050 ∧ modeNow up = 0 ∧ up.get CFG_URST.UNIT = 0) := by decide

/-! `LoaderFindsAnImage` -/

theorem wit_LoaderFindsAnImage :
    loaderAt (loading 0) 0 = true ∧
    (let s : State := { loading 1 with cfg := { slot := 1 } }
     loaderAt s 1 = true ∧ s.cfg.slot = 1) ∧
    loaderAt (loading 2) 2 = true ∧ loaderAt (loading 3) 3 = true := by decide

/-! `LoaderAppliesRecords` -/

theorem wit_LoaderAppliesRecords :
    (let s := loading 4
     takesRecord s 4 = true ∧ takesRecord s 3 = false ∧ addrGone s.fuses.variant 0x80 = false ∧ inClk 0x80 = false ∧
       addrGone s.fuses.variant 0x03FFFFFC = true ∧ copyGone s.fuses.variant 4 0 = false ∧ loaderAt s 4 = true) ∧
    (let s : State := { loading 4 with cfg := { poll := some ⟨true, 0x80, 1, 1⟩ } }
     loaderAt s 4 = true ∧ s.cfg.poll = some ⟨true, 0x80, 1, 1⟩) := by decide

/-! `LoaderEndsItsRun` -/

theorem wit_LoaderEndsItsRun :
    takesRecord (loading 4) 4 = true ∧
    (let s := loading 5
     loaderAt s 5 = true ∧ s.cfg.waiting = false ∧ s.cfg.modeRec = none) ∧
    (let s : State := { loading 5 with cfg := { modeRec := some 0 } }
     loaderAt s 5 = true ∧ s.cfg.waiting = false ∧ s.cfg.modeRec = some 0) ∧
    (let s : State := { loading 5 with cfg := { modeRec := some 6 } }
     loaderAt s 5 = true ∧ s.cfg.waiting = false ∧ s.cfg.modeRec = some 6 ∧ (6 : Nat) ≠ 0) := by decide

/-! `FlashCommandsRun` -/

/-- SERVICE with the flash unlocked and an argument of 4 bytes. -/
def flashing : State := { (upIn 7).set CFG_FARG.ARG 4 with cfg := { shadow := true, unlocked := true } }

theorem wit_FlashCommandsRun :
    (Served (upIn 7) 0x10080 ∧ inService (upIn 7) = true) ∧
    (let s := (upIn 7).set CFG_LEVEL.EXPERT 1
     Served s 0x10040 ∧ inService s = true ∧ s.flag CFG_LEVEL.EXPERT = true) ∧
    (let s := up.set CFG_LEVEL.EXPERT 1
     Served s 0x10040 ∧ inService s = false ∧ s.flag CFG_LEVEL.EXPERT = true) ∧
    (let s := flashing
     Served s 0x10084 ∧ s.flag CFG_FCMD.BUSY = false ∧ inService s = true ∧ s.cfg.unlocked = true ∧
       s.cfg.flashReset = false ∧ flashMay 1 false s = true ∧ flashMay 2 false s = true ∧
       flashMay 1 false (s.set CFG_FARG.ARG 0) = false ∧ flashMay 8 true (s.set CFG_IMGROLL.ROLLBACK 4) = true ∧
       flashMay 9 true s = true) ∧
    (let s := flashing.set CFG_FCMD.BUSY 1
     Served s 0x10084 ∧ s.flag CFG_FCMD.BUSY = true) ∧
    ({ flashing with cfg := { flashing.cfg with flashOp := 3 } }.cfg.flashOp = 3) ∧
    ({ flashing with cfg := { flashing.cfg with flashOp := 5 } }.cfg.flashOp = 5) ∧
    ({ flashing with cfg := { flashing.cfg with flashOp := 8 } }.cfg.flashOp = 8) := by decide

/-! `ModeRequests` -/

theorem wit_ModeRequests :
    (Served (upIn 7) 0x40 ∧ modeRefusal (upIn 7) ((3#32).toNat % 8) = some 1) ∧
    (Served (upIn 2) 0x40 ∧ modeRefusal (upIn 2) ((2#32).toNat % 8) = none ∧ (2#32).toNat % 8 = modeNow (upIn 2)) ∧
    (Served up 0x40 ∧ modeRefusal up ((7#32).toNat % 8) = none ∧ up.flag GLB_MODE.BUSY = false ∧
      (7#32).toNat % 8 ≠ modeNow up ∧ timedMode (modeNow up) = false) := by decide

/-! `ModeChangesRun` -/

/-- DRAIN in ARMED with a trigger outstanding on an active stream. -/
def draining : State :=
  ((((upIn 2).set GLB_MODESTAT.PHASE 2).set CLP_STREAM0.EN 1 3).set BTM_CSEL.BUSY 1 3)

theorem wit_ModeChangesRun :
    ((upIn 2).set GLB_MODESTAT.PHASE 2).get GLB_MODESTAT.PHASE = 2 ∧
    lateStreams ((upIn 2).set GLB_MODESTAT.PHASE 2) = [] ∧
    draining.get GLB_MODESTAT.PHASE = 2 ∧ lateStreams draining ≠ [] ∧
    (Served up 0x48 ∧ touchesBasic 0x48 = false) ∧ (up.set GLB_MODESTAT.PHASE 3).get GLB_MODESTAT.PHASE = 3 := by
  decide

/-! `AbsentAndEarlyWrites` -/

theorem wit_AbsentAndEarlyWrites :
    (let s : State := { up with clk := { up.clk with coreUp := false } }
     hostOpen s = true ∧ s.clk.coreUp = false) ∧
    (hostOpen (loading 4) = true ∧ (loading 4).clk.coreUp = true ∧ (loading 4).flag CFG_STATUS.DONE = false ∧
      unitAt 0x100110 ≠ some 2) ∧
    (hostOpen up = true ∧ up.clk.coreUp = true ∧ up.flag CFG_STATUS.DONE = true ∧
      absentAt up.fuses.variant 0x2000000 = some 2 ∧ absentAt .e 0x680500 = some 1 ∧ absentAt .s 0xC00000 = some 0) ∧
    hostOpen State.reset = false ∧ (3 : BitVec 4) ≠ 15 := by decide

/-! `RegistersTakeTheirCodes` -/

theorem wit_RegistersTakeTheirCodes :
    (Served up 0x600810 ∧ (rowAt 0x600810).isSome = true ∧ unitAt 0x600810 = some 11 ∧ 0x600810 ≠ unitBase 11 + 4 ∧
      ((rowAt 0x600810).map (fun r => r.1.rwb)) = some 0) ∧
    (let s := up.set GLB_XDROP.COUNT 1
     s.get GLB_XDROP.COUNT ≠ 0 ∧ (rowAt 0x100118).isSome = true ∧ unitAt 0x100118 = some 4) ∧
    (Served up 0x680304 ∧ touchesBasic 0x20010 = true ∧ unitExpert up 3 = false ∧ running up 3 = none ∧
      basicTaken 0x20010 2 0 (up.wrA 0x20010 2) = true) := by decide

/-! `LevelsAndDerivation` -/

/-- `CLK` with a re-derivation under way. -/
def deriving3 : State := { up with glb := { rederive := [⟨3, [(0x20100, 15, 1)], false⟩] } }

theorem wit_LevelsAndDerivation :
    (Served up (unitBase 3 + 4) ∧ running up 3 = none ∧ unitExpert up 3 = false) ∧
    (Served deriving3 (unitBase 3 + 4) ∧ derives 3 = true ∧ (running deriving3 3).isSome = true ∧
      unitExpert deriving3 3 = false) ∧
    (let s := up.set CLK_LEVEL.EXPERT 1
     Served s (unitBase 3 + 4) ∧ unitExpert s 3 = true ∧ derives 3 = true) ∧
    (running deriving3 3 = some ⟨3, [(0x20100, 15, 1)], false⟩ ∧ deriving3.glb.levelWait = []) ∧
    derives 18 = false := by decide

/-! `TimeBaseTicks` -/

theorem wit_TimeBaseTicks :
    (up.pending = [] ∧ up.clk.timeUp = true) ∧ (State.reset.pending = [] ∧ State.reset.clk.timeUp = false) ∧
    (let s : State := { up.set TIM_ADJ.RATE 4 with tim := { slew := some (0, 0) } }
     s.tim.slew = some (0, 0) ∧
       (targetRate s - 0).natAbs ≤ (0 + 1) * max 1 ((s.set TIM_SLEW.SLEW 1000).get TIM_SLEW.SLEW) * 16 / 1000) ∧
    (let s : State := { up.set TIM_ADJ.RATE 4000 with tim := { slew := some (0, 0) } }
     (0 + 1) * max 1 (s.get TIM_SLEW.SLEW) * 16 / 1000 < (targetRate s - 0).natAbs ∧ 0 < targetRate s) ∧
    (let s : State := { up.set TIM_CMPEN.EN 8 with now := 2 ^ 40 }
     bitAt (s.get TIM_CMPEN.EN) 3 = true ∧ compareTime s 3 ≤ netNs s ∧ s.get TIM_CMPPER.PERIOD 3 = 0) ∧
    Served up 0x100100 ∧ Served up (TIM_CAPTSECLO.reg.adr 7) := by decide

/-! `TimeStepsAndLoads` -/

theorem wit_TimeStepsAndLoads :
    (let s := up.set TIM_LEVEL.EXPERT 1
     Served s 0x100130 ∧ s.flag TIM_LEVEL.EXPERT = true ∧ Served s 0x100118) ∧
    (let s : State := { up.set TIM_STAT.STEPARM 0 with tim := { stepReq := some (false, 5) } }
     s.tim.stepReq = some (false, 5) ∧ s.flag TIM_STAT.STEPARM = false) ∧
    (let s : State := { up.set TIM_STAT.FLOADARM 0 with tim := { loadReq := true } }
     s.tim.loadReq = true ∧ s.flag TIM_STAT.FLOADARM = false) ∧
    (let s : State := { up.set TIM_STAT.FLOADARM 1 with tim := { loadReq := true } }
     s.tim.loadReq = true ∧ s.flag TIM_STAT.FLOADARM = true ∧ timState s ≠ 1) ∧
    (Served up 0x100044 ∧ [0, 6, 7].contains (modeNow up) = true ∧ [0, 6, 7].contains (modeNow (upIn 2)) = false) ∧
    (Served up 0x100040 ∧ (codedWrite 0x100040 0x80000000 up).flag TIM_STAT.SERVO = true) ∧ Served up 0x100404 := by
  decide

/-! `PulsesPerSecond` -/

theorem wit_PulsesPerSecond :
    (let s : State := { up with now := 3 * 1000000000 * 2 ^ 32 }
     s.nowNs / 1000000000 ≠ s.tim.second ∧ s.flag TIM_PPSCFG.OUTEN = false) ∧
    up.nowNs / 1000000000 = up.tim.second ∧
    ({ up with tim := { ppsHigh := true } }.tim.ppsHigh = true) ∧
    (true ≠ up.flag TIM_PPSCFG.INPOL ∧ up.tim.ppsAt = none ∧ isMaster up = false ∧ false = up.flag TIM_PPSCFG.INPOL) ∧
    (let s : State := { up with tim := { ppsAt := some 0 } }
     s.tim.ppsAt = some 0 ∧ s.elapsed < 0 + 500000000) ∧
    (let s : State := { (up.set TIM_STAT.MASTER 1).set TIM_STAT.STATE 2 with tim := { role := 4 } }
     isMaster s = true ∧ srcPps s = true ∧ timState s = 2) ∧
    (let s := (up.set TIM_STAT.MASTER 0).set TIM_STAT.STATE 3
     isMaster s = false ∧ timState s ≠ 0 ∧ timState s ≠ 4) ∧
    timState (up.set TIM_STAT.STATE 4) = 4 ∧
    (let s := up.set TIM_LEVEL.EXPERT 1
     s.flag TIM_LEVEL.EXPERT = true ∧ s.rdA (TIM_ROLE.reg.adr 0) = s.tim.role) := by decide

/-! `PtpMessages` -/

/-- A PTP frame of type `ty` from clock 9 in domain `d`, with its FCS. -/
def ptpFrameOf (ty d : Nat) : List Byte :=
  (sealFrame ([1, 27, 25, 0, 0, 0, 2, 31, 158, 0, 0, 9, 0x88, 0xF7] ++ [ty, 0x12, 0, 44, d, 0, 0, 0] ++
    List.replicate 19 0 ++ [9, 0, 1] ++ List.replicate 14 0)).map (BitVec.ofNat 8)

/-- The node runs on the ring with port 0 forwarding, as a slave (`m` = 0) or the master. -/
def ringUp0 (m : Nat) : State :=
  { (((up.set DRL_PSTAT.STATE 3 0).set DRL_NODE.STATE 5).set TIM_STAT.MASTER m) with
    tim := { ptp := 0xD0D002, master := some [1] } }

theorem wit_PtpMessages :
    ([0, 8, 1, 9, 2, 10, 3, 11].all (fun ty =>
      decide (PtpHeard (ringUp0 0) 0 ty (natBytes (ptpFrameOf ty 0)) 14)) = true) ∧
    (let f := (List.replicate 59 0 ++ [1]).map (BitVec.ofNat 8)
     fcsGood (natBytes f) = false) ∧
    (ptpOffset (natBytes ((ptpFrameOf 0 0).set 60 77#8)) = some 14 ∧
      fcsGood (natBytes ((ptpFrameOf 0 0).set 60 77#8)) = false) ∧
    (isMaster (ringUp0 1) = true ∧ mayOriginate (ringUp0 1) = true) ∧
    (let s := (ringUp0 1).set DRL_PSTAT.STATE 0 0
     isMaster s = true ∧ mayOriginate s = true ∧ ringState s 0 ≠ 3 ∧ ringState s 1 ≠ 3) ∧
    (let s : State := { ringUp0 0 with tim := { ptp := 0, master := some [1] } }
     isMaster s = false ∧ s.tim.master.isSome = true ∧ peerDelay s = false ∧ mayOriginate s = true ∧
       s.get TIM_STAT.SRCPORT < 2 ∧ ringState s (s.get TIM_STAT.SRCPORT) = 3) ∧
    (ringPort (ringUp0 0) 0 = true ∧ peerDelay (ringUp0 0) = true ∧ 2 ≤ ringState (ringUp0 0) 0) := by decide

/-! `LaneTraining` -/

/-- Lane 2 in the state with code `st`. -/
def laneIn (st : Nat) : State := up.set LNP_STAT.STATE st 2

/-- Nothing noticed on lane 2. -/
def quietNote : Sys2Proof.LinkNote := { lane := 2, badHdr := 0, fixed := 0, bad := 0, del := 0, ins := 0 }

theorem wit_LaneTraining_blocks :
    (laneExists (noteLane quietNote (laneIn 8)) 2 = true ∧
      [0, 8, 10].contains (laneState (noteLane quietNote (laneIn 8)) 2) = true) ∧
    (let b := [0x55, 0x41, 0x3F, 0, 0, 0x10, 1, 7]
     laneExists (noteLane quietNote (laneIn 4)) 2 = true ∧
       [1, 2, 3, 4, 5, 6, 7, 9].contains (laneState (noteLane quietNote (laneIn 4)) 2) = true ∧ (∀ x ∈ b, x < 256) ∧
       byteAt b 0 = 0x55 ∧ crc8 (sliceOf b 0 7) ≠ byteAt b 7 ∧ 8 ≤ b.length) ∧
    (let b := [0x55, 0x41, 0x3F, 0, 0, 0x10, 1, crc8 [0x55, 0x41, 0x3F, 0, 0, 0x10, 1]]
     laneState (noteLane quietNote (laneIn 4)) 2 = 4 ∧ (∀ x ∈ b, x < 256) ∧ byteAt b 0 = 0x55 ∧
       crc8 (sliceOf b 0 7) = byteAt b 7 ∧ 8 ≤ b.length) := by decide

theorem wit_LaneTraining :
    (laneExists (laneIn 2) 2 = true ∧ laneState (laneIn 2) 2 = 2) ∧
    (laneState (laneIn 1) 2 = 1 ∧ (laneIn 1).flag LNP_STAT.LOCK 2 = false) ∧
    (laneExists (laneIn 10) 2 = true ∧ laneState (laneIn 10) 2 = 10 ∧
      ((laneIn 10).set LNP_TRNFAIL.REASON 1 2).get LNP_TRNFAIL.REASON 2 = 1 ∧ (laneIn 10).get LNP_TRNFAIL.REASON 2 ≠ 1) ∧
    (let s := ((laneIn 10).set LNP_CFG.RATEMAX 3 2).set CLK_RST.QUAD 0
     quadHeld s 2 = false ∧ s.get LNP_CFG.RATEMAX 2 ≠ 0) ∧
    (let s := (laneIn 2).setLane 2 { switching := true, selOffer := 4 }
     laneState s 2 = 2 ∧ (s.lane 2).switching = true ∧ (s.lane 2).selOffer ≠ 1) ∧
    (let s := ((laneIn 3).set LNP_LEVEL.EXPERT 1).setLane 2 { trying := true, best := some (9, 1), trials := [5, 6] }
     laneState s 2 = 3 ∧ (s.lane 2).trying = true ∧ s.flag LNP_LEVEL.EXPERT = true ∧ (s.lane 2).best = some (9, 1) ∧ 8 ≤ 9 ∧
       (s.lane 2).trials = 5 :: [6]) ∧
    (laneState (noteLane quietNote (laneIn 3)) 2 ≠ 5 ∧ laneState (noteLane quietNote (laneIn 3)) 2 ≠ 7) := by decide

/-! `LanePower` -/

theorem wit_LanePower :
    (laneExists (laneIn 3) 2 = true ∧ laneState (laneIn 3) 2 ≠ 5 ∧ laneState (laneIn 3) 2 ≠ 7) ∧ laneState (laneIn 5) 2 = 5 ∧
    (laneState (laneIn 7) 2 = 7 ∧ ((laneIn 7).set LNP_LPCFG.DEEPOK 1 2).flag LNP_LPCFG.DEEPOK 2 = true) ∧
    ((laneIn 7).set LNP_LPCFG.QUIETIDLE 0 2).get LNP_LPCFG.QUIETIDLE 2 = 0 ∧
    (let s := (laneIn 7).set LNP_LPCFG.QUIETIDLE 5 2
     s.get LNP_LPCFG.QUIETIDLE 2 ≠ 0 ∧ downlinkWaits s (s.get CLP_LSTAT.GROUP 2) = false ∧ laneState s 2 = 7) ∧
    (Served (laneIn 7) (LNP_LPCTL.reg.adr 2) ∧ Served (laneIn 8) (LNP_LPCTL.reg.adr 2) ∧ laneState (laneIn 8) 2 = 8) ∧
    (let s := (laneIn 7).setLane 2 { rxQuiet := true }
     laneState s 2 = 7 ∧ (s.lane 2).rxQuiet = true ∧ (s.lane 2).txQuiet = false) ∧
    ((laneIn 5).flag CLP_LSTAT.RXACT 2 = false ∧ ((laneIn 5).lane 2).slipAt = 0) := by decide

/-! `LaneMonitorAndEyeScan` -/

theorem wit_LaneMonitorAndEyeScan :
    ((laneIn 3).flag LNP_MONCFG.EN 2 = false ∨ (laneState (laneIn 3) 2 ≠ 5 ∧ laneState (laneIn 3) 2 ≠ 7)) ∧
    (let s := ((laneIn 5).set LNP_MONCFG.EN 1 2).setLane 2 { basePend := true }
     laneState s 2 = 5 ∧ s.flag LNP_MONCFG.EN 2 = true ∧ s.flag LNP_ESSTAT.RUNNING 2 = false ∧ (s.lane 2).basePend = true) ∧
    (let s := ((((laneIn 7).set LNP_MONCFG.EN 1 2).set LNP_MARGIN2.BASEVALID 1 2).set LNP_MARGIN2.LEVEL 1 2).set
       LNP_MONTH2.ALARMH 9 2
     laneState s 2 = 7 ∧ s.flag LNP_MONCFG.EN 2 = true ∧ s.flag LNP_ESSTAT.RUNNING 2 = false ∧
       (s.lane 2).basePend = false ∧ s.flag LNP_MARGIN2.BASEVALID 2 = true ∧ s.get LNP_MARGIN2.LEVEL 2 < 2 ∧
       (8#8).toNat < s.get LNP_MONTH2.ALARMH 2) ∧
    (Served up (LNP_CTL.reg.adr 15) ∧ Served up (LNP_ESCTL.reg.adr 15) ∧ inService up = false ∧
      Served (upIn 7) (LNP_ESCTL.reg.adr 15) ∧ inService (upIn 7) = true ∧ Served up (LNP_ESDATA.reg.adr 15)) ∧
    ((laneIn 5).set LNP_ESSTAT.RUNNING 1 2).flag LNP_ESSTAT.RUNNING 2 = true := by decide

/-! `LaneConfiguration` -/

theorem wit_LaneConfiguration :
    (Served up (LNP_LOOP.reg.adr 0) ∧ (2#32).toNat % 4 ≠ 0 ∧ inService up = false) ∧
    (let s := (laneIn 5).set GLB_MODESTAT.CUR 7
     Served s (LNP_LOOP.reg.adr 2) ∧ inService s = true ∧ laneState s 2 = 5 ∧ s.flag LNP_PARTNER.LOOPCAP 2 = false) ∧
    (Served up (LNP_INJ.reg.adr 15) ∧ laneExists up 15 = true) ∧
    (Served up (LNP_CFG.reg.adr 15) ∧ (6#32).toNat % 8 ≠ 0 ∧ laneState up 15 = 0) ∧
    (Served (laneIn 5) (LNP_CFG.reg.adr 2) ∧ (16#32).toNat % 8 = 0 ∧ laneState (laneIn 5) 2 ≠ 0) ∧
    (Served (laneIn 5) (LNP_CTL.reg.adr 2) ∧ laneState (laneIn 5) 2 ≠ 8) ∧
    (let s := up.set LNP_LEVEL.EXPERT 1
     Served s (LNP_TXFIR.reg.adr 15) ∧ s.flag LNP_LEVEL.EXPERT = true ∧ bitsOf (0x00043208#32).toNat 13 8 ≠ 0) := by decide

/-! `CameraGroups` -/

/-- Group 2 in the state with code `st`. -/
def groupIn (st : Nat) : State := up.set CLP_GSTAT.STATE st 2

/-- The bytes of a packet that a camera sends. -/
def packet (ty flags num sub aux : Nat) (payload : List Nat) : List Sys2Proof.Byte :=
  (sealPkt (mkPkt ty flags num sub aux payload)).map (BitVec.ofNat 8)

theorem wit_CameraGroups :
    groupState up 2 = 0 ∧ (laneExists (groupIn 1) 2 = true ∧ groupState (groupIn 1) 2 = 1) ∧ groupState (groupIn 2) 2 = 2 ∧
    groupState (groupIn 3) 2 ≠ 2 ∧
    (PacketTaken (groupIn 2) 2 4 (natBytes (packet 4 0 0 0 0 (List.replicate 12 0 ++ [1] ++ List.replicate 19 0))) ∧
      groupState (groupIn 2) 2 = 2) ∧
    (PacketTaken (groupIn 3) 2 3 (natBytes (packet 3 0 0 0 9 [0, 0, 0, 0])) ∧
      ((groupIn 3).group 2).pings.find? (fun e => e.1 == pktAux (natBytes (packet 3 0 0 0 9 [0, 0, 0, 0]))) = none) ∧
    (let s : State := { (groupIn 3).setGroup 2 { pings := [(9, 0)] } with elapsed := 1000001 }
     PacketTaken s 2 3 (natBytes (packet 3 0 0 0 9 [0, 0, 0, 0])) ∧ 1000000 < s.elapsed - 0 ∧
      (s.group 2).pings.find? (fun e => e.1 == pktAux (natBytes (packet 3 0 0 0 9 [0, 0, 0, 0]))) = some (9, 0)) ∧
    ((up.set CLP_TIMECFG.PERIOD 0).get CLP_TIMECFG.PERIOD = 0 ∧ (up.set CLP_TIMECFG.PERIOD 7).get CLP_TIMECFG.PERIOD ≠ 0) ∧
    ((up.set CLP_TIMECFG.PINGINT 0).get CLP_TIMECFG.PINGINT = 0 ∧
      (let s := (groupIn 3).set CLP_TIMECFG.PINGINT 1
       s.get CLP_TIMECFG.PINGINT ≠ 0 ∧ (∀ g, g < 16 → g ≠ 2 → groupState s g ≠ 3) ∧ groupState s 2 = 3)) := by decide

/-! `CameraReliableClass` -/

theorem wit_CameraReliableClass_packets :
    (let p : List Sys2Proof.Byte := List.replicate 12 0
     laneExists (groupIn 3) 2 = true ∧ (natBytes p).length = 12 + pktLen (natBytes p) ∧ crcOk (natBytes p) = false ∧
       relType (pktType (natBytes p)) = false ∧ (natBytes (0 :: p)).length ≠ 12 + pktLen (natBytes (0 :: p))) ∧
    (let s := ((groupIn 3).set CLP_SEQ2.ACKD 4095 2).set CLP_SEQ2.OUT 3 2
     PacketTaken s 2 0 (natBytes (packet 0 0 2 0 0 [])) ∧
       (4096 - s.get CLP_SEQ2.ACKD 2 + pktNum (natBytes (packet 0 0 2 0 0 [])) % 4096) % 4096 = 3 ∧
       s.get CLP_SEQ2.OUT 2 = 3 ∧ s.get CLP_SEQ2.OUT 2 <
         (4096 - s.get CLP_SEQ2.ACKD 2 + pktNum (natBytes (packet 0 0 3 0 0 [])) % 4096) % 4096 ∧
       PacketTaken s 2 1 (natBytes (packet 1 1 2 0 0 [])) ∧ pktFlags (natBytes (packet 1 1 2 0 0 [])) % 2 = 1 ∧
       (acknowledge 2 (pktNum (natBytes (packet 1 1 2 0 0 []))) (s.count CLP_RELCNT.NAKRX 2)).1 = true) ∧
    (PacketTaken (groupIn 3) 2 7 (natBytes (packet 7 0 0 5 0 [0, 0, 0, 0])) ∧
      InOrder (groupIn 3) 2 (natBytes (packet 7 0 0 5 0 [0, 0, 0, 0])) ∧
      (accepted (groupIn 3) 2).flag CLP_CCCTL.BUSY 2 = false) := by decide

theorem wit_CameraReliableClass :
    (let s := (groupIn 3).setGroup 2 { busyWait := true, buffer := [{ seq := 4, bytes := [] }], unacked := 1 }
     laneExists s 2 = true ∧ (s.group 2).busyWait = true ∧ (s.group 2).buffer ≠ [] ∧ groupState s 2 = 3 ∧
       (s.group 2).replays < max 1 (s.get CLP_ACKCFG.REPLAYMAX 2) ∧ (s.group 2).unacked ≠ 0) ∧
    (let s := (groupIn 3).setGroup 2 { buffer := [{ seq := 4, bytes := [] }], replays := 200 }
     (s.group 2).buffer ≠ [] ∧ max 1 (s.get CLP_ACKCFG.REPLAYMAX 2) ≤ (s.group 2).replays) ∧
    (Served up (CLP_CCCTL.reg.adr 2) ∧ bitAt (0x40000003#32).toNat 30 = true ∧
      (let t := (up.set CLP_CCCTL.OP 0 2).set CLP_CCCTL.COUNT 3 2
       t.flag CLP_CCCTL.BUSY 2 = false ∧ groupState t 2 ≠ 3) ∧
      (let t := ((up.set CLP_CCCTL.BUSY 1 2).set CLP_CCCTL.OP 0 2).set CLP_CCCTL.COUNT 3 2
       t.flag CLP_CCCTL.BUSY 2 = true)) ∧
    ((up.set CLP_CCCTL.BUSY 1 2).flag CLP_CCCTL.BUSY 2 = true ∧ downlinkWaits up 2 = false) ∧
    (let q : RelPkt := { seq := 0, bytes := mkPkt 8 0 0 1 7 (leBytes 8 1 ++ leBytes 8 0), trig := some 7 }
     let s := (((groupIn 3).set LNP_STAT.STATE 5 2).setLane 2 { member := true }).setGroup 2 { trigQ := [q] }
     downlinkUp s 2 = true ∧ leaveTxQuiet 2 s = s ∧ (s.group 2).trigQ = q :: [] ∧ (s.group 2).replayQ = [] ∧
       (s.group 2).busyWait = false ∧ s.get CLP_SEQ2.OUT 2 < 128) := by decide

/-! `CameraFrames` -/

/-- Group 2 in DISCOVERED, with stream 5 for its camera stream 1, in LIVE. -/
def camera : State := (((upIn 1).set CLP_GSTAT.STATE 3 2).set CLP_STREAM0.reg (2 ^ 31 + 2 * 2 ^ 16 + 2 ^ 8) 5)

theorem wit_CameraFrames_packets :
    (let p := packet 12 0 0 0 0 (List.replicate 12 0)
     InOrder camera 2 (natBytes p) ∧ streamFor (accepted camera 2) 2 (pktSub (natBytes p)) = none ∧
       PacketTaken camera 2 12 (natBytes p)) ∧
    (let p := packet 11 0 0 0 0 (List.replicate 24 0)
     InOrder camera 2 (natBytes p) ∧ streamFor (accepted camera 2) 2 (pktSub (natBytes p)) = none ∧
       PacketTaken camera 2 11 (natBytes p)) ∧
    (let p := packet 12 0 0 1 0 ([7, 0, 0, 0, 3, 0, 0, 0] ++ List.replicate 4 0)
     let f : Feed := { id := 1, stream := 5, frame := 7, accepted := 3 }
     let s : State := { camera with src := { feeds := [f] } }
     InOrder s 2 (natBytes p) ∧ streamFor (accepted s 2) 2 (pktSub (natBytes p)) = some 5 ∧ PacketTaken s 2 12 (natBytes p) ∧
       openFrame (accepted s 2) 5 = some f ∧ f.src = 0 ∧ f.frame % 65536 = payNat (natBytes p) 0 4 % 65536) ∧
    (let p := packet 11 0 0 1 0 ([7, 0, 0, 0] ++ List.replicate 20 0)
     InOrder camera 2 (natBytes p) ∧ streamFor (accepted camera 2) 2 (pktSub (natBytes p)) = some 5 ∧
       PacketTaken camera 2 11 (natBytes p) ∧ openFrame (accepted camera 2) 5 = none ∧ pktFlags (natBytes p) = 0 ∧
       mayOpen (accepted camera 2) 5 = true) := by decide

theorem wit_CameraFrames :
    (let p := packet 13 0 0 0 0 (List.replicate 8 0)
     PacketTaken camera 2 13 (natBytes p) ∧ streamFor { camera with src := { camera.src with
       pixCount := tput 0 camera.src.pixCount (2 * 8 + pktSub (natBytes p)) ((pktNum (natBytes p) + 1) % 65536 + 1) } } 2
       (pktSub (natBytes p)) = none) ∧
    (let p := packet 10 0 0 3 0 (List.replicate 8 0)
     PacketTaken camera 2 10 (natBytes p) ∧ InOrder camera 2 (natBytes p) ∧ pktSub (natBytes p) < 4 ∧
     ((((accepted camera 2).count CLP_EVTCNT.COUNT 2).set CLP_EVTCNT.LASTEVT 3 2).fire (0x070 + 4 + 3)).flag
       CLP_GCFG.EVEN 2 = false) ∧
    conBusy camera 5 = false ∧
    (let tr : TrigSt := { id := 9, time := 100, streams := [5], flags := 0 }
     let s := setBusy 5 true (camera.setGroup 2 { trigs := [tr] })
     conBusy s 5 = true ∧ lastTrig s (s.get CLP_STREAM0.GROUP 5) 5 = some tr) ∧
    (let f : Feed := { id := 1, stream := 5 }
     openFrame { camera with src := { feeds := [f] } } 5 = some f ∧ f.src = 0) ∧ openFrame camera 5 = none ∧
    (Served up (CLP_STREAM0.reg.adr 6) ∧ parSources up 6 = false ∧ bitAt (0x80000000#32).toNat 31 = true ∧
      (let s := (up.set PAR_STREAM.EN 1 0).set PAR_STREAM.STREAM 6 0
       Served s (CLP_STREAM0.reg.adr 6) ∧ s.flag CLP_STREAM0.EN 6 = false ∧ parSources s 6 = true)) := by decide

/-! `ParallelPorts` -/

/-- Port 1 in the state with code `st`. -/
def portIn (st : Nat) : State := up.set PAR_STAT.STATE st 1

theorem wit_ParallelPorts :
    portState (portIn 0) 1 = 0 ∧
    (portExists (portIn 3) 1 = true ∧ portState (portIn 3) 1 = 3 ∧ ((portIn 3).port 1).startAt = none ∧
      ((portIn 3).port 1).recover = false) ∧
    (syncMode (portIn 1) 1 = 0 ∧ portState (portIn 1) 1 = 1 ∧ syncMode (portIn 3) 1 = 0) ∧
    (portState (portIn 2) 1 = 2 ∧ ((portIn 3).set PAR_FRAMETO.MS 9 1).get PAR_FRAMETO.MS 1 ≠ 0) ∧
    (true ≠ ((portIn 2).set PAR_CFG.EXPPOL 0 1).flag PAR_CFG.EXPPOL 1 ∧
      (((portIn 2).setPort 1 { expLead := some 5 }).port 1).expLead = some 5) ∧
    (conBusy (setBusy 0x41 true (portIn 2)) (0x40 + 1) = true ∧ conBusy (portIn 2) (0x40 + 1) = false) ∧
    (let s := up.set CLP_STREAM0.EN 1 9
     Served s (PAR_STREAM.reg.adr 1) ∧ bitAt (0x89000000#32).toNat 31 = true ∧
       portConflict s 1 (bitsOf (0x89000000#32).toNat 29 24) = true ∧ s.flag PAR_STREAM.EN 1 = false) ∧
    (Served up (PAR_STREAM.reg.adr 0) ∧ bitAt (0x09000000#32).toNat 31 = false ∧ up.flag PAR_STREAM.EN 0 = false) := by
  decide

/-! `PixelPipes` -/

/-- Pipe 3 in the state with code `st`, on stream 7. -/
def pipeIn (st : Nat) : State := ((up.set PIX_STAT.STATE st 3).set PIX_SRC.EN 1 3).set PIX_SRC.STREAM 7 3

theorem wit_PixelPipes :
    waitingFeed up 3 = none ∧
    (let f : Feed := { id := 1, stream := 7, path := 4, started := true, format := 0x3F, width := 8, height := 1 }
     let s : State := { pipeIn 1 with src := { feeds := [f] } }
     waitingFeed s 3 = some f ∧ pipeState s 3 = 1 ∧
       formatOk (cfaOf (setView (latchSet 3 (min 8192 f.width) f.height s) 3) 3) f.format f.width f.height = false) ∧
    pipeState (pipeIn 1) 3 ≠ 2 ∧
    (let f : Feed := { id := 1, stream := 7, path := 4, format := 1, width := 4, height := 2, data := [1, 2, 3, 4, 5] }
     let s : State := { (pipeIn 2).setPipe 3 { feed := 1 } with src := { feeds := [f] } }
     feedOf s (s.pipe 3).feed = some f ∧ pipeState s 3 = 2 ∧ pitchOf f.format f.width ≤ f.data.length ∧
       (s.pipe 3).lines.length < f.height ∧ pipeStopped s 3 = false) ∧
    (let f : Feed := { id := 1, stream := 7, path := 4, height := 1, ended := true }
     let s : State := { (pipeIn 2).setPipe 3 { feed := 1, lines := [(0, [])] } with src := { feeds := [f] } }
     feedOf s (s.pipe 3).feed = some f ∧ pipeState s 3 = 2 ∧ f.height ≤ (s.pipe 3).lines.length ∧
       pipeState (s.set PIX_STAT.STATE 3 3) 3 = 3) ∧
    (Served up (PIX_SRC.reg.adr 3) ∧ Served up (PIX_TBL0.reg.adr 3 4095) ∧ Served up (PIX_TBL1.reg.adr 3 4355) ∧
      Served up (PIX_BIST.reg.adr 3)) ∧
    (pipeState (pipeIn 1) 3 < 2 ∧ 2 ≤ pipeState ((pipeIn 2).setPipe 3 { tblLogged := true }) 3 ∧
      (((pipeIn 2).setPipe 3 { tblLogged := true }).pipe 3).tblLogged = true) ∧
    ((up.set PIX_BIST.RUNNING 1 3).flag PIX_BIST.RUNNING 3 = true ∧ up.flag PIX_BIST.RUNNING 3 = false) := by decide

/-! `PositionSamples` -/

/-- Channel 5 enabled, of kind `kind`, with the word `idx` in IDXCFG, and levels `lv`. -/
def chanUp (kind idx lv : Nat) : State :=
  let s : State := { up with clk := { up.clk with fieldLink := true } }
  ((((s.set POS_CFG.EN 1 5).set POS_CFG.KIND kind 5).set POS_CFG.X 2 5).set POS_IDXCFG.reg idx 5).set POS_STAT.LEVELS lv 5

theorem wit_PositionSamples :
    chanThere { up with fuses := { up.fuses with variant := .e } } 4 = false ∧
    (let s := chanUp 0 0 3
     chanThere s 5 = true ∧ s.clk.fieldLink = true ∧ (s.chan 5).dis = 0 ∧ s.flag POS_CFG.INVA 5 = false ∧
       s.flag POS_CFG.INVB 5 = false ∧ s.flag POS_CFG.INVZ 5 = false ∧ s.get POS_STAT.LEVELS 5 = levelCode true true false) ∧
    (let s := chanUp 0 0 1
     let t := s.set POS_STAT.LEVELS (levelCode true true false) 5
     chanOn t 5 = true ∧ s.get POS_STAT.LEVELS 5 = levelCode true (!true) false ∧ t.get POS_CFG.KIND 5 = 0 ∧
       t.get POS_CFG.X 5 = 2 ∧ (checkInterval 5 t).get POS_IDXCFG.IDXMODE 5 = 0 ∧
       (checkInterval 5 t).get POS_CFG.KIND 5 = 0 ∧ (checkInterval 5 t).get POS_CFG.X 5 = 2) ∧
    (let s := chanUp 0 1 3
     let t := s.set POS_STAT.LEVELS (levelCode true true true) 5
     chanOn t 5 = true ∧ (s.chan 5).dis = 0 ∧ s.get POS_STAT.LEVELS 5 = levelCode true true false ∧
       t.get POS_CFG.KIND 5 = 0 ∧ t.get POS_IDXCFG.IDXMODE 5 = 1 ∧ t.flag POS_IDXCFG.QUALEN 5 = false) ∧
    (disChecked (chanUp 0 0 0) 5 1 = true ∧ bitAt ((chanUp 0 0 0).chan 5).dis 1 = false) ∧ disChecked up 5 1 = false ∧
    (chanOn up 5 = false ∧ chanOn (chanUp 0 0 0) 5 = true) ∧
    ((up.set POS_PRBCFG.EDGE 1 7).get POS_PRBCFG.EDGE 7 = 1 ∧
      (let s := (((chanUp 0 0 0).set POS_PRBCFG.EDGE 2 7).set POS_PRBCFG.ACTION 0 7)
       chanThere s 7 = true ∧ s.clk.fieldLink = true ∧ s.clk.timeUp = true ∧ s.get POS_PRBCFG.EDGE 7 = 2 ∧
         s.get POS_PRBCFG.ACTION 7 = 0)) := by decide

/-! `PositionCommands` -/

theorem wit_PositionCommands :
    Served up (POS_CTL.reg.adr 7) ∧ up.get POS_CFG.REFSRC 7 ≠ 3 ∧
    (Served up (POS_CNTLO.reg.adr 7) ∧ Served up (POS_PRBTHI.reg.adr 7) ∧ Served up (POS_LATCHTHI.reg.adr 7)) ∧
    (let a := POS_CFG.reg.adr 5
     Served (chanUp 0 0 0) a ∧ bitAt (0x88000000#32).toNat 31 = true ∧ bitAt ((chanUp 0 0 0).rdA a) 31 = true ∧
       ((0x88000000#32).toNat &&& 0x0FB80000) ≠ ((chanUp 0 0 0).rdA a &&& 0x0FB80000)) ∧
    (let a := POS_CFG.reg.adr 5
     Served up a ∧ bitAt (0x08000000#32).toNat 31 = false ∧ bitAt (up.rdA a) 31 = false) ∧
    up.get POS_CFG.KIND 5 ≠ 3 ∧
    (let s := setBusy 0x85 true (chanUp 3 0 1)
     chanOn s 5 = true ∧ s.get POS_CFG.KIND 5 = 3 ∧ s.flag POS_STAT.SSIBUSY 5 = false ∧ (s.chan 5).pause ≤ s.elapsed ∧
       conBusy s (0x80 + 5) = true) ∧
    ((chanUp 3 0 1).flag POS_STAT.SSIBUSY 5 = false ∧
      ((chanUp 3 0 1).set POS_STAT.SSIBUSY 1 5).flag POS_STAT.SSIBUSY 5 = true) ∧
    (let it : Item := { id := 1, stream := 5, wait := 1, body := List.replicate 44 0 }
     let s : State := { up with que := { up.que with created := [it] } }
     evalItems s 5 0 = [it] ∧ s.ven.pics = [] ∧ 2 * s.nowNs ≤ midTwiceOf s it.body + 200) ∧
    (let it : Item := { id := 1, stream := 5, wait := 1, body := List.replicate 44 0 }
     let s : State := { up with
       que := { up.que with created := [it] }
       now := 2 ^ 50 }
     let e := evalPosition 5 it.seq (midTwiceOf s it.body) s
     evalItems s 5 0 = [it] ∧ midTwiceOf s it.body + 200 < 2 * s.nowNs ∧
       (mapItem it.id (fun x => { x with
          body := putBody 28 e.1.posB (putBody 24 e.1.posA x.body)
          flags := x.flags ||| e.1.flags
          wait := x.wait - 1 }) e.2).ven.pics = []) := by
  decide

/-! `ToothWheels` -/

/-- Wheel 3 with 60 teeth in the state with code `st`, at tooth `k`. -/
def wheelIn (st k : Nat) : State :=
  ((up.set TWS_WCFG.TEETH 60 3).set TWS_WSTAT.STATE st 3).set TWS_WSTAT.TOOTH k 3

theorem wit_ToothWheels :
    (up.wheel 3).edges = [] ∧ (((wheelIn 1 0).setWheel 3 { edges := [7] }).wheel 3).edges = 7 :: [] ∧
    wheelState (wheelIn 1 0) 3 ≠ 3 ∧
    (let s := wheelIn 3 5
     wheelState s 3 = 3 ∧ s.get TWS_WSTAT.TOOTH 3 + wheelGap s 3 + 1 < wheelTeeth s 3) ∧
    (wheelState up 3 = 0 ∧ wheelState (wheelIn 3 5) 3 ≠ 0) ∧
    (let a := TWS_WCFG.reg.adr 3
     Served up a ∧ bitAt (0x80000007#32).toNat 31 = true ∧ (0x80000007#32).toNat % 8192 < 8 ∧
       4096 < (0x80001001#32).toNat % 8192 ∧ bitAt (up.rdA a) 31 = false ∧ 8 ≤ (0x80000008#32).toNat % 8192 ∧
       (0x80000008#32).toNat % 8192 ≤ 4096) ∧
    evalItems up 5 1 = [] ∧
    (let it : Item := { id := 1, stream := 5, wait := 2, body := List.replicate 44 0 }
     let s : State := { up.set TWS_ANGSEL.EN 1 5 with que := { up.que with created := [it] } }
     evalItems s 5 1 = [it] ∧ s.flag TWS_ANGSEL.EN 5 = true) := by decide

/-! `SchedulerAndLines` -/

theorem wit_SchedulerAndLines :
    ((up.entry 63).next = none ∧ (up.entry 63).pend = []) ∧
    (let s := up.setEntry 63 { kind := 1, words := [0], armed := true, next := some 15 }
     (s.entry 63).next = some 15 ∧ (s.entry 63).armed = true ∧ (s.entry 63).kind = 1 ∧ 15 < s.now8 + 16) ∧
    (let s := up.setEntry 63 { kind := 1, words := [0], armed := true, next := some 16 }
     (s.entry 63).next = some 16 ∧ s.now8 + 16 ≤ 16) ∧
    (let s := up.setEntry 63 { kind := 1, words := [0], armed := true, pend := [{ inst := 15 }] }
     (s.entry 63).pend = [{ inst := 15 }] ∧ (s.entry 63).armed = true ∧ bitsOf ((s.entry 63).word 0) 15 0 = 0) ∧
    (let s := up.setEntry 63 { kind := 1, words := [1], armed := true, pend := [{ inst := 15 }] }
     (s.entry 63).kind = 1 ∧ bitsOf ((s.entry 63).word 0) 15 0 = s.get TWS_ENTFIRES.FIRES 63 + 1) ∧
    (let a := TWS_ENTCTL.reg.adr 63
     let t := ((codedWrite a 0 up).set TWS_ENTCTL.DONE 0 63).set TWS_ENTFIRES.FIRES 0 63
     let ws := (List.range 7).map (fun k => t.rdA (a + 4 * k))
     let u := t.setEntry 63 { kind := bitsOf (ws.getD 0 0) 30 29, words := ws }
     Served up a ∧ mayArm u (schedMode u) 63 = false ∧ (u.entry 63).kind = (up.entry 63).kind) ∧
    up.tws.lines = [] ∧
    (let s : State := { up with tws := { up.tws with lines := [(0, 15)] } }
     s.tws.lines = (0, 15) :: [] ∧ 15 < s.now8 + 16 ∧ s.tws.lineAt = none) ∧
    (let s : State := { up with tws := { up.tws with lines := [(0, 16)] } }
     s.tws.lines = (0, 16) :: [] ∧ s.now8 + 16 ≤ 16) ∧
    (let s : State := { up.set TWS_LSMINPER.NS 1000 with tws := { up.tws with lines := [(0, 15)], lineAt := some 0 } }
     s.tws.lines = (0, 15) :: [] ∧ s.tws.lineAt = some 0 ∧ 15 < 0 + 8 * s.get TWS_LSMINPER.NS) := by decide

/-! `BeatMatrix` -/

theorem wit_BeatMatrix_events :
    up.fired = [] ∧
    (let s : State := { up with fired := [⟨0x10, 0, 0⟩], clk := { up.clk with coreUp := false } }
     s.fired = ⟨0x10, 0, 0⟩ :: [] ∧ s.clk.coreUp = false) ∧
    (let s : State := { up with fired := [⟨0x10, 0, 0⟩] }
     s.fired = [⟨0x10, 0, 0⟩] ∧ s.clk.coreUp = true ∧ unitHeld { s with fired := [] } 11 = false ∧
       pinLevelProducer { s with fired := [] } 0x10 = false ∧ beatsFrom { s with fired := [] } 0x10 = []) ∧
    consumerTakes up 5 = false ∧
    (let s := setBusy 0x60 true (up.set BTM_CSEL.PEND 1 0x60)
     consumerTakes s 0x60 = true ∧ conBusy s 0x60 = true ∧ s.flag BTM_CSEL.PEND 0x60 = true ∧ (s.con 0x60).held = none) ∧
    (let s := setBusy 0x60 true up
     consumerTakes s 0x60 = true ∧ conBusy s 0x60 = true ∧ s.flag BTM_CSEL.PEND 0x60 = false) ∧
    (up.con 0x1FF).held = none ∧
    (let lat : Latch := { time := 1, flags := 0, inst := 2 }
     let s := up.setCon 0x60 { held := some lat }
     (s.con 0x60).held = some lat ∧ conBusy s 0x60 = false) := by decide

theorem wit_BeatMatrix :
    Served up (BTM_FIRE.reg.adr 7) ∧
    (Served up (BTM_CSEL.reg.adr 0x1BF) ∧ consumerThere 0x1BF = false) ∧
    (Served up (BTM_CSEL.reg.adr 0x1FF) ∧ consumerThere 0x1FF = true ∧ pendFree 0x1FF = true ∧
      bitAt (0xC0000005#32).toNat 31 = true ∧ bitAt (0xC0000005#32).toNat 30 = true ∧
      bitAt (0xC0000005#32).toNat 29 = false) ∧
    Served up (BTM_BEAT.reg.adr 255) ∧ (Served up (BTM_CELL0.reg.adr 31) ∧ bitAt (5#32).toNat 31 = false) ∧
    (up.cell 31).counting = false ∧
    (let s := ((up.set BTM_CELL0.EN 1 31).set BTM_CELL0.FILT 1 31).setCell 31 { counting := true }
     (syncCells s).contains 31 = true ∧ (s.cell 31).counting = true ∧
       (s.setCell 31 { s.cell 31 with counting := false }).get BTM_CELL0.FILT 31 = 1) := by decide

/-! `TriggerAndStrobeOutputs` -/

theorem wit_TriggerAndStrobeOutputs :
    (up.trigOut 15).pulse = none ∧ (up.strobe 7).pulse = none ∧
    (let p : OutPulse := { lead := 1, trail := 17 }
     let s := up.setTrig 15 { pulse := some p }
     (s.trigOut 15).pulse = some p ∧ s.phys8 + 16 < p.trail) ∧
    (let p : OutPulse := { lead := 1, trail := 16, toggle := true }
     let s := up.setTrig 15 { pulse := some p }
     (s.trigOut 15).pulse = some p ∧ p.trail ≤ s.phys8 + 16) ∧
    (let p : OutPulse := { lead := 1, trail := 16 }
     let s := up.setStrobe 7 { pulse := some p }
     (s.strobe 7).pulse = some p ∧ p.trail ≤ s.phys8 + 16 ∧ p.dead = false ∧ p.cut = none ∧
       (seeGuard 7 s).flag OUT_SSTAT.TRIP 7 = false ∧ ((seeGuard 7 s).strobe 7).pulse = some p) ∧
    (let t := seeGuard 7 (up.set OUT_SCAP.CAP 0 7)
     t.get OUT_SCAP.CAP 7 = 0) ∧
    (let t := seeGuard 7 ((up.set OUT_SCAP.CAP 1 7).setStrobe 7 { level := 65536 })
     t.get OUT_SCAP.CAP 7 ≠ 0 ∧ t.flag OUT_SSTAT.TRIP 7 = false ∧ t.get OUT_SCAP.CAP 7 * 65536 ≤ (t.strobe 7).level ∧
       (t.strobe 7).pulse = none) ∧
    (let t := seeGuard 7 ((up.set OUT_SCAP.CAP 2 7).set OUT_SSTAT.TRIP 1 7)
     t.flag OUT_SSTAT.TRIP 7 = true ∧ 2 * (t.strobe 7).level ≤ t.get OUT_SCAP.CAP 7 * 65536) := by decide

/-! `AnalogOutputs` -/

theorem wit_AnalogOutputs :
    (Served up (OUT_AENA.reg.adr 0) ∧ analogThere up = true) ∧
    Served up (OUT_AVAL.reg.adr 3) ∧
    (Served up (OUT_ARNG.reg.adr 3) ∧ 5 ≤ bitsOf (0x00050000#32).toNat 18 16 ∧ bitsOf (0x00040000#32).toNat 18 16 < 5 ∧
      bitsOf (0x00040000#32).toNat 18 16 ≠ up.get OUT_ARNG.RANGE 3 ∧
      bitsOf (0#32).toNat 18 16 = (up.set OUT_ARNG.RANGE 0 3).get OUT_ARNG.RANGE 3) ∧
    ((up.set OUT_ARNG.RANGE 4 3).get OUT_ARNG.RANGE 3 = 4 ∧ up.get OUT_ARNG.RANGE 3 ≠ 4) := by decide

/-! `QueueCommands` -/

/-- Queue 0 in the state with code `k`, with rings of 16 slots at 0x1000 and 0x2000. -/
def queueIn (k : Nat) : State :=
  ((up.set QUE_CTX9.STATE k 0).set QUE_CTX0.DBASELO 0x1000 0).set QUE_CTX2.CBASELO 0x2000 0

theorem wit_QueueCommands_doorbells :
    (DoorbellServed up ∧ queueState up 16383 = 0) ∧
    (DoorbellServed (queueIn 3) ∧ queueState (queueIn 3) 0 = 3) ∧
    (DoorbellServed (queueIn 1) ∧ queueState (queueIn 1) 0 = 1 ∧
      descSlots (queueIn 1) 0 < ((17#32).toNat % 2 ^ 17 % (2 * descSlots (queueIn 1) 0) + 2 * descSlots (queueIn 1) 0 -
        (queueIn 1).get QUE_CTX7.CI 0 % (2 * descSlots (queueIn 1) 0)) % (2 * descSlots (queueIn 1) 0)) ∧
    (DoorbellServed (queueIn 2) ∧ queueState (queueIn 2) 0 = 2 ∧
      ((16#32).toNat % 2 ^ 17 % (2 * descSlots (queueIn 2) 0) + 2 * descSlots (queueIn 2) 0 -
        (queueIn 2).get QUE_CTX7.CI 0 % (2 * descSlots (queueIn 2) 0)) % (2 * descSlots (queueIn 2) 0) ≤
        descSlots (queueIn 2) 0) := by decide

theorem wit_QueueCommands :
    (let s := up.set QUE_QCMDSTAT.BUSY 1
     Served s 0x800020 ∧ s.flag QUE_QCMDSTAT.BUSY = true) ∧
    (Served (queueIn 0) 0x800020 ∧ (queueIn 0).flag QUE_QCMDSTAT.BUSY = false ∧ queueState (queueIn 0) 0 = 0 ∧
      contextValid (queueIn 0) 0 = true) ∧
    (Served (queueIn 1) 0x800020 ∧ (queueIn 1).flag QUE_QCMDSTAT.BUSY = false ∧ queueState (queueIn 1) 0 = 1 ∧
      (queueIn 1).queue 0 = {}) ∧
    (let s := (queueIn 2).set QUE_CTX9.REASON 6 0
     Served s 0x800020 ∧ s.flag QUE_QCMDSTAT.BUSY = false ∧ queueState s 0 = 2 ∧ s.get QUE_CTX9.REASON 0 = 6 ∧
       canMaster s = false) ∧
    (let s := (queueIn 2).set HBR_STAT.STATE 3
     Served s 0x800020 ∧ s.flag QUE_QCMDSTAT.BUSY = false ∧ queueState s 0 = 2 ∧ canMaster s = true ∧
       ((clearPaused 0 s).set QUE_CTX9.STATE 1 0).queue 0 = {}) := by decide

theorem wit_QueueCommands_registers :
    (queueState (queueIn 3) 0 = 3) ∧
    Served up (0x900000 + 0x40 * 16383 + 4 * 5) ∧ Served up (0x801000 + 0x20 * 63 + 4 * 5) ∧
    Served up (0x801800 + 4 * 31) ∧
    (Served (queueIn 1) 0x800080 ∧ liveQueues (queueIn 1) ≠ []) ∧
    (Served (upIn 7) 0x800080 ∧ modeNow (upIn 7) = 7 ∧ (upIn 7).get GLB_MODESTAT.PHASE = 0 ∧ liveQueues (upIn 7) = [] ∧
      (upIn 7).flag QUE_BIST.RUNNING = false) ∧
    ((upIn 7).set QUE_BIST.RUNNING 1).flag QUE_BIST.RUNNING = true := by decide

/-! `ItemsAndTags` -/

/-- A MARK of queue 0 that is due. -/
def oneMark : Item := { kind := 7, ended := true }

/-- A frame item of stream 2 with `n` bytes of payload. -/
def oneFrame (n : Nat) : Item := { kind := 1, mapIx := 4, stream := 2, seq := 5, ended := true, payload := List.replicate n 7 }

/-- Queue 0 ACTIVE under MASTER, with the hidden state `u`, and the map entry of stream 2 to it. -/
def queueWith (u : QueueSt) : State :=
  (((queueIn 1).set HBR_STAT.STATE 3).wrA 0x801050 0x80000000).setQueue 0 u

theorem wit_ItemsAndTags_starts :
    up.que.created = [] ∧
    (let s : State := { queueWith {} with que := { (queueWith {}).que with created := [oneFrame 3] } }
     let t : State := { s with que := { s.que with created := [] } }
     s.que.created = [oneFrame 3] ∧ bitAt (mapWord t (oneFrame 3)) 31 = true ∧
       chooseQueue t (mapWord t (oneFrame 3)) 5 = 0 ∧ queueState t 0 = 1 ∧ t.get QUE_CTX4.TYPE 0 = 0 ∧ t.queue 0 = {} ∧
       t.flag QUE_CTX4.POLICY 0 = false ∧ hasPayload (oneFrame 3).kind = true) ∧
    (let s : State := { up with que := { up.que with created := [oneFrame 3] } }
     let t : State := { s with que := { s.que with created := [] } }
     s.que.created = [oneFrame 3] ∧ bitAt (mapWord t (oneFrame 3)) 31 = false) ∧
    (let t := queueWith {}
     bitAt (mapWord t (oneFrame 3)) 31 = true ∧ queueState (t.set QUE_CTX9.STATE 2 0) 0 = 2 ∧
       queueState (t.set QUE_CTX9.STATE 0 0) 0 = 0 ∧ (t.set QUE_CTX4.TYPE 1 0).get QUE_CTX4.TYPE 0 = 1) := by decide

theorem wit_ItemsAndTags_descriptors :
    up.que.arrived.find? (fun a => a.1 == 0) = none ∧
    (let s : State := { up with que := { up.que with arrived := [(0, 3, [1, 2])] } }
     s.que.arrived.find? (fun a => a.1 == (0 : Fin 16384).val) = some (0, 3, [1, 2])) ∧
    ((up.queue 0).item = none ∧ (up.queue 0).waiting = []) ∧
    (let s := queueWith { waiting := [oneFrame 3] }
     (s.queue 0).item = none ∧ (s.queue 0).waiting = oneFrame 3 :: [] ∧ (oneFrame 3).kind ≠ 7) ∧
    (let it : Item := { oneFrame 65 with descs := [(0, 4096, 64)] }
     let s := queueWith { item := some it }
     (s.queue 0).item = some it ∧ it.descs ≠ [] ∧ capacity it < it.payload.length) := by decide

theorem wit_ItemsAndTags_ends :
    (canMaster up = false ∧ queueState (queueIn 3) 0 = 3) ∧
    (let s := queueWith { item := some oneMark, ready := [⟨0, []⟩] }
     canMaster s = true ∧ queueState s 0 ≠ 3 ∧ (s.queue 0).item = some oneMark ∧ hasPayload oneMark.kind = false ∧
       oneMark.payload = [] ∧ (s.queue 0).ready = ⟨0, []⟩ :: []) ∧
    (let it : Item := { oneFrame 64 with descs := [(0, 4096, 64)], written := 64 }
     let s := queueWith { item := some it }
     canMaster s = true ∧ queueState s 0 ≠ 3 ∧ ((fillOpen 0 s).queue 0).item = some it ∧ hasPayload it.kind = true ∧
       it.descs ≠ [] ∧ it.wait = 0 ∧ it.ended = true ∧ it.payload.length ≤ capacity it) := by decide

theorem wit_ItemsAndTags_errors :
    (up.queue 0).drop = none ∧
    (let d : DropRun := { cause := 1, seq := 2, stream := 3, count := 1, time := 0 }
     let s := queueWith { drop := some d, ready := [⟨0, []⟩] }
     (s.queue 0).item = none ∧ (s.queue 0).drop = some d ∧ (s.queue 0).ready = ⟨0, []⟩ :: [] ∧ queueState s 0 = 1 ∧
       canMaster s = true) ∧
    (let s := ((queueWith {}).set QUE_CTX4.IEN 1 0).set QUE_CTX9.PENDING 2 0
     s.flag QUE_CTX4.IEN 0 = true ∧ 0 < s.get QUE_CTX9.PENDING 0) ∧
    (queueWith {}).flag QUE_CTX4.IEN 16383 = false := by decide

/-! `BridgeStates` -/

theorem wit_BridgeStates :
    up.get HBR_STAT.STATE ≠ 0 ∧
    (let s := up.set HBR_STAT.STATE 0
     s.get HBR_STAT.STATE = 0 ∧ s.clk.hostUp = true ∧ s.clk.testHold = false ∧ s.hbr.linkUp = true) ∧
    (let s : State := { up.set HBR_STAT.STATE 0 with hbr := {} }
     s.get HBR_STAT.STATE = 0 ∧ s.hbr.linkUp = false) ∧
    up.get HBR_STAT.STATE ≠ 1 ∧ (up.set HBR_STAT.STATE 1).get HBR_STAT.STATE = 1 ∧
    up.flag HBR_STAT.BME = false ∧ (up.set HBR_STAT.BME 1).flag HBR_STAT.BME = true ∧
    (up.get HBR_STAT.STATE = 2 ∧ up.flag HBR_STAT.D3 = false) ∧ (up.set HBR_STAT.D3 1).flag HBR_STAT.D3 = true ∧
    (let s := up.set HBR_STAT.BME 1
     s.flag HBR_STAT.D3 = false ∧ s.flag HBR_STAT.BME = true) ∧
    (let s := up.set HBR_STAT.STATE 4
     s.get HBR_STAT.STATE ≠ 2 ∧ s.get HBR_STAT.STATE ≠ 3 ∧ s.get HBR_STAT.STATE = 4) ∧ up.get HBR_STAT.STATE ≠ 4 ∧
    (up.get HBR_STAT.STATE = 2 ∧ (0xFFC#12).toNat / 4 * 4 ≠ 0x78) := by decide

/-! `BridgeRequestsAndMessages` -/

/-- The bridge in MASTER with MSI-X enabled, vector 5 unmasked later, and the given pending bits. -/
def masterWith (pba : List (Nat × Bool)) : State :=
  { up.set HBR_STAT.STATE 3 with hbr := { up.hbr with msixEn := true, pba := pba } }

/-- MASTER, queue 0 ACTIVE, with one read of tag 7 outstanding. -/
def readOut : State := setReads [⟨7, 0, 0, 1⟩] ((queueIn 1).set HBR_STAT.STATE 3)

theorem wit_BridgeRequestsAndMessages :
    up.hbr.reads.find? (fun r => r.tag == (7 : Fin 1024).val) = none ∧
    (readOut.hbr.reads.find? (fun r => r.tag == (7 : Fin 1024).val) = some ⟨7, 0, 0, 1⟩ ∧ canMaster readOut = true ∧
      queueState readOut 0 = 1 ∧ readOut.hbr.ctoOff = false) ∧
    (let s : State := { readOut with hbr := { readOut.hbr with ctoOff := true } }
     s.hbr.ctoOff = true) ∧
    hostOpen up = true ∧ (up.set HBR_STAT.STATE 1).get HBR_STAT.STATE < 2 ∧
    (2 ≤ up.get HBR_STAT.STATE ∧ (up.set HBR_STAT.D3 1).flag HBR_STAT.D3 = true) ∧
    (let s := masterWith []
     hostOpen s = true ∧ s.hbr.pba = [] ∧ s.hbr.msixEn = true) ∧
    (let s := masterWith [(5, true)]
     hostOpen s = true ∧ canMaster s = true ∧ s.hbr.msixEn = true ∧ s.hbr.msixMask = false ∧
       s.hbr.pba = [((5 : Fin 2048).val, true)]) ∧
    canMessage up = false ∧
    (let s : State := { masterWith [] with hbr := { (masterWith []).hbr with heldMsgs := [⟨0, 3, 9⟩] } }
     canMessage s = true ∧ s.hbr.heldMsgs = [⟨0, 3, 9⟩]) := by decide

/-! `FarAccesses` -/

/-- The node with ID 2. -/
def node2 : State := (up.set DRL_NODE.VALID 1).set DRL_NODE.ID 2

theorem wit_FarAccesses :
    hostOpen (up.set HBR_STAT.STATE 1) = false ∧
    (let s : State := { up with clk := { up.clk with coreUp := false } }
     hostOpen s = true ∧ s.clk.coreUp = false) ∧
    (hostOpen up = true ∧ up.clk.coreUp = true ∧ ¬ (8 = 4 ∧ (4#28).toNat % 4 = 0 ∨ 8 = 8 ∧ (4#28).toNat % 8 = 0)) ∧
    ¬ (([1, 2] : List Word).length = 1 ∧ (4#28).toNat % 4 = 0 ∨ ([1, 2] : List Word).length = 2 ∧ (4#28).toNat % 8 = 0) ∧
    (hostOpen node2 = true ∧ node2.clk.coreUp = true ∧ (0x2FFFC#28).toNat % 4 = 0 ∧
      nodeId node2 = some ((0x2FFFC#28).toNat / 65536)) ∧
    (nodeId node2 ≠ some ((0xFFFFFF8#28).toNat / 65536) ∧ (0xFFFFFF8#28).toNat % 8 = 0) ∧
    up.hbr.far.find? (fun r => r.id == 3) = none ∧
    (let s : State := { up with hbr := { up.hbr with far := [{ id := 3 }] } }
     s.hbr.far.find? (fun r => r.id == 3) = some { id := 3 }) ∧
    up.flag HBR_FARLOG1.VALID = false ∧ up.get HBR_BASIC.POLLINT = 0 ∧
    (let s : State := { up.set HBR_BASIC.POLLINT 5 with hbr := { up.hbr with far := [{ poll := some 2 }] } }
     s.get HBR_BASIC.POLLINT ≠ 0 ∧ s.hbr.far.any (fun r => r.poll.isSome) = true) ∧
    (let s := up.set HBR_BASIC.POLLINT 5
     s.get HBR_BASIC.POLLINT ≠ 0 ∧ s.hbr.far.any (fun r => r.poll.isSome) = false ∧
       (∀ k, k < 64 → s.flag HBR_POLL.EN k = false)) ∧
    (let s := (up.set HBR_POLL.EN 1 63).set HBR_POLL.NODE 4095 63
     s.flag HBR_POLL.EN 63 = true ∧ nodeId s ≠ some (s.get HBR_POLL.NODE 63)) := by decide

/-! `EncoderContextsAndCores` -/

/-- Encoder context 31 in the state with code `k`, with a pool and core 7. -/
def ctxIn (k : Nat) : State :=
  (((up.set VEN_CSTAT.STATE k 31).set VEN_CRBASELO.BASE 0x1000 31).set VEN_CRSIZE.SIZE 1 31).set VEN_CCFG.CORES 128 31

/-- Core 7 in the state with code `k`. -/
def coreIn (k : Nat) : State := (ctxIn 1).set VEN_CORESTAT.STATE k 7

/-- A complete picture of context 31 in one segment, whose encoding has begun. -/
def pictureHeld : Picture := {
  ctx := 31
  order := 1
  feed := 0
  stream := 0
  seq := 0
  width := 128
  height := 64
  code := 0x30
  flags := 0
  body := []
  complete := true
  started := true
  segs := [0] }

theorem wit_EncoderContexts :
    ({ up with fuses := { up.fuses with variant := .s } } : State).fuses.variant ≠ .f ∧ up.fuses.variant = .f ∧
    (let s := ctxIn 0
     Served s (VEN_CCFG.reg.adr 31) ∧ s.flag VEN_CCFG.EN 31 = false ∧ bitAt (0x80008000#32).toNat 31 = true ∧
       ctxState s 31 = 0 ∧ poolBase s 31 % 4096 = 0 ∧ poolBase s 31 ≠ 0 ∧ s.get VEN_CRSIZE.SIZE 31 ≠ 0) ∧
    (up.flag VEN_CCFG.EN 31 = false ∧ poolBase up 31 = 0) ∧
    (let s := (ctxIn 1).set VEN_CCFG.EN 1 31
     Served s (VEN_CCFG.reg.adr 31) ∧ s.flag VEN_CCFG.EN 31 = true ∧
       ((0x80000000#32).toNat &&& 0x66C0FF00) ≠ (s.get VEN_CCFG.reg 31 &&& 0x66C0FF00)) ∧
    (let s := (ctxIn 1).set VEN_CCFG.EN 1 31
     let v : Word := BitVec.ofNat 32 ((s.get VEN_CCFG.reg 31 &&& 0x66C0FF00))
     (v.toNat &&& 0x66C0FF00) = (s.get VEN_CCFG.reg 31 &&& 0x66C0FF00) ∧ bitAt v.toNat 31 = false ∧ ctxState s 31 = 1) ∧
    (ctxState (ctxIn 3) 31 = 3 ∧ ctxPics (ctxIn 3) 31 = []) ∧
    (let s := (ctxIn 2).set HBR_STAT.STATE 3
     Served s (VEN_CCTL.reg.adr 31) ∧ ctxState s 31 = 2 ∧ canMaster s = true) := by decide

theorem wit_EncoderPictures :
    (ctxState up 31 = 0 ∧ (up.vctx 31).offered = (up.pipe (up.get VEN_CCFG.PIPE 31)).feed) ∧
    (let s := ((ctxIn 1).set PIX_STAT.STATE 3 0).setPipe 0 { feed := 9 }
     let t := s.setVctx 31 { latchW := 0, latchH := 0 }
     let p := t.get VEN_CCFG.PIPE 31
     ctxState t 31 ≠ 0 ∧ pipeState t p = 3 ∧ (t.vctx 31).offered ≠ (t.pipe p).feed ∧
       outWidth (setView t p) p (pipeFrame t p) = (t.vctx 31).latchW ∧
       outHeight (setView t p) p (pipeFrame t p) (pipeBlock t p) = (t.vctx 31).latchH) ∧
    ctxState (ctxIn 2) 31 = 2 ∧ ctxState (ctxIn 3) 31 = 3 ∧
    (let s : State := { ctxIn 1 with clk := { up.clk with vencUp := false } }
     ctxState s 31 = 1 ∧ s.clk.vencUp = false) ∧
    (let s : State := { ctxIn 1 with ven := { pics := [pictureHeld, { pictureHeld with order := 2 }] } }
     ctxState s 31 = 1 ∧ s.clk.vencUp = true ∧ 2 ≤ (ctxPics s 31).length) ∧
    (ctxState (ctxIn 1) 31 = 1 ∧ (ctxIn 1).clk.vencUp = true ∧ (ctxPics (ctxIn 1) 31).length < 2) := by decide

theorem wit_EncoderCores :
    (coreState (coreIn 0) 7 ≠ 1 ∧ coreState (coreIn 0) 7 = 0 ∧ (coreIn 1).ven.pics.find? (coreMay (coreIn 1) 7) = none) ∧
    (let s : State := { coreIn 1 with ven := { pics := [pictureHeld] } }
     coreState s 7 = 1 ∧ s.ven.pics.find? (coreMay s 7) = some pictureHeld ∧ pictureHeld.started = true ∧
       nextSeg s pictureHeld = some 0 ∧ canMaster s = false) ∧
    (coreState (coreIn 4) 7 ≠ 2 ∧ coreState (coreIn 4) 7 ≠ 3 ∧ coreState (coreIn 4) 7 = 4) ∧
    (coreState (coreIn 2) 7 = 2 ∧ (coreIn 2).flag VEN_CORECTL.PARK 7 = false ∧ (coreIn 2).ven.pics = []) ∧
    Served (coreIn 2) (VEN_CORECTL.reg.adr 7) ∧ (1#32).toNat % 2 = 1 ∧ (0#32).toNat % 2 = 0 := by decide

/-! `RingPorts` -/

/-- A Drumline message of type `ty` with the FLAGS octet `fl`, from node `src` to node `dst`. -/
def ringFrameOf (ty fl src dst : Nat) (pl : List Nat) : List Byte :=
  (sealFrame ([0x03, 0x1F, 0x9E, 0x44, 0x52, 0x4D, 2, 0x1F, 0x9E, 0, src / 256, src % 256, 0x88, 0xB5, 0x10, ty, fl, 0] ++
    beBytes 2 src ++ beBytes 2 dst ++ [0, 0, 0, 0] ++ beBytes 2 pl.length ++ [0, 3] ++ pl)).map (BitVec.ofNat 8)

/-- Node 2 in the node state with code `n`, both ring ports up and in the port state with code `p`. -/
def ringNode (n p : Nat) : State :=
  ((((((up.set DRL_NODE.VALID 1).set DRL_NODE.ID 2).set DRL_NODE.STATE n).set DRL_PSTAT.STATE p 0).set DRL_PSTAT.STATE p 1).set
    DRL_PSTAT.LINK 1 0).set DRL_PSTAT.LINK 1 1

theorem wit_RingPorts_links :
    ringUp (ringNode 5 3) 1 = true ∧
    (let s := (up.set TIM_LEVEL.EXPERT 1).set DRL_PCFG.RATE 1 1
     let t := s.set CLK_RST.RING 0
     ringPort t 1 = true ∧ bitAt (t.get CLK_RST.RING) 1 = false ∧ ringUp t 1 = false ∧ t.flag TIM_LEVEL.EXPERT = true ∧
       t.get DRL_PCFG.RATE 1 = 1) ∧
    ringUp up 0 = false ∧ (ringUp (ringNode 1 3) 1 = true ∧ nodeState (ringNode 1 3) < 2) := by decide

theorem wit_RingPorts_frames :
    (ringPort (ringNode 5 3) 0 = true ∧ ringUp (ringNode 5 3) 0 = true) ∧ 128 < (List.replicate 129 (0 : Byte)).length ∧
    etherType (natBytes (List.replicate 12 0 ++ [0x88, 0x08])) = 0x8808 ∧
    (let f := ringFrameOf 0x0B 0x80 7 0 []
     f.length ≤ 128 ∧ fcsGood (natBytes f) = true ∧ isRingMsg (natBytes f) = true ∧ 4 ≤ msgType (natBytes f) ∧
       msgType (natBytes f) ≤ 15 ∧ ringPort (ringNode 5 3) (1 - 0) = true ∧ ringState (ringNode 5 3) 0 = 3 ∧
       ringState (ringNode 5 3) (1 - 0) = 3 ∧ msgBcast (natBytes f) = true ∧
       nodeId (ringNode 5 3) ≠ some (msgSrc (natBytes f)) ∧ msgHops (natBytes f) ≠ 4095) ∧
    (ringState (ringNode 0 1) 0 = 1 ∧ ringState (ringNode 0 1) 1 = 1 ∧ ringUp (ringNode 0 1) 1 = true ∧
      etherType (natBytes (ringFrameOf 0x0B 0x80 7 0 [])) ≠ 0x8808) := by decide

theorem wit_RingPorts_messages :
    msgForMe (ringNode 5 0) 0 8 (natBytes (ringFrameOf 8 0x80 7 0 [])) = false ∧ isRoot (ringNode 5 3) = false ∧
    msgForMe (ringNode 5 3) 0 8 (natBytes (ringFrameOf 8 0x80 7 0 [0, 0, 0, 9])) = true ∧
    (let s := (ringNode 4 2).set DRL_NET.RINGCLOSED 1
     isRoot s = true ∧ s.flag DRL_NET.RINGCLOSED = true ∧ ringState s 1 = 2) ∧
    (msgForMe (ringNode 4 3) 1 9 (natBytes (ringFrameOf 9 0x80 7 0 [1])) = true ∧ isRoot (ringNode 4 3) = true) ∧
    msgForMe (ringNode 5 3) 0 10 (natBytes (ringFrameOf 10 0 0 2 [1])) = true ∧
    ringState (ringNode 5 3) 0 ≠ 2 ∧
    (ringPort (ringNode 5 2) 1 = true ∧ ringState (ringNode 5 2) 1 = 2 ∧ nodeState (ringNode 5 2) = 5) ∧
    (let s : State := { ringNode 4 3 with drl := { linkups := [(9, 1, 0)], wait := 2 } }
     isRoot s = true ∧ s.drl.wait = 2 ∧ s.drl.linkups = [(9, 1, 0)] ∧ nodeId s ≠ some 9 ∧ ringState s 0 = 3) := by decide

/-! `RingRootsAndIds` -/

theorem wit_RingRoots_states :
    msgForMe (ringNode 0 3) 0 2 (natBytes (ringFrameOf 2 0 7 0 [])) = false ∧ nodeState (ringNode 5 3) ≠ 3 ∧
    nodeState (ringNode 5 3) ≠ 4 ∧ isRoot (ringNode 3 3) = true ∧ ringState (ringNode 5 1) 0 < 2 ∧
    (Served up (DRL_CFG.reg.adr 0) ∧ up.flag DRL_CFG.EN = false ∧ bitAt (0x4000#32).toNat 31 = false ∧
      (0x4000#32).toNat % 4 = 0 ∧ isRoot up = false ∧ nodeState up = 0) ∧
    (let s := up.set DRL_PSTAT.STATE 1 0
     Served s (DRL_CFG.reg.adr 0) ∧ bitAt (0x80008000#32).toNat 31 = true ∧ ringState s 0 = 1 ∧ ringState s 1 = 0) ∧
    nodeState (ringNode 2 3) ≠ 1 ∧
    (let s := (ringNode 1 3).set DRL_CFG.MODE 2
     nodeState s = 1 ∧ s.get DRL_CFG.MODE = 2) ∧
    (nodeState (ringNode 2 3) = 2 ∧ (ringNode 2 3).drl.claimSeen = false) ∧
    (let s : State := { ringNode 2 3 with drl := { claimSeen := true, table := [(9, 4, false)] } }
     nodeState s = 2 ∧ s.drl.claimSeen = true ∧ s.drl.table.any (fun e => e.2.1 == 0) = false) ∧
    (ringUp (ringNode 4 3) 1 = true ∧ (ringNode 4 3).flag DRL_NET.RINGCLOSED = false) ∧ isRoot (ringNode 5 3) = false ∧
    (nodeState (ringNode 5 3) = 5 ∧ (ringNode 5 3).get DRL_CFG.MODE = 0) ∧ nodeState (ringNode 3 3) = 3 := by decide

theorem wit_RingRoots_beacons :
    (let f := natBytes (ringFrameOf 1 0x80 9 0 ([0, 0, 0, 0, 0, 0, 0, 9, 200, 2, 0, 10] ++ List.replicate 8 0))
     ringPort (ringNode 4 3) 1 = true ∧ fcsGood f = true ∧ isRingMsg f = true ∧ msgType f = 1 ∧
       2 ≤ ringState (ringNode 4 3) 1 ∧ nodeState (ringNode 4 3) ≠ 0 ∧
       beNat (sliceOf (msgPayload f) 0 8) ≠ (ringNode 4 3).fuses.dsn ∧
       (ringNode 4 3).get DRL_CFG.PRIO < byteAt (msgPayload f) 8) ∧
    (let f := natBytes (ringFrameOf 1 0x80 9 0 ([0, 0, 0, 0, 0, 0, 0, 9, 5, 2, 0, 10] ++ List.replicate 8 0))
     byteAt (msgPayload f) 8 < (ringNode 4 3).get DRL_CFG.PRIO) ∧
    (let f := natBytes (ringFrameOf 1 0x80 9 0 (dsnBytes up ++ [5, 2, 0, 10] ++ List.replicate 8 0))
     beNat (sliceOf (msgPayload f) 0 8) = (ringNode 4 3).fuses.dsn ∧ isRoot (ringNode 4 3) = true ∧
       (ringNode 4 3).drl.wait = 0) := by decide

theorem wit_RingRoots_messages :
    (let s := ((ringNode 5 3).set DRL_NODE.VALID 0).set DRL_PSTAT.STATE 3 0
     let t : State := { s with fuses := { s.fuses with variant := .e } }
     msgForMe t 0 3 (natBytes (ringFrameOf 3 0x80 7 0 [0, 5, 0, 0])) = true ∧ isRoot t = false ∧ nodeId t = none ∧
       ringPort t (1 - 0) = false) ∧
    (msgForMe (ringNode 3 3) 0 4 (natBytes (ringFrameOf 4 0 7 2 [0, 5, 1, 0])) = true ∧ nodeState (ringNode 3 3) = 3 ∧
      byteAt (msgPayload (natBytes (ringFrameOf 4 0 7 2 [0, 5, 1, 0]))) 2 ≠ 0) ∧
    (msgForMe (ringNode 4 3) 0 5 (natBytes (ringFrameOf 5 0x40 0 2 [0, 0, 0, 0, 0, 0, 0, 9])) = true ∧
      nodeState (ringNode 4 3) = 4 ∧ tableId (ringNode 4 3) 9 = none) ∧
    (let s : State := { ringNode 4 3 with drl := { table := [(9, 4, false)] } }
     tableId s 9 = some 4) ∧
    (msgForMe (ringNode 5 3) 0 6 (natBytes (ringFrameOf 6 0x80 7 0 [0, 0, 0, 0, 0, 0, 0, 9, 0, 4, 0, 0])) = true ∧
      beNat (sliceOf (msgPayload (natBytes (ringFrameOf 6 0x80 7 0 [0, 0, 0, 0, 0, 0, 0, 9, 0, 4, 0, 0]))) 0 8) ≠
        (ringNode 5 3).fuses.dsn ∧ (ringNode 5 3).hbr.far = []) ∧
    (msgForMe (ringNode 5 3) 0 7 (natBytes (ringFrameOf 7 0x80 7 0 [0, 0, 0, 0, 0, 0, 0, 9, 0, 4, 0, 0])) = true ∧
      isRoot (ringNode 5 3) = false) ∧
    (msgForMe (ringNode 5 3) 0 2 (natBytes (ringFrameOf 2 0 7 0 [0, 0, 0, 0, 0, 0, 0, 9, 0xFF, 0xFF, 0, 0])) = true ∧
      beNat (sliceOf (msgPayload (natBytes (ringFrameOf 2 0 7 0 [0, 0, 0, 0, 0, 0, 0, 9, 0xFF, 0xFF, 0, 0]))) 8 2) =
        0xFFFF) ∧
    nodeState (ringNode 1 3) < 2 ∧
    (let s := (ringNode 5 3).set DRL_PSTAT.STATE 0 1
     2 ≤ nodeState s ∧ ringState s 0 = 3 ∧ ringState s 1 = 0) ∧
    (let s : State := { ringNode 5 3 with drl := { nodeUpDue := true } }
     nodeId s = some 2 ∧ s.drl.nodeUpDue = true ∧ 2 ≤ nodeState s) ∧ nodeId up = none := by decide

set_option maxRecDepth 100000 in
theorem wit_RingRoots_free :
    freeId (ringNode 4 3) = some 0 := by rfl

/-! `RingEventsAndRemoteAccesses` -/

theorem wit_RingEvents :
    msgForMe (ringNode 5 3) 0 11 (natBytes (ringFrameOf 12 0x80 7 0 [])) = false ∧
    (msgForMe (ringNode 5 3) 0 11 (natBytes (ringFrameOf 11 0x80 7 0 (List.replicate 24 0))) = true ∧
      (ringNode 5 3).drl.sched.length < 256 ∧
      ringNs (sliceOf (msgPayload (natBytes (ringFrameOf 11 0x80 7 0 (List.replicate 24 0)))) 14 10) * 4294967296 <
        (ringNode 5 3).now + 4 * 4294967296) ∧
    (let f := natBytes (ringFrameOf 11 0x80 7 0 (List.replicate 22 0 ++ [1, 0]))
     msgForMe (ringNode 5 3) 0 11 f = true ∧
       (ringNode 5 3).now + 4 * 4294967296 ≤ ringNs (sliceOf (msgPayload f) 14 10) * 4294967296) ∧
    (let e : RingEvent := { num := 7, src := 1, occ := 0, pres := 1, unsync := false }
     let s : State := { ringNode 5 3 with drl := { sched := List.replicate 256 e } }
     256 ≤ s.drl.sched.length) ∧
    (∀ e ∈ up.drl.sched, up.now + 2 * 4294967296 ≤ e.pres * 4294967296) ∧
    (let e : RingEvent := { num := 7, src := 1, occ := 0, pres := 1, unsync := false }
     let s : State := { (up.set DRL_EMAP.EN 1 3).set DRL_EMAP.NUM 7 3 with drl := { sched := [e] } }
     s.drl.sched = [e] ∧ e.pres * 4294967296 < s.now + 2 * 4294967296 ∧
       (∀ i, i < 64 → (s.flag DRL_EMAP.EN i = true ∧ s.get DRL_EMAP.NUM i = e.num ↔ i = 3))) ∧
    Served up 0xE20070 := by decide

theorem wit_RingRemotes :
    msgForMe (ringNode 5 3) 0 12 (natBytes (ringFrameOf 12 0 7 2 [0, 0, 0, 4, 1, 0, 0, 0])) = true ∧
    msgForMe (ringNode 5 3) 0 14 (natBytes (ringFrameOf 14 0 7 2 [0, 0, 0, 4, 1, 0, 0, 0, 0, 0, 0, 1])) = true ∧
    (let f := natBytes (ringFrameOf 12 0 7 2 [0, 0, 0, 4, 1, 0, 0, 0])
     byteAt (msgPayload f) 4 = 1 ∧ beNat (sliceOf (msgPayload f) 0 4) % 4 = 0) ∧
    (ringNode 5 3).flag DRL_CFG.REMRD = true ∧ (ringNode 5 3).flag DRL_CFG.REMWR = false ∧
    ((ringNode 5 3).set DRL_CFG.REMRD 0).flag DRL_CFG.REMRD = false ∧
    ((ringNode 5 3).set DRL_CFG.REMWR 1).flag DRL_CFG.REMWR = true ∧ (ringNode 5 3).hbr.far = [] ∧
    (let f := natBytes (ringFrameOf 13 0 7 2 [0, 0, 0, 4, 1, 2, 0, 0])
     let r : FarReq := { flying := true, node := 7 }
     let s : State := { ringNode 5 3 with hbr := { up.hbr with far := [r] } }
     msgForMe s 0 13 f = true ∧ s.hbr.far = [r] ∧ r.flying = true ∧ r.isWrite = false ∧ r.node = msgSrc f ∧
       r.id % 65536 = msgTag f ∧ byteAt (msgPayload f) 5 = 2) ∧
    byteAt (msgPayload (natBytes (ringFrameOf 13 0 7 2 [0, 0, 0, 4, 1, 1, 0, 0]))) 5 = 1 ∧
    msgForMe (ringNode 5 3) 0 15 (natBytes (ringFrameOf 15 0 7 2 [0, 0, 0, 4, 1, 0, 0, 0])) = true ∧
    (let r : FarReq := { retry := true }
     let s : State := { up with hbr := { up.hbr with far := [r] } }
     s.hbr.far = [r] ∧ r.retry = true) ∧
    up.hbr.far.find? (fun r => r.id == 0 && r.retry) = none := by decide

/-! `BellwireFrames` -/

/-- The Bellwire controller in the state with code `k`, slot 9. -/
def busIn (k : Nat) : State := ((up.set BWR_STAT.STATE k).set BWR_CFG.SLOT 9).set BWR_CFG.EN 1

/-- An addressed EVENT request of source `k` with PRIO `p`. -/
def bellReq (k p : Nat) : BwReq := { src := k, bytes := bwHeader p 0 3 0 1 ++ [7] }

theorem wit_BellwireFrames_bus :
    (bwState (busIn 1) = 1 ∧ (busIn 1).bwr.reqs.any (fun r => r.src == 17) = false) ∧ bwState (busIn 4) = 4 ∧
    (bwState (busIn 2) ≠ 1 ∧ bwState (busIn 2) ≠ 4 ∧ bwState (busIn 2) = 2) ∧ bwState (busIn 5) ≠ 2 ∧
    (let s : State := { busIn 2 with bwr := { reqs := [bellReq 3 5, bellReq 4 2] } }
     bwState s = 2 ∧ bwNext s = some (bellReq 4 2) ∧ s.bwr.reqs = [bellReq 3 5, bellReq 4 2] ∧
       (bellReq 3 5).src < (bellReq 4 2).src ∧ (bellReq 4 2).src < 17) ∧
    bwState (busIn 3) = 3 ∧
    (let s : State := { busIn 3 with bwr := { reqs := [bellReq 3 5], cur := some (bellReq 3 5) } }
     bwState s = 3 ∧ s.bwr.cur = some (bellReq 3 5) ∧ (bellReq 3 5).src < 17 ∧ bwBcast (bellReq 3 5).bytes = false ∧
       s.bwr.reqs.any (fun q => q.src == (bellReq 3 5).src) = true) := by decide

theorem wit_BellwireFrames_received :
    (let f : List Byte := [1, 1, 7, 0]
     bwState (busIn 4) = 4 ∧ crc8 ((natBytes f).take (bwLen (natBytes f) + 2)) ≠
       byteAt (natBytes f) (bwLen (natBytes f) + 2)) ∧
    (let f : List Byte := (bwFrame (bwHeader 7 0 9 2 0)).map (BitVec.ofNat 8)
     (natBytes f).length = bwLen (natBytes f) + 3 ∧
       crc8 ((natBytes f).take (bwLen (natBytes f) + 2)) = byteAt (natBytes f) (bwLen (natBytes f) + 2) ∧
       bwBcast (natBytes f) = false ∧ bwDst (natBytes f) = (busIn 4).get BWR_CFG.SLOT ∧ bwCmd (natBytes f) = 2 ∧
       bwLen (natBytes f) = 0) ∧
    (Served (busIn 2) 0xE80300 ∧ (busIn 2).flag BWR_TXCTL.BUSY = false) ∧
    (Served ((busIn 2).set BWR_TXCTL.BUSY 1) 0xE80300 ∧ ((busIn 2).set BWR_TXCTL.BUSY 1).flag BWR_TXCTL.BUSY = true) ∧
    Served up 0xE80320 ∧ Served up 0xE80100 := by decide

/-! `BellwireRecovery` -/

theorem wit_BellwireRecovery :
    bwState (busIn 0) = 0 ∧ (bwState (busIn 4) ≠ 0 ∧ bwState (busIn 4) ≠ 5) ∧ (busIn 4).bwr.cur = none ∧
    (let s : State := { busIn 3 with bwr := { cur := some (bellReq 3 5) } }
     s.bwr.cur = some (bellReq 3 5)) ∧
    (bwState (busIn 3) ≠ 1 ∧ bwState (busIn 3) ≠ 2) ∧ bwState (busIn 2) = 2 ∧
    (let s : State := { busIn 5 with bwr := { striking := true } }
     bwState s = 5 ∧ s.bwr.striking = true) ∧
    (bwState (busIn 5) = 5 ∧ (busIn 5).bwr.striking = false ∧ (busIn 5).bwr.strikes < 3) ∧
    (let s : State := { busIn 5 with bwr := { strikes := 3 } }
     3 ≤ s.bwr.strikes) ∧
    (busIn 2).bwr.retry = false ∧
    (let s : State := { busIn 2 with bwr := { retry := true } }
     s.bwr.retry = true ∧ bwState s = 2) := by decide

/-! `BoundaryScanAndErrors` -/

/-- The TAP in state `t` with instruction `i`. -/
def tapIn (t : TapState) (i : Nat) : State := { up with jtag := { tap := t, ir := i } }

theorem wit_BoundaryScanAndErrors :
    (tapOwns (tapIn .updateIr 1) = false ∧
      (let s := { tapIn .updateIr 0 with clk := { up.clk with strapSlot := 0 } }
       tapOwns s = true ∧ tapOwns { s with jtag := { s.jtag with ir := (1#8).toNat } } = false)) ∧
    ((tapIn .captureDr 1).jtag.tap = .captureDr ∧ (tapIn .captureDr 1).jtag.ir = 1) ∧
    ((tapIn .captureDr 2).jtag.ir = 2 ∧ (tapIn .captureDr 2).fuses.variant ≠ .e) ∧
    ((tapIn .shiftDr 1).jtag.tap = .shiftDr ∧ (tapIn .shiftIr 1).jtag.tap = .shiftIr) ∧
    ((tapIn .updateDr 0).jtag.tap = .updateDr ∧ (tapIn .updateDr 0).jtag.ir = 0) ∧
    (tapIn .updateIr 0).jtag.tap = .updateIr ∧ catalogued up.fuses.variant (0x0301#16).toNat = false ∧
    catalogued up.fuses.variant (0x1109#16).toNat = true ∧ Served up (ERR_RCNT.COUNT.adr 0) := by decide

/-! `StepServesTheFront` -/

theorem wit_StepServesTheFront : up.pending = [] := by decide

/-! `ResetState` -/

theorem wit_ResetState : resetWord 0 = 0x00010100 ∧ resetWord 0 < 2 ^ 32 ∧ resetWord 0x8 < 2 ^ 32 := by decide

/-! `EveryStepKeepsTheRegisterForm` -/

theorem wit_EveryStepKeepsTheRegisterForm :
    up.regsOk = true ∧ up.regs ≠ [] ∧ step up = .next (idleTick up) :=
  ⟨by decide, by decide, rfl⟩

/-! `EveryStepKeepsTheDevice` -/

theorem wit_EveryStepKeepsTheDevice :
    step (up.withFront .tapReset) = .next (tapReset up) ∧ step up = .next (idleTick up) := ⟨rfl, rfl⟩

/-! `FirstErrorIsKept` -/

theorem wit_FirstErrorIsKept :
    (catalogued up.fuses.variant 0x0D04 = true ∧ 2 ≤ sevOf 0x0D04 ∧ up.get ERR_CTL.MINSEV ≤ sevOf 0x0D04 ∧
      up.flag ERR_FIRSTV.VALID = false) ∧
    catalogued up.fuses.variant (0x1109#16).toNat = true ∧ (up.set ERR_FIRSTV.VALID 1).flag ERR_FIRSTV.VALID = true := by
  decide

/-! `QueuesStayPausedWithoutTheMaster` -/

theorem wit_QueuesStayPausedWithoutTheMaster :
    (let s := (queueIn 2).set QUE_CTX9.REASON 6 0
     Served s 0x800020 ∧ s.flag QUE_QCMDSTAT.BUSY = false ∧ queueState s 0 = 2 ∧ s.get QUE_CTX9.REASON 0 = 6 ∧
       canMaster s = false) ∧
    (let s := ((queueIn 2).set QUE_CTX9.REASON 2 0).set HBR_STAT.STATE 3
     Served s 0x800020 ∧ s.flag QUE_QCMDSTAT.BUSY = false ∧ queueState s 0 = 2 ∧ s.get QUE_CTX9.REASON 0 = 2 ∧
       canMaster s = true) := by decide

/-! `ConfigurationSpaceNamesTheDevice` -/

theorem wit_ConfigurationSpaceNamesTheDevice :
    up.get HBR_STAT.STATE = 2 ∧ (3#12).toNat < 4 ∧ (8 ≤ (11#12).toNat ∧ (11#12).toNat < 12) ∧ up.cfg.shadow = true := by
  decide

/-! `IdcodeNamesTheDevice` -/

theorem wit_IdcodeNamesTheDevice : (tapIn .captureDr 1).jtag.tap = .captureDr ∧ (tapIn .captureDr 1).jtag.ir = 1 := by
  decide

/-! ### Well-formedness: an ill-formed command for each check, and a well-formed one -/

theorem wf_refuses_short_header : (Instr.loaderHeaderDone (List.replicate 255 0#8)).wf = false := by decide

theorem wf_refuses_unaligned_record : (Instr.recordRegwrite false 0x600812#32 0#32 0#32).wf = false ∧
    (Instr.recordRegblock false 0x600811#32 [0#32]).wf = false ∧ (Instr.recordRegblock false 0x600810#32 []).wf = false ∧
    (Instr.recordPoll false 0x600813#32 0#32 0#32 1).wf = false ∧ (Instr.basicWrite 0x600811#26 0#32).wf = false := by
  decide

theorem wf_refuses_bad_burst : (Instr.farWrite 0x1002#28 [0#32]).wf = false ∧ (Instr.farWrite 0x1000#28 []).wf = false ∧
    (Instr.farWrite 0x1000#28 (List.replicate 129 0#32)).wf = false ∧ (Instr.farRead 0x1000#28 4097).wf = false := by decide

theorem wf_refuses_bad_packet : (Instr.ackReceived 0 (List.replicate 8 0#8)).wf = false ∧
    (Instr.ackReceived 0 (List.replicate 14 0#8)).wf = false := by decide

theorem wf_refuses_short_frames : (Instr.helloReceived 0 (List.replicate 63 0#8)).wf = false ∧
    (Instr.frameMark [0#8, 1#8] true true).wf = false := by decide

theorem wf_accepts : (Instr.ackReceived 0 (List.replicate 12 0#8)).wf = true ∧
    (Instr.helloReceived 0 (List.replicate 64 0#8)).wf = true ∧ (Instr.farWrite 0x1000#28 [0#32]).wf = true ∧
    Instr.porAssert.wf = true := by decide

/-! ### Examples of the spec -/

/-- The check value of R81. -/
theorem test_crc32c_check : crc32c [0x31, 0x32, 0x33, 0x34, 0x35, 0x36, 0x37, 0x38, 0x39] = 0xE3069283 := by decide

/-- SHA-512 of the empty string begins with these bytes, and its first constants are these (FIPS 180-4). -/
theorem test_sha512 : (sha512 []).take 4 = [0xcf, 0x83, 0xe1, 0x35] ∧ shaRound 2 = 0x428a2f98d728ae22 ∧
    shaInit 2 = 0x6a09e667f3bcc908 := by decide

/-- The check value of R217. -/
theorem test_crc8_check : crc8 [0x31, 0x32, 0x33, 0x34, 0x35, 0x36, 0x37, 0x38, 0x39] = 0xF4 := by decide

/-- The short form of chapter 15's example: 1,800,000,000 s and 250,000,000 ns. -/
theorem test_short_form : shortForm (1800000000 * 1000000000 + 250000000) = 0x1AD274800EE6B280 := by decide

/-- The short form of chapter 6's example: 1,800,000,000 s and 225,004,420 ns. -/
theorem test_short_form_sync2 : shortForm (1800000000 * 1000000000 + 225004420) = 0x1AD274800D694B84 := by decide

/-- The record of chapter 22's example: lane 4 fails DETECT at 49,300,000 ns, TIMEUNSYNC set. -/
theorem test_error_record :
    errWords { up with now := 49300000 * 4294967296 } 0x0501 5 [4, 1, 1, 0] =
      [0x02F04220, 0, 0x81050501, 5, 4, 1, 1, 0] := by decide

/-- Chapter 12's example: an edge at 62,500,000 ns with DELAY 0 fires at 62,500,048 ns. -/
theorem test_entry_delay : edgeInst 62500000 0 = 8 * 62500048 := by decide

/-- The words of R677. -/
theorem test_idcode : tapId .f = 0x116006BB ∧ tapId .s = 0x116016BB ∧ tapId .e = 0x116026BB := by decide

/-- A write before DONE is counted and changes nothing else that the host can see (R98). -/
theorem test_write_before_done :
    (match exec (.basicWrite 0x600810#26 1#32) (loading 4) with
      | .next t => t.rdA 0x600810 == (loading 4).rdA 0x600810 && t.pending == []
      | _ => false) = true := by decide

/-- The guard of chapter 14's example: DUTY 10 % and MAXON 2,000 µs. -/
theorem test_guard_derivation : roundDiv (65536 * 10) 100 = 6554 ∧ 1000 * 2000 * (100 - 10) / 100 = 1800000 := by decide

/-- The step command of an idle block (log entry 1). -/
theorem test_idle_tick : (match step up with | .next t => t.elapsed == 2 && t.regs == up.regs | _ => false) = true := by
  decide

end Sys2Proof.Tests
end

section
/-! What every command and every step keep, whatever the command and the state (chapters 0 and 5). -/

namespace Sys2Proof.Machine

/-- Every command answers a next state, and that state keeps what `Keeps` names. One arm for each row of the opcode
table, as in `exec`. -/
theorem exec_keeps (c : Instr) (s : State) : KeepsOut s (exec c s) :=
  have h := Keeps.refl s
  match c with
  | .porAssert => execPorAssert_keeps h
  | .porRelease _ _ => execPorRelease_keeps h
  | .domainResetRelease _ _ => execDomainResetRelease_keeps h
  | .supplyDip => execSupplyDip_keeps h
  | .supplyReturn _ _ => execSupplyReturn_keeps h
  | .rstAssert => execRstAssert_keeps h
  | .cfgWarmWrite _ => execCfgWarmWrite_keeps h
  | .perstAssert => execPerstAssert_keeps h
  | .perstRelease => execPerstRelease_keeps h
  | .configRequest _ _ => execConfigRequest_keeps h
  | .fieldLinkLoss => execFieldLinkLoss_keeps h
  | .fieldLinkReturn => execFieldLinkReturn_keeps h
  | .trefRetry _ _ => execTrefRetry_keeps h
  | .pll1LockTimeout => execPll1LockTimeout_keeps h
  | .vencenWrite _ => execVencenWrite_keeps h
  | .clkPllWrite _ _ => execClkPllWrite_keeps h
  | .trefLost => execTrefLost_keeps h
  | .trefRestored => execTrefRestored_keeps h
  | .pll1SteerDone => execPll1SteerDone_keeps h
  | .sysrefLoss => execSysrefLoss_keeps h
  | .corePllUnlock => execCorePllUnlock_keeps h
  | .internalRestart => execInternalRestart_keeps h
  | .refClockLost _ => execRefClockLost_keeps h
  | .vencPllUnlock => execVencPllUnlock_keeps h
  | .timePllUnlock => execTimePllUnlock_keeps h
  | .timeLockTimeout => execTimeLockTimeout_keeps h
  | .clkRstWrite _ => execClkRstWrite_keeps h
  | .unitReset _ => execUnitReset_keeps h
  | .unitResetDone _ => execUnitResetDone_keeps h
  | .loaderFuseDone => execLoaderFuseDone_keeps h
  | .loaderHeaderDone _ => execLoaderHeaderDone_keeps h
  | .loaderVerifyDone _ => execLoaderVerifyDone_keeps h
  | .loaderClocksLocked => execLoaderClocksLocked_keeps h
  | .loaderClocksTimeout => execLoaderClocksTimeout_keeps h
  | .recordNop _ required => execRecordNop_keeps (_required := required) h
  | .recordRegwrite required _ _ _ => execRecordRegwrite_keeps (_required := required) h
  | .recordRegblock required _ _ => execRecordRegblock_keeps (_required := required) h
  | .recordBasic required _ _ _ => execRecordBasic_keeps (_required := required) h
  | .recordTable required _ _ _ _ _ => execRecordTable_keeps (_required := required) h
  | .recordWait us => execRecordWait_keeps (_us := us) h
  | .waitExpiry => execWaitExpiry_keeps h
  | .recordPoll _ _ _ _ timeout => execRecordPoll_keeps (_timeout := timeout) h
  | .pollRetry => execPollRetry_keeps h
  | .pollTimeout => execPollTimeout_keeps h
  | .loaderApplyDone _ => execLoaderApplyDone_keeps h
  | .ringPortRelease => execRingPortRelease_keeps h
  | .loaderEnter => execLoaderEnter_keeps h
  | .cfgFspeedWrite _ => execCfgFspeedWrite_keeps h
  | .flashUnlock _ => execFlashUnlock_keeps h
  | .flashRead => execFlashRead_keeps h
  | .flashProgram => execFlashProgram_keeps h
  | .flashErase4k => execFlashErase4k_keeps h
  | .flashErase64k => execFlashErase64k_keeps h
  | .flashVerifya => execFlashVerifya_keeps h
  | .flashVerifyb => execFlashVerifyb_keeps h
  | .flashReload => execFlashReload_keeps h
  | .flashFloor _ => execFlashFloor_keeps h
  | .flashKeyhash _ => execFlashKeyhash_keeps h
  | .flashCmdDone _ _ => execFlashCmdDone_keeps h
  | .modeRequestWrite _ => execModeRequestWrite_keeps h
  | .drainComplete => execDrainComplete_keeps h
  | .drainTimeout => execDrainTimeout_keeps h
  | .drainForce _ => execDrainForce_keeps h
  | .modeEnterDone => execModeEnterDone_keeps h
  | .registerWrite _ _ _ _ => execRegisterWrite_keeps h
  | .basicWrite _ _ => execBasicWrite_keeps h
  | .rederiveDone _ => execRederiveDone_keeps h
  | .expertSet _ => execExpertSet_keeps h
  | .expertClear _ => execExpertClear_keeps h
  | .timSecRead => execTimSecRead_keeps h
  | .stepGo _ => execStepGo_keeps h
  | .freqLoadGo _ => execFreqLoadGo_keeps h
  | .stepApply => execStepApply_keeps h
  | .freqLoadApply => execFreqLoadApply_keeps h
  | .timeRearm _ => execTimeRearm_keeps h
  | .adjWrite _ => execAdjWrite_keeps h
  | .rateSlewStep => execRateSlewStep_keeps h
  | .compareFire _ => execCompareFire_keeps h
  | .captureSecRead _ => execCaptureSecRead_keeps h
  | .ppsSecond => execPpsSecond_keeps h
  | .ppsOutEnd => execPpsOutEnd_keeps h
  | .ppsInEdge _ _ => execPpsInEdge_keeps h
  | .ppsInTimeout => execPpsInTimeout_keeps h
  | .syncReceived _ _ _ => execSyncReceived_keeps h
  | .followUpReceived _ _ => execFollowUpReceived_keeps h
  | .delayReqReceived _ _ _ => execDelayReqReceived_keeps h
  | .delayRespReceived _ _ => execDelayRespReceived_keeps h
  | .pdelayReqReceived _ _ _ _ => execPdelayReqReceived_keeps h
  | .pdelayRespReceived _ _ _ _ => execPdelayRespReceived_keeps h
  | .announceReceived _ _ => execAnnounceReceived_keeps h
  | .foreignMasterTimeout _ => execForeignMasterTimeout_keeps h
  | .syncInterval _ _ => execSyncInterval_keeps h
  | .announceInterval => execAnnounceInterval_keeps h
  | .delayReqInterval _ => execDelayReqInterval_keeps h
  | .pdelayInterval _ _ => execPdelayInterval_keeps h
  | .syncTimeout => execSyncTimeout_keeps h
  | .holdoverTrustExpiry => execHoldoverTrustExpiry_keeps h
  | .timConfigApply => execTimConfigApply_keeps h
  | .rawPop => execRawPop_keeps h
  | .trainReceived _ _ _ _ => execTrainReceived_keeps h
  | .blockLockLost _ _ => execBlockLockLost_keeps h
  | .ebSlip _ _ _ => execEbSlip_keeps h
  | .trainTimeout _ _ => execTrainTimeout_keeps h
  | .rateSwitchDone _ => execRateSwitchDone_keeps h
  | .presetTrialDone _ _ _ _ _ _ => execPresetTrialDone_keeps h
  | .backoffEnd _ => execBackoffEnd_keeps h
  | .backoffEarlyExit _ => execBackoffEarlyExit_keeps h
  | .lpiReceived _ _ _ => execLpiReceived_keeps h
  | .quietIdleTimeout _ => execQuietIdleTimeout_keeps h
  | .deepRequest _ _ => execDeepRequest_keeps h
  | .wakeRequest _ _ => execWakeRequest_keeps h
  | .wakeEnergy _ => execWakeEnergy_keeps h
  | .marginMeasure _ _ _ => execMarginMeasure_keeps h
  | .marginRebase _ _ => execMarginRebase_keeps h
  | .sweepStart _ _ => execSweepStart_keeps h
  | .sweepAbort _ _ => execSweepAbort_keeps h
  | .sweepDone _ _ => execSweepDone_keeps h
  | .esdataRead _ => execEsdataRead_keeps h
  | .loopbackWrite _ _ => execLoopbackWrite_keeps h
  | .injectHdr _ => execInjectHdr_keeps h
  | .injectBit _ => execInjectBit_keeps h
  | .injectType2 _ => execInjectType2_keeps h
  | .injectTraincrc _ => execInjectTraincrc_keeps h
  | .injectSkipgap _ => execInjectSkipgap_keeps h
  | .ratemaxWrite _ _ => execRatemaxWrite_keeps h
  | .retrain _ _ => execRetrain_keeps h
  | .txfirWrite _ _ => execTxfirWrite_keeps h
  | .alignReceived _ _ => execAlignReceived_keeps h
  | .groupFormTimeout _ => execGroupFormTimeout_keeps h
  | .ackReceived _ _ => execAckReceived_keeps h
  | .nakReceived _ _ => execNakReceived_keeps h
  | .busyReplayWait _ => execBusyReplayWait_keeps h
  | .replayTimeout _ => execReplayTimeout_keeps h
  | .discoveryTimeout _ => execDiscoveryTimeout_keeps h
  | .ackDelayTimeout _ => execAckDelayTimeout_keeps h
  | .discReqReceived _ _ => execDiscReqReceived_keeps h
  | .echoReceived _ _ => execEchoReceived_keeps h
  | .ctrlRspReceived _ _ => execCtrlRspReceived_keeps h
  | .clpEventReceived _ _ => execClpEventReceived_keeps h
  | .frameStartReceived _ _ => execFrameStartReceived_keeps h
  | .pixelReceived _ _ => execPixelReceived_keeps h
  | .frameEndReceived _ _ => execFrameEndReceived_keeps h
  | .downlinkTxSelect _ => execDownlinkTxSelect_keeps h
  | .triggerTimeout _ => execTriggerTimeout_keeps h
  | .timePeriod => execTimePeriod_keeps h
  | .pingPeriod => execPingPeriod_keeps h
  | .mailboxGo _ _ => execMailboxGo_keeps h
  | .mailboxTimeout _ => execMailboxTimeout_keeps h
  | .frameTimeout _ => execFrameTimeout_keeps h
  | .clpStreamWrite _ _ => execClpStreamWrite_keeps h
  | .parFrameStart _ => execParFrameStart_keeps h
  | .parLineEnd _ _ => execParLineEnd_keeps h
  | .parLineTimeout _ => execParLineTimeout_keeps h
  | .parFrameTimeout _ => execParFrameTimeout_keeps h
  | .parExpEdge _ _ => execParExpEdge_keeps h
  | .parTriggerTimeout _ => execParTriggerTimeout_keeps h
  | .parStreamWrite _ _ => execParStreamWrite_keeps h
  | .pixSrcWrite _ _ => execPixSrcWrite_keeps h
  | .pipeFrameStart _ => execPipeFrameStart_keeps h
  | .pipeInputLine _ _ => execPipeInputLine_keeps h
  | .pipeInputEnd _ => execPipeInputEnd_keeps h
  | .pipeFlushDone _ => execPipeFlushDone_keeps h
  | .pixTableWrite _ _ _ _ => execPixTableWrite_keeps h
  | .pixBistStart _ _ => execPixBistStart_keeps h
  | .pixBistDone _ _ => execPixBistDone_keeps h
  | .posTransition _ _ _ _ => execPosTransition_keeps h
  | .posIndex _ _ _ _ => execPosIndex_keeps h
  | .wireDisagree _ _ => execWireDisagree_keeps h
  | .wireDisagreeEnd _ _ => execWireDisagreeEnd_keeps h
  | .posArm _ => execPosArm_keeps h
  | .posDisarm _ => execPosDisarm_keeps h
  | .posLoad _ => execPosLoad_keeps h
  | .posRefset _ => execPosRefset_keeps h
  | .posLatchCmd _ => execPosLatchCmd_keeps h
  | .posCntRead _ => execPosCntRead_keeps h
  | .posLatchTimeRead _ _ => execPosLatchTimeRead_keeps h
  | .posCfgWrite _ _ => execPosCfgWrite_keeps h
  | .posTagEval _ => execPosTagEval_keeps h
  | .speedSlot _ => execSpeedSlot_keeps h
  | .posStillTimeout _ => execPosStillTimeout_keeps h
  | .ssiPoll _ => execSsiPoll_keeps h
  | .ssiFrameDone _ _ _ _ _ _ => execSsiFrameDone_keeps h
  | .probeEdge _ _ => execProbeEdge_keeps h
  | .wheelTooth _ => execWheelTooth_keeps h
  | .syntheticTooth _ => execSyntheticTooth_keeps h
  | .wheelGapTimeout _ => execWheelGapTimeout_keeps h
  | .wheelStall _ => execWheelStall_keeps h
  | .twsWcfgWrite _ _ => execTwsWcfgWrite_keeps h
  | .angleTagEval _ _ => execAngleTagEval_keeps h
  | .timeEntryDue _ => execTimeEntryDue_keeps h
  | .schedFire _ => execSchedFire_keeps h
  | .entryCtlWrite _ _ => execEntryCtlWrite_keeps h
  | .lineFire => execLineFire_keeps h
  | .beatEvent _ => execBeatEvent_keeps h
  | .heldEventAccept _ => execHeldEventAccept_keeps h
  | .softFire _ _ => execSoftFire_keeps h
  | .cselWrite _ _ => execCselWrite_keeps h
  | .beatSrcWrite _ _ => execBeatSrcWrite_keeps h
  | .cellWrite _ _ => execCellWrite_keeps h
  | .chimeFilterExpiry _ => execChimeFilterExpiry_keeps h
  | .trigPulseEnd _ => execTrigPulseEnd_keeps h
  | .strobePulseEnd _ => execStrobePulseEnd_keeps h
  | .guardTrip _ => execGuardTrip_keeps h
  | .guardClear _ => execGuardClear_keeps h
  | .dllUnlock => execDllUnlock_keeps h
  | .dllLock => execDllLock_keeps h
  | .aenaWrite _ => execAenaWrite_keeps h
  | .arngWrite _ _ => execArngWrite_keeps h
  | .avalWrite _ _ => execAvalWrite_keeps h
  | .holdoffEnd _ => execHoldoffEnd_keeps h
  | .connectEnd _ => execConnectEnd_keeps h
  | .dischargeEnd _ => execDischargeEnd_keeps h
  | .aoutFault _ _ => execAoutFault_keeps h
  | .aoutFaultClear _ _ => execAoutFaultClear_keeps h
  | .doorbellWrite _ _ => execDoorbellWrite_keeps h
  | .queueEnable _ => execQueueEnable_keeps h
  | .queuePause _ => execQueuePause_keeps h
  | .queueResume _ => execQueueResume_keeps h
  | .queueReset _ => execQueueReset_keeps h
  | .queueResetDone _ => execQueueResetDone_keeps h
  | .queueMark _ => execQueueMark_keeps h
  | .queCtxWrite _ _ _ => execQueCtxWrite_keeps h
  | .queMapWrite _ _ _ _ => execQueMapWrite_keeps h
  | .itemStart => execItemStart_keeps h
  | .descReadComplete _ => execDescReadComplete_keeps h
  | .itemStartTimeout _ => execItemStartTimeout_keeps h
  | .itemMidTimeout _ => execItemMidTimeout_keeps h
  | .itemEnd _ => execItemEnd_keeps h
  | .errorTagWrite _ => execErrorTagWrite_keeps h
  | .moderationTimeout _ => execModerationTimeout_keeps h
  | .queBistStart => execQueBistStart_keeps h
  | .queBistDone _ => execQueBistDone_keeps h
  | .linkUp _ _ _ _ => execLinkUp_keeps h
  | .retryEnd => execRetryEnd_keeps h
  | .linkDown => execLinkDown_keeps h
  | .hotReset => execHotReset_keeps h
  | .bmeClear => execBmeClear_keeps h
  | .bmeSet => execBmeSet_keeps h
  | .d3hotEntry => execD3hotEntry_keeps h
  | .flrStart => execFlrStart_keeps h
  | .flrDone => execFlrDone_keeps h
  | .completionReceived _ _ _ _ _ => execCompletionReceived_keeps h
  | .completionTimeout _ => execCompletionTimeout_keeps h
  | .unsupportedRequest _ _ _ => execUnsupportedRequest_keeps h
  | .msixUnmask _ => execMsixUnmask_keeps h
  | .heldMsgSend => execHeldMsgSend_keeps h
  | .farRead _ _ => execFarRead_keeps h
  | .farWrite _ _ => execFarWrite_keeps h
  | .farTimeout _ => execFarTimeout_keeps h
  | .pollRound => execPollRound_keeps h
  | .venEnableWrite _ _ => execVenEnableWrite_keeps h
  | .venCloseDone _ => execVenCloseDone_keeps h
  | .venPictureOffer _ _ => execVenPictureOffer_keeps h
  | .coreSegmentStart _ _ => execCoreSegmentStart_keeps h
  | .coreSegmentDone _ _ _ => execCoreSegmentDone_keeps h
  | .coreParkWrite _ _ => execCoreParkWrite_keeps h
  | .coreFault _ _ => execCoreFault_keeps h
  | .venRestart _ => execVenRestart_keeps h
  | .venIdrRequest _ => execVenIdrRequest_keeps h
  | .drlPortUp _ => execDrlPortUp_keeps h
  | .drlPortDown _ => execDrlPortDown_keeps h
  | .rateAlternate _ => execRateAlternate_keeps h
  | .drlFrameForward _ _ _ => execDrlFrameForward_keeps h
  | .beaconReceived _ _ => execBeaconReceived_keeps h
  | .helloReceived _ _ => execHelloReceived_keeps h
  | .enumReceived _ _ => execEnumReceived_keeps h
  | .enumEndReceived _ _ => execEnumEndReceived_keeps h
  | .joinReceived _ _ => execJoinReceived_keeps h
  | .assignReceived _ _ => execAssignReceived_keeps h
  | .nodeUpReceived _ _ => execNodeUpReceived_keeps h
  | .linklossReceived _ _ => execLinklossReceived_keeps h
  | .linkupReceived _ _ => execLinkupReceived_keeps h
  | .openReceived _ _ => execOpenReceived_keeps h
  | .drlEventReceived _ _ => execDrlEventReceived_keeps h
  | .eventPresent => execEventPresent_keeps h
  | .rreadReceived _ _ _ => execRreadReceived_keeps h
  | .rwriteReceived _ _ _ => execRwriteReceived_keeps h
  | .rrspReceived _ _ => execRrspReceived_keeps h
  | .rwackReceived _ _ => execRwackReceived_keeps h
  | .remoteRetry _ => execRemoteRetry_keeps h
  | .beaconInterval => execBeaconInterval_keeps h
  | .enumHoldEnd => execEnumHoldEnd_keeps h
  | .claimWindowEnd => execClaimWindowEnd_keeps h
  | .enumTimeout => execEnumTimeout_keeps h
  | .rootTimeout => execRootTimeout_keeps h
  | .helloInterval => execHelloInterval_keeps h
  | .joinInterval => execJoinInterval_keeps h
  | .nodeUpSend => execNodeUpSend_keeps h
  | .linkupSend _ => execLinkupSend_keeps h
  | .openSend => execOpenSend_keeps h
  | .drlCfgWrite _ => execDrlCfgWrite_keeps h
  | .busIdle => execBusIdle_keeps h
  | .strikeSeen _ _ => execStrikeSeen_keeps h
  | .bwStrike _ => execBwStrike_keeps h
  | .frameMark _ _ _ => execFrameMark_keeps h
  | .framingError => execFramingError_keeps h
  | .clkLowTimeout => execClkLowTimeout_keeps h
  | .busStuckDetect => execBusStuckDetect_keeps h
  | .resetStrikeEnd => execResetStrikeEnd_keeps h
  | .recoveryCheck _ => execRecoveryCheck_keeps h
  | .recoveryRetry => execRecoveryRetry_keeps h
  | .txctlGo _ => execTxctlGo_keeps h
  | .txTimeout _ => execTxTimeout_keeps h
  | .rxPop _ => execRxPop_keeps h
  | .bwrCfgWrite _ => execBwrCfgWrite_keeps h
  | .jtagInstructionUpdate _ => execJtagInstructionUpdate_keeps h
  | .tapReset => execTapReset_keeps h
  | .errorRaise _ _ _ _ _ _ => execErrorRaise_keeps h
  | .errRcntWrite _ => execErrRcntWrite_keeps h
  | .evlastRead => execEvlastRead_keeps h
  | .rstRelease => execRstRelease_keeps h
  | .uplinkQuietExit _ => execUplinkQuietExit_keeps h
  | .hostlockWrite _ => execHostlockWrite_keeps h
  | .d0Return => execD0Return_keeps h
  | .malformedTlp _ => execMalformedTlp_keeps h
  | .uncorrectableInternalError => execUncorrectableInternalError_keeps h
  | .tckEdge _ _ _ _ => execTckEdge_keeps h
  | .alignRowSend _ => execAlignRowSend_keeps h

/-- An idle tick moves nothing that `Keeps` names but elapsed time, by 2 ns (log entry 1). -/
theorem idleTick_fields (s : State) :
    (idleTick s).regs = s.regs ∧ (idleTick s).pending = s.pending ∧ (idleTick s).elapsed = s.elapsed + 2 ∧
      (idleTick s).fuses = s.fuses ∧ (idleTick s).sent = s.sent ∧ (idleTick s).freeCount = s.freeCount := by
  unfold idleTick timeTick
  split <;> simp

/-- What one step can do: with nothing waiting it is an idle tick, otherwise it is the front command on the state with the
rest of the queue, and that answers a next state. -/
theorem step_cases (s : State) :
    (s.pending = [] ∧ step s = .next (idleTick s)) ∨
      ∃ c rest t, s.pending = c :: rest ∧ step s = .next t ∧ Keeps { s with pending := rest } t := by
  cases hp : s.pending with
  | nil => exact .inl ⟨rfl, by simp [step, hp]⟩
  | cons c rest =>
    obtain ⟨t, ht, hk⟩ := exec_keeps c { s with pending := rest }
    exact .inr ⟨c, rest, t, rfl, by simp [step, hp, ht], hk⟩

/-- Every step answers a next state (R142, chapter 95). -/
theorem step_completes (s : State) : Completes s := by
  obtain ⟨_, h⟩ | ⟨_, _, t, _, h, _⟩ := step_cases s
  · exact ⟨_, h⟩
  · exact ⟨t, h⟩

/-- A step keeps all that `Keeps` names but the queue, whose front it takes, and elapsed time, which never goes back. -/
theorem step_keeps {s t : State} (h : step s = .next t) :
    t.pending = s.pending.tail ∧ s.elapsed ≤ t.elapsed ∧ (s.regsOk = true → t.regsOk = true) ∧
      s.sameDevice t ∧ s.sent <+: t.sent ∧ s.freeCount ≤ t.freeCount := by
  obtain ⟨hp, ht⟩ | ⟨c, rest, u, hp, hu, hk⟩ := step_cases s
  · obtain rfl : idleTick s = t := by simpa [ht] using h
    obtain ⟨hregs, hpend, hel, hfuses, hsent, hfree⟩ := idleTick_fields s
    have htail : (idleTick s).pending = s.pending.tail := by simp [hpend, hp]
    have hform : s.regsOk = true → (idleTick s).regsOk = true := by simp [State.regsOk, hregs]
    have hsame : s.sameDevice (idleTick s) := by simp [State.sameDevice, hfuses]
    exact ⟨htail, by omega, hform, hsame, hsent ▸ List.prefix_refl _, by omega⟩
  · obtain rfl : u = t := by simpa [hu] using h
    have htail : u.pending = s.pending.tail := by simp [hk.pending, hp]
    exact ⟨htail, hk.elapsed.ge, hk.regs, ⟨hk.variant, hk.dsn⟩, hk.sent, hk.free⟩

/-- The Device ID is that of the variant (R8). -/
theorem deviceId_congr {s t : State} (h : t.fuses.variant = s.fuses.variant) : deviceId t = deviceId s := by
  simp [deviceId, h]

/-- Settles O51: the form of the register table is among what `step_keeps` says of every step. -/
theorem everyStepKeepsTheRegisterForm : Obligations.EveryStepKeepsTheRegisterForm := by
  intro s t hs h
  obtain ⟨_, _, hform, _⟩ := step_keeps h
  exact hform hs

/-- Settles O52: `step_keeps`, with the two codes that are functions of the variant. -/
theorem everyStepKeepsTheDevice : Obligations.EveryStepKeepsTheDevice := by
  intro s t h
  obtain ⟨hpend, hel, _, ⟨hvariant, hdsn⟩, hsent, hfree⟩ := step_keeps h
  exact ⟨⟨hvariant, hdsn⟩, deviceId_congr hvariant, by rw [hvariant], hsent, hel, hfree, hpend⟩

/-- Settles O50: `exec_keeps` for the commands, `step_completes` for the steps. -/
theorem everyCommandCompletes : Obligations.EveryCommandCompletes := by
  refine ⟨fun c s => ?_, step_completes⟩
  obtain ⟨t, ht, hk⟩ := exec_keeps c s
  exact ⟨t, ht, hk.pending, hk.elapsed⟩

end Sys2Proof.Machine
end

section
/-! Register writes by their access codes (R16, R141, R145, R152). -/

namespace Sys2Proof.Machine

/-- `codedWrite` where a register stands: the expert drop is judged first, then the coded word is stored. -/
theorem codedWrite_at {a u i j : Nat} {r : RegRow} (s : State) (v : Nat) (hr : rowAt a = some (r, i, j))
    (hu : unitAt a = some u) :
    codedWrite a v s = (expertDrop a v s).wrA a (codedWord r (unitExpert s u) (s.rdA a) v) := by
  simp [codedWrite, hr, hu]

/-- The expert drop where a register stands (R152). -/
theorem expertDrop_at {a u i j : Nat} {r : RegRow} (s : State) (v : Nat) (hr : rowAt a = some (r, i, j))
    (hu : unitAt a = some u) :
    expertDrop a v s =
      if unitExpert s u = false ∧ v &&& r.rwx ≠ s.rdA a &&& r.rwx then countXdrop a u s else s := by
  simp [expertDrop, hr, hu]

/-- After the first drop, which alone is logged, counting one changes the two registers of the drop count only (R152). -/
theorem rdA_countXdrop_other {s : State} {a u b : Nat} (hc : s.get GLB_XDROP.COUNT ≠ 0)
    (h1 : b ≠ GLB_XDROP.COUNT.adr 0) (h2 : b ≠ GLB_XDROPADR.ADDR.adr 0) : (countXdrop a u s).rdA b = s.rdA b := by
  have hunit : b ≠ GLB_XDROP.UNIT.adr 0 := h1
  simp only [countXdrop, beq_iff_eq, hc, if_false]
  rw [rdA_set_other _ _ _ _ _ _ h2, rdA_set_other _ _ _ _ _ _ hunit, rdA_count_other _ _ _ _ _ _ h1]

/-- The expert drop changes no register but the two of the drop count, once a drop has been counted. -/
theorem rdA_expertDrop_other {s : State} {a v u i j b : Nat} {r : RegRow} (hr : rowAt a = some (r, i, j))
    (hu : unitAt a = some u) (hc : s.get GLB_XDROP.COUNT ≠ 0) (h1 : b ≠ GLB_XDROP.COUNT.adr 0)
    (h2 : b ≠ GLB_XDROPADR.ADDR.adr 0) : (expertDrop a v s).rdA b = s.rdA b := by
  rw [expertDrop_at s v hr hu]
  split
  · exact rdA_countXdrop_other hc h1 h2
  · rfl

/-- A memory write of one whole dword to BAR0, while the host's requests are served, is a write of that register. -/
theorem execRegisterWrite_dword (s : State) (a : BitVec 26) (v : Word) (ho : hostOpen s = true) (ha : a.toNat % 4 = 0) :
    exec (.registerWrite false a [(v, 15)] false) s = .next (regWrite a.toNat v.toNat s) := by
  have hq : a.toNat / 4 * 4 = a.toNat := by omega
  show Host.Outcome.next (barWrite false a.toNat [(v.toNat, 15)] false s) = _
  simp [barWrite, ho, hq, barBurst, barDword, regWrite]

/-- A basic field written at the basic level, with nothing running, starts the re-derivation of its unit (R145). -/
theorem afterBasic_starts {s : State} {u a v old : Nat} (hb : touchesBasic a = true) (hx : unitExpert s u = false)
    (ht : basicTaken a v old s = true) (hn : running s u = none) : afterBasic u a v old s = restartRederive u s := by
  simp [afterBasic, hb, hx, ht, basicWritten, hn]

/-- Settles O14: the served write is `regWrite`, which the gates pass on to `codedWrite`; what `codedWrite` leaves is read
off `codedWrite_at` and the frame of the expert drop. -/
theorem registersTakeTheirCodes : Obligations.RegistersTakeTheirCodes := by
  refine ⟨?_, ?_, ?_, ?_, ?_⟩
  · intro s a v r i j u hs ha hr hu hc hl hb
    have hbasic : touchesBasic a.toNat = false := by simp [touchesBasic, hr, hb]
    rw [execRegisterWrite_dword s a v hs.1 ha,
      regWrite_served s _ _ u i j r hs hr hu (beq_eq_false_iff_ne.mpr hl) hbasic, hc]
  · intro s a v u r i j hr hu _ hc
    rw [codedWrite_at s v hr hu]
    refine ⟨rdA_wrA_same _ _ _, fun b hb h1 h2 => ?_⟩
    rw [rdA_wrA_other _ _ _ _ hb, rdA_expertDrop_other hr hu hc h1 h2]
  · intro s a v u r i j hr hu
    exact expertDrop_at s v hr hu
  · intro s a v hs
    exact congrArg Host.Outcome.next (hostGate_served s _ _ _ hs)
  · intro s u a v old
    exact afterBasic_starts

end Sys2Proof.Machine
end

section
/-! The identity of the device in configuration space and in `GLB` (R1, R8). -/

namespace Sys2Proof.Machine

/-- A configuration read while the function answers: the dword is read and its value sent (R519, R529). -/
theorem execConfigRequest_read {s : State} (a : BitVec 12)
    (h : s.get HBR_STAT.STATE = 2 ∨ s.get HBR_STAT.STATE = 3) :
    exec (.configRequest a none) s =
      .next ((spaceRead (a.toNat / 4 * 4) s).2.emit (.cfgReply (some (spaceRead (a.toNat / 4 * 4) s).1))) := by
  show Host.Outcome.next (configRequest a.toNat none s) = _
  obtain h | h := h <;> simp [configRequest, h]

/-- The first doubleword of configuration space: the Device ID above the Vendor ID (R8). -/
theorem spaceRead_id (s : State) : spaceRead 0 s = (deviceId s * 2 ^ 16 + 0x1F9E, s) := by
  cases hv : s.fuses.variant <;> simp [spaceRead, spaceRow, deviceId, hv]

/-- The third doubleword: the class code above the Revision ID (R8, R519). -/
theorem spaceRead_revision (s : State) : spaceRead 8 s = (0x04800010, s) := by
  simp [spaceRead, spaceRow]

/-- No variant lacks `GLB_REV`. -/
theorem absentAt_rev (v : Variant) : absentAt v 0x8 = none := by
  cases v <;> decide

/-- Once FUSE has read the fuses, `GLB_REV` reads the Device ID above the stepping (R8, R74). -/
theorem readVal_rev {s : State} (h : s.cfg.shadow = true) : readVal 0x8 s = (deviceId s * 2 ^ 16 + 0x10, s) := by
  have hr : rowAt 0x8 = some (⟨0x8, 0, 1, 0, 1, 0x10, 0, 0, 0, 0⟩, 0, 0) := by decide
  simp [readVal, hr, absentAt_rev, h, fuseWord]

/-- Settles O56: configuration space and `GLB_REV` both show `deviceId`. -/
theorem configurationSpaceNamesTheDevice : Obligations.ConfigurationSpaceNamesTheDevice := by
  refine ⟨?_, ?_, ?_⟩
  · intro s a hs ha
    have hq : a.toNat / 4 * 4 = 0 := by omega
    rw [execConfigRequest_read a hs, hq, spaceRead_id]
    rfl
  · intro s a hs h8 h12
    have hq : a.toNat / 4 * 4 = 8 := by omega
    rw [execConfigRequest_read a hs, hq, spaceRead_revision]
  · intro s hs
    exact readVal_rev hs

end Sys2Proof.Machine
end

section
/-! The state while `POR_N` is low (R71). -/

namespace Sys2Proof.Machine

/-- After reset a register reads its reset word (R18). -/
theorem rdA_reset {a : Nat} (h : resetWord a < 2 ^ 32) : State.reset.rdA a = resetWord a := by
  have hr : State.reset.rdA a = (BitVec.ofNat 32 (resetWord a)).toNat := rfl
  rw [hr, BitVec.toNat_ofNat, Nat.mod_eq_of_lt h]

/-- Settles O49: the registers by `rdA_reset`; the rest are the fields of `State.reset` and the reset words of the six
registers that show them. -/
theorem resetState : Obligations.ResetState := by
  have hphase : State.reset.get CFG_STATUS.PHASE = 0 := by decide
  have hdone : State.reset.flag CFG_STATUS.DONE = false := by decide
  have hmode : State.reset.get GLB_MODESTAT.CUR = 0 := by decide
  have hbridge : State.reset.get HBR_STAT.STATE = 0 := by decide
  have hnode : State.reset.flag DRL_NODE.VALID = false := by decide
  exact ⟨rfl, fun _ => rdA_reset, rfl, rfl, rfl, rfl, rfl, rfl, rfl, rfl, rfl, rfl, rfl, rfl,
    hphase, hdone, hmode, hbridge, hnode, rfl, rfl⟩

end Sys2Proof.Machine
end

section
/-! Late event messages (R33, R624, R625). -/

namespace Sys2Proof.Machine

/-! ### What a frame says about the time, the ring's memory and the fires -/

theorem LogFrame.now {s t : State} (h : LogFrame s t) : t.now = s.now := by
  obtain ⟨_, _, _, _, _, _, rfl⟩ := h
  rfl

theorem LogFrame.drl {s t : State} (h : LogFrame s t) : t.drl = s.drl := by
  obtain ⟨_, _, _, _, _, _, rfl⟩ := h
  rfl

theorem LogFrame.fired {s t : State} (h : LogFrame s t) : s.fired <+: t.fired := by
  obtain ⟨_, _, _, _, _, hf, rfl⟩ := h
  exact hf

/-- A field of a register that reads the same word reads what it read before. -/
theorem get_of_rdA {s t : State} {f : Fld} {i j : Nat} (h : t.rdA (f.adr i j) = s.rdA (f.adr i j)) :
    t.get f i j = s.get f i j := by
  rw [State.get, h, State.get]

/-- A counter field reads one more after it counts, until it saturates. -/
theorem get_count_same (s : State) (f : Fld) (i j n : Nat) (hlo : f.lo ≤ f.hi) (hhi : f.hi ≤ 31) :
    (s.count f i j n).get f i j = satAdd (f.hi + 1 - f.lo) (s.get f i j) n := by
  have hp : 0 < 2 ^ (f.hi + 1 - f.lo) := Nat.two_pow_pos _
  rw [State.count, get_set_same s f _ i j hlo hhi, Nat.mod_eq_of_lt]
  unfold satAdd
  omega

theorem endRun_logFrame (s : State) (code scope : Nat) : LogFrame s (s.endRun code scope) :=
  ⟨_, _, _, _, _, List.prefix_refl _, rfl⟩

theorem rdA_endRun (s : State) (code scope a : Nat) : (s.endRun code scope).rdA a = s.rdA a := rfl

/-! ### The map entries that an event fires -/

/-- Whether map entry `j` is enabled and names one of the event numbers (R624). -/
def entryNames (s : State) (nums : List Nat) (j : Nat) : Bool :=
  s.flag DRL_EMAP.EN j && nums.contains (s.get DRL_EMAP.NUM j)

/-- What `presentNums` does along any list of map entries: a fire reads no register, so every entry is judged by the state
at the start. -/
theorem foldl_entryNames (nums : List Nat) (flags : Nat) (js : List Nat) (s : State) :
    js.foldl (fun t j =>
        if t.flag DRL_EMAP.EN j && nums.contains (t.get DRL_EMAP.NUM j) then t.fireAt (0x2A0 + j) t.now flags else t) s =
      { s with fired := s.fired ++ (js.filter (entryNames s nums)).map (fun j => ⟨0x2A0 + j, s.now, flags⟩) } := by
  induction js generalizing s with
  | nil => simp
  | cons j js ih =>
    rw [List.foldl_cons, ih]
    by_cases hj : entryNames s nums j = true
    · have hsame : entryNames (s.fireAt (0x2A0 + j) s.now flags) nums = entryNames s nums := rfl
      rw [List.filter_cons_of_pos hj]
      unfold entryNames at hj
      rw [if_pos hj, hsame]
      simp [State.fireAt]
    · rw [List.filter_cons_of_neg hj]
      unfold entryNames at hj
      rw [if_neg hj]

/-- Presenting events adds one fire on the present tick for each map entry that names one of them, and nothing else
(R624, R625). -/
theorem presentNums_eq (nums : List Nat) (flags : Nat) (s : State) :
    presentNums nums flags s = { s with
      fired := s.fired ++ ((List.range 64).filter (entryNames s nums)).map (fun j => ⟨0x2A0 + j, s.now, flags⟩) } :=
  foldl_entryNames nums flags _ s

theorem presentNums_logFrame (nums : List Nat) (flags : Nat) (s : State) : LogFrame s (presentNums nums flags s) := by
  rw [presentNums_eq]
  exact ⟨_, _, _, _, _, List.prefix_append _ _, rfl⟩

theorem get_presentNums (nums : List Nat) (flags : Nat) (s : State) (f : Fld) (i j : Nat) :
    (presentNums nums flags s).get f i j = s.get f i j := by
  rw [presentNums_eq]
  rfl

theorem mem_fired_presentNums {nums : List Nat} {s : State} {j : Nat} (flags : Nat) (hj : j < 64)
    (hn : entryNames s nums j = true) : (⟨0x2A0 + j, s.now, flags⟩ : Fired) ∈ (presentNums nums flags s).fired := by
  rw [presentNums_eq]
  exact List.mem_append_right _ (List.mem_map_of_mem (List.mem_filter.mpr ⟨List.mem_range.mpr hj, hn⟩))

/-! ### What a late event leaves behind before it fires its beats -/

/-- The state in which a late event fires its beats: LATECNT has counted, `DRL_LATE` has fired, the error is logged and
`DRL_EVLAST` shows LATE (R624, R625). -/
def lateMarks (e : RingEvent) (s : State) : State :=
  (((s.count DRL_LATECNT.COUNT).fire 0x2E3).logSec 0x1007 0 [e.num, e.src, s.nowNs - e.pres]).set DRL_EVLAST0.LATE 1

theorem lateEvent_eq (e : RingEvent) (s : State) : lateEvent e s = presentNums [e.num] 1 (lateMarks e s) := rfl

theorem lateMarks_logFrame (e : RingEvent) (s : State) : LogFrame s (lateMarks e s) :=
  logFrame_trans (count_logFrame s _ _ _ _)
    (logFrame_trans (fire_logFrame _ _) (logFrame_trans (logSec_logFrame _ _ _ _) (set_logFrame _ _ _ _ _)))

theorem lateEvent_logFrame (e : RingEvent) (s : State) : LogFrame s (lateEvent e s) :=
  logFrame_trans (lateMarks_logFrame e s) (presentNums_logFrame _ _ _)

/-- Below the error log only LATECNT and the first word of EVLAST change. -/
theorem rdA_lateMarks_other (e : RingEvent) (s : State) {a : Nat} (hlog : a < 0xF00000)
    (hcnt : a ≠ DRL_LATECNT.COUNT.adr) (hlast : a ≠ DRL_EVLAST0.LATE.adr) : (lateMarks e s).rdA a = s.rdA a := by
  rw [lateMarks, rdA_set_other _ _ _ _ _ _ hlast, rdA_logSec_other _ _ _ _ _ hlog, rdA_fire,
    rdA_count_other _ _ _ _ _ _ hcnt]

/-- A late event adds 1 to LATECNT, which saturates. -/
theorem get_lateMarks_lateCount (e : RingEvent) (s : State) :
    (lateMarks e s).get DRL_LATECNT.COUNT = min (2 ^ 32 - 1) (s.get DRL_LATECNT.COUNT + 1) := by
  have hother : DRL_LATECNT.COUNT.adr ≠ DRL_EVLAST0.LATE.adr := by decide
  have hlog : DRL_LATECNT.COUNT.adr < 0xF00000 := by decide
  rw [lateMarks, get_set_other _ _ _ _ _ _ _ _ hother, get_logSec_other _ _ _ _ _ _ _ hlog, get_of_rdA (rdA_fire _ _ _),
    get_count_same _ _ _ _ _ (by decide) (by decide), Nat.min_comm]
  rfl

theorem late_mem_fired_lateMarks (e : RingEvent) (s : State) : (⟨0x2E3, s.now, 0⟩ : Fired) ∈ (lateMarks e s).fired := by
  have hlate : (⟨0x2E3, s.now, 0⟩ : Fired) ∈ ((s.count DRL_LATECNT.COUNT).fire 0x2E3).fired :=
    List.mem_append_right _ (List.mem_singleton.mpr rfl)
  exact ((logFrame_trans (logSec_logFrame _ _ _ _) (set_logFrame _ _ _ _ _)).fired).subset hlate

/-! ### An EVENT message that finds a place -/

/-- The event that the frame `f` of an EVENT carries (R623, R625). -/
def frameEvent (f : List Nat) : RingEvent where
  num := beNat (sliceOf (msgPayload f) 0 2) % 1024
  src := msgSrc f
  occ := ringNs (sliceOf (msgPayload f) 4 10)
  pres := ringNs (sliceOf (msgPayload f) 14 10)
  unsync := bitAt (byteAt (msgPayload f) 2) 0

/-- The state after a received event has been counted and shown, the run of drops ended: as `eventIn` leaves it to the
schedule (R625). -/
def noteEvent (e : RingEvent) (s : State) : State := (showEvent e (s.count DRL_EVRX.COUNT)).endRun 0x1008 0

theorem showEvent_logFrame (e : RingEvent) (s : State) : LogFrame s (showEvent e s) := wrWords_logFrame _ _ _

theorem received_logFrame (e : RingEvent) (s : State) : LogFrame s (showEvent e (s.count DRL_EVRX.COUNT)) :=
  logFrame_trans (count_logFrame s _ _ _ _) (showEvent_logFrame _ _)

theorem noteEvent_logFrame (e : RingEvent) (s : State) : LogFrame s (noteEvent e s) :=
  logFrame_trans (received_logFrame e s) (endRun_logFrame _ _ _)

/-- Showing an event changes the five words of EVLAST only. -/
theorem rdA_showEvent_other (e : RingEvent) (s : State) {a : Nat} (h : a < 0xE20060 ∨ 0xE20074 ≤ a) :
    (showEvent e s).rdA a = s.rdA a := by
  obtain h | h := h
  · exact rdA_wrWords_below _ _ _ _ h
  · exact rdA_wrWords_above _ _ _ _ h

theorem rdA_noteEvent_other (e : RingEvent) (s : State) {a : Nat} (hrx : a ≠ DRL_EVRX.COUNT.adr)
    (hlast : a < 0xE20060 ∨ 0xE20074 ≤ a) : (noteEvent e s).rdA a = s.rdA a := by
  rw [noteEvent, rdA_endRun, rdA_showEvent_other _ _ hlast, rdA_count_other _ _ _ _ _ _ hrx]

/-- With a place in the list and less than 4 ns to go, an event fires at once (R624). -/
theorem scheduleEvent_late {e : RingEvent} {s : State} (hroom : s.drl.sched.length < 256)
    (hlate : e.pres * subNs < s.now + 4 * subNs) : scheduleEvent e s = lateEvent e (s.endRun 0x1008 0) := by
  simp [scheduleEvent, Nat.not_le.mpr hroom, Nat.not_le.mpr hlate]

/-- An EVENT for the node that comes too late for its schedule is noted and fires at once. -/
theorem execDrlEventReceived_late {s : State} {p : Fin 2} {f : List Byte} (hme : msgForMe s p.val 11 (natBytes f) = true)
    (hroom : s.drl.sched.length < 256) (hlate : (frameEvent (natBytes f)).pres * subNs < s.now + 4 * subNs) :
    exec (.drlEventReceived p f) s =
      .next (lateEvent (frameEvent (natBytes f)) (noteEvent (frameEvent (natBytes f)) s)) := by
  have hframe := received_logFrame (frameEvent (natBytes f)) s
  have hin : eventIn p.val (natBytes f) s =
      scheduleEvent (frameEvent (natBytes f)) (showEvent (frameEvent (natBytes f)) (s.count DRL_EVRX.COUNT)) := by
    simp [eventIn, hme, frameEvent]
  show Host.Outcome.next (eventIn p.val (natBytes f) s) = _
  rw [hin, scheduleEvent_late (by rw [hframe.drl]; exact hroom) (by rw [hframe.now]; exact hlate)]
  rfl

/-! ### The registers that a late event leaves alone -/

/-- What no part of a late event writes reads in the end what it read before the message came. -/
theorem get_lateMarks_noteEvent_other (e : RingEvent) (s : State) {f : Fld} {i j : Nat} (hlog : f.adr i j < 0xF00000)
    (hrx : f.adr i j ≠ DRL_EVRX.COUNT.adr) (hcnt : f.adr i j ≠ DRL_LATECNT.COUNT.adr)
    (hlast : f.adr i j < 0xE20060 ∨ 0xE20074 ≤ f.adr i j) :
    (lateMarks e (noteEvent e s)).get f i j = s.get f i j := by
  have hword : f.adr i j ≠ DRL_EVLAST0.LATE.adr := by
    simp only [DRL_EVLAST0.LATE, Fld.adr] at hlast ⊢
    omega
  exact get_of_rdA ((rdA_lateMarks_other e _ hlog hcnt hword).trans (rdA_noteEvent_other e s hrx hlast))

/-- The event map stands as it was when a late event fires its beats. -/
theorem entryNames_lateMarks_noteEvent (e : RingEvent) (s : State) (nums : List Nat) {j : Nat} (hj : j < 64) :
    entryNames (lateMarks e (noteEvent e s)) nums j = entryNames s nums j := by
  have hword : ∀ f : Fld, f.adr j = 0xE21400 + 4 * j → (lateMarks e (noteEvent e s)).get f j = s.get f j := by
    intro f hf
    have hrx : DRL_EVRX.COUNT.adr = 0xE20040 := rfl
    have hcnt : DRL_LATECNT.COUNT.adr = 0xE20048 := rfl
    exact get_lateMarks_noteEvent_other e s (by omega) (by omega) (by omega) (by omega)
  have hen : (lateMarks e (noteEvent e s)).get DRL_EMAP.EN j = s.get DRL_EMAP.EN j := hword _ rfl
  have hnum : (lateMarks e (noteEvent e s)).get DRL_EMAP.NUM j = s.get DRL_EMAP.NUM j := hword _ rfl
  simp only [entryNames, State.flag, hen, hnum]

/-- Settles O54: the message is noted and the event fires at once (`execDrlEventReceived_late`); what has fired, the counts
and the list are read off the frames and laws of `noteEvent`, `lateMarks` and `presentNums`. -/
theorem lateEventsFireAtOnce : Obligations.LateEventsFireAtOnce := by
  intro s p f hme hroom hdue
  have hlate : (frameEvent (natBytes f)).pres * subNs < s.now + 4 * subNs := by
    have hpres : (frameEvent (natBytes f)).pres * subNs ≤ s.now := hdue
    have hpos : 0 < subNs := by decide
    omega
  refine ⟨_, execDrlEventReceived_late hme hroom hlate, ?_⟩
  generalize he : frameEvent (natBytes f) = e
  have hnote := noteEvent_logFrame e s
  have hmarks := logFrame_trans hnote (lateMarks_logFrame e _)
  refine ⟨?_, ?_, ?_, ⟨⟨0x2E3, s.now, 0⟩, ?_, rfl, rfl⟩, ?_⟩
  · rw [(logFrame_trans hnote (lateEvent_logFrame e _)).drl]
  · have hcount : (noteEvent e s).get DRL_LATECNT.COUNT = s.get DRL_LATECNT.COUNT :=
      get_of_rdA (rdA_noteEvent_other e s (by decide) (by decide))
    rw [lateEvent_eq, get_presentNums, get_lateMarks_lateCount, hcount]
  · rw [lateEvent_eq, get_presentNums,
      get_lateMarks_noteEvent_other e s (by decide) (by decide) (by decide) (by decide)]
  · rw [← hnote.now]
    exact (presentNums_logFrame _ _ _).fired.subset (late_mem_fired_lateMarks e _)
  · intro j hj hen hnum
    have hnamed : entryNames s [e.num] j = true := by
      simp [entryNames, hen, hnum, ← he, frameEvent]
    rw [← hmarks.now]
    exact mem_fired_presentNums 1 hj ((entryNames_lateMarks_noteEvent e s _ hj).trans hnamed)

end Sys2Proof.Machine
end

section
/-! The release of the power-on reset, with the straps it takes (R54, R55, R669, R670). -/

namespace Sys2Proof.Machine

/-- The state once the straps are taken: the test mode and the slot are held, `BWR_CFG.SLOT` shows the slot, and the
load time of the loader counts from here. -/
def takeStraps (testMode : Bool) (slot : Nat) (s : State) : State :=
  { s with
    clk := { s.clk with testHold := testMode, strapSlot := slot }
    cfg := { s.cfg with startAt := s.elapsed } }.set BWR_CFG.SLOT slot

/-- The host clock runs, and PLL 2 shows lock. -/
def hostClockUp (s : State) : State := setLock 2 true { s with clk := { s.clk with hostUp := true } }

/-- With the power-on reset over, the host clock waits for `PERST_N` and for the end of test mode (R55). -/
theorem hostRelease_powered {s : State} (hpor : s.clk.porLow = false) (hdip : s.clk.dip = false) :
    hostRelease s = if s.clk.perstLow || s.clk.testHold then s else hostClockUp s := by
  simp [hostRelease, hostClockUp, hpor, hdip]

/-- With neither cause of the power-on reset left, its release takes the straps and lets the host clock go where
`hostRelease_powered` does. -/
theorem porRelease_powered {s : State} (tm : Bool) (slot : Nat) (hpor : s.clk.porLow = false)
    (hdip : s.clk.dip = false) :
    porRelease tm slot s =
      if s.clk.perstLow || tm then takeStraps tm slot s else hostClockUp (takeStraps tm slot s) := by
  have hrelease : porRelease tm slot s = hostRelease (takeStraps tm slot s) := by
    simp [porRelease, takeStraps, hpor, hdip]
  exact hrelease.trans (hostRelease_powered (s := takeStraps tm slot s) hpor hdip)

/-- Settles O2: `POR_N` high and the end of a dip each leave a state to which `porRelease_powered` applies, `PERST_N`
high one to which `hostRelease_powered` does; the last two commands clear their own bit. -/
theorem powerOnResetReleaseTakesStraps : Obligations.PowerOnResetReleaseTakesStraps := by
  refine ⟨?_, ?_, ?_, fun _ => rfl, fun _ => rfl⟩
  · intro s tm slot hpor hdip
    exact congrArg Host.Outcome.next ((if_pos hpor).trans
      (porRelease_powered (s := { s with clk := { s.clk with porLow := false } }) tm slot.toNat rfl hdip))
  · intro s tm slot hdip hpor
    exact congrArg Host.Outcome.next ((if_pos hdip).trans
      (porRelease_powered (s := { s with clk := { s.clk with dip := false } }) tm slot.toNat hpor rfl))
  · intro s hpor hdip htest
    have hgo : ¬ ((false || s.clk.testHold) = true) := by simp [htest]
    exact congrArg Host.Outcome.next ((hostRelease_powered
      (s := { s with clk := { s.clk with perstLow := false } }) hpor hdip).trans (if_neg hgo))

end Sys2Proof.Machine
end

section
/-! The release of the clock domains and the measurement of `TREF` (R54, R57-R61, R732). -/

namespace Sys2Proof.Machine

/-! ### The domains without a measurement -/

theorem cfgRelease_starts {s : State} (hup : s.clk.cfgUp = false) (hpor : s.clk.porLow = false)
    (hdip : s.clk.dip = false) (hrst : s.clk.rstLow = false) (hwait : s.clk.restartWait = false)
    (htest : s.clk.testHold = false) :
    cfgRelease s = startLoader { s with clk := { s.clk with cfgUp := true } } := by
  simp [cfgRelease, hup, hpor, hdip, hrst, hwait, htest]

theorem coreRelease_counts {s : State} (hup : s.clk.coreUp = false) (hcfg : s.clk.cfgUp = true)
    (htest : s.clk.testHold = false) :
    coreRelease s = ((setLock 0 true (usePll 0 { s with clk := { s.clk with coreUp := true } })).set
      HBR_STAT.CORE 1).count HBR_COREGEN.COUNT := by
  simp [coreRelease, hup, hcfg, htest]

theorem vencRelease_enabled {s : State} (hup : s.clk.vencUp = false) (hcfg : s.clk.cfgUp = true)
    (htest : s.clk.testHold = false) (hvar : s.fuses.variant = .f) (hen : s.flag CLK_VENCEN.EN = true)
    (hrst : s.flag CLK_RST.VENC = false) : vencRelease s = venClockRelease (setLock 3 true (usePll 3 s)) := by
  simp [vencRelease, hup, hcfg, htest, hvar, hen, hrst]

/-! ### The measurement of `TREF` -/

/-- The counts that show 10 MHz and 25 MHz (R57). -/
theorem trefFreq_of_range {e f : Nat} (h : (999 ≤ e ∧ e ≤ 1001 ∧ f = 1) ∨ (2498 ≤ e ∧ e ≤ 2502 ∧ f = 2)) :
    trefFreq e = f := by
  obtain ⟨hlo, hhi, rfl⟩ | ⟨hlo, hhi, rfl⟩ := h
  · simp [trefFreq, hlo, hhi]
  · have habove : ¬ e ≤ 1001 := by omega
    simp [trefFreq, hlo, hhi, habove]

/-- Showing whether `TREF` is present changes neither the level of `CLK` nor the frequency asked for. -/
theorem flag_expert_setTref (s : State) (v : Nat) :
    (s.set CLK_STATUS.TREF v).flag CLK_LEVEL.EXPERT = s.flag CLK_LEVEL.EXPERT := by
  rw [State.flag, State.flag, get_set_other _ _ _ _ _ _ _ _ (by decide)]

theorem get_freq_setTref (s : State) (v : Nat) :
    (s.set CLK_STATUS.TREF v).get CLK_TREF.FREQ = s.get CLK_TREF.FREQ :=
  get_set_other _ _ _ _ _ _ _ _ (by decide)

/-- At the basic level a count is accepted when it shows the frequency asked for, or any that `TREF` may have where none
is asked for (R57, R58). -/
theorem measureTref_accepted {s : State} {e f : Nat} (hlevel : s.flag CLK_LEVEL.EXPERT = false) (hf : trefFreq e = f)
    (hpos : f ≠ 0) (hwant : s.get CLK_TREF.FREQ = f ∨ s.get CLK_TREF.FREQ = 0 ∨ s.get CLK_TREF.FREQ = 3) :
    measureTref e s = (true, (setFound f (s.set CLK_STATUS.TREF 1)).endRun 0x0309 0) := by
  have hedges : e ≠ 0 := by
    rintro rfl
    exact hpos hf.symm
  have hpresent : b2n (e != 0) = 1 := by simp [b2n, hedges]
  obtain hwant | hwant | hwant := hwant <;>
    simp [measureTref, hpresent, flag_expert_setTref, get_freq_setTref, hlevel, hf, hpos, hwant]

/-- At the basic level a count that shows no frequency is never accepted (R58). -/
theorem measureTref_unfit {s : State} {e : Nat} (hlevel : s.flag CLK_LEVEL.EXPERT = false) (hf : trefFreq e = 0) :
    measureTref e s = (false, (setFound 0 (s.set CLK_STATUS.TREF (b2n (e != 0)))).logRun 0x0309 0) := by
  by_cases hwant : s.get CLK_TREF.FREQ = 1 ∨ s.get CLK_TREF.FREQ = 2
  · have hother : 0 ≠ s.get CLK_TREF.FREQ := by omega
    simp [measureTref, flag_expert_setTref, get_freq_setTref, hlevel, hf, hwant, hother]
  · simp [measureTref, flag_expert_setTref, get_freq_setTref, hlevel, hf, hwant]

/-- An attempt releases the time domains when the measurement is accepted and PLL 1 locks (R54). -/
theorem tryTime_ready {s : State} (e : Nat) (locked : Bool) (hready : timeReady s = true) :
    tryTime e locked s =
      if (measureTref e s).1 && locked then timeRelease (measureTref e s).2 else (measureTref e s).2 := by
  simp [tryTime, hready]

/-- Settles O4: one lemma for each domain; both forms of an attempt at the time domains are `tryTime`, whose measurement
is accepted (`measureTref_accepted`) or not (`measureTref_unfit`). -/
theorem domainsAreReleased : Obligations.DomainsAreReleased := by
  refine ⟨?_, ?_, ?_, ?_, ?_, ?_⟩
  · intro s e hup hpor hdip hrst hwait htest
    exact congrArg Host.Outcome.next (cfgRelease_starts hup hpor hdip hrst hwait htest)
  · intro s e hup hcfg htest
    exact congrArg Host.Outcome.next (coreRelease_counts hup hcfg htest)
  · intro s e hup hcfg htest hvar hen hrst
    exact congrArg Host.Outcome.next (vencRelease_enabled hup hcfg htest hvar hen hrst)
  · intro s e f hready hlevel hrange hwant
    have hpos : f ≠ 0 := by omega
    refine ⟨?_, rfl⟩
    show Host.Outcome.next (tryTime e true s) = _
    rw [tryTime_ready e true hready, measureTref_accepted hlevel (trefFreq_of_range hrange) hpos hwant]
    rfl
  · intro s e l hready hlevel hf
    show Host.Outcome.next (tryTime e l s) = _
    rw [tryTime_ready e l hready, measureTref_unfit hlevel hf]
    rfl
  · intro s hready hlevel
    show Host.Outcome.next (if _ then _ else s) = _
    rw [hready, hlevel]
    rfl

end Sys2Proof.Machine
end

section
/-! Lost references and PLL locks, and holdover of PLL 1 (R62-R64, R68, R69). -/

namespace Sys2Proof.Machine

/-! ### The forced return to STANDBY leaves the clocks alone (R133) -/

theorem LogFrame.clk {s t : State} (h : LogFrame s t) : t.clk = s.clk := by
  obtain ⟨_, _, _, _, _, _, rfl⟩ := h
  rfl

/-- What every step of a fold leaves alone, the fold leaves alone. -/
theorem foldl_clk {α : Type} {f : State → α → State} (hf : ∀ t x, (f t x).clk = t.clk) (l : List α) (s : State) :
    (l.foldl f s).clk = s.clk := by
  induction l generalizing s with
  | nil => rfl
  | cons x l ih => rw [List.foldl_cons, ih, hf]

@[simp] theorem setLock_clk (p : Nat) (b : Bool) (s : State) : (setLock p b s).clk = s.clk := rfl

@[simp] theorem armDivider_clk (m : Nat) (s : State) : (armDivider m s).clk = s.clk := by
  unfold armDivider
  extract_lets
  split
  · rfl
  · split <;> rfl

/-- Every entry that is armed is disarmed, and the line divider stops. -/
@[simp] theorem disarmMode_clk (s : State) : (disarmMode s).clk = s.clk := by
  rw [disarmMode, armDivider_clk]
  refine foldl_clk (fun t e => ?_) _ s
  split <;> rfl

@[simp] theorem modeDisarm_clk (s : State) : (modeDisarm s).clk = s.clk := by
  refine (foldl_clk (fun t i => ?_) _ _).trans (disarmMode_clk s)
  split <;> rfl

@[simp] theorem closeAssembly_clk (extra : Nat) (s : State) : (closeAssembly extra s).clk = s.clk := by
  unfold closeAssembly
  split <;> rfl

@[simp] theorem cutAssembly_clk (s : State) : (cutAssembly s).clk = s.clk := by
  unfold cutAssembly
  split
  · rfl
  · extract_lets
    split
    · rfl
    · exact closeAssembly_clk _ _

@[simp] theorem acceptMode_clk (m : Nat) (s : State) : (acceptMode m s).clk = s.clk := by
  unfold acceptMode
  dsimp only
  split
  · simp
  · simp

@[simp] theorem forceStandby_clk (s : State) : (forceStandby s).clk = s.clk := by
  unfold forceStandby
  extract_lets cur busy target logged
  have hlog : logged.clk = s.clk := (log_logFrame _ _ _).clk
  split
  · rfl
  · split
    · exact (acceptMode_clk _ _).trans hlog
    · exact hlog

/-- A reset of the time domains takes them down and ends the wait for the lock of PLL 1 (R58, R69). -/
theorem timeDown_clk {s : State} (hup : s.clk.timeUp = true) :
    (timeDown s).clk = { (dropOutputs s).clk with timeUp := false, timeUnlock := false } := by
  simp [timeDown, hup]

/-! ### One reference or lock each -/

theorem trefLost_present {s : State} (h : s.flag CLK_STATUS.TREF = true) :
    trefLost s =
      if s.clk.timeUp then holdoverOn ((noteLoss CLK_LOSS.TREF 1 (s.set CLK_STATUS.TREF 0)).log 0x0302)
      else (noteLoss CLK_LOSS.TREF 1 (s.set CLK_STATUS.TREF 0)).log 0x0302 := by
  simp [trefLost, h]

theorem trefRestored_holdover {s : State} (hup : s.clk.timeUp = true) (hhold : s.flag CLK_STATUS.HOLDOVER = true)
    (htref : s.flag CLK_STATUS.TREF = false) : trefRestored s = (s.set CLK_STATUS.TREF 1).log 0x0303 := by
  simp [trefRestored, hup, hhold, htref]

theorem steerDone_holdover {s : State} (hup : s.clk.timeUp = true) (hhold : s.flag CLK_STATUS.HOLDOVER = true)
    (htref : s.flag CLK_STATUS.TREF = true) :
    steerDone s = timHoldover false
      ((setLock 1 true { s with clk := { s.clk with timeUnlock := false } }).set CLK_STATUS.HOLDOVER 0) := by
  simp [steerDone, hup, hhold, htref]

theorem timeUnlock_present {s : State} (hup : s.clk.timeUp = true) (htref : s.flag CLK_STATUS.TREF = true)
    (hhold : s.flag CLK_STATUS.HOLDOVER = false) :
    timeUnlock s = holdoverOn
      ((noteLoss CLK_LOSS.TIMELOCK 1 { s with clk := { s.clk with timeUnlock := true } }).log 0x0304) := by
  simp [timeUnlock, hup, htref, hhold]

/-- PLL 3 without lock stops the clock of the encoder (R69). -/
theorem vencUnlock_running {s : State} (hup : s.clk.vencUp = true) :
    vencUnlock s = (setLock 3 false (venClockReset (noteLoss CLK_LOSS.VENCLOCK 1 s))).log 0x0305 := by
  have hup' : (noteLoss CLK_LOSS.VENCLOCK 1 s).clk.vencUp = true := hup
  simp [vencUnlock, vencAssert, hup, hup']

/-- The state once the loss of a port's clock is noted: its presence is gone, its bit is set, and the record names the
port (R68). -/
def notePclkLoss (n : Nat) (s : State) : State :=
  (noteLoss CLK_LOSS.PCLK (2 ^ n) (s.set CLK_STATUS.PCLK (putBits (s.get CLK_STATUS.PCLK) n n 0))).log 0x030C [n]

theorem refLost_pclk {s : State} {n : Fin 2} (hup : s.clk.coreUp = true)
    (hrst : bitAt (s.get CLK_RST.PAR) n.val = false) (hpclk : bitAt (s.get CLK_STATUS.PCLK) n.val = true) :
    refLost (.pclk n) s =
      if portState (notePclkLoss n.val s) n.val = 0 then notePclkLoss n.val s
      else syncLoss n.val 1 (notePclkLoss n.val s) := by
  have hwatched :
      ¬ (!s.clk.coreUp || bitAt (s.get CLK_RST.PAR) n.val || !bitAt (s.get CLK_STATUS.PCLK) n.val) = true := by
    simp [hup, hrst, hpclk]
  have htaken : refLost (.pclk n) s =
      if portState (notePclkLoss n.val s) n.val == 0 then notePclkLoss n.val s
      else syncLoss n.val 1 (notePclkLoss n.val s) := if_neg hwatched
  rw [htaken]
  by_cases hoff : portState (notePclkLoss n.val s) n.val = 0
  · simp [hoff]
  · simp [hoff]

/-- Settles O5: one lemma for each reference and lock; the reset of the time domains after the relock limit is read off
`timeDown_clk` and the frame that every command keeps (`exec_keeps`). -/
theorem lostReferencesAndLocks : Obligations.LostReferencesAndLocks := by
  refine ⟨?_, ?_, ?_, ?_, ?_, ?_, ?_⟩
  · intro s htref
    exact congrArg Host.Outcome.next (trefLost_present htref)
  · intro s hup hhold htref
    exact congrArg Host.Outcome.next (trefRestored_holdover hup hhold htref)
  · intro s hup hhold htref
    exact congrArg Host.Outcome.next (steerDone_holdover hup hhold htref)
  · intro s hup htref hhold
    exact congrArg Host.Outcome.next (timeUnlock_present hup htref hhold)
  · intro s hunlock hup
    have hexec : exec .timeLockTimeout s = .next (timeDown s) := congrArg Host.Outcome.next (if_pos hunlock)
    have hkeeps : Keeps s (timeDown s) := timeDown_keeps (Keeps.refl s)
    refine ⟨timeDown s, hexec, ?_, ?_, hkeeps.elapsed, hkeeps.pending⟩
    · rw [timeDown_clk hup]
    · rw [timeDown_clk hup]
  · intro s hup
    exact congrArg Host.Outcome.next (vencUnlock_running hup)
  · intro s n hup hrst hpclk
    exact congrArg Host.Outcome.next (refLost_pclk hup hrst hpclk)

end Sys2Proof.Machine
end

section
/-! The power-on reset (R18, R54, R71). -/

namespace Sys2Proof.Machine

/-- Keeping the levels of the position inputs writes registers only. -/
theorem keepLevels_frame (s t : State) : LogFrame t (keepLevels s t) := by
  unfold keepLevels
  induction List.range 8 generalizing t with
  | nil => exact logFrame_refl t
  | cons n ns ih => exact logFrame_trans (set_logFrame t _ _ _ _) (ih _)

/-- After the power-on reset every register but the live levels reads its reset word (R18, R71). -/
theorem rdA_porReset (s : State) {a : Nat} (h : ∀ n, n < 8 → a ≠ POS_STAT.LEVELS.adr n) :
    (porReset s).rdA a = resetWord a % 2 ^ 32 :=
  (rdA_keepLevels s _ a h).trans (BitVec.toNat_ofNat _ _)

/-- The power-on reset leaves the pins, the queue, elapsed time and the fuses as they were, and everything else that it
names as in `State.reset` (R71). -/
theorem porReset_clears (s : State) :
    (porReset s).clk = {
      porLow := s.clk.porLow
      dip := s.clk.dip
      rstLow := s.clk.rstLow
      perstLow := s.clk.perstLow
      fieldLink := s.clk.fieldLink } ∧
    (porReset s).now = 0 ∧ (porReset s).cfg = {} ∧ (porReset s).glb = {} ∧ (porReset s).que = {} ∧
    (porReset s).hbr = {} ∧ (porReset s).fuses = s.fuses ∧ (porReset s).elapsed = s.elapsed ∧
    (porReset s).pending = s.pending ∧
    ∀ a, (∀ n, n < 8 → a ≠ POS_STAT.LEVELS.adr n) → (porReset s).rdA a = resetWord a % 2 ^ 32 := by
  have hregs : ∀ a, (∀ n, n < 8 → a ≠ POS_STAT.LEVELS.adr n) → (porReset s).rdA a = resetWord a % 2 ^ 32 :=
    fun _ => rdA_porReset s
  obtain ⟨r, f, e, n, m, _, hreset⟩ : LogFrame _ (porReset s) := keepLevels_frame s _
  rw [hreset] at hregs ⊢
  exact ⟨rfl, rfl, rfl, rfl, rfl, rfl, rfl, rfl, rfl, hregs⟩

/-- Settles O1: both commands are `porReset` with their own pin low. -/
theorem powerOnResetClears : Obligations.PowerOnResetClears :=
  ⟨fun s => ⟨_, rfl, porReset_clears { s with clk := { s.clk with porLow := true } }⟩,
    fun s => ⟨_, rfl, porReset_clears { s with clk := { s.clk with dip := true } }⟩⟩

end Sys2Proof.Machine
end

section
/-! The loader from FUSE to CLOCKS (R74, R78-R88, R102, R108). -/

namespace Sys2Proof.Machine

theorem fuseDone_at {s : State} (hat : loaderAt s 0 = true) :
    fuseDone s = if s.fuses.parityOk then enterHeader 0 (deriveOut { s with cfg := { s.cfg with shadow := true } })
      else enterSafe (s.log 0x020B) := by
  simp [fuseDone, hat]

/-- At slot B the offset of slot B stays as HEADER of slot A left it (R78). -/
theorem headerDone_slotB {s : State} (h : List Nat) (hat : loaderAt s 1 = true) (hslot : s.cfg.slot = 1) :
    headerDone h s =
      if headerCheck 1 (s.get CFG_SLOTBOFS.OFS) h = 0 then
        { (switchFlash h s).set CFG_STATUS.PHASE 2 with
          cfg := { ((switchFlash h s).set CFG_STATUS.PHASE 2).cfg with hdr := h } }
      else slotFail (headerCheck 1 (s.get CFG_SLOTBOFS.OFS) h) 0 s := by
  by_cases hok : headerCheck 1 (s.get CFG_SLOTBOFS.OFS) h = 0
  · simp [headerDone, hat, hslot, hok]
  · simp [headerDone, hat, hslot, hok]

/-- Reason 5 is a CRC failure: a fast read is tried again at low speed before the slot fails (R108). -/
theorem verifyDone_at {s : State} (img0 : List Nat) (hat : loaderAt s 2 = true) :
    verifyDone img0 s =
      let img := streamed (imgLen s.cfg.hdr) img0
      let r := verifyCheck s img
      if r.1 = 5 ∧ readFast s = true ∧ s.cfg.slow = false then
        enterHeader s.cfg.slot { s with cfg := { s.cfg with slow := true } }
      else if r.1 = 0 then imageGood img s else slotFail r.1 r.2 s := by
  generalize hr : verifyCheck s (streamed (imgLen s.cfg.hdr) img0) = r
  by_cases hok : r.1 = 0
  · simp [verifyDone, hat, hr, hok]
  · simp [verifyDone, hat, hr, hok, and_assoc]

theorem clocksLocked_at {s : State} (hat : loaderAt s 3 = true) :
    clocksLocked s = { s.set CFG_STATUS.PHASE 4 with cfg := { s.cfg with recIdx := 0 } } := by
  simp [clocksLocked, hat]

theorem clocksTimeout_at {s : State} (hat : loaderAt s 3 = true) :
    clocksTimeout s = applyAbort 14 s.cfg.recIdx s := by
  simp [clocksTimeout, hat]

/-- Settles O7: one lemma for the end of each state. -/
theorem loaderFindsAnImage : Obligations.LoaderFindsAnImage := by
  refine ⟨?_, ?_, ?_, ?_, ?_⟩
  · intro s hat
    exact congrArg Host.Outcome.next (fuseDone_at hat)
  · intro s h hat hslot
    exact congrArg Host.Outcome.next (headerDone_slotB (natBytes h) hat hslot)
  · intro s img hat
    exact congrArg Host.Outcome.next (verifyDone_at (natBytes img) hat)
  · intro s hat
    exact congrArg Host.Outcome.next (clocksLocked_at hat)
  · intro s hat
    exact congrArg Host.Outcome.next (clocksTimeout_at hat)

end Sys2Proof.Machine
end

section
/-! The records that APPLY takes (R87-R92, R154). -/

namespace Sys2Proof.Machine

/-- The state in which a record acts: the loader has counted it. -/
def nextRecord (s : State) : State := { s with cfg := { s.cfg with recIdx := s.cfg.recIdx + 1 } }

/-! ### Taking a record in APPLY -/

/-- APPLY carries out a record that is neither skipped nor left to CLOCKS (R91). -/
theorem takeRecord_acts {s : State} {skip clk : Bool} (act : State → State) (happly : takesRecord s 4 = true)
    (hclocks : takesRecord s 3 = false) (hskip : skip = false) (hclk : clk = false) :
    takeRecord skip clk act s = act (nextRecord s) := by
  simp [takeRecord, happly, hclocks, hskip, hclk, nextRecord]

/-- APPLY skips and counts a record that R89 skips. -/
theorem takeRecord_skips {s : State} {skip : Bool} (clk : Bool) (act : State → State)
    (happly : takesRecord s 4 = true) (hclocks : takesRecord s 3 = false) (hskip : skip = true) :
    takeRecord skip clk act s = skipRecord (nextRecord s) := by
  simp [takeRecord, happly, hclocks, hskip, nextRecord]

/-! ### The POLL in progress -/

theorem pollRetry_polling {s : State} {p : PollSt} (hat : loaderAt s 4 = true) (hpoll : s.cfg.poll = some p) :
    pollRetry s = pollRead p s := by
  simp [pollRetry, hpoll, hat]

/-- A POLL that times out is counted and logged, and aborts the run when it is REQUIRED (R92). -/
theorem pollTimeout_polling {s : State} {p : PollSt} (hat : loaderAt s 4 = true) (hpoll : s.cfg.poll = some p) :
    pollTimeout s =
      let t := (s.count CFG_SKIPPED.POLLTO).log 0x0204 [s.cfg.recIdx - 1]
      if p.required then applyAbort 12 (s.cfg.recIdx - 1) t else { t with cfg := { t.cfg with poll := none } } := by
  simp [pollTimeout, hpoll, hat]

theorem waitExpiry_at {s : State} (hat : loaderAt s 4 = true) :
    waitExpiry s = { s with cfg := { s.cfg with waiting := false } } := by
  simp [waitExpiry, hat]

/-- A block skips when any of its words is aimed at absent space (R89, log entry 18). -/
theorem blockGone_false {v : Variant} {a n : Nat} (h : ∀ k, k < n → addrGone v (a + 4 * k) = false) :
    (List.range n).any (fun k => addrGone v (a + 4 * k)) = false := by
  simpa using h

/-- Settles O8: every record type is `takeRecord` with what it does, so each clause is `takeRecord_acts` or
`takeRecord_skips`. -/
theorem loaderAppliesRecords : Obligations.LoaderAppliesRecords := by
  refine ⟨?_, ?_, ?_, ?_, ?_, ?_, ?_, ?_, ?_, ?_⟩
  · intro s ty q happly hty hclocks
    have hknown : decide (7 < ty.toNat) = false := decide_eq_false (by omega)
    exact congrArg Host.Outcome.next (takeRecord_acts _ happly hclocks hknown rfl)
  · intro s q a v happly hclocks hthere hclk
    exact congrArg Host.Outcome.next (takeRecord_acts _ happly hclocks hthere hclk)
  · intro s q a v m happly hclocks hgone
    exact congrArg Host.Outcome.next (takeRecord_skips _ _ happly hclocks hgone)
  · intro s q a ws happly hclocks hthere hclk
    have hlen : (natWords ws).length = ws.length := List.length_map _
    have hblock := blockGone_false (n := (natWords ws).length) (by rwa [hlen])
    exact congrArg Host.Outcome.next (takeRecord_acts _ happly hclocks hblock hclk)
  · intro s q u i ps happly hclocks hthere hunit
    have hclk : (u.toNat == 3) = false := beq_eq_false_iff_ne.mpr hunit
    exact congrArg Host.Outcome.next (takeRecord_acts _ happly hclocks hthere hclk)
  · intro s q u tb i st ws happly hclocks hthere
    exact congrArg Host.Outcome.next (takeRecord_acts _ happly hclocks hthere rfl)
  · intro s us happly hclocks
    exact congrArg Host.Outcome.next (takeRecord_acts _ happly hclocks rfl rfl)
  · intro s hat
    exact congrArg Host.Outcome.next (waitExpiry_at hat)
  · intro s q a m v us happly hclocks hthere
    exact congrArg Host.Outcome.next (takeRecord_acts _ happly hclocks hthere rfl)
  · intro s p hat hpoll
    exact ⟨congrArg Host.Outcome.next (pollRetry_polling hat hpoll),
      congrArg Host.Outcome.next (pollTimeout_polling hat hpoll)⟩

end Sys2Proof.Machine
end

section
/-! The end of the loader's run (R74, R93, R94). -/

namespace Sys2Proof.Machine

/-- The image as re-read decides whether the loader goes on to ENTER (R93). -/
theorem applyDone_taking {s : State} (img : List Nat) (happly : takesRecord s 4 = true) :
    applyDone img s =
      if imageCrc (streamed (imgLen s.cfg.hdr) img) = hdrField s.cfg.hdr 0xBC 4 then
        { s.set CFG_STATUS.PHASE 5 with cfg := { s.cfg with subLock := true } }
      else applyAbort 13 s.cfg.recIdx s := by
  by_cases hcrc : imageCrc (streamed (imgLen s.cfg.hdr) img) = hdrField s.cfg.hdr 0xBC 4
  · simp [applyDone, happly, hcrc]
  · simp [applyDone, happly, hcrc]

/-! ### What the end of the run leaves -/

/-- Being done writes `CFG_STATUS` and `CFG_LOADTIME`, then fires `CFG_DONE`. -/
theorem rdA_loaderDone (s : State) (a : Nat) :
    (loaderDone s).rdA a = ((s.set CFG_STATUS.DONE 1).set CFG_LOADTIME.US
      (min ((s.elapsed - s.cfg.startAt) / 1000) (2 ^ 32 - 1))).rdA a := by
  unfold loaderDone
  exact rdA_fire _ _ _

theorem rdA_loaderDone_other (s : State) {a : Nat} (hstat : a ≠ CFG_STATUS.reg.adr 0)
    (htime : a ≠ CFG_LOADTIME.US.adr 0) : (loaderDone s).rdA a = s.rdA a := by
  rw [rdA_loaderDone, rdA_set_other _ _ _ _ _ _ htime, rdA_set_other _ CFG_STATUS.DONE _ _ _ _ hstat]

theorem get_loaderDone_phase (s : State) : (loaderDone s).get CFG_STATUS.PHASE = s.get CFG_STATUS.PHASE := by
  rw [get_of_rdA (rdA_loaderDone s _), get_set_other _ _ _ _ _ _ _ _ (by decide),
    get_set_beside _ _ _ _ _ _ _ _ (by decide) (by decide) (by decide) (by decide)]

theorem flag_loaderDone_done (s : State) : (loaderDone s).flag CFG_STATUS.DONE = true := by
  rw [State.flag, get_of_rdA (rdA_loaderDone s _), get_set_other _ _ _ _ _ _ _ _ (by decide),
    get_set_same _ _ _ _ _ (by decide) (by decide)]
  decide

/-- `CFG_LOADTIME` holds the microseconds since the reset, and saturates. -/
theorem get_loaderDone_loadTime (s : State) :
    (loaderDone s).get CFG_LOADTIME.US = min ((s.elapsed - s.cfg.startAt) / 1000) (2 ^ 32 - 1) := by
  have hwidth : 2 ^ (CFG_LOADTIME.US.hi + 1 - CFG_LOADTIME.US.lo) = 2 ^ 32 := by decide
  rw [get_of_rdA (rdA_loaderDone s _), get_set_same _ _ _ _ _ (by decide) (by decide), hwidth]
  omega

theorem loaderDone_frame (s : State) :
    (loaderDone s).fired = s.fired ++ [⟨0x004, s.now, 0⟩] ∧ (loaderDone s).clk = s.clk ∧ (loaderDone s).glb = s.glb := by
  unfold loaderDone
  simp [State.fire]

/-- The state in which the run is over and DONE is still to be set. -/
def runOver (s : State) : State := { s.set CFG_STATUS.PHASE 6 with cfg := { s.cfg with waiting := false } }

theorem loaderEnd_eq (s : State) : loaderEnd s = loaderDone (runOver s) := rfl

theorem rdA_withCfg (s : State) (c : CfgSt) (a : Nat) : State.rdA { s with cfg := c } a = s.rdA a := rfl

theorem rdA_runOver (s : State) (a : Nat) : (runOver s).rdA a = (s.set CFG_STATUS.PHASE 6).rdA a :=
  rdA_withCfg _ _ a

@[simp] theorem runOver_elapsed (s : State) : (runOver s).elapsed = s.elapsed := by simp [runOver]
@[simp] theorem runOver_startAt (s : State) : (runOver s).cfg.startAt = s.cfg.startAt := by simp [runOver]
@[simp] theorem runOver_fired (s : State) : (runOver s).fired = s.fired := by simp [runOver]
@[simp] theorem runOver_now (s : State) : (runOver s).now = s.now := by simp [runOver]
@[simp] theorem runOver_clk (s : State) : (runOver s).clk = s.clk := by simp [runOver]
@[simp] theorem runOver_glb (s : State) : (runOver s).glb = s.glb := by simp [runOver]

theorem get_runOver_phase (s : State) : (runOver s).get CFG_STATUS.PHASE = 6 := by
  rw [get_of_rdA (rdA_runOver s _), get_set_same _ _ _ _ _ (by decide) (by decide)]
  decide

/-! ### ENTER -/

/-- With no MODE record, or one of STANDBY, ENTER ends the run (R94). -/
theorem loaderEnter_ends {s : State} (hat : loaderAt s 5 = true) (hwait : s.cfg.waiting = false)
    (hmode : s.cfg.modeRec = none ∨ s.cfg.modeRec = some 0) : loaderEnter s = loaderEnd s := by
  obtain hmode | hmode := hmode
  · simp [loaderEnter, hat, hwait, hmode]
  · simp [loaderEnter, hat, hwait, hmode]

/-- Another mode is requested; the loader waits for it unless the request is refused (R94). -/
theorem loaderEnter_requests {s : State} {m : Nat} (hat : loaderAt s 5 = true) (hwait : s.cfg.waiting = false)
    (hmode : s.cfg.modeRec = some m) (hm : m ≠ 0) :
    loaderEnter s =
      if (modeRefusal s m).isSome then loaderEnd ((requestMode m 0 s).log 0x020D)
      else { requestMode m 0 s with cfg := { (requestMode m 0 s).cfg with waiting := true } } := by
  simp [loaderEnter, hat, hwait, hmode, hm]

/-- Settles O9: APPLY's end by `applyDone_taking`, the three ways out of ENTER by its two lemmas, and what the end of the
run leaves by those about `loaderDone` and `runOver`. -/
theorem loaderEndsItsRun : Obligations.LoaderEndsItsRun := by
  refine ⟨?_, ?_, ?_⟩
  · intro s img happly
    exact congrArg Host.Outcome.next (applyDone_taking (natBytes img) happly)
  · intro s hat hwait hmode
    refine ⟨loaderEnd s, congrArg Host.Outcome.next (loaderEnter_ends hat hwait hmode), ?_⟩
    rw [loaderEnd_eq]
    have hload := get_loaderDone_loadTime (runOver s)
    obtain ⟨hfired, hclk, hglb⟩ := loaderDone_frame (runOver s)
    simp only [runOver_elapsed, runOver_startAt, runOver_fired, runOver_now, runOver_clk, runOver_glb]
      at hload hfired hclk hglb
    have hphase := (get_loaderDone_phase (runOver s)).trans (get_runOver_phase s)
    refine ⟨hphase, flag_loaderDone_done _, hload, hfired, hclk, hglb, fun a hstat htime => ?_⟩
    rw [rdA_loaderDone_other _ hstat htime, rdA_runOver, rdA_set_other _ CFG_STATUS.PHASE _ _ _ _ hstat]
  · intro s m hat hwait hmode hm
    exact congrArg Host.Outcome.next (loaderEnter_requests hat hwait hmode hm)

end Sys2Proof.Machine
end

section
/-! Writes of the host that do not reach a register (R98, R142, R548-R550). -/

namespace Sys2Proof.Machine

/-! ### The gate, in the order in which it judges -/

/-- While the core is in reset a write is counted and discarded (R550). -/
theorem hostGate_inReset {s : State} (a v : Nat) (op : State → State) (hopen : hostOpen s = true)
    (hcore : s.clk.coreUp = false) : hostGate a v op s = s.count HBR_RSTACC.COUNT := by
  simp [hostGate, hopen, hcore, countInReset]

/-- Before DONE a write outside `CFG` is counted and discarded; the first is logged (R98). -/
theorem hostGate_early {s : State} {a : Nat} (v : Nat) (op : State → State) (hopen : hostOpen s = true)
    (hcore : s.clk.coreUp = true) (hdone : s.flag CFG_STATUS.DONE = false) (hunit : unitAt a ≠ some 2) :
    hostGate a v op s = countEarly s := by
  simp [hostGate, hopen, hcore, hdone, hunit]

/-- A write to absent space is counted and discarded (R142). -/
theorem hostGate_absent {s : State} {a k : Nat} (v : Nat) (op : State → State) (hopen : hostOpen s = true)
    (hcore : s.clk.coreUp = true) (hdone : s.flag CFG_STATUS.DONE = true) (habs : absentAt s.fuses.variant a = some k) :
    hostGate a v op s = countAbsent a k s := by
  simp [hostGate, hopen, hcore, hdone, coreGate, habs]

/-- The first absent write since the count was zero stores its address and is logged (R142). -/
theorem countAbsent_eq (a k : Nat) (s : State) :
    countAbsent a k s =
      if s.get GLB_ABSENTWR.COUNT = 0
      then ((s.count GLB_ABSENTWR.COUNT).set GLB_ABSENTADR.ADDR a).log 0x0101 [a, k]
      else s.count GLB_ABSENTWR.COUNT := by
  simp [countAbsent]

/-! ### The memory write as a whole -/

theorem barWrite_closed {s : State} (bar2 : Bool) (a : Nat) (ws : List (Nat × Nat)) (poisoned : Bool)
    (hopen : hostOpen s = false) : barWrite bar2 a ws poisoned s = unsupported 0x40 true true s := by
  simp [barWrite, hopen]

theorem barWrite_poisoned {s : State} (bar2 : Bool) (a : Nat) (ws : List (Nat × Nat)) (hopen : hostOpen s = true) :
    barWrite bar2 a ws true s = (aerSet 12 s).log 0x0E0C [0] := by
  simp [barWrite, hopen]

/-- A dword of BAR0 with a byte enable clear is counted and logged (R548). -/
theorem barWrite_partial {s : State} {a be : Nat} (v : Nat) (hopen : hostOpen s = true) (ha : a % 4 = 0)
    (hbe : be ≠ 15) : barWrite false a [(v, be)] false s = (s.count HBR_ACCCNT.BAD).log 0x0E0A [a, be] := by
  have hq : a / 4 * 4 = a := by omega
  simp [barWrite, hopen, hq, barBurst, barDword, hbe]

/-- Settles O13: a whole dword goes through `hostGate`, judged in its order; the rest is decided by `barWrite`. -/
theorem absentAndEarlyWrites : Obligations.AbsentAndEarlyWrites := by
  refine ⟨?_, ?_, ?_, ?_, ?_, ?_⟩
  · intro s a v hopen ha hcore
    rw [execRegisterWrite_dword s a v hopen ha, regWrite, hostGate_inReset _ _ _ hopen hcore]
  · intro s a v hopen ha hcore hdone hunit
    rw [execRegisterWrite_dword s a v hopen ha, regWrite, hostGate_early _ _ hopen hcore hdone hunit]
    rfl
  · intro s a v k hopen ha hcore hdone habs
    rw [execRegisterWrite_dword s a v hopen ha, regWrite, hostGate_absent _ _ hopen hcore hdone habs, countAbsent_eq]
  · intro s a v hopen
    exact congrArg Host.Outcome.next (barWrite_closed _ _ _ _ hopen)
  · intro s a v be hopen ha hbe
    have hpart : be.toNat ≠ 15 := fun h => hbe (BitVec.eq_of_toNat_eq h)
    exact congrArg Host.Outcome.next (barWrite_partial _ hopen ha hpart)
  · intro s b a ws hopen
    exact congrArg Host.Outcome.next (barWrite_poisoned _ _ _ hopen)

end Sys2Proof.Machine
end

section
/-! What the halts of queues and encoder contexts leave alone: the clocks and resets (R531, R534, R596). -/

namespace Sys2Proof.Machine

@[simp] theorem log_clk (s : State) (code : Nat) (ds : List Nat) : (s.log code ds).clk = s.clk :=
  (log_logFrame s code ds).clk

@[simp] theorem logSec_clk (s : State) (code scope : Nat) (ds : List Nat) : (s.logSec code scope ds).clk = s.clk :=
  (logSec_logFrame s code scope ds).clk

@[simp] theorem emit_clk (s : State) (e : Emission) : (s.emit e).clk = s.clk := by
  unfold State.emit
  split <;> rfl

@[simp] theorem setReads_clk (rs : List ReadReq) (s : State) : (setReads rs s).clk = s.clk := by
  unfold setReads
  dsimp only
  split <;> rfl

/-! ### Messages -/

@[simp] theorem sendMessage_clk (v : Nat) (s : State) : (sendMessage v s).clk = s.clk := by
  unfold sendMessage
  dsimp only
  split <;> split <;> simp

@[simp] theorem requestMessage_clk (src ix v : Nat) (s : State) : (requestMessage src ix v s).clk = s.clk := by
  unfold requestMessage
  split
  · exact sendMessage_clk v s
  · split <;> rfl

@[simp] theorem queueMessage_clk (q : Nat) (s : State) : (queueMessage q s).clk = s.clk := by simp [queueMessage]

/-! ### Queues -/

@[simp] theorem setQueue_clk (s : State) (q : Nat) (u : QueueSt) : (s.setQueue q u).clk = s.clk := rfl

@[simp] theorem setHeld_clk (st : Nat) (b : Bool) (s : State) : (setHeld st b s).clk = s.clk := rfl

@[simp] theorem recheckStream_clk (st : Nat) (s : State) : (recheckStream st s).clk = s.clk := by
  unfold recheckStream
  dsimp only
  split
  · rfl
  · split
    · split <;> rfl
    · split
      · rfl
      · split
        · rfl
        · simp

@[simp] theorem settleStream_clk (st : Nat) (s : State) : (settleStream st s).clk = s.clk := by
  unfold settleStream
  split
  · split
    · exact recheckStream_clk st s
    · rfl
  · rfl

@[simp] theorem itemGone_clk (it : Item) (s : State) : (itemGone it s).clk = s.clk := by
  unfold itemGone
  dsimp only
  split <;> split <;> simp

@[simp] theorem dropItem_clk (q cause : Nat) (it : Item) (s : State) : (dropItem q cause it s).clk = s.clk := by
  simp [dropItem, noteDrop]

@[simp] theorem dropWaiting_clk (q cause : Nat) (s : State) : (dropWaiting q cause s).clk = s.clk := by
  refine (foldl_clk (fun t it => ?_) _ _).trans (setQueue_clk s q _)
  split
  · rfl
  · exact dropItem_clk q cause it t

@[simp] theorem pauseQueue_clk (q reason : Nat) (s : State) : (pauseQueue q reason s).clk = s.clk := by
  unfold pauseQueue
  extract_lets s1 s2
  have hshown : s2.clk = s.clk := by rw [set_clk, fire_clk, set_clk, set_clk]
  split
  · rw [queueMessage_clk, hshown]
  · exact hshown

@[simp] theorem haltQueue_clk (q reason : Nat) (s : State) : (haltQueue q reason s).clk = s.clk := by
  unfold haltQueue
  dsimp only
  split
  · rw [pauseQueue_clk, dropWaiting_clk]
    split
    · rfl
    · split <;> simp
  · rfl

@[simp] theorem haltQueues_clk (reason : Nat) (s : State) : (haltQueues reason s).clk = s.clk :=
  foldl_clk (fun t q => haltQueue_clk q reason t) _ s

/-! ### Encoder contexts -/

@[simp] theorem addLost_clk (x n : Nat) (s : State) : (addLost x n s).clk = s.clk := by
  unfold addLost
  split <;> rfl

@[simp] theorem countLost_clk (x cause : Nat) (s : State) : (countLost x cause s).clk = s.clk := by
  unfold countLost
  dsimp only
  split <;> simp

@[simp] theorem losePic_clk (cause : Nat) (q : Picture) (s : State) : (losePic cause q s).clk = s.clk := by
  unfold losePic
  dsimp only
  split <;> simp [setSlots]

@[simp] theorem losePics_clk (x cause : Nat) (f : Picture → Bool) (s : State) : (losePics x cause f s).clk = s.clk :=
  foldl_clk (fun t q => losePic_clk cause q t) _ s

@[simp] theorem contextHalt_clk (x reason : Nat) (s : State) : (contextHalt x reason s).clk = s.clk := by
  unfold contextHalt
  split
  · rfl
  · simp

@[simp] theorem haltContexts_clk (reason : Nat) (s : State) : (haltContexts reason s).clk = s.clk :=
  foldl_clk (fun t x => contextHalt_clk x reason t) _ s

end Sys2Proof.Machine
end

section
/-! The states of the host bridge (R97, R529-R542). -/

namespace Sys2Proof.Machine

/-! ### The fields of `HBR_STAT` beside each other -/

theorem get_state_setState (s : State) (v : Nat) : (s.set HBR_STAT.STATE v).get HBR_STAT.STATE = v % 8 :=
  get_set_same s _ v 0 0 (by decide) (by decide)

theorem get_state_setBme (s : State) (v : Nat) : (s.set HBR_STAT.BME v).get HBR_STAT.STATE = s.get HBR_STAT.STATE :=
  get_set_beside s _ _ v 0 0 0 0 rfl (by decide) (by decide) (by decide)

theorem get_state_setD3 (s : State) (v : Nat) : (s.set HBR_STAT.D3 v).get HBR_STAT.STATE = s.get HBR_STAT.STATE :=
  get_set_beside s _ _ v 0 0 0 0 rfl (by decide) (by decide) (by decide)

/-- A one-bit field beside the one written reads what it read before. -/
theorem flag_set_beside (s : State) (f g : Fld) (v : Nat) (e : g.adr = f.adr) (hlo : f.lo ≤ f.hi) (hhi : f.hi ≤ 31)
    (d : f.hi < g.lo ∨ (g.hi < f.lo ∧ g.lo ≤ g.hi)) : (s.set f v).flag g = s.flag g := by
  rw [State.flag, State.flag, get_set_beside s f g v 0 0 0 0 e hlo hhi d]

theorem flag_bme_setState (s : State) (v : Nat) : (s.set HBR_STAT.STATE v).flag HBR_STAT.BME = s.flag HBR_STAT.BME :=
  flag_set_beside s _ _ v rfl (by decide) (by decide) (by decide)

theorem flag_d3_setState (s : State) (v : Nat) : (s.set HBR_STAT.STATE v).flag HBR_STAT.D3 = s.flag HBR_STAT.D3 :=
  flag_set_beside s _ _ v rfl (by decide) (by decide) (by decide)

theorem flag_bme_setBme (s : State) : (s.set HBR_STAT.BME 1).flag HBR_STAT.BME = true := by
  rw [State.flag, get_set_same s _ 1 0 0 (by decide) (by decide)]
  decide

theorem flag_d3_setBme (s : State) (v : Nat) : (s.set HBR_STAT.BME v).flag HBR_STAT.D3 = s.flag HBR_STAT.D3 :=
  flag_set_beside s _ _ v rfl (by decide) (by decide) (by decide)

theorem flag_bme_setD3 (s : State) (v : Nat) : (s.set HBR_STAT.D3 v).flag HBR_STAT.BME = s.flag HBR_STAT.BME :=
  flag_set_beside s _ _ v rfl (by decide) (by decide) (by decide)

theorem flag_d3_setD3 (s : State) : (s.set HBR_STAT.D3 0).flag HBR_STAT.D3 = false := by
  rw [State.flag, get_set_same s _ 0 0 0 (by decide) (by decide)]
  decide

/-! ### SLAVE or MASTER -/

/-- The code of the state that R529 gives a bridge whose retry period is over: MASTER with Bus Master Enable set in D0, else
SLAVE. -/
def settledCode (s : State) : Nat := if s.flag HBR_STAT.BME = true ∧ s.flag HBR_STAT.D3 = false then 3 else 2

theorem settledCode_lt (s : State) : settledCode s < 8 := by
  unfold settledCode
  split <;> decide

theorem settledCode_setState (s : State) (v : Nat) : settledCode (s.set HBR_STAT.STATE v) = settledCode s := by
  rw [settledCode, flag_bme_setState, flag_d3_setState, settledCode]

/-- In SLAVE and MASTER the bridge takes the state that R529 gives it. -/
theorem settleBridge_up {s : State} (h : s.get HBR_STAT.STATE = 2 ∨ s.get HBR_STAT.STATE = 3) :
    settleBridge s = s.set HBR_STAT.STATE (settledCode s) := by
  obtain h | h := h <;> simp [settleBridge, h, settledCode]

/-- The end of a retry period, and of FLR, by way of SLAVE (R529, R542). -/
theorem get_settleBridge_slave (s : State) :
    (settleBridge (s.set HBR_STAT.STATE 2)).get HBR_STAT.STATE = settledCode s := by
  rw [settleBridge_up (.inl (get_state_setState s 2)), get_state_setState, settledCode_setState,
    Nat.mod_eq_of_lt (settledCode_lt s)]

theorem retryEnd_other {s : State} (h : s.get HBR_STAT.STATE ≠ 1) : retryEnd s = s := by simp [retryEnd, h]

theorem retryEnd_retry {s : State} (h : s.get HBR_STAT.STATE = 1) :
    retryEnd s = settleBridge (s.set HBR_STAT.STATE 2) := by
  simp [retryEnd, h]

theorem settledCode_settleBridge_slave (s : State) :
    settledCode (settleBridge (s.set HBR_STAT.STATE 2)) = settledCode s := by
  rw [settleBridge_up (.inl (get_state_setState s 2)), settledCode_setState, settledCode_setState]

/-! ### The link -/

theorem linkUp_blocked {s : State} (g w pg pw : Nat)
    (h : s.get HBR_STAT.STATE ≠ 0 ∨ s.clk.hostUp = false ∨ s.clk.testHold = true) : linkUp g w pg pw s = s := by
  obtain h | h | h := h <;> simp [linkUp, h]

/-- The link trained at rate code `rate` and `width` lanes: RETRY, and the record of R530. -/
def linkTrained (rate width : Nat) (s : State) : State :=
  let u : State := { s with hbr := { s.hbr with linkUp := true } }
  ((((u.set HBR_STAT.STATE 1).set HBR_STAT.GEN rate).set HBR_STAT.WIDTH width).fire 0x250).log 0x0E02
    [rateGts rate, width]

/-- From DOWN the link trains to what both sides have; less than the variant or the partner offers is logged (R521). -/
theorem linkUp_trains {s : State} (g w pg pw : Nat) (hdown : s.get HBR_STAT.STATE = 0) (hhost : s.clk.hostUp = true)
    (htest : s.clk.testHold = false) :
    linkUp g w pg pw s =
      let top := if s.fuses.variant = .e then 4 else 5
      let wide := if s.fuses.variant = .e then 8 else 16
      let rate := min (max 1 g) top
      let width := min w wide
      if rate < top ∨ width < wide ∨ rate < pg ∨ width < pw then
        (linkTrained rate width s).log 0x0E0D [rateGts rate, width]
      else linkTrained rate width s := by
  have hfree : ¬ (s.get HBR_STAT.STATE != 0 || !s.clk.hostUp || s.clk.testHold) = true := by simp [hdown, hhost, htest]
  rw [linkUp, if_neg hfree]
  simp only [beq_iff_eq, Bool.or_eq_true, decide_eq_true_eq, or_assoc, linkTrained]

theorem bridgeDown_idle {s : State} (hdown : s.get HBR_STAT.STATE = 0) (hlink : s.hbr.linkUp = false) :
    bridgeDown s = s := by
  simp [bridgeDown, hdown, hlink]

/-- A lost link (R530, R531). -/
theorem bridgeDown_leaves {s : State} (h : s.get HBR_STAT.STATE ≠ 0 ∨ s.hbr.linkUp = true) :
    bridgeDown s = haltContexts 2 (haltQueues 6 (abandonFar ((((((setReads [] (({ s with hbr := { s.hbr with
      linkUp := false } } : State).set HBR_STAT.STATE 0)).set HBR_STAT.L1 0).set HBR_STAT.WIDTH 0).set HBR_STAT.GEN 0).fire
      0x251).log 0x0E01))) := by
  have hleaves : ¬ (s.get HBR_STAT.STATE == 0 && !s.hbr.linkUp) = true := by
    obtain h | h := h <;> simp [h]
  exact if_neg hleaves

theorem bridgeDown_clk (s : State) : (bridgeDown s).clk = s.clk := by
  unfold bridgeDown
  split
  · rfl
  · simp [abandonFar]

/-! ### The reset of the bridge (R530, R537) -/

theorem tget_filter_out {α : Type} (d : α) (m : List (Nat × α)) {p : Nat × α → Bool} {k : Nat}
    (h : ∀ e ∈ m, e.1 = k → p e = false) : tget d (m.filter p) k = d := by
  induction m with
  | nil => rfl
  | cons e m ih =>
    have htail := ih fun x hx => h x (List.mem_cons_of_mem e hx)
    obtain ⟨j, w⟩ := e
    by_cases hj : j = k
    · rw [List.filter_cons_of_neg (by simp [h (j, w) List.mem_cons_self hj]), htail]
    · by_cases hp : p (j, w) = true
      · rw [List.filter_cons_of_pos hp]
        simpa [tget, hj] using htail
      · rw [List.filter_cons_of_neg hp, htail]

/-- A register that is cleared reads its reset word (R18). -/
theorem rdA_clearRegs_inside (s : State) {lo hi a : Nat} (hlo : lo ≤ a) (hhi : a < hi) :
    (s.clearRegs lo hi).rdA a = resetWord a % 2 ^ 32 := by
  have hgone : tget (BitVec.ofNat 32 (resetWord a)) (s.clearRegs lo hi).regs a = BitVec.ofNat 32 (resetWord a) := by
    refine tget_filter_out _ _ fun e _ he => ?_
    simp [he, hlo, hhi]
  rw [State.rdA, hgone, BitVec.toNat_ofNat]

/-- The registers of the bridge that its reset keeps are written back over the cleared window; every hidden state of it is
lost. -/
def bridgeCleared (s : State) : State :=
  let keep : List (Nat × Nat) := [0xA00010, 0xA00014, 0xA0001C, 0xA00024].map (fun a => (a, s.rdA a))
  { keep.foldl (fun t e => t.wrA e.1 e.2) (s.clearRegs 0xA00000 0xC00000) with hbr := {} }

theorem bridgeReset_eq (s : State) : bridgeReset s = (bridgeCleared s).set HBR_STAT.CORE (b2n s.clk.coreUp) := rfl

@[simp] theorem bridgeReset_hbr (s : State) : (bridgeReset s).hbr = {} := set_hbr _ _ _ _ _

@[simp] theorem bridgeReset_clk (s : State) : (bridgeReset s).clk = s.clk := by
  simp [bridgeReset_eq, bridgeCleared]

theorem rdA_bridgeCleared_stat (s : State) : (bridgeCleared s).rdA 0xA00020 = resetWord 0xA00020 % 2 ^ 32 := by
  have hregs : (bridgeCleared s).rdA 0xA00020 = State.rdA
      (([0xA00010, 0xA00014, 0xA0001C, 0xA00024].map (fun a => (a, s.rdA a))).foldl (fun t e => t.wrA e.1 e.2)
        (s.clearRegs 0xA00000 0xC00000)) 0xA00020 := rdA_congr rfl _
  rw [hregs]
  simp only [List.map, List.foldl]
  rw [rdA_wrA_other _ _ _ _ (by decide), rdA_wrA_other _ _ _ _ (by decide), rdA_wrA_other _ _ _ _ (by decide),
    rdA_wrA_other _ _ _ _ (by decide), rdA_clearRegs_inside s (by decide) (by decide)]

/-- A field of `HBR_STAT` beside CORE that has reset value 0 reads 0 after a reset of the bridge. -/
theorem get_bridgeReset_stat (s : State) {f : Fld} (hadr : f.adr = 0xA00020)
    (hbeside : HBR_STAT.CORE.hi < f.lo ∨ (f.hi < HBR_STAT.CORE.lo ∧ f.lo ≤ f.hi))
    (hzero : bitsOf (resetWord 0xA00020 % 2 ^ 32) f.hi f.lo = 0) : (bridgeReset s).get f = 0 := by
  rw [bridgeReset_eq, get_set_beside _ HBR_STAT.CORE f _ 0 0 0 0 hadr (by decide) (by decide) hbeside, State.get, hadr,
    rdA_bridgeCleared_stat, hzero]

/-- A reset of the bridge leaves it in DOWN. -/
theorem get_bridgeReset_state (s : State) : (bridgeReset s).get HBR_STAT.STATE = 0 :=
  get_bridgeReset_stat s rfl (by decide) (by decide)

/-- A reset of the bridge clears Bus Master Enable. -/
theorem flag_bridgeReset_bme (s : State) : (bridgeReset s).flag HBR_STAT.BME = false := by
  rw [State.flag, get_bridgeReset_stat s rfl (by decide) (by decide)]
  decide

theorem get_state_setLock (p : Nat) (b : Bool) (s : State) :
    (setLock p b s).get HBR_STAT.STATE = s.get HBR_STAT.STATE :=
  get_set_other _ _ _ _ _ _ _ _ (by decide)

/-! ### Bus Master Enable and the power states (R532-R536) -/

theorem bmeSet_up {s : State} (h : s.get HBR_STAT.STATE = 2 ∨ s.get HBR_STAT.STATE = 3)
    (hd0 : s.flag HBR_STAT.D3 = false) : bmeSet s = (s.set HBR_STAT.BME 1).set HBR_STAT.STATE 3 := by
  have hcode : settledCode (s.set HBR_STAT.BME 1) = 3 := if_pos ⟨flag_bme_setBme s, (flag_d3_setBme s 1).trans hd0⟩
  rw [bmeSet, settleBridge_up (by rwa [get_state_setBme]), hcode]

theorem d0Return_up {s : State} (h : s.get HBR_STAT.STATE = 2 ∨ s.get HBR_STAT.STATE = 3) :
    d0Return s = (s.set HBR_STAT.D3 0).set HBR_STAT.STATE (if s.flag HBR_STAT.BME = true then 3 else 2) := by
  have hcode : settledCode (s.set HBR_STAT.D3 0) = if s.flag HBR_STAT.BME = true then 3 else 2 := by
    rw [settledCode, flag_bme_setD3]
    simp [flag_d3_setD3]
  rw [d0Return, settleBridge_up (by rwa [get_state_setD3]), hcode]

theorem bmeClear_clear {s : State} (h : s.flag HBR_STAT.BME = false) : bmeClear s = s := by simp [bmeClear, h]

theorem bmeClear_set {s : State} (h : s.flag HBR_STAT.BME = true) : bmeClear s = busHalt (s.set HBR_STAT.BME 0) := by
  simp [bmeClear, h]

theorem d3Enter_again {s : State} (h : s.flag HBR_STAT.D3 = true) : d3Enter s = s := by simp [d3Enter, h]

theorem d3Enter_halts {s : State} (h : s.flag HBR_STAT.D3 = false) (hbme : s.flag HBR_STAT.BME = true) :
    d3Enter s = busHalt (s.set HBR_STAT.D3 1) := by
  simp [d3Enter, h, hbme]

/-! ### Function Level Reset (R537-R542) -/

theorem flrStart_other {s : State} (h2 : s.get HBR_STAT.STATE ≠ 2) (h3 : s.get HBR_STAT.STATE ≠ 3) :
    flrStart s = s := by
  simp [flrStart, h2, h3]

theorem flrStart_up {s : State} (h : s.get HBR_STAT.STATE = 2 ∨ s.get HBR_STAT.STATE = 3) :
    flrStart s = (flrScope (s.get HBR_FLRSCOPE.SCOPE) (flrNotify (flrQueues (flrBridge s)))).log 0x0E04
      [s.get HBR_FLRSCOPE.SCOPE] := by
  obtain h | h := h <;> simp [flrStart, h]

theorem flrDone_other {s : State} (h : s.get HBR_STAT.STATE ≠ 4) : flrDone s = s := by simp [flrDone, h]

/-- The end of FLR takes the bridge through SLAVE to the state that R529 gives it. -/
theorem flrDone_settles {s : State} (h : s.get HBR_STAT.STATE = 4) :
    ∃ u : State, flrDone s = settleBridge (u.set HBR_STAT.STATE 2) :=
  ⟨_, if_neg (by simp [h])⟩

/-! ### Configuration requests (R519, R529, R540) -/

theorem configRequest_retry {s : State} (a : Nat) (wr : Option Nat)
    (h : s.get HBR_STAT.STATE = 1 ∨ s.get HBR_STAT.STATE = 4) : configRequest a wr s = s.emit (.cfgReply none) := by
  obtain h | h := h <;> simp [configRequest, h]

theorem configRequest_down {s : State} (a : Nat) (wr : Option Nat) (h : s.get HBR_STAT.STATE = 0) :
    configRequest a wr s = s := by
  simp [configRequest, h]

/-- A configuration write that cannot start FLR. -/
theorem configRequest_write {s : State} {a : Nat} (v : Nat)
    (h : s.get HBR_STAT.STATE = 2 ∨ s.get HBR_STAT.STATE = 3) (hctl : a / 4 * 4 ≠ 0x78) :
    configRequest a (some v) s = (spaceWrite (a / 4 * 4) v s).emit (.cfgReply (some 0)) := by
  obtain h | h := h <;> simp [configRequest, h, hctl]

/-- Settles O38: one lemma for each event and the state it finds; the state after a retry period or FLR is that of
`settleBridge`, and after Hot Reset or `PERST_N` that of `bridgeReset`. -/
theorem bridgeStates : Obligations.BridgeStates := by
  refine ⟨?linkBlocked, ?linkTrains, ?retryOther, ?retryEnds, ?linkLost, ?linkGone, ?hotReset, ?perst, ?bmeCleared,
    ?bmeHalts, ?bmeResumes, ?d3Again, ?d3Halts, ?d0, ?flrOther, ?flr, ?doneOther, ?done, ?cfgRetry, ?cfgDown, ?cfgRead,
    ?cfgWrite⟩
  case linkBlocked =>
    intro s g w pg pw h
    exact congrArg Host.Outcome.next (linkUp_blocked _ _ _ _ h)
  case linkTrains =>
    intro s g w pg pw hdown hhost htest
    exact congrArg Host.Outcome.next (linkUp_trains _ _ _ _ hdown hhost htest)
  case retryOther =>
    intro s h
    exact congrArg Host.Outcome.next (retryEnd_other h)
  case retryEnds =>
    intro s h
    exact ⟨_, congrArg Host.Outcome.next (retryEnd_retry h), get_settleBridge_slave s⟩
  case linkLost =>
    intro s h
    exact ⟨_, rfl, bridgeDown_leaves h⟩
  case linkGone =>
    intro s hdown hlink
    have hidle := bridgeDown_idle hdown hlink
    exact ⟨congrArg Host.Outcome.next hidle, congrArg (fun t => Host.Outcome.next (bridgeReset t)) hidle⟩
  case hotReset =>
    intro s
    refine ⟨_, rfl, get_bridgeReset_state _, flag_bridgeReset_bme _, ?_, ?_, ?_⟩ <;> rw [bridgeReset_hbr]
  case perst =>
    intro s
    have hclk := bridgeDown_clk { s with clk := { s.clk with perstLow := true, hostUp := false } }
    refine ⟨_, rfl, ?_, ?_, ?_, ?_⟩
    · rw [setLock_clk, bridgeReset_clk, hclk]
    · rw [setLock_clk, bridgeReset_clk, hclk]
    · rw [get_state_setLock, get_bridgeReset_state]
    · rw [setLock, set_hbr, bridgeReset_hbr]
  case bmeCleared =>
    intro s h
    exact congrArg Host.Outcome.next (bmeClear_clear h)
  case bmeHalts =>
    intro s h
    exact congrArg Host.Outcome.next (bmeClear_set h)
  case bmeResumes =>
    intro s h hd0
    exact congrArg Host.Outcome.next (bmeSet_up h hd0)
  case d3Again =>
    intro s h
    exact congrArg Host.Outcome.next (d3Enter_again h)
  case d3Halts =>
    intro s h hbme
    exact congrArg Host.Outcome.next (d3Enter_halts h hbme)
  case d0 =>
    intro s h
    exact congrArg Host.Outcome.next (d0Return_up h)
  case flrOther =>
    intro s h2 h3
    exact congrArg (fun t => Host.Outcome.next (enterReached t)) (flrStart_other h2 h3)
  case flr =>
    intro s h
    exact congrArg (fun t => Host.Outcome.next (enterReached t)) (flrStart_up h)
  case doneOther =>
    intro s h
    exact congrArg Host.Outcome.next (flrDone_other h)
  case done =>
    intro s h
    obtain ⟨u, hu⟩ := flrDone_settles h
    exact ⟨_, congrArg Host.Outcome.next hu, (get_settleBridge_slave u).trans (settledCode_settleBridge_slave u).symm⟩
  case cfgRetry =>
    intro s a wr h
    exact congrArg Host.Outcome.next (configRequest_retry _ _ h)
  case cfgDown =>
    intro s a wr h
    exact congrArg Host.Outcome.next (configRequest_down _ _ h)
  case cfgRead =>
    intro s a h
    exact execConfigRequest_read a h
  case cfgWrite =>
    intro s a v h hctl
    exact congrArg Host.Outcome.next (configRequest_write _ h hctl)

end Sys2Proof.Machine
end

section
/-! Mode requests, the drain and the end of ENTER (R116-R121, R126, R132). -/

namespace Sys2Proof.Machine

/-- The mode controller goes to ENTER for mode `m` (R117). -/
def startEnter (m : Nat) (s : State) : State :=
  { s.set GLB_MODESTAT.PHASE 3 with glb := { s.glb with enterMode := m } }

/-! ### Requests (R116, R117, R126) -/

theorem requestMode_refused {s : State} {m r : Nat} (source : Nat) (h : modeRefusal s m = some r) :
    requestMode m source s =
      (((s.set GLB_MODESTAT.REASON r).count GLB_MODESTAT.REFUSALS).fire 0x003).log 0x0120 [m, r, source] := by
  simp only [requestMode, h]

/-- A request that is not refused while a change is in progress, or that names the mode in effect, has no effect. -/
theorem requestMode_noEffect {s : State} {m : Nat} (source : Nat) (h : modeRefusal s m = none)
    (hsame : s.flag GLB_MODE.BUSY = true ∨ m = modeNow s) : requestMode m source s = s := by
  have hstay : (s.flag GLB_MODE.BUSY || m == modeNow s) = true := by simpa using hsame
  simp only [requestMode, h, hstay, if_true]

theorem requestMode_accepted {s : State} {m : Nat} (source : Nat) (h : modeRefusal s m = none)
    (hidle : s.flag GLB_MODE.BUSY = false) (hother : m ≠ modeNow s) : requestMode m source s = acceptMode m s := by
  have hgo : ¬ (s.flag GLB_MODE.BUSY || m == modeNow s) = true := by simp [hidle, hother]
  simp only [requestMode, h, if_neg hgo]

/-- From STANDBY and SERVICE there is nothing to drain: the change goes straight to ENTER. -/
theorem acceptMode_untimed {s : State} (m : Nat) (h : timedMode (modeNow s) = false) :
    acceptMode m s = startEnter m ((s.set GLB_MODE.BUSY 1).set GLB_MODE.MODE m) := by
  simp [acceptMode, startEnter, h]

/-- A served write of `GLB_MODE` is a request of the host for the mode in its low three bits. -/
theorem execModeRequestWrite_requests {s : State} (v : Word) (h : Served s 0x40) :
    exec (.modeRequestWrite v) s = .next (requestMode (v.toNat % 8) 0 s) :=
  execModeRequestWrite_served s v h

/-- Settles O11: a served write is a request, and each part is one outcome of `requestMode`. -/
theorem modeRequests : Obligations.ModeRequests := by
  refine ⟨?_, ?_, ?_⟩
  · intro s v r hserved hrefused
    rw [execModeRequestWrite_requests v hserved, requestMode_refused 0 hrefused]
  · intro s v hserved hnone hsame
    rw [execModeRequestWrite_requests v hserved, requestMode_noEffect 0 hnone hsame]
  · intro s v hserved hnone hidle hother huntimed
    rw [execModeRequestWrite_requests v hserved, requestMode_accepted 0 hnone hidle hother,
      acceptMode_untimed _ huntimed]
    simp only [startEnter, set_glb]

/-! ### The drain (R119, R121, R132) -/

theorem drainComplete_noneLate {s : State} (hdrain : s.get GLB_MODESTAT.PHASE = 2) (hnone : lateStreams s = []) :
    drainComplete s = startEnter 0 s := by
  simp [drainComplete, startEnter, hdrain, hnone]

/-- With every stream at its boundary the timer truncates nothing. -/
theorem drainExpire_noneLate {s : State} (hdrain : s.get GLB_MODESTAT.PHASE = 2) (hnone : lateStreams s = []) :
    drainExpire s = startEnter 0 s := by
  simp [drainExpire, startEnter, hdrain, hnone]

/-- The late streams are truncated, and the error gives the number of items that this added to TRUNCATED. -/
theorem drainExpire_late {s : State} (hdrain : s.get GLB_MODESTAT.PHASE = 2) (hlate : lateStreams s ≠ []) :
    drainExpire s =
      let t := (lateStreams s).foldl (fun t st => truncateStream st t) s
      startEnter 0 ((t.fire 0x002).log 0x0121 [t.get GLB_TRUNCCNT.TRUNCATED - s.get GLB_TRUNCCNT.TRUNCATED]) := by
  simp [drainExpire, startEnter, hdrain, hlate]

theorem bitAt_or_two_pow (w k : Nat) : bitAt (w ||| 2 ^ k) k = true := by
  have hset : (w ||| 2 ^ k).testBit k = true := by simp [Nat.testBit_or, Nat.testBit_two_pow_self]
  simpa [bitAt, Nat.testBit_eq_decide_div_mod_eq] using hset

/-- A write of `GLB_DRAIN` with FORCE set expires the drain timer once the word has been taken. -/
theorem glbReg_drainForced (a w : Nat) (s : State) :
    glbReg 0x48 a (w ||| 2 ^ 31) s = drainExpire (codedWrite a (w ||| 2 ^ 31) s) :=
  if_pos (bitAt_or_two_pow w 31)

/-! ### The end of ENTER (R110, R117) -/

/-- The end of ENTER in its order: outputs, what SERVICE ends, the end of the change, streams, machinery, the beat. -/
theorem modeEnterDone_entering {s : State} (henter : s.get GLB_MODESTAT.PHASE = 3) :
    modeEnterDone s =
      let m := s.glb.enterMode
      let a := if modeNow s = 7 ∧ m ≠ 7 then serviceExit (changeOutputs m s) else changeOutputs m s
      let b := if a.get GLB_MODE.MODE = m then (a.set GLB_MODESTAT.PHASE 0).set GLB_MODE.BUSY 0 else a
      let c := armMode m (enterStreams m b)
      { c.fire 0x001 with glb := { c.glb with enterMode := a.get GLB_MODE.MODE } } := by
  simp [modeEnterDone, henter]

/-- Settles O12: one lemma for each way out of DRAIN, and `modeEnterDone_entering` for the end of ENTER. -/
theorem modeChangesRun : Obligations.ModeChangesRun := by
  refine ⟨?_, ?_, ?_, ?_⟩
  · intro s hdrain hnone
    exact ⟨congrArg Host.Outcome.next (drainComplete_noneLate hdrain hnone),
      congrArg Host.Outcome.next (drainExpire_noneLate hdrain hnone)⟩
  · intro s hdrain hlate
    exact congrArg Host.Outcome.next (drainExpire_late hdrain hlate)
  · intro s v hserved _
    exact (execDrainForce_served s v hserved).trans (congrArg Host.Outcome.next (glbReg_drainForced _ _ s))
  · intro s henter
    exact congrArg (fun t => Host.Outcome.next (enterReached t)) (modeEnterDone_entering henter)

end Sys2Proof.Machine
end

section
/-! The level of a unit: writes of `UNIT_LEVEL` and the end of a re-derivation (R148, R149, R151, R157). -/

namespace Sys2Proof.Machine

/-! ### The level register (R137) -/

theorem rowAt_level (u : Fin 18) : (rowAt (unitBase (u.val + 1) + 4)).isSome = true := by decide +revert

theorem unitAt_level (u : Fin 18) : unitAt (unitBase (u.val + 1) + 4) = some (u.val + 1) := by decide +revert

/-- Every unit has its level register 4 above its base, and a write to it is a write of the unit's level. -/
theorem regOp_level (u : Fin 18) (v : Nat) (s : State) :
    regOp (unitBase (u.val + 1) + 4) v s = levelWrite (u.val + 1) v s := by
  obtain ⟨⟨r, i, j⟩, hr⟩ := Option.isSome_iff_exists.mp (rowAt_level u)
  simp [regOp, hr, unitAt_level u]

theorem execExpertSet_served {s : State} {u : Fin 18} (h : Served s (unitBase (u.val + 1) + 4)) :
    exec (.expertSet u) s = .next (levelWrite (u.val + 1) 1 s) :=
  congrArg Host.Outcome.next ((hostGate_served s _ _ _ h).trans (regOp_level u 1 s))

theorem execExpertClear_served {s : State} {u : Fin 18} (h : Served s (unitBase (u.val + 1) + 4)) :
    exec (.expertClear u) s = .next (levelWrite (u.val + 1) 0 s) :=
  congrArg Host.Outcome.next ((hostGate_served s _ _ _ h).trans (regOp_level u 0 s))

/-! ### The level written (R148, R149) -/

@[simp] theorem running_wrA (s : State) (a v u : Nat) : running (s.wrA a v) u = running s u := by simp [running]

/-- EXPERT = 1 takes effect at once where it has no change of level to wait for (R148). -/
theorem levelWrite_set {s : State} {u : Nat}
    (h : derives u = false ∨ running s u = none ∨ unitExpert s u = true) : levelWrite u 1 s = toExpert u s := by
  have hnow : ¬ (derives u && (running s u).isSome && !unitExpert s u) = true := by
    obtain h | h | h := h <;> simp [h]
  exact if_neg hnow

/-- While a re-derivation runs at the basic level, EXPERT = 1 waits for its end (R148). -/
theorem levelWrite_set_waits {s : State} {u : Nat} (hd : derives u = true) (hr : (running s u).isSome = true)
    (hx : unitExpert s u = false) :
    levelWrite u 1 s = { s with glb := { s.glb with levelWait := s.glb.levelWait ++ [u] } } := by
  have hwait : (derives u && (running s u).isSome && !unitExpert s u) = true := by simp [hd, hr, hx]
  exact if_pos hwait

/-- EXPERT = 0 at a unit that is basic already, with nothing running, is the stored bit alone. -/
theorem levelWrite_clear_basic {s : State} {u : Nat} (hr : running s u = none) (hx : unitExpert s u = false) :
    levelWrite u 0 s = s.wrA (unitBase u + 4) 0 := by
  simp [levelWrite, bitAt, hr, hx]

/-- EXPERT = 0 at a unit that was expert derives it again (R149); `TIM` also starts its servo, which stands apart. -/
theorem levelWrite_clear_expert {s : State} {u : Nat} (hx : unitExpert s u = true) (hd : derives u = true)
    (htim : u ≠ 4) : levelWrite u 0 s = restartRederive u (s.wrA (unitBase u + 4) 0) := by
  simp [levelWrite, bitAt, hx, hd, htim]

/-! ### The end of a re-derivation (R151, R157) -/

/-- Unit `u` no longer re-derives, and the words `ws` that it derived are in effect. -/
def derivedInEffect (u : Nat) (ws : List (Nat × Nat × Nat)) (s : State) : State :=
  applyDerived u ws { s with glb := { s.glb with rederive := s.glb.rederive.filter (fun x => x.unit != u) } }

theorem rederiveEnd_last {s : State} {u : Nat} {r : Rederive} (hr : running s u = some r) (hdue : r.due = false) :
    rederiveEnd u s = (true, derivedInEffect u r.words s) := by
  simp [rederiveEnd, derivedInEffect, hr, hdue]

/-- With no later basic write, the end of a re-derivation lets a write of EXPERT = 1 that waited take effect (R148). -/
theorem rederiveDone_last {s : State} {u : Nat} {r : Rederive} (hr : running s u = some r) (hdue : r.due = false) :
    rederiveDone u s =
      let t := derivedInEffect u r.words s
      if levelWaits t u then replayHeld u (toExpert u
        { t with glb := { t.glb with levelWait := t.glb.levelWait.filter (· != u) } }) else t := by
  simp only [rederiveDone, rederiveEnd_last hr hdue, Bool.true_and]

/-- Settles O15: a served command is `levelWrite`, with one lemma for each level it finds; the end of a re-derivation is
`rederiveDone_last`. -/
theorem levelsAndDerivation : Obligations.LevelsAndDerivation := by
  refine ⟨?set, ?setWaits, ?clearBasic, ?clearExpert, ?done⟩
  case set =>
    intro s u hs h
    rw [execExpertSet_served hs, levelWrite_set h, toExpert]
  case setWaits =>
    intro s u hs hd hr hx
    rw [execExpertSet_served hs, levelWrite_set_waits hd hr hx]
  case clearBasic =>
    intro s u hs hr hx
    rw [execExpertClear_served hs, levelWrite_clear_basic hr hx]
  case clearExpert =>
    intro s u hs hx hd htim
    rw [execExpertClear_served hs, levelWrite_clear_expert hx hd (by omega)]
  case done =>
    intro s u r hr hdue _
    exact congrArg Host.Outcome.next (rederiveDone_last hr hdue)

end Sys2Proof.Machine
end

section
/-! One step: the command at the front of the queue, or a tick of `CLK_TIME` (R142, R158, R159). -/

namespace Sys2Proof.Machine

/-- With a command waiting, a step is that command on the state with the rest of the queue. -/
theorem step_front {s : State} {c : Instr} {rest : List Instr} (h : s.pending = c :: rest) :
    step s = exec c { s with pending := rest } := by
  simp only [step, h]

/-- On an idle block only elapsed time moves, and the time base where `CLK_TIME` is out of reset (R158, R159). -/
theorem idleTick_eq (s : State) :
    idleTick s = { s with
      elapsed := s.elapsed + 2
      now := if s.clk.timeUp then (s.now + tickIncrement s) % timeSpan else s.now } := by
  cases htime : s.clk.timeUp <;> simp [idleTick, timeTick, htime]

theorem step_empty {s : State} (h : s.pending = []) : step s = .next (idleTick s) := by
  simp only [step, h]

/-- No table word spells a command, so none joins the queue. -/
theorem withFetchWord_eq (s : State) (nbits w : Nat) : s.withFetchWord nbits w = s := rfl

/-- Settles O48: `step_front` for a command that waits, `idleTick_eq` for an empty queue. -/
theorem stepServesTheFront : Obligations.StepServesTheFront := by
  refine ⟨?front, ?withFront, ?empty, ?word⟩
  case front =>
    intro c rest s
    exact step_front rfl
  case withFront =>
    intro c s
    exact step_front rfl
  case empty =>
    intro s h
    rw [step_empty h, idleTick_eq]
  case word =>
    intro s nbits w
    exact ⟨rfl, withFetchWord_eq s nbits w⟩

end Sys2Proof.Machine
end

section
/-! PPS, holdover and the words of role and profile in effect (R165, R166, R175, R176, R185, R195, R197, R201). -/

namespace Sys2Proof.Machine

/-! ### `PPS_OUT` (R175) -/

theorem ppsSecond_same {s : State} (h : s.nowNs / 1000000000 = s.tim.second) : ppsSecond s = s := by
  simp [ppsSecond, h]

/-- TIM_PPS has fired for the second that has begun. -/
def secondBegun (s : State) : State :=
  ({ s with tim := { s.tim with second := s.nowNs / 1000000000 } }).fire 0x010

/-- With OUTEN clear a new second fires TIM_PPS and raises no pulse. -/
theorem ppsSecond_outputOff {s : State} (hnew : s.nowNs / 1000000000 ≠ s.tim.second)
    (hoff : s.flag TIM_PPSCFG.OUTEN = false) : ppsSecond s = secondBegun s := by
  have hout : (secondBegun s).flag TIM_PPSCFG.OUTEN = false := hoff
  rw [secondBegun] at hout
  simp [ppsSecond, secondBegun, hnew, hout]

theorem ppsOutEnd_high {s : State} (h : s.tim.ppsHigh = true) :
    ppsOutEnd s = ({ s with tim := { s.tim with ppsHigh := false } }).emit (.ppsOut false) :=
  if_pos h

/-! ### `PPS_IN` (R176, R185, R195) -/

/-- Storing raw records changes no register below `TIM_RAWCFG`. -/
theorem rdA_setRaw_below (rs : List (List Nat)) (s : State) {a : Nat} (h : a < 0x100400) :
    (setRaw rs s).rdA a = s.rdA a := by
  have hraw : a < TIM_RAW.reg.adr 0 := Nat.lt_trans h (by decide)
  have hdepth : a ≠ TIM_RAWCFG.DEPTH.adr := Nat.ne_of_lt h
  exact (rdA_wrWords_below _ _ _ _ hraw).trans (rdA_set_other _ _ _ _ _ _ hdepth)

/-- A raw record, stored, lost or with recording off, changes no register below `TIM_RAWCFG`. -/
theorem rdA_rawPush_below (ws : List Nat) (s : State) {a : Nat} (h : a < 0x100400) :
    (rawPush ws s).rdA a = s.rdA a := by
  have hlost : a ≠ TIM_RAWCFG.LOST.adr := Nat.ne_of_lt h
  unfold rawPush
  split
  · rfl
  · split
    · rw [rdA_logRun_other _ _ _ _ _ (by omega), rdA_count_other _ _ _ _ _ _ hlost]
    · rw [rdA_setRaw_below _ _ h, rdA_endRun]

/-- The state once an edge of `PPS_IN` stamped `stamp` has been counted, has fired TIM_PPSIN and made its raw record. -/
def ppsEdgeTaken (stamp : Nat) (s : State) : State :=
  rawPush (rawWords 0 3 0 0 0 stamp 0 0 [])
    (({ s with tim := { s.tim with ppsAt := some s.elapsed } }.count TIM_PPSCNT.EDGES).fire 0x011)

theorem isMaster_ppsEdgeTaken (stamp : Nat) (s : State) : isMaster (ppsEdgeTaken stamp s) = isMaster s := by
  have hcount : TIM_STAT.MASTER.adr ≠ TIM_PPSCNT.EDGES.adr := by decide
  have hword : (ppsEdgeTaken stamp s).rdA TIM_STAT.MASTER.adr = s.rdA TIM_STAT.MASTER.adr := by
    rw [ppsEdgeTaken, rdA_rawPush_below _ _ (by decide), rdA_fire, rdA_count_other _ _ _ _ _ _ hcount]
    rfl
  rw [isMaster, State.flag, get_of_rdA hword]
  rfl

theorem ppsIn_otherPolarity {s : State} {r : Bool} (stamp : Nat) (h : r = s.flag TIM_PPSCFG.INPOL) :
    ppsIn r stamp s = s := by
  simp [ppsIn, h]

/-- An edge that comes less than 500 ms after the last is noise. -/
theorem ppsIn_tooSoon {s : State} {r : Bool} {t₀ : Nat} (stamp : Nat) (hpol : r ≠ s.flag TIM_PPSCFG.INPOL)
    (hlast : s.tim.ppsAt = some t₀) (hsoon : s.elapsed < t₀ + 500000000) :
    ppsIn r stamp s = s.count TIM_PPSCNT.NOISE := by
  simp [ppsIn, hpol, hlast, hsoon]

/-- The first edge at a node that is no master is taken, and makes no sample for the servo. -/
theorem ppsIn_notMaster {s : State} {r : Bool} (stamp : Nat) (hpol : r ≠ s.flag TIM_PPSCFG.INPOL)
    (hfirst : s.tim.ppsAt = none) (hm : isMaster s = false) : ppsIn r stamp s = ppsEdgeTaken stamp s := by
  have hslave : isMaster (ppsEdgeTaken stamp s) = false := (isMaster_ppsEdgeTaken stamp s).trans hm
  rw [ppsEdgeTaken] at hslave
  simp [ppsIn, ppsEdgeTaken, hpol, hfirst, hslave]

/-! ### HOLDOVER and its trust (R165, R166, R201) -/

/-- A PPS master that sees no edge goes from STEPPED, TRACKING or LOCKED to HOLDOVER, with a record. -/
theorem ppsTimeout_ppsMaster {s : State} (hm : isMaster s = true) (hpps : srcPps s = true)
    (hst : timState s = 1 ∨ timState s = 2 ∨ timState s = 3) : ppsTimeout s = (enterTim 4 s).log 0x040C := by
  have hruns : (timState s == 1 || timState s == 2 || timState s == 3) = true := by simpa [or_assoc] using hst
  simp [ppsTimeout, hm, hpps, hruns]

/-- A slave that has the time and gets no sample forgets the last one and goes to HOLDOVER. -/
theorem syncTimeout_slave {s : State} (hm : isMaster s = false) (hset : timState s ≠ 0) (hhold : timState s ≠ 4) :
    syncTimeout s = enterTim 4 { s with tim := { s.tim with prev := none, waitSync := none } } := by
  simp [syncTimeout, hm, hset, hhold]

theorem trustExpiry_holdover {s : State} (h : timState s = 4) :
    trustExpiry s = setUnsync { s with tim := { s.tim with trustOver := true } } := by
  simp [trustExpiry, h]

/-! ### The words in effect (R197) -/

/-- The stored words of `TIM_ROLE` and `TIM_PTPCFG` are in effect. -/
def wordsInEffect (s : State) : State :=
  { s with tim := { s.tim with
    role := s.rdA (TIM_ROLE.reg.adr 0)
    ptp := s.rdA (TIM_PTPCFG.reg.adr 0) } }

/-- At the expert level no gain is derived, and with the same role no master is selected again. -/
theorem timConfigApply_expert_sameRole {s : State} (hx : s.flag TIM_LEVEL.EXPERT = true)
    (hrole : s.rdA (TIM_ROLE.reg.adr 0) = s.tim.role) : timConfigApply s = wordsInEffect s := by
  have hlevel : (wordsInEffect s).flag TIM_LEVEL.EXPERT = true := hx
  exact (if_pos (beq_iff_eq.mpr hrole)).trans (if_pos hlevel)

/-- Settles O18: each command is its function of the time base, with one lemma for the case that its clause names. -/
theorem pulsesPerSecond : Obligations.PulsesPerSecond := by
  refine ⟨?newSecond, ?sameSecond, ?pulseEnd, ?edge, ?noise, ?polarity, ?ppsMaster, ?slave, ?trust, ?config⟩
  case newSecond =>
    intro s hnew hoff
    exact congrArg Host.Outcome.next (ppsSecond_outputOff hnew hoff)
  case sameSecond =>
    intro s h
    exact congrArg Host.Outcome.next (ppsSecond_same h)
  case pulseEnd =>
    intro s h
    exact congrArg Host.Outcome.next (ppsOutEnd_high h)
  case edge =>
    intro s r stamp hpol hfirst hm
    exact ⟨_, congrArg Host.Outcome.next (ppsIn_notMaster stamp hpol hfirst hm), rfl⟩
  case noise =>
    intro s r stamp t₀ hpol hlast hsoon
    exact congrArg Host.Outcome.next (ppsIn_tooSoon stamp hpol hlast hsoon)
  case polarity =>
    intro s r stamp h
    exact congrArg Host.Outcome.next (ppsIn_otherPolarity stamp h)
  case ppsMaster =>
    intro s hm hpps hst
    exact congrArg Host.Outcome.next (ppsTimeout_ppsMaster hm hpps hst)
  case slave =>
    intro s hm hset hhold
    exact congrArg Host.Outcome.next (syncTimeout_slave hm hset hhold)
  case trust =>
    intro s h
    exact congrArg Host.Outcome.next (trustExpiry_holdover h)
  case config =>
    intro s hx hrole
    exact congrArg Host.Outcome.next (timConfigApply_expert_sameRole hx hrole)

end Sys2Proof.Machine
end

section
/-! Samples of the position inputs, disagreeing wires, speed slots and probes (R356-R367, R377, R378, R383, R384). -/

namespace Sys2Proof.Machine

/-! ### The levels in one code -/

@[simp] theorem bitAt_levelCode_a (a b z : Bool) : bitAt (levelCode a b z) 0 = a := by decide +revert

@[simp] theorem bitAt_levelCode_b (a b z : Bool) : bitAt (levelCode a b z) 1 = b := by decide +revert

@[simp] theorem bitAt_levelCode_z (a b z : Bool) : bitAt (levelCode a b z) 2 = z := by decide +revert

@[simp] theorem levelCode_mod_two (a b z : Bool) : levelCode a b z % 2 = b2n a := by decide +revert

/-- Bits 1:0 hold the inputs that count in quadrature. -/
@[simp] theorem levelCode_mod_four (a b z : Bool) : levelCode a b z % 4 = b2n a + 2 * b2n b := by decide +revert

theorem levelCode_changeB_ne (a b z : Bool) : levelCode a (!b) z ≠ levelCode a b z := by decide +revert

theorem levelCode_riseZ_ne (a b : Bool) : levelCode a b false ≠ levelCode a b true := by decide +revert

/-! ### A change of B alone, and a rise of Z alone, on a quadrature channel -/

theorem filterNs_changeB (s : State) (n : Nat) (a b z : Bool) :
    filterNs s n (levelCode a (!b) z) (levelCode a b z) = 4 * s.get POS_FILT.FILTB n := by
  simp [filterNs]

theorem filterNs_riseZ (s : State) (n : Nat) (a b : Bool) :
    filterNs s n (levelCode a b false) (levelCode a b true) = 4 * s.get POS_FILT.FILTZ n := by
  simp [filterNs]

/-- B is a count input in quadrature (R365). -/
theorem countInput_changeB {s : State} {n : Nat} (a b z : Bool) (hkind : s.get POS_CFG.KIND n = 0) :
    countInput s n (levelCode a (!b) z) (levelCode a b z) = true := by
  cases b <;> simp [countInput, hkind, b2n]

/-- Z is no count input in quadrature (R365). -/
theorem countInput_riseZ {s : State} {n : Nat} (a b : Bool) (hkind : s.get POS_CFG.KIND n = 0) :
    countInput s n (levelCode a b false) (levelCode a b true) = false := by
  simp [countInput, hkind]

/-- With four edges counted a change of B is a step, backward where A differs from the new B (R358). -/
theorem sampleStep_changeB {s : State} {n : Nat} (a b z : Bool) (hkind : s.get POS_CFG.KIND n = 0)
    (hx : s.get POS_CFG.X n = 2) : sampleStep s n (levelCode a (!b) z) (levelCode a b z) = .step (a != b) := by
  simp [sampleStep, hkind, hx, quadStep]

theorem sampleStep_riseZ {s : State} {n : Nat} (a b : Bool) (hkind : s.get POS_CFG.KIND n = 0) :
    sampleStep s n (levelCode a b false) (levelCode a b true) = .none := by
  simp [sampleStep, hkind, quadStep]

theorem qualified_unqualified {s : State} {n : Nat} (w : Nat) (h : s.flag POS_IDXCFG.QUALEN n = false) :
    qualified s n w = bitAt w 2 := by
  simp [qualified, h]

/-- With IDXMODE 1 an index without a count on its sample is counted, fires, and sets the counter (R367). -/
theorem indexEvent_sets {s : State} {n : Nat} (t : Nat) (hmode : s.get POS_IDXCFG.IDXMODE n = 1) :
    indexEvent n t .none s = setByIndex n t [0, 2] ((s.count POS_IDXCNT.COUNT n).fire (0x130 + n)) := by
  unfold indexEvent
  rw [hmode]
  rfl

/-! ### One sample (R356) -/

/-- A channel that the variant lacks, or that the field link does not reach, takes no sample. -/
theorem posSample_unreached {s : State} {n : Nat} (a b z : Bool)
    (h : chanThere s n = false ∨ s.clk.fieldLink = false) : posSample n a b z s = s := by
  obtain h | h := h <;> simp [posSample, h]

/-- What channel `n` does with a sample that holds the levels `w` where it held `o`, once they are stored in `s`. -/
def takeLevels (n o w : Nat) (s : State) : State :=
  if !chanOn s n || o == w then s
  else
    let t := s.nowNs - filterNs s n o w
    let s2 := if o % 2 != w % 2 then toothEdge n (s.nowNs - 4 * s.get POS_FILT.FILTA n) (bitAt w 0) s else s
    let s3 := if countInput s2 n o w then checkInterval n s2 else s2
    let step := sampleStep s3 n o w
    let s4 := match step with
      | .phase => phaseError n t s3
      | .hall st => hallInvalid n t st s3
      | _ => s3
    if s4.get POS_CFG.KIND n != 1 && s4.get POS_IDXCFG.IDXMODE n != 0 && qualified s4 n w && !qualified s4 n o then
      indexEvent n t step s4
    else
      match step with
      | .step rev => countEdge n t (rev != s4.flag POS_CFG.DIRINV n) s4
      | _ => s4

/-- The levels that channel `n` stores at a sample: inverted as configured, held where an input is in disagree (R366). -/
def sampledLevels (s : State) (n : Nat) (a b z : Bool) : Nat :=
  (s.get POS_STAT.LEVELS n &&& (s.chan n).dis) |||
    (levelCode (a != s.flag POS_CFG.INVA n) (b != s.flag POS_CFG.INVB n) (z != s.flag POS_CFG.INVZ n) &&&
      (7 - (s.chan n).dis))

/-- A channel that is reached stores the levels of the sample and then acts on their change. -/
theorem posSample_reached {s : State} {n : Nat} (a b z : Bool) (hthere : chanThere s n = true)
    (hlink : s.clk.fieldLink = true) :
    posSample n a b z s = takeLevels n (s.get POS_STAT.LEVELS n) (sampledLevels s n a b z)
      (s.set POS_STAT.LEVELS (sampledLevels s n a b z) n) :=
  if_neg (by simp [hthere, hlink])

/-- With no input in disagree and none inverted the levels are stored as they are. -/
theorem sampledLevels_plain {s : State} {n : Nat} (a b z : Bool) (hdis : (s.chan n).dis = 0)
    (hinvA : s.flag POS_CFG.INVA n = false) (hinvB : s.flag POS_CFG.INVB n = false)
    (hinvZ : s.flag POS_CFG.INVZ n = false) : sampledLevels s n a b z = levelCode a b z := by
  have hthree : levelCode a b z &&& (7 - 0) = levelCode a b z := by decide +revert
  rw [sampledLevels, hdis, hinvA, hinvB, hinvZ, Bool.bne_false, Bool.bne_false, Bool.bne_false, Nat.and_zero,
    Nat.zero_or, hthree]

theorem takeLevels_same (n w : Nat) (s : State) : takeLevels n w w s = s := by
  simp [takeLevels]

/-- A change of B with four edges counted and the index off counts one edge at the delay of B's filter (R358, R364). -/
theorem takeLevels_changeB {s : State} {n : Nat} (a b z : Bool) (hon : chanOn s n = true)
    (hkind : s.get POS_CFG.KIND n = 0) (hkind' : (checkInterval n s).get POS_CFG.KIND n = 0)
    (hx : (checkInterval n s).get POS_CFG.X n = 2) (hmode : (checkInterval n s).get POS_IDXCFG.IDXMODE n = 0) :
    takeLevels n (levelCode a (!b) z) (levelCode a b z) s =
      countEdge n (s.nowNs - 4 * s.get POS_FILT.FILTB n) ((a != b) != (checkInterval n s).flag POS_CFG.DIRINV n)
        (checkInterval n s) := by
  simp [takeLevels, hon, levelCode_changeB_ne, filterNs_changeB, countInput_changeB a b z hkind,
    sampleStep_changeB a b z hkind' hx, hmode]

/-- A rise of Z with IDXMODE 1 and no qualification is an index at the delay of Z's filter (R364, R367). -/
theorem takeLevels_riseZ {s : State} {n : Nat} (a b : Bool) (hon : chanOn s n = true)
    (hkind : s.get POS_CFG.KIND n = 0) (hmode : s.get POS_IDXCFG.IDXMODE n = 1)
    (hqual : s.flag POS_IDXCFG.QUALEN n = false) :
    takeLevels n (levelCode a b false) (levelCode a b true) s =
      setByIndex n (s.nowNs - 4 * s.get POS_FILT.FILTZ n) [0, 2] ((s.count POS_IDXCNT.COUNT n).fire (0x130 + n)) := by
  simp [takeLevels, hon, levelCode_riseZ_ne, filterNs_riseZ, countInput_riseZ a b hkind, sampleStep_riseZ a b hkind,
    hkind, hmode, qualified_unqualified _ hqual, indexEvent_sets _ hmode]

/-! ### Wires in disagree (R366) -/

/-- An input that is not checked, or is marked already, is not flagged again. -/
theorem wireDisagree_ignored {s : State} {n k : Nat} (h : disChecked s n k = false ∨ bitAt (s.chan n).dis k = true) :
    wireDisagree n k s = s := by
  obtain h | h := h <;> simp [wireDisagree, h]

/-- The pair of B that comes into disagree is marked, flagged and counted, may clear the reference, and is logged. -/
theorem wireDisagree_b {s : State} {n : Nat} (hcheck : disChecked s n 1 = true)
    (hnew : bitAt (s.chan n).dis 1 = false) :
    wireDisagree n 1 s =
      let t := s.setChan n { s.chan n with dis := putBits (s.chan n).dis 1 1 1 }
      (clearRef n 4 s.nowNs ((posFault n POS_FAULT.DISB t).count POS_DISCNT.COUNT n)).log 0x0904 [n, 1] := by
  simp [wireDisagree, hcheck, hnew]

/-! ### Speed slots and stillness (R377, R378) -/

theorem speedSlot_off {s : State} {n : Nat} (h : chanOn s n = false) : speedSlot n s = s := by
  simp [speedSlot, h]

/-- A running channel stores its slot and counts it; the speed is valid with 16 slots and, by SSI, a valid frame. -/
theorem speedSlot_on {s : State} {n : Nat} (h : chanOn s n = true) :
    speedSlot n s =
      let t := storeSlot n s
      let k := min 16 ((t.chan n).stored + 1)
      let u := t.setChan n { t.chan n with stored := k }
      if k = 16 ∧ (u.get POS_CFG.KIND n ≠ 3 ∨ (t.chan n).ssiNew = true) then u.set POS_STAT.SPDVALID 1 n else u := by
  simp [speedSlot, h]

theorem execPosStillTimeout_off {s : State} {n : Fin 8} (h : chanOn s n.val = false) :
    execPosStillTimeout n s = .next s := by
  simp [execPosStillTimeout, h]

theorem execPosStillTimeout_on {s : State} {n : Fin 8} (h : chanOn s n.val = true) :
    execPosStillTimeout n s = .next (s.set POS_STAT.STILL 1 n.val) := by
  simp [execPosStillTimeout, h]

/-! ### Probes (R383, R384) -/

/-- An edge that EDGE does not select is ignored: 3 selects none, 0 the rising and 1 the falling ones. -/
theorem probeEdge_unselected {s : State} {k : Nat} {rising : Bool}
    (h : s.get POS_PRBCFG.EDGE k = 3 ∨ (s.get POS_PRBCFG.EDGE k = 0 ∧ rising = false) ∨
      (s.get POS_PRBCFG.EDGE k = 1 ∧ rising = true)) : probeEdge k rising s = s := by
  obtain hnone | ⟨hrise, rfl⟩ | ⟨hfall, rfl⟩ := h
  · simp [probeEdge, hnone]
  · simp [probeEdge, hrise]
  · simp [probeEdge, hfall]

/-- The latch of probe `k` holds the counter `c` and the short-form time `f`, and its producer fires (R383). -/
def latchProbe (k c f : Nat) (s : State) : State :=
  ((((s.set POS_PRBCLO.CNT c k).set POS_PRBCHI.CNT (c / 2 ^ 32) k).set POS_PRBTLO.T f k).set POS_PRBTHI.T
    (f / 2 ^ 32) k).fire (0x150 + k)

/-- The latch of probe `k` is VALID; one that was VALID before is overrun (R383). -/
def validateProbe (k : Nat) (s : State) : State :=
  (if s.flag POS_PRBST.VALID k then (s.set POS_PRBST.OVER 1 k).logRun 0x090A k [k] else s.endRun 0x090A k).set
    POS_PRBST.VALID 1 k

/-- A selected edge of a probe without a further action latches the channel's counter and the time, and marks them VALID. -/
theorem probeEdge_latches {s : State} {k : Nat} (rising : Bool) (hthere : chanThere s k = true)
    (hlink : s.clk.fieldLink = true) (htime : s.clk.timeUp = true) (hedge : s.get POS_PRBCFG.EDGE k = 2)
    (hact : s.get POS_PRBCFG.ACTION k = 0) :
    probeEdge k rising s = validateProbe k (latchProbe k (s.chan (s.get POS_PRBCFG.CH k)).cnt
      (shortForm (s.nowNs - 4 * s.get POS_PRBCFG.FILT k)) s) := by
  have htaken : ¬ (!chanThere s k || s.get POS_PRBCFG.EDGE k == 3 || (s.get POS_PRBCFG.EDGE k == 0 && !rising) ||
      (s.get POS_PRBCFG.EDGE k == 1 && rising) || !s.clk.fieldLink || !s.clk.timeUp) = true := by
    simp [hthere, hlink, htime, hedge]
  have hstays : (chanOn s (s.get POS_PRBCFG.CH k) && (s.get POS_PRBCFG.ACTION k == 1 ||
      (s.get POS_PRBCFG.ACTION k == 2 && s.flag POS_STAT.ARMED (s.get POS_PRBCFG.CH k)))) = false := by
    simp [hact]
  refine (if_neg htaken).trans ?_
  simp only [hstays, Bool.false_eq_true, if_false]
  rfl

theorem LogFrame.chans {s t : State} (h : LogFrame s t) : t.chans = s.chans := by
  obtain ⟨_, _, _, _, _, _, rfl⟩ := h
  rfl

theorem latchProbe_chans (k c f : Nat) (s : State) : (latchProbe k c f s).chans = s.chans := by
  simp [latchProbe]

theorem get_latchProbe_cntLo (k c f : Nat) (s : State) :
    (latchProbe k c f s).get POS_PRBCLO.CNT k = c % 2 ^ 32 := by
  have hhi : POS_PRBCLO.CNT.adr k ≠ POS_PRBCHI.CNT.adr k := by simp [Fld.adr, POS_PRBCLO.CNT, POS_PRBCHI.CNT]
  have htlo : POS_PRBCLO.CNT.adr k ≠ POS_PRBTLO.T.adr k := by simp [Fld.adr, POS_PRBCLO.CNT, POS_PRBTLO.T]
  have hthi : POS_PRBCLO.CNT.adr k ≠ POS_PRBTHI.T.adr k := by simp [Fld.adr, POS_PRBCLO.CNT, POS_PRBTHI.T]
  rw [latchProbe, get_of_rdA (rdA_fire _ _ _), get_set_other _ _ _ _ _ _ _ _ hthi,
    get_set_other _ _ _ _ _ _ _ _ htlo, get_set_other _ _ _ _ _ _ _ _ hhi,
    get_set_same _ _ _ _ _ (by decide) (by decide)]
  rfl

theorem get_latchProbe_timeLo (k c f : Nat) (s : State) :
    (latchProbe k c f s).get POS_PRBTLO.T k = f % 2 ^ 32 := by
  have hthi : POS_PRBTLO.T.adr k ≠ POS_PRBTHI.T.adr k := by simp [Fld.adr, POS_PRBTLO.T, POS_PRBTHI.T]
  rw [latchProbe, get_of_rdA (rdA_fire _ _ _), get_set_other _ _ _ _ _ _ _ _ hthi,
    get_set_same _ _ _ _ _ (by decide) (by decide)]
  rfl

theorem validateProbe_logFrame (k : Nat) (s : State) : LogFrame s (validateProbe k s) := by
  refine logFrame_trans ?_ (set_logFrame _ _ _ _ _)
  split
  · exact logFrame_trans (set_logFrame _ _ _ _ _) (logRun_logFrame _ _ _ _)
  · exact endRun_logFrame _ _ _

theorem flag_validateProbe_valid (k : Nat) (s : State) : (validateProbe k s).flag POS_PRBST.VALID k = true := by
  rw [State.flag, validateProbe, get_set_same _ _ _ _ _ (by decide) (by decide)]
  rfl

/-- A register below the window of `ERR` other than the probe's status reads what it read before. -/
theorem rdA_validateProbe_other {k a : Nat} (s : State) (hstat : a ≠ POS_PRBST.VALID.adr k) (hlog : a < 0xF00000) :
    (validateProbe k s).rdA a = s.rdA a := by
  have hover : a ≠ POS_PRBST.OVER.adr k := hstat
  rw [validateProbe, rdA_set_other _ _ _ _ _ _ hstat]
  split
  · rw [rdA_logRun_other _ _ _ _ _ hlog, rdA_set_other _ _ _ _ _ _ hover]
  · rw [rdA_endRun]

theorem get_validateProbe_cntLo (k : Fin 8) (s : State) :
    (validateProbe k.val s).get POS_PRBCLO.CNT k.val = s.get POS_PRBCLO.CNT k.val :=
  get_of_rdA (rdA_validateProbe_other s (by decide +revert) (by decide +revert))

theorem get_validateProbe_timeLo (k : Fin 8) (s : State) :
    (validateProbe k.val s).get POS_PRBTLO.T k.val = s.get POS_PRBTLO.T k.val :=
  get_of_rdA (rdA_validateProbe_other s (by decide +revert) (by decide +revert))

/-- Settles O29: each command is its function of the position unit, with one lemma for the case that its clause names. -/
theorem positionSamples : Obligations.PositionSamples := by
  refine ⟨?unreached, fun _ _ _ _ _ => rfl, ?sameLevels, ?changeB, ?riseZ, ?disagree, ?ignored, fun _ _ _ => rfl,
    ?off, ?on, ?unselected, ?probe⟩
  case unreached =>
    intro s n a b z h
    exact congrArg Host.Outcome.next (posSample_unreached a b z h)
  case sameLevels =>
    intro s n a b z hthere hlink hdis hinvA hinvB hinvZ hsame
    have h := posSample_reached a b z hthere hlink
    rw [sampledLevels_plain a b z hdis hinvA hinvB hinvZ, hsame, takeLevels_same] at h
    exact congrArg Host.Outcome.next h
  case changeB =>
    intro s n a b z t hthere hlink hon hdis hinvA hinvB hinvZ hwas hkind _ hmode hkind' _ hx
    have h := posSample_reached a b z hthere hlink
    rw [sampledLevels_plain a b z hdis hinvA hinvB hinvZ, hwas, takeLevels_changeB a b z hon hkind hkind' hx hmode] at h
    exact congrArg Host.Outcome.next h
  case riseZ =>
    intro s n a b t hthere hlink hon hdis hinvA hinvB hinvZ hwas hkind hmode hqual
    have h := posSample_reached a b true hthere hlink
    rw [sampledLevels_plain a b true hdis hinvA hinvB hinvZ, hwas, takeLevels_riseZ a b hon hkind hmode hqual] at h
    exact congrArg Host.Outcome.next h
  case disagree =>
    intro s n hcheck hnew
    exact congrArg Host.Outcome.next (wireDisagree_b hcheck hnew)
  case ignored =>
    intro s n k h
    exact congrArg Host.Outcome.next (wireDisagree_ignored h)
  case off =>
    intro s n h
    exact ⟨congrArg Host.Outcome.next (speedSlot_off h), execPosStillTimeout_off h⟩
  case on =>
    intro s n h
    exact ⟨execPosStillTimeout_on h, congrArg Host.Outcome.next (speedSlot_on h)⟩
  case unselected =>
    intro s k rising h
    exact congrArg Host.Outcome.next (probeEdge_unselected h)
  case probe =>
    intro s k rising hthere hlink htime hedge hact
    exact ⟨_, congrArg Host.Outcome.next (probeEdge_latches rising hthere hlink htime hedge hact),
      flag_validateProbe_valid _ _,
      (get_validateProbe_cntLo k _).trans (get_latchProbe_cntLo _ _ _ _),
      (get_validateProbe_timeLo k _).trans (get_latchProbe_timeLo _ _ _ _),
      (validateProbe_logFrame _ _).chans.trans (latchProbe_chans _ _ _ _)⟩

end Sys2Proof.Machine
end

section
/-! Tooth wheels: their teeth, misses and losses, their configuration, and angles in tags (R393-R402, R422, R423). -/

namespace Sys2Proof.Machine

/-! ### The hidden state of wheels and entries -/

@[simp] theorem wheel_setWheel_same (s : State) (w : Nat) (u : WheelSt) : (s.setWheel w u).wheel w = u :=
  tget_tput_same _ _ _ _

@[simp] theorem wheel_set (s : State) (f : Fld) (v i j w : Nat) : (s.set f v i j).wheel w = s.wheel w := rfl

@[simp] theorem wheel_setEntry (s : State) (e w : Nat) (u : EntrySt) : (s.setEntry e u).wheel w = s.wheel w := rfl

@[simp] theorem wheelState_setWheel (s : State) (w k : Nat) (u : WheelSt) :
    wheelState (s.setWheel w u) k = wheelState s k := rfl

@[simp] theorem entry_setEntry_same (s : State) (e : Nat) (u : EntrySt) : (s.setEntry e u).entry e = u :=
  tget_tput_same _ _ _ _

/-- The state of a wheel is the code last written to it. -/
theorem wheelState_set_state (s : State) (v w : Nat) : wheelState (s.set TWS_WSTAT.STATE v w) w = v % 8 :=
  get_set_same s TWS_WSTAT.STATE v w 0 (by decide) (by decide)

/-! ### Teeth and missing teeth (R393, R396, R398) -/

theorem wheelTooth_noEdge {s : State} {w : Nat} (h : (s.wheel w).edges = []) : wheelTooth w s = s := by
  simp only [wheelTooth, h]

theorem wheelTooth_edge {s : State} {w t : Nat} {rest : List Nat} (h : (s.wheel w).edges = t :: rest) :
    let u := s.setWheel w { s.wheel w with edges := rest }
    wheelTooth w s = if wheelState s w = 0 then u else if wheelState s w = 3 then syncedEdge w t u
      else seekEdge w t u := by
  simp only [wheelTooth, h, beq_iff_eq]

theorem syntheticTooth_none {s : State} {w : Nat}
    (h : wheelState s w ≠ 3 ∨ wheelTeeth s w ≤ s.get TWS_WSTAT.TOOTH w + wheelGap s w + 1) :
    syntheticTooth w s = s := by
  simp [syntheticTooth, h]

theorem syntheticTooth_synced {s : State} {w : Nat} (hsync : wheelState s w = 3)
    (hgap : s.get TWS_WSTAT.TOOTH w + wheelGap s w + 1 < wheelTeeth s w) :
    let k := s.get TWS_WSTAT.TOOTH w + 1
    syntheticTooth w s = if s.get TWS_WTH2.MISSMAX w ≤ (s.wheel w).misses then
        syncError w 2 ((s.wheel w).prev.getD (s.wheel w).tk) s
      else newTooth w k ((s.wheel w).tk + (s.wheel w).per) true
        (((s.count TWS_WCNT.MISS w).fire (0x1B0 + w)).log 0x0A01 [w, k]) := by
  simp [syntheticTooth, hsync, Nat.not_le.2 hgap]

theorem gapTimeout_eq (s : State) (w : Nat) :
    gapTimeout w s = if wheelState s w = 3 ∧ s.get TWS_WSTAT.TOOTH w + wheelGap s w + 1 = wheelTeeth s w then
      syncError w 3 ((s.wheel w).prev.getD (s.wheel w).tk) s else s := by
  simp [gapTimeout]

/-! ### Sync errors (R399) -/

/-- Cancelling the pending angle fires of a wheel touches entries only. -/
theorem wheel_cancelAngles (s : State) (w k : Nat) : (cancelAngles w s).wheel k = s.wheel k := by
  unfold cancelAngles
  refine List.foldlRecOn (motive := fun t : State => t.wheel k = s.wheel k) _ _ rfl fun t ht e _ => ?_
  dsimp only
  split
  · rw [wheel_setEntry, ht]
  · exact ht

theorem since_leaveSync (s : State) (w : Nat) : ((leaveSync w s).wheel w).since = none := by
  unfold leaveSync
  dsimp only
  split
  next h => exact h
  next => rw [wheel_cancelAngles, wheel_setWheel_same]

/-- A sync error leaves the wheel in NOSYNC, out of its span in SYNCED, with the last accepted tooth as its previous. -/
theorem syncError_leaves (s : State) (w c t : Nat) :
    wheelState (syncError w c t s) w = 1 ∧ ((syncError w c t s).wheel w).prev = some t ∧
      ((syncError w c t s).wheel w).since = none := by
  unfold syncError
  dsimp only
  rw [wheelState_setWheel, wheel_setWheel_same, wheelState_set_state]
  exact ⟨rfl, rfl, since_leaveSync _ w⟩

/-! ### A stall (R400) -/

/-- A wheel forgets its last tooth and its intervals. -/
def forgetTeeth (w : Nat) (s : State) : State :=
  s.setWheel w { s.wheel w with prev := none, ivs := [], normal := none }

/-- A wheel leaves its span in SYNCED with `TWS_LOST`, and its loss is logged from GAPSEEN on. -/
def noteWheelLoss (w cause : Nat) (s : State) : State :=
  let t := if wheelState s w = 3 then (leaveSync w s).fire (0x1A8 + w) else s
  if 2 ≤ wheelState s w then t.log 0x0A05 [w, cause] else t

theorem loseWheel_off {s : State} {w : Nat} (st cause : Nat) (h : wheelState s w = 0) : loseWheel w st cause s = s := by
  simp [loseWheel, h]

/-- A stall is the loss of cause 2, which discards P. -/
theorem loseWheel_stall {s : State} {w : Nat} (h : wheelState s w ≠ 0) :
    loseWheel w 1 2 s = setPer w 0 (forgetTeeth w ((noteWheelLoss w 2 s).set TWS_WSTAT.STATE 1 w)) := by
  simp [loseWheel, h, forgetTeeth, noteWheelLoss]

theorem wheel_setPer (s : State) (w p : Nat) : (setPer w p s).wheel w = { s.wheel w with per := p } :=
  wheel_setWheel_same _ _ _

theorem get_setPer (s : State) (w p : Nat) : (setPer w p s).get TWS_WPER.P w = min p (2 ^ 32 - 1) % 2 ^ 32 :=
  get_set_same _ TWS_WPER.P _ w 0 (by decide) (by decide)

theorem wheelState_setPer (s : State) (w p : Nat) : wheelState (setPer w p s) w = wheelState s w := by
  refine get_set_other _ _ _ _ _ _ _ _ ?_
  simp only [Fld.adr, TWS_WSTAT.STATE, TWS_WPER.P]
  omega

theorem loseWheel_stall_leaves {s : State} {w : Nat} (h : wheelState s w ≠ 0) :
    wheelState (loseWheel w 1 2 s) w = 1 ∧ ((loseWheel w 1 2 s).wheel w).per = 0 ∧
      ((loseWheel w 1 2 s).wheel w).ivs = [] ∧ (loseWheel w 1 2 s).get TWS_WPER.P w = 0 := by
  rw [loseWheel_stall h, wheelState_setPer, wheel_setPer, get_setPer, forgetTeeth, wheelState_setWheel,
    wheelState_set_state, wheel_setWheel_same]
  exact ⟨rfl, rfl, rfl, rfl⟩

/-! ### Configuration (R396, R422) -/

theorem wcfgWrite_badTeeth {w v : Nat} (s : State) (hon : bitAt v 31 = true) (h : v % 8192 < 8 ∨ 4096 < v % 8192) :
    wcfgWrite w v s = refuseTws (TWS_WCFG.reg.adr w) s := by
  have hteeth : ¬(8 ≤ v % 2 ^ 13 ∧ v % 2 ^ 13 ≤ 4096) := by omega
  simp only [wcfgWrite, hon, decide_eq_false hteeth, ← Bool.decide_and, Bool.not_false, Bool.and_self, Bool.or_true,
    if_true]

theorem wcfgWrite_enables {w v : Nat} {s : State} (hon : bitAt v 31 = true)
    (hoff : bitAt (s.rdA (TWS_WCFG.reg.adr w)) 31 = false) (hlo : 8 ≤ v % 8192) (hhi : v % 8192 ≤ 4096) :
    let t := codedWrite (TWS_WCFG.reg.adr w) v s
    wcfgWrite w v s = (t.set TWS_WSTAT.STATE 1 w).setWheel w { t.wheel w with
      edges := []
      prev := none
      ivs := []
      normal := none } := by
  simp [wcfgWrite, hon, hoff, hlo, hhi]

/-! ### Angle in tags (R402) -/

/-- An item whose angle is not yet known keeps waiting. -/
theorem angleTagEval_waits {s : State} {st : Nat} {it : Item} (due : Bool) (hitem : evalItems s st 1 = [it])
    (hen : s.flag TWS_ANGSEL.EN st = true)
    (hans : angleAt s (s.get TWS_ANGSEL.WHEEL st) (midTwiceOf s it.body) due = none) : angleTagEval st due s = s := by
  simp only [angleTagEval, hitem, List.foldl_cons, List.foldl_nil, hen, if_true, hans]

/-- A known angle joins the tag with PREDICTED, and the item no longer waits for it. -/
theorem angleTagEval_known {s : State} {st v : Nat} {it : Item} {p : Bool} (due : Bool)
    (hitem : evalItems s st 1 = [it]) (hen : s.flag TWS_ANGSEL.EN st = true)
    (hans : angleAt s (s.get TWS_ANGSEL.WHEEL st) (midTwiceOf s it.body) due = some (v, p)) :
    angleTagEval st due s = mapItem it.id (fun x => { x with
      body := putBody 32 v x.body
      flags := x.flags ||| 8 * b2n p
      wait := x.wait - 2 }) s := by
  simp only [angleTagEval, hitem, List.foldl_cons, List.foldl_nil, hen, if_true, hans]

/-- Settles O31: each command is its function of the wheel, with one lemma for the case that its clause names. -/
theorem toothWheels : Obligations.ToothWheels := by
  refine ⟨?noEdge, ?edge, ?noMiss, ?miss, ?gap, ?syncError, ?offStall, ?stall, ?badTeeth, ?enables, ?noItem, ?item⟩
  case noEdge =>
    intro s w h
    exact congrArg Host.Outcome.next (wheelTooth_noEdge h)
  case edge =>
    intro s w t rest h
    exact congrArg Host.Outcome.next (wheelTooth_edge h)
  case noMiss =>
    intro s w h
    exact congrArg Host.Outcome.next (syntheticTooth_none h)
  case miss =>
    intro s w hsync hgap
    exact congrArg Host.Outcome.next (syntheticTooth_synced hsync hgap)
  case gap =>
    intro s w
    exact congrArg Host.Outcome.next (gapTimeout_eq s w.val)
  case syncError =>
    intro s w c t
    exact syncError_leaves s w.val c t
  case offStall =>
    intro s w h
    exact congrArg Host.Outcome.next (loseWheel_off 1 2 h)
  case stall =>
    intro s w h
    exact ⟨_, rfl, loseWheel_stall_leaves h⟩
  case badTeeth =>
    intro s w v a hs hon hteeth
    rw [execTwsWcfgWrite_served s w v hs, twsReg, wcfgWrite_badTeeth s hon hteeth, refuseTws]
  case enables =>
    intro s w v a hs hon hoff hlo hhi
    rw [execTwsWcfgWrite_served s w v hs, twsReg, wcfgWrite_enables hon hoff hlo hhi]
  case noItem =>
    intro s st due h
    refine congrArg Host.Outcome.next ?_
    rw [angleTagEval, h, List.foldl_nil]
  case item =>
    intro s st it due hitem hen
    cases hans : angleAt s (s.get TWS_ANGSEL.WHEEL st.val) (midTwiceOf s it.body) due with
    | none => exact congrArg Host.Outcome.next (angleTagEval_waits due hitem hen hans)
    | some a => exact congrArg Host.Outcome.next (angleTagEval_known due hitem hen hans)

end Sys2Proof.Machine
end

section
/-! Scheduler entries and the lines of the divider (R404-R406, R411-R414, R417, R418). -/

namespace Sys2Proof.Machine

/-! ### Instants come due (R406) -/

theorem timeEntryDue_none {s : State} {e : Nat} (h : (s.entry e).next = none) : timeEntryDue e s = s := by
  simp only [timeEntryDue, h]

theorem timeEntryDue_early {s : State} {e t : Nat} (h : (s.entry e).next = some t) (hearly : s.now8 + 16 ≤ t) :
    timeEntryDue e s = s := by
  simp [timeEntryDue, h, Nat.not_lt.2 hearly]

theorem timeEntryDue_due {s : State} {e t : Nat} (h : (s.entry e).next = some t) (harmed : (s.entry e).armed = true)
    (hkind : (s.entry e).kind = 1) (hdue : t < s.now8 + 16) :
    timeEntryDue e s = s.setEntry e { s.entry e with
      pend := (s.entry e).pend ++ [{ inst := t }]
      next := if (s.entry e).period8 = 0 then none else some (t + (s.entry e).period8) } := by
  simp [timeEntryDue, h, harmed, hkind, hdue]

/-! ### Fires (R405, R411, R413, R414) -/

theorem schedFire_idle {s : State} {e : Nat} (h : (s.entry e).pend = []) : schedFire e s = s := by
  simp only [schedFire, h, List.find?_nil]

/-- The first pending instant fires when it is due, not suppressed, and the entry is armed. -/
theorem schedFire_first {s : State} {e : Nat} {p : FireAt} {rest : List FireAt} (h : (s.entry e).pend = p :: rest)
    (hsup : p.sup = false) (hdue : p.inst < s.now8 + 16) (harmed : (s.entry e).armed = true) :
    schedFire e s = fireEntry e p s := by
  simp [schedFire, h, hsup, hdue, harmed]

/-- A fire in time of a TIME entry without COUNT: it counts, and its instant leaves. -/
theorem fireEntry_unlimited {s : State} {e : Nat} {p : FireAt} {rest : List FireAt}
    (h : (s.entry e).pend = p :: rest) (hkind : (s.entry e).kind = 1) (hlate : bitAt p.flags 0 = false)
    (hcount : bitsOf ((s.entry e).word 0) 15 0 = 0) :
    fireEntry e p s = ((s.fireAt (0x160 + e) (p.inst * 2 ^ 29) p.flags).count TWS_ENTFIRES.FIRES e).setEntry e
      { s.entry e with pend := rest } := by
  simp [fireEntry, h, hkind, hlate, hcount]

/-- FIRES counts a fire; the 16 bits of COUNT keep it from saturating before COUNT is reached. -/
theorem get_fires_count {s : State} {e c : Nat} (h : c = s.get TWS_ENTFIRES.FIRES e + 1) (hc : c < 2 ^ 16) :
    (s.count TWS_ENTFIRES.FIRES e).get TWS_ENTFIRES.FIRES e = c := by
  subst h
  rw [get_count_same s TWS_ENTFIRES.FIRES e 0 1 (by decide) (by decide)]
  exact Nat.min_eq_left (Nat.le_sub_one_of_lt (hc.trans (by decide)))

/-- A fire in time of a TIME entry that reaches COUNT sets DONE and disarms the entry. -/
theorem fireEntry_last {s : State} {e : Nat} {p : FireAt} (hkind : (s.entry e).kind = 1)
    (hlate : bitAt p.flags 0 = false) (hcount : bitsOf ((s.entry e).word 0) 15 0 = s.get TWS_ENTFIRES.FIRES e + 1) :
    ∃ t : State, fireEntry e p s = disarmEntry e (t.set TWS_ENTCTL.DONE 1 e) := by
  have hfires := get_fires_count (s := s.fireAt (0x160 + e) (p.inst * 2 ^ 29) p.flags) hcount (bitsOf_lt _ 15 0)
  have hpos : bitsOf ((s.entry e).word 0) 15 0 ≠ 0 := by omega
  simp only [fireEntry, hkind, hlate, Nat.reduceBEq, Bool.false_eq_true, if_false]
  rw [hfires, if_pos (by simp [hpos])]
  exact ⟨_, rfl⟩

theorem flag_done_disarmEntry (s : State) (e : Nat) :
    (disarmEntry e (s.set TWS_ENTCTL.DONE 1 e)).flag TWS_ENTCTL.DONE e = true := by
  have hregs : (disarmEntry e (s.set TWS_ENTCTL.DONE 1 e)).regs = (s.set TWS_ENTCTL.DONE 1 e).regs := rfl
  rw [State.flag, get_congr hregs, get_set_same _ _ _ _ _ (by decide) (by decide)]
  rfl

theorem entry_disarmEntry (s : State) (e : Nat) : (disarmEntry e s).entry e =
    { s.entry e with armed := false, pend := [], blocks := [], angle := none, next := none } :=
  entry_setEntry_same _ _ _

/-! ### The CTL word (R411, R412) -/

theorem entryCtlWrite_unarmed {s : State} (e v : Nat) :
    let t := ((codedWrite (TWS_ENTCTL.reg.adr e) v s).set TWS_ENTCTL.DONE 0 e).set TWS_ENTFIRES.FIRES 0 e
    let ws := (List.range 7).map (fun k => t.rdA (TWS_ENTCTL.reg.adr e + 4 * k))
    let u := t.setEntry e { kind := bitsOf (ws.getD 0 0) 30 29, words := ws }
    mayArm u (schedMode u) e = false → (u.entry e).kind = (s.entry e).kind → entryCtlWrite e v s = u := by
  intro t ws u hmay hkind
  simp only [entryCtlWrite]
  rw [if_neg (Bool.eq_false_iff.1 hmay), if_pos (beq_iff_eq.2 hkind.symm)]

/-! ### Lines (R417, R418) -/

theorem lineFire_none {s : State} (h : s.tws.lines = []) : lineFire s = s := by
  simp only [lineFire, h]

theorem lineFire_early {s : State} {k t : Nat} {rest : List (Nat × Nat)} (h : s.tws.lines = (k, t) :: rest)
    (hearly : s.now8 + 16 ≤ t) : lineFire s = s := by
  simp only [lineFire, h, if_pos hearly]

/-- The line that is due leaves the lines to come and is the last one for MINPER. -/
def lineTaken (t : Nat) (rest : List (Nat × Nat)) (s : State) : State :=
  { s with tws := { s.tws with lines := rest, lineAt := some t } }

/-- The first line of a block fires TWS_LINE. -/
def fireBlock (k t : Nat) (s : State) : State :=
  if k % max 1 (s.get TWS_LSCFG.BLKLINES) = 0 then s.fireAt 0x1A0 (t * 2 ^ 29) 0 else s

theorem fireBlock_eq (k t : Nat) (s : State) : fireBlock k t s =
    if k % max 1 (s.get TWS_LSCFG.BLKLINES) == 0 then s.fireAt 0x1A0 (t * 2 ^ 29) 0 else s := by
  simp only [fireBlock, beq_iff_eq]

theorem lineFire_first {s : State} {k t : Nat} {rest : List (Nat × Nat)} (h : s.tws.lines = (k, t) :: rest)
    (hdue : t < s.now8 + 16) (hlast : s.tws.lineAt = none) :
    lineFire s = fireBlock k t ((lineTaken t rest s).fireAt 0x1A1 (t * 2 ^ 29) 0) := by
  rw [lineFire, h, fireBlock_eq]
  dsimp only
  rw [if_neg (Nat.not_le.2 hdue), hlast]
  rfl

/-- A line nearer than MINPER to the last is dropped, counted and logged. -/
theorem lineFire_dropped {s : State} {k t l : Nat} {rest : List (Nat × Nat)} (h : s.tws.lines = (k, t) :: rest)
    (hdue : t < s.now8 + 16) (hlast : s.tws.lineAt = some l) (hnear : t < l + 8 * s.get TWS_LSMINPER.NS) :
    lineFire s = fireBlock k t (markOverrun (((lineTaken t rest s).count TWS_LSDROP.COUNT).logSec 0x0A08 0 [k])) := by
  rw [lineFire, h, fireBlock_eq]
  dsimp only
  rw [if_neg (Nat.not_le.2 hdue), hlast]
  simp only [hnear, decide_true, if_true]
  rfl

/-- Settles O32: each command is its function of the entry or of the divider, with one lemma for the case that its clause
names. -/
theorem schedulerAndLines : Obligations.SchedulerAndLines := by
  refine ⟨?noInstant, ?notYet, ?due, ?nothing, ?fires, ?counted, ?last, ?ctl, ?noLine, ?lineEarly, ?line, ?dropped⟩
  case noInstant =>
    intro s e h
    exact congrArg Host.Outcome.next (timeEntryDue_none h)
  case notYet =>
    intro s e t h hearly
    exact congrArg Host.Outcome.next (timeEntryDue_early h hearly)
  case due =>
    intro s e t h harmed hkind hdue
    exact congrArg Host.Outcome.next (timeEntryDue_due h harmed hkind hdue)
  case nothing =>
    intro s e h
    exact congrArg Host.Outcome.next (schedFire_idle h)
  case fires =>
    intro s e p rest h hsup hdue harmed
    exact congrArg Host.Outcome.next (schedFire_first h hsup hdue harmed)
  case counted =>
    intro s e p rest h hkind hlate hcount
    exact fireEntry_unlimited h hkind hlate hcount
  case last =>
    intro s e p hkind hlate hcount
    obtain ⟨t, ht⟩ := fireEntry_last hkind hlate hcount
    rw [ht, flag_done_disarmEntry, entry_disarmEntry]
    exact ⟨rfl, rfl, rfl⟩
  case ctl =>
    intro s e v hs t ws u hmay hkind
    rw [execEntryCtlWrite_served s e v hs, twsReg, entryCtlWrite_unarmed e.val v.toNat hmay hkind]
  case noLine =>
    intro s h
    exact congrArg Host.Outcome.next (lineFire_none h)
  case lineEarly =>
    intro s k t rest h hearly
    exact congrArg Host.Outcome.next (lineFire_early h hearly)
  case line =>
    intro s k t rest h hdue hlast
    exact congrArg Host.Outcome.next (lineFire_first h hdue hlast)
  case dropped =>
    intro s k t l rest h hdue hlast hnear
    exact congrArg Host.Outcome.next (lineFire_dropped h hdue hlast hnear)

end Sys2Proof.Machine
end

section
/-! Trailing edges of the trigger and strobe outputs, the strobe guard (R461-R463, R465-R467). -/

namespace Sys2Proof.Machine

/-! ### The end of a trigger pulse (R461, R463) -/

theorem trigEnd_noPulse {s : State} {n : Nat} (h : (s.trigOut n).pulse = none) : trigEnd n s = s := by
  simp only [trigEnd, h]

theorem trigEnd_early {s : State} {n : Nat} {p : OutPulse} (h : (s.trigOut n).pulse = some p)
    (hearly : s.phys8 + 16 < p.trail) : trigEnd n s = s := by
  simp only [trigEnd, h, if_pos hearly]

/-- Past its trailing edge a pulse frees the consumer; only a live one turns a TOGGLE output over and shows on the pin. -/
theorem trigEnd_over {s : State} {n : Nat} {p : OutPulse} (h : (s.trigOut n).pulse = some p)
    (hover : p.trail ≤ s.phys8 + 16) :
    trigEnd n s =
      let e := if p.toggle then p.lead else p.trail
      let t := setBusy (0x48 + n) false (s.setTrig n {
        pulse := none
        edge := e
        level := if p.toggle = true ∧ p.dead = false then !(s.trigOut n).level else (s.trigOut n).level })
      if p.dead then t else t.emit (.outPulse n p.lead e) := by
  simp only [trigEnd, h, if_neg (Int.not_lt.2 hover), Bool.and_eq_true, Bool.not_eq_true']

/-! ### The end of a strobe pulse (R465, R467) -/

theorem strobeEnd_noPulse {s : State} {k : Nat} (h : (s.strobe k).pulse = none) : strobeEnd k s = s := by
  simp only [strobeEnd, h]

theorem strobeEnd_early {s : State} {k : Nat} {p : OutPulse} (h : (s.strobe k).pulse = some p)
    (hearly : s.phys8 + 16 < p.trail) : strobeEnd k s = s := by
  simp only [strobeEnd, h, if_pos hearly]

/-- Without TRIP no pulse is suppressed (R467). -/
theorem judgeSuppressed_untripped {s : State} {k : Nat} (h : s.flag OUT_SSTAT.TRIP k = false) :
    judgeSuppressed k s = s := by
  cases hp : (s.strobe k).pulse with
  | none => simp only [judgeSuppressed, hp]
  | some p => simp [judgeSuppressed, hp, h]

/-- A live, uncut pulse that ends without TRIP frees the consumer and has left the pin; the guard is seen first. -/
theorem strobeEnd_over {s : State} {k : Nat} {p : OutPulse} (h : (s.strobe k).pulse = some p)
    (hover : p.trail ≤ s.phys8 + 16) (hlive : p.dead = false) (huncut : p.cut = none)
    (htrip : (seeGuard k s).flag OUT_SSTAT.TRIP k = false) (hseen : ((seeGuard k s).strobe k).pulse = some p) :
    strobeEnd k s =
      let t := seeGuard k s
      (setBusy (0x58 + k) false (t.setStrobe k { t.strobe k with pulse := none, edge := p.trail })).emit
        (.outPulse (16 + k) p.lead p.trail) := by
  simp only [strobeEnd, h, if_neg (Int.not_lt.2 hover), judgeSuppressed_untripped htrip, hseen, Option.getD_some, hlive,
    huncut, Option.getD_none, Bool.false_eq_true, if_false]

/-! ### The guard (R466, R467) -/

theorem guardTrip_onlySeen {s : State} {k : Nat}
    (h : (seeGuard k s).get OUT_SCAP.CAP k = 0 ∨ (seeGuard k s).flag OUT_SSTAT.TRIP k = true ∨
      ((seeGuard k s).strobe k).level < (seeGuard k s).get OUT_SCAP.CAP k * 65536) :
    guardTrip k s = seeGuard k s := by
  simp only [guardTrip, Bool.or_eq_true, beq_iff_eq, decide_eq_true_eq, or_assoc, if_pos h]

/-- The guard trips with no pulse in flight: there is none to cut, and the strobe has been active for no time. -/
theorem guardTrip_reached {s : State} {k : Nat} (hcap : (seeGuard k s).get OUT_SCAP.CAP k ≠ 0)
    (htrip : (seeGuard k s).flag OUT_SSTAT.TRIP k = false)
    (hlevel : (seeGuard k s).get OUT_SCAP.CAP k * 65536 ≤ ((seeGuard k s).strobe k).level)
    (hpulse : ((seeGuard k s).strobe k).pulse = none) :
    guardTrip k s =
      let t := seeGuard k s
      ((((t.setStrobe k { t.strobe k with pulse := none }).set OUT_SSTAT.TRIP 1 k).count OUT_SCNT.TRIPS k).fire
        (0x1E0 + k)).log 0x0C01 [k, 0] := by
  simp [guardTrip, hcap, htrip, Nat.not_lt.2 hlevel, hpulse]

/-- TRIP clears at half of CAP. -/
theorem guardClear_eq (s : State) (k : Nat) :
    guardClear k s =
      let t := seeGuard k s
      if t.flag OUT_SSTAT.TRIP k = true ∧ 2 * (t.strobe k).level ≤ t.get OUT_SCAP.CAP k * 65536 then
        (judgeSuppressed k t).set OUT_SSTAT.TRIP 0 k
      else t := by
  simp only [guardClear, Bool.and_eq_true, decide_eq_true_eq]

/-- Settles O34: each command is its function of the output, with one lemma for the case that its clause names; the lock
of the edge loop is the command itself. -/
theorem triggerAndStrobeOutputs : Obligations.TriggerAndStrobeOutputs := by
  refine ⟨?trigIdle, ?trigEarly, ?trigOver, ?strobeIdle, ?strobeEarly, ?strobeOver, ?guardSeen, ?guardTrips, ?guardClears,
    ?unlock, ?lock⟩
  case trigIdle =>
    intro s n h
    exact congrArg Host.Outcome.next (trigEnd_noPulse h)
  case trigEarly =>
    intro s n p h hearly
    exact congrArg Host.Outcome.next (trigEnd_early h hearly)
  case trigOver =>
    intro s n p h hover
    exact congrArg Host.Outcome.next (trigEnd_over h hover)
  case strobeIdle =>
    intro s k h
    exact congrArg Host.Outcome.next (strobeEnd_noPulse h)
  case strobeEarly =>
    intro s k p h hearly
    exact congrArg Host.Outcome.next (strobeEnd_early h hearly)
  case strobeOver =>
    intro s k p h hover hlive huncut htrip hseen
    exact congrArg Host.Outcome.next (strobeEnd_over h hover hlive huncut htrip hseen)
  case guardSeen =>
    intro s k t h
    exact congrArg Host.Outcome.next (guardTrip_onlySeen h)
  case guardTrips =>
    intro s k t hcap htrip hlevel hpulse
    exact congrArg Host.Outcome.next (guardTrip_reached hcap htrip hlevel hpulse)
  case guardClears =>
    intro s k
    exact congrArg Host.Outcome.next (guardClear_eq s k.val)
  case unlock =>
    intro s
    rfl
  case lock =>
    intro s
    rfl

end Sys2Proof.Machine
end

section
/-! Analog outputs: enable, value, range, the states of the switch, faults (R468-R473). -/

namespace Sys2Proof.Machine

/-! ### Enable, value and range (R468, R470-R472) -/

theorem aenaWrite_there {s : State} (v : Nat) (hthere : analogThere s = true) :
    aenaWrite v s = analogAll ((s.set OUT_AENA.EN v).set OUT_AENA.CLAMPED 0) :=
  if_pos hthere

/-- A value goes to the converter unless it waits for UPD or for the end of HOLDOFF (R472). -/
theorem avalWrite_there {s : State} (a v : Nat) (hthere : analogThere s = true) :
    avalWrite a v s =
      let t := s.set OUT_AVAL.CODE v a
      if t.flag OUT_ACFG.UPD a = true ∨ analogState t a = 1 then t
      else t.set OUT_AOUT.CODE (t.get OUT_AVAL.CODE a) a := by
  simp only [avalWrite, hthere, Bool.not_true, Bool.false_eq_true, if_false, Bool.or_eq_true, beq_iff_eq]

theorem arngWrite_refused {s : State} {a v : Nat} (hthere : analogThere s = true) (hrange : 5 ≤ bitsOf v 18 16) :
    arngWrite a v s = s.log 0x0C04 [a, bitsOf v 18 16] := by
  simp [arngWrite, hthere, hrange]

theorem arngWrite_sameRange {s : State} {a v : Nat} (hthere : analogThere s = true)
    (hsame : bitsOf v 18 16 = s.get OUT_ARNG.RANGE a) (hrange : bitsOf v 18 16 < 5) :
    arngWrite a v s = avalWrite a v s := by
  simp only [arngWrite, hthere, Bool.not_true, Bool.false_eq_true, if_false, if_neg (Nat.not_le.2 hrange),
    if_pos (beq_iff_eq.2 hsame)]

/-- Another range is stored with the value; the trim follows at the basic level, and the switch opens for HOLDOFF. -/
theorem arngWrite_newRange {s : State} {a v : Nat} (hthere : analogThere s = true) (hrange : bitsOf v 18 16 < 5)
    (hnew : bitsOf v 18 16 ≠ s.get OUT_ARNG.RANGE a) :
    arngWrite a v s =
      let t := (s.set OUT_ARNG.RANGE (bitsOf v 18 16) a).set OUT_AVAL.CODE v a
      let u := if t.flag OUT_LEVEL.EXPERT then t else deriveCal a t
      if analogState u a = 0 then u else analogOpen a 1 u := by
  simp only [arngWrite, hthere, Bool.not_true, Bool.false_eq_true, if_false, if_neg (Nat.not_le.2 hrange), beq_iff_eq,
    if_neg hnew]

/-! ### The states of the switch (R469) -/

theorem holdoffEnd_eq (s : State) (a : Nat) : holdoffEnd a s =
    if analogState s a = 1 then (s.set OUT_ASTAT.STATE 2 a).set OUT_AOUT.CODE (s.get OUT_AVAL.CODE a) a else s := by
  simp only [holdoffEnd, beq_iff_eq, analogConnect]

theorem connectEnd_eq (s : State) (a : Nat) :
    connectEnd a s = if analogState s a = 2 then s.set OUT_ASTAT.STATE 3 a else s := by
  simp only [connectEnd, beq_iff_eq]

/-! ### Faults (R473) -/

theorem analogFault_overload {s : State} {a : Nat} (hthere : analogThere s = true) :
    analogFault a false s = (s.set OUT_ASTAT.OVLD 1 a).log 0x0C05 [a, 1] := by
  simp [analogFault, hthere]

theorem analogFault_compliance {s : State} {a : Nat} (hthere : analogThere s = true)
    (hcurrent : s.get OUT_ARNG.RANGE a = 4) :
    analogFault a true s = (s.set OUT_ASTAT.COMPL 1 a).log 0x0C05 [a, 2] := by
  simp [analogFault, hthere, hcurrent]

/-- Compliance belongs to the current range alone. -/
theorem analogFault_voltage {s : State} {a : Nat} (hvoltage : s.get OUT_ARNG.RANGE a ≠ 4) : analogFault a true s = s := by
  simp [analogFault, hvoltage]

/-- Settles O35: a served write is the operation of its register, and each command is its function of the output, with one
lemma for the case that its clause names. -/
theorem analogOutputs : Obligations.AnalogOutputs := by
  refine ⟨?aena, ?aval, ?refused, ?newRange, ?sameRange, ?holdoff, ?connect, ?discharge, ?fault, ?clear⟩
  case aena =>
    intro s v hs hthere
    exact (execAenaWrite_served s v hs).trans (congrArg Host.Outcome.next (aenaWrite_there v.toNat hthere))
  case aval =>
    intro s a v hs hthere
    exact (execAvalWrite_served s a v hs).trans (congrArg Host.Outcome.next (avalWrite_there a.val v.toNat hthere))
  case refused =>
    intro s a v x hs hthere hrange
    rw [execArngWrite_served s a v hs, outReg, arngWrite_refused hthere hrange]
  case newRange =>
    intro s a v x r t u hs hthere hrange hnew
    rw [execArngWrite_served s a v hs, outReg, arngWrite_newRange hthere hrange hnew]
  case sameRange =>
    intro s a v x hs hthere hsame hrange
    rw [execArngWrite_served s a v hs, outReg, arngWrite_sameRange hthere hsame hrange]
  case holdoff =>
    intro s a
    exact congrArg Host.Outcome.next (holdoffEnd_eq s a.val)
  case connect =>
    intro s a
    exact congrArg Host.Outcome.next (connectEnd_eq s a.val)
  case discharge =>
    intro s a
    rfl
  case fault =>
    intro s a hthere
    exact ⟨congrArg Host.Outcome.next (analogFault_overload hthere),
      fun hcurrent => congrArg Host.Outcome.next (analogFault_compliance hthere hcurrent),
      fun hvoltage => congrArg Host.Outcome.next (analogFault_voltage hvoltage)⟩
  case clear =>
    intro s a
    exact ⟨rfl, rfl⟩

end Sys2Proof.Machine
end

section
/-! Doorbells, the five queue commands, context and map writes, and the self test of the queues (R486, R494, R511-R518). -/

namespace Sys2Proof.Machine

/-! ### Doorbells (R494, R511) -/

/-- The producer index that a doorbell write of `v` names on queue `q`. -/
def doorbellIndex (s : State) (q v : Nat) : Nat := v % 2 ^ 17 % (2 * descSlots s q)

/-- The descriptors that a producer index `pi` makes available on queue `q`. -/
def availAt (s : State) (q pi : Nat) : Nat :=
  (pi + 2 * descSlots s q - s.get QUE_CTX7.CI q % (2 * descSlots s q)) % (2 * descSlots s q)

theorem doorbell_eq (q v : Nat) (s : State) :
    doorbell q v s =
      if queueState s q = 0 then s.set QUE_CTX6.PI (doorbellIndex s q v) q
      else if queueState s q = 3 then s
      else if descSlots s q < availAt s q (doorbellIndex s q v) then
        (if queueState s q = 1 ∨ s.get QUE_CTX9.REASON q = 1 then pauseQueue q 4 (dropWaiting q 2 (cutOpen q 1 6 s))
          else s).log 0x0D03 [q, v]
      else promote q (fillOpen q (s.set QUE_CTX6.PI (doorbellIndex s q v) q)) := by
  rw [availAt, doorbellIndex]
  simp only [doorbell, beq_iff_eq, Bool.or_eq_true]

theorem doorbell_idle {s : State} {q : Nat} (v : Nat) (hidle : queueState s q = 0) :
    doorbell q v s = s.set QUE_CTX6.PI (doorbellIndex s q v) q := by
  rw [doorbell_eq, if_pos hidle]

theorem doorbell_resetting {s : State} {q : Nat} (v : Nat) (hreset : queueState s q = 3) : doorbell q v s = s := by
  rw [doorbell_eq, if_neg (by omega), if_pos hreset]

/-- More descriptors than the ring has pause an ACTIVE queue with reason DOORBELL (R512). -/
theorem doorbell_tooMany {s : State} {q v : Nat} (hactive : queueState s q = 1)
    (hmany : descSlots s q < availAt s q (doorbellIndex s q v)) :
    doorbell q v s = (pauseQueue q 4 (dropWaiting q 2 (cutOpen q 1 6 s))).log 0x0D03 [q, v] := by
  rw [doorbell_eq, if_neg (by omega), if_neg (by omega), if_pos hmany, if_pos (Or.inl hactive)]

theorem doorbell_inRing {s : State} {q v : Nat} (hlive : queueState s q = 1 ∨ queueState s q = 2)
    (hfit : availAt s q (doorbellIndex s q v) ≤ descSlots s q) :
    doorbell q v s = promote q (fillOpen q (s.set QUE_CTX6.PI (doorbellIndex s q v) q)) := by
  rw [doorbell_eq, if_neg (by omega), if_neg (by omega), if_neg (by omega)]

/-! ### The register of the queue commands (R514) -/

/-- The command register takes the operation from bits 31:28 and the queue from bits 13:0. -/
theorem queReg_command {q : Nat} (op : Nat) (s : State) (hq : q < 16384) :
    queReg 0x800020 0 (QUE_QCMD.reg.adr 0) (op * 2 ^ 28 + q) s = queueCommand op q s := by
  have hop : (op * 2 ^ 28 + q) / 2 ^ 28 = op := by omega
  have hqid : (op * 2 ^ 28 + q) % 16384 = q := by omega
  show queueCommand ((op * 2 ^ 28 + q) / 2 ^ 28) ((op * 2 ^ 28 + q) % 16384) s = _
  rw [hop, hqid]

section
variable {s : State} (q : Fin 16384) (h : Served s (QUE_QCMD.reg.adr 0))
include h

theorem execQueueEnable_eq :
    exec (.queueEnable q) s = .next (if s.flag QUE_QCMDSTAT.BUSY then s else queueEnable q.val s) := by
  rw [execQueueEnable_served s q h, queReg_command 1 s q.isLt, queueCommand]

theorem execQueuePause_eq :
    exec (.queuePause q) s = .next (if s.flag QUE_QCMDSTAT.BUSY then s else queuePause q.val s) := by
  rw [execQueuePause_served s q h, queReg_command 2 s q.isLt, queueCommand]

theorem execQueueResume_eq :
    exec (.queueResume q) s = .next (if s.flag QUE_QCMDSTAT.BUSY then s else queueResume q.val s) := by
  rw [execQueueResume_served s q h, queReg_command 3 s q.isLt, queueCommand]

theorem execQueueReset_eq :
    exec (.queueReset q) s = .next (if s.flag QUE_QCMDSTAT.BUSY then s
      else (queueReset q.val (s.set QUE_QCMDSTAT.RESULT 0)).set QUE_QCMDSTAT.BUSY 1) := by
  rw [execQueueReset_served s q h, queReg_command 4 s q.isLt, queueCommand]

theorem execQueueMark_eq :
    exec (.queueMark q) s = .next (if s.flag QUE_QCMDSTAT.BUSY then s else queueMark q.val s) := by
  rw [execQueueMark_served s q h, queReg_command 5 s q.isLt, queueCommand]

end

/-! ### ENABLE, PAUSE, RESUME and MARK by the state of the queue (R511, R512, R514, R515) -/

theorem queueEnable_notIdle {s : State} {q : Nat} (hstate : queueState s q ≠ 0) :
    queueEnable q s = refuseQcmd q 1 1 s := by
  simp [queueEnable, hstate]

theorem queueEnable_idle {s : State} {q : Nat} (hidle : queueState s q = 0) :
    queueEnable q s = if contextValid s q = true then
        promote q ((s.set QUE_CTX9.STATE 1 q).set QUE_QCMDSTAT.RESULT 0)
      else refuseQcmd q 1 2 s := by
  cases hvalid : contextValid s q <;> simp [queueEnable, hidle, hvalid]

theorem queuePause_notActive {s : State} {q : Nat} (hstate : queueState s q ≠ 1) :
    queuePause q s = refuseQcmd q 2 1 s := by
  simp [queuePause, hstate]

theorem queuePause_active {s : State} {q : Nat} (hactive : queueState s q = 1) :
    queuePause q s = (pauseQueue q 1 s).set QUE_QCMDSTAT.RESULT 0 := by
  simp [queuePause, hactive]

theorem queueResume_notPaused {s : State} {q : Nat} (hstate : queueState s q ≠ 2) :
    queueResume q s = refuseQcmd q 3 1 s := by
  simp [queueResume, hstate]

/-- A queue that the bridge halted does not resume while the bridge cannot master. -/
theorem queueResume_halted {s : State} {q : Nat} (hpaused : queueState s q = 2)
    (hreason : s.get QUE_CTX9.REASON q = 2 ∨ s.get QUE_CTX9.REASON q = 6) (hslave : canMaster s = false) :
    queueResume q s = refuseQcmd q 3 3 s := by
  simp [queueResume, hpaused, hreason, hslave]

theorem queueResume_empty {s : State} {q : Nat} (hpaused : queueState s q = 2) (hmaster : canMaster s = true)
    (hempty : ((clearPaused q s).set QUE_CTX9.STATE 1 q).queue q = {}) :
    queueResume q s = promote q (((clearPaused q s).set QUE_CTX9.STATE 1 q).set QUE_QCMDSTAT.RESULT 0) := by
  simp [queueResume, hpaused, hmaster, hempty]

theorem queueMark_notLive {s : State} {q : Nat} (hactive : queueState s q ≠ 1) (hpaused : queueState s q ≠ 2) :
    queueMark q s = refuseQcmd q 5 1 s := by
  simp [queueMark, hactive, hpaused]

/-- The item of a MARK command. -/
def markItem (s : State) : Item where
  source := 5
  kind := 7
  seq := s.get QUE_QARG.ARG
  flags := if s.unsync then 16 else 0
  ended := true
  body := leBytes 8 (shortForm s.nowNs) ++ leBytes 8 (shortForm s.nowNs)

theorem queueMark_empty {s : State} {q : Nat} (hlive : queueState s q = 1 ∨ queueState s q = 2)
    (hempty : s.queue q = {}) :
    queueMark q s = promote q ((s.setQueue q { waiting := [markItem s] }).set QUE_QCMDSTAT.RESULT 0) := by
  rcases hlive with hstate | hstate <;> simp [queueMark, hstate, hempty, markItem]

theorem queueResetDone_eq (q : Nat) (s : State) :
    queueResetDone q s = if queueState s q = 3 then (s.set QUE_CTX9.STATE 0 q).set QUE_QCMDSTAT.BUSY 0 else s := by
  simp only [queueResetDone, beq_iff_eq]

/-! ### Contexts and maps (R486, R515) -/

theorem ctxWrite_eq (q w v : Nat) (s : State) :
    ctxWrite q w v s = if queueState s q = 0 then s.wrA (0x900000 + 64 * q + 4 * w)
        (v &&& (if w = 4 then 0xFFE007FF else if w = 5 then 0xFF00FFFF else 0xFFFFFFFF))
      else s.log 0x0D09 [q, w] := by
  simp only [ctxWrite, bne_iff_ne, ne_eq, ite_not, beq_iff_eq]

theorem mapWrite_eq (a v : Nat) (s : State) :
    mapWrite a v s = if 16383 < v % 2 ^ 14 + 2 ^ min 6 (v / 2 ^ 24 % 8) - 1 then s.log 0x0D05 [v % 2 ^ 14, 0, 2]
      else s.wrA a (v &&& 0xC7003FFF) := by
  have hbase : bitsOf v 13 0 = v % 2 ^ 14 := by simp [bitsOf]
  have hset : bitsOf v 26 24 = v / 2 ^ 24 % 8 := rfl
  rw [mapWrite, hbase, hset]

/-! ### The self test (R517) -/

theorem execQueBistStart_eq {s : State} (h : Served s (QUE_BIST.reg.adr 0)) :
    exec .queBistStart s = .next (queBistStart s) :=
  execQueBistStart_served s h

theorem queBistStart_refused {s : State}
    (h : modeNow s ≠ 7 ∨ liveQueues s ≠ [] ∨ s.flag QUE_BIST.RUNNING = true) : queBistStart s = s.log 0x0D0B := by
  rw [queBistStart, if_neg]
  rcases h with hmode | hlive | hrunning
  · simp [hmode]
  · simp [hlive]
  · simp [hrunning]

theorem queBistStart_starts {s : State} (hmode : modeNow s = 7) (hphase : s.get GLB_MODESTAT.PHASE = 0)
    (hidle : liveQueues s = []) (hrunning : s.flag QUE_BIST.RUNNING = false) :
    queBistStart s = (s.set QUE_BIST.RUNNING 1).set QUE_BIST.RESULT 0 := by
  simp [queBistStart, hmode, hphase, hidle, hrunning]

theorem queBistEnd_notRunning {s : State} (result : Nat) (h : s.flag QUE_BIST.RUNNING = false) :
    queBistEnd result s = s := by
  simp [queBistEnd, h]

/-- What the end of a self test leaves: no context, no item, and its result. -/
def queuesTested (ok : Bool) (s : State) : State :=
  let z := s.clearRegs 0x900000 0xA00000
  (({ z with que := { z.que with queues := [], created := [] } } : State).set QUE_BIST.RUNNING 0).set
    QUE_BIST.RESULT (if ok then 1 else 2)

theorem queBistEnd_running {s : State} (ok : Bool) (h : s.flag QUE_BIST.RUNNING = true) :
    queBistEnd (if ok then 1 else 2) s = if ok then queuesTested ok s else (queuesTested ok s).log 0x0D0A := by
  cases ok <;> simp [queBistEnd, h, queuesTested]

/-- Settles O36: a doorbell, a context write, a map write and the self test are each one function of the queue unit, a
queue command is its own function unless BUSY discards it, and each function has one lemma for the case that a clause
names. -/
theorem queueCommands : Obligations.QueueCommands := by
  refine ⟨?bellIdle, ?bellResetting, ?bellTooMany, ?bellInRing, ?busy, ?idle, ?active, ?halted, ?resume, ?reset, ?mark,
    ?resetDone, ?context, ?streamMap, ?encoderMap, ?testRefused, ?testStarts, ?testIdle, ?testEnds⟩
  case bellIdle =>
    intro s q v hs hidle
    exact (execDoorbellWrite_served s q v hs).trans (congrArg Host.Outcome.next (doorbell_idle v.toNat hidle))
  case bellResetting =>
    intro s q v hs hreset
    exact (execDoorbellWrite_served s q v hs).trans (congrArg Host.Outcome.next (doorbell_resetting v.toNat hreset))
  case bellTooMany =>
    intro s q v hs hactive hmany
    exact (execDoorbellWrite_served s q v hs).trans (congrArg Host.Outcome.next (doorbell_tooMany hactive hmany))
  case bellInRing =>
    intro s q v hs hlive hfit
    exact (execDoorbellWrite_served s q v hs).trans (congrArg Host.Outcome.next (doorbell_inRing hlive hfit))
  case busy =>
    intro s q hs hbusy
    simp only [execQueueEnable_eq q hs, execQueuePause_eq q hs, execQueueResume_eq q hs, execQueueReset_eq q hs,
      execQueueMark_eq q hs, if_pos hbusy, and_self]
  case idle =>
    intro s q hs hfree hidle
    simp only [execQueueEnable_eq q hs, execQueuePause_eq q hs, execQueueResume_eq q hs, execQueueMark_eq q hs,
      if_neg (Bool.eq_false_iff.1 hfree), queueEnable_idle hidle, queuePause_notActive (by omega : queueState s q ≠ 1),
      queueResume_notPaused (by omega : queueState s q ≠ 2), queueMark_notLive
      (by omega : queueState s q ≠ 1) (by omega), refuseQcmd, and_self]
  case active =>
    intro s q hs hfree hactive
    simp only [execQueueEnable_eq q hs, execQueuePause_eq q hs, if_neg (Bool.eq_false_iff.1 hfree),
      queueEnable_notIdle (by omega : queueState s q ≠ 0), queuePause_active hactive, refuseQcmd, and_self]
  case halted =>
    intro s q hs hfree hpaused hreason hslave
    rw [execQueueResume_eq q hs, if_neg (Bool.eq_false_iff.1 hfree), queueResume_halted hpaused hreason hslave,
      refuseQcmd]
  case resume =>
    intro s q hs hfree hpaused hmaster hempty
    rw [execQueueResume_eq q hs, if_neg (Bool.eq_false_iff.1 hfree), queueResume_empty hpaused hmaster hempty]
  case reset =>
    intro s q hs hfree
    rw [execQueueReset_eq q hs, if_neg (Bool.eq_false_iff.1 hfree)]
  case mark =>
    intro s q hs hfree hlive hempty m
    rw [execQueueMark_eq q hs, if_neg (Bool.eq_false_iff.1 hfree), queueMark_empty hlive hempty, markItem]
  case resetDone =>
    intro s q
    exact congrArg Host.Outcome.next (queueResetDone_eq q.val s)
  case context =>
    intro s q w v hs
    exact (execQueCtxWrite_served s q w v hs).trans (congrArg Host.Outcome.next (ctxWrite_eq q.val w.val v.toNat s))
  case streamMap =>
    intro s st r v hs
    exact (execQueMapWrite_served s false st r v hs).trans (congrArg Host.Outcome.next (mapWrite_eq _ v.toNat s))
  case encoderMap =>
    intro s st r v hs
    exact (execQueMapWrite_served s true st r v hs).trans (congrArg Host.Outcome.next (mapWrite_eq _ v.toNat s))
  case testRefused =>
    intro s hs h
    exact (execQueBistStart_eq hs).trans (congrArg Host.Outcome.next (queBistStart_refused h))
  case testStarts =>
    intro s hs hmode hphase hidle hrunning
    exact (execQueBistStart_eq hs).trans (congrArg Host.Outcome.next (queBistStart_starts hmode hphase hidle hrunning))
  case testIdle =>
    intro s ok hrunning
    exact congrArg Host.Outcome.next (queBistEnd_notRunning _ hrunning)
  case testEnds =>
    intro s ok hrunning
    exact congrArg Host.Outcome.next (queBistEnd_running ok hrunning)

end Sys2Proof.Machine
end

section
/-! Items on their way to a tag, descriptors, the limits of R504, ERROR tags, and the moderation of messages (R485-R509,
R516). -/

namespace Sys2Proof.Machine

/-! ### The start of an item (R485-R487, R502, R508) -/

theorem startNext_none {s : State} (h : s.que.created = []) : startNext s = s := by
  rw [startNext, h]

theorem startNext_oldest {s : State} {it : Item} {rest : List Item} (h : s.que.created = it :: rest) :
    startNext s = startItem it { s with que := { s.que with created := rest } } := by
  rw [startNext, h]

/-- The queue that the map entry of item `it` names for its SEQ (R486). -/
def itemQueue (s : State) (it : Item) : Nat := chooseQueue s (mapWord s it) it.seq

section
variable {s : State} {it : Item}

theorem startItem_noQueue (h : bitAt (mapWord s it) 31 = false ∨ queueState s (itemQueue s it) = 0) :
    startItem it s = itemGone it ((s.count QUE_NOQ.COUNT).logSec 0x0D08 0 [it.stream, itemQueue s it]) := by
  rw [itemQueue] at h ⊢
  rw [startItem, if_pos]
  rcases h with hoff | hidle
  · simp [hoff]
  · simp [hidle]

theorem startItem_paused (hon : bitAt (mapWord s it) 31 = true) (hpaused : queueState s (itemQueue s it) = 2) :
    startItem it s = dropItem (itemQueue s it) 2 it s := by
  rw [itemQueue] at hpaused ⊢
  simp [startItem, hon, hpaused]

/-- An EVENT queue takes no item with a payload. -/
theorem startItem_wrongKind (hon : bitAt (mapWord s it) 31 = true) (hactive : queueState s (itemQueue s it) = 1)
    (htype : s.get QUE_CTX4.TYPE (itemQueue s it) = 1) (hpayload : hasPayload it.kind = true) :
    startItem it s = dropItem (itemQueue s it) 5 it s := by
  rw [itemQueue] at hactive htype ⊢
  simp [startItem, hon, hactive, htype, hpayload]

theorem startItem_waits (hon : bitAt (mapWord s it) 31 = true) (hactive : queueState s (itemQueue s it) = 1)
    (htype : s.get QUE_CTX4.TYPE (itemQueue s it) = 0) (hempty : s.queue (itemQueue s it) = {})
    (hroom : s.flag QUE_CTX4.POLICY (itemQueue s it) = false ∨ 0 < descAvail s (itemQueue s it)) :
    startItem it s = promote (itemQueue s it) (s.setQueue (itemQueue s it) {
      waiting := [it]
      lastFrame := if hasPayload it.kind = true ∧ it.kind ≠ 5 then some (it.stream, it.seq) else none }) := by
  rw [itemQueue] at hactive htype hempty hroom ⊢
  have hkept : ¬ (descAvail s (chooseQueue s (mapWord s it) it.seq) = 0 ∧
      s.flag QUE_CTX4.POLICY (chooseQueue s (mapWord s it) it.seq) = true) := by
    rintro ⟨hnone, hpolicy⟩
    rcases hroom with h | h
    · simp [hpolicy] at h
    · omega
  by_cases hframe : hasPayload it.kind = true ∧ it.kind ≠ 5 <;>
    simp [startItem, hon, hactive, htype, hempty, hkept, hframe]

end

/-! ### Completed descriptor reads (R495) -/

theorem takeArrived_none {s : State} {q : Nat} (h : s.que.arrived.find? (fun a => a.1 == q) = none) :
    takeArrived q s = s := by
  rw [takeArrived, h]

/-- The descriptors in the bytes `bs` of a read that began at ring slot `slot` of queue `q`. -/
def descsRead (s : State) (q slot : Nat) (bs : List Nat) : List Desc :=
  (List.range (bs.length / 32)).map (fun k => Desc.mk ((slot + k) % descSlots s q) (sliceOf bs (32 * k) 32))

theorem takeArrived_some {s : State} {q slot : Nat} {bs : List Nat}
    (h : s.que.arrived.find? (fun a => a.1 == q) = some (q, slot, bs)) :
    takeArrived q s =
      let t : State := { s with que := { s.que with arrived := s.que.arrived.erase (q, slot, bs) } }
      promote q (fillOpen q (t.setQueue q { t.queue q with
        ready := (t.queue q).ready ++ descsRead s q slot bs
        reading := (t.queue q).reading - bs.length / 32 })) := by
  rw [takeArrived, h]
  rfl

/-! ### STARTTO and MIDTO (R504) -/

section
variable {s : State} {q : Nat}

theorem startTimeout_nothing (hitem : (s.queue q).item = none) (hwait : (s.queue q).waiting = []) :
    startTimeout q s = s := by
  simp only [startTimeout, hitem, hwait]

theorem startTimeout_waiting {x : Item} {rest : List Item} (hitem : (s.queue q).item = none)
    (hwait : (s.queue q).waiting = x :: rest) (hmark : x.kind ≠ 7) :
    startTimeout q s = promote q (dropItem q 1 x (s.setQueue q { s.queue q with waiting := rest })) := by
  simp only [startTimeout, hitem, hwait, beq_iff_eq, if_neg hmark]

theorem midTimeout_none (hitem : (s.queue q).item = none) : midTimeout q s = s := by
  rw [midTimeout, hitem]

/-- An open item that holds a descriptor ends with its tag. -/
theorem cutOpen_started {it : Item} (extra cause : Nat) (hitem : (s.queue q).item = some it) (hdescs : it.descs ≠ []) :
    cutOpen q extra cause s = itemGone it (deliver q it extra (s.setQueue q { s.queue q with item := none })) := by
  simp only [cutOpen, hitem, if_neg hdescs]

theorem midTimeout_short {it : Item} (hitem : (s.queue q).item = some it) (hdescs : it.descs ≠ [])
    (hshort : capacity it < it.payload.length) :
    midTimeout q s = promote q ((itemGone it (deliver q it 1 (s.setQueue q { s.queue q with item := none }))).log 0x0D06
      [q, it.stream]) := by
  rw [← cutOpen_started 1 6 hitem hdescs]
  simp [midTimeout, hitem, hdescs, hshort]

/-! ### The end of an item (R491, R505, R506) -/

/-- Descriptors are given to a payload item alone, and only its payload is written. -/
theorem fillOpen_noPayload {it : Item} (hitem : (s.queue q).item = some it) (hkind : hasPayload it.kind = false)
    (hempty : it.payload = []) : fillOpen q s = s := by
  have hfill : fillItem q (s.queue q).ready s = s := by
    cases hready : (s.queue q).ready with
    | nil => rfl
    | cons d rest => simp [fillItem, hitem, hkind]
  simp [fillOpen, hfill, writeOpen, hitem, hempty]

theorem finishOpen_event {it : Item} {d : Desc} {rest : List Desc} (hitem : (s.queue q).item = some it)
    (hkind : hasPayload it.kind = false) (hempty : it.payload = []) (hready : (s.queue q).ready = d :: rest) :
    finishOpen q s = promote q (itemGone it (deliverEvent q it d
      (s.setQueue q { s.queue q with item := none, ready := rest }))) := by
  simp [finishOpen, fillOpen_noPayload hitem hkind hempty, hitem, hkind, hready]

theorem finishOpen_payload {it : Item} (hitem : ((fillOpen q s).queue q).item = some it)
    (hkind : hasPayload it.kind = true) (hdescs : it.descs ≠ []) (hwait : it.wait = 0) (hended : it.ended = true)
    (hfits : it.payload.length ≤ capacity it) :
    finishOpen q s = promote q (itemGone it (deliver q it 0
      ((fillOpen q s).setQueue q { (fillOpen q s).queue q with item := none }))) := by
  simp [finishOpen, hitem, hkind, hdescs, hwait, hended, hfits, Nat.not_lt.2 hfits]

/-! ### ERROR tags and moderation (R509, R516) -/

theorem errorTagWrite_noDrop (hdrop : (s.queue q).drop = none) : errorTagWrite q s = s := by
  cases hitem : (s.queue q).item <;> simp only [errorTagWrite, hitem, hdrop]

theorem errorTagWrite_due {d : DropRun} {e : Desc} {rest : List Desc} (hitem : (s.queue q).item = none)
    (hdrop : (s.queue q).drop = some d) (hready : (s.queue q).ready = e :: rest) (hactive : queueState s q = 1)
    (hmaster : canMaster s = true) :
    errorTagWrite q s = promote q (errorTag q d e (s.setQueue q { s.queue q with drop := none, ready := rest })) := by
  simp [errorTagWrite, hitem, hdrop, hready, hactive, hmaster]

theorem moderationTimeout_eq : moderationTimeout q s =
    if s.flag QUE_CTX4.IEN q = true ∧ 0 < s.get QUE_CTX9.PENDING q then
      (requestMessage 0 q (s.get QUE_CTX4.VECTOR q) s).set QUE_CTX9.PENDING 0 q else s := by
  simp only [moderationTimeout, queueMessage, Bool.and_eq_true, decide_eq_true_eq]

end

/-! ### Tags (R496, R498, R505) -/

@[simp] theorem leBytes_length (n v : Nat) : (leBytes n v).length = n := by simp [leBytes]

theorem tagBytes_length (s : State) (q : Nat) (it : Item) (n f : Nat) : (tagBytes s q it n f).length = 64 := by
  simp [tagBytes]

/-- The watch slots of a queue fire, and change no register and send nothing (R427). -/
theorem fireQueDone_frame (q : Nat) (s : State) :
    (fireQueDone q s).regs = s.regs ∧ (fireQueDone q s).sent = s.sent := by
  refine List.foldlRecOn (motive := fun t : State => t.regs = s.regs ∧ t.sent = s.sent) _ _ ⟨rfl, rfl⟩ (fun t ht k _ => ?_)
  split
  · rw [fire_regs, fire_sent]
    exact ht
  · exact ht

theorem emit_memWrite (s : State) (a : Nat) (bs : List Nat) (attr : Nat) :
    s.emit (.memWrite a bs attr) = { s with sent := s.sent ++ [.memWrite a bs attr] } := by
  simp [State.emit, Emission.onPcie]

/-- The address of the completion slot of queue `q` at CWI. -/
def tagAddr (s : State) (q : Nat) : Nat :=
  s.get QUE_CTX2.CBASELO q + s.get QUE_CTX3.CBASEHI q * 2 ^ 32 + 64 * (s.get QUE_CTX8.CWI q % compSlots s q)

/-- A tag written and counted, before the interrupt that it may ask for. -/
def tagWritten (q : Nat) (bs : List Nat) (s : State) : State :=
  ((s.emit (.memWrite (tagAddr s q) bs 0)).set QUE_CTX8.CWI
    ((s.get QUE_CTX8.CWI q + 1) % (2 * compSlots s q)) q).wrapAdd QUE_CTX11.TAGS 1 q

theorem tagWritten_sent (q : Nat) (bs : List Nat) (s : State) :
    (tagWritten q bs s).sent = s.sent ++ [.memWrite (tagAddr s q) bs 0] := by
  rw [tagWritten, wrapAdd_sent, set_sent, emit_memWrite]

theorem get_emit (s : State) (e : Emission) (f : Fld) (i j : Nat) : (s.emit e).get f i j = s.get f i j := by
  rw [State.emit]
  split <;> rfl

theorem flag_ien_tagWritten (q : Nat) (bs : List Nat) (s : State) :
    (tagWritten q bs s).flag QUE_CTX4.IEN q = s.flag QUE_CTX4.IEN q := by
  have htags : QUE_CTX4.IEN.adr q ≠ QUE_CTX11.TAGS.adr q := by simp [Fld.adr, QUE_CTX4.IEN, QUE_CTX11.TAGS]
  have hcwi : QUE_CTX4.IEN.adr q ≠ QUE_CTX8.CWI.adr q := by simp [Fld.adr, QUE_CTX4.IEN, QUE_CTX8.CWI]
  rw [State.flag, State.flag, tagWritten, State.wrapAdd, get_set_other _ _ _ _ _ _ _ _ htags,
    get_set_other _ _ _ _ _ _ _ _ hcwi, get_emit]

/-- Twice the number of completion slots is at most 2^17, which the 17 bits of CWI hold. -/
theorem two_mul_compSlots_le (s : State) (q : Nat) : 2 * compSlots s q ≤ 2 ^ 17 := by
  have hslots : compSlots s q ≤ 2 ^ 16 := Nat.pow_le_pow_right (by decide) (by omega)
  omega

theorem get_cwi_tagWritten (q : Nat) (bs : List Nat) (s : State) :
    (tagWritten q bs s).get QUE_CTX8.CWI q = (s.get QUE_CTX8.CWI q + 1) % (2 * compSlots s q) := by
  have htags : QUE_CTX8.CWI.adr q ≠ QUE_CTX11.TAGS.adr q := by simp [Fld.adr, QUE_CTX8.CWI, QUE_CTX11.TAGS]
  have hpos : 0 < 2 * compSlots s q := Nat.mul_pos (by decide) (Nat.two_pow_pos _)
  have hfits : (s.get QUE_CTX8.CWI q + 1) % (2 * compSlots s q) < 2 ^ 17 :=
    (Nat.mod_lt _ hpos).trans_le (two_mul_compSlots_le s q)
  rw [tagWritten, State.wrapAdd, get_set_other _ _ _ _ _ _ _ _ htags, get_set_same _ _ _ _ _ (by decide) (by decide)]
  exact Nat.mod_eq_of_lt hfits

/-- With IEN clear a tag asks for no message (R516). -/
theorem writeTag_quiet {s : State} {q : Nat} (bs : List Nat) (irq : Bool) (hien : s.flag QUE_CTX4.IEN q = false) :
    writeTag q bs irq s = fireQueDone q (tagWritten q bs s) := by
  have hquiet : (fireQueDone q (tagWritten q bs s)).flag QUE_CTX4.IEN q = false := by
    rw [State.flag, get_congr (fireQueDone_frame q _).1, ← State.flag, flag_ien_tagWritten, hien]
  show queueInterrupt q irq (fireQueDone q (tagWritten q bs s)) = _
  rw [queueInterrupt, hquiet]
  rfl

/-- Settles O37: each command is its function of the queue unit, with one lemma for the case that its clause names; a tag
that asks for no message is read off `tagWritten`. -/
theorem itemsAndTags : Obligations.ItemsAndTags := by
  refine ⟨?noneCreated, ?starts, ?noneArrived, ?arrived, ?startIdle, ?startWaits, ?midIdle, ?midShort, ?endHalted,
    ?endEvent, ?endPayload, ?noDrop, ?errorDue, ?moderation, ?tagLength, ?tagPlace⟩
  case noneCreated =>
    intro s h
    exact congrArg Host.Outcome.next (startNext_none h)
  case starts =>
    intro s it rest hcreated t w q
    have hexec : exec .itemStart s = .next (startItem it t) := congrArg Host.Outcome.next (startNext_oldest hcreated)
    rw [hexec]
    exact ⟨fun hoff => congrArg Host.Outcome.next (startItem_noQueue (Or.inl hoff)),
      fun _ hidle => congrArg Host.Outcome.next (startItem_noQueue (Or.inr hidle)),
      fun hon hpaused => congrArg Host.Outcome.next (startItem_paused hon hpaused),
      fun hon hactive htype hpayload => congrArg Host.Outcome.next (startItem_wrongKind hon hactive htype hpayload),
      fun hon hactive htype hempty hroom =>
        congrArg Host.Outcome.next (startItem_waits hon hactive htype hempty hroom)⟩
  case noneArrived =>
    intro s q h
    exact congrArg Host.Outcome.next (takeArrived_none h)
  case arrived =>
    intro s q slot bs h
    exact congrArg Host.Outcome.next (takeArrived_some h)
  case startIdle =>
    intro s q hitem hwait
    exact congrArg Host.Outcome.next (startTimeout_nothing hitem hwait)
  case startWaits =>
    intro s q x rest hitem hwait hmark
    exact congrArg Host.Outcome.next (startTimeout_waiting hitem hwait hmark)
  case midIdle =>
    intro s q hitem
    exact congrArg Host.Outcome.next (midTimeout_none hitem)
  case midShort =>
    intro s q it hitem hdescs hshort
    exact congrArg Host.Outcome.next (midTimeout_short hitem hdescs hshort)
  case endHalted =>
    intro s q h
    exact congrArg Host.Outcome.next (if_neg (by rcases h with h | h <;> simp [h]))
  case endEvent =>
    intro s q it d rest hmaster hstate hitem hkind hempty hready
    exact congrArg Host.Outcome.next
      ((if_pos (by simp [hmaster, hstate])).trans (finishOpen_event hitem hkind hempty hready))
  case endPayload =>
    intro s q it hmaster hstate hitem hkind hdescs hwait hended hfits
    exact congrArg Host.Outcome.next
      ((if_pos (by simp [hmaster, hstate])).trans (finishOpen_payload hitem hkind hdescs hwait hended hfits))
  case noDrop =>
    intro s q hdrop
    exact congrArg Host.Outcome.next (errorTagWrite_noDrop hdrop)
  case errorDue =>
    intro s q d e rest hitem hdrop hready hactive hmaster
    exact congrArg Host.Outcome.next (errorTagWrite_due hitem hdrop hready hactive hmaster)
  case moderation =>
    intro s q
    exact congrArg Host.Outcome.next moderationTimeout_eq
  case tagLength => exact tagBytes_length
  case tagPlace =>
    intro s q bs irq hien n t
    have ht : t = fireQueDone q.val (tagWritten q.val bs s) := writeTag_quiet bs irq hien
    obtain ⟨hregs, hsent⟩ := fireQueDone_frame q.val (tagWritten q.val bs s)
    rw [ht, hsent, get_congr hregs, get_cwi_tagWritten]
    exact ⟨tagWritten_sent q.val bs s, rfl⟩

end Sys2Proof.Machine
end

section
/-! Boundary scan, the identity of the device in `IDCODE`, and errors as a unit raises them (R675-R679, R721-R724). -/

namespace Sys2Proof.Machine

/-! ### Edges of `TCK` (R675) -/

section
variable {s : State} (tms tdi : Bool) (pins : Nat)

theorem tckRise_captureDr (h : s.jtag.tap = .captureDr) :
    tckRise tms tdi pins s = { s with jtag := { s.jtag with
      shift := tapLoad s pins
      tap := if tms then .exit1Dr else .shiftDr } } := by
  cases tms <;> simp [tckRise, h, tapNext]

theorem tckRise_shiftDr (h : s.jtag.tap = .shiftDr) :
    tckRise tms tdi pins s = { s with jtag := { s.jtag with
      shift := tapShift (tapLength s.jtag.ir) tdi s.jtag.shift
      tap := if tms then .exit1Dr else .shiftDr } } := by
  cases tms <;> simp [tckRise, h, tapNext]

theorem tckRise_shiftIr (h : s.jtag.tap = .shiftIr) :
    tckRise tms tdi pins s = { s with jtag := { s.jtag with
      shift := tapShift 8 tdi s.jtag.shift
      tap := if tms then .exit1Ir else .shiftIr } } := by
  cases tms <;> simp [tckRise, h, tapNext]

theorem tckRise_updateDr (h : s.jtag.tap = .updateDr) :
    tckRise tms tdi pins s = { s with jtag := { s.jtag with
      tap := if tms then .selectDr else .runTestIdle } } := by
  cases tms <;> simp [tckRise, h, tapNext]

end

theorem tckFall_shifting {s : State} (h : s.jtag.tap = .shiftDr ∨ s.jtag.tap = .shiftIr) :
    tckFall s = { s with jtag := { s.jtag with tdo := some (bitAt s.jtag.shift 0) } } := by
  rcases h with h | h <;> simp [tckFall, h]

theorem tckFall_updateIr {s : State} (h : s.jtag.tap = .updateIr) :
    tckFall s = tapInstruction (s.jtag.shift % 256) { s with jtag := { s.jtag with tdo := none } } := by
  simp [tckFall, h]

theorem tckFall_updateDr {s : State} (h : s.jtag.tap = .updateDr) (hir : s.jtag.ir = 0) :
    tckFall s = { s with jtag := { s.jtag with
      tdo := none
      cells := tapMirror s.jtag.shift } } := by
  simp [tckFall, h, hir]

/-! ### What Capture-DR loads (R676-R678) -/

theorem tapLoad_idcode {s : State} (pins : Nat) (h : s.jtag.ir = 1) : tapLoad s pins = tapId s.fuses.variant := by
  simp [tapLoad, h]

/-- Every cell captures its pin on a variant that has all of them. -/
theorem tapLoad_boundary {s : State} (pins : Nat) (h : s.jtag.ir = 0 ∨ s.jtag.ir = 2) (hv : s.fuses.variant ≠ .e) :
    tapLoad s pins = tapMirror pins := by
  rcases h with h | h <;> simp [tapLoad, tapCapture, h, hv]

/-- The code of each variant holds version 1, its Device ID, the manufacturer and the fixed 1 (R677). -/
theorem tapId_eq (s : State) : tapId s.fuses.variant = 1 * 2 ^ 28 + deviceId s * 2 ^ 12 + 0x35D * 2 + 1 := by
  cases hv : s.fuses.variant <;> simp [tapId, deviceId, hv]

/-! ### Instructions (R675, R676, R679) -/

/-- An instruction that leaves the pins with whoever had them only becomes current. -/
theorem tapInstruction_keepsPins {s : State} {c : Nat} (h : tapOwns s = false ∨ c = s.jtag.ir) :
    tapInstruction c s = { s with jtag := { s.jtag with ir := c } } := by
  rcases h with h | rfl
  · simp [tapInstruction, h]
  · exact if_neg (Bool.eq_false_iff.1 (Bool.and_not_self (tapOwns s)))

theorem tapInstruction_givesBack {s : State} {c : Nat} (howns : tapOwns s = true)
    (hfree : tapOwns { s with jtag := { s.jtag with ir := c } } = false) :
    tapInstruction c s = warmReset { s with jtag := { s.jtag with ir := c } } := by
  simp [tapInstruction, howns, hfree]

theorem tapReset_free {s : State} (h : tapOwns s = false) :
    tapReset s = { s with jtag := { s.jtag with ir := 1, tap := .testLogicReset, tdo := none } } := by
  rw [tapReset, tapInstruction_keepsPins (Or.inl h)]

/-- Settles O57: `tckRise_captureDr` for the edge; configuration space by the two dwords that name the device. -/
theorem idcodeNamesTheDevice : Obligations.IdcodeNamesTheDevice := by
  refine ⟨?_, rfl, rfl, rfl, fun s => ⟨tapId_eq s, ?_, ?_⟩⟩
  · intro s tms tdi pins htap hir
    rw [← tapId_eq s, ← tapLoad_idcode pins.toNat hir]
    exact congrArg Host.Outcome.next (tckRise_captureDr tms tdi pins.toNat htap)
  · rw [spaceRead_id]
    omega
  · rw [spaceRead_revision]
    omega

/-! ### Errors as a unit raises them (R721-R724) -/

theorem raiseError_unlisted {s : State} {code : Nat} (ds : List Nat) (full : Bool)
    (h : catalogued s.fuses.variant code = false) : raiseError code ds full s = s := by
  simp [raiseError, h]

theorem raiseError_space {s : State} {code : Nat} (ds : List Nat) (h : catalogued s.fuses.variant code = true) :
    raiseError code ds false s = s.log code ds := by
  simp [raiseError, h]

theorem raiseError_full {s : State} {code : Nat} (ds : List Nat) (h : catalogued s.fuses.variant code = true) :
    raiseError code ds true s = takeError s code ds true := by
  simp [raiseError, h]

/-- Settles O47: each edge of `TCK` by the state it finds, each instruction by what it does to the pins, each raised error
by the catalogue and the space in the FIFO. -/
theorem boundaryScanAndErrors : Obligations.BoundaryScanAndErrors := by
  refine ⟨?fiveHigh, ?keepsPins, ?givesBack, ?reset, ?captureId, ?captureBoundary, ?shiftId, ?shiftIr, ?stepUpdate,
    ?showBit, ?updateIr, ?updateDr, ?unlisted, ?logged, ?dropped, ?readCount⟩
  case fiveHigh =>
    intro t
    cases t <;> rfl
  case keepsPins =>
    intro s c h
    exact congrArg Host.Outcome.next (tapInstruction_keepsPins h)
  case givesBack =>
    intro s c howns hfree
    exact congrArg Host.Outcome.next (tapInstruction_givesBack howns hfree)
  case reset =>
    intro s h
    exact congrArg Host.Outcome.next (tapReset_free h)
  case captureId =>
    intro s tms tdi pins htap hir
    rw [← tapLoad_idcode pins.toNat hir]
    exact congrArg Host.Outcome.next (tckRise_captureDr tms tdi pins.toNat htap)
  case captureBoundary =>
    intro s tms tdi pins htap hir hv
    rw [← tapLoad_boundary pins.toNat hir hv]
    exact congrArg Host.Outcome.next (tckRise_captureDr tms tdi pins.toNat htap)
  case shiftId =>
    intro s tms tdi pins htap hir
    have hrise := tckRise_shiftDr tms tdi pins.toNat htap
    rw [hir] at hrise
    exact congrArg Host.Outcome.next hrise
  case shiftIr =>
    intro s tms tdi pins htap
    exact congrArg Host.Outcome.next (tckRise_shiftIr tms tdi pins.toNat htap)
  case stepUpdate =>
    intro s tms tdi pins htap
    exact congrArg Host.Outcome.next (tckRise_updateDr tms tdi pins.toNat htap)
  case showBit =>
    intro s tms tdi pins htap
    exact congrArg Host.Outcome.next (tckFall_shifting htap)
  case updateIr =>
    intro s tms tdi pins htap
    exact congrArg Host.Outcome.next (tckFall_updateIr htap)
  case updateDr =>
    intro s tms tdi pins htap hir
    exact congrArg Host.Outcome.next (tckFall_updateDr htap hir)
  case unlisted =>
    intro s c d0 d1 d2 d3 full h
    exact congrArg Host.Outcome.next (raiseError_unlisted _ full h)
  case logged =>
    intro s c d0 d1 d2 d3 h
    exact congrArg Host.Outcome.next (raiseError_space _ h)
  case dropped =>
    intro s c d0 d1 d2 d3 h t
    exact congrArg Host.Outcome.next (raiseError_full _ h)
  case readCount =>
    intro s v h
    exact execErrRcntWrite_served s v h

end Sys2Proof.Machine
end

section
/-! Recovery of a stuck Bellwire bus (R634, R647, R649, R653). -/

namespace Sys2Proof.Machine

/-! ### The fields of `BWR_STAT` beside each other -/

theorem bwState_setClk (s : State) (v : Nat) : bwState (s.set BWR_STAT.CLK v) = bwState s :=
  get_set_beside s _ _ v 0 0 0 0 rfl (by decide) (by decide) (by decide)

theorem bwState_setDat (s : State) (v : Nat) : bwState (s.set BWR_STAT.DAT v) = bwState s :=
  get_set_beside s _ _ v 0 0 0 0 rfl (by decide) (by decide) (by decide)

theorem bwState_setBwLines (c d : Nat) (s : State) : bwState (setBwLines c d s) = bwState s := by
  rw [setBwLines, bwState_setDat, bwState_setClk]

theorem bwState_setBwState (n : Nat) (s : State) : bwState (setBwState n s) = n % 8 :=
  get_set_same s _ n 0 0 (by decide) (by decide)

theorem get_clk_setBwLines (c d : Nat) (s : State) : (setBwLines c d s).get BWR_STAT.CLK = c % 2 := by
  rw [setBwLines, get_set_beside _ BWR_STAT.DAT BWR_STAT.CLK d 0 0 0 0 rfl (by decide) (by decide) (by decide),
    get_set_same _ _ c 0 0 (by decide) (by decide)]
  rfl

theorem get_dat_setBwLines (c d : Nat) (s : State) : (setBwLines c d s).get BWR_STAT.DAT = d % 2 :=
  get_set_same _ _ d 0 0 (by decide) (by decide)

/-- What is sent depends on what had been sent and on who owns the pins. -/
theorem sent_emit_congr {s t : State} (e : Emission) (hsent : t.sent = s.sent) (hjtag : t.jtag = s.jtag) :
    (t.emit e).sent = (s.emit e).sent := by
  have howns : tapOwns t = tapOwns s := by rw [tapOwns, tapOwns, hjtag]
  rw [State.emit, State.emit, howns]
  split
  · exact hsent
  · exact congrArg (· ++ [e]) hsent

theorem emit_bwr (s : State) (e : Emission) : (s.emit e).bwr = s.bwr := by
  rw [State.emit]
  split <;> rfl

/-! ### The reset strike -/

theorem bwState_resetStrike (n : Nat) (s : State) : bwState (resetStrike n s) = 5 := by
  rw [resetStrike, bwState, get_emit, ← bwState, bwState_setBwLines, bwState_setBwState]

theorem bwr_resetStrike (n : Nat) (s : State) :
    (resetStrike n s).bwr = { s.bwr with strikes := n, striking := true, retry := false } := emit_bwr _ _

theorem sent_resetStrike (n : Nat) (s : State) : (resetStrike n s).sent = (s.emit (.bellwire 2 [])).sent :=
  sent_emit_congr _ rfl rfl

/-- A reset strike drives the clock low and leaves the data line as it is. -/
theorem lines_resetStrike (n : Nat) (s : State) :
    (resetStrike n s).get BWR_STAT.CLK = 0 ∧ (resetStrike n s).get BWR_STAT.DAT = s.get BWR_STAT.DAT % 2 := by
  rw [resetStrike, get_emit, get_emit, get_clk_setBwLines, get_dat_setBwLines]
  exact ⟨rfl, rfl⟩

/-! ### What starts recovery -/

/-- In OFF, and while the grabber drives its own reset strike, a low clock only shows. -/
theorem clkLowTimeout_ignored {s : State} (h : bwState s = 0 ∨ (bwState s = 5 ∧ s.bwr.striking = true)) :
    clkLowTimeout s = s.set BWR_STAT.CLK 0 := by
  rw [clkLowTimeout, bwState_setClk, set_bwr, if_pos (by simpa using h)]

theorem clkLowTimeout_abandons {s : State} (hon : bwState s ≠ 0) (hstrike : bwState s ≠ 5 ∨ s.bwr.striking = false) :
    clkLowTimeout s =
      let t := s.set BWR_STAT.CLK 0
      ((bwAbandon true { t with bwr := { t.bwr with striking := false } }).count BWR_ERRCNT.CLKTO).log 0x1102 := by
  refine if_neg ?_
  rw [bwState_setClk, set_bwr]
  rcases hstrike with h | h <;> simp [hon, h]

theorem bwAbandon_idle {s : State} (quiet : Bool) (h : s.bwr.cur = none) :
    bwAbandon quiet s = if quiet then s.set BWR_STAT.STATE 1 else (s.set BWR_STAT.STATE 1).logSec 0x1108 0 := by
  have hsame : ({ s with bwr := { s.bwr with cur := none } } : State) = s := by rw [← h]
  simp only [bwAbandon, hsame]
  rw [h]
  rfl

theorem bwAbandon_sending {s : State} {r : BwReq} (h : s.bwr.cur = some r) :
    bwAbandon true s = bwAgain r (({ s with bwr := { s.bwr with cur := none } } : State).set BWR_STAT.STATE 1) := by
  rw [bwAbandon, h]
  rfl

theorem busStuck_inFrame {s : State} (h1 : bwState s ≠ 1) (h2 : bwState s ≠ 2) : busStuck s = setBwLines 1 0 s := by
  rw [busStuck, bwState_setBwLines, if_neg (by simp [h1, h2])]

theorem busStuck_idle {s : State} (h : bwState s = 1 ∨ bwState s = 2) :
    busStuck s = resetStrike 1 (setBwLines 1 0 s) := by
  rw [busStuck, bwState_setBwLines, if_pos (by simpa using h)]

/-! ### The check after a reset strike, and the retry -/

theorem resetStrikeEnd_eq (s : State) :
    resetStrikeEnd s = if bwState s = 5 ∧ s.bwr.striking = true then
      ({ s with bwr := { s.bwr with striking := false } } : State).set BWR_STAT.CLK 1 else s := by
  simp only [resetStrikeEnd, Bool.and_eq_true, beq_iff_eq]

theorem recoveryCheck_notDue {s : State} (high : Bool) (h : bwState s ≠ 5 ∨ s.bwr.striking = true) :
    recoveryCheck high s = s := by
  rcases h with h | h <;> simp [recoveryCheck, h]

section
variable {s : State} (hrec : bwState s = 5) (hquiet : s.bwr.striking = false)
include hrec hquiet

theorem recoveryCheck_high : recoveryCheck true s =
    (((s.set BWR_STAT.DAT 1).set BWR_STAT.STATE 2).count BWR_ERRCNT.RECOVER).log 0x1104 [s.bwr.strikes] := by
  simp [recoveryCheck, hrec, hquiet, setBwState, b2n]

theorem recoveryCheck_again (hfew : s.bwr.strikes < 3) :
    recoveryCheck false s = resetStrike (s.bwr.strikes + 1) (s.set BWR_STAT.DAT 0) := by
  simp [recoveryCheck, hrec, hquiet, hfew, b2n]

theorem recoveryCheck_givesUp (hmany : 3 ≤ s.bwr.strikes) :
    recoveryCheck false s =
      let t := ((s.set BWR_STAT.DAT 0).set BWR_STAT.STATE 2).log 0x1103
      { t with bwr := { t.bwr with retry := true } } := by
  simp [recoveryCheck, hrec, hquiet, Nat.not_lt.mpr hmany, setBwState, b2n]

end

theorem recoveryRetry_notDue {s : State} (h : s.bwr.retry = false ∨ (bwState s ≠ 1 ∧ bwState s ≠ 2)) :
    recoveryRetry s = s := by
  rcases h with h | ⟨h1, h2⟩
  · simp [recoveryRetry, h]
  · simp [recoveryRetry, h1, h2]

theorem recoveryRetry_due {s : State} (hretry : s.bwr.retry = true) (h : bwState s = 1 ∨ bwState s = 2) :
    recoveryRetry s = resetStrike 1 s := by
  rw [recoveryRetry, if_pos (by simpa [hretry] using h)]

/-- Settles O46: each command by the state that it finds; every reset strike is `resetStrike`, whose effects have one lemma
each. -/
theorem bellwireRecovery : Obligations.BellwireRecovery := by
  refine ⟨?lowIgnored, ?lowAbandons, ?abandonIdle, ?abandonSending, ?stuckInFrame, ?stuckIdle, ?strikeEnd, ?checkNotDue,
    ?checkHigh, ?checkAgain, ?checkGivesUp, ?retryNotDue, ?retryDue⟩
  case lowIgnored =>
    intro s h
    exact congrArg Host.Outcome.next (clkLowTimeout_ignored h)
  case lowAbandons =>
    intro s hon hstrike
    exact congrArg Host.Outcome.next (clkLowTimeout_abandons hon hstrike)
  case abandonIdle =>
    intro s h
    exact ⟨(bwAbandon_idle true h).trans (if_pos rfl), (bwAbandon_idle false h).trans (if_neg Bool.false_ne_true)⟩
  case abandonSending =>
    intro s r h
    exact bwAbandon_sending h
  case stuckInFrame =>
    intro s h1 h2
    exact congrArg Host.Outcome.next (busStuck_inFrame h1 h2)
  case stuckIdle =>
    intro s h
    obtain ⟨hclk, hdat⟩ := lines_resetStrike 1 (setBwLines 1 0 s)
    rw [get_dat_setBwLines] at hdat
    exact ⟨_, congrArg Host.Outcome.next (busStuck_idle h), bwState_resetStrike _ _, bwr_resetStrike _ _,
      (sent_resetStrike _ _).trans (sent_emit_congr _ rfl rfl), hclk, hdat⟩
  case strikeEnd =>
    intro s
    exact congrArg Host.Outcome.next (resetStrikeEnd_eq s)
  case checkNotDue =>
    intro s high h
    exact congrArg Host.Outcome.next (recoveryCheck_notDue high h)
  case checkHigh =>
    intro s hrec hquiet
    exact congrArg Host.Outcome.next (recoveryCheck_high hrec hquiet)
  case checkAgain =>
    intro s hrec hquiet hfew
    exact ⟨_, congrArg Host.Outcome.next (recoveryCheck_again hrec hquiet hfew), bwState_resetStrike _ _,
      congrArg BwrSt.strikes (bwr_resetStrike _ _), congrArg BwrSt.striking (bwr_resetStrike _ _),
      (sent_resetStrike _ _).trans (sent_emit_congr _ rfl rfl)⟩
  case checkGivesUp =>
    intro s hrec hquiet hmany
    exact congrArg Host.Outcome.next (recoveryCheck_givesUp hrec hquiet hmany)
  case retryNotDue =>
    intro s h
    exact congrArg Host.Outcome.next (recoveryRetry_notDue h)
  case retryDue =>
    intro s hretry h
    have hbwr := bwr_resetStrike 1 s
    exact ⟨_, congrArg Host.Outcome.next (recoveryRetry_due hretry h), bwState_resetStrike _ _,
      congrArg BwrSt.strikes hbwr, congrArg BwrSt.striking hbwr, congrArg BwrSt.retry hbwr⟩

end Sys2Proof.Machine
end

section
/-! Ring ports: up and down, forwarding, and the reports by which the root opens and closes the ring (R601-R605, R609-R611,
R619-R621). -/

namespace Sys2Proof.Machine

theorem get_fire (s : State) (p : Nat) (f : Fld) (i j : Nat) : (s.fire p).get f i j = s.get f i j := rfl

theorem natBytes_length (f : List Byte) : (natBytes f).length = f.length := List.length_map _

/-! ### Ports (R601, R602, R621) -/

theorem portUp_ignored {s : State} {p : Nat}
    (h : ringPort s p = false ∨ bitAt (s.get CLK_RST.RING) p = true ∨ ringUp s p = true) : portUp p s = s := by
  rcases h with h | h | h <;> simp [portUp, h]

/-- The words of `DRL_PSTAT` lie apart from that of `TIM_LEVEL`. -/
theorem flag_timExpert_setPstat (s : State) (f : Fld) (v p : Nat) (h : 0xE00104 ≤ f.adr p) :
    (s.set f v p).flag TIM_LEVEL.EXPERT = s.flag TIM_LEVEL.EXPERT := by
  have hword : TIM_LEVEL.EXPERT.adr = 0x100004 := rfl
  rw [State.flag, State.flag, get_set_other _ _ _ _ _ _ _ _ (by omega)]

/-- The link of port `p` and its rate 10GBASE-R are shown, as a port with the fixed rate 1 comes up. -/
def slowLink (p : Nat) (s : State) : State :=
  ((s.set DRL_PSTAT.LINK 1 p).set DRL_PSTAT.RATE 1 p).setPtpPort p { s.ptpPort p with slow := true }

theorem flag_expert_slowLink (p : Nat) (s : State) :
    (slowLink p s).flag TIM_LEVEL.EXPERT = s.flag TIM_LEVEL.EXPERT := by
  have hlink : 0xE00104 ≤ DRL_PSTAT.LINK.adr p := Nat.le_add_right _ _
  have hrate : 0xE00104 ≤ DRL_PSTAT.RATE.adr p := Nat.le_add_right _ _
  calc (slowLink p s).flag TIM_LEVEL.EXPERT
      = ((s.set DRL_PSTAT.LINK 1 p).set DRL_PSTAT.RATE 1 p).flag TIM_LEVEL.EXPERT := rfl
    _ = s.flag TIM_LEVEL.EXPERT := by
      rw [flag_timExpert_setPstat _ _ _ _ hrate, flag_timExpert_setPstat _ _ _ _ hlink]

theorem portUp_fixedRate {s : State} {p : Nat} (hthere : ringPort s p = true)
    (hrst : bitAt (s.get CLK_RST.RING) p = false) (hdown : ringUp s p = false)
    (hexpert : s.flag TIM_LEVEL.EXPERT = true) (hrate : s.get DRL_PCFG.RATE p = 1) :
    portUp p s =
      let u := ((slowLink p s).fire (0x2E0 + p)).log 0x1002 [p, 1]
      u.set DRL_PSTAT.STATE (if u.flag DRL_CFG.EN = false then 1 else if u.drl.heard = true then 2 else 3) p := by
  have hlevel : (slowLink p s).flag TIM_LEVEL.EXPERT = true := (flag_expert_slowLink p s).trans hexpert
  have hgo : ¬ (!ringPort s p || bitAt (s.get CLK_RST.RING) p || ringUp s p) = true := by simp [hthere, hrst, hdown]
  have hrun : portUp p s =
      let v := if (slowLink p s).flag TIM_LEVEL.EXPERT then slowLink p s else deriveLat p (slowLink p s)
      let u := (v.fire (0x2E0 + p)).log 0x1002 [p, 1]
      u.set DRL_PSTAT.STATE (if !u.flag DRL_CFG.EN then 1 else if u.drl.heard then 2 else 3) p := by
    rw [portUp, if_neg hgo, hrate]
    rfl
  rw [hrun, if_pos hlevel]
  simp only [Bool.not_eq_true']

theorem portDown_down {s : State} {p : Nat} (h : ringUp s p = false) : portDown p s = s := by
  simp [portDown, h]

/-- Port `p` shown down, with its record and its beat, before the root hears of it. -/
def lostLink (p : Nat) (s : State) : State :=
  (((((s.set DRL_PSTAT.LINK 0 p).set DRL_PSTAT.PVALID 0 p).count DRL_PCNT.DOWNS p).fire (0x2E0 + p)).log 0x1001
    [p, (partnerOf s p).1]).set DRL_PSTAT.STATE 0 p

/-- Neither the words of the ports nor the error log hold the node's state. -/
theorem nodeState_lostLink (p : Fin 2) (s : State) : nodeState (lostLink p.val s) = nodeState s := by
  have hport : p.val = 0 ∨ p.val = 1 := by omega
  have hstat : DRL_NODE.STATE.adr ≠ DRL_PSTAT.reg.adr p.val := by rcases hport with h | h <;> rw [h] <;> decide
  have hcnt : DRL_NODE.STATE.adr ≠ DRL_PCNT.DOWNS.adr p.val := by rcases hport with h | h <;> rw [h] <;> decide
  unfold nodeState lostLink
  rw [get_set_other _ DRL_PSTAT.STATE _ _ _ _ _ _ hstat, get_log_other _ _ _ _ _ _ (by decide), get_fire, State.count,
    get_set_other _ _ _ _ _ _ _ _ hcnt, get_set_other _ DRL_PSTAT.PVALID _ _ _ _ _ _ hstat,
    get_set_other _ DRL_PSTAT.LINK _ _ _ _ _ _ hstat]

theorem openRing_notRoot {s : State} (h : isRoot s = false) : openRing s = s := by simp [openRing, h]

/-- A node that is neither member nor root reports no lost link. -/
theorem portDown_outsider {s : State} {p : Fin 2} (hup : ringUp s p.val = true) (hout : nodeState s < 2) :
    portDown p.val s = lostLink p.val s := by
  have hstate := nodeState_lostLink p s
  have hmay : mayOriginate (lostLink p.val s) = false := by simp [mayOriginate, hstate, hout]
  have hroot : isRoot (lostLink p.val s) = false := by simp [isRoot, hstate, Nat.not_le.mpr hout]
  have hrun : portDown p.val s =
      let t := lostLink p.val s
      let u := if mayOriginate t then sendForward (ringMsg t 8 true 0 0
        ([p.val, 0] ++ beBytes 2 (partnerOf s p.val).1 ++ beBytes 8 (partnerOf s p.val).2)) t else t
      if p.val == 0 then openRing u else u := if_neg (by simp [hup])
  simp [hrun, hmay, openRing_notRoot hroot]

theorem rateAlternate_eq (p : Nat) (s : State) :
    rateAlternate p s = if ringPort s p = true ∧ 2 ≤ s.get DRL_PCFG.RATE p ∧ ringUp s p = false ∧
      bitAt (s.get CLK_RST.RING) p = false then s.set DRL_PSTAT.RATE (1 - s.get DRL_PSTAT.RATE p) p else s := by
  simp only [rateAlternate, Bool.and_eq_true, decide_eq_true_eq, Bool.not_eq_true', and_assoc]

/-! ### Forwarding (R603-R605, R609-R611) -/

theorem forwardFrame_down {s : State} {p : Nat} (res : Nat) (f : List Nat) (h : ringUp s p = false) :
    forwardFrame p res f s = s := by
  simp [forwardFrame, h]

section
variable {s : State} {p : Nat} {f : List Nat} (res : Nat) (hthere : ringPort s p = true) (hup : ringUp s p = true)
include hthere hup

theorem forwardFrame_oversize (hlong : 128 < f.length) :
    forwardFrame p res f s = (s.count DRL_PDROP.OVERSIZE p).logSec 0x1009 p [p] := by
  simp [forwardFrame, hthere, hup, hlong]

theorem forwardFrame_macControl (hfits : f.length ≤ 128) (htype : etherType f = 0x8808) :
    forwardFrame p res f s = s.count DRL_PDROP.OTHER p := by
  simp [forwardFrame, hthere, hup, Nat.not_lt.mpr hfits, htype]

/-- A good Drumline message that forwarding carries, between FORWARD ports: it leaves unless its hops are used up. -/
theorem forwardFrame_message (hfits : f.length ≤ 128) (hfcs : fcsGood f = true) (hmsg : isRingMsg f = true)
    (hlow : 4 ≤ msgType f) (hhigh : msgType f ≤ 15) (hother : ringPort s (1 - p) = true)
    (hin : ringState s p = 3) (hout : ringState s (1 - p) = 3)
    (hdst : msgBcast f = true ∨ nodeId s ≠ some (msgDst f)) (hsrc : msgNoid f = true ∨ nodeId s ≠ some (msgSrc f)) :
    forwardFrame p res f s =
      if msgHops f = 4095 then s.count DRL_PDROP.OTHER p else passOn p (1 - p) res (hopEdit f) s := by
  have htype : etherType f = 0x88B5 := by
    have hboth := hmsg
    simp only [isRingMsg, Bool.and_eq_true, beq_iff_eq] at hboth
    exact hboth.1
  have hkind : msgType f ≠ 0 ∧ msgType f ≠ 2 ∧ msgType f ≠ 3 := by omega
  obtain ⟨h0, h2, h3⟩ := hkind
  have hmine : (!msgBcast f && nodeId s == some (msgDst f)) = false := by rcases hdst with h | h <;> simp [h]
  have hown : (!msgNoid f && nodeId s == some (msgSrc f)) = false := by rcases hsrc with h | h <;> simp [h]
  simp [forwardFrame, hthere, hup, Nat.not_lt.mpr hfits, htype, hfcs, hmsg, hhigh, h0, h2, h3, hother, hin, hout, hmine,
    hown]

/-- Between REPEAT ports a good frame passes when they run at one rate. -/
theorem forwardFrame_repeat (hfits : f.length ≤ 128) (hfcs : fcsGood f = true) (htype : etherType f ≠ 0x8808)
    (hin : ringState s p = 1) (hother : ringPort s (1 - p) = true) (hoth : ringUp s (1 - p) = true)
    (hout : ringState s (1 - p) = 1) :
    forwardFrame p res f s = if s.get DRL_PSTAT.RATE p = s.get DRL_PSTAT.RATE (1 - p) then passOn p (1 - p) res f s
      else s.count DRL_PDROP.OTHER p := by
  simp [forwardFrame, hthere, hup, Nat.not_lt.mpr hfits, htype, hfcs, hin, hother, hoth, hout]

end

/-! ### Breaks and new links (R619-R621) -/

theorem linkLossIn_forMe {s : State} {p : Nat} {f : List Nat} (h : msgForMe s p 8 f = true) :
    linkLossIn p f s =
      let id := beNat (sliceOf (msgPayload f) 2 2)
      openRing (if id = 0xFFFF then s else farNode (id % 4096) 3 (setMember (id % 4096) false s)) := by
  simp [linkLossIn, h]

theorem openRing_closed {s : State} (hroot : isRoot s = true) (hclosed : s.flag DRL_NET.RINGCLOSED = true)
    (hblocked : ringState s 1 = 2) :
    openRing s = ((s.set DRL_PSTAT.STATE 3 1).set DRL_NET.RINGCLOSED 0).log 0x100A := by
  simp [openRing, hroot, hclosed, hblocked, setRing]

theorem linkUpIn_root {s : State} {p : Nat} {f : List Nat} (h : msgForMe s p 9 f = true) (hroot : isRoot s = true) :
    linkUpIn p f s = { s with drl := { s.drl with
      linkups := s.drl.linkups ++ [(msgSrc f, byteAt (msgPayload f) 0 % 2, p)]
      wait := if s.drl.wait = 0 then 1 else s.drl.wait } } := by
  simp [linkUpIn, h, hroot, noteLink]

theorem openIn_forMe {s : State} {p : Nat} {f : List Nat} (h : msgForMe s p 10 f = true) :
    openIn p f s =
      let q := byteAt (msgPayload f) 0
      if q < 2 ∧ ringState s q = 2 then s.set DRL_PSTAT.STATE 3 q else s := by
  simp [openIn, h, setRing]

theorem linkUpOut_ignored {s : State} {p : Nat} (h : ringState s p ≠ 2 ∨ nodeState s < 2) : linkUpOut p s = s := by
  rcases h with h | h
  · simp [linkUpOut, h]
  · simp [linkUpOut, mayOriginate, Nat.not_le.mpr h]

theorem linkUpOut_member {s : State} {p : Nat} (hthere : ringPort s p = true) (hblocked : ringState s p = 2)
    (hmember : nodeState s = 5) : linkUpOut p s = sendForward (ringMsg s 9 true 0 0 (linkBody s p)) s := by
  simp [linkUpOut, hthere, hblocked, mayOriginate, isRoot, hmember]

theorem openOut_ignored {s : State} (h : isRoot s = false ∨ s.drl.wait < 2) : openOut s = s := by
  rcases h with h | h <;> simp [openOut, h]

theorem ringMsg_withDrl (s : State) (d : DrlSt) (ty : Nat) (bcast : Bool) (dst tag : Nat) (pl : List Nat) :
    ringMsg { s with drl := d } ty bcast dst tag pl = ringMsg s ty bcast dst tag pl := rfl

/-- One link of another node, reported by a port that forwards. -/
theorem openOut_one {s : State} {e : Nat × Nat × Nat} (hroot : isRoot s = true) (hwait : s.drl.wait = 2)
    (hlinks : s.drl.linkups = [e]) (hother : nodeId s ≠ some e.1) (hport : ringState s e.2.2 = 3) :
    openOut s = sendOn e.2.2 (ringMsg s 0x0A false e.1 0 [e.2.1, 0, 0, 0])
      { s with drl := { s.drl with linkups := [], wait := 0 } } := by
  have hid : nodeId { s with drl := { s.drl with linkups := [], wait := 0 } } ≠ some e.1 := hother
  have hstate : ringState { s with drl := { s.drl with linkups := [], wait := 0 } } e.2.2 = 3 := hport
  simp [openOut, hroot, hwait, hlinks, hid, hstate, ringMsg_withDrl]

/-- Settles O42: each command by the port, the node and the message that it finds. -/
theorem ringPorts : Obligations.RingPorts := by
  refine ⟨?upIgnored, ?upFixed, ?downDown, ?downOutsider, ?alternate, ?unseen, ?forwarded, ?notMine, ?linkLoss,
    ?ringOpens, ?linkUp, ?opened, ?reportIgnored, ?reported, ?sendIgnored, ?sent⟩
  case upIgnored =>
    intro s p h
    exact congrArg Host.Outcome.next (portUp_ignored h)
  case upFixed =>
    intro s p hthere hrst hdown hexpert hrate
    exact congrArg Host.Outcome.next (portUp_fixedRate hthere hrst hdown hexpert hrate)
  case downDown =>
    intro s p h
    exact congrArg Host.Outcome.next (portDown_down h)
  case downOutsider =>
    intro s p hup hout
    exact congrArg Host.Outcome.next (portDown_outsider hup hout)
  case alternate =>
    intro s p
    exact congrArg Host.Outcome.next (rateAlternate_eq p.val s)
  case unseen =>
    intro s p f res h
    exact congrArg Host.Outcome.next (forwardFrame_down res (natBytes f) h)
  case forwarded =>
    intro s p f res hthere hup
    rw [← natBytes_length f]
    refine ⟨fun hlong => ?_, fun hfits htype => ?_, fun hfits hfcs hmsg hlow hhigh hother hin hout hdst hsrc => ?_,
      fun hfits hfcs htype hin hother hoth hout => ?_⟩
    · exact congrArg Host.Outcome.next (forwardFrame_oversize res hthere hup hlong)
    · exact congrArg Host.Outcome.next (forwardFrame_macControl res hthere hup hfits htype)
    · exact congrArg Host.Outcome.next
        (forwardFrame_message res hthere hup hfits hfcs hmsg hlow hhigh hother hin hout hdst hsrc)
    · exact congrArg Host.Outcome.next (forwardFrame_repeat res hthere hup hfits hfcs htype hin hother hoth hout)
  case notMine =>
    intro s p f
    refine ⟨fun h => ?_, fun h => ?_, fun h => ?_⟩
    · exact congrArg Host.Outcome.next (if_pos (by simp [h]))
    · exact congrArg Host.Outcome.next (if_neg (by rcases h with h | h <;> simp [h]))
    · exact congrArg Host.Outcome.next (if_neg (by simp [h]))
  case linkLoss =>
    intro s p f h
    exact congrArg Host.Outcome.next (linkLossIn_forMe h)
  case ringOpens =>
    intro s hroot hclosed hblocked
    exact openRing_closed hroot hclosed hblocked
  case linkUp =>
    intro s p f h hroot
    exact congrArg Host.Outcome.next (linkUpIn_root h hroot)
  case opened =>
    intro s p f h
    exact congrArg Host.Outcome.next (openIn_forMe h)
  case reportIgnored =>
    intro s p h
    exact congrArg Host.Outcome.next (linkUpOut_ignored h)
  case reported =>
    intro s p hthere hblocked hmember
    exact congrArg Host.Outcome.next (linkUpOut_member hthere hblocked hmember)
  case sendIgnored =>
    intro s h
    exact congrArg Host.Outcome.next (openOut_ignored h)
  case sent =>
    intro s e hroot hwait hlinks hother hport
    exact congrArg Host.Outcome.next (openOut_one hroot hwait hlinks hother hport)

end Sys2Proof.Machine
end

section
/-! Ring events on their way to their beats, remote accesses served, and their answers (R558, R609, R610, R623-R627). -/

namespace Sys2Proof.Machine

/-! ### An EVENT message (R623-R625) -/

theorem eventIn_forMe {s : State} {p : Nat} {f : List Nat} (h : msgForMe s p 11 f = true) :
    eventIn p f s = scheduleEvent (frameEvent f) (showEvent (frameEvent f) (s.count DRL_EVRX.COUNT)) := by
  simp [eventIn, h, frameEvent]

theorem scheduleEvent_full {e : RingEvent} {s : State} (h : 256 ≤ s.drl.sched.length) :
    scheduleEvent e s = (s.count DRL_EVDROP.FULL).logRun 0x1008 0 [e.num] := if_pos h

theorem subNs_eq : subNs = 4294967296 := rfl

/-- With a place in the list and at least 4 ns to go, an event is held. -/
theorem scheduleEvent_held {e : RingEvent} {s : State} (hroom : s.drl.sched.length < 256)
    (hearly : s.now + 4 * subNs ≤ e.pres * subNs) :
    scheduleEvent e s = { s.endRun 0x1008 0 with drl := { (s.endRun 0x1008 0).drl with
      sched := s.drl.sched ++ [e] } } := by
  rw [scheduleEvent, if_neg (Nat.not_le.mpr hroom)]
  exact if_pos hearly

/-! ### The tick of an event (R624) -/

/-- Whether the tick that holds the presentation time of `e` has come. -/
def dueNow (s : State) (e : RingEvent) : Bool := decide (e.pres * subNs < s.now + 2 * subNs)

/-- The events that are not due stay in the list. -/
def keepLater (s : State) : State :=
  { s with drl := { s.drl with sched := s.drl.sched.filter (fun e => !dueNow s e) } }

theorem eventPresent_eq (s : State) :
    eventPresent s = presentNums ((s.drl.sched.filter (dueNow s)).map (·.num)) 0 (keepLater s) := rfl

theorem presentNums_nil (flags : Nat) (s : State) : presentNums [] flags s = s := by
  have hnone : entryNames s [] = fun _ => false := funext fun j => by simp [entryNames]
  rw [presentNums_eq, hnone]
  simp

/-- A test that one number below `n` passes filters out the others. -/
theorem filter_range_unique {p : Nat → Bool} {n j : Nat} (hj : j < n) (h : ∀ i, i < n → (p i = true ↔ i = j)) :
    (List.range n).filter p = [j] := by
  have hp : ∀ i ∈ List.range n, p i = (i == j) := fun i hi =>
    Bool.eq_iff_iff.2 ((h i (List.mem_range.1 hi)).trans beq_iff_eq.symm)
  rw [List.filter_congr hp, List.filter_beq, List.count_eq_one_of_mem List.nodup_range (List.mem_range.2 hj)]
  rfl

theorem presentNums_one {nums : List Nat} {s : State} {j : Nat} (flags : Nat) (hj : j < 64)
    (h : ∀ i, i < 64 → (entryNames s nums i = true ↔ i = j)) :
    presentNums nums flags s = s.fireAt (0x2A0 + j) s.now flags := by
  rw [presentNums_eq, filter_range_unique hj h]
  rfl

theorem eventPresent_noneDue {s : State} (h : ∀ e ∈ s.drl.sched, s.now + 2 * subNs ≤ e.pres * subNs) :
    eventPresent s = s := by
  have hdue : ∀ e ∈ s.drl.sched, dueNow s e = false := fun e he => decide_eq_false (Nat.not_lt.mpr (h e he))
  have hkeep : keepLater s = s := by
    rw [keepLater, List.filter_eq_self.2 fun e he => by simp [hdue e he]]
  rw [eventPresent_eq, List.filter_eq_nil_iff.2 fun e he => by simp [hdue e he], hkeep]
  exact presentNums_nil 0 s

/-- The one event held is due, and one map entry names it. -/
theorem eventPresent_one {s : State} {e : RingEvent} {j : Nat} (hsched : s.drl.sched = [e])
    (hdue : e.pres * subNs < s.now + 2 * subNs) (hj : j < 64)
    (hmap : ∀ i, i < 64 → (s.flag DRL_EMAP.EN i = true ∧ s.get DRL_EMAP.NUM i = e.num ↔ i = j)) :
    eventPresent s =
      ({ s with drl := { s.drl with sched := [] } } : State).fireAt (0x2A0 + j) s.now 0 := by
  have hnow : dueNow s e = true := decide_eq_true hdue
  have hkeep : keepLater s = { s with drl := { s.drl with sched := [] } } := by simp [keepLater, hsched, hnow]
  have hnames : ∀ i, i < 64 → (entryNames s [e.num] i = true ↔ i = j) := fun i hi => by
    rw [← hmap i hi]
    simp [entryNames]
  rw [eventPresent_eq, hkeep, hsched, List.filter_cons_of_pos hnow]
  exact presentNums_one 0 hj hnames

/-! ### Requests of other nodes (R626) -/

theorem remoteRead_forMe {s : State} {p : Nat} {f : List Nat} (held : Nat) (h : msgForMe s p 12 f = true) :
    remoteRead p f held s = remoteServe f 13 held DRL_CFG.REMRD
      (localReads (min 2 (byteAt (msgPayload f) 4)) (beNat (sliceOf (msgPayload f) 0 4) / 4 * 4)) s := by
  simp [remoteRead, h]

theorem remoteWrite_forMe {s : State} {p : Nat} {f : List Nat} (held : Nat) (h : msgForMe s p 14 f = true) :
    remoteWrite p f held s = remoteServe f 15 held DRL_CFG.REMWR
      (fun t => ([], localWrites (beNat (sliceOf (msgPayload f) 0 4) / 4 * 4)
        ((List.range (min 2 (byteAt (msgPayload f) 4))).map (fun k => beNat (sliceOf (msgPayload f) (8 + 4 * k) 4))) t))
      s := by
  simp [remoteWrite, h]

section
variable {s : State} (f : List Nat) (ty : Nat) {held : Nat} {on : Fld} (act : State → List Nat × State)

theorem remoteServe_busy (hfull : 128 ≤ held) :
    remoteServe f ty held on act s = remoteAnswer f ty 2 [] (s.count DRL_REMCNT.BUSY) := if_pos hfull

theorem remoteServe_refused (hroom : held < 128) (hoff : s.flag on = false) :
    remoteServe f ty held on act s = remoteAnswer f ty 1 [] ((s.count DRL_REMCNT.REFUSED).logSec 0x100C 0
      [msgSrc f, beNat (sliceOf (msgPayload f) 0 4)]) := by
  simp [remoteServe, Nat.not_le.mpr hroom, hoff]

theorem remoteServe_performed (hroom : held < 128) (hon : s.flag on = true) :
    remoteServe f ty held on act s = remoteAnswer f ty 0 (act s).1 ((act s).2.count DRL_REMSERVED.COUNT) := by
  simp [remoteServe, Nat.not_le.mpr hroom, hon]

end

/-- A read of one aligned dword. -/
theorem remoteRead_dword {s : State} {p : Nat} {f : List Nat} {held : Nat} (hme : msgForMe s p 12 f = true)
    (hroom : held < 128) (hon : s.flag DRL_CFG.REMRD = true) (hone : byteAt (msgPayload f) 4 = 1)
    (halign : beNat (sliceOf (msgPayload f) 0 4) % 4 = 0) :
    remoteRead p f held s = remoteAnswer f 13 0 [(localRead (beNat (sliceOf (msgPayload f) 0 4)) s).1]
      ((localRead (beNat (sliceOf (msgPayload f) 0 4)) s).2.count DRL_REMSERVED.COUNT) := by
  rw [remoteRead_forMe held hme, remoteServe_performed f 13 _ hroom hon, hone,
    Nat.div_mul_cancel (Nat.dvd_of_mod_eq_zero halign)]
  rfl

/-- A write of one aligned dword. -/
theorem remoteWrite_dword {s : State} {p : Nat} {f : List Nat} {held : Nat} (hme : msgForMe s p 14 f = true)
    (hroom : held < 128) (hon : s.flag DRL_CFG.REMWR = true) (hone : byteAt (msgPayload f) 4 = 1)
    (halign : beNat (sliceOf (msgPayload f) 0 4) % 4 = 0) :
    remoteWrite p f held s = remoteAnswer f 15 0 []
      ((localWrite (beNat (sliceOf (msgPayload f) 0 4)) (beNat (sliceOf (msgPayload f) 8 4)) s).count
        DRL_REMSERVED.COUNT) := by
  rw [remoteWrite_forMe held hme, remoteServe_performed f 15 _ hroom hon, hone,
    Nat.div_mul_cancel (Nat.dvd_of_mod_eq_zero halign)]
  rfl

/-! ### Responses of other nodes (R627) -/

theorem farAnswer_stale {s : State} (write : Bool) (n tag status : Nat) (ws : List Nat) (h : s.hbr.far = []) :
    farAnswer write n tag status ws s = s.count DRL_STALE.COUNT := by
  simp [farAnswer, h]

section
variable {s : State} {r : FarReq} {write : Bool} {n tag : Nat} (ws : List Nat) (hfar : s.hbr.far = [r])
  (hflying : r.flying = true) (hkind : r.isWrite = write) (hnode : r.node = n) (htag : r.id % 65536 = tag)
include hfar hflying hkind hnode htag

theorem farAnswer_refused : farAnswer write n tag 1 ws s = farFail r.id 4 s := by
  simp [farAnswer, hfar, hflying, hkind, hnode, farTag, htag]

theorem farAnswer_busy : farAnswer write n tag 2 ws s = setFar [{ r with retry := true }] s := by
  simp [farAnswer, hfar, hflying, hkind, hnode, farTag, htag]

end

/-- The words that a response in frame `f` carries. -/
def answerWords (f : List Nat) : List Nat :=
  (List.range (min 2 (byteAt (msgPayload f) 4))).map (fun k => beNat (sliceOf (msgPayload f) (8 + 4 * k) 4))

theorem answerIn_forMe {s : State} {p ty : Nat} {f : List Nat} (h : msgForMe s p ty f = true) :
    answerIn p ty f s =
      farAnswer (ty == 15) (msgSrc f) (msgTag f) (byteAt (msgPayload f) 5) (answerWords f) s := by
  simp [answerIn, h, answerWords]

theorem farRetry_none {s : State} {id : Nat} (h : s.hbr.far.find? (fun r => r.id == id && r.retry) = none) :
    farRetry id s = s := by
  rw [farRetry, h]

theorem farRetry_waiting {s : State} {r : FarReq} (hfar : s.hbr.far = [r]) (hretry : r.retry = true) :
    farRetry r.id s = farSend r (setFar [{ r with retry := false }] s) := by
  simp [farRetry, hfar, hretry]

/-- Settles O44: an EVENT is `scheduleEvent` behind its record, its tick `presentNums`; a request is `remoteServe`, judged
in its order; a response is `farAnswer`. -/
theorem ringEventsAndRemoteAccesses : Obligations.RingEventsAndRemoteAccesses := by
  refine ⟨?notMine, ?event, ?late, ?noneDue, ?oneDue, ?lastRead, ?busy, ?served, ?stale, ?answered, ?noRetry, ?retried⟩
  case notMine =>
    intro s p f held
    refine ⟨fun h => ?_, fun h => ?_, fun h => ?_, fun h => ?_, fun h => ?_⟩ <;>
      exact congrArg Host.Outcome.next (if_pos (by simp [h]))
  case event =>
    intro s p f hme pl e t
    have hframe : LogFrame s t := received_logFrame e s
    have hin : exec (.drlEventReceived p f) s = .next (scheduleEvent e t) :=
      congrArg Host.Outcome.next (eventIn_forMe hme)
    have hsched : t.drl.sched = s.drl.sched := congrArg DrlSt.sched hframe.drl
    refine ⟨fun hfull => ?_, fun hroom hearly => ?_, fun hroom hlate => ?_⟩
    · rw [hin, scheduleEvent_full (by rwa [hsched])]
    · rw [hin, scheduleEvent_held (by rwa [hsched]) (by rwa [hframe.now, subNs_eq]), hsched]
    · exact execDrlEventReceived_late hme hroom (by rwa [subNs_eq])
  case late =>
    intro s e
    exact lateEvent_eq e s
  case noneDue =>
    intro s h
    exact congrArg Host.Outcome.next (eventPresent_noneDue h)
  case oneDue =>
    intro s e j hsched hdue hj hmap
    exact congrArg Host.Outcome.next (eventPresent_one hsched hdue hj hmap)
  case lastRead =>
    intro s h
    exact congrArg Host.Outcome.next (hostRead_served s _ _ h)
  case busy =>
    intro s p f held hfull
    exact ⟨fun hme => congrArg Host.Outcome.next ((remoteRead_forMe held hme).trans (remoteServe_busy _ _ _ hfull)),
      fun hme => congrArg Host.Outcome.next ((remoteWrite_forMe held hme).trans (remoteServe_busy _ _ _ hfull))⟩
  case served =>
    intro s p f held hroom a
    refine ⟨fun hme hoff => ?_, fun hme hoff => ?_, fun hme hon hone halign => ?_, fun hme hon hone halign => ?_⟩
    · exact congrArg Host.Outcome.next ((remoteRead_forMe held hme).trans (remoteServe_refused _ _ _ hroom hoff))
    · exact congrArg Host.Outcome.next ((remoteWrite_forMe held hme).trans (remoteServe_refused _ _ _ hroom hoff))
    · exact congrArg Host.Outcome.next (remoteRead_dword hme hroom hon hone halign)
    · exact congrArg Host.Outcome.next (remoteWrite_dword hme hroom hon hone halign)
  case stale =>
    intro s p f hfar
    exact ⟨fun hme => congrArg Host.Outcome.next ((answerIn_forMe hme).trans (farAnswer_stale _ _ _ _ _ hfar)),
      fun hme => congrArg Host.Outcome.next ((answerIn_forMe hme).trans (farAnswer_stale _ _ _ _ _ hfar))⟩
  case answered =>
    intro s p f r hme hfar hflying hkind hnode htag
    refine ⟨fun hrefused => ?_, fun hbusy => ?_⟩
    · refine congrArg Host.Outcome.next ((answerIn_forMe hme).trans ?_)
      rw [hrefused]
      exact farAnswer_refused _ hfar hflying hkind hnode htag
    · refine congrArg Host.Outcome.next ((answerIn_forMe hme).trans ?_)
      rw [hbusy]
      exact farAnswer_busy _ hfar hflying hkind hnode htag
  case noRetry =>
    intro s id h
    exact congrArg Host.Outcome.next (farRetry_none h)
  case retried =>
    intro s r hfar hretry
    exact congrArg Host.Outcome.next (farRetry_waiting hfar hretry)

end Sys2Proof.Machine
end

section
/-! Queues that the bridge halted: Bus Master Enable resumes none of them, RESUME in MASTER does (R512, R514, R535). -/

namespace Sys2Proof.Machine

/-! ### Bus Master Enable (R529, R535) -/

/-- The bridge takes its state in one field of `HBR_STAT`. -/
theorem rdA_settleBridge_other (s : State) {a : Nat} (h : a ≠ HBR_STAT.reg.adr) : (settleBridge s).rdA a = s.rdA a := by
  unfold settleBridge
  dsimp only
  split
  · exact rdA_set_other _ _ _ _ _ _ h
  · rfl

theorem settleBridge_que (s : State) : (settleBridge s).que = s.que := by
  unfold settleBridge
  dsimp only
  split <;> rfl

/-- Setting Bus Master Enable changes no word but `HBR_STAT`. -/
theorem rdA_bmeSet_other (s : State) {a : Nat} (h : a ≠ HBR_STAT.reg.adr) : (bmeSet s).rdA a = s.rdA a := by
  rw [bmeSet, rdA_settleBridge_other _ h, rdA_set_other _ HBR_STAT.BME _ _ _ _ h]

theorem bmeSet_que (s : State) : (bmeSet s).que = s.que := settleBridge_que _

/-- The state word of a queue is no word of the bridge. -/
theorem ctx9_ne_hbrStat (q : Nat) : QUE_CTX9.reg.adr q ≠ HBR_STAT.reg.adr := by
  simp only [Fld.adr, QUE_CTX9.reg, HBR_STAT.reg]
  omega

/-! ### What a tag leaves alone (R496, R516) -/

theorem sendMessage_frame (v : Nat) (s : State) : (sendMessage v s).regs = s.regs ∧ (sendMessage v s).que = s.que := by
  have hemit : ∀ e, (s.emit e).regs = s.regs ∧ (s.emit e).que = s.que := fun e => by
    rw [State.emit]
    split <;> exact ⟨rfl, rfl⟩
  unfold sendMessage
  dsimp only
  split
  · split
    · exact ⟨rfl, rfl⟩
    · exact hemit _
  · split
    · exact ⟨rfl, rfl⟩
    · exact hemit _

theorem requestMessage_frame (src ix v : Nat) (s : State) :
    (requestMessage src ix v s).regs = s.regs ∧ (requestMessage src ix v s).que = s.que := by
  unfold requestMessage
  split
  · exact sendMessage_frame v s
  · split <;> exact ⟨rfl, rfl⟩

theorem fireQueDone_que (q : Nat) (s : State) : (fireQueDone q s).que = s.que := by
  refine List.foldlRecOn (motive := fun t : State => t.que = s.que) _ _ rfl (fun t ht k _ => ?_)
  split
  · rw [fire_que]
    exact ht
  · exact ht

/-- A field of `QUE_CTX9` beside STATE leaves the state of the queue. -/
theorem queueState_setBeside (s : State) {f : Fld} (v q : Nat) (hadr : QUE_CTX9.STATE.adr q = f.adr q)
    (hlo : f.lo ≤ f.hi) (hhi : f.hi < QUE_CTX9.STATE.lo) : queueState (s.set f v q) q = queueState s q :=
  get_set_beside s f _ v q 0 q 0 hadr hlo (Nat.le_of_lt_succ (hhi.trans (by decide))) (Or.inl hhi)

theorem queueState_queueMessage (q : Nat) (s : State) : queueState (queueMessage q s) q = queueState s q := by
  rw [queueMessage, queueState_setBeside (f := QUE_CTX9.PENDING) _ _ _ rfl (by decide) (by decide), queueState,
    get_congr (requestMessage_frame _ _ _ _).1, queueState]

theorem queueMessage_que (q : Nat) (s : State) : (queueMessage q s).que = s.que :=
  (set_que _ _ _ _ _).trans (requestMessage_frame _ _ _ _).2

/-- The interrupt of a tag changes neither the state of its queue nor what the queues hold. -/
theorem queueInterrupt_frame (q : Nat) (irq : Bool) (s : State) :
    queueState (queueInterrupt q irq s) q = queueState s q ∧ (queueInterrupt q irq s).que = s.que := by
  have hcount : queueState (s.count QUE_CTX9.PENDING q) q = queueState s q :=
    queueState_setBeside s _ q rfl (by decide) (by decide)
  unfold queueInterrupt
  dsimp only
  split
  · split
    · exact ⟨(queueState_queueMessage q _).trans hcount, (queueMessage_que q _).trans (count_que _ _ _ _ _)⟩
    · exact ⟨hcount, rfl⟩
  · exact ⟨rfl, rfl⟩

theorem tagWritten_frame (q : Nat) (bs : List Nat) (s : State) :
    queueState (tagWritten q bs s) q = queueState s q ∧ (tagWritten q bs s).que = s.que := by
  have htags : QUE_CTX9.STATE.adr q ≠ QUE_CTX11.TAGS.adr q := by simp [Fld.adr, QUE_CTX9.STATE, QUE_CTX11.TAGS]
  have hcwi : QUE_CTX9.STATE.adr q ≠ QUE_CTX8.CWI.adr q := by simp [Fld.adr, QUE_CTX9.STATE, QUE_CTX8.CWI]
  constructor
  · rw [queueState, tagWritten, State.wrapAdd, get_set_other _ _ _ _ _ _ _ _ htags,
      get_set_other _ _ _ _ _ _ _ _ hcwi, get_emit, queueState]
  · rw [tagWritten, wrapAdd_que, set_que, emit_memWrite]

/-- A tag changes neither the state of its queue nor what the queues hold. -/
theorem writeTag_frame (q : Nat) (bs : List Nat) (irq : Bool) (s : State) :
    queueState (writeTag q bs irq s) q = queueState s q ∧ (writeTag q bs irq s).que = s.que := by
  obtain ⟨hstate, hque⟩ := queueInterrupt_frame q irq (fireQueDone q (tagWritten q bs s))
  obtain ⟨htagState, htagQue⟩ := tagWritten_frame q bs s
  have hfire : queueState (fireQueDone q (tagWritten q bs s)) q = queueState (tagWritten q bs s) q :=
    get_congr (fireQueDone_frame q _).1 _ _ _
  exact ⟨hstate.trans (hfire.trans htagState), hque.trans ((fireQueDone_que q _).trans htagQue)⟩

/-! ### RESUME (R512, R514, R535) -/

/-- The tag that a queue holds back leaves before anything else (R512). -/
def releaseHeld (q : Nat) (s : State) : State :=
  match (s.queue q).heldTag with
  | some bs => writeTag q bs false ((s.setQueue q { s.queue q with heldTag := none }).set QUE_CTX9.HELD 0 q)
  | none => s

/-- A PAUSED queue as RESUME makes it ACTIVE, its held tag written and the command's result shown. -/
def resumed (q : Nat) (s : State) : State :=
  (releaseHeld q ((clearPaused q s).set QUE_CTX9.STATE 1 q)).set QUE_QCMDSTAT.RESULT 0

theorem queueResume_master {s : State} {q : Nat} (hpaused : queueState s q = 2) (hmaster : canMaster s = true) :
    queueResume q s = promote q (resumed q s) := by
  have hgo : ¬ (queueState s q != 2) = true := by simp [hpaused]
  have hmay : ¬ ((s.get QUE_CTX9.REASON q == 2 || s.get QUE_CTX9.REASON q == 6) && !canMaster s) = true := by
    simp [hmaster]
  exact (if_neg hgo).trans (if_neg hmay)

theorem queue_setQueue_same (s : State) (q : Nat) (u : QueueSt) : (s.setQueue q u).queue q = u := tget_tput_same _ _ _ _

theorem queueState_releaseHeld (q : Nat) (s : State) : queueState (releaseHeld q s) q = queueState s q := by
  unfold releaseHeld
  cases (s.queue q).heldTag with
  | none => rfl
  | some bs => exact (writeTag_frame q bs false _).1.trans (queueState_setBeside _ 0 q rfl (by decide) (by decide))

theorem heldTag_releaseHeld (q : Nat) (s : State) : ((releaseHeld q s).queue q).heldTag = none := by
  unfold releaseHeld
  cases hheld : (s.queue q).heldTag with
  | none => exact hheld
  | some bs =>
    have hque := (writeTag_frame q bs false ((s.setQueue q { s.queue q with heldTag := none }).set QUE_CTX9.HELD 0 q)).2
    dsimp only
    rw [State.queue, hque, set_que, ← State.queue, queue_setQueue_same]

/-- The state word of a queue stands apart from the result of a queue command. -/
theorem queueState_setResult (s : State) (v q : Nat) : queueState (s.set QUE_QCMDSTAT.RESULT v) q = queueState s q := by
  refine get_set_other _ _ _ _ _ _ _ _ ?_
  simp only [Fld.adr, QUE_CTX9.STATE, QUE_QCMDSTAT.RESULT]
  omega

theorem get_result_setResult (s : State) (v : Nat) :
    (s.set QUE_QCMDSTAT.RESULT v).get QUE_QCMDSTAT.RESULT = v % 16 := get_set_same _ _ _ _ _ (by decide) (by decide)

theorem queueState_resumed (q : Nat) (s : State) : queueState (resumed q s) q = 1 := by
  rw [resumed, queueState_setResult, queueState_releaseHeld]
  exact get_set_same _ _ _ _ _ (by decide) (by decide)

theorem get_result_refuseQcmd (q op r : Nat) (s : State) :
    (refuseQcmd q op r s).get QUE_QCMDSTAT.RESULT = r % 16 := by
  rw [refuseQcmd, get_log_other _ _ _ _ _ _ (by decide), get_result_setResult]

theorem queueState_refuseQcmd {q : Nat} (op r : Nat) (s : State) (hq : q < 16384) :
    queueState (refuseQcmd q op r s) q = queueState s q := by
  have hlow : QUE_CTX9.STATE.adr q < 0xF00000 := by
    simp only [Fld.adr, QUE_CTX9.STATE]
    omega
  rw [refuseQcmd, queueState, get_log_other _ _ _ _ _ _ hlow, ← queueState, queueState_setResult]

/-- Settles O55: Bus Master Enable writes `HBR_STAT` only; RESUME is refused by `queueResume_halted`, and in MASTER leaves
`resumed`. -/
theorem queuesStayPausedWithoutTheMaster : Obligations.QueuesStayPausedWithoutTheMaster := by
  refine ⟨?bme, ?refused, ?accepted⟩
  case bme =>
    intro s
    refine ⟨_, rfl, bmeSet_que s, fun q _ => ?_⟩
    have hword := rdA_bmeSet_other s (ctx9_ne_hbrStat q)
    exact ⟨get_of_rdA hword, get_of_rdA hword⟩
  case refused =>
    intro s q hs hfree hpaused hreason hslave
    have hexec : exec (.queueResume q) s = .next (refuseQcmd q.val 3 3 s) := by
      rw [execQueueResume_eq q hs, if_neg (Bool.eq_false_iff.1 hfree), queueResume_halted hpaused hreason hslave]
    exact ⟨_, hexec, (queueState_refuseQcmd 3 3 s q.isLt).trans hpaused, get_result_refuseQcmd q.val 3 3 s, rfl⟩
  case accepted =>
    intro s q hs hfree hpaused _ hmaster
    refine ⟨resumed q.val s, queueState_resumed q.val s, get_result_setResult _ 0, heldTag_releaseHeld q.val _, ?_⟩
    rw [execQueueResume_eq q hs, if_neg (Bool.eq_false_iff.1 hfree), queueResume_master hpaused hmaster]

end Sys2Proof.Machine
end

section
/-! The first record of severity error or fatal (R721-R725). -/

namespace Sys2Proof.Machine

/-! ### The words of the error log -/

/-- The filter, `ERR_FIRSTV` and `ERR_FIRST`: of a logged error only the first of severity error or fatal may write them. -/
def steadyWord (a : Nat) : Prop := a = 0xF00100 ∨ a = 0xF00118 ∨ (0xF00200 ≤ a ∧ a < 0xF00220)

/-- The eight words of record `n` of the error log. -/
def slotWord (n a : Nat) : Prop := 0xF01000 + 32 * n ≤ a ∧ a < 0xF01000 + 32 * n + 32

/-- The steady words and the words of the records. -/
def recordWord (a : Nat) : Prop := steadyWord a ∨ ∃ n, slotWord n a

theorem steadyWord_firstv : steadyWord ERR_FIRSTV.VALID.adr := Or.inr (Or.inl rfl)

theorem steadyWord_first {k : Nat} (hk : k < 8) : steadyWord (0xF00200 + 4 * k) := Or.inr (Or.inr (by omega))

theorem recordWord_ne_counters {a : Nat} (h : recordWord a) :
    a ≠ ERR_WCNT.COUNT.adr ∧ a ≠ ERR_LOST.COUNT.adr ∧ a ≠ ERR_FILT.COUNT.adr ∧ a ≠ ERR_DROP.COUNT.adr := by
  simp only [recordWord, steadyWord, slotWord] at h
  simp only [Fld.adr, ERR_WCNT.COUNT, ERR_LOST.COUNT, ERR_FILT.COUNT, ERR_DROP.COUNT]
  obtain h | ⟨n, h⟩ := h <;> omega

theorem steadyWord_ne_unitCount {a : Nat} (h : steadyWord a) (u : Nat) : a ≠ ERR_UNITCNT.COUNT.adr u := by
  simp only [steadyWord] at h
  simp only [Fld.adr, ERR_UNITCNT.COUNT]
  omega

theorem steadyWord_not_slotWord {a : Nat} (h : steadyWord a) (n : Nat) : ¬ slotWord n a := by
  simp only [steadyWord] at h
  simp only [slotWord]
  omega

/-! ### One record (R721, R725) -/

/-- The record of `code` in its slot, before `ERR_FIRST` may take it. -/
def recorded (s : State) (code : Nat) (ds : List Nat) : State :=
  let seq := s.get ERR_WCNT.COUNT
  let t := (s.wrWords (0xF01000 + 32 * (seq % 256)) (errWords s code seq ds)).set ERR_WCNT.COUNT (seq + 1)
  { t with err := { t.err with held := min 256 (t.err.held + 1) } }

theorem storeRec_eq (s : State) (code : Nat) (ds : List Nat) :
    storeRec s code ds = if 2 ≤ sevOf code && !(recorded s code ds).flag ERR_FIRSTV.VALID then
      ((recorded s code ds).wrWords 0xF00200 (errWords s code (s.get ERR_WCNT.COUNT) ds)).set ERR_FIRSTV.VALID 1
    else recorded s code ds := rfl

theorem rdA_recorded_other {s : State} (code : Nat) (ds : List Nat) {a : Nat} (hcnt : a ≠ ERR_WCNT.COUNT.adr)
    (hslot : ¬ slotWord (s.get ERR_WCNT.COUNT % 256) a) : (recorded s code ds).rdA a = s.rdA a := by
  rw [recorded, rdA_withErr, rdA_set_other _ _ _ _ _ _ hcnt]
  by_cases hbelow : a < 0xF01000 + 32 * (s.get ERR_WCNT.COUNT % 256)
  · exact rdA_wrWords_below _ _ _ _ hbelow
  · refine rdA_wrWords_above _ _ _ _ ?_
    rw [errWords_length]
    simp only [slotWord] at hslot
    omega

theorem rdA_recorded_slot (s : State) (code : Nat) (ds : List Nat) {k : Nat} (hk : k < 8) :
    (recorded s code ds).rdA (0xF01000 + 32 * (s.get ERR_WCNT.COUNT % 256) + 4 * k) =
      (errWords s code (s.get ERR_WCNT.COUNT) ds).getD k 0 % 2 ^ 32 := by
  have hcnt : 0xF01000 + 32 * (s.get ERR_WCNT.COUNT % 256) + 4 * k ≠ ERR_WCNT.COUNT.adr := by
    simp only [Fld.adr, ERR_WCNT.COUNT]
    omega
  rw [recorded, rdA_withErr, rdA_set_other _ _ _ _ _ _ hcnt, rdA_wrWords_at _ _ _ _ hk]

theorem get_wcnt_recorded (s : State) (code : Nat) (ds : List Nat) :
    (recorded s code ds).get ERR_WCNT.COUNT = (s.get ERR_WCNT.COUNT + 1) % 2 ^ 32 := by
  rw [State.get, recorded, rdA_withErr, ← State.get, get_set_same _ _ _ _ _ (by decide) (by decide)]
  rfl

theorem flag_firstv_recorded (s : State) (code : Nat) (ds : List Nat) :
    (recorded s code ds).flag ERR_FIRSTV.VALID = s.flag ERR_FIRSTV.VALID := by
  have hslot := steadyWord_not_slotWord steadyWord_firstv (s.get ERR_WCNT.COUNT % 256)
  rw [State.flag, State.flag, get_of_rdA (rdA_recorded_other code ds (by decide) hslot)]

/-- A record below severity error, and any record once ERR_FIRSTV is set, goes to its slot only. -/
theorem rdA_storeRec_kept {s : State} {code : Nat} (ds : List Nat) {a : Nat} (hword : recordWord a)
    (hslot : ¬ slotWord (s.get ERR_WCNT.COUNT % 256) a) (hlater : sevOf code < 2 ∨ s.flag ERR_FIRSTV.VALID = true) :
    (storeRec s code ds).rdA a = s.rdA a := by
  have hskip : ¬ (2 ≤ sevOf code && !(recorded s code ds).flag ERR_FIRSTV.VALID) = true := by
    rw [flag_firstv_recorded]
    rcases hlater with h | h
    · simp [Nat.not_le.mpr h]
    · simp [h]
  rw [storeRec_eq, if_neg hskip, rdA_recorded_other code ds (recordWord_ne_counters hword).1 hslot]

/-! ### One raised error (R721-R725) -/

/-- The unit's count and the two producers of a raised error (R721, R724). -/
def noted (s : State) (code : Nat) : State :=
  ((s.count ERR_UNITCNT.COUNT (code / 256 - 1)).fire 0x3E0).fire (0x3E0 + code / 256)

theorem takeError_eq (s : State) (code : Nat) (ds : List Nat) (full : Bool) :
    takeError s code ds full =
      if sevOf code < (noted s code).get ERR_CTL.MINSEV then (noted s code).count ERR_FILT.COUNT
      else if full then { (noted s code).count ERR_DROP.COUNT with
        err := { (noted s code).err with dropRun := (noted s code).err.dropRun + 1 } }
      else storeRec (noted s code) code ds := rfl

theorem rdA_noted {s : State} {code a : Nat} (h : a ≠ ERR_UNITCNT.COUNT.adr (code / 256 - 1)) :
    (noted s code).rdA a = s.rdA a := by
  rw [noted, rdA_fire, rdA_fire, rdA_count_other _ _ _ _ _ _ h]

theorem get_noted (s : State) (code : Nat) {f : Fld} (h : f.adr < 0xF00404) : (noted s code).get f = s.get f := by
  refine get_of_rdA (rdA_noted ?_)
  simp only [Fld.adr, ERR_UNITCNT.COUNT] at h ⊢
  omega

/-- An error that the filter passes is stored (R721). -/
theorem takeError_stores {s : State} {code : Nat} (ds : List Nat) (hpass : s.get ERR_CTL.MINSEV ≤ sevOf code) :
    takeError s code ds false = storeRec (noted s code) code ds := by
  rw [takeError_eq, get_noted s code (by decide), if_neg (Nat.not_lt.mpr hpass)]
  rfl

theorem rdA_takeError_kept {s : State} {code : Nat} (ds : List Nat) (full : Bool) {a : Nat} (hword : recordWord a)
    (hunit : a ≠ ERR_UNITCNT.COUNT.adr (code / 256 - 1)) (hslot : ¬ slotWord (s.get ERR_WCNT.COUNT % 256) a)
    (hlater : sevOf code < 2 ∨ s.flag ERR_FIRSTV.VALID = true) : (takeError s code ds full).rdA a = s.rdA a := by
  obtain ⟨-, -, hfilt, hdrop⟩ := recordWord_ne_counters hword
  rw [takeError_eq]
  split
  · rw [rdA_count_other _ _ _ _ _ _ hfilt, rdA_noted hunit]
  · split
    · rw [rdA_withErr, rdA_count_other _ _ _ _ _ _ hdrop, rdA_noted hunit]
    · rw [rdA_storeRec_kept ds hword (by rwa [get_noted _ _ (by decide)])
        (by rwa [State.flag, get_noted _ _ (by decide)]), rdA_noted hunit]

/-- The record 0x1201 of an overwrite run leaves alone what stands outside its own slot (R722). -/
theorem rdA_overwriteRecord_kept {s : State} (ds : List Nat) {a : Nat} (hword : recordWord a)
    (hslot : ¬ slotWord (s.get ERR_WCNT.COUNT % 256) a) : (takeError s 0x1201 ds false).rdA a = s.rdA a := by
  refine rdA_takeError_kept ds false hword ?_ hslot (Or.inl (by decide))
  simp only [recordWord, steadyWord, slotWord] at hword
  simp only [Fld.adr, ERR_UNITCNT.COUNT]
  obtain h | ⟨n, h⟩ := hword <;> omega

/-- What an overwrite adds to the error already taken in `t`: the count, and the record of the run's first one (R722). -/
def overwritten (lost : Nat) (t : State) : State :=
  let u := t.count ERR_LOST.COUNT
  if tget false u.runs 0x12010000 then u
  else
    let v : State := { u with runs := tput false u.runs 0x12010000 true }
    let w := takeError v 0x1201 [lost] false
    if overwritesUnread v && !(1 < v.get ERR_CTL.MINSEV) then w.count ERR_LOST.COUNT else w

theorem logOne_eq (s : State) (code : Nat) (ds : List Nat) :
    logOne s code ds = if overwritesUnread s && !(sevOf code < s.get ERR_CTL.MINSEV) then
        overwritten ((2 ^ 32 - 256 + s.get ERR_WCNT.COUNT) % 2 ^ 32) (takeError s code ds false)
      else takeError s code ds false := rfl

theorem get_wcnt_countLost (t : State) : (t.count ERR_LOST.COUNT).get ERR_WCNT.COUNT = t.get ERR_WCNT.COUNT :=
  get_set_other _ _ _ _ _ _ _ _ (by decide)

theorem rdA_overwritten_kept {t : State} (lost : Nat) {a : Nat} (hword : recordWord a)
    (hslot : ¬ slotWord (t.get ERR_WCNT.COUNT % 256) a) : (overwritten lost t).rdA a = t.rdA a := by
  obtain ⟨-, hlost, -, -⟩ := recordWord_ne_counters hword
  have hcount : ∀ u : State, (u.count ERR_LOST.COUNT).rdA a = u.rdA a := fun u => rdA_count_other _ _ _ _ _ _ hlost
  have htake : ∀ n : List (Nat × Bool), (takeError { t.count ERR_LOST.COUNT with runs := n } 0x1201 [lost] false).rdA a =
      t.rdA a := fun n => by
    have hwcnt : State.get { t.count ERR_LOST.COUNT with runs := n } ERR_WCNT.COUNT = t.get ERR_WCNT.COUNT :=
      (get_congr rfl _ _ _).trans (get_wcnt_countLost t)
    rw [rdA_overwriteRecord_kept _ hword (by rwa [hwcnt]), rdA_withRuns, hcount]
  unfold overwritten
  dsimp only
  split
  · exact hcount t
  · split
    · rw [hcount, htake]
    · exact htake _

/-- Logging leaves the filter, `ERR_FIRSTV` and `ERR_FIRST` alone unless the record is the first of its severity. -/
theorem rdA_logOne_kept {s : State} {code : Nat} (ds : List Nat) {a : Nat} (hsteady : steadyWord a)
    (hlater : sevOf code < 2 ∨ s.flag ERR_FIRSTV.VALID = true) : (logOne s code ds).rdA a = s.rdA a := by
  have htake : (takeError s code ds false).rdA a = s.rdA a :=
    rdA_takeError_kept ds false (Or.inl hsteady) (steadyWord_ne_unitCount hsteady _) (steadyWord_not_slotWord hsteady _)
      hlater
  rw [logOne_eq]
  split
  · rw [rdA_overwritten_kept _ (Or.inl hsteady) (steadyWord_not_slotWord hsteady _), htake]
  · exact htake

/-- The state in which an error is logged once space has returned: the run of drops has its record 0x1202 (R723). -/
def dropsLogged (s : State) : State :=
  if s.err.dropRun == 0 then s
  else logOne { s with err := { s.err with dropRun := 0 } } 0x1202 [s.err.dropRun]

theorem log_eq (s : State) (code : Nat) (ds : List Nat) : s.log code ds = logOne (dropsLogged s) code ds := by
  unfold State.log dropsLogged
  split <;> rfl

theorem rdA_dropsLogged (s : State) {a : Nat} (hsteady : steadyWord a) : (dropsLogged s).rdA a = s.rdA a := by
  unfold dropsLogged
  split
  · rfl
  · rw [rdA_logOne_kept _ hsteady (Or.inl (by decide)), rdA_withErr]

theorem flag_firstv_dropsLogged (s : State) : (dropsLogged s).flag ERR_FIRSTV.VALID = s.flag ERR_FIRSTV.VALID := by
  rw [State.flag, State.flag, get_of_rdA (rdA_dropsLogged s steadyWord_firstv)]

/-- Once ERR_FIRSTV is set, logging leaves it and `ERR_FIRST` alone. -/
theorem rdA_log_kept {s : State} (code : Nat) (ds : List Nat) {a : Nat} (hsteady : steadyWord a)
    (hvalid : s.flag ERR_FIRSTV.VALID = true) : (s.log code ds).rdA a = s.rdA a := by
  rw [log_eq, rdA_logOne_kept ds hsteady (Or.inr ((flag_firstv_dropsLogged s).trans hvalid)), rdA_dropsLogged s hsteady]

/-- What leaves the steady words alone keeps a set ERR_FIRSTV and the words of `ERR_FIRST`. -/
theorem first_kept {s t : State} (hvalid : s.flag ERR_FIRSTV.VALID = true)
    (h : ∀ a, steadyWord a → t.rdA a = s.rdA a) :
    t.flag ERR_FIRSTV.VALID = true ∧ ∀ k < 8, t.rdA (0xF00200 + 4 * k) = s.rdA (0xF00200 + 4 * k) := by
  refine ⟨?_, fun k hk => h _ (steadyWord_first hk)⟩
  rw [← hvalid, State.flag, State.flag, get_of_rdA (h _ steadyWord_firstv)]

/-! ### The first record (R725) -/

/-- `ERR_FIRST` holds record `n` of the error log, which is that of `code` with the detail words `ds`. -/
structure FirstStands (code : Nat) (ds : List Nat) (n : Nat) (t : State) : Prop where
  valid : t.flag ERR_FIRSTV.VALID = true
  copied : ∀ k < 8, t.rdA (0xF00200 + 4 * k) = t.rdA (0xF01000 + 32 * n + 4 * k)
  named : t.rdA 0xF00208 % 2 ^ 16 = code
  details : ∀ k < 4, t.rdA (0xF00210 + 4 * k) = ds.getD k 0 % 2 ^ 32

/-- What leaves the steady words and the record alone leaves `ERR_FIRST` as it stands. -/
theorem FirstStands.congr {code n : Nat} {ds : List Nat} {s t : State} (h : FirstStands code ds n s)
    (hsteady : ∀ a, steadyWord a → t.rdA a = s.rdA a) (hslot : ∀ a, slotWord n a → t.rdA a = s.rdA a) :
    FirstStands code ds n t := by
  obtain ⟨hvalid, hfirst⟩ := first_kept h.valid hsteady
  refine ⟨hvalid, fun k hk => ?_, ?_, fun k hk => ?_⟩
  · have hrec : slotWord n (0xF01000 + 32 * n + 4 * k) := by
      simp only [slotWord]
      omega
    rw [hfirst k hk, hslot _ hrec, h.copied k hk]
  · rw [hsteady _ (steadyWord_first (k := 2) (by decide)), h.named]
  · have hword : steadyWord (0xF00210 + 4 * k) := Or.inr (Or.inr (by omega))
    rw [hsteady _ hword, h.details k hk]

/-- The codes of severity error and fatal have 16 bits (R730). -/
theorem lt_of_two_le_sevOf {code : Nat} (h : 2 ≤ sevOf code) : code < 2 ^ 16 := by
  have herror : ∀ c ∈ errorCodes, c < 2 ^ 16 := by decide
  have hfatal : ∀ c ∈ fatalCodes, c < 2 ^ 16 := by decide
  unfold sevOf at h
  split at h
  · omega
  · split at h
    · exact herror code (List.contains_iff_mem.1 ‹_›)
    · split at h
      · exact hfatal code (List.contains_iff_mem.1 ‹_›)
      · omega

/-- The third word of a record holds its code, the last four its details (R718). -/
theorem errWords_code (s : State) {code : Nat} (seq : Nat) (ds : List Nat) (h : code < 2 ^ 16) :
    (errWords s code seq ds).getD 2 0 % 2 ^ 32 % 2 ^ 16 = code := by
  have hword : (errWords s code seq ds).getD 2 0 =
      code + code / 256 * 2 ^ 16 + (sevOf code + b2n s.unsync * 128) * 2 ^ 24 := by
    rw [errWords, List.getD_cons_succ, List.getD_cons_succ, List.getD_cons_zero]
  rw [hword]
  omega

theorem errWords_detail (s : State) (code seq : Nat) (ds : List Nat) {k : Nat} (hk : k < 4) :
    (errWords s code seq ds).getD (4 + k) 0 = ds.getD k 0 := by
  have hcases : k = 0 ∨ k = 1 ∨ k = 2 ∨ k = 3 := by omega
  rcases hcases with rfl | rfl | rfl | rfl <;> rfl

section
variable {s : State} {code : Nat} (ds : List Nat) (hsev : 2 ≤ sevOf code) (hclear : s.flag ERR_FIRSTV.VALID = false)
include hsev hclear

theorem storeRec_first : storeRec s code ds =
    ((recorded s code ds).wrWords 0xF00200 (errWords s code (s.get ERR_WCNT.COUNT) ds)).set ERR_FIRSTV.VALID 1 := by
  rw [storeRec_eq, flag_firstv_recorded, hclear]
  exact if_pos (by simp [hsev])

theorem rdA_storeRec_first {k : Nat} (hk : k < 8) :
    (storeRec s code ds).rdA (0xF00200 + 4 * k) = (errWords s code (s.get ERR_WCNT.COUNT) ds).getD k 0 % 2 ^ 32 := by
  have hvalid : 0xF00200 + 4 * k ≠ ERR_FIRSTV.VALID.adr := by
    simp only [Fld.adr, ERR_FIRSTV.VALID]
    omega
  rw [storeRec_first ds hsev hclear, rdA_set_other _ _ _ _ _ _ hvalid, rdA_wrWords_at _ _ _ _ hk]

theorem rdA_storeRec_slot {k : Nat} (hk : k < 8) :
    (storeRec s code ds).rdA (0xF01000 + 32 * (s.get ERR_WCNT.COUNT % 256) + 4 * k) =
      (errWords s code (s.get ERR_WCNT.COUNT) ds).getD k 0 % 2 ^ 32 := by
  have hvalid : 0xF01000 + 32 * (s.get ERR_WCNT.COUNT % 256) + 4 * k ≠ ERR_FIRSTV.VALID.adr := by
    simp only [Fld.adr, ERR_FIRSTV.VALID]
    omega
  rw [storeRec_first ds hsev hclear, rdA_set_other _ _ _ _ _ _ hvalid,
    rdA_wrWords_above _ _ _ _ (by rw [errWords_length]; omega), rdA_recorded_slot s code ds hk]

theorem get_wcnt_storeRec :
    (storeRec s code ds).get ERR_WCNT.COUNT = (s.get ERR_WCNT.COUNT + 1) % 2 ^ 32 := by
  rw [storeRec_first ds hsev hclear, get_set_other _ _ _ _ _ _ _ _ (by decide),
    get_of_rdA (rdA_wrWords_below _ _ _ _ (by decide)), get_wcnt_recorded]

/-- The first record of severity error or fatal is copied as it is stored. -/
theorem firstStands_storeRec : FirstStands code ds (s.get ERR_WCNT.COUNT % 256) (storeRec s code ds) := by
  refine ⟨?_, fun k hk => ?_, ?_, fun k hk => ?_⟩
  · rw [storeRec_first ds hsev hclear, State.flag, get_set_same _ _ _ _ _ (by decide) (by decide)]
    rfl
  · rw [rdA_storeRec_first ds hsev hclear hk, rdA_storeRec_slot ds hsev hclear hk]
  · rw [rdA_storeRec_first ds hsev hclear (k := 2) (by decide), errWords_code s _ ds (lt_of_two_le_sevOf hsev)]
  · have hword := rdA_storeRec_first ds hsev hclear (k := 4 + k) (by omega)
    rw [show 0xF00210 + 4 * k = 0xF00200 + 4 * (4 + k) by omega, hword, errWords_detail s code _ ds hk]

/-- The record that an overwrite adds goes to the slot behind. -/
theorem firstStands_logOne (hpass : s.get ERR_CTL.MINSEV ≤ sevOf code) :
    FirstStands code ds (s.get ERR_WCNT.COUNT % 256) (logOne s code ds) := by
  have hvalid : (noted s code).flag ERR_FIRSTV.VALID = false := by
    rw [State.flag, get_noted s code (by decide), ← State.flag, hclear]
  have hseq : (noted s code).get ERR_WCNT.COUNT = s.get ERR_WCNT.COUNT := get_noted s code (by decide)
  have hstored := firstStands_storeRec ds hsev hvalid
  have hnext := get_wcnt_storeRec ds hsev hvalid
  rw [hseq] at hstored hnext
  have htake := takeError_stores ds hpass
  rw [logOne_eq, htake]
  split
  · refine hstored.congr (fun a ha => rdA_overwritten_kept _ (Or.inl ha) (steadyWord_not_slotWord ha _))
      (fun a ha => rdA_overwritten_kept _ (Or.inr ⟨_, ha⟩) ?_)
    rw [hnext]
    simp only [slotWord] at ha ⊢
    omega
  · exact hstored

end

theorem firstStands_log {s : State} {code : Nat} (ds : List Nat) (hsev : 2 ≤ sevOf code)
    (hpass : s.get ERR_CTL.MINSEV ≤ sevOf code) (hclear : s.flag ERR_FIRSTV.VALID = false) :
    ∃ n < 256, FirstStands code ds n (s.log code ds) := by
  have hfilter : (dropsLogged s).get ERR_CTL.MINSEV = s.get ERR_CTL.MINSEV :=
    get_of_rdA (rdA_dropsLogged s (Or.inl rfl))
  refine ⟨(dropsLogged s).get ERR_WCNT.COUNT % 256, Nat.mod_lt _ (by decide), ?_⟩
  rw [log_eq]
  exact firstStands_logOne ds hsev ((flag_firstv_dropsLogged s).trans hclear) (by rwa [hfilter])

/-- A unit's error, logged or dropped, leaves a first record alone. -/
theorem rdA_raiseError_kept {s : State} (code : Nat) (ds : List Nat) (full : Bool) {a : Nat} (hsteady : steadyWord a)
    (hvalid : s.flag ERR_FIRSTV.VALID = true) : (raiseError code ds full s).rdA a = s.rdA a := by
  cases hlisted : catalogued s.fuses.variant code with
  | false => rw [raiseError_unlisted ds full hlisted]
  | true =>
    cases full with
    | false => rw [raiseError_space ds hlisted, rdA_log_kept code ds hsteady hvalid]
    | true =>
      rw [raiseError_full ds hlisted]
      exact rdA_takeError_kept ds true (Or.inl hsteady) (steadyWord_ne_unitCount hsteady _)
        (steadyWord_not_slotWord hsteady _) (Or.inr hvalid)

/-- Settles O53: the first record by `firstStands_log`; once it stands, no error writes a steady word. -/
theorem firstErrorIsKept : Obligations.FirstErrorIsKept := by
  refine ⟨?first, ?raised, ?logKeeps, ?raiseKeeps⟩
  case first =>
    intro s code ds _ hsev hpass hclear
    obtain ⟨n, hn, hstands⟩ := firstStands_log ds hsev hpass hclear
    exact ⟨hstands.valid, ⟨n, hn, hstands.copied⟩, hstands.named, hstands.details⟩
  case raised =>
    intro s c d0 d1 d2 d3 h
    exact congrArg Host.Outcome.next (raiseError_space _ h)
  case logKeeps =>
    intro s code ds _ hvalid
    exact first_kept hvalid fun a ha => rdA_log_kept code ds ha hvalid
  case raiseKeeps =>
    intro s c d0 d1 d2 d3 full hvalid
    exact ⟨_, rfl, first_kept hvalid fun a ha => rdA_raiseError_kept _ _ full ha hvalid⟩

end Sys2Proof.Machine
end
